-- ==== Sys2Proof/Word.lean ====
section
/-! DEFINITION. The words of the MK1: the units of data of R11 and the fields whose width the manual fixes. -/

namespace Sys2Proof

/-- One byte. -/
abbrev Byte := BitVec 8

/-- One 32-bit register word (R494). -/
abbrev W32 := BitVec 32

/-- One 64-bit word. -/
abbrev W64 := BitVec 64

/-- One line of 128 B, bit 0 the least significant bit of its first byte (R3, R11). -/
abbrev Line := BitVec 1024

/-- The 64-bit line tag. -/
abbrev Tag := BitVec 64

/-- One 16-byte accession-log entry. -/
abbrev Entry := BitVec 128

end Sys2Proof
end

