-- ==== Sys2Proof/Machine/Tab.lean ====
section
/-! DEFINITION. Sparse tables as plain data: a list of (key, value) pairs with strictly rising keys and no entry
equal to what an unlisted key reads as. Every sparse store of the MK1 (register files, object, grant, window and
shelf tables, the reading-room directory, DRAM lines, flash) is one of these. -/

namespace Sys2Proof.Machine

variable {α : Type}

/-- A sparse table. -/
abbrev Tab (α : Type) := List (Nat × α)

/-- The value at a key; `d` says what an unlisted key reads as. -/
def Tab.get (d : Nat → α) : Tab α → Nat → α
  | [], k => d k
  | (j, v) :: t, k => if j = k then v else Tab.get d t k

/-- Puts a value at a key, keeping the keys strictly rising. -/
def Tab.put : Tab α → Nat → α → Tab α
  | [], k, v => [(k, v)]
  | (j, w) :: t, k, v =>
    if k < j then (k, v) :: (j, w) :: t
    else if k = j then (k, v) :: t
    else (j, w) :: Tab.put t k v

/-- Removes a key. -/
def Tab.del : Tab α → Nat → Tab α
  | [], _ => []
  | (j, w) :: t, k => if j = k then t else (j, w) :: Tab.del t k

/-- Writes a value: the one write of every sparse table, which keeps the canonical form. -/
def Tab.set [DecidableEq α] (d : Nat → α) (t : Tab α) (k : Nat) (v : α) : Tab α :=
  if v = d k then Tab.del t k else Tab.put t k v

/-- Every key of the table is above `b`, or there is no bound. -/
def Tab.above (b : Option Nat) : Tab α → Bool
  | [] => true
  | (k, _) :: _ => match b with
    | none => true
    | some j => decide (j < k)

/-- The canonical form. -/
def Tab.wf [DecidableEq α] (d : Nat → α) : Tab α → Bool
  | [] => true
  | (k, v) :: t => Tab.above (some k) t && decide (v ≠ d k) && Tab.wf d t

/-- The keys listed. -/
def Tab.keys (t : Tab α) : List Nat := t.map Prod.fst

/-- Changes every value listed. -/
def Tab.update [DecidableEq α] (d : Nat → α) (f : α → α) (t : Tab α) : Tab α :=
  t.foldl (fun a e => Tab.set d a e.1 (f (Tab.get d a e.1))) t

/-- Removes every key of which `p` holds. -/
def Tab.drop (p : Nat → Bool) (t : Tab α) : Tab α := t.filter (fun e => !p e.1)

end Sys2Proof.Machine
end

