-- ==== Sys2Proof/Machine/Bits.lean ====
section
/-! DEFINITION. Bit fields, byte order and the checks of the MK1's own formats (R3): little-endian bytes, CRCs computed
bit by bit, saturating counts. -/

namespace Sys2Proof.Machine

/-- The bits [hi:lo] of a number. -/
def bitsOf (w hi lo : Nat) : Nat := (w >>> lo) % 2 ^ (hi + 1 - lo)

/-- Bit `n` of a number. -/
def bitOf (w n : Nat) : Bool := decide ((w >>> n) % 2 = 1)

/-- The number with the bits [hi:lo] replaced by `v`. -/
def setBits (w hi lo v : Nat) : Nat :=
  w - (bitsOf w hi lo <<< lo) + ((v % 2 ^ (hi + 1 - lo)) <<< lo)

/-- A flag as a bit. -/
def b2n (b : Bool) : Nat := if b then 1 else 0

/-- A number with the fields given: value and lowest bit. -/
def packed (l : List (Nat × Nat)) : Nat := l.foldl (fun a e => a + e.1 * 2 ^ e.2) 0

/-- Bits as a number, lowest first. -/
def flags (l : List Bool) : Nat := packed ((l.map b2n).zipIdx)

/-- `n` bytes of a number, little-endian (R3). -/
def leBytes : Nat → Nat → List Byte
  | 0, _ => []
  | n + 1, v => BitVec.ofNat 8 v :: leBytes n (v / 256)

/-- The number that little-endian bytes spell (R3). -/
def leNat : List Byte → Nat
  | [] => 0
  | b :: t => b.toNat + 256 * leNat t

/-- The number in bytes [a, a + n) of a value. -/
def numAt (l : List Byte) (a n : Nat) : Nat := leNat ((l.drop a).take n)

/-- The number that big-endian bytes spell. -/
def beNat (l : List Byte) : Nat := leNat l.reverse

/-- One step of a CRC of width `w`, most significant bit first. -/
def crcBit {w : Nat} (poly : BitVec w) (crc : BitVec w) (b : Bool) : BitVec w :=
  let top := crc.msb ^^ b
  let sh := crc <<< 1
  if top then sh ^^^ poly else sh

/-- A CRC, most significant bit of each byte first, without reflection. -/
def crcByte {w : Nat} (poly crc : BitVec w) (b : Byte) : BitVec w :=
  [7, 6, 5, 4, 3, 2, 1, 0].foldl (fun c i => crcBit poly c (b.getLsbD i)) crc

/-- A CRC over bytes in order. -/
def crcBytes {w : Nat} (poly init : BitVec w) (l : List Byte) : BitVec w :=
  l.foldl (crcByte poly) init

/-- One step of a reflected CRC: least significant bit first, the register shifting right. -/
def crcBitR {w : Nat} (rpoly crc : BitVec w) (b : Bool) : BitVec w :=
  let low := crc.getLsbD 0 ^^ b
  let sh := crc >>> 1
  if low then sh ^^^ rpoly else sh

/-- A reflected CRC over bytes in order, least significant bit of each byte first. -/
def crcBytesR {w : Nat} (rpoly init : BitVec w) (l : List Byte) : BitVec w :=
  l.foldl (fun c b => [0, 1, 2, 3, 4, 5, 6, 7].foldl (fun c i => crcBitR rpoly c (b.getLsbD i)) c) init

/-- CRC-64 of R216 (ECMA-182), without its final XOR. -/
def crc64 (init : BitVec 64) (l : List Byte) : BitVec 64 := crcBytes 0x42F0E1EBA9EA3693#64 init l

/-- A CRC-64 with its final XOR (R216). -/
def digestOut (d : BitVec 64) : BitVec 64 := ~~~d

/-- The CRC-64 register at its initial value, all ones (R216, R328). -/
def digestInit : BitVec 64 := BitVec.allOnes 64

/-- Adds 1 and stops at `m` (R7). -/
def satInc (m n : Nat) : Nat := if n < m then n + 1 else m

/-- Adds `k` and stops at `m`. -/
def satAdd (m n k : Nat) : Nat := min m (n + k)

/-- Rounds a quotient up. -/
def ceilDiv (a b : Nat) : Nat := (a + b - 1) / b

/-- Replaces the element at an index of a list. -/
def setAt {α : Type} : List α → Nat → α → List α
  | [], _, _ => []
  | _ :: t, 0, v => v :: t
  | x :: t, n + 1, v => x :: setAt t n v

end Sys2Proof.Machine
end

