-- ==== Sys2Proof/Machine/Types.lean ====
section
/-! DEFINITION. The records of the data path: tenants, objects, maps, windows, shelves, requests that wait, epoch
streams, folios, eviction copies, and the frames of the mirror stream. Each field names the rule it comes from and,
in brackets, its value at reset. -/

namespace Sys2Proof.Machine

/-- What a write does to its line (R54, R242, R243). -/
inductive WOp where
  /-- a full-line store -/
  | full (data : Line)
  /-- a byte-masked store: bit i of the mask selects line byte i -/
  | masked (mask : BitVec 128) (data : Line)
  /-- an atomic at byte `off` of the line: AOP of R243 and its two operand slots -/
  | atomic (aop off : Nat) (a b : BitVec 128)
  /-- a zero-folio of the 32 lines -/
  | zero
deriving DecidableEq, Repr

/-- Where the answer of a request goes. -/
inductive Src where
  /-- nobody waits -/
  | nobody
  /-- a Tvedfy link (port * 2 + half), the request's TAG with the link's life above its 12 bits, and the desk buffer -/
  | tv (lk tag buf : Nat)
  /-- a RoCE queue pair and the PSN of the packet -/
  | roce (qp psn : Nat)
  /-- a registrar mailbox slot -/
  | svc (slot : Nat)
  /-- a mirrored frame on the standby -/
  | sb (mseq : Nat)
  /-- a circulation tile: stream and desk tile -/
  | cir (stream tile : Nat)
  /-- one part of a request of several parts -/
  | grp (g : Nat)
deriving DecidableEq, Repr

/-- How a request ends, before its transport gives the answer its form (R43, R244, R245, R280). -/
inductive Ans where
  | data (bytes : List Byte) (casOk solo : Bool)
  | ack (dup solo uncat : Bool) (status epoch ssn : Nat) (mode : Bool) (map : Nat)
  | poison (reason : Nat)
  | quota (reason : Nat)
  | retry (reason : Nat)
  | unknown
  /-- a registrar service's result code and result words (R422) -/
  | svc (code : Nat) (words : List Nat)
deriving DecidableEq, Repr

/-- ACK with STATUS OK and nothing else. -/
def Ans.ok : Ans := .ack false false false 0 0 0 false 0

/-- ACK with a status and nothing else (R245). -/
def Ans.status (n : Nat) : Ans := .ack false false false n 0 0 false 0

/-- A request of several parts: how many are unanswered, the first answer that is not OK, and who waits. -/
structure Grp where
  /-- parts not yet done -/
  left : Nat := 0
  /-- ACK status of the first part in order that is not OK (R246); 0 is OK -/
  status : Nat := 0
  /-- folio of that part, so that ascending folio order decides -/
  at_ : Nat := 0
  /-- POISON reason of a part that failed, 0 none -/
  poison : Nat := 0
  /-- QUOTA reason of a part that was refused, 0 none -/
  quota : Nat := 0
  /-- acknowledged under the solo rule -/
  solo : Bool := false
  /-- [R423] a folio completed BUSY -/
  busy : Bool := false
  /-- who waits -/
  src : Src := .nobody
deriving DecidableEq, Repr

/-- A tenant record (R42, R528 and the record's layout). -/
structure Tenant where
  /-- [R528; reset 0] a TENANT_SET has written the record -/
  valid : Bool := false
  /-- [R528; reset 0] every new allocation is refused -/
  suspend : Bool := false
  /-- [R52; reset 0] event group, 0 to 191 -/
  evt : Nat := 0
  /-- [R42; reset 0] pinned limit in folios -/
  pinLim : Nat := 0
  /-- [R42; reset 0] pinned usage in folios -/
  pinUse : Nat := 0
  /-- [R42; reset 0] cached limit in folios -/
  cacheLim : Nat := 0
  /-- [R42; reset 0] cached usage in folios -/
  cacheUse : Nat := 0
  /-- [R42; reset 0] stacks limit in shelves -/
  stkLim : Nat := 0
  /-- [R42; reset 0] stacks usage in shelves -/
  stkUse : Nat := 0
  /-- [R42; reset 0] desk limit in KiB -/
  deskLim : Nat := 0
  /-- [R353; reset 0] desk usage in bytes, shown in KiB rounded up -/
  deskUse : Nat := 0
  /-- [R42; reset 0] accession limit in segments -/
  accLim : Nat := 0
  /-- [R42; reset 0] accession usage in segments -/
  accUse : Nat := 0
  /-- [R42; reset 0] circulation limit in schedules -/
  cirLim : Nat := 0
  /-- [R42; reset 0] circulation usage in schedules -/
  cirUse : Nat := 0
  /-- [R43; reset 0] refusal counter, 12 bits, saturating (R7) -/
  refusals : Nat := 0
  /-- [R43; reset 0] last reason code, 4 bits -/
  lastReason : Nat := 0
deriving DecidableEq, Repr

/-- An object descriptor (R24 to R27, R39, R40). -/
structure Obj where
  /-- [R24; reset 0] the slot holds a live object -/
  live : Bool := false
  /-- [R24; reset 0xFFF] owning tenant, 12 bits -/
  tenant : Nat := 0xFFF
  /-- [R24; reset 0] earlier objects in the slot, modulo 65,536 -/
  reuse : Nat := 0
  /-- [R26; reset 0] base logical shelf, 23 bits -/
  base : Nat := 0
  /-- [R25; reset 0] length in bytes -/
  len : Nat := 0
  /-- [R39; reset 0] placement class: 0 Cached, 1 Streamed, 2 Pinned, 3 Unbacked -/
  cls : Nat := 0
  /-- [R40, R129; reset 0] folios of the object not yet pinned resident: PIN_PENDING while above 0 -/
  pinLeft : Nat := 0
  /-- [R129; reset 0] DRAM was lost at a start: absent folios of this Unbacked object are promoted as poison lines -/
  poison : Bool := false
  /-- [R129; reset none] the OBJ_CREATE slot that waits for residency of an Unbacked object -/
  waiter : Option Nat := none
deriving DecidableEq, Repr

/-- A grant (R29). -/
structure Grant where
  /-- [R29; reset 0] entry in use -/
  valid : Bool := false
  /-- [R29; reset 0] handle granted, 48 bits -/
  handle : Nat := 0
  /-- [R29; reset 0] grantee tenant, 0xFFF any -/
  grantee : Nat := 0
  /-- [R29; reset 0] R right -/
  r : Bool := false
  /-- [R29; reset 0] W right -/
  w : Bool := false
  /-- [R29; reset 0] A right -/
  a : Bool := false
deriving DecidableEq, Repr

/-- A RoCE window (R35). -/
structure Window where
  /-- [R36; reset 0] entry in use -/
  valid : Bool := false
  /-- [R35; reset 0] tenant -/
  tenant : Nat := 0
  /-- [R35; reset 0] host ID, 0xFFF any -/
  host : Nat := 0
  /-- [R35; reset 0] object handle -/
  handle : Nat := 0
  /-- [R35; reset 0] object offset base -/
  off : Nat := 0
  /-- [R35; reset 0] length in bytes -/
  len : Nat := 0
  /-- [R35; reset 0] base virtual address, 64 bits -/
  base : Nat := 0
  /-- [R35; reset 0] R right -/
  r : Bool := false
  /-- [R35; reset 0] W right -/
  w : Bool := false
  /-- [R35; reset 0] A right -/
  a : Bool := false
  /-- [R35, R37; reset 0] 12-bit key tag -/
  tag : Nat := 0
  /-- [R37; reset none] mailbox slot of the WINDOW_CLEAR that waits -/
  clearing : Option Nat := none
deriving DecidableEq, Repr

/-- A Tvedfy map (R31, R255). -/
structure MapEnt where
  /-- [R31; reset 0] index in use -/
  valid : Bool := false
  /-- [R31; reset 0] object handle -/
  handle : Nat := 0
  /-- [R31; reset 0] R right held -/
  r : Bool := false
  /-- [R31; reset 0] W right held -/
  w : Bool := false
  /-- [R31; reset 0] A right held -/
  a : Bool := false
  /-- [R255; reset 0] COOKIE of the open -/
  cookie : Nat := 0
  /-- [R34; reset none] a close waits for the accesses in progress; who asked -/
  closing : Option Src := none
deriving DecidableEq, Repr

/-- The binding of a Tvedfy host context (R23). -/
structure Ctx where
  /-- [R23; reset 0xFFF, DESIGN CHOICE] host ID bound -/
  host : Nat := 0xFFF
  /-- [R23; reset 0xFFF, DESIGN CHOICE] tenant bound; 0xFFF accepts link-level traffic only -/
  tenant : Nat := 0xFFF
deriving DecidableEq, Repr

/-- A shelf-table entry (R48). -/
structure Shelf where
  /-- [R48; reset 0] STATE: 0 FREE, 1 BACKED, 2 UNBACKED, 3 LOST, 4 META -/
  st : Nat := 0
  /-- [R48; reset 0] stack link of the sled -/
  sled : Nat := 0
  /-- [R48; reset 0] shelf index on the sled, 19 bits -/
  sledShelf : Nat := 0
  /-- [R48; reset 0xFFF] owning tenant -/
  tenant : Nat := 0xFFF
  /-- [R48; reset 0] owning object number, 36 bits -/
  object : Nat := 0
  /-- [R48; reset 0] GENERATION, 24 bits -/
  gen : Nat := 0
  /-- [R48; reset 0] class code -/
  cls : Nat := 0
deriving DecidableEq, Repr

/-- A write on its way to its line. -/
structure WriteReq where
  /-- who is answered -/
  src : Src := .nobody
  /-- what the write does -/
  op : WOp := .zero
  /-- 46-bit line address (line 0 of the folio for a zero-folio) -/
  line : Nat := 0
  /-- stream sequence number, 0 for RoCE streams -/
  ssn : Nat := 0
  /-- owning tenant of the object (R30) -/
  owner : Nat := 0
  /-- host of the binding -/
  host : Nat := 0
  /-- host context, 64 + q for a queue pair, or 32 for none, for R34, R250 and R274 -/
  ctx : Nat := 32
  /-- map index it passed, 4,096 for none -/
  map : Nat := 4096
  /-- window it passed, 1,048,576 for none -/
  win : Nat := 1048576
  /-- its place among the Tvedfy requests, 0 for others (R250) -/
  order : Nat := 0
  /-- counted as waiting for the budget (R100) -/
  waitedB : Bool := false
  /-- counted as waiting for a way (R125) -/
  waitedV : Bool := false
  /-- the mirrored frame carried KIND and RESULT of its own (R321): the kind for the entry -/
  kind : Option Nat := none
deriving DecidableEq, Repr

/-- One item in a stream's order (R65, R248). -/
inductive SItem where
  | write (r : WriteReq)
  /-- a duplicate, with the context and map it passed (R34): answered ACK DUP once every earlier write has been answered -/
  | dup (src : Src) (ctx map : Nat)
  /-- a close held or to be judged: epoch named, SETMODE, MODE, END (R247) -/
  | close (src : Src) (epoch : Nat) (setMode mode fin : Bool)
deriving DecidableEq, Repr

/-- A write applied to its line whose answer waits for R55. -/
structure AckWait where
  /-- who is answered -/
  src : Src := .nobody
  /-- a suppressed duplicate (R248) -/
  dup : Bool := false
  /-- the old value of an atomic, with CAS_OK: answered DATA -/
  old : Option (List Byte × Bool) := none
  /-- the stream is mirrored, so APPLIED must cover `mseq` -/
  mirrored : Bool := false
  /-- its frame's MSEQ, when a frame was sent -/
  mseq : Option Nat := none
  /-- a RESULT must match first (R329) -/
  needResult : Bool := false
  /-- written through: so many TILE_WRITEs of this folio must be acknowledged first (R108, R142) -/
  needTw : Option (Nat × Nat) := none
  /-- [R34] host context it came through, 32 for none -/
  ctx : Nat := 32
  /-- [R34] map index it passed, 4,096 for none -/
  map : Nat := 4096
  /-- [R37] window it passed, 1,048,576 for none -/
  win : Nat := 1048576
deriving DecidableEq, Repr

/-- The close in progress on a stream (R67). -/
structure CloseSt where
  /-- who is answered -/
  src : Src := .nobody
  /-- the next epoch takes `mode` -/
  setMode : Bool := false
  /-- the mode it takes -/
  mode : Bool := false
  /-- the stream goes idle after the commit point -/
  fin : Bool := false
  /-- its place in the stream's order has not been reached: writes that came before it still wait (R67 steps 1 and 2) -/
  waiting : Bool := false
  /-- MSEQ of the EPOCH CLOSE frame, when one was sent -/
  mseq : Option Nat := none
  /-- the digests were compared (or need not be) -/
  digestOk : Bool := false
deriving DecidableEq, Repr

/-- An open-epoch report (R81 to R87). -/
structure Report where
  /-- [R82; reset 0] still being built -/
  building : Bool := false
  /-- [R81; reset 0] CAUSE -/
  cause : Nat := 0
  /-- [R85; reset 0] reported epoch -/
  epoch : Nat := 0
  /-- [R85; reset 0] MODE of the epoch -/
  mode : Bool := false
  /-- [R85; reset 0] the epoch was UNCATALOGUED -/
  uncat : Bool := false
  /-- [R85; reset 0] its overflow cause: POOL -/
  pool : Bool := false
  /-- [R64; reset 0] KEY_SHARED -/
  keyShared : Bool := false
  /-- [R85; reset empty] range records: (first shelf, count) -/
  ranges : List (Nat × Nat) := []
  /-- [R85; reset empty] entry records with verdicts -/
  entries : List Entry := []
  /-- [R87; reset empty] pool segments the report keeps -/
  segs : List Nat := []
  /-- [R82, R83; reset empty] lines read for the report as fills brought them in: content and tag, or poison -/
  reads : List (Nat × Option (Line × Tag)) := []
deriving DecidableEq, Repr

/-- States of a stream (R65). -/
inductive StreamSt where
  | idle | opened | closing | reported
deriving DecidableEq, Repr

/-- A stream record (R63 to R67, R78, R248, R328). -/
structure Stream where
  /-- [R65; reset IDLE] state -/
  st : StreamSt := .idle
  /-- [R54; reset 0] acknowledgement mode: 0 posted, 1 mirrored -/
  mode : Bool := false
  /-- [R65; reset 0] current epoch, or last epoch while IDLE; 12 bits -/
  epoch : Nat := 0
  /-- [R77; reset 0] UNCATALOGUED -/
  uncat : Bool := false
  /-- [R76; reset 0] cause POOL -/
  pool : Bool := false
  /-- [R64; reset 0] KEY_SHARED -/
  keyShared : Bool := false
  /-- [R75; reset empty] pool segments of the epoch, in order -/
  segs : List Nat := []
  /-- [R74; reset empty] accession entries of the epoch in SEQ order -/
  entries : List Entry := []
  /-- [R81; reset 0] the epoch holds a write -/
  wrote : Bool := false
  /-- [R248; reset 0] LAST_SSN, 16 bits -/
  lastSsn : Nat := 0
  /-- [R64; reset 0] host ID of the writer key -/
  writer : Nat := 0
  /-- [R63; reset 0] tag stream field -/
  field : Nat := 0
  /-- [R42; reset 0] tenant of the stream's binding -/
  tenant : Nat := 0
  /-- [R78; reset empty] shelf ranges of the epoch -/
  ranges : List (Nat × Nat) := []
  /-- [R328; reset 0] running CRC-64 digest of the epoch -/
  digest : BitVec 64 := 0
  /-- [R328; reset 0] the epoch's first write came before RS_END -/
  skip : Bool := false
  /-- [R65, R100; reset empty] items not yet applied, in order -/
  queue : List SItem := []
  /-- [R55; reset empty] applied writes not yet answered, in order -/
  acks : List AckWait := []
  /-- [R67; reset none] close in progress -/
  close : Option CloseSt := none
  /-- [R81; reset none] report held -/
  report : Option Report := none
deriving DecidableEq, Repr

/-- A load in progress. -/
structure LoadReq where
  /-- who is answered -/
  src : Src := .nobody
  /-- logical byte address -/
  lpa : Nat := 0
  /-- bytes -/
  len : Nat := 0
  /-- owning tenant of the object -/
  owner : Nat := 0
  /-- host context or 32 -/
  ctx : Nat := 32
  /-- map index or 4,096 -/
  map : Nat := 4096
  /-- window or 1,048,576 -/
  win : Nat := 1048576
  /-- its place among the Tvedfy requests, 0 for others (R250) -/
  order : Nat := 0
deriving DecidableEq, Repr

/-- A maintenance operation on one folio (R138). -/
structure MaintReq where
  /-- the group it belongs to -/
  src : Src := .nobody
  /-- 0 CLEAN, 1 FLUSH, 2 INVALIDATE, 3 PROMOTE -/
  mop : Nat := 0
  /-- logical folio -/
  folio : Nat := 0
  /-- TILE_WRITE acknowledgements still wanted -/
  acks : Nat := 0
  /-- cleaning attempts made (INVALIDATE gives up after 4) -/
  tries : Nat := 0
  /-- host context or 32 -/
  ctx : Nat := 32
  /-- map index or 4,096 -/
  map : Nat := 4096
  /-- its place among the Tvedfy requests, 0 for others (R250) -/
  order : Nat := 0
deriving DecidableEq, Repr

/-- What waits in a folio's hazard entry while it fills (R135, R136). -/
inductive FReq where
  | load (l : LoadReq)
  /-- the front write of this stream -/
  | write (stream : Nat)
  | maint (m : MaintReq)
  /-- a report of this stream that is being built reads the folio (R82) -/
  | report (stream folio : Nat)
  /-- QUERY_LINE waits for the line it judges (R86): who is answered, stream, line, context and map -/
  | query (src : Src) (stream line ctx map : Nat)
deriving DecidableEq, Repr

/-- A request that only reads the folio, so that it can be served from the desk (R132). -/
def FReq.reads : FReq → Bool
  | .load _ => true
  | .report .. => true
  | .query .. => true
  | _ => false

/-- A folio that is filling (R136): its hazard entry. -/
structure Fill where
  /-- [R136] logical folio -/
  folio : Nat := 0
  /-- [R134; reset none] way bound, as set * 16 + way; none while it waits for one or is served from the desk -/
  way : Option Nat := none
  /-- [R125] a load fill without a way: served from a desk buffer -/
  bypass : Bool := false
  /-- [R99] speculative -/
  spec : Bool := false
  /-- [R122] age at insertion -/
  age : Nat := 0
  /-- [R129] installs with PIN set -/
  pin : Bool := false
  /-- [R30] owning tenant -/
  tenant : Nat := 0
  /-- [R42] its folio is charged to the tenant's cached usage since the way was bound -/
  charged : Bool := false
  /-- [R132; reset none] data that has arrived: 32 lines with their tags -/
  desk : Option (List (Line × Tag)) := none
  /-- [R136] a zero-folio waits for its way instead of data -/
  zero : Bool := false
  /-- [R142] the desk copy of a write-through -/
  through : Bool := false
  /-- [R124, R144] it waits for an eviction-buffer entry and has been counted on source 0x141 -/
  evbWait : Bool := false
  /-- [FCH_CNT_EVICT] the victim it bound was DIRTY -/
  tookDirty : Bool := false
  /-- [R287] time it was started (µs) -/
  since : Nat := 0
  /-- [R305] a circulation fetch asked for it -/
  cir : Bool := false
  /-- [R135; reset empty] requests in order of arrival -/
  reqs : List FReq := []
deriving DecidableEq, Repr

/-- A way of the tag directory (R117). -/
structure Way where
  /-- [R117; reset 0] logical folio, 41 bits -/
  folio : Nat := 0
  /-- [R117; reset 0] age, 0 oldest to 3 newest -/
  age : Nat := 0
  /-- [R117; reset INVALID] 0 INVALID, 1 CLEAN, 2 DIRTY, 3 RESHELVING, 4 EVICT_CLEAN, 5 EVICT_DIRTY -/
  st : Nat := 0
  /-- [R117; reset 0] PIN -/
  pin : Bool := false
  /-- [R117; reset 0] owning tenant -/
  tenant : Nat := 0
  /-- [R117; reset 0] W: written since its copy was taken -/
  w : Bool := false
deriving DecidableEq, Repr

/-- An eviction-buffer entry (R130). -/
structure Evb where
  /-- [R130] logical folio -/
  folio : Nat := 0
  /-- [R130] its way, as set * 16 + way -/
  way : Nat := 0
  /-- [R130] the 32 lines copied, with their tags -/
  lines : List (Line × Tag) := []
  /-- [R131; reset 0] the copy has left on the link -/
  sent : Bool := false
  /-- [R131; reset empty] MSEQs of the writes in it that the twin had not reported applied when it was taken -/
  behind : List Nat := []
deriving DecidableEq, Repr

/-- One line of DRAM as stored: data and tag encoded with RS(20,17), and the symbol errors laid over the code words
(R192, R193): (code word, device, XOR). -/
structure DLine where
  /-- [R200; reset 0] the line has been written -/
  written : Bool := false
  /-- [R193; reset 0] data -/
  data : Line := 0
  /-- [R193; reset 0] tag -/
  tag : Tag := 0
  /-- [R194; reset empty] symbol errors: code word, device, XOR -/
  errs : List (Nat × Nat × Nat) := []
deriving DecidableEq, Repr

/-- The sequenced frames of the mirror stream and the unsequenced frames of the twin link are written with these
records of a registrar service (R323, R420): the requests that change state, with the fields their service record
gives. -/
inductive Svc where
  | tenantSet (tenant evt pinLim cacheLim stkLim deskLim accLim cirLim : Nat) (suspend : Bool)
  | portBind (ctx host tenant : Nat)
  | objCreate (tenant len cls : Nat)
  | objResize (handle len : Nat)
  | objPlace (handle cls : Nat)
  | objDelete (handle : Nat)
  | grantSet (handle grantee : Nat) (r w a : Bool)
  | grantClear (n : Nat)
  | windowSet (n tenant host handle off len base : Nat) (r w a : Bool)
  | windowClear (n : Nat)
  | folioMaint (handle off len mop : Nat)
  | netHostSet (n host addr0 addr1 : Nat) (valid : Bool)
  | streamAbort (stream : Nat)
  | reportRelease (stream : Nat)
  | mapOpen (ctx handle : Nat) (r w a : Bool) (cookie : Nat)
  | mapClose (ctx map : Nat)
  | place (ctx map cls : Nat)
  | schedLoad (n tenant index : Nat) (first last : Bool) (entries : List (Nat × Nat × Nat))
  | schedUnload (n : Nat)
  | streamSet (n : Nat) (words : List Nat)
  | streamRetarget (n sched : Nat)
  | streamStart (n : Nat)
  | streamStop (n : Nat)
deriving DecidableEq, Repr

end Sys2Proof.Machine
end

