-- ==== Sys2Proof/Machine/Wire.lean ====
section
/-! DEFINITION. What arrives with a command, where it is more than one word: a RoCE packet, an Ethernet frame's class. -/

namespace Sys2Proof.Machine

/-- How a frame is marked (R262): its priority, which is its traffic class, the DSCP of its IP header and the PCP of its tag. -/
structure Mark where
  prio : Nat := 0
  /-- none: not an IP packet -/
  dscp : Option Nat := none
  /-- none: untagged -/
  pcp : Option Nat := none
deriving DecidableEq, Repr

/-- A RoCE packet as it arrives (R259, R280): the fields of its headers that R273 to R290 use; its opcode is the row's. -/
structure RPkt where
  /-- destination address, 16 bytes little-endian, IPv4 as IPv4-mapped IPv6 -/
  dst : Nat := 0
  /-- destination QPN -/
  qpn : Nat := 0
  /-- PSN -/
  psn : Nat := 0
  /-- AckReq -/
  ackReq : Bool := false
  /-- the ICRC fails -/
  icrcBad : Bool := false
  /-- marked CE -/
  ce : Bool := false
  /-- RETH or AtomicETH virtual address -/
  va : Nat := 0
  /-- R_Key -/
  rkey : Nat := 0
  /-- DMA length -/
  len : Nat := 0
  /-- compare data of a CmpSwap -/
  cmp : Nat := 0
  /-- swap or add data -/
  swp : Nat := 0
  /-- immediate data -/
  imm : Nat := 0
  /-- payload -/
  payload : List Byte := []
deriving DecidableEq, Repr

/-- What an Ethernet frame is to the MK1 (R259). -/
inductive FrameKind where
  /-- a supported frame: buffered and passed on to the command that carries its content -/
  | supported
  /-- an 802.3x PAUSE frame -/
  | pause
  /-- a frame or packet that uses an unsupported feature -/
  | unsupported
  /-- a packet of this opcode, which R259 does not list, for a queue pair -/
  | opcode (op : Nat) (p : RPkt)
deriving DecidableEq, Repr

end Sys2Proof.Machine
end

