-- ==== Sys2Proof/Machine/Emit.lean ====
section
/-! DEFINITION. What the MK1 sends: answers on Tvedfy links, messages on stack links, frames on the twin link and to
the witness, packets on Ethernet, messages to the management endpoint, transactions on its sideband buses. The state
keeps them in the order they were sent. -/

namespace Sys2Proof.Machine

/-- The answers and events of a Tvedfy link (R244). -/
inductive TvResp where
  | data (tag : Nat) (casOk solo : Bool) (bytes : List Byte)
  | ack (tag : Nat) (dup solo uncat : Bool) (status epoch ssn : Nat) (mode : Bool) (map : Nat)
  | poison (tag reason : Nat)
  | quota (tag reason : Nat)
  | unknownOutcome (tag : Nat)
  | retryLater (tag reason : Nat)
  /-- EVENT: source, KIND, COUNT, STREAM, EPOCH, SOLO_NOW -/
  | event (source kind count stream epoch : Nat) (soloNow : Bool)
deriving DecidableEq, Repr

/-- One request on a stack link (R149, R150): opcode 1 TILE_READ, 2 TILE_WRITE, 3 TILE_TRIM, 4 SHELF_SEAL, 5 STATUS,
6 VAULT_BEGIN, 7 HEARTBEAT. -/
structure StkReq where
  /-- [R150] opcode -/
  op : Nat := 0
  /-- [R149] TAG -/
  tag : Nat := 0
  /-- [R149] sled shelf -/
  shelf : Nat := 0
  /-- [R149] tile within the shelf -/
  tile : Nat := 0
  /-- [R149] folio mask -/
  mask : Nat := 0
  /-- [R149] ALL flag -/
  all : Bool := false
  /-- [R149] ARG -/
  arg : Nat := 0
  /-- [R150] folio records: 32 lines with tags each -/
  recs : List (List (Line × Tag)) := []
  /-- [R106, R161] bytes of the vault area or metadata written, when the tile holds no folio records -/
  raw : List Byte := []
  /-- [R161] what every byte of such a tile after `raw` holds -/
  pad : Byte := 0
  /-- [R149] ARG2 -/
  arg2 : Nat := 0
  /-- [R161] a tile of the stream table: its number, the streams listed in it, and the last epoch and LAST_SSN of the others -/
  table : Option (Nat × Tab Stream × Nat × Nat) := none
  /-- [R146] SEQ of its last cell, as it was sent -/
  seq : Nat := 0
  /-- logical tile the request is about -/
  ltile : Nat := 0
  /-- [R126] the folio that a demand fill wants, where the rest of its tile is asked for with it -/
  want : Option Nat := none
  /-- time it was sent (µs) -/
  since : Nat := 0
  /-- re-sends left (R154) -/
  tries : Nat := 0
deriving DecidableEq, Repr

/-- One item of RS_STATE (R343): the record as the tables hold it. -/
inductive RsItem where
  | stream (i : Nat) (r : Stream)
  | window (i : Nat) (r : Window)
  | host (i : Nat) (bytes : List Nat)
  | shelf (i : Nat) (r : Shelf)
  | circ (i : Nat) (words : List Nat)
deriving DecidableEq, Repr

/-- The sequenced frames of the mirror stream (R321). -/
inductive MFrame where
  | wFull (stream line ssn kind : Nat) (result : Bool) (data : Line)
  | wMasked (stream line ssn : Nat) (mask : BitVec 128) (data : Line)
  | wAtomic (stream line ssn aop off : Nat) (a b : BitVec 128)
  | wZero (stream line ssn : Nat)
  | epoch (stream eop cause : Nat) (mode fin setMode : Bool) (epoch : Nat)
  | ssn (stream ssn : Nat)
  /-- RESULT, and the TOKEN of the request record (R421) -/
  | service (svc : Svc) (result token : Nat)
  | fill (folio : Nat)
  | rsLine (line : Nat) (tag : Tag) (data : Line)
  | rsTrim (tile : Nat)
  | rsState (item : RsItem)
  | rsRegion (region : Nat)
  | rsEnd
deriving DecidableEq, Repr

/-- The unsequenced frames of the twin link (R322). -/
inductive UFrame where
  | applied (mseq : Nat)
  | result (mseq : Nat) (casOk : Bool) (old : List Byte)
  | digest (stream epoch : Nat) (skipped : Bool) (crc : BitVec 64) (mseq : Nat)
  | status (free stage mseq : Nat)
  | fault (cause mseq : Nat)
  | diverge (regions : List Nat)
  | lease (gen renew mseq : Nat)
  | leaseAck (gen renew : Nat)
  | leaseDrop (gen mseq reason : Nat)
  | fence (gen reason : Nat)
  | hello (gen : Nat) (wasHolder stateOk vaultOk : Bool) (role diverge : Nat)
  | join (gen : Nat) (accept : Bool) (reason : Nat)
deriving DecidableEq, Repr

/-- A frame of the twin link that waits to be sent. -/
inductive TwinMsg where
  | m (f : MFrame)
  | u (f : UFrame)
deriving DecidableEq, Repr

/-- A flit as the sender keeps it (R214, R215, R219): TYPE, FSEQ, FIRST_SLOT and the payload's slots. -/
structure Flit where
  ty : Nat := 0
  fseq : Nat := 0
  first : Nat := 15
  slots : List (BitVec 128) := []
deriving DecidableEq, Repr

/-- A vault header as the sleds return it (R106, R107). -/
structure VHead where
  /-- stack link of its sled -/
  link : Nat := 0
  seq : Nat := 0
  complete : Bool := false
  ready : Nat := 0
  planned : Nat := 0
  written : Nat := 0
  /-- DURATION, ms -/
  ms : Nat := 0
deriving DecidableEq, Repr

/-- A DIMM as its SPD reports it (R167). -/
structure Dimm where
  /-- channel -/
  ch : Nat := 0
  /-- module type: MRDIMM -/
  mr : Bool := false
  /-- device density as DMC_POP.DENSITY numbers it -/
  density : Nat := 0
  /-- device width -/
  width : Nat := 4
  /-- package ranks -/
  pkg : Nat := 0
  /-- 3DS stack height, 1 for monolithic -/
  stack : Nat := 0
  /-- capacity in bytes -/
  cap : Nat := 0
  /-- serial number -/
  serial : Nat := 0
deriving DecidableEq, Repr

/-- What a step of the start finds outside the chip (R402): in SPD, on the sleds, in the PHYs. -/
structure StartRep where
  /-- step 5: pair and vector of a self-test that differs (R204) -/
  bist : Option (Nat × Nat) := none
  /-- steps 5 and 6: the DIMMs found, in their order on each channel (R167) -/
  dimms : List Dimm := []
  /-- step 6: channels whose PHY fails its self-test (R181) -/
  phyBad : List Nat := []
  /-- step 6: a channel, once for each attempt of its training that fails (R183) -/
  untrained : List Nat := []
  /-- step 6: training results of a channel, as DMC indirect space shows them: of 12,800 MT/s or the one speed there is, and of
  6,400 MT/s -/
  results : List (Nat × List W32 × List W32) := []
  /-- steps 8 and 9: a sled of STK_META holds a metadata shelf (R530) -/
  metadata : Bool := false
  /-- steps 8 and 9: vault headers read (R107) -/
  headers : List VHead := []
  /-- step 8: tiles of shelf 9 that the primary metadata sled could not return (R160) -/
  metaBad : List Nat := []
  /-- step 9: shelves marked in the dirty-shelf map of an incomplete vault (R107) -/
  marked : List Nat := []
deriving DecidableEq, Repr

/-- The DIMMs found on a channel. -/
def StartRep.on (r : StartRep) (c : Nat) : List Dimm := r.dimms.filter (fun d => d.ch == c)

/-- The SPD serial numbers read on a channel (R167). -/
def StartRep.serial (r : StartRep) (c : Nat) : List Nat := (r.on c).map (·.serial)

/-- Instructions of the JTAG port (R490, R464). -/
inductive JtagOp where
  | idcode | bypass | sample | extest | extestPulse | extestTrain | clamp | highz | dbgAccess
deriving DecidableEq, Repr

/-- Everything the MK1 sends. -/
inductive Emit where
  /-- a message on a Tvedfy link; its flit follows -/
  | tv (lk : Nat) (r : TvResp)
  /-- a role told on a Tvedfy link (R232); its flit follows -/
  | role (lk : Nat) (holder : Bool)
  /-- training frames, and electrical idle, of a Tvedfy or twin link -/
  | tvLink (lk : Nat) (what : String) (value : Nat)
  /-- the 256 bytes of a flit of a Tvedfy or twin link (R214) -/
  | flit (lk : Nat) (bytes : List Byte)
  /-- the symbols of a code word as each lane of a link carries them (R212) -/
  | codeWord (lk : Nat) (lanes : List (List Nat))
  /-- a cell on a stack link: its header and its body (R146) -/
  | cell (link : Nat) (hdr : BitVec 64) (body : List Byte)
  /-- code words of a stack link's FEC, in order: the symbols of each (R145) -/
  | stkWords (link : Nat) (words : List (List Nat))
  /-- training of a stack link begins (R145) -/
  | stkTrain (link : Nat)
  /-- the start reads `count` tiles of a sled shelf from `tile` on with TILE_READ (R107, R160) -/
  | stkRead (link shelf tile count : Nat)
  /-- a sequenced mirror frame under its MSEQ, as it takes its place in the mirror stream -/
  | mirror (mseq : Nat) (f : MFrame)
  /-- an unsequenced twin frame -/
  | twin (f : UFrame)
  /-- a pulse of TWIN_HB_OUT of this width in µs -/
  | pulse (us : Nat)
  /-- a message to the witness (R335): TYPE, GEN, REQ_SEQ, the unit address it is sent from, the UDP port, its 56 bytes, and the
  addresses it goes to -/
  | witness (type gen reqSeq src port : Nat) (bytes : List Byte) (dst : List (List Byte))
  /-- an MSI-X message of a management vector -/
  | msix (vector : Nat)
  /-- a packet of a RoCE queue pair: opcode, PSN, AETH syndrome or status, payload -/
  | roce (qp op psn syn : Nat) (payload : List Byte)
  /-- an RDMA WRITE message of a circulation queue pair: queue pair, first PSN, packets, VA, R_Key, immediate data, payload -/
  | rdmaWrite (qp psn pkts va rkey : Nat) (imm : Option Nat) (payload : List Byte)
  /-- an RDMA READ Request of a circulation queue pair: queue pair, PSN, VA, R_Key, length -/
  | rdmaRead (qp psn va rkey len : Nat)
  /-- a communication-management message: kind, local and remote identifiers, reason -/
  | cm (kind : String) (a b c : Nat)
  /-- a CM REP (R270, R301): communication identifier, local QPN, starting PSN, path MTU, responder resources, initiator depth,
  private data -/
  | cmRep (comm qpn psn mtu resources depth : Nat) (priv : List Byte)
  /-- what leaves on an Ethernet port: the port, its source MAC address (R261), DSCP and PCP (R262), whether it is marked
  ECT(0) (R266), and what it carries -/
  | frame (port mac : Nat) (dscp pcp : Option Nat) (ect : Bool) (what : Emit)
  /-- another frame of an Ethernet port, by name -/
  | eth (port : Nat) (what : String) (value : Nat)
  /-- a DRAM command or PHY action of a channel, by name -/
  | dmc (ch : Nat) (what : String) (value : Nat)
  /-- a transaction on a sideband channel: channel, address, bytes -/
  | sb (ch addr : Nat) (bytes : List Byte)
  /-- the STOP that a sideband channel disabled in a transaction sends (R479) -/
  | sbStop (ch : Nat)
  /-- an operation on the configuration flash -/
  | cfg (what : String) (addr : Nat)
  /-- the answer of a ROM entry point of the flash routine (R434): 0 OK, 1 CORRECTED, 2 SUSPECT, 3 DOUBLE,
  4 UNCORRECTABLE, 5 FAILED, 6 PROTECTED, 7 RANGE; and the words read -/
  | flash (result : Nat) (data : List (BitVec 128))
  /-- every SerDes transmitter, TV, EN, TN, SK and MG, goes to electrical idle (R16) -/
  | lanesIdle
  /-- the lanes of a group without its reference stop (R395): 0 TV, 1 EN, 2 TN, 3 SK -/
  | lanesStop (group : Nat)
  /-- a stretch of a lane's test pattern as its symbols: 0 to 3 on a PAM4 lane, bits on an NRZ one (R485, R486) -/
  | lane (n : Nat) (symbols : List Nat)
  /-- a JTAG instruction's effect on the pins or its data register, by name (R490) -/
  | jtag (what : String) (value : Nat)
  /-- an answer on the SBT, JTAG or management read path -/
  | readData (path : String) (value : Nat)
deriving DecidableEq, Repr

end Sys2Proof.Machine
end

