-- ==== Sys2Proof/Syntax.lean ====
section
/-! DEFINITION. The commands the MK1 takes: one constructor per row of the command table (spec/opcode_table.json), in
its order. Operands are what arrives with the command: the link, queue pair or slot it comes on, the header words and
payload as they stand on the wire, the level or sample seen. -/

namespace Sys2Proof

open Machine

/-- The commands of the MK1. -/
inductive Instr where
  /-- R396: VDD_AON power-on or the always-on brown-out detector resets every domain, the supervisor included, which then reads the SUPPLY section. -/
  | coldReset
  /-- R379: VDD_AON falls, rail enables are released to their pull-downs, and any vault or sequence in progress stops. -/
  | vddAonLoss
  /-- R397: Thirteen consecutive low samples of RESET_N start a Pin reset of every core domain, unless R398 says the pin is ignored. -/
  | resetNAssert
  /-- R397: Thirteen consecutive high samples of RESET_N end the Pin reset, and start-up begins with DRAM kept. -/
  | resetNRelease
  /-- R402: A start begins at power-up complete or at reset release: the core PLLs start and the start-up steps follow. -/
  | startUp (dimm : Bool)
  /-- R402: A start-up step completes after its wait (PLL lock, image read, training, headers, tables), and the start moves to its next step or fails under R404. -/
  | startStepDone (cause : Nat) (rep : StartRep)
  /-- R401: CRU_WDT expires and the registrar restarts from ROM; a third expiry within 60 s halts it with a fatal fault. -/
  | watchdogExpiry
  /-- R401: The registrar writes 0xFEED to CRU_WDT_FEED and the watchdog count restarts. -/
  | cruWdtFeed (path value : Nat)
  /-- R400: CRU_BRST.GO resets the named block within 10 µs, or the write is refused and counted. -/
  | blockReset (block : Nat)
  /-- R395: A lane reference is absent or more than 1,000 ppm off, and the lanes of its group stop. -/
  | refClockLost (group : Nat)
  /-- R395: A lost lane reference has been good for 1 ms, and its links retrain under their own rules. -/
  | refClockRegained (group : Nat)
  /-- R395: A DMC PLL loses lock and its channel stops issuing until the PLL relocks. -/
  | dmcPllUnlock (ch : Nat)
  /-- R395: A DMC PLL relocks and the channel runs steps 5 to 7 of R187 at its current speed. -/
  | dmcPllRelock (ch : Nat)
  /-- R395: A DMC PLL has not relocked within 1 ms and FAULT_N is asserted as a fatal fault. -/
  | dmcPllRelockTimeout (ch : Nat)
  /-- R395: A core PLL other than a DMC PLL loses lock, giving a fatal fault and then a Pin reset with cause PLL. -/
  | corePllUnlock (pll : Nat)
  /-- R395: XTAL stops; the always-on domain runs on the internal oscillator and a Pin reset with cause XTAL follows. -/
  | xtalStopped
  /-- R395: XTAL has run for 10 ms and the core is released from reset. -/
  | xtalRestored
  /-- R376: An on request starts a power-up, or is latched in ON_LATCHED while a power-down runs. -/
  | onRequest
  /-- R376: An off request starts a power-down, or stops a power-up in progress. -/
  | offRequest
  /-- R372: A rail's ON_TICK arrives and its dependencies are met, so the rail is enabled. -/
  | railEnableTick (rail : Nat)
  /-- R372: A rail's PG_RAIL goes high and the rails that list it in DEP may be enabled. -/
  | railPgRise (rail : Nat)
  /-- R373: A rail's PG has not risen within PG_MS of its enable, so the rail fails. -/
  | railPgTimeout (rail : Nat)
  /-- R373: A rail's PG has been low for more than 10 µs while the rail is on, so the rail fails. -/
  | railPgDrop (rail : Nat)
  /-- R372: A rail's OFF_TICK arrives in a power-down and the rail is disabled. -/
  | railDisableTick (rail : Nat)
  /-- R375: A rail's PG is still high 50 ms after its OFF_TICK, so it is marked STUCK and its hard-disable slot is driven. -/
  | dischargeTimeout (rail : Nat)
  /-- R377: 500 ms have passed since a power-down completed, and a latched on request is acted on. -/
  | offWaitExpiry
  /-- R378: HOLDUP_ALERT_N has been high for 1 s after a vault ended in Off, and with RESTART = 1 an on request is raised. -/
  | vaultRestartTimer
  /-- R380: PWR_BTN_N is released before LONG_S and the short-press action for the current state runs. -/
  | buttonShortPress
  /-- R380: PWR_BTN_N is released between LONG_S and VLONG_S and the long-press action runs, or is refused. -/
  | buttonLongPress
  /-- R380: PWR_BTN_N has been held for VLONG_S and the very-long-press action runs at once. -/
  | buttonVeryLongPress
  /-- R381: Writing SUP_VBTN.PRESS = 1 acts as a short press. -/
  | vbtnShort
  /-- R381: Writing SUP_VBTN.PRESS = 2 acts as a long press. -/
  | vbtnLong
  /-- R381: Writing SUP_VBTN.PRESS = 3 acts as a very long press. -/
  | vbtnVeryLong
  /-- R382: Each AIN channel gives a 12-bit sample every 100 µs, which is checked against its alarm thresholds. -/
  | monitorSample (ch value : Nat)
  /-- R382: The once-a-second reference check marks each channel FAULTY or clears FAULTY. -/
  | monitorRefCheck (ch : Nat) (dev : Int)
  /-- R384: SUP_MARGIN.GO sends PMBus OPERATION to the named rail's regulator. -/
  | marginGo (rail dir : Nat)
  /-- R385: An internal power domain fails its power-good, which is a fatal fault. -/
  | domainPgFail (domain : Nat)
  /-- R386: The registrar service PWR_STATE SERVICE returns the chip from Quiesced or Trimmed to Service. -/
  | pwrStateService (slot : Nat)
  /-- R388: The registrar service PWR_STATE QUIESCE stops client ports and puts the DRAM into self-refresh, or is refused BUSY. -/
  | pwrStateQuiesce (slot : Nat)
  /-- R389: The registrar service PWR_STATE STANDBY vaults and powers down every rail that is not KEEP_SB. -/
  | pwrStateStandby (slot : Nat)
  /-- R386: The registrar service PWR_STATE OFF runs the vault and then powers down to Off. -/
  | pwrStateOff (slot : Nat)
  /-- R387: At the end of each traffic window the chip enters or leaves Trimmed against ENTER, EXIT and HOLD. -/
  | trimWindow (bytes : Nat)
  /-- R387: Every 100 µs in Trimmed the next channel still at 12,800 MT/s is moved to 6,400 MT/s. -/
  | trimFchgTick
  /-- R391: Once a second the raw energy is scaled by K and added to the tenant meters. -/
  | energyReconcile (mj : Nat)
  /-- R391: Every CKPT_MIN minutes, and at entry to Standby, the registrar copies the meters to embedded flash. -/
  | energyCheckpoint
  /-- R102: HOLDUP_ALERT_N low for 2 µs starts the vault when it is armed, and otherwise writes record 0x4A3. -/
  | holdupAlert (lowNs : Nat)
  /-- R104: RSV_TIMES.ENTRY expires and every sled that has not answered VAULT_BEGIN is marked failed; writing begins on the ready sleds. -/
  | vaultEntryTimeout
  /-- R104: Every seal and the COMPLETE header are acknowledged; record 0x4A0 is written, VAULT_ACT falls and the chip goes to Off. -/
  | vaultFinish
  /-- R95: Every 100 µs the governor recomputes energy, draw, time available and the total and per-sled budgets. -/
  | governorSample
  /-- R100: A write that waited for the budget is admitted once the count plus its charge fits. -/
  | budgetWaitRelease (stream : Nat)
  /-- R107: The registrar service VAULT_ACCEPT accepts an incomplete or unclean vault and lets the unit serve. -/
  | vaultAccept (slot : Nat)
  /-- R246: A Tvedfy LOAD is translated, looked up in the reading room and answered with DATA or an error. -/
  | load (lk : Nat) (hdr : BitVec 128)
  /-- R246: A full-line STORE is sequenced, entered in the log, written with its tag and mirrored, then acknowledged under R55. -/
  | storeFull (lk : Nat) (hdr : BitVec 128) (data : Line)
  /-- R60: A byte-masked STORE is applied as a read-modify-write of its line. -/
  | storeMasked (lk : Nat) (hdr : BitVec 128) (mask : BitVec 128) (data : Line)
  /-- R243: An ATOMIC (CAS8, CAS16, FADD8, SWAP8 or SWAP16) is executed on its line and answered with the old value. -/
  | atomic (lk : Nat) (hdr s1 s2 : BitVec 128)
  /-- R257: ABANDON with KIND 0 applies R248 to its SSN, executes nothing and is answered UNKNOWN_OUTCOME. -/
  | abandonAtomic (lk : Nat) (hdr : BitVec 128)
  /-- R257: ABANDON with KIND 1 is answered UNKNOWN_OUTCOME at once. -/
  | abandonClose (lk : Nat) (hdr : BitVec 128)
  /-- R65: EPOCH OPEN opens the stream's next epoch, or reports OPEN or REPORT_PENDING. -/
  | epochOpen (lk : Nat) (hdr : BitVec 128)
  /-- R67: EPOCH CLOSE puts the stream into CLOSING, or is answered CLOSED or POISON under R247. -/
  | epochClose (lk : Nat) (hdr : BitVec 128)
  /-- R67: Once the epoch's writes are mirrored and the digest compares, the stream record is rewritten and the close is acknowledged. -/
  | epochCommit (stream : Nat)
  /-- R86: EPOCH QUERY_STATE answers the state of the named epoch. -/
  | epochQueryState (lk : Nat) (hdr : BitVec 128)
  /-- R86: EPOCH QUERY_LINE returns the latest entries for a line, with live verdicts. -/
  | epochQueryLine (lk : Nat) (hdr : BitVec 128)
  /-- R86: EPOCH QUERY_REPORT returns up to 14 report records from an index. -/
  | epochQueryReport (lk : Nat) (hdr : BitVec 128)
  /-- R86: EPOCH RELEASE discards the stream's report and returns the stream to IDLE. -/
  | epochRelease (lk : Nat) (hdr : BitVec 128)
  /-- R82: The open-epoch report of a stream finishes building, with its verdicts, and REPORT_READY is sent. -/
  | reportBuilt (stream : Nat)
  /-- R31: MAP OPEN checks the handle and rights and returns a map index. -/
  | mapOpen (lk : Nat) (hdr : BitVec 128)
  /-- R34: MAP CLOSE stops new access through the map and waits for the accesses in progress. -/
  | mapClose (lk : Nat) (hdr : BitVec 128)
  /-- R34: Every request that passed the map check has completed, and the close is acknowledged. -/
  | mapCloseComplete (ctx map : Nat)
  /-- R40: A host PLACE changes an object's placement class under R40 and R41. -/
  | place (lk : Nat) (hdr : BitVec 128)
  /-- R129: A dropped promotion fill is tried again at least every 1 ms until the folio is resident. -/
  | pinPromotionRetry (folio : Nat)
  /-- R138: MAINT with MOP 0 reshelves the folio if it is dirty. -/
  | maintClean (lk : Nat) (hdr slot1 : BitVec 128)
  /-- R138: MAINT with MOP 1 cleans the folio and sets its age to 0. -/
  | maintFlush (lk : Nat) (hdr slot1 : BitVec 128)
  /-- R138: MAINT with MOP 2 cleans the folio and makes its way INVALID. -/
  | maintInvalidate (lk : Nat) (hdr slot1 : BitVec 128)
  /-- R138: MAINT with MOP 3 fills the folio if absent and sets its age to 3. -/
  | maintPromote (lk : Nat) (hdr slot1 : BitVec 128)
  /-- R138: MAINT with MOP 4 zero-folios the named folios as a write. -/
  | maintZero (lk : Nat) (hdr slot1 : BitVec 128)
  /-- R252: EVENT_DONE from the host completes an interrupt source offered by EVENT. -/
  | eventDone (lk : Nat) (hdr : BitVec 128)
  /-- R528: The registrar service TENANT_SET creates or updates a tenant record and its limits. -/
  | tenantSet (slot : Nat)
  /-- R23: The registrar service PORT_BIND binds a Tvedfy host context, first closing its maps if the binding changes. -/
  | portBind (slot : Nat)
  /-- R25: The registrar service OBJ_CREATE allocates a slot, logical shelves and charges, and returns a handle. -/
  | objCreate (slot : Nat)
  /-- R529: The registrar service OBJ_RESIZE grows or shrinks an object. -/
  | objResize (slot : Nat)
  /-- R40: The registrar service OBJ_PLACE changes an object's placement class. -/
  | objPlace (slot : Nat)
  /-- R49: The registrar service OBJ_DELETE invalidates the object, trims its shelves and frees them, or answers BUSY. -/
  | objDelete (slot : Nat)
  /-- R29: The registrar service GRANT_SET writes a grant table entry. -/
  | grantSet (slot : Nat)
  /-- R29: The registrar service GRANT_CLEAR clears a grant table entry. -/
  | grantClear (slot : Nat)
  /-- R35: The registrar service WINDOW_SET writes a RoCE window entry. -/
  | windowSet (slot : Nat)
  /-- R37: The registrar service WINDOW_CLEAR increments the key tag and waits for the window's accesses in progress. -/
  | windowClear (slot : Nat)
  /-- R37: Every request that passed the window check has completed, and WINDOW_CLEAR completes. -/
  | windowClearComplete (n : Nat)
  /-- R269: The registrar service NET_HOST_SET writes a host-table entry. -/
  | netHostSet (slot : Nat)
  /-- R81: The registrar service STREAM_ABORT ends the open epoch with a report of CAUSE 4. -/
  | streamAbort (slot : Nat)
  /-- R86: The registrar service EPOCH_REPORT_READ returns report records of any stream. -/
  | epochReportRead (slot : Nat)
  /-- R86: The registrar service EPOCH_REPORT_RELEASE discards a stream's report. -/
  | epochReportRelease (slot : Nat)
  /-- R423: The registrar service FOLIO_MAINT runs a maintenance operation over a range of an object. -/
  | folioMaint (slot : Nat)
  /-- R7: TQM_CMD.CLR_TEN clears the refusal counter of tenant TEN. -/
  | clrTen (ten : Nat)
  /-- R136: A fill's data is ready and its way is free, so the lines are written with their tags and the queued requests are applied. -/
  | fillInstall (folio : Nat)
  /-- R130: FCH or RSV picks a dirty folio to reshelve and copies it to the eviction buffer. -/
  | reshelveSelect (folio : Nat)
  /-- R131: Every line of an eviction-buffer copy is past PENDING, so its TILE_WRITE is sent. -/
  | evbSend (tile : Nat)
  /-- R125: A write that waited for an eligible way finds one and proceeds. -/
  | victimWaitRelease (stream : Nat)
  /-- R134: A hazard entry frees and a waiting request is accepted by FCH. -/
  | hazardWaitRelease
  /-- R123: The ageing sweep visits the next set and lowers the age of each way by one. -/
  | sweepVisit
  /-- R142: Writing FCH_CTRL.MODE = 0 starts a disable, or is refused while an Unbacked object exists. -/
  | fchDisable
  /-- R143: Writing FCH_CTRL.MODE = 1 starts an enable that initialises the directory. -/
  | fchEnable
  /-- R141: A disable or enable completes, and any latched MODE write is acted on. -/
  | fchModeTransitionDone
  /-- R145: Every 1 s an enabled stack link that is down tries training, and the attempt fails after 500 ms without cell lock. -/
  | stkTrainAttempt (link : Nat)
  /-- R163: A stack link trains, STATUS is sent, and the sled is matched against its recorded identity. -/
  | stkLinkTrained (link : Nat)
  /-- R147: A stack-link cell is received, checked by CRC and sequence, and accepted or NAKed. -/
  | cellReceive (link : Nat) (hdr : BitVec 64) (body : List Byte)
  /-- R147: ACKSEQ has not advanced for 20 µs with cells outstanding, so the cells are replayed. -/
  | cellReplayTimeout (link : Nat)
  /-- R157: A TILE_READ response delivers folio records, or TRIMMED and BAD masks, for a fill. -/
  | tileReadResponse (link tag status trimmed bad : Nat) (recs : List (List (Line × Tag)))
  /-- R136: A TILE_WRITE acknowledgement makes its folios clean, frees their buffer entries or keeps them counted. -/
  | tileWriteResponse (link tag status : Nat)
  /-- R49: A TILE_TRIM acknowledgement releases the trimmed sled shelves. -/
  | tileTrimResponse (link tag status : Nat)
  /-- R104: A SHELF_SEAL acknowledgement counts toward the vault header rewrite. -/
  | shelfSealResponse (link tag status : Nat)
  /-- R163: A sled's STATUS payload is stored and its SLED_UID compared with the recorded identity. -/
  | statusResponse (link tag status : Nat) (payload : List Byte)
  /-- R154: A sled answers VAULT_BEGIN with OK, marking it ready, or with BUSY, after which it is asked again 1 ms later. -/
  | vaultBeginResponse (link tag status : Nat)
  /-- R154: 1 ms after a BUSY answer, a fresh VAULT_BEGIN is sent under a new TAG. -/
  | vaultBeginRetry (link : Nat)
  /-- R150: A stack-link HEARTBEAT message arrives and is not answered. -/
  | heartbeat (link count : Nat)
  /-- R154: A stack-link request times out and is re-sent, or fails, taking the link down when it is not a TILE_READ. -/
  | stkRequestTimeout (link tag : Nat)
  /-- R162: A stack link is lost, so its shelves become LOST and its dirty folios are stranded. -/
  | stkLinkLost (link : Nat)
  /-- R162: STK_CMD.RETRAIN takes an UP link to LOST and retrains it. -/
  | stkRetrain (link : Nat)
  /-- R163: The registrar service SLED_ADOPT accepts a FOREIGN sled as empty, records it and trims it. -/
  | sledAdopt (slot : Nat)
  /-- R176: tREFI expires and the channel sends REFab to every logical rank. -/
  | refreshDue (ch : Nat)
  /-- R177: Every 32 ms the MR4 temperature of each rank is read, setting REF2X or HOT as needed. -/
  | tempPollMr4 (ch : Nat) (temps : List Nat)
  /-- R177: Every 100 ms the SPD hub sensors are read through SB0. -/
  | tempPollSpd (ch : Nat) (temps : List Nat)
  /-- R180: Dn_ALERT_N falls, so issue stops, the RCD is cleared and the retry buffer is replayed. -/
  | parityAlert (ch : Nat) (replay : Bool)
  /-- R180: Dn_ALERT_N stays low beyond 1 µs, or a third alert hits one replay, and the channel fails. -/
  | parityAlertTimeout (ch : Nat)
  /-- R185: At its period offset a serving channel pauses for up to 2 µs and re-centres its DQS delays. -/
  | retrainPause (ch rank lane margin : Nat)
  /-- R185: DMC_CMD.RETRAIN_NOW requests one retraining pause at the next refresh. -/
  | retrainNow (ch : Nat)
  /-- R187: DMC_CMD.FCHG starts a switch to the inactive timing set, or does nothing on an unsupported population. -/
  | fchg (ch : Nat)
  /-- R187: The PHY relocks, self-refresh exits and the new timing set is active. -/
  | fchgComplete (ch : Nat) (good : Bool)
  /-- R205: Patrol scrub reads the next line and corrects it or poisons it. -/
  | scrubLine (ch : Nat)
  /-- R203: The registrar has programmed a remap entry into flash, PERSISTED is set and writes go to the spare only. -/
  | remapPersist (ch entry : Nat)
  /-- R205: LPR_CMD.SCRUB_NOW ends the pass and starts a new one at L = 0. -/
  | scrubNow
  /-- R204: LPR_CMD.BIST reruns the coder self-test while no channel is serving. -/
  | lprBist
  /-- R207: LPR_RAW_CMD.READ reads one line into the raw buffer. -/
  | rawRead (path : Nat)
  /-- R207: LPR_RAW_CMD.WRITE writes the raw buffer to one line, with the tag the caller supplies. -/
  | rawWrite (path : Nat)
  /-- R207: LPR_INJ_CTRL.ARM arms an error injection for the next write to LPR_INJ_ADDR. -/
  | injectArm (path : Nat)
  /-- R196: The registrar service DEVICE_DEAD declares a DRAM device dead. -/
  | deviceDead (slot : Nat)
  /-- R203: The registrar service LINE_REMAP remaps a channel-local line to a spare. -/
  | lineRemap (slot : Nat)
  /-- R226: After RETRY_MS a DOWN link that is enabled sends training frames and enters EQ. -/
  | tvlTrainAttempt (lk : Nat)
  /-- R226: Equalisation completes on every lane and the link enters ALIGN. -/
  | equalisationDone (lk pol : Nat)
  /-- R226: EQ has not completed in 500 ms and the link returns to DOWN. -/
  | eqTimeout (lk : Nat)
  /-- R226: Code-word lock, deskew and lane order are reached on every lane, and CONFIG flits are sent. -/
  | alignDone (lk : Nat) (reversed : Bool)
  /-- R226: ALIGN has not completed in 1 ms and the link returns to DOWN. -/
  | alignTimeout (lk : Nat)
  /-- R228: A CONFIG flit is checked and accepted or rejected; a completed handshake makes the link ACTIVE. -/
  | configFlit (lk : Nat) (block : List Byte)
  /-- R226: CONFIG has not completed in 100 µs and the link returns to DOWN. -/
  | configTimeout (lk : Nat)
  /-- R220: A flit is checked by CRC and FSEQ, its ACKSEQ and credits are taken, and its slots are parsed. -/
  | flitReceive (lk : Nat) (hdr : BitVec 64) (slots : List (BitVec 128)) (crc : BitVec 64) (bad : Bool) (fixed : Nat)
  /-- R219: ACKSEQ has not advanced for REPLAY_US with flits kept, so the kept flits are replayed. -/
  | replayTimeout (lk : Nat)
  /-- R226: No intact flit for 10 µs, lost lock, or eight replays from one ACKSEQ take an ACTIVE link to RECOVERY. -/
  | flitLossTimeout (lk : Nat)
  /-- R226: Lock and deskew are regained and an IDLE flit with ACKSEQ arrives, so the link replays and returns to ACTIVE. -/
  | recoveryRegained (lk ackseq : Nat)
  /-- R226: RECOV_MS passes in RECOVERY and the link goes to LOST. -/
  | recoveryTimeout (lk : Nat)
  /-- R229: Every lane shows electrical idle for 500 ns and the link goes to LOST under R230. -/
  | partnerLoss (lk : Nat)
  /-- R226: After 10 µs of electrical idle in LOST the link goes to DOWN. -/
  | lostIdleDone (lk : Nat)
  /-- R231: Writing TVL_CTRL.ENABLE = 0 takes the link down with the effects of R230, and it stays DOWN. -/
  | tvlDisable (port : Nat)
  /-- R226: TVL_CMD.RETRAIN takes the named half to LOST and retrains it. -/
  | tvlRetrain (port half : Nat)
  /-- R259: An Ethernet frame is received, classified by priority, and dropped, buffered or passed on. -/
  | ethFrameReceive (port len : Nat) (fcsOk : Bool) (pcp dscp : Option Nat) (kind : FrameKind) (fixed bad : Nat)
  /-- R263: A received PFC frame pauses the priorities it names for the quanta it gives. -/
  | pfcFrame (port : Nat) (quanta : List (Nat × Nat))
  /-- R263: The pause quanta of a priority run out and the port resumes sending that priority. -/
  | pfcPauseExpiry (port prio : Nat)
  /-- R264: A priority has been paused for WD_MS, so further pause is ignored and unsendable frames are dropped. -/
  | pfcWatchdogTrigger (port prio : Nat)
  /-- R264: 100 ms pass without a pause frame for the priority and the port returns to normal. -/
  | pfcWatchdogRecover (port prio : Nat)
  /-- R293: An Ethernet port comes up and PORT_ACTIVE is written. -/
  | ethPortUp (port : Nat)
  /-- R293: An Ethernet port goes down and PORT_ERR and record 0x410 are written. -/
  | ethPortDown (port cause : Nat)
  /-- R267: An ARP request for a unit address, or for a floating address while holding the token, is answered. -/
  | arpRequest (port target : Nat)
  /-- R267: An IPv6 NS for an address this unit answers for is answered with NA. -/
  | neighborSolicit (port target : Nat)
  /-- R267: An ICMP or ICMPv6 echo request to an answered address is answered. -/
  | icmpEcho (port dst : Nat)
  /-- R268: At 100 ms and 1 s after a token gain the gratuitous ARP and unsolicited NA are repeated. -/
  | gratuitousArpTimer
  /-- R270: A CM REQ to NRE_SID allocates a queue pair and is answered REP, or is rejected. -/
  | cmReq (port dst src comm qpn psn0 sid mtu : Nat) (rc : Bool)
  /-- R270: A CM RTU puts the queue pair into RTS and opens its stream. -/
  | cmRtu (port dst q : Nat)
  /-- R270: Neither RTU nor a valid packet arrives within 1 s of REP, and the queue pair is freed. -/
  | cmRtsTimeout (q : Nat)
  /-- R272: A CM DREQ is answered DREP and the queue pair is freed, reporting its open epoch if it held writes. -/
  | cmDreq (port dst q : Nat)
  /-- R259: A CM REJ from the active side is received on QP1. -/
  | cmRej (port dst q : Nat)
  /-- R273: An RDMA WRITE First packet is admitted and its payload applied line by line. -/
  | rdmaWriteFirst (port : Nat) (p : RPkt)
  /-- R273: An RDMA WRITE Middle packet is applied line by line. -/
  | rdmaWriteMiddle (port : Nat) (p : RPkt)
  /-- R273: An RDMA WRITE Last packet is applied and acknowledged when R55 holds. -/
  | rdmaWriteLast (port : Nat) (p : RPkt)
  /-- R273: An RDMA WRITE Last with Immediate packet is applied, and LAST_IMM is stored. -/
  | rdmaWriteLastImm (port : Nat) (p : RPkt)
  /-- R273: An RDMA WRITE Only packet is admitted, applied and acknowledged. -/
  | rdmaWriteOnly (port : Nat) (p : RPkt)
  /-- R273: An RDMA WRITE Only with Immediate packet is applied, and LAST_IMM is stored. -/
  | rdmaWriteOnlyImm (port : Nat) (p : RPkt)
  /-- R286: An RDMA READ Request is checked for residency and answered with response packets. -/
  | rdmaReadRequest (port : Nat) (p : RPkt)
  /-- R275: A CmpSwap is executed and answered with an Atomic Acknowledge. -/
  | cmpSwap (port : Nat) (p : RPkt)
  /-- R275: A FetchAdd is executed and answered with an Atomic Acknowledge. -/
  | fetchAdd (port : Nat) (p : RPkt)
  /-- R277: A SEND command CLOSE closes the queue pair's epoch under R67. -/
  | roceCmdClose (port : Nat) (p : RPkt)
  /-- R277: A SEND command QUERY_STATE places the epoch state in the status block. -/
  | roceCmdQueryState (port : Nat) (p : RPkt)
  /-- R277: A SEND command QUERY_LINE places a line's entries with live verdicts in the status block. -/
  | roceCmdQueryLine (port : Nat) (p : RPkt)
  /-- R279: A SEND command QUERY_REPORT places report records of this or an earlier queue pair in the status block. -/
  | roceCmdQueryReport (port : Nat) (p : RPkt)
  /-- R279: A SEND command RELEASE discards a report of this or an earlier queue pair. -/
  | roceCmdRelease (port : Nat) (p : RPkt)
  /-- R277: A SEND command NOP is acknowledged once every earlier write meets R55. -/
  | roceCmdNop (port : Nat) (p : RPkt)
  /-- R284: A queue-pair context fetch completes and the waiting packets leave the miss buffer. -/
  | contextFetchDone (q : Nat)
  /-- R288: The folios of a stalled packet become resident and the packet executes. -/
  | qpStallRelease (q : Nat)
  /-- R291: 10 s after an error without DREQ, the queue pair is freed. -/
  | qpErrorFreeTimeout (q : Nat)
  /-- R266: A received CNP slows a circulation stream, or is counted and ignored. -/
  | cnpReceived (port dst qpn : Nat)
  /-- R299: The registrar service CIR_SCHED_LOAD loads a schedule, in chunks, into a slot. -/
  | cirSchedLoad (slot : Nat)
  /-- R299: The registrar service CIR_SCHED_UNLOAD frees a schedule slot and its charge. -/
  | cirSchedUnload (slot : Nat)
  /-- R300: The registrar service CIR_STREAM_SET writes a stream record. -/
  | cirStreamSet (slot : Nat)
  /-- R299: The registrar service CIR_STREAM_RETARGET changes a stream's schedule from its next batch. -/
  | cirStreamRetarget (slot : Nat)
  /-- R299: The registrar service CIR_STREAM_START moves a stream to ARMED. -/
  | cirStreamStart (slot : Nat)
  /-- R311: The registrar service CIR_STREAM_STOP ends the batch at the next tile boundary with STATUS STOPPED. -/
  | cirStreamStop (slot : Nat)
  /-- R301: A consumer's CM REQ to CIR_SID connects an ARMED stream and starts its batch. -/
  | cirConsumerReq (port dst src comm qpn sid mtu stream slots va rkey : Nat) (rc : Bool)
  /-- R305: A tile is whole in its desk buffer. -/
  | tileFetchDone (stream : Nat)
  /-- R304: A stream sends its next tile as an RDMA WRITE into its ring slot. -/
  | cirTileSend (stream : Nat)
  /-- R304: The ACK for a tile arrives and PRODUCED is written. -/
  | cirTileAck (stream psn : Nat)
  /-- R303: With the ring full, FREED is read by an 8-byte RDMA READ at most once per CIR_POLL.US. -/
  | freedPoll (stream : Nat)
  /-- R303: The READ response carrying FREED updates the ring space of the stream. -/
  | freedReadResponse (stream value : Nat)
  /-- R304: Every KEEPALIVE_MS with no tile in flight, TICK is incremented in the ring. -/
  | tickKeepalive (stream : Nat)
  /-- R307: A late tile has waited beyond CIR_LATE.US, so the wait is counted as an event. -/
  | lateWaitTimeout (stream : Nat)
  /-- R308: The batch completion write is acknowledged, buffers return and the next batch starts or the stream rests. -/
  | completionAck (stream : Nat)
  /-- R309: A circulation queue pair enters error, and the stream discards its batch and returns to ARMED. -/
  | cirQpError (stream : Nat)
  /-- R309: Each RECOVER_US without a CNP the stream's rate rises by 1 GB/s, up to RATE. -/
  | cirRateRecover (stream : Nat)
  /-- R326: The twin link is lost; the active treats the standby as lost and the standby judges by the heartbeat. -/
  | twinLinkLost
  /-- R324: The standby applies a mirrored full-line write with its entry and tag. -/
  | wFull (stream line ssn kind : Nat) (result : Bool) (data : Line)
  /-- R324: The standby applies a mirrored byte-masked write as a read-modify-write. -/
  | wMasked (stream line ssn : Nat) (mask : BitVec 128) (data : Line)
  /-- R324: The standby executes a mirrored atomic and returns RESULT. -/
  | wAtomic (stream line ssn aop off : Nat) (a b : BitVec 128)
  /-- R324: The standby applies a mirrored zero-folio. -/
  | wZero (stream line ssn : Nat)
  /-- R324: The standby applies an EPOCH frame to its stream record and sends DIGEST on CLOSE. -/
  | twinEpochFrame (stream eop cause : Nat) (mode fin setMode : Bool) (epoch : Nat)
  /-- R324: The standby updates LAST_SSN from an SSN frame. -/
  | twinSsnFrame (stream ssn : Nat)
  /-- R324: The standby executes a mirrored service and sends FAULT if its result differs. -/
  | twinServiceFrame (svc : Svc) (result : Nat)
  /-- R324: The standby promotes the named folio at age 3. -/
  | twinFillFrame (folio : Nat)
  /-- R343: The joiner writes a resync line with its tag as a DIRTY line. -/
  | rsLine (line : Nat) (tag : Tag) (data : Line)
  /-- R343: The joiner treats a resync tile as trimmed. -/
  | rsTrim (tile : Nat)
  /-- R343: The joiner copies a part of a table from the holder. -/
  | rsState (item : RsItem)
  /-- R343: A MiB region's resync copy ends. -/
  | rsRegion (region : Nat)
  /-- R343: The joiner becomes IN_STEP and the pair is PAIRED again. -/
  | rsEnd
  /-- R343: Within the resync rate, the holder starts copying the next marked region. -/
  | resyncRegionCopy
  /-- R322: An APPLIED frame moves PENDING lines to DIRTY and releases mirrored acknowledgements up to its MSEQ. -/
  | applied (mseq : Nat)
  /-- R329: The active compares an atomic's RESULT with its own, and fences the standby on a mismatch. -/
  | result (mseq : Nat) (casOk : Bool) (old : Nat)
  /-- R330: The active compares the standby's epoch digest with its own. -/
  | digest (stream epoch : Nat) (skipped : Bool) (crc : BitVec 64) (mseq : Nat)
  /-- R330: No DIGEST arrives within DIGEST_US of a CLOSE, which is a failure indication. -/
  | digestTimeout (stream : Nat)
  /-- R327: A STATUS frame gives the active the partner's free shelves. -/
  | twinStatus (free stage mseq : Nat)
  /-- R327: Every 1 ms the standby sends STATUS. -/
  | statusTimer
  /-- R326: A FAULT frame makes the active treat the standby as lost. -/
  | fault (cause mseq : Nat)
  /-- R342: DIVERGE frames add a joiner's divergence regions to the change map. -/
  | diverge (regions : List Nat)
  /-- R326: APPLIED has not advanced for STALL_MS, so FENCE is sent with REASON 4. -/
  | appliedStall
  /-- R331: Every 2 ms the holder sends LEASE. -/
  | leaseTimer
  /-- R331: The standby receives LEASE, renews its lease view and answers LEASE_ACK. -/
  | lease (gen renew mseq : Nat)
  /-- R331: The holder receives LEASE_ACK and its right to act is extended. -/
  | leaseAck (gen renew : Nat)
  /-- R332: The standby applies frames through the drop's MSEQ and gains the token. -/
  | leaseDrop (gen mseq reason : Nat)
  /-- R331: No may-act condition holds any longer, so the holder demotes. -/
  | leaseLapse
  /-- R332: The standby's lease view expires 10.1 ms after the last LEASE. -/
  | leaseViewExpiry
  /-- R340: A received FENCE makes the unit FENCED. -/
  | fence (gen reason : Nat)
  /-- R336: A HELLO drives start-up arbitration or a join request. -/
  | hello (gen : Nat) (wasHolder stateOk vaultOk : Bool) (role diverge : Nat)
  /-- R343: A JOIN answer starts catch-up, or refuses the joiner. -/
  | join (gen : Nat) (accept : Bool) (reason : Nat)
  /-- R334: Every 100 µs the unit drives a TWIN_HB_OUT pulse whose width tells its role. -/
  | hbPulseOut
  /-- R334: A heartbeat pulse is received and classified by its width. -/
  | hbPulseIn (ns : Nat)
  /-- R341: 500 µs pass without a valid pulse; a standby with the link down claims or detaches. -/
  | hbAbsent
  /-- R316: 1 ms after entering CLAIMING, or 2 ms after DENY_HELD, the unit sends CLAIM to the witness. -/
  | claimTimer
  /-- R316: No HELLO arrives for BOOT_S, so a STARTING unit with a witness claims. -/
  | bootTimeout
  /-- R333: Every 2 ms with the twin link down the holder sends RENEW to the witness. -/
  | witnessRenewTimer
  /-- R335: An unanswered witness request is repeated every 2 ms; after three, WITNESS_OK clears. -/
  | witnessRetry
  /-- R335: A GRANT answer with a valid CMAC grants a claim or extends the right to act. -/
  | witnessGrant (msg : List Byte)
  /-- R335: DENY_HELD makes a claimer retry, or a renewing holder demote. -/
  | witnessDenyHeld (msg : List Byte)
  /-- R335: DENY_STALE ends a claim, or makes a renewing holder demote. -/
  | witnessDenyStale (msg : List Byte)
  /-- R316: The registrar service TWIN_JOIN sends HELLO from FENCED to catch up. -/
  | twinJoin (slot : Nat)
  /-- R338: The registrar service TWIN_HANDOVER drains the holder and drops its lease to the standby. -/
  | twinHandover (slot : Nat)
  /-- R337: The registrar service TWIN_TAKEOVER makes the unit ACTIVE without the lease checks. -/
  | twinTakeover (slot : Nat)
  /-- R340: The registrar service TWIN_FENCE makes the unit FENCED. -/
  | twinFence (slot : Nat)
  /-- R350: A buffer request is granted from the reserve, the shared part or headroom, or fails and is handled under R352. -/
  | bufferAlloc (owner pool n : Nat) (upsize lossless : Bool) (tenant : Option Nat)
  /-- R354: A returned buffer pointer is checked and freed, or dropped as a bad return. -/
  | bufferReturn (ptr owner : Nat)
  /-- R352: A waiting buffer request is tried again in a later cycle or on a return. -/
  | bufferWaitRetry (k : Nat)
  /-- R366: A read of INT_CLAIM returns and activates the most urgent deliverable source, or returns 0xFFF or 0x000. -/
  | intClaim (t : Nat)
  /-- R367: A write of INT_COMPLETE completes an active source, or is counted as a stray. -/
  | intComplete (t n : Nat)
  /-- R363: A write of INT_SWSET sets a source pending as if it had fired. -/
  | intSwset (n : Nat)
  /-- R369: A write of INT_SRC or INT_SRC_TGT changes the mask, priority or targets, withdrawing uncommitted offers. -/
  | intSrcWrite (n : Nat) (tgtSet : Bool) (value : Nat)
  /-- R420: A write of RGC_MB_DOORBELL queues a mailbox slot for service. -/
  | mbDoorbell (slot : Nat)
  /-- R420: A mailbox service finishes and its slot becomes DONE. -/
  | serviceComplete (slot : Nat)
  /-- R424: RGC_MB_CMD.ACK_RESTART clears RESTARTED. -/
  | ackRestart
  /-- R425: The registrar service IMAGE_WRITE erases a copy at FIRST and programs image data. -/
  | imageWrite (slot : Nat)
  /-- R426: The registrar service IMAGE_VERIFY checks a copy and programs its header on a pass. -/
  | imageVerify (slot : Nat)
  /-- R399: The registrar service IMAGE_RELOAD rewrites every image field while Quiesced, or is denied. -/
  | imageReload (slot : Nat)
  /-- R427: The registrar service IMAGE_FLOOR raises RGC_IMAGE_FLOOR. -/
  | imageFloor (slot : Nat)
  /-- R429: The registrar service FW_WRITE erases and programs the inactive firmware bank. -/
  | fwWrite (slot : Nat)
  /-- R429: The registrar service FW_ACTIVATE checks the inactive bank, switches the pointer and restarts the registrar. -/
  | fwActivate (slot : Nat)
  /-- R429: 60 s without a watchdog expiry confirm new firmware, and FW_CONFIRMED is set. -/
  | fwConfirmTimer
  /-- R418: A write to a register with no row of its own applies its live fields and ignores locked ones. -/
  | registerWrite (path be addr value : Nat)
  /-- R493: An access to an unassigned window returns 0 and is counted. -/
  | unmappedAccess (path window offset : Nat) (write : Bool)
  /-- R499: An IDATA access reads or writes the indirect word at the path's IADDR and advances it by 4. -/
  | idataAccess (path iaddr : Nat) (write : Bool) (value : Nat)
  /-- R501: SNAP copies every live counter of a block into its SH registers. -/
  | counterSnap (path window : Nat)
  /-- R434: The ROM entry point READ reads embedded-flash words and classifies them. -/
  | flashRead (addr n : Nat)
  /-- R433: The ROM entry point PROGRAM programs code words and verifies them. -/
  | flashProgram (addr : Nat) (data : BitVec 128)
  /-- R438: The ROM entry point ERASE journals ERASE_OPEN and erases a sector. -/
  | flashErase (addr : Nat)
  /-- R438: A sector erase completes and ERASE_DONE is journalled. -/
  | flashEraseDone (bank : Nat) (good : Bool)
  /-- R435: A suspended erase resumes when the request that suspended it is done. -/
  | flashEraseResume
  /-- R448: A daybook record is queued, or dropped with a later record 0x481 when the queue is full. -/
  | daybookRecord (code : Nat) (words : List Nat)
  /-- R447: The next queued record is programmed into the next slot, VALID last. -/
  | daybookProgram
  /-- R442: Every 0.1 h the operating-hours record is written to the settings journal. -/
  | hoursCheckpoint
  /-- R450: A read of DBK_WIN15 with AUTO = 1 advances DBK_CURSOR. -/
  | dbkWin15Read
  /-- R496: A read of DBK_SEQ_LO latches DBK_SEQ_HI. -/
  | dbkSeqLoRead
  /-- R466: SEC_UNLOCK.CHALLENGE forms a new challenge for the chosen purpose, or is refused. -/
  | unlockChallenge (path purpose : Nat)
  /-- R466: SEC_UNLOCK.SUBMIT starts an URGENT verify of the response against the challenge. -/
  | unlockSubmit (path : Nat)
  /-- R468: SEC_UNLOCK.RELOCK returns the debug level to its starting level. -/
  | unlockRelock (path : Nat)
  /-- R466: A challenge is no longer valid 10 s after it was issued. -/
  | challengeExpiry
  /-- R461: SEC_PROVISION.COMMIT checks copy B and the firmware, then burns the seed and OWNED. -/
  | provisionCommit
  /-- R462: The seed and OWNED burns finish or fail; the registrar erases copy A and powers down. -/
  | fuseBurnDone (good : Bool)
  /-- R459: A key-check request is queued by priority, suspending a NORMAL request for an URGENT one. -/
  | kceRequest (who slot use : Nat) (msg mac : List Byte)
  /-- R458: A key-check request finishes with OK, MATCH, MISMATCH, NO_KEY, USE or ABORTED. -/
  | kceRequestDone
  /-- R479: A sideband controller transaction runs on its channel and ends with a result. -/
  | sbTransaction (ch addr : Nat) (bytes : List Byte) (lost : Nat) (ack pecOk hang : Bool)
  /-- R478: A channel checks that its bus is idle and recovers a stuck SDA. -/
  | sbIdleCheck (ch : Nat) (scl sda : Bool) (readings : List Bool)
  /-- R478: A STUCK channel repeats the idle check every 1 s. -/
  | sbStuckRetry (ch : Nat) (scl sda : Bool) (readings : List Bool)
  /-- R477: SDA held low on an idle sole bus is an attention request, answered from the Alert Response Address. -/
  | sbAttention (ch : Nat) (addrs : List Nat)
  /-- R474: A target holds SCL low for 25 ms within a transaction, which ends with TIMEOUT. -/
  | sbTimeout (ch : Nat)
  /-- R480: An SBT write transaction sets the pointer and writes target-port bytes, including WDATA. -/
  | sbtWrite (bytes : List Byte)
  /-- R480: An SBT read transaction returns bytes from the pointer, fetching WDATA at 0x18. -/
  | sbtRead (n : Nat)
  /-- R480: SCL low for more than 25 ms drops the SBT pointer and byte state. -/
  | sbtSclTimeout
  /-- R484: A write of DFT_LANE_CTRL puts a lane in or out of test, or is refused. -/
  | laneTestSet (path value : Nat)
  /-- R486: DFT_LANE_CTRL.INJ inverts one transmitted bit. -/
  | laneInject (path : Nat)
  /-- R486: DFT_CMD.CLR zeroes the lane test counts. -/
  | dftClr (path : Nat)
  /-- R489: DFT_DRAM_CTRL.GO runs a 10 ms data or address bus test on a channel while Quiesced. -/
  | dramBusTest (path ch mode : Nat)
  /-- R489: The bus test ends and the channel returns to self-refresh. -/
  | dramBusTestDone (missed falseAlerts : Nat) (errs : List Nat)
  /-- R490: A JTAG instruction is executed, gated by the debug level. -/
  | jtagInstruction (op : JtagOp)
  /-- R464: A JTAG DBG_ACCESS reads or writes the management window as the debug level allows. -/
  | dbgAccess (write : Bool) (addr value : Nat)
  /-- R180: Dn_ALERT_N returns high after a parity alert, and the channel clears the RCD error, precharges and replays its retry buffer. -/
  | alertNHigh (ch : Nat)
  /-- R372: A disabled rail's PG_RAIL falls during a power-down, and the sequence completes once every enabled rail shows PG low. -/
  | railPgFall (rail : Nat)
  /-- R486: A lane checker has seen 256 bits without error, sets LOCK and starts counting bits and errors. -/
  | checkerLock (lane : Nat) (inverted : Bool)
  /-- R486: Sixty-four errors within 1,024 bits clear LOCK, count a lock loss and make the checker seed again. -/
  | checkerLockLoss (lane bits errs : Nat)
  /-- R204: The rerun coder self-test finishes within 2 ms, sets BIST_DONE and, on a difference, BIST_FAIL with a fatal fault. -/
  | lprBistDone (good : Bool) (pair vector : Nat)
  /-- R435: A code-word program and its read-back finish, answering OK or FAILED and releasing reads and programs that waited on the bank. -/
  | flashProgramDone (bank : Nat) (good : Bool)
  /-- R362: The host enables MSI-X in configuration space or unmasks a vector in the BAR2 table, enabling a target or releasing a held message. -/
  | msixControlWrite (enable mask0 mask1 : Bool)
  /-- R259: A CM MRA from the client is received on QP1. -/
  | cmMra (port dst q : Nat)
  /-- R308: A NAK, such as an RNR NAK from the consumer or a PSN sequence error, arrives on a circulation queue pair. -/
  | cirNak (stream psn syn : Nat)
  /-- R308: The RNR timer given by the consumer runs out and the circulation queue pair resends from the NAKed PSN, without limit. -/
  | cirRnrRetry (stream : Nat)
  /-- R309: The requester's ACK timeout of code 14 expires on a circulation queue pair and the unacknowledged packets are resent while retries remain. -/
  | cirAckTimeout (stream : Nat)
deriving DecidableEq, Repr

end Sys2Proof
end

