-- ==== Sys2Proof/Decode.lean ====
section
/-! DEFINITION. The command a table word spells. Every row of the command table has an empty list of fields and gives
no bits, so no word spells a command. -/

namespace Sys2Proof

/-- No row of the table gives bits. -/
def decodeTableWord (nbits w : Nat) : Option Instr :=
  match nbits, w with
  | _, _ => none

end Sys2Proof
end

