-- ==== Sys2Proof/Machine/Aes.lean ====
section
/-! DEFINITION. AES-CMAC (R454 to R458): the cipher of FIPS 197 with 128-bit and 256-bit keys, the MAC of NIST
SP 800-38B, and the counter-mode derivation of R455. Bytes are lists in their order of transmission. -/

namespace Sys2Proof.Machine

/-- The S-box, 32 entries a number, entry 0 in the low byte of the first. -/
def sboxRows : List Nat := [
  0xC072A49CAFA2D4ADF04759FA7DC982CA76ABD7FE2B670130C56F6BF27B777C63,
  0x75B227EBE28012079A059618C323C7041531D871F1E5A534CCF73F362693FDB7,
  0xCF584C4A39BECB6A5BB1FC20ED00D153842FE329B3D63B52A05A6E1B1A2C8309,
  0xD2F3FF1021DAB6BCF5389D928F40A351A89F3C507F02F94585334D43FBAAEFD0,
  0xDB0B5EDE14B8EE4688902A22DC4F816073195D643D7EA7C41744975FEC130CCD,
  0x08AE7A65EAF4566CA94ED58D6D37C8E779E4959162ACD3C25C2406490A3A32E0,
  0x9E1DC186B95735610EF6034866B53E708A8BBD4B1F74DDE8C6B4A61C2E2578BA,
  0x16BB54B00F2D99416842E6BF0D89A18CDF2855CEE9871E9B948ED9691198F8E1]

/-- The S-box. -/
def sbox (b : Nat) : Nat := bitsOf (sboxRows.getD (b / 32) 0) (8 * (b % 32) + 7) (8 * (b % 32))

/-- Multiplies by x in GF(2^8). -/
def xtime (a : Nat) : Nat := if a * 2 ≥ 256 then (a * 2 - 256) ^^^ 0x1B else a * 2

/-- XOR of two byte lists. -/
def xorBytes (a b : List Nat) : List Nat := List.zipWith (· ^^^ ·) a b

/-- The next four bytes of the key schedule: word `i` of a key of `nk` words, from the words so far, newest first. -/
def keyWord (nk i rcon : Nat) (ws : List (List Nat)) : List Nat :=
  let prev := ws.headD []
  let back := ws.getD (nk - 1) []
  let t := if i % nk = 0 then
      let r := (prev.drop 1 ++ prev.take 1).map sbox
      xorBytes r [rcon, 0, 0, 0]
    else if nk > 6 ∧ i % nk = 4 then prev.map sbox
    else prev
  xorBytes back t

/-- The key schedule, `n` more words, newest first. -/
def keyMore (nk : Nat) : Nat → Nat → Nat → List (List Nat) → List (List Nat)
  | 0, _, _, ws => ws
  | n + 1, i, rcon, ws => keyMore nk n (i + 1) (if i % nk = 0 then xtime rcon else rcon) (keyWord nk i rcon ws :: ws)

/-- Cuts a list into fours. -/
def fours : Nat → List Nat → List (List Nat)
  | 0, _ => []
  | n + 1, l => l.take 4 :: fours n (l.drop 4)

/-- The round keys of a key of 16 or 32 bytes, 16 bytes each. -/
def roundKeys (key : List Nat) : List (List Nat) :=
  let nk := key.length / 4
  let total := 4 * (nk + 7)
  let ws := (keyMore nk (total - nk) nk 1 (fours nk key).reverse).reverse
  (List.range (nk + 7)).map (fun r => ((ws.drop (4 * r)).take 4).flatten)

/-- ShiftRows on 16 bytes in column order. -/
def shiftRows (s : List Nat) : List Nat := (List.range 16).map (fun i => s.getD ((i + 4 * (i % 4)) % 16) 0)

/-- MixColumns on one column. -/
def mixCol (c : List Nat) : List Nat :=
  let a := c.getD 0 0
  let b := c.getD 1 0
  let d := c.getD 2 0
  let e := c.getD 3 0
  [xtime a ^^^ xtime b ^^^ b ^^^ d ^^^ e, a ^^^ xtime b ^^^ xtime d ^^^ d ^^^ e,
    a ^^^ b ^^^ xtime d ^^^ xtime e ^^^ e, xtime a ^^^ a ^^^ b ^^^ d ^^^ xtime e]

/-- The rounds after the first key addition. -/
def aesRounds : List (List Nat) → List Nat → List Nat
  | [], s => s
  | [k], s => xorBytes (shiftRows (s.map sbox)) k
  | k :: t, s => aesRounds t (xorBytes ((fours 4 (shiftRows (s.map sbox))).map mixCol).flatten k)

/-- AES of one block. -/
def aes (rk : List (List Nat)) (block : List Nat) : List Nat :=
  match rk with
  | [] => block
  | k :: t => aesRounds t (xorBytes block k)

/-- Doubling of CMAC: shift left by one, 0x87 when a bit falls out. -/
def cmacDouble (b : List Nat) : List Nat :=
  let v := b.foldl (fun a x => a * 256 + x) 0
  let w := if v * 2 ≥ 2 ^ 128 then (v * 2 - 2 ^ 128) ^^^ 0x87 else v * 2
  (List.range 16).map (fun i => (w >>> (8 * (15 - i))) % 256)

/-- The chaining of CMAC over the blocks; `fuel` bounds their number. -/
def cmacChain (rk : List (List Nat)) (k1 k2 : List Nat) : Nat → List Nat → List Nat → List Nat
  | 0, c, _ => c
  | n + 1, c, m =>
    if m.length > 16 then cmacChain rk k1 k2 n (aes rk (xorBytes c (m.take 16))) (m.drop 16)
    else if m.length = 16 then aes rk (xorBytes c (xorBytes m k1))
    else aes rk (xorBytes c (xorBytes (m ++ [0x80] ++ List.replicate (15 - m.length) 0) k2))

/-- AES-CMAC of a message under a key of 16 or 32 bytes: 16 bytes. -/
def cmac (key msg : List Nat) : List Nat :=
  let rk := roundKeys key
  let k1 := cmacDouble (aes rk (List.replicate 16 0))
  cmacChain rk k1 (cmacDouble k1) (msg.length / 16 + 1) (List.replicate 16 0) msg

/-- `n` little-endian bytes of a number, as numbers. -/
def leNats : Nat → Nat → List Nat
  | 0, _ => []
  | n + 1, v => v % 256 :: leNats n (v / 256)

/-- A derived key (R455): one block or two, each the CMAC of counter, label, 0, context, L. -/
def deriveKey (parent : List Nat) (label : List Nat) (context : List Nat) (long : Bool) : List Nat :=
  let blk (i : Nat) : List Nat := cmac parent ([i] ++ label ++ [0] ++ context ++ [if long then 2 else 1])
  if long then blk 1 ++ blk 2 else blk 1

/-- The context of every key but OWNER_ROOT: DIE_UID and eight zero bytes (R455). -/
def dieContext (uid : Nat) : List Nat := leNats 8 uid ++ List.replicate 8 0

/-- The bytes of a label (R456). -/
def labelOWNERKEY : List Nat := [0x4F, 0x57, 0x4E, 0x45, 0x52, 0x4B, 0x45, 0x59]
def labelIMAGEKEY : List Nat := [0x49, 0x4D, 0x41, 0x47, 0x45, 0x4B, 0x45, 0x59]
def labelFIRMWARE : List Nat := [0x46, 0x49, 0x52, 0x4D, 0x57, 0x41, 0x52, 0x45]
def labelDEBUGKEY : List Nat := [0x44, 0x45, 0x42, 0x55, 0x47, 0x4B, 0x45, 0x59]

/-- CRC-32 of IEEE 802.3 (R412, R442, R444). -/
def crc32 (l : List Byte) : BitVec 32 := ~~~(crcBytesR 0xEDB88320#32 0xFFFFFFFF#32 l)

end Sys2Proof.Machine
end

