-- ==== Sys2Proof/Config.lean ====
section
/-! DEFINITION. What the manual leaves open: values with no body, so that nothing can be proved of them. Each is applied
to the model's counter of free values, or to the operands it depends on. -/

namespace Sys2Proof.Config

/-- A free bit where the manual leaves a choice between two orders or outcomes. -/
opaque freeBit : Nat → Bool

/-- A free 32-bit value. -/
opaque freeWord : Nat → BitVec 32

/-- A free line. -/
opaque freeLine : Nat → BitVec 1024

/-- A line of the reserved DRAM region as the registrar wrote it at a start (R200), where the manual gives no content. -/
opaque reservedLine : Nat → BitVec 1024

/-- Coefficient of an operation in nJ, 16 bits, in R390's order: the manual gives no value. -/
opaque energyCoef (i : Nat) : BitVec 16

/-- Word 0 or 1 of a rail monitor pair (R391): which channels measure a rail is the board's. -/
opaque railPair (pair word : Nat) : BitVec 32

/-- Sorjan's manufacturer code in JTAG IDCODE bits [11:0] (R490): given in the BSDL file; bit 0 is 1. -/
opaque idcodeLow : BitVec 11

/-- A word of a record whose layout the manual does not give: which record, which word, and what the record holds. -/
opaque recordWord (record word : Nat) (content : List Nat) : BitVec 32

/-- Symbol `k` after the first of a lane's alignment marker (R212): the manual gives it no content. -/
opaque markerSymbol (lane k : Nat) : BitVec 10

/-- State of a link's scrambler when its FEC stream starts (R212): the manual gives none. -/
opaque scramblerStart (ctr : Nat) : BitVec 58

/-- The number that stands for a named item of a daybook record, where the manual gives the item no number: record code,
position of the item in the list, and which of its names is meant. -/
opaque itemCode (record item choice : Nat) : Nat

end Sys2Proof.Config
end

