-- ==== Sys2Proof/Machine/Blocks.lean ====
section
/-! DEFINITION. The state of the data-path blocks: INT, TQM, EPO, FCH, RSV, LPR, STK, TWN and BPM. A field's docstring
names the rule that gives it and, in brackets, its value at reset. Registers that only hold a setting stand in the
register files of State.lean. -/

namespace Sys2Proof.Machine

/-- One interrupt source (R359, R363). -/
structure IntSrc where
  /-- [R359; reset 0] counter of a Count source, 12 bits, saturating -/
  cnt : Nat := 0
  /-- [R363; reset 0] software flag of a Level source -/
  sw : Bool := false
  /-- [R364; reset none] target it is active at -/
  active : Option Nat := none
  /-- [R363; reset none] target it is offered to -/
  offered : Option Nat := none
  /-- [R363; reset 20] target it was last offered to -/
  last : Nat := 20
deriving DecidableEq, Repr

/-- One interrupt target (R361, R365). -/
structure IntTgt where
  /-- [R365; reset 0] SIGNALLED -/
  signalled : Bool := false
  /-- [R365; reset 0] it held a deliverable source when last looked at -/
  held : Bool := false
  /-- [R362; reset 0] MSI-X message held in the pending-bit array -/
  pba : Bool := false
  /-- [R362; reset 0, DESIGN CHOICE] the vector is masked in the MSI-X table -/
  vecMask : Bool := false
deriving DecidableEq, Repr

/-- INT. -/
structure IntSt where
  /-- [R359; reset none listed] the sources, by number -/
  srcs : Tab IntSrc := []
  /-- [R361; reset none listed] the targets, by number -/
  tgts : Tab IntTgt := []
  /-- [R362; reset 0, DESIGN CHOICE] MSI-X enabled in the endpoint's configuration space -/
  msixEn : Bool := false
  /-- [R367; reset 1] the MODE that step 11 of a start puts in force: the image's, SERVICE by default -/
  imgMode : Bool := true
  /-- [R365; reset 0] the registrar's notification line -/
  line0 : Bool := false
  /-- [R365; reset 1] level of IRQ_N[0]: low while target 3 holds a deliverable source -/
  irq0Low : Bool := false
  /-- [R365; reset 1] level of IRQ_N[1] -/
  irq1Low : Bool := false
deriving DecidableEq, Repr

/-- TQM. -/
structure TqmSt where
  /-- [R528; reset none written] tenant table, by tenant ID -/
  tenants : Tab Tenant := []
  /-- [R24; reset none live] object table, by slot -/
  objs : Tab Obj := []
  /-- [R29; reset empty] grant table, 16,384 entries -/
  grants : Tab Grant := []
  /-- [R35; reset empty] window table, 1,048,576 entries -/
  windows : Tab Window := []
  /-- [R31; reset empty] maps, by context * 4,096 + index -/
  maps : Tab MapEnt := []
  /-- [R23; reset unbound] bindings of the 32 host contexts -/
  ctxs : Tab Ctx := []
  /-- [R48; reset FREE] shelf table, by logical shelf -/
  shelves : Tab Shelf := []
  /-- [TQM_STATUS; reset 0] tables loaded, translation running -/
  ready : Bool := false
  /-- [R246; reset empty] requests of several parts in progress -/
  grps : Tab Grp := []
  /-- [R246; reset 0] number of the next such request (the model's own) -/
  nextGrp : Nat := 0
  /-- [R327; reset empty] allocations that wait for the partner's first STATUS: mailbox slot and request -/
  allocWaits : List (Nat × Svc) := []
  /-- [R23, R34; reset empty] PORT_BINDs whose maps are still closing: context, host, tenant, and who is answered -/
  binds : List (Nat × Nat × Nat × Src) := []
deriving DecidableEq, Repr

/-- EPO. -/
structure EpoSt where
  /-- [R63; reset IDLE] stream records, by stream index -/
  streams : Tab Stream := []
  /-- [R403; reset 0] last epoch and LAST_SSN of the streams that are not listed -/
  base : Nat × Nat := (0, 0)
  /-- [R75; reset empty] segments out of the pool -/
  used : List Nat := []
  /-- [EPO_STATUS; reset 0] stream table loaded -/
  ready : Bool := false
  /-- [R253; reset 1: no standby is in step] SOLO as last told to holder links -/
  soloSaid : Bool := true
  /-- [R250; reset empty] loads that wait for an earlier write of their context to the same line -/
  loads : List LoadReq := []
  /-- [R250; reset empty] streams whose front write waits for an earlier request of its context to the same line -/
  behind : List Nat := []
  /-- [R250; reset 0] Tvedfy requests taken, which gives each its place in the order (the model's own) -/
  arrivals : Nat := 0
deriving DecidableEq, Repr

/-- FCH. -/
structure FchSt where
  /-- [R117; reset INVALID] ways, by set * 16 + way -/
  dir : Tab Way := []
  /-- [R117; reset 0] PIN_RSV, by set -/
  pinRsv : Tab Nat := []
  /-- [R115; reset 0] FCH_SETS -/
  sets : Nat := 0
  /-- [R130; reset empty] eviction buffer, at most 4,096 entries -/
  evb : List Evb := []
  /-- [R136; reset empty] folios filling -/
  fills : List Fill := []
  /-- [R138; reset empty] maintenance operations in progress -/
  maints : List MaintReq := []
  /-- [R134; reset empty] requests that wait for a hazard entry -/
  waits : List FReq := []
  /-- [R119; reset empty] set records held by the tag cache, per slice most recently used first -/
  tagc : List Nat := []
  /-- [R120; reset empty] sets out of use until the next start -/
  dead : List Nat := []
  /-- [R141; reset 0] MODE as it reads: 0 DISABLED, 1 ENABLED, 2 DISABLE_PENDING, 3 ENABLE_PENDING -/
  mode : Nat := 0
  /-- [R141; reset none] a MODE write latched during a transition -/
  latched : Option Bool := none
  /-- [R142; reset 0] DISABLE_REFUSED -/
  refused : Bool := false
  /-- [R123; reset 0] next set of the sweep -/
  sweepAt : Nat := 0
  /-- [R141; reset 0] folios cleaned by the disable in progress, for record 0x3D1 -/
  cleaned : Nat := 0
  /-- [R141; reset 0] time the transition began (the model's time) -/
  since : Nat := 0
  /-- [R129; reset empty] promotion fills that failed and wait for an access: folios -/
  promoFailed : List Nat := []
  /-- [R129; reset empty] absent folios of pinned objects that the walk after a start or an enable left unreserved -/
  unres : List Nat := []
  /-- [R142; reset 0] next desk copy (key above every way) of a write-through -/
  nextDesk : Nat := 0
  /-- [R118, R121; reset 0] both DRAM copies of the directory have been written since DRAM was last lost -/
  held : Bool := false
  /-- [R118; reset 0] the AGE fields of each set's record as the DRAM copies hold them, two bits a way -/
  ages : Tab Nat := []
  /-- [R135, R140; reset empty] maintenance operations accepted and not begun: behind another on their folio, or beyond the
  64 folios of a range in progress -/
  maintQ : List MaintReq := []
  /-- [R91, R160; reset none] folios of the metadata shelf that hold changes: 1 DIRTY, 2 RESHELVING, 3 RESHELVING and changed
  since -/
  metaDirty : Tab Nat := []
  /-- [R99; reset 0] share of the slowed prefetches taken so far, in 1/256 (the model's own) -/
  slow : Nat := 0
deriving DecidableEq, Repr

/-- Steps of the vault (R104). -/
inductive VaultPh where
  /-- no vault -/
  | off
  /-- steps 2 to 8: waiting for VAULT_BEGIN -/
  | entry
  /-- steps 9 and 10: writing -/
  | writing
  /-- step 11: seals -/
  | sealing
  /-- step 12: headers -/
  | header
deriving DecidableEq, Repr

/-- RSV. -/
structure RsvSt where
  /-- [R95; reset empty] energy samples in 0.5 fJ (MF times µV squared), newest first, at most 4 -/
  eHist : List Nat := []
  /-- [R95; reset empty] draw samples in nW, newest first, at most 16 -/
  pHist : List Nat := []
  /-- [R97; reset 0] invalid samples in a row on the bank channel -/
  badBank : Nat := 0
  /-- [R97; reset 0] invalid samples in a row on the input-voltage channel -/
  badV : Nat := 0
  /-- [R97; reset 0] invalid samples in a row on the input-current channel -/
  badI : Nat := 0
  /-- [R97; reset 0] moments in a row with all three channels valid -/
  goodRun : Nat := 0
  /-- [R97; reset 0] MON_BAD -/
  monBad : Bool := false
  /-- [RSV_E_NOW; reset 0] usable energy in J -/
  eNow : Nat := 0
  /-- [RSV_P_NOW; reset 0] draw in W -/
  pNow : Nat := 0
  /-- [RSV_T_AVAIL; reset 0] time available in ms -/
  tAvail : Nat := 0
  /-- [RSV_BUDGET; reset 0] budget in force, in folios -/
  budget : Nat := 0
  /-- [R95; reset 0] per-sled budgets Bs, by link -/
  bs : Tab Nat := []
  /-- [R99; reset 0] stage 0 to 4 -/
  stage : Nat := 0
  /-- [R98; reset 0] OVER -/
  overB : Bool := false
  /-- [R102; reset 0] armed at step 9 of the start -/
  armed : Bool := false
  /-- [R104; reset off] step of the vault -/
  ph : VaultPh := .off
  /-- [R106; reset 0] VAULT_SEQ of the last vault -/
  vaultSeq : Nat := 0
  /-- [R106; reset 0] READY: sleds that answered VAULT_BEGIN -/
  ready : Nat := 0
  /-- [R104; reset 0] sleds marked failed in the header -/
  failed : Nat := 0
  /-- [R106; reset 0] PLANNED -/
  planned : Nat := 0
  /-- [R106; reset 0] folios acknowledged by the vault so far -/
  written : Nat := 0
  /-- [R106; reset 0] E_START -/
  eStart : Nat := 0
  /-- [R104; reset 0] time of step 2 (the model's time, µs) -/
  began : Nat := 0
  /-- [R104; reset 0] sleds whose seal is acknowledged -/
  sealed : Nat := 0
  /-- [R104; reset 0] sleds whose COMPLETE header is acknowledged -/
  headed : Nat := 0
  /-- [R403; reset 0] VAULT_ACCEPT has the stream table of an unclean start still to load -/
  loadDue : Bool := false
  /-- [RSV_STATUS; reset 0] LAST_INCOMPLETE -/
  lastIncomplete : Bool := false
  /-- [R107; reset empty] dirty-shelf map of the last incomplete vault: shelves marked -/
  dirtyMap : List Nat := []
  /-- [RSV_LAST_VAULT; reset 0] DURATION of the header read at start -/
  lastMs : Nat := 0
  /-- [RSV_LAST_FOLIOS; reset 0] WRITTEN of that header -/
  lastFolios : Nat := 0
  /-- [R99, R263; reset none] priorities for which stage 4's XOFF stands, by Ethernet port -/
  xoff : Tab Nat := []
  /-- [R106; reset empty] header and map tiles of the vault that some sled has acknowledged -/
  acked : List Nat := []
  /-- [R92, R104; reset empty] the stream table that the last vault wrote to the sleds -/
  savedStreams : Tab Stream := []
  /-- [R65, R403; reset 0] last epoch and LAST_SSN of the streams not listed, as it wrote them -/
  savedBase : Nat × Nat := (0, 0)
  /-- [R104; reset empty] the pool segments in use that it wrote -/
  savedSegs : List Nat := []
deriving DecidableEq, Repr

/-- A remap entry (R202). -/
structure Remap where
  /-- [R202; reset 0] channel-local line L, 33 bits -/
  l : Nat := 0
  /-- [R202; reset 0] spare line, 0 to 127 -/
  spare : Nat := 0
  /-- [R202; reset 0] VALID -/
  valid : Bool := false
  /-- [R203; reset 0] PERSISTED -/
  persisted : Bool := false
deriving DecidableEq, Repr

/-- An erasure entry (R196, R197). -/
structure Erasure where
  /-- [R196; reset 0] device erased -/
  dev : Nat := 0
  /-- [R196; reset 0] ERASED -/
  erased : Bool := false
  /-- [R197; reset 0] CRITICAL -/
  critical : Bool := false
deriving DecidableEq, Repr

/-- LPR. -/
structure LprSt where
  /-- [R200; reset never written] DRAM lines, by DRAM line address; spare lines stand at their addresses (R202) -/
  dram : Tab DLine := []
  /-- [R200; reset 0] the registrar has written every line of the reserved region since DRAM was last lost -/
  resv : Bool := false
  /-- [R196; reset 0] erasure entries, by channel * 32 + rank -/
  erasure : Tab Erasure := []
  /-- [R196; reset 0] correction counters, by (channel * 32 + rank) * 20 + device -/
  corr : Tab Nat := []
  /-- [R196; reset none] the last line counted for each counter, plus 1 -/
  corrLast : Tab Nat := []
  /-- [R172; reset empty] the DMCs' write queues: line addresses of the writes accepted and not yet issued, oldest first -/
  wq : List Nat := []
  /-- [R175; reset none] banks in in-order mode, numbered as bankKey does -/
  inord : List Nat := []
  /-- [R179; reset empty] the DMCs' retry buffers: commands issued and not yet past their window, oldest first, at most 32, by
  channel -/
  retry : Tab (List (String × Nat)) := []
  /-- [R202; reset 0] remap entries, by channel * 64 + entry -/
  remap : Tab Remap := []
  /-- [R203; reset none] the devices corrected by the last scrub pass, one bit each, by DRAM line address -/
  scrubHit : Tab Nat := []
  /-- [R203; reset none] the same for the pass in progress -/
  scrubNow : Tab Nat := []
  /-- [R198; reset empty] ring of uncorrectable lines: (line address, scrub), newest last, at most 64 -/
  ring : List (Nat × Bool) := []
  /-- [R198; reset 0] lines logged in the ring so far, so that entry n is the position -/
  ringAt : Nat := 0
  /-- [R207; reset 0, DESIGN CHOICE] raw buffer data -/
  rawData : Line := 0
  /-- [R207; reset 0, DESIGN CHOICE] raw buffer tag -/
  rawTag : Tag := 0
  /-- [LPR_RAW_CMD; reset 0] RESULT -/
  rawResult : Nat := 0
  /-- [R207; reset 0] ARM -/
  armed : Bool := false
  /-- [LPR_STATUS; reset 0] READY -/
  ready : Bool := false
  /-- [R204; reset 0] BIST_DONE -/
  bistDone : Bool := false
  /-- [R204; reset 0] BIST_FAIL -/
  bistFail : Bool := false
  /-- [R204; reset 0] a rerun of the self-test is in progress -/
  bistRun : Bool := false
  /-- [R205; reset 0] next channel-local line of the scrub, by channel -/
  scrubAt : Tab Nat := []
deriving DecidableEq, Repr

/-- One stack link (R145 to R165). -/
structure StkLink where
  /-- [STK_LINK_STATE; reset 0] 0 DOWN, 1 TRAINING, 2 UP, 3 LOST, 4 FOREIGN, 5 SEALED -/
  st : Nat := 0
  /-- [R163; reset 0] SLED_UID recorded for the link in the metadata shelf, 0 none -/
  uidRec : Nat := 0
  /-- [R151; reset 0] SLED_UID last reported -/
  uid : Nat := 0
  /-- [R151; reset 0] SHELVES -/
  shelves : Nat := 0
  /-- [R151; reset 0] MAX_OUT -/
  maxOut : Nat := 0
  /-- [R151; reset 0] SEAL_RATE -/
  sealRate : Nat := 0
  /-- [R151; reset 0] STATE: SEALED, VAULT, DEGRADED -/
  sledSt : Nat := 0
  /-- [R151; reset 0] MEDIA_ERRORS -/
  mediaErr : Nat := 0
  /-- [R152; reset empty] requests outstanding -/
  out : List StkReq := []
  /-- [R152; reset empty] requests that wait for MAX_OUT or an earlier request -/
  wait : List StkReq := []
  /-- [R152; reset 0] next TAG tried -/
  nextTag : Nat := 0
  /-- [R152; reset empty] TAGs used and the time from which each may be used again -/
  tagFree : Tab Nat := []
  /-- [R159; reset empty] sled shelves freed but not yet trimmed -/
  trims : List Nat := []
  /-- [R146; reset 0] SEQ of the last data cell sent -/
  txSeq : Nat := 0
  /-- [R147; reset 0] ACKSEQ last received -/
  rxAck : Nat := 0
  /-- [R146; reset 0] SEQ of the last data cell received in order and intact -/
  rxSeq : Nat := 0
  /-- [R147; reset 0] NAK is set in the next header -/
  nak : Bool := false
  /-- [R147; reset empty] the last 256 data cells sent: SEQ, the message, and the cell's place in it -/
  kept : List (Nat × StkReq × Nat) := []
  /-- [R148; reset empty] bodies of the message being received -/
  rx : List Byte := []
  /-- [R150; reset 0] HEARTBEAT count received -/
  hb : Nat := 0
  /-- [R150; reset 0] HEARTBEATs sent -/
  hbOut : Nat := 0
  /-- [R287; reset empty] the last TILE_READ round trips in µs, newest first, at most 64 -/
  rtts : List Nat := []
  /-- [R154; reset 0] VAULT_BEGIN is to be asked again -/
  vbAgain : Bool := false
  /-- [R162; reset 0] stranded folios reported at the loss -/
  lostOnce : Bool := false
  /-- [R163; reset 0] the link has trained and its sled has yet to be judged -/
  trained : Bool := false
  /-- [R163, R530; reset none] the next sled shelf to be trimmed of a sled taken in whole -/
  trimAt : Option Nat := none
  /-- [R145; reset empty] bits of cells that do not fill a code word yet -/
  line : List Bool := []
deriving DecidableEq, Repr

/-- STK. -/
structure StkSt where
  /-- [R145; reset DOWN] the 16 links -/
  links : Tab StkLink := []
deriving DecidableEq, Repr

/-- Roles of a unit (R316, TWN_STATUS.ROLE). -/
inductive Role where
  | unpaired | starting | active | inStep | catchingUp | detached | claiming | fenced
deriving DecidableEq, Repr

/-- What the active knows of its standby. -/
inductive Partner where
  /-- none catching up or in step -/
  | lost
  | catching
  | inStep
deriving DecidableEq, Repr

/-- One sequenced frame sent and not yet covered by APPLIED. -/
structure SentFrame where
  /-- MSEQ -/
  mseq : Nat := 0
  /-- lines it made PENDING (DRAM way keys and line numbers are found by logical line) -/
  lines : List Nat := []
  /-- bytes of posted data already acknowledged when it was sent, for R58 -/
  posted : Nat := 0
deriving DecidableEq, Repr

/-- An atomic whose RESULT is awaited (R329). -/
structure AtomWait where
  /-- MSEQ of its frame -/
  mseq : Nat := 0
  /-- own old value -/
  old : List Byte := []
  /-- own CAS_OK -/
  casOk : Bool := false
  /-- its stream -/
  stream : Nat := 0
deriving DecidableEq, Repr

/-- A witness request outstanding (R335). -/
structure WReq where
  /-- TYPE: 1 CLAIM, 2 RENEW, 3 RELEASE -/
  type : Nat := 0
  /-- messages sent for it: low word of REQ_SEQ, time (µs) -/
  sent : List (Nat × Nat) := []
  /-- repeats without a valid answer -/
  tries : Nat := 0
deriving DecidableEq, Repr

/-- A TWIN_TAKEOVER that waits (R337). -/
structure TakeSt where
  /-- mailbox slot -/
  slot : Nat := 0
  /-- FORCE -/
  force : Bool := false
  /-- the unit was IN_STEP when it was issued -/
  inStep : Bool := false
  /-- the role it had -/
  old : Role := .detached
deriving DecidableEq, Repr

/-- TWN. -/
structure TwnSt where
  /-- [TWN_STATUS; reset UNPAIRED] role -/
  role : Role := .unpaired
  /-- [R318; reset 0] twin link ACTIVE -/
  linkUp : Bool := false
  /-- [R334; reset 0] last valid code received, 0 absent -/
  hbIn : Nat := 0
  /-- [R341; reset 0] valid pulses received since the link went down, up to 2 -/
  pulses : Nat := 0
  /-- [R331; reset 0] time of the partner's last valid pulse (µs) -/
  hbAt : Nat := 0
  /-- [R331; reset 0] token generation, 32 bits -/
  gen : Nat := 0
  /-- [R321; reset 0] next MSEQ to send, or count of frames applied, 48 bits -/
  mseq : Nat := 0
  /-- [R322; reset 0] first MSEQ not covered by APPLIED -/
  applied : Nat := 0
  /-- [R320, R321; reset empty] frames that wait for credits or for the replay buffer of the twin link -/
  txq : List TwinMsg := []
  /-- [R326; reset empty] frames sent and not covered -/
  sent : List SentFrame := []
  /-- [R329; reset empty] atomics that await RESULT -/
  atoms : List AtomWait := []
  /-- [R326; reset lost] what the active knows of the standby -/
  partner : Partner := .lost
  /-- [R323; reset empty] sequenced frames received and not yet applied -/
  rxq : List MFrame := []
  /-- [R324; reset none] the frame at the front waits in a stream (a write under R325) -/
  rxBusy : Bool := false
  /-- [R331; reset 0] RENEW count of the last LEASE sent or received -/
  renew : Nat := 0
  /-- [R331; reset empty] LEASEs sent and not acknowledged: (renew, time sent) -/
  leases : List (Nat × Nat) := []
  /-- [R331; reset 0] the right to act from LEASE_ACK runs to this time (µs) -/
  leaseUntil : Nat := 0
  /-- [R331; reset 0] the right to act from a granted RENEW runs to this time (µs) -/
  renewUntil : Nat := 0
  /-- [R332; reset 0] the standby's lease view runs to this time (µs) -/
  viewUntil : Nat := 0
  /-- [R316; reset 0] a GRANT is held (GEN granted, plus 1; 0 none) -/
  grantHeld : Nat := 0
  /-- [R335; reset none] witness request outstanding -/
  wreq : Option WReq := none
  /-- [R335; reset 0] request count since power-up -/
  reqCount : Nat := 0
  /-- [TWN_STATUS; reset 0] WITNESS_OK -/
  witnessOk : Bool := false
  /-- [R337; reset 0] STALE -/
  stale : Bool := false
  /-- [R337; reset none] a TWIN_TAKEOVER waits for the witness -/
  takeover : Option TakeSt := none
  /-- [R316; reset 0] what a GRANT of the claim in progress leads to: 0 claim, 1 LEASE_DROP, 2 start-up -/
  claimWhy : Nat := 0
  /-- [R339; reset none] the token is being gained: GEN and the cause of record 0x430 -/
  gaining : Option (Nat × Nat) := none
  /-- [R338; reset none] a handover runs: LEASE_DROP REASON and the mailbox slot -/
  handover : Option (Nat × Option Nat) := none
  /-- [R332; reset none] a LEASE_DROP's MSEQ to be applied before the token is gained -/
  dropAt : Option Nat := none
  /-- [R342; reset empty] change map: regions marked -/
  chmap : List Nat := []
  /-- [R324; reset none] RESULT that the SERVICE frame in progress carries -/
  rxWant : Option Nat := none
  /-- [R343; reset none] region being copied -/
  copying : Option Nat := none
  /-- [R343; reset empty] its folios whose TILE_READ is awaited -/
  copyWait : List Nat := []
  /-- [R338; reset 0] the unit gave the token up by a handover, so its divergence set is empty -/
  handed : Bool := false
  /-- [R344; reset 0] the next resync is full -/
  fullNext : Bool := false
  /-- [R336; reset 0] held the token at GEN when it stopped -/
  wasHolder : Bool := false
  /-- [R336; reset 0] stream table survived -/
  stateOk : Bool := false
  /-- [R336; reset 0] last vault complete, or none needed -/
  vaultOk : Bool := false
  /-- [R342; reset empty] this unit's own divergence set -/
  diverge : List Nat := []
  /-- [TWN indirect; reset 0] words 0 to 7 of the last HELLO received -/
  lastHello : List Nat := []
  /-- [R327; reset none] STATUS held: FREE_SHELVES, MSEQ -/
  status : Option (Nat × Nat) := none
  /-- [R327; reset empty] shelves allocated and freed by SERVICE frames: (MSEQ, allocated, freed) -/
  allocs : List (Nat × Nat × Nat) := []
  /-- [R326; reset 0] time at which APPLIED last advanced (µs) -/
  appliedAt : Nat := 0
  /-- [R330; reset 0] GEN at which the partner was fenced for a mismatch, plus 1 -/
  fencedGen : Nat := 0
  /-- [R343; reset 0] time the catch-up began (µs) -/
  joinAt : Nat := 0
  /-- [R343; reset 0] regions copied in this catch-up -/
  copied : Nat := 0
  /-- [R338; reset 0] no new client request is admitted -/
  drained : Bool := false
  /-- [R339; reset 0] floating addresses are answered -/
  floating : Bool := false
deriving DecidableEq, Repr

/-- A desk buffer in use (R348). -/
structure Buf where
  /-- [R348; reset none] owner plus 1, 0 free -/
  owner : Nat := 0
  /-- [R353; reset 0] tenant charged plus 1, 0 none -/
  tenant : Nat := 0
  /-- [R350; reset 0] granted from headroom -/
  hdrm : Bool := false
deriving DecidableEq, Repr

/-- BPM. -/
structure BpmSt where
  /-- [R349; reset free] buffers in use, by pool * 65,536 + number -/
  bufs : Tab Buf := []
  /-- [R348; reset the table's defaults] reserved minima that differ from the default, by owner * 4 + pool, plus 1 -/
  minima : Tab Nat := []
  /-- [R347; reset 0] configuration checked, allocators running -/
  ready : Bool := false
  /-- [R347; reset 0] CFG_ERR -/
  cfgErr : Bool := false
  /-- [R354; reset 0] pointer of the last bad return -/
  badPtr : Nat := 0
  /-- [R354; reset 0] its cause: 0 RANGE, 1 ALIGN, 2 FREE -/
  badCause : Nat := 0
  /-- [R354; reset 0] its owner -/
  badOwner : Nat := 0
  /-- [R354; reset none] second in which record 0x441 was last written, plus 1 -/
  badSec : Nat := 0
  /-- [R352; reset empty] items that wait for a buffer: owner, pool, count, UPSIZE, tenant -/
  waits : List (Nat × Nat × Nat × Bool × Nat) := []
  /-- [R355; reset 0] Ethernet ports on which XOFF was sent -/
  xoff : List Nat := []
  /-- [R225, R356; reset empty] Tvedfy links on which a message waits for a desk buffer -/
  held : List Nat := []
deriving DecidableEq, Repr

end Sys2Proof.Machine
end

