-- ==== Sys2Proof/Machine/Blocks2.lean ====
section
/-! DEFINITION. The state of DMC and TVL. -/

namespace Sys2Proof.Machine

/-- One DRAM channel (R166 to R190). -/
structure DmcCh where
  /-- [DMC_STATUS; reset 0] STATE: 0 OFF, 1 TRAINING, 2 SERVING, 3 SELF_REFRESH, 4 FCHG, 5 FAILED -/
  st : Nat := 0
  /-- [R171; reset 0] log2 of the logical ranks -/
  rankBits : Nat := 0
  /-- [DMC_STATUS; reset 0] TSET: 0 A, 1 B -/
  tset : Bool := false
  /-- [R177; reset empty] last MR4 readings in °C, by rank -/
  mr4 : Tab Nat := []
  /-- [R177; reset empty] last SPD hub readings in °C, by DIMM -/
  hub : Tab Nat := []
  /-- [DMC_STATUS; reset 0] REF2X -/
  ref2x : Bool := false
  /-- [DMC_STATUS; reset 0] HOT -/
  hot : Bool := false
  /-- [R180; reset 0] Dn_ALERT_N is low and issue is stopped -/
  alert : Bool := false
  /-- [R180; reset 0] alerts in a row on the replay in progress -/
  alerts : Nat := 0
  /-- [R180; reset 0] the retry buffer is being replayed: steps 3 to 5 -/
  replaying : Bool := false
  /-- [DMC_CMD; reset 0] one retraining pause asked for at the next refresh -/
  retrainNow : Bool := false
  /-- [R185; reset 0] pauses in a row below MARGIN_MIN -/
  lowMargins : Nat := 0
  /-- [R184; reset empty] SPD serial numbers for which training results are saved in the embedded flash -/
  saved : List Nat := []
  /-- [R182, R184; reset empty] those results in the embedded flash: of 12,800 MT/s or the one speed there is, and of 6,400 MT/s -/
  savedRes : List W32 × List W32 := ([], [])
  /-- [DMC indirect space; reset 0] training results in force, words from indirect address 0, of 12,800 MT/s or the one speed
  there is -/
  results : List W32 := []
  /-- [R182; reset 0] the same of 6,400 MT/s, where the channel trains both -/
  results2 : List W32 := []
deriving DecidableEq, Repr

/-- DMC. -/
structure DmcSt where
  /-- [R169; reset none] populated channels, ascending -/
  pop : List Nat := []
  /-- [R169; reset 0] total line data in bytes -/
  bytes : Nat := 0
  /-- [DMC; reset OFF] channels, by number -/
  chs : Tab DmcCh := []
deriving DecidableEq, Repr

/-- One Tvedfy link: port * 2 + half (R209 to R235). -/
structure TvLink where
  /-- [TVL_LINK; reset 0] 0 DOWN, 1 EQ, 2 ALIGN, 3 CONFIG, 4 ACTIVE, 5 RECOVERY, 6 LOST -/
  st : Nat := 0
  /-- [R227; reset 0] HOLDER as last sent -/
  holderSaid : Bool := false
  /-- [R211; reset 0] lane reversal corrected -/
  reversed : Bool := false
  /-- [R211; reset 0] polarity inverted, bit n lane n -/
  pol : Nat := 0
  /-- [R209; reset 0] the width taken at the last training -/
  split : Bool := false
  /-- [R228; reset none] adapter UID last recorded since start; 0 none -/
  uid : Nat := 0
  /-- [TVL_PEER_CAP; reset 0] adapter's Response capacity; on the twin link the partner's Return capacity (R319) -/
  peerRs : Nat := 0
  /-- [TVL_PEER_CAP; reset 0] adapter's Event capacity; on the twin link the partner's Lease capacity -/
  peerEv : Nat := 0
  /-- [R319; reset 0] twin link: the partner's Mirror capacity -/
  peerMi : Nat := 0
  /-- [TVL_CRED_TX; reset 0] Response credits held; on the twin link Return -/
  credRs : Nat := 0
  /-- [TVL_CRED_TX; reset 0] Event credits held; on the twin link Lease -/
  credEv : Nat := 0
  /-- [R320; reset 0] twin link: Mirror credits held -/
  credMi : Nat := 0
  /-- [R223; reset 0] last Response (Return) count received -/
  gotRs : Nat := 0
  /-- [R223; reset 0] last Event (Lease) count received -/
  gotEv : Nat := 0
  /-- [R320; reset 0] twin link: last Mirror count received -/
  gotMi : Nat := 0
  /-- [TVL_SEQ; reset 0] last FSEQ sent -/
  fseq : Nat := 0
  /-- [TVL_SEQ; reset 0] last ACKSEQ received -/
  ackRx : Nat := 0
  /-- [R220; reset 0] last DATA or CTRL flit received intact and in sequence -/
  ackTx : Nat := 0
  /-- [R220; reset none] a NAK was sent and nothing accepted since: when (µs) -/
  nakAt : Option Nat := none
  /-- [R221; reset 0] replays in a row from one ACKSEQ -/
  replays : Nat := 0
  /-- [R217; reset empty] slots of a message received in part -/
  part : List (BitVec 128) := []
  /-- [R223; reset empty] whole messages in the receive buffer -/
  buf : List (List (BitVec 128)) := []
  /-- [R223; reset 0] the adapter's Request credits as the MK1 accounts them -/
  crRq : Nat := 0
  /-- [R223; reset 0] the adapter's Posted-write credits -/
  crPw : Nat := 0
  /-- [R223; reset 0] the adapter's ATOMIC credits -/
  crAt : Nat := 0
  /-- [R223; reset 0] the adapter's Event credits -/
  crEv : Nat := 0
  /-- [R223; reset 0] cumulative Request slots reported; on the twin link Mirror -/
  cntRq : Nat := 0
  /-- [R320; reset 0] twin link: cumulative Return slots reported -/
  cntRs : Nat := 0
  /-- [R223; reset 0] cumulative Posted-write slots reported -/
  cntPw : Nat := 0
  /-- [R223; reset 0] cumulative ATOMIC credits reported -/
  cntAt : Nat := 0
  /-- [R223; reset 0] cumulative Event slots reported; on the twin link Lease -/
  cntEv : Nat := 0
  /-- [R223; reset 0] which class the next flit's CR_COUNT reports: 0 to 2, in turn -/
  crTurn : Nat := 0
  /-- [R219; reset empty] the replay buffer: DATA and CTRL flits sent and not acknowledged, oldest first -/
  kept : List Flit := []
  /-- [R212; reset 0] the last 58 bits that left the scrambler -/
  scr : BitVec 58 := 0
  /-- [R212; reset empty] scrambled bits that do not fill a code word yet -/
  line : List Bool := []
  /-- [R212; reset 0] code words sent since the FEC stream started -/
  words : Nat := 0
  /-- [R225; reset 0] Request slots freed and withheld -/
  heldRq : Nat := 0
  /-- [R225; reset 0] Posted-write slots freed and withheld -/
  heldPw : Nat := 0
  /-- [R225; reset 0] ATOMIC credits freed and withheld -/
  heldAt : Nat := 0
  /-- [R223; reset empty] responses and events that wait for credits or for the replay buffer -/
  txq : List TvResp := []
  /-- [R230; reset 0] number of times the link was lost, so that answers to requests from before are discarded (the
  model's own) -/
  life : Nat := 0
deriving DecidableEq, Repr

/-- TVL. -/
structure TvlSt where
  /-- [R226; reset DOWN] the 32 links -/
  links : Tab TvLink := []
  /-- [R232; reset 0] role changes since the last Cold reset -/
  roles : Nat := 0
  /-- [R232; reset 1: UNPAIRED] the role last told to the links -/
  roleSaid : Bool := true
deriving DecidableEq, Repr

end Sys2Proof.Machine
end

