-- ==== Sys2Proof/Machine/Blocks3.lean ====
section
/-! DEFINITION. The state of the blocks that start, power, configure and guard the chip: SUP, PWR, CRU, RGC, EFL, DBK,
SEC, KCE, TOP, and the configuration flash. A field's docstring names the rule that gives it and, in brackets, its
value at reset. -/

namespace Sys2Proof.Machine

/-! ### SUP (R370 to R384) -/

/-- One rail slot. -/
structure Rail where
  /-- [SUP_RAIL_STATE; reset 0] 0 OFF, 1 WAIT, 2 ON, 3 GOOD, 4 DISCHARGING, 5 FAILED, 6 STUCK -/
  st : Nat := 0
  /-- [SUP_RAIL_STATE; reset 0] EN level -/
  en : Bool := false
  /-- [SUP_RAIL_STATE; reset 0] PG level -/
  pg : Bool := false
  /-- [R373; reset 0] disabled at its OFF_TICK because a rail it depends on failed -/
  dropping : Bool := false
  /-- [R389; reset 0] kept on in Standby -/
  kept : Bool := false
deriving DecidableEq, Repr

/-- One monitor channel. -/
structure Mon where
  /-- [SUP_MON_VAL; reset 0] latest sample, 12 bits -/
  value : Nat := 0
  /-- [R382; reset 0] FAULTY -/
  faulty : Bool := false
  /-- [R382; reset 0] ALARM -/
  alarm : Bool := false
  /-- [R382; reset 0] samples in a row beyond a threshold -/
  run : Nat := 0
deriving DecidableEq, Repr

/-- Where a power-down goes. -/
inductive Dest where
  | off | standby
deriving DecidableEq, Repr

/-- SUP. -/
structure SupSt where
  /-- [SUP_STATUS; reset 0] SEQ: 0 IDLE, 1 POWERING_UP, 2 UP, 3 POWERING_DOWN, 4 OFF_WAIT -/
  seq : Nat := 0
  /-- [R377; reset 0] ON_LATCHED -/
  onLatched : Bool := false
  /-- [R373; reset 0] RAIL_FAIL -/
  railFail : Bool := false
  /-- [R375; reset 0] DISCHARGE_FAIL -/
  dischFail : Bool := false
  /-- [R371; reset 0] SUPPLY_BAD -/
  supplyBad : Bool := false
  /-- [SUP_TICK; reset 0] time the running sequence began (the model's time, µs) -/
  seqAt : Nat := 0
  /-- [R372; reset none on] the 24 rail slots -/
  rails : Tab Rail := []
  /-- [R382; reset 0] the 32 monitors -/
  mons : Tab Mon := []
  /-- [R379, R412; reset 0] BANK: a qualified hold-up bank is fitted -/
  bank : Bool := false
  /-- [R371, R415; reset empty] the SUPPLY value on which the rails were sequenced -/
  supply : List Byte := []
  /-- [R376; reset Off] where the power-down in progress leads -/
  dest : Dest := .off
  /-- [R386; reset 0] the chip is in Standby, rails kept -/
  standby : Bool := false
  /-- [R377; reset 0] VDD_AON is up -/
  aon : Bool := true
  /-- [R378; reset 0] the last vault ended in Off after HOLDUP_ALERT_N -/
  vaultOff : Bool := false
  /-- [R380; reset 0] an orderly off waits for its handover to end -/
  offAfter : Bool := false
deriving DecidableEq, Repr

/-! ### PWR (R385 to R391) -/

/-- Power states (R386, PWR_STATUS.STATE). -/
inductive PwrState where
  | off | standby | quiesced | service | trimmed | vault | starting
deriving DecidableEq, Repr

/-- PWR. -/
structure PwrSt where
  /-- [PWR_STATUS; reset Off] state -/
  st : PwrState := .off
  /-- [PWR_STATUS; reset 0] CHANGING -/
  changing : Bool := false
  /-- [R385; reset none failed] domains that failed their power-good -/
  failed : List Nat := []
  /-- [R390; reset 0] meters in mJ, by tenant -/
  meter : Tab Nat := []
  /-- [R390; reset 0] operations of the running second, by tenant * 8 + coefficient in R390's order; their raw energy is
  this times the coefficients -/
  raw : Tab Nat := []
  /-- [R391; reset 256] K -/
  k : Nat := 256
  /-- [PWR_P_CHIP; reset 0] measured energy of the last second, W -/
  pChip : Nat := 0
  /-- [R387; reset 0] windows in a row below ENTER -/
  lowRun : Nat := 0
  /-- [R387; reset empty] channels moved to 6,400 MT/s by Trimmed -/
  slowed : List Nat := []
  /-- [PWR indirect space; reset 0] word 1 of the meter whose word 0 was last read -/
  latch : Nat := 0
  /-- [R391; reset empty] the meters as last checkpointed in embedded flash -/
  ckpt : Tab Nat := []
deriving DecidableEq, Repr

/-! ### CRU (R393 to R406) -/

/-- CRU. -/
structure CruSt where
  /-- [R18; reset 0] ALIVE and FAULT_N are driven; while not, both are high impedance -/
  pinsDriven : Bool := false
  /-- [R16; reset 1] every SerDes transmitter stands at electrical idle because of a reset or for want of power -/
  lanesIdle : Bool := true
  /-- [CRU_STATUS; reset 0] REF_OK: TV, EN, TN, SK as bits 0 to 3 -/
  refOk : Nat := 0
  /-- [CRU_STATUS; reset 0] PLL_LOCK: fabric, DMC, link, MAC, registrar as bits 0 to 4 -/
  pllLock : Nat := 0
  /-- [CRU_STATUS; reset 0] XTAL_OK -/
  xtalOk : Bool := false
  /-- [R403; reset 0] UNCLEAN -/
  unclean : Bool := false
  /-- [CRU_RST_CAUSE; reset 0] KIND -/
  kind : Nat := 0
  /-- [CRU_RST_CAUSE; reset 0] DRAM_KEPT -/
  kept : Bool := false
  /-- [CRU_RST_CAUSE; reset 0] AFTER_VAULT -/
  afterVault : Bool := false
  /-- [CRU_RST_CAUSE; reset 0] WDT, at most 63 -/
  wdt : Nat := 0
  /-- [CRU_START; reset 0] STEP -/
  step : Nat := 0
  /-- [CRU_START; reset 0] FAILED -/
  failed : Bool := false
  /-- [CRU_START_MS; reset 0] -/
  startMs : Nat := 0
  /-- [R397; reset 0] a Pin reset is held by RESET_N -/
  pinHeld : Bool := false
  /-- [R395; reset 0] a Pin reset is held until XTAL has run for 10 ms -/
  xtalHeld : Bool := false
  /-- [R402; reset 0] a start is due: the power-up is complete or the reset released -/
  startDue : Bool := false
  /-- [R396, R402; reset COLD] KIND of the start that is due -/
  next : Nat := 0
  /-- [R401; reset empty] times of the watchdog expiries of the last 60 s (µs) -/
  expiries : List Nat := []
  /-- [R401; reset 0] time of the last feed (µs) -/
  fedAt : Nat := 0
  /-- [R395; reset empty] DMC PLLs out of lock, by channel -/
  dmcPll : List Nat := []
  /-- [R18, R395; reset empty] fatal faults latched, by the number of their cause (the model's own numbers) -/
  fatal : List Nat := []
  /-- [R292, R338; reset 0] fatal faults already told to the async ring and to a handover (the model's own count) -/
  fatalSaid : Nat := 0
  /-- [R18; reset 0] ALIVE level -/
  alive : Bool := false
  /-- [R104; reset 0] VAULT_ACT level -/
  vaultAct : Bool := false
  /-- [R402; reset 0] CONSUMED_SEQ, kept in embedded flash -/
  consumed : Nat := 0
  /-- [R403; reset 0] highest VAULT_SEQ found at this start -/
  foundSeq : Nat := 0
  /-- [R403; reset 0] client ports wait for VAULT_ACCEPT or a full resync -/
  awaitAccept : Bool := false
deriving DecidableEq, Repr

/-! ### RGC (R408 to R429) -/

/-- One mailbox slot (R419). -/
structure MbSlot where
  /-- [R419; reset 0] bytes 0 to 239 as words: the request, then the response -/
  words : Tab W32 := []
  /-- [R419; reset FREE] STATE: 0 FREE, 1 QUEUED, 2 RUNNING, 3 DONE -/
  st : Nat := 0
  /-- [R419; reset 0] RESULT -/
  result : Nat := 0
  /-- [R419; reset 0] REASON -/
  reason : Nat := 0
  /-- [R419; reset 0] RESPONSE_LENGTH -/
  rlen : Nat := 0
  /-- [R420; reset none] the result the service has come to, until the slot is DONE: code, reason, response bytes -/
  out : Option (Nat × Nat × List Byte) := none
deriving DecidableEq, Repr

/-- A load of the configuration flash or of firmware in progress (R425, R429). -/
structure Loading where
  /-- copy or bank -/
  which : Nat := 0
  /-- first offset not yet written since FIRST -/
  next : Nat := 0
  /-- bytes 0 to 63, kept back until IMAGE_VERIFY passes -/
  head : List Byte := []
deriving DecidableEq, Repr

/-- RGC. -/
structure RgcSt where
  /-- [RGC_STATUS; reset 0] READY -/
  ready : Bool := false
  /-- [R416; reset 0] NO_IMAGE -/
  noImage : Bool := false
  /-- [R401; reset 0] HALTED -/
  halted : Bool := false
  /-- [R429; reset 0] FW_CONFIRMED -/
  confirmed : Bool := false
  /-- [R429; reset none] the bank and version to fall back to, while new firmware is not confirmed -/
  fallback : Option (Nat × Nat) := none
  /-- [RGC_IMAGE; reset 0] copy in use -/
  copy : Nat := 0
  /-- [R409; reset 0] seal-failure latch of copy A -/
  sealA : Bool := false
  /-- [R409; reset 0] seal-failure latch of copy B -/
  sealB : Bool := false
  /-- [RGC_IMAGE; reset 0] last rejection cause -/
  cause : Nat := 0
  /-- [RGC_IMAGE_SEQ; reset 0] IMAGE_SEQ in use -/
  seq : Nat := 0
  /-- [R427; reset 0] RGC_IMAGE_FLOOR, kept in embedded flash -/
  floor : Nat := 0
  /-- [RGC_FW_VER; reset 0] VERSION running -/
  fwVer : Nat := 0
  /-- [RGC indirect space; reset empty] header bytes 0 to 63 of the image in use -/
  header : List Byte := []
  /-- [R399; reset empty] the START value in use -/
  start : List Byte := []
  /-- [R413; reset 0] package ranks per DIMM, 3DS height, module capacity -/
  profile : Nat × Nat × Nat := (0, 0, 0)
  /-- [R419; reset FREE] the 16 slots -/
  slots : Tab MbSlot := []
  /-- [R420; reset empty] slots QUEUED, in doorbell order -/
  queue : List Nat := []
  /-- [R420; reset 0] DONE bits -/
  done : List Nat := []
  /-- [R424; reset 1] RESTARTED -/
  restarted : Bool := true
  /-- [R425; reset empty] copies known good -/
  good : List Nat := []
  /-- [R425; reset none] image load in progress since FIRST, by copy -/
  loading : Tab (Option Loading) := []
  /-- [R429; reset none] firmware load in progress since FIRST -/
  fwLoading : Option Loading := none
  /-- [R461; reset 0] copy B has passed IMAGE_VERIFY since this start -/
  verifiedB : Bool := false
  /-- [R400, R497; reset empty] what the running image gave every register -/
  image : Tab W32 := []
  /-- [R408; reset erased] the configuration flash, by byte address; unlisted bytes read 0xFF -/
  cfg : Tab Byte := []
  /-- [R335; reset empty] the two witness addresses of NET -/
  witnesses : List (List Byte) := []
deriving DecidableEq, Repr

/-! ### EFL, DBK (R431 to R450) -/

/-- A code word of the embedded flash (R432); `torn` is one whose program or erase was cut short (R437). -/
inductive FWord where
  | erased
  /-- data, and whether one bit is in error and corrected -/
  | written (data : BitVec 128) (corrected : Bool)
  | invalid (raw : BitVec 128)
  | torn
deriving DecidableEq, Repr

/-- A flash operation in progress on a bank (R435). -/
inductive FlashOp where
  | none
  | program (word : Nat) (data : BitVec 128)
  | erase (sector : Nat)
deriving DecidableEq, Repr

/-- A call of the ROM routine that waits (R435). -/
inductive FlashReq where
  | read (word n : Nat)
  | program (word : Nat) (data : BitVec 128)
  | erase (sector : Nat)
deriving DecidableEq, Repr

/-- EFL. -/
structure EflSt where
  /-- [EFL_STATUS; reset 0] READY -/
  ready : Bool := false
  /-- [R432; reset erased] code words, by address / 16 -/
  words : Tab FWord := []
  /-- [R435; reset none] operation of bank 0 -/
  op0 : FlashOp := .none
  /-- [R435; reset none] operation of bank 1 -/
  op1 : FlashOp := .none
  /-- [R435; reset none] the sector whose erase is suspended -/
  susp : Option Nat := none
  /-- [R435; reset 0] until when (µs) an erase that was resumed may not be suspended again -/
  holdTill : Nat := 0
  /-- [R435; reset empty] calls that wait on a bank -/
  waits : List FlashReq := []
  /-- [R438; reset empty] SUSPECT sectors -/
  suspect : List Nat := []
  /-- [EFL_LAST_SUSPECT; reset 0] -/
  lastSuspect : Nat := 0
  /-- [R441; reset empty] sectors whose latest journal entry is ERASE_OPEN -/
  opened : List Nat := []
  /-- [R441; reset 0] next JSEQ -/
  jseq : Nat := 0
  /-- [R441; reset J0] the journal sector in use: 3,007 or 6,079 -/
  jsec : Nat := 3007
  /-- [R441; reset 0] entries in it -/
  jat : Nat := 0
  /-- [R440; reset 0] BANK of the pointer in force -/
  ptrBank : Nat := 0
  /-- [R440; reset 0] COUNT of the pointer in force -/
  ptrCount : Nat := 0
  /-- [R440; reset P0] the pointer sector in use: 3,006 or 6,078 -/
  psec : Nat := 3006
  /-- [R440; reset 0] entries in it -/
  pat : Nat := 0
  /-- [R442; reset S0] active half of the settings journal -/
  half : Nat := 0
  /-- [R442; reset 0] GENERATION of the active half -/
  halfGen : Nat := 0
  /-- [R442; reset 0] next free code word of the active half -/
  halfAt : Nat := 0
  /-- [R442; reset empty] current value and VERSION of every KEY -/
  keys : Tab (Nat × List Nat) := []
deriving DecidableEq, Repr

/-- A daybook record waiting in the queue (R444). -/
structure DRec where
  /-- [R444] event code -/
  code : Nat := 0
  /-- [R444] operating hours at the event, in 0.01 h -/
  hours : Nat := 0
  /-- [R444] milliseconds since the start in progress -/
  uptime : Nat := 0
  /-- [R443] power-cycle count -/
  cycles : Nat := 0
  /-- [R445] payload words, at most eight -/
  words : List Nat := []
deriving DecidableEq, Repr

/-- DBK. -/
structure DbkSt where
  /-- [R448; reset empty] records queued, oldest first, at most 64 -/
  queue : List DRec := []
  /-- [R448; reset 0] records dropped since the queue was last full -/
  dropped : Nat := 0
  /-- [R448; reset 0] CODE of the first one dropped -/
  firstDropped : Nat := 0
  /-- [R443; reset 0] power-cycle count -/
  cycles : Nat := 0
  /-- [R443; reset 0] operating hours in 0.01 h -/
  hours : Nat := 0
  /-- [R444; reset 0] time of the start in progress (µs) -/
  startAt : Nat := 0
  /-- [DBK_HEAD; reset 0] next slot to be written -/
  head : Nat := 0
  /-- [R444; reset 0, DESIGN CHOICE] next SEQ, 48 bits -/
  seq : Nat := 0
  /-- [DBK_SEQ_HI; reset 0] as latched by the last read of DBK_SEQ_LO -/
  seqHi : Nat := 0
  /-- [R447; reset none] sector to be erased before the next record is written -/
  eraseNext : Option Nat := none
deriving DecidableEq, Repr

/-! ### SEC, KCE (R453 to R468) -/

/-- The fuses (R454). -/
structure Fuses where
  /-- [R454; reset 1, DESIGN CHOICE: never 0] DIE_UID -/
  uid : BitVec 64 := 1
  /-- [R454; reset 0, DESIGN CHOICE] TRANSPORT_KEY, 32 bytes -/
  transport : List Nat := List.replicate 32 0
  /-- [R454; reset unburned] SEED_A: 32 bytes, and whether its CRC-16 holds -/
  seedA : Option (List Nat × Bool) := none
  /-- [R454; reset unburned] SEED_B -/
  seedB : Option (List Nat × Bool) := none
  /-- [R454; reset unburned] OWNED: the seed row it names -/
  owned : Option Nat := none
  /-- [R454; reset unburned] DECOMMISSIONED -/
  decomm : Bool := false
  /-- [R462; reset none] a burn into this row was cut short and has not been told yet -/
  cut : Option Nat := none
  /-- [TOP_ROM_REV; 0x0010 on stepping A1, chapter 25] ROM revision -/
  romRev : Nat := 0x10
  /-- [TOP_VCORE; reset 0, DESIGN CHOICE] MV -/
  mv : Nat := 0
deriving DecidableEq, Repr

/-- A key in a slot of KCE (R456, R457). -/
structure Key where
  /-- [R456] the key: 16 or 32 bytes -/
  bytes : List Nat := []
  /-- [R457] DERIVE -/
  derive_ : Bool := false
  /-- [R457] VERIFY -/
  verify : Bool := false
  /-- [R457] MAC_OUT -/
  macOut : Bool := false
deriving DecidableEq, Repr

/-- A request to KCE (R458): who 0 registrar, 1 TWN, 2 SEC; use 0 DERIVE, 1 VERIFY, 2 MAC_OUT. -/
structure KReq where
  who : Nat := 0
  slot : Nat := 0
  use : Nat := 0
  urgent : Bool := false
  msg : List Byte := []
  mac : List Byte := []
  /-- [R460; reset none] the key its slot held when it started; none while it waits -/
  key : Option Key := none
deriving DecidableEq, Repr

/-- SEC and KCE. -/
structure SecSt where
  fuse : Fuses := {}
  /-- [R454; reset 0] a burned seed row failed its CRC at start -/
  seedBad : Bool := false
  /-- [SEC_STATUS; reset 1 while Blank, R468] LEVEL: 0 SEALED, 1 OBSERVE, 2 OPEN -/
  level : Nat := 1
  /-- [R467; reset 0] LOCKOUT -/
  lockout : Bool := false
  /-- [R466; reset none] the challenge issued: its 16 bytes, PURPOSE, path, time -/
  chal : Option (List Nat × Nat × Nat × Nat) := none
  /-- [SEC_CHAL; reset 0] challenge bytes as the registers show them -/
  chalRegs : List Nat := List.replicate 16 0
  /-- [R466; reset 0] challenges issued since the start -/
  issued : Nat := 0
  /-- [SEC_RESP; reset 0] response bytes written -/
  resp : Tab Nat := []
  /-- [R466; reset none] a SUBMIT that waits for KCE: PURPOSE, path -/
  submitted : Option (Nat × Nat) := none
  /-- [R467; reset 0] failures since the last Cold or Pin reset -/
  failures : Nat := 0
  /-- [R461; reset none] the seed a provisioning image wrote: 32 bytes -/
  seed : Option (List Nat) := none
  /-- [SEC_PROVISION; reset 0] RESULT -/
  provResult : Nat := 0
  /-- [R461; reset none] a burn runs into this row -/
  burning : Option Nat := none
  /-- [R456; reset empty] key slots of KCE -/
  keys : Tab Key := []
  /-- [KCE_STATUS; reset 0] READY -/
  kReady : Bool := false
  /-- [R459; reset empty] requests queued, in order of arrival -/
  kQueue : List KReq := []
  /-- [R459; reset none] the request that runs -/
  kRun : Option KReq := none
  /-- [R459; reset none] the NORMAL request suspended -/
  kSusp : Option KReq := none
  /-- [R459; reset empty] requests that wait for room in the queue -/
  kWait : List KReq := []
  /-- [R458; reset 0, DESIGN CHOICE] result of the last request that ended: who, result (0 OK or MATCH, 1 MISMATCH, 2 NO_KEY, 3 USE, 4 ABORTED), MAC -/
  kLast : Nat × Nat × List Byte := (0, 0, [])
deriving DecidableEq, Repr

/-! ### TOP -/

/-- TOP and the pins sampled at start (R502). -/
structure TopSt where
  /-- [TOP_STRAP; reset 0] BOOT_SEL sampled -/
  bootSel : Nat := 0
  /-- [TOP_STRAP; reset 0] VIO_33 -/
  vio33 : Bool := false
  /-- [pin; reset 0, DESIGN CHOICE] BOOT_SEL[1:0] level at the pins -/
  bootPins : Nat := 0
  /-- [pin; reset 0, DESIGN CHOICE] VIO_AON level at the pins: 1 for 3.3 V -/
  vioPin : Bool := false
deriving DecidableEq, Repr

end Sys2Proof.Machine
end

