-- ==== Sys2Proof/Machine/Blocks4.lean ====
section
/-! DEFINITION. The state of ETH and NRE. A field's docstring names the rule that gives it and, in brackets, its value at
reset. -/

namespace Sys2Proof.Machine

/-- One Ethernet port, 0 to 31 (R260 to R265). -/
structure EthPort where
  /-- [ETH_STATUS.UP; reset 0] link up -/
  up : Bool := false
  /-- [R263; reset none] priorities paused -/
  paused : List Nat := []
  /-- [R264; reset none] priorities on which the watchdog is in force (ETH_STATUS.PFC_WD) -/
  wd : List Nat := []
  /-- [R263; reset empty] packets held by pause, with their priority, which is their traffic class (R262) -/
  held : List (Nat × Emit) := []
  /-- [R265; reset 0] bytes that each weighted traffic class has sent since one of them last had nothing to wait for -/
  sent : Tab Nat := []
  /-- [R259; reset empty] frames buffered and not yet taken: how they are marked, desk pointer -/
  frames : List (Mark × Nat) := []
deriving DecidableEq, Repr

/-- ETH. -/
structure EthSt where
  /-- [R260; reset down] ports, by number -/
  ports : Tab EthPort := []
  /-- [R260; reset 0] MODE each MAC took at its last training -/
  modes : Tab Nat := []
deriving DecidableEq, Repr

/-- What an unanswered request of a queue pair will be answered with (R274, R275, R280). -/
inductive QKind where
  /-- a packet of a WRITE or a SEND: an ACK when `ackReq` -/
  | ack (ackReq : Bool)
  /-- a command: its result stands in the status block before its ACK -/
  | cmd (ackReq : Bool)
  /-- a READ: response packets -/
  | read
  /-- an ATOMIC: Atomic Acknowledge, kept in its responder-resource record -/
  | atomic
  /-- a NAK marked ERROR: syndrome, POISON reason or quota code, QUOTA -/
  | nak (syn reason : Nat) (quota : Bool)
  /-- an RNR NAK with its timer code -/
  | rnr (code : Nat)
  /-- a PSN sequence error NAK -/
  | seqNak
deriving DecidableEq, Repr

/-- One answer that leaves in PSN order (R274). -/
structure QOut where
  /-- the model's number of the request -/
  id : Nat := 0
  /-- PSN -/
  psn : Nat := 0
  kind : QKind := .ack false
  /-- what it came to; none while it runs -/
  ans : Option Ans := none
  /-- port of the request, and how it is marked, as its answer is (R262) -/
  port : Nat := 0
  mark : Mark := {}
  /-- its desk buffer -/
  buf : Nat := 0
deriving DecidableEq, Repr

/-- A packet in a miss buffer (R285). -/
structure QWait where
  port : Nat := 0
  mark : Mark := {}
  buf : Nat := 0
  op : Nat := 0
  pkt : RPkt := {}
deriving DecidableEq, Repr

/-- A queue-pair context (R270, R281 to R284). -/
structure Qp where
  /-- [NRE indirect space; reset 0] STATE: 0 FREE, 1 CONNECTING, 2 RTS, 3 ERROR -/
  st : Nat := 0
  /-- [NRE indirect space; reset 0] CIRC -/
  circ : Bool := false
  /-- [R281; reset 0] ePSN, 24 bits -/
  epsn : Nat := 0
  /-- [NRE indirect space; reset 0] DEST_QPN -/
  dest : Nat := 0
  /-- [NRE indirect space; reset 0] HOST -/
  host : Nat := 0
  /-- [NRE indirect space; reset 0] PMTU: 0 1,024 B, 1 2,048 B, 2 4,096 B -/
  pmtu : Nat := 0
  /-- [NRE indirect space; reset 0] MSN, 24 bits -/
  msn : Nat := 0
  /-- [R270; reset 0] the mode announced in the REP -/
  mode : Bool := false
  /-- [R283; reset none] multi-packet WRITE in progress: next logical byte address, bytes left, owner, window -/
  wr : Option (Nat × Nat × Nat × Nat) := none
  /-- [R275; reset 0] packets of the message in progress -/
  pkts : Nat := 0
  /-- [R282; reset empty] responder-resource records, oldest first, at most 16: PSN, old value of an ATOMIC -/
  recs : List (Nat × Option (List Byte)) := []
  /-- [R281; reset none] a sequence NAK was sent and no packet with d = 0 has arrived: when (µs) -/
  seqAt : Option Nat := none
  /-- [R290; reset none] PSN of the RNR NAK outstanding -/
  rnr : Option Nat := none
  /-- [R288; reset 0] a packet waits for its folios -/
  stall : Bool := false
  /-- [R285; reset empty] packets in the miss buffers, in arrival order; the first is the stalled one -/
  waiting : List QWait := []
  /-- [R274; reset empty] requests not yet answered, in PSN order -/
  out : List QOut := []
  /-- number of the next request (the model's own) -/
  nextId : Nat := 0
  /-- [R278; reset 0] DONE -/
  done : Nat := 0
  /-- [R278; reset 0] STATUS -/
  status : Nat := 0
  /-- [R278; reset 0] UNCATALOGUED of the last command -/
  uncat : Bool := false
  /-- [R278; reset 0] SOLO of the last command -/
  solo : Bool := false
  /-- [R278; reset 0] LAST_IMM -/
  imm : Nat := 0
  /-- [R278; reset empty] RECORD bytes -/
  recBytes : List Byte := []
  /-- [R266; reset none] time of the last CNP sent (µs) -/
  cnpAt : Option Nat := none
deriving DecidableEq, Repr

/-- An entry of the address table (R267). -/
structure NetAddr where
  /-- [R267; reset 0] address, 16 bytes little-endian -/
  addr : Nat := 0
  /-- [R267; reset 0] VALID -/
  valid : Bool := false
  /-- [R267; reset 0] FLOATING -/
  floating : Bool := false
  /-- [R267; reset 0] port mask -/
  mask : Nat := 0
deriving DecidableEq, Repr

/-- NRE. -/
structure NreSt where
  /-- [NRE_STATUS; reset 0] READY -/
  ready : Bool := false
  /-- [R284; reset FREE] queue-pair contexts, by q -/
  qps : Tab Qp := []
  /-- [R284; reset empty] cached contexts, circulation's among them in clock order, the hand at the front: q, reference bit -/
  cards : List (Nat × Bool) := []
  /-- [R284; reset empty] contexts being fetched -/
  fetching : List Nat := []
  /-- [R269; reset invalid] host table, by host ID: address plus 1, 0 invalid -/
  hosts : Tab Nat := []
  /-- [R267; reset invalid] address table, 64 entries -/
  addrs : Tab NetAddr := []
  /-- [R292; reset 0] async event records, by position in the ring -/
  ring : Tab (BitVec 128) := []
  /-- [R292; reset 0] records written since reset -/
  ringAt : Nat := 0
  /-- [R292; reset 0] records the reader has reached -/
  ringSeen : Nat := 0
  /-- [R292; reset 0] ASYNC_OVF -/
  ovf : Bool := false
deriving DecidableEq, Repr

end Sys2Proof.Machine
end

