-- ==== Sys2Proof/Machine/Blocks5.lean ====
section
/-! DEFINITION. The state of CIR (R297 to R313). A field's docstring names the rule that gives it and, in brackets, its
value at reset. -/

namespace Sys2Proof.Machine

/-- A schedule slot (R297, R298). -/
structure Sched where
  /-- [CIR indirect space; reset 0] VALID -/
  valid : Bool := false
  /-- [R299; reset 0] tenant -/
  tenant : Nat := 0
  /-- [R298; reset empty] entries: handle, first tile, count -/
  entries : List (Nat × Nat × Nat) := []
deriving DecidableEq, Repr

/-- A tile in the desk (R305). -/
structure CirTile where
  /-- cumulative number on the connection -/
  n : Nat := 0
  /-- entry it belongs to -/
  entry : Nat := 0
  /-- desk pointer -/
  buf : Nat := 0
  /-- folios read so far, by their place in the tile -/
  parts : Tab (List Byte) := []
  /-- whole in its desk buffer -/
  whole : Bool := false
deriving DecidableEq, Repr

/-- What an outstanding message of a circulation queue pair is. -/
inductive CirWhat where
  | tile (n : Nat)
  | produced
  | tick
  | freed
  | completion
deriving DecidableEq, Repr

/-- An outstanding message: first PSN, packets, the message for a re-send (R308, R309). -/
structure CirMsg where
  psn : Nat := 0
  pkts : Nat := 1
  what : CirWhat := .tick
  msg : Emit := .eth 0 "" 0
deriving DecidableEq, Repr

/-- A circulation stream (R300 to R309). -/
structure CirStream where
  /-- [R309; reset IDLE] STATE: 0 IDLE, 1 ARMED, 2 RUNNING, 3 DRAINING, 4 STOPPED -/
  st : Nat := 0
  /-- [R300; reset 0] TENANT -/
  tenant : Nat := 0
  /-- [R300; reset 0] HOST -/
  host : Nat := 0
  /-- [R300; reset 0] SCHED -/
  sched : Nat := 0
  /-- [R299, R308; reset 0] schedule slot of the batch in progress: what SCHED named when it started -/
  run : Nat := 0
  /-- [R300; reset 0] DEPTH, 1 to 64 -/
  depth : Nat := 0
  /-- [R300; reset 0] AHEAD, 0 to 1,024 -/
  ahead : Nat := 0
  /-- [R300; reset 0] RATE in 100 MB/s, 0 no cap -/
  rate : Nat := 0
  /-- [R300; reset 0] DSCP -/
  dscp : Nat := 0
  /-- [R300; reset 0] REPEAT -/
  rep : Bool := false
  /-- [R300; reset 0] the record has been written -/
  set : Bool := false
  /-- [R301; reset 0] connected: the consumer's queue pair stands -/
  conn : Bool := false
  /-- [R301; reset 0] Ethernet port of the connection -/
  port : Nat := 0
  /-- [R301; reset 0] SLOTS -/
  slots : Nat := 0
  /-- [R301; reset 0] VA -/
  va : Nat := 0
  /-- [R301; reset 0] RKEY -/
  rkey : Nat := 0
  /-- [R302; reset 0] last FREED read -/
  freed : Nat := 0
  /-- [R302; reset 0] tiles acknowledged on the connection -/
  acked : Nat := 0
  /-- [R302; reset 0] next tile to send, cumulative -/
  sendN : Nat := 0
  /-- [R305; reset 0] next tile to fetch, cumulative -/
  fetchN : Nat := 0
  /-- [R305; reset 0] entry and place in it of the next tile to fetch -/
  fetchAt : Nat × Nat := (0, 0)
  /-- [R305; reset 0] tiles promoted ahead, cumulative -/
  aheadN : Nat := 0
  /-- [R305; reset 0] entry and place in it of the next tile to promote -/
  aheadAt : Nat × Nat := (0, 0)
  /-- [R300; reset 0] current entry: of the next tile to send -/
  entry : Nat := 0
  /-- [R302; reset 0] TICK -/
  tick : Nat := 0
  /-- [R308; reset 0] batches ended on the connection -/
  batches : Nat := 0
  /-- [R308; reset 0] first tile of the batch, cumulative -/
  first : Nat := 0
  /-- [R308; reset none] the batch's end: tile at which it ends, STATUS, ENTRY -/
  limit : Option (Nat × Nat × Nat) := none
  /-- [R307; reset 0] LATE: until a tile leaves without waiting, or the batch ends -/
  late : Bool := false
  /-- [R307; reset 0] the next tile waits -/
  tileLate : Bool := false
  /-- [R308; reset 0] some tile of the batch waited -/
  lateBatch : Bool := false
  /-- [R307; reset 0] LATE_WAITS, 12 bits, saturating -/
  lateWaits : Nat := 0
  /-- [R307; reset 0] this wait has been counted as an event -/
  lateLong : Bool := false
  /-- [R308; reset 0] RESTARTED for the batch -/
  restarted : Bool := false
  /-- [R311; reset 0] a stop was asked for -/
  stopping : Bool := false
  /-- [R305; reset empty] tiles in the desk, in order -/
  tiles : List CirTile := []
  /-- [R305; reset 0] a desk buffer was refused and is waited for -/
  deskWait : Bool := false
  /-- [R308; reset 0] next PSN -/
  psn : Nat := 0
  /-- [R304; reset empty] messages outstanding, oldest first -/
  out : List CirMsg := []
  /-- [R304; reset 0] PRODUCED as last written -/
  prodSaid : Nat := 0
  /-- [R303; reset none] time FREED was last asked for (µs) -/
  pollAt : Option Nat := none
  /-- [R309; reset 7] retries left -/
  tries : Nat := 7
  /-- [R308; reset none] PSN of an RNR NAK whose timer runs -/
  rnr : Option Nat := none
  /-- [R309; reset none] current rate in 100 MB/s; none while no CNP has cut it -/
  cur : Option Nat := none
deriving DecidableEq, Repr

/-- A schedule being loaded (R423). -/
structure SchedLoad where
  /-- its tenant -/
  tenant : Nat := 0
  /-- next index -/
  next : Nat := 0
  /-- entries so far -/
  entries : List (Nat × Nat × Nat) := []
deriving DecidableEq, Repr

/-- CIR. -/
structure CirSt where
  /-- [R297; reset invalid] 256 schedule slots -/
  scheds : Tab Sched := []
  /-- [R423; reset none] schedules being loaded, by slot -/
  loading : Tab (Option SchedLoad) := []
  /-- [R297; reset IDLE] 256 streams -/
  streams : Tab CirStream := []
deriving DecidableEq, Repr

end Sys2Proof.Machine
end

