-- ==== Sys2Proof/Machine/Blocks6.lean ====
section
/-! DEFINITION. The state of SBB with its target port SBT, and of DFT with the JTAG port. A field's docstring names the
rule that gives it and, in brackets, its value at reset. -/

namespace Sys2Proof.Machine

/-- A transaction asked of a sideband channel, with what the bus will do in it (R476, R479). -/
structure SbTx where
  /-- address byte's 7 bits -/
  addr : Nat := 0
  /-- bytes written -/
  bytes : List Byte := []
  /-- tries in which arbitration is lost -/
  lost : Nat := 0
  /-- every byte is acknowledged -/
  ack : Bool := true
  /-- the PEC byte, where used, is right -/
  pecOk : Bool := true
  /-- a target holds SCL low and the transaction does not end -/
  hang : Bool := false
deriving DecidableEq, Repr

/-- How a transaction ends (R479). -/
inductive SbEnd where
  | ok | nack | arb | timeout | pec | stuck | aborted
deriving DecidableEq, Repr

/-- One sideband channel (R471 to R479). -/
structure SbCh where
  /-- [SBB_CH_STATE; reset 0] 0 OFF, 1 CHECK, 2 IDLE, 3 BUSY, 4 RECOVER, 5 STUCK -/
  st : Nat := 0
  /-- [SBB_CH_STATE; reset 1, DESIGN CHOICE: the bus is idle] filtered SCL level -/
  scl : Bool := true
  /-- [SBB_CH_STATE; reset 1, DESIGN CHOICE: the bus is idle] filtered SDA level -/
  sda : Bool := true
  /-- [SBB_CH_STATE; reset 0] LAST_ATTN -/
  lastAttn : Nat := 0
  /-- [R478; reset empty] transactions that wait -/
  queue : List SbTx := []
  /-- [R479; reset none] the transaction that runs -/
  run : Option SbTx := none
  /-- [R479; reset none] how the last transaction ended -/
  last : Option SbEnd := none
deriving DecidableEq, Repr

/-- SBB and SBT. -/
structure SbbSt where
  /-- [R471; reset OFF] the four channels -/
  chs : Tab SbCh := []
  /-- [R480; reset 0, DESIGN CHOICE] SBT pointer -/
  ptr : Nat := 0
  /-- [R480; reset 0, DESIGN CHOICE] WADDR -/
  waddr : Nat := 0
  /-- [R480; reset 0, DESIGN CHOICE] WCTL.AUTO -/
  auto : Bool := false
  /-- [R480; reset 0, DESIGN CHOICE] the holding register of WDATA, 24 bits -/
  hold : Nat := 0
  /-- [R480; reset 0, DESIGN CHOICE] the value fetched -/
  fetched : Nat := 0
  /-- [R480; reset 0] WSTAT: 0 OK, 1 REFUSED, 2 NOT_POWERED, 3 PENDING -/
  wstat : Nat := 0
deriving DecidableEq, Repr

/-- One serial lane under test (R484 to R487). -/
structure DftLane where
  /-- [DFT_LANE_CTRL; reset 0] GEN -/
  gen : Nat := 0
  /-- [DFT_LANE_CTRL; reset 0] CHK -/
  chk : Nat := 0
  /-- [DFT_LANE_CTRL; reset 0] LOOP -/
  loop : Nat := 0
  /-- [DFT_LANE_STATUS; reset 0] LOCK -/
  lock : Bool := false
  /-- [DFT_LANE_STATUS; reset 0] INVERTED -/
  inverted : Bool := false
  /-- [DFT_LANE_STATUS; reset 0] REFUSED -/
  refused : Bool := false
  /-- [R486; reset 0] errors, 32 bits, saturating -/
  errs : Nat := 0
  /-- [R486; reset 0] bits, 64 bits -/
  bits : Nat := 0
  /-- [R486; reset 0] lock losses, 16 bits, saturating -/
  losses : Nat := 0
deriving DecidableEq, Repr

/-- A lane's counts at the last SNAP (R486): errors, bits, lock losses. -/
structure DftCopy where
  errs : Nat := 0
  bits : Nat := 0
  losses : Nat := 0
deriving DecidableEq, Repr

/-- DFT and the JTAG port. -/
structure DftSt where
  /-- [R483; reset not in test] the 130 lanes -/
  lanes : Tab DftLane := []
  /-- [R486; reset 0] counts copied by the last SNAP -/
  copies : Tab DftCopy := []
  /-- [R503; reset none] TX_FIR and RX_EQ of a lane as written since it last trained; what training sets is not the manual's -/
  phy : Tab (Option Nat × Option Nat) := []
  /-- [R489; reset none] DRAM bus test in progress: channel, MODE -/
  run : Option (Nat × Nat) := none
  /-- [DFT_DRAM_CTRL; reset 0] DONE -/
  done : Bool := false
  /-- [DFT_DRAM_RES; reset 0] MISSED -/
  missed : Nat := 0
  /-- [DFT_DRAM_RES; reset 0] FALSE -/
  false_ : Nat := 0
  /-- [R489; reset 0] errors per DQ lane of the last data test -/
  dq : Tab Nat := []
  /-- [R490; reset IDCODE, PRESUMED: IEEE 1149.1] the instruction in force -/
  jtag : JtagOp := .idcode
deriving DecidableEq, Repr

end Sys2Proof.Machine
end

