-- ==== Sys2Proof/Machine/RegMap.lean ====
section
/-! DEFINITION. The register map: every register of every chapter's register table (the address of its first
instance, the instances its window and its own table row repeat it for, the bits a write may set, the bits the
image gives, the live bits of R418, the SC bits, and the value the RW bits hold after an Image reset where the
chapter gives a default), and one constant for every named field. Addresses are byte addresses in the 64 MiB
management window (R493). -/

namespace Sys2Proof.Machine

/-- One row of a register table: `n1` windows `s1` apart (DMC, TVL, ETH), `n2` repeats `s2` apart inside the window
(R493, R495, R497). -/
structure RegDef where
  addr : Nat
  n1 : Nat
  s1 : Nat
  n2 : Nat
  s2 : Nat
  rw : Nat
  img : Nat
  live : Nat
  sc : Nat
  sh : Nat
  dflt : Nat
deriving DecidableEq, Repr

/-- One named field of a register: the address of its first instance and its bits [hi:lo]. -/
structure Fld where
  addr : Nat
  hi : Nat
  lo : Nat
deriving DecidableEq, Repr

/-- The same field in an instance `off` bytes further on. -/
def Fld.plus (f : Fld) (off : Nat) : Fld := ⟨f.addr + off, f.hi, f.lo⟩

/-- The registers of TQM. -/
def regsTQM : List RegDef := [
  ⟨0xe00000, 1, 0x0, 1, 0x0, 0x7, 0x7, 0x6, 0x0, 0x0, 0x0⟩,  -- TQM_CTRL
  ⟨0xe00004, 1, 0x0, 1, 0x0, 0x0, 0x0, 0x0, 0x0, 0x0, 0x0⟩,  -- TQM_STATUS
  ⟨0xe00008, 1, 0x0, 1, 0x0, 0x0, 0x0, 0x0, 0x0, 0x0, 0x0⟩,  -- TQM_LPA_FREE
  ⟨0xe0000c, 1, 0x0, 1, 0x0, 0x0, 0x0, 0x0, 0x0, 0x0, 0x0⟩,  -- TQM_LPA_RUN
  ⟨0xe00010, 1, 0x0, 1, 0x0, 0x0, 0x0, 0x0, 0x0, 0x0, 0x0⟩,  -- TQM_OBJ_COUNT
  ⟨0xe00020, 1, 0x0, 1, 0x0, 0xffffffff, 0x0, 0x0, 0x0, 0x0, 0x0⟩,  -- TQM_IADDR
  ⟨0xe00024, 1, 0x0, 1, 0x0, 0x0, 0x0, 0x0, 0x0, 0x0, 0x0⟩,  -- TQM_IDATA
  ⟨0xe00030, 1, 0x0, 1, 0x0, 0xfff0000, 0x0, 0x0, 0x3, 0x0, 0x0⟩,  -- TQM_CMD
  ⟨0xe00040, 1, 0x0, 1, 0x0, 0x0, 0x0, 0x0, 0x0, 0xffffffff, 0x0⟩,  -- TQM_CNT_DENY
  ⟨0xe00044, 1, 0x0, 1, 0x0, 0x0, 0x0, 0x0, 0x0, 0xffffffff, 0x0⟩,  -- TQM_CNT_QUOTA
  ⟨0xe00048, 1, 0x0, 1, 0x0, 0x0, 0x0, 0x0, 0x0, 0xffffffff, 0x0⟩,  -- TQM_CNT_BYPASS
  ⟨0xe0004c, 1, 0x0, 1, 0x0, 0x0, 0x0, 0x0, 0x0, 0xffffffff, 0x0⟩]  -- TQM_CNT_MAP

/-- The registers of EPO. -/
def regsEPO : List RegDef := [
  ⟨0xb00000, 1, 0x0, 1, 0x0, 0x7f, 0x7f, 0x3e, 0x0, 0x0, 0x0⟩,  -- EPO_CTRL
  ⟨0xb00004, 1, 0x0, 1, 0x0, 0x0, 0x0, 0x0, 0x0, 0x0, 0x0⟩,  -- EPO_STATUS
  ⟨0xb00008, 1, 0x0, 1, 0x0, 0x0, 0x3ffff, 0x0, 0x0, 0x0, 0x4000⟩,  -- EPO_POOL_SIZE
  ⟨0xb0000c, 1, 0x0, 1, 0x0, 0x0, 0x0, 0x0, 0x0, 0x0, 0x0⟩,  -- EPO_POOL_FREE
  ⟨0xb00010, 1, 0x0, 1, 0x0, 0x3ffff, 0x3ffff, 0x3ffff, 0x0, 0x0, 0x0⟩,  -- EPO_POOL_LOW
  ⟨0xb00014, 1, 0x0, 1, 0x0, 0xffff, 0xffff, 0xffff, 0x0, 0x0, 0x100⟩,  -- EPO_LAG_LIMIT
  ⟨0xb00018, 1, 0x0, 1, 0x0, 0x0, 0x0, 0x0, 0x0, 0x0, 0x0⟩,  -- EPO_LAG_NOW
  ⟨0xb0001c, 1, 0x0, 1, 0x0, 0x0, 0x0, 0x0, 0x0, 0x0, 0x0⟩,  -- EPO_RPT_COUNT
  ⟨0xb00020, 1, 0x0, 1, 0x0, 0xffffffff, 0x0, 0x0, 0x0, 0x0, 0x0⟩,  -- EPO_IADDR
  ⟨0xb00024, 1, 0x0, 1, 0x0, 0x0, 0x0, 0x0, 0x0, 0x0, 0x0⟩,  -- EPO_IDATA
  ⟨0xb00028, 1, 0x0, 1, 0x0, 0x1ffff, 0x0, 0x0, 0x0, 0x0, 0x0⟩,  -- EPO_ISEG
  ⟨0xb00030, 1, 0x0, 1, 0x0, 0x0, 0x0, 0x0, 0x1, 0x0, 0x0⟩,  -- EPO_CMD
  ⟨0xb00040, 1, 0x0, 1, 0x0, 0x0, 0x0, 0x0, 0x0, 0xffffffff, 0x0⟩,  -- EPO_CNT_ENTRIES
  ⟨0xb00044, 1, 0x0, 1, 0x0, 0x0, 0x0, 0x0, 0x0, 0xffffffff, 0x0⟩,  -- EPO_CNT_CLOSES
  ⟨0xb00048, 1, 0x0, 1, 0x0, 0x0, 0x0, 0x0, 0x0, 0xffffffff, 0x0⟩,  -- EPO_CNT_UNCAT
  ⟨0xb0004c, 1, 0x0, 1, 0x0, 0x0, 0x0, 0x0, 0x0, 0xffffffff, 0x0⟩,  -- EPO_CNT_HELD
  ⟨0xb00050, 1, 0x0, 1, 0x0, 0x0, 0x0, 0x0, 0x0, 0xffffffff, 0x0⟩,  -- EPO_CNT_DUP
  ⟨0xb00054, 1, 0x0, 1, 0x0, 0x0, 0x0, 0x0, 0x0, 0xffffffff, 0x0⟩]  -- EPO_CNT_RMW

/-- The registers of RSV. -/
def regsRSV : List RegDef := [
  ⟨0xc00000, 1, 0x0, 1, 0x0, 0xf, 0xf, 0x8, 0x0, 0x0, 0x0⟩,  -- RSV_CTRL
  ⟨0xc00004, 1, 0x0, 1, 0x0, 0x0, 0x0, 0x0, 0x0, 0x0, 0x0⟩,  -- RSV_STATUS
  ⟨0xc00008, 1, 0x0, 1, 0x0, 0xffff001f, 0xffff001f, 0x0, 0x0, 0x0, 0x0⟩,  -- RSV_BANK_CFG
  ⟨0xc0000c, 1, 0x0, 1, 0x0, 0xffff, 0xffff, 0x0, 0x0, 0x0, 0x0⟩,  -- RSV_BANK_CAP
  ⟨0xc00010, 1, 0x0, 1, 0x0, 0xffff, 0xffff, 0x0, 0x0, 0x0, 0x0⟩,  -- RSV_BANK_FLOOR
  ⟨0xc00014, 1, 0x0, 1, 0x0, 0x3ff, 0x3ff, 0x0, 0x0, 0x0, 0x0⟩,  -- RSV_DRAW_CFG
  ⟨0xc00018, 1, 0x0, 1, 0x0, 0xffffffff, 0xffffffff, 0x0, 0x0, 0x0, 0x0⟩,  -- RSV_DRAW_SCALE
  ⟨0xc0001c, 1, 0x0, 1, 0x0, 0xffff, 0xffff, 0x0, 0x0, 0x0, 0x0⟩,  -- RSV_DRAW_MIN
  ⟨0xc00020, 1, 0x0, 1, 0x0, 0xffff, 0xffff, 0x0, 0x0, 0x0, 0x3264⟩,  -- RSV_TIMES
  ⟨0xc00024, 1, 0x0, 1, 0x0, 0xffff, 0xffff, 0x0, 0x0, 0x0, 0x30d4⟩,  -- RSV_LINK_RATE
  ⟨0xc00028, 1, 0x0, 1, 0x0, 0xfff, 0xfff, 0xfff, 0x0, 0x0, 0x0⟩,  -- RSV_HARD_CAP
  ⟨0xc0002c, 1, 0x0, 1, 0x0, 0xfff, 0xfff, 0x0, 0x0, 0x0, 0x0⟩,  -- RSV_SAFE
  ⟨0xc00030, 1, 0x0, 1, 0x0, 0xffffffff, 0xffffffff, 0xffffffff, 0x0, 0x0, 0xf6ecdac0⟩,  -- RSV_STAGE_THR
  ⟨0xc00034, 1, 0x0, 1, 0x0, 0xffff, 0xffff, 0xffff, 0x0, 0x0, 0x400a⟩,  -- RSV_STAGE_HYST
  ⟨0xc00038, 1, 0x0, 1, 0x0, 0xff, 0xff, 0xff, 0x0, 0x0, 0x0⟩,  -- RSV_PFC
  ⟨0xc00040, 1, 0x0, 1, 0x0, 0x0, 0x0, 0x0, 0x0, 0x0, 0x0⟩,  -- RSV_E_NOW
  ⟨0xc00044, 1, 0x0, 1, 0x0, 0x0, 0x0, 0x0, 0x0, 0x0, 0x0⟩,  -- RSV_P_NOW
  ⟨0xc00048, 1, 0x0, 1, 0x0, 0x0, 0x0, 0x0, 0x0, 0x0, 0x0⟩,  -- RSV_T_AVAIL
  ⟨0xc0004c, 1, 0x0, 1, 0x0, 0x0, 0x0, 0x0, 0x0, 0x0, 0x0⟩,  -- RSV_BUDGET
  ⟨0xc00050, 1, 0x0, 1, 0x0, 0x0, 0x0, 0x0, 0x0, 0x0, 0x0⟩,  -- RSV_DIRTY
  ⟨0xc00054, 1, 0x0, 1, 0x0, 0x0, 0x0, 0x0, 0x0, 0x0, 0x8910⟩,  -- RSV_FIXED
  ⟨0xc00058, 1, 0x0, 1, 0x0, 0x0, 0x0, 0x0, 0x0, 0x0, 0x0⟩,  -- RSV_STRANDED
  ⟨0xc00060, 1, 0x0, 1, 0x0, 0xffffffff, 0x0, 0x0, 0x0, 0x0, 0x0⟩,  -- RSV_IADDR
  ⟨0xc00064, 1, 0x0, 1, 0x0, 0x0, 0x0, 0x0, 0x0, 0x0, 0x0⟩,  -- RSV_IDATA
  ⟨0xc00070, 1, 0x0, 1, 0x0, 0x0, 0x0, 0x0, 0x1, 0x0, 0x0⟩,  -- RSV_CMD
  ⟨0xc00080, 1, 0x0, 1, 0x0, 0x0, 0x0, 0x0, 0x0, 0xffffffff, 0x0⟩,  -- RSV_CNT_WAIT
  ⟨0xc00084, 1, 0x0, 1, 0x0, 0x0, 0x0, 0x0, 0x0, 0xffffffff, 0x0⟩,  -- RSV_CNT_FULL
  ⟨0xc00088, 1, 0x0, 1, 0x0, 0x0, 0x0, 0x0, 0x0, 0xffffffff, 0x0⟩,  -- RSV_CNT_VAULTS
  ⟨0xc00090, 1, 0x0, 1, 0x0, 0x0, 0x0, 0x0, 0x0, 0x0, 0x0⟩,  -- RSV_LAST_VAULT
  ⟨0xc00094, 1, 0x0, 1, 0x0, 0x0, 0x0, 0x0, 0x0, 0x0, 0x0⟩]  -- RSV_LAST_FOLIOS

/-- The registers of FCH. -/
def regsFCH : List RegDef := [
  ⟨0xd00000, 1, 0x0, 1, 0x0, 0xf, 0xf, 0xf, 0x0, 0x0, 0x0⟩,  -- FCH_CTRL
  ⟨0xd00004, 1, 0x0, 1, 0x0, 0x0, 0x0, 0x0, 0x0, 0x0, 0x0⟩,  -- FCH_STATUS
  ⟨0xd00008, 1, 0x0, 1, 0x0, 0x0, 0x0, 0x0, 0x0, 0x0, 0x0⟩,  -- FCH_SETS
  ⟨0xd0000c, 1, 0x0, 1, 0x0, 0x0, 0xffffff, 0x0, 0x0, 0x0, 0x0⟩,  -- FCH_RESV
  ⟨0xd00010, 1, 0x0, 1, 0x0, 0xf, 0xf, 0xf, 0x0, 0x0, 0xc⟩,  -- FCH_PIN_LIMIT
  ⟨0xd00014, 1, 0x0, 1, 0x0, 0xff, 0xff, 0xff, 0x0, 0x0, 0xa⟩,  -- FCH_SWEEP
  ⟨0xd00018, 1, 0x0, 1, 0x0, 0x0, 0x0, 0x0, 0x0, 0x0, 0x0⟩,  -- FCH_EVB_USED
  ⟨0xd0001c, 1, 0x0, 1, 0x0, 0x0, 0x0, 0x0, 0x0, 0x0, 0x0⟩,  -- FCH_HAZ_USED
  ⟨0xd00020, 1, 0x0, 1, 0x0, 0xffffffff, 0x0, 0x0, 0x0, 0x0, 0x0⟩,  -- FCH_IADDR
  ⟨0xd00024, 1, 0x0, 1, 0x0, 0x0, 0x0, 0x0, 0x0, 0x0, 0x0⟩,  -- FCH_IDATA
  ⟨0xd00028, 1, 0x0, 1, 0x0, 0xfffffff, 0x0, 0x0, 0x0, 0x0, 0x0⟩,  -- FCH_ISET
  ⟨0xd00030, 1, 0x0, 1, 0x0, 0x0, 0x0, 0x0, 0x1, 0x0, 0x0⟩,  -- FCH_CMD
  ⟨0xd00040, 1, 0x0, 1, 0x0, 0x0, 0x0, 0x0, 0x0, 0xffffffff, 0x0⟩,  -- FCH_CNT_HIT
  ⟨0xd00044, 1, 0x0, 1, 0x0, 0x0, 0x0, 0x0, 0x0, 0xffffffff, 0x0⟩,  -- FCH_CNT_MISS
  ⟨0xd00048, 1, 0x0, 1, 0x0, 0x0, 0x0, 0x0, 0x0, 0xffffffff, 0x0⟩,  -- FCH_CNT_FILL
  ⟨0xd0004c, 1, 0x0, 1, 0x0, 0x0, 0x0, 0x0, 0x0, 0xffffffff, 0x0⟩,  -- FCH_CNT_EVICT
  ⟨0xd00050, 1, 0x0, 1, 0x0, 0x0, 0x0, 0x0, 0x0, 0xffffffff, 0x0⟩,  -- FCH_CNT_RESCUE
  ⟨0xd00054, 1, 0x0, 1, 0x0, 0x0, 0x0, 0x0, 0x0, 0xffffffff, 0x0⟩,  -- FCH_CNT_NOWAY
  ⟨0xd00058, 1, 0x0, 1, 0x0, 0x0, 0x0, 0x0, 0x0, 0xffffffff, 0x0⟩,  -- FCH_CNT_VICTIM_WAIT
  ⟨0xd0005c, 1, 0x0, 1, 0x0, 0x0, 0x0, 0x0, 0x0, 0xffffffff, 0x0⟩,  -- FCH_CNT_MAINT
  ⟨0xd00060, 1, 0x0, 1, 0x0, 0x0, 0x0, 0x0, 0x0, 0xffffffff, 0x0⟩,  -- FCH_CNT_TAGC_MISS
  ⟨0xd00064, 1, 0x0, 1, 0x0, 0x0, 0x0, 0x0, 0x0, 0xffffffff, 0x0⟩]  -- FCH_CNT_DIRFIX

/-- The registers of STK. -/
def regsSTK : List RegDef := [
  ⟨0xf00000, 1, 0x0, 1, 0x0, 0xffff, 0xffff, 0x0, 0x0, 0x0, 0x0⟩,  -- STK_CTRL
  ⟨0xf00004, 1, 0x0, 1, 0x0, 0x0, 0x0, 0x0, 0x0, 0x0, 0x0⟩,  -- STK_STATUS
  ⟨0xf00008, 1, 0x0, 1, 0x0, 0xffffffff, 0xffffffff, 0xffffffff, 0x0, 0x0, 0x3640a0a⟩,  -- STK_TIMEOUT
  ⟨0xf0000c, 1, 0x0, 1, 0x0, 0xff, 0xff, 0x0, 0x0, 0x0, 0x0⟩,  -- STK_META
  ⟨0xf00010, 1, 0x0, 1, 0x0, 0x0, 0x0, 0x0, 0x0, 0x0, 0x0⟩,  -- STK_FREE_TOTAL
  ⟨0xf00020, 1, 0x0, 1, 0x0, 0xffffffff, 0x0, 0x0, 0x0, 0x0, 0x0⟩,  -- STK_IADDR
  ⟨0xf00024, 1, 0x0, 1, 0x0, 0x0, 0x0, 0x0, 0x0, 0x0, 0x0⟩,  -- STK_IDATA
  ⟨0xf00030, 1, 0x0, 1, 0x0, 0xf0000, 0x0, 0x0, 0x3, 0x0, 0x0⟩,  -- STK_CMD
  ⟨0xf00100, 1, 0x0, 16, 0x20, 0x0, 0x0, 0x0, 0x0, 0x0, 0x0⟩,  -- STK_LINK_STATE
  ⟨0xf00104, 1, 0x0, 16, 0x20, 0x0, 0x0, 0x0, 0x0, 0x0, 0x0⟩,  -- STK_LINK_FREE
  ⟨0xf00108, 1, 0x0, 16, 0x20, 0x0, 0x0, 0x0, 0x0, 0xffffffff, 0x0⟩,  -- STK_LINK_CNT_READ
  ⟨0xf0010c, 1, 0x0, 16, 0x20, 0x0, 0x0, 0x0, 0x0, 0xffffffff, 0x0⟩,  -- STK_LINK_CNT_WRITE
  ⟨0xf00110, 1, 0x0, 16, 0x20, 0x0, 0x0, 0x0, 0x0, 0xffffffff, 0x0⟩]  -- STK_LINK_CNT_ERR

/-- The registers of DMC. -/
def regsDMC : List RegDef := [
  ⟨0x1000000, 16, 0x100000, 1, 0x0, 0x3, 0x3, 0x2, 0x0, 0x0, 0x0⟩,  -- DMC_CTRL
  ⟨0x1000004, 16, 0x100000, 1, 0x0, 0x0, 0x0, 0x0, 0x0, 0x0, 0x0⟩,  -- DMC_STATUS
  ⟨0x1000008, 16, 0x100000, 1, 0x0, 0x0, 0xffffff, 0x0, 0x0, 0x0, 0x0⟩,  -- DMC_POP
  ⟨0x100000c, 16, 0x100000, 1, 0x0, 0x0, 0x0, 0x0, 0x0, 0x0, 0x0⟩,  -- DMC_SPEED
  ⟨0x1000010, 16, 0x100000, 1, 0x0, 0xffffffff, 0xffffffff, 0xffffffff, 0x0, 0x0, 0x20601410⟩,  -- DMC_SCHED
  ⟨0x1000014, 16, 0x100000, 1, 0x0, 0xffff, 0xffff, 0xffff, 0x0, 0x0, 0x5f55⟩,  -- DMC_THERM
  ⟨0x1000018, 16, 0x100000, 1, 0x0, 0xffff, 0xffff, 0xffff, 0x0, 0x0, 0x864⟩,  -- DMC_RETRAIN
  ⟨0x100001c, 16, 0x100000, 1, 0x0, 0xff, 0xff, 0x0, 0x0, 0x0, 0x40⟩,  -- DMC_CAPAR
  ⟨0x1000020, 16, 0x100000, 1, 0x0, 0xffffffff, 0x0, 0x0, 0x0, 0x0, 0x0⟩,  -- DMC_IADDR
  ⟨0x1000024, 16, 0x100000, 1, 0x0, 0x0, 0x0, 0x0, 0x0, 0x0, 0x0⟩,  -- DMC_IDATA
  ⟨0x1000030, 16, 0x100000, 1, 0x0, 0x0, 0x0, 0x0, 0x7, 0x0, 0x0⟩,  -- DMC_CMD
  ⟨0x1000040, 16, 0x100000, 1, 0x0, 0x0, 0x0, 0x0, 0x0, 0xffffffff, 0x0⟩,  -- DMC_CNT_READ
  ⟨0x1000044, 16, 0x100000, 1, 0x0, 0x0, 0x0, 0x0, 0x0, 0xffffffff, 0x0⟩,  -- DMC_CNT_WRITE
  ⟨0x1000048, 16, 0x100000, 1, 0x0, 0x0, 0x0, 0x0, 0x0, 0xffffffff, 0x0⟩,  -- DMC_CNT_ROWHIT
  ⟨0x100004c, 16, 0x100000, 1, 0x0, 0x0, 0x0, 0x0, 0x0, 0xffffffff, 0x0⟩,  -- DMC_CNT_CAPAR
  ⟨0x1000050, 16, 0x100000, 1, 0x0, 0x0, 0x0, 0x0, 0x0, 0xffffffff, 0x0⟩,  -- DMC_CNT_INORDER
  ⟨0x1000054, 16, 0x100000, 1, 0x0, 0x0, 0x0, 0x0, 0x0, 0xffffffff, 0x0⟩,  -- DMC_CNT_STARVE
  ⟨0x1000100, 16, 0x100000, 1, 0x0, 0xffffffff, 0xffffffff, 0xffffffff, 0x0, 0x0, 0x0⟩,  -- DMC_TIM_A0
  ⟨0x1000104, 16, 0x100000, 1, 0x0, 0xffffffff, 0xffffffff, 0xffffffff, 0x0, 0x0, 0x0⟩,  -- DMC_TIM_A1
  ⟨0x1000108, 16, 0x100000, 1, 0x0, 0xffffffff, 0xffffffff, 0xffffffff, 0x0, 0x0, 0x0⟩,  -- DMC_TIM_A2
  ⟨0x100010c, 16, 0x100000, 1, 0x0, 0xfffffff, 0xfffffff, 0xfffffff, 0x0, 0x0, 0x0⟩,  -- DMC_TIM_A3
  ⟨0x1000110, 16, 0x100000, 1, 0x0, 0xffffffff, 0xffffffff, 0xffffffff, 0x0, 0x0, 0x0⟩,  -- DMC_TIM_A4
  ⟨0x1000120, 16, 0x100000, 1, 0x0, 0xffffffff, 0xffffffff, 0xffffffff, 0x0, 0x0, 0x0⟩,  -- DMC_TIM_B0
  ⟨0x1000124, 16, 0x100000, 1, 0x0, 0xffffffff, 0xffffffff, 0xffffffff, 0x0, 0x0, 0x0⟩,  -- DMC_TIM_B1
  ⟨0x1000128, 16, 0x100000, 1, 0x0, 0xffffffff, 0xffffffff, 0xffffffff, 0x0, 0x0, 0x0⟩,  -- DMC_TIM_B2
  ⟨0x100012c, 16, 0x100000, 1, 0x0, 0xfffffff, 0xfffffff, 0xfffffff, 0x0, 0x0, 0x0⟩,  -- DMC_TIM_B3
  ⟨0x1000130, 16, 0x100000, 1, 0x0, 0xffffffff, 0xffffffff, 0xffffffff, 0x0, 0x0, 0x0⟩]  -- DMC_TIM_B4

/-- The registers of LPR. -/
def regsLPR : List RegDef := [
  ⟨0x2000000, 1, 0x0, 1, 0x0, 0xf, 0xf, 0xe, 0x0, 0x0, 0x0⟩,  -- LPR_CTRL
  ⟨0x2000004, 1, 0x0, 1, 0x0, 0x0, 0x0, 0x0, 0x0, 0x0, 0x0⟩,  -- LPR_STATUS
  ⟨0x2000008, 1, 0x0, 1, 0x0, 0xff, 0xff, 0xff, 0x0, 0x0, 0x18⟩,  -- LPR_SCRUB
  ⟨0x200000c, 1, 0x0, 1, 0x0, 0xfff, 0xfff, 0xfff, 0x0, 0x0, 0x100⟩,  -- LPR_DEAD
  ⟨0x2000010, 1, 0x0, 1, 0x0, 0xffffffff, 0x0, 0x0, 0x0, 0x0, 0x0⟩,  -- LPR_RAW_ADDR
  ⟨0x2000014, 1, 0x0, 1, 0x0, 0x1f, 0x0, 0x0, 0x0, 0x0, 0x0⟩,  -- LPR_RAW_ADDRH
  ⟨0x2000018, 1, 0x0, 1, 0x0, 0x0, 0x0, 0x0, 0x3, 0x0, 0x0⟩,  -- LPR_RAW_CMD
  ⟨0x2000020, 1, 0x0, 1, 0x0, 0xffffffff, 0x0, 0x0, 0x0, 0x0, 0x0⟩,  -- LPR_IADDR
  ⟨0x2000024, 1, 0x0, 1, 0x0, 0xffffffff, 0x0, 0x0, 0x0, 0x0, 0x0⟩,  -- LPR_IDATA
  ⟨0x2000030, 1, 0x0, 1, 0x0, 0x0, 0x0, 0x0, 0x7, 0x0, 0x0⟩,  -- LPR_CMD
  ⟨0x2000034, 1, 0x0, 1, 0x0, 0xffffffff, 0x0, 0x0, 0x0, 0x0, 0x0⟩,  -- LPR_INJ_ADDR
  ⟨0x2000038, 1, 0x0, 1, 0x0, 0x3ffff, 0x0, 0x0, 0x80000000, 0x0, 0x0⟩,  -- LPR_INJ_CTRL
  ⟨0x200003c, 1, 0x0, 1, 0x0, 0xffffffff, 0x0, 0x0, 0x0, 0x0, 0x0⟩,  -- LPR_INJ_MASK
  ⟨0x2000040, 1, 0x0, 1, 0x0, 0x0, 0x0, 0x0, 0x0, 0xffffffff, 0x0⟩,  -- LPR_CNT_CE
  ⟨0x2000044, 1, 0x0, 1, 0x0, 0x0, 0x0, 0x0, 0x0, 0xffffffff, 0x0⟩,  -- LPR_CNT_UE_DEMAND
  ⟨0x2000048, 1, 0x0, 1, 0x0, 0x0, 0x0, 0x0, 0x0, 0xffffffff, 0x0⟩,  -- LPR_CNT_UE_SCRUB
  ⟨0x200004c, 1, 0x0, 1, 0x0, 0x0, 0x0, 0x0, 0x0, 0xffffffff, 0x0⟩,  -- LPR_CNT_SCRUBBED
  ⟨0x2000050, 1, 0x0, 1, 0x0, 0x0, 0x0, 0x0, 0x0, 0xffffffff, 0x0⟩,  -- LPR_CNT_TAG_FOLD
  ⟨0x2000054, 1, 0x0, 1, 0x0, 0x0, 0x0, 0x0, 0x0, 0xffffffff, 0x0⟩,  -- LPR_CNT_TAG_RW
  ⟨0x2000058, 1, 0x0, 1, 0x0, 0x0, 0x0, 0x0, 0x0, 0xffffffff, 0x0⟩]  -- LPR_CNT_REMAP

/-- The registers of TVL. -/
def regsTVL : List RegDef := [
  ⟨0x2100000, 16, 0x100000, 1, 0x0, 0x3, 0x3, 0x1, 0x0, 0x0, 0x0⟩,  -- TVL_CTRL
  ⟨0x2100008, 16, 0x100000, 1, 0x0, 0xffffff, 0xffffff, 0xffffff, 0x0, 0x0, 0x640202⟩,  -- TVL_TIMERS
  ⟨0x210000c, 16, 0x100000, 1, 0x0, 0x0, 0x0, 0x0, 0x0, 0x0, 0x0⟩,  -- TVL_CAP
  ⟨0x2100010, 16, 0x100000, 1, 0x0, 0x0, 0x0, 0x0, 0x0, 0x0, 0x0⟩,  -- TVL_CAP2
  ⟨0x2100030, 16, 0x100000, 1, 0x0, 0x4, 0x0, 0x0, 0x3, 0x0, 0x0⟩,  -- TVL_CMD
  ⟨0x2100100, 16, 0x100000, 2, 0x80, 0x0, 0x0, 0x0, 0x0, 0x0, 0x0⟩,  -- TVL_LINK
  ⟨0x2100104, 16, 0x100000, 2, 0x80, 0x0, 0x0, 0x0, 0x0, 0x0, 0x0⟩,  -- TVL_PEER_UID_LO
  ⟨0x2100108, 16, 0x100000, 2, 0x80, 0x0, 0x0, 0x0, 0x0, 0x0, 0x0⟩,  -- TVL_PEER_UID_HI
  ⟨0x210010c, 16, 0x100000, 2, 0x80, 0x0, 0x0, 0x0, 0x0, 0x0, 0x0⟩,  -- TVL_PEER_CAP
  ⟨0x2100110, 16, 0x100000, 2, 0x80, 0x0, 0x0, 0x0, 0x0, 0x0, 0x0⟩,  -- TVL_CRED_TX
  ⟨0x2100114, 16, 0x100000, 2, 0x80, 0x0, 0x0, 0x0, 0x0, 0x0, 0x0⟩,  -- TVL_RX_FREE
  ⟨0x2100118, 16, 0x100000, 2, 0x80, 0x0, 0x0, 0x0, 0x0, 0x0, 0x0⟩,  -- TVL_SEQ
  ⟨0x2100120, 16, 0x100000, 2, 0x80, 0x0, 0x0, 0x0, 0x0, 0xffffffff, 0x0⟩,  -- TVL_CNT_FLIT_RX
  ⟨0x2100124, 16, 0x100000, 2, 0x80, 0x0, 0x0, 0x0, 0x0, 0xffffffff, 0x0⟩,  -- TVL_CNT_FLIT_TX
  ⟨0x2100128, 16, 0x100000, 2, 0x80, 0x0, 0x0, 0x0, 0x0, 0xffffffff, 0x0⟩,  -- TVL_CNT_FEC_CORR
  ⟨0x210012c, 16, 0x100000, 2, 0x80, 0x0, 0x0, 0x0, 0x0, 0xffffffff, 0x0⟩,  -- TVL_CNT_FEC_UNCORR
  ⟨0x2100130, 16, 0x100000, 2, 0x80, 0x0, 0x0, 0x0, 0x0, 0xffffffff, 0x0⟩,  -- TVL_CNT_CRC
  ⟨0x2100134, 16, 0x100000, 2, 0x80, 0x0, 0x0, 0x0, 0x0, 0xffffffff, 0x0⟩,  -- TVL_CNT_REPLAY
  ⟨0x2100138, 16, 0x100000, 2, 0x80, 0x0, 0x0, 0x0, 0x0, 0xffffffff, 0x0⟩,  -- TVL_CNT_LINK
  ⟨0x210013c, 16, 0x100000, 2, 0x80, 0x0, 0x0, 0x0, 0x0, 0xffffffff, 0x0⟩]  -- TVL_CNT_DISCARD

/-- The registers of NRE. -/
def regsNRE : List RegDef := [
  ⟨0x3100000, 1, 0x0, 1, 0x0, 0x3, 0x3, 0x2, 0x0, 0x0, 0x0⟩,  -- NRE_CTRL
  ⟨0x3100004, 1, 0x0, 1, 0x0, 0x0, 0x0, 0x0, 0x0, 0x0, 0x0⟩,  -- NRE_STATUS
  ⟨0x3100008, 1, 0x0, 1, 0x0, 0x0, 0x0, 0x0, 0x0, 0x0, 0x0⟩,  -- NRE_QP_LIVE
  ⟨0x310000c, 1, 0x0, 1, 0x0, 0x0, 0x0, 0x0, 0x0, 0x0, 0x0⟩,  -- NRE_CI_USED
  ⟨0x3100010, 1, 0x0, 1, 0x0, 0x1fff, 0x1fff, 0x1fff, 0x0, 0x0, 0x114⟩,  -- NRE_PAGE
  ⟨0x3100014, 1, 0x0, 1, 0x0, 0x7fff, 0x7fff, 0x7fff, 0x0, 0x0, 0x7032⟩,  -- NRE_CNP
  ⟨0x3100018, 1, 0x0, 1, 0x0, 0x3, 0x3, 0x0, 0x0, 0x0, 0x0⟩,  -- NRE_MTU
  ⟨0x310001c, 1, 0x0, 1, 0x0, 0x0, 0x0, 0x0, 0x0, 0x0, 0x0⟩,  -- NRE_ASYNC_PI
  ⟨0x3100020, 1, 0x0, 1, 0x0, 0xffffffff, 0x0, 0x0, 0x0, 0x0, 0x0⟩,  -- NRE_IADDR
  ⟨0x3100024, 1, 0x0, 1, 0x0, 0x0, 0x0, 0x0, 0x0, 0x0, 0x0⟩,  -- NRE_IDATA
  ⟨0x3100030, 1, 0x0, 1, 0x0, 0x0, 0x0, 0x0, 0x1, 0x0, 0x0⟩,  -- NRE_CMD
  ⟨0x3100038, 1, 0x0, 1, 0x0, 0xffffffff, 0xffffffff, 0x0, 0x0, 0x0, 0x0⟩,  -- NRE_SID_LO
  ⟨0x310003c, 1, 0x0, 1, 0x0, 0xffffffff, 0xffffffff, 0x0, 0x0, 0x0, 0x0⟩,  -- NRE_SID_HI
  ⟨0x3100040, 1, 0x0, 1, 0x0, 0x0, 0x0, 0x0, 0x0, 0xffffffff, 0x0⟩,  -- NRE_CNT_RX_PKT
  ⟨0x3100044, 1, 0x0, 1, 0x0, 0x0, 0x0, 0x0, 0x0, 0xffffffff, 0x0⟩,  -- NRE_CNT_CI_MISS
  ⟨0x3100048, 1, 0x0, 1, 0x0, 0x0, 0x0, 0x0, 0x0, 0xffffffff, 0x0⟩,  -- NRE_CNT_MISS_DROP
  ⟨0x310004c, 1, 0x0, 1, 0x0, 0x0, 0x0, 0x0, 0x0, 0xffffffff, 0x0⟩,  -- NRE_CNT_HOLD
  ⟨0x3100050, 1, 0x0, 1, 0x0, 0x0, 0x0, 0x0, 0x0, 0xffffffff, 0x0⟩,  -- NRE_CNT_BOUNCE
  ⟨0x3100054, 1, 0x0, 1, 0x0, 0x0, 0x0, 0x0, 0x0, 0xffffffff, 0x0⟩,  -- NRE_CNT_DUP
  ⟨0x3100058, 1, 0x0, 1, 0x0, 0x0, 0x0, 0x0, 0x0, 0xffffffff, 0x0⟩,  -- NRE_CNT_SEQ_NAK
  ⟨0x310005c, 1, 0x0, 1, 0x0, 0x0, 0x0, 0x0, 0x0, 0xffffffff, 0x0⟩,  -- NRE_CNT_QP_ERR
  ⟨0x3100060, 1, 0x0, 1, 0x0, 0x0, 0x0, 0x0, 0x0, 0xffffffff, 0x0⟩,  -- NRE_CNT_CNP
  ⟨0x3100064, 1, 0x0, 1, 0x0, 0x0, 0x0, 0x0, 0x0, 0xffffffff, 0x0⟩,  -- NRE_CNT_ICRC
  ⟨0x3100068, 1, 0x0, 1, 0x0, 0x0, 0x0, 0x0, 0x0, 0xffffffff, 0x0⟩]  -- NRE_CNT_UNKNOWN_QP

/-- The registers of ETH. -/
def regsETH : List RegDef := [
  ⟨0x3200000, 8, 0x100000, 1, 0x0, 0x7f, 0x7f, 0x3c, 0x0, 0x0, 0x0⟩,  -- ETH_CTRL
  ⟨0x3200004, 8, 0x100000, 1, 0x0, 0x0, 0x0, 0x0, 0x0, 0x0, 0x0⟩,  -- ETH_STATUS
  ⟨0x3200008, 8, 0x100000, 1, 0x0, 0xffffff, 0xffffff, 0xffffff, 0x0, 0x0, 0x640000⟩,  -- ETH_PFC
  ⟨0x320000c, 8, 0x100000, 1, 0x0, 0xffffffff, 0xffffffff, 0xffffffff, 0x0, 0x0, 0x0⟩,  -- ETH_ETS
  ⟨0x3200010, 8, 0x100000, 1, 0x0, 0xffffffff, 0xffffffff, 0xffffffff, 0x0, 0x0, 0x0⟩,  -- ETH_ETS2
  ⟨0x3200014, 8, 0x100000, 1, 0x0, 0x3fff, 0x3fff, 0x0, 0x0, 0x0, 0x2400⟩,  -- ETH_MAXFRAME
  ⟨0x3200018, 8, 0x100000, 1, 0x0, 0xffffffff, 0xffffffff, 0x0, 0x0, 0x0, 0x0⟩,  -- ETH_MACADDR_LO
  ⟨0x320001c, 8, 0x100000, 1, 0x0, 0xffff, 0xffff, 0x0, 0x0, 0x0, 0x0⟩,  -- ETH_MACADDR_HI
  ⟨0x3200020, 8, 0x100000, 8, 0x4, 0x77777777, 0x77777777, 0x77777777, 0x0, 0x0, 0x0⟩,  -- ETH_DSCP
  ⟨0x3200040, 8, 0x100000, 1, 0x0, 0x0, 0x0, 0x0, 0x1, 0x0, 0x0⟩,  -- ETH_CMD
  ⟨0x3200100, 8, 0x100000, 4, 0x40, 0x0, 0x0, 0x0, 0x0, 0xffffffff, 0x0⟩,  -- ETH_P_RX
  ⟨0x3200104, 8, 0x100000, 4, 0x40, 0x0, 0x0, 0x0, 0x0, 0xffffffff, 0x0⟩,  -- ETH_P_TX
  ⟨0x3200108, 8, 0x100000, 4, 0x40, 0x0, 0x0, 0x0, 0x0, 0xffffffff, 0x0⟩,  -- ETH_P_FCS
  ⟨0x320010c, 8, 0x100000, 4, 0x40, 0x0, 0x0, 0x0, 0x0, 0xffffffff, 0x0⟩,  -- ETH_P_DROP
  ⟨0x3200110, 8, 0x100000, 4, 0x40, 0x0, 0x0, 0x0, 0x0, 0xffffffff, 0x0⟩,  -- ETH_P_FEC_CORR
  ⟨0x3200114, 8, 0x100000, 4, 0x40, 0x0, 0x0, 0x0, 0x0, 0xffffffff, 0x0⟩,  -- ETH_P_FEC_UNCORR
  ⟨0x3200118, 8, 0x100000, 4, 0x40, 0x0, 0x0, 0x0, 0x0, 0xffffffff, 0x0⟩,  -- ETH_P_PFC
  ⟨0x320011c, 8, 0x100000, 4, 0x40, 0x0, 0x0, 0x0, 0x0, 0xffffffff, 0x0⟩]  -- ETH_P_PAUSE_IGN

/-- The registers of CIR. -/
def regsCIR : List RegDef := [
  ⟨0x3b00000, 1, 0x0, 1, 0x0, 0xf, 0xf, 0xf, 0x0, 0x0, 0x0⟩,  -- CIR_CTRL
  ⟨0x3b00004, 1, 0x0, 1, 0x0, 0x0, 0x0, 0x0, 0x0, 0x0, 0x0⟩,  -- CIR_STATUS
  ⟨0x3b00008, 1, 0x0, 1, 0x0, 0xffff, 0xffff, 0xffff, 0x0, 0x0, 0xa⟩,  -- CIR_LATE
  ⟨0x3b0000c, 1, 0x0, 1, 0x0, 0xffff, 0xffff, 0xffff, 0x0, 0x0, 0x6405⟩,  -- CIR_POLL
  ⟨0x3b00010, 1, 0x0, 1, 0x0, 0xffff, 0xffff, 0xffff, 0x0, 0x0, 0x3240⟩,  -- CIR_CNP
  ⟨0x3b00014, 1, 0x0, 1, 0x0, 0x0, 0x0, 0x0, 0x0, 0x0, 0x0⟩,  -- CIR_RUNNING
  ⟨0x3b00018, 1, 0x0, 1, 0x0, 0xffffffff, 0xffffffff, 0x0, 0x0, 0x0, 0x0⟩,  -- CIR_SID_LO
  ⟨0x3b0001c, 1, 0x0, 1, 0x0, 0xffffffff, 0xffffffff, 0x0, 0x0, 0x0, 0x0⟩,  -- CIR_SID_HI
  ⟨0x3b00020, 1, 0x0, 1, 0x0, 0xffffffff, 0x0, 0x0, 0x0, 0x0, 0x0⟩,  -- CIR_IADDR
  ⟨0x3b00024, 1, 0x0, 1, 0x0, 0x0, 0x0, 0x0, 0x0, 0x0, 0x0⟩,  -- CIR_IDATA
  ⟨0x3b00030, 1, 0x0, 1, 0x0, 0x0, 0x0, 0x0, 0x1, 0x0, 0x0⟩,  -- CIR_CMD
  ⟨0x3b00040, 1, 0x0, 1, 0x0, 0x0, 0x0, 0x0, 0x0, 0xffffffff, 0x0⟩,  -- CIR_CNT_TILES
  ⟨0x3b00044, 1, 0x0, 1, 0x0, 0x0, 0x0, 0x0, 0x0, 0xffffffff, 0x0⟩,  -- CIR_CNT_BATCHES
  ⟨0x3b00048, 1, 0x0, 1, 0x0, 0x0, 0x0, 0x0, 0x0, 0xffffffff, 0x0⟩,  -- CIR_CNT_LATE
  ⟨0x3b0004c, 1, 0x0, 1, 0x0, 0x0, 0x0, 0x0, 0x0, 0xffffffff, 0x0⟩,  -- CIR_CNT_LATE_EVT
  ⟨0x3b00050, 1, 0x0, 1, 0x0, 0x0, 0x0, 0x0, 0x0, 0xffffffff, 0x0⟩,  -- CIR_CNT_RING_FULL
  ⟨0x3b00054, 1, 0x0, 1, 0x0, 0x0, 0x0, 0x0, 0x0, 0xffffffff, 0x0⟩,  -- CIR_CNT_BYPASS
  ⟨0x3b00058, 1, 0x0, 1, 0x0, 0x0, 0x0, 0x0, 0x0, 0xffffffff, 0x0⟩,  -- CIR_CNT_STOP_ERR
  ⟨0x3b0005c, 1, 0x0, 1, 0x0, 0x0, 0x0, 0x0, 0x0, 0xffffffff, 0x0⟩]  -- CIR_CNT_RESTART

/-- The registers of TWN. -/
def regsTWN : List RegDef := [
  ⟨0x3a00000, 1, 0x0, 1, 0x0, 0x1f, 0x1f, 0xe, 0x0, 0x0, 0x0⟩,  -- TWN_CTRL
  ⟨0x3a00004, 1, 0x0, 1, 0x0, 0x0, 0x0, 0x0, 0x0, 0x0, 0x0⟩,  -- TWN_STATUS
  ⟨0x3a00008, 1, 0x0, 1, 0x0, 0x0, 0x0, 0x0, 0x0, 0x0, 0x0⟩,  -- TWN_GEN
  ⟨0x3a0000c, 1, 0x0, 1, 0x0, 0x0, 0x0, 0x0, 0x0, 0x0, 0x0⟩,  -- TWN_MSEQ_LO
  ⟨0x3a00010, 1, 0x0, 1, 0x0, 0x0, 0x0, 0x0, 0x0, 0x0, 0x0⟩,  -- TWN_MSEQ_HI
  ⟨0x3a00014, 1, 0x0, 1, 0x0, 0x0, 0x0, 0x0, 0x0, 0x0, 0x0⟩,  -- TWN_LAG
  ⟨0x3a00018, 1, 0x0, 1, 0x0, 0xffffffff, 0xffffffff, 0xffffffff, 0x0, 0x0, 0x1e0503e8⟩,  -- TWN_TIMERS
  ⟨0x3a0001c, 1, 0x0, 1, 0x0, 0xffff, 0xffff, 0xffff, 0x0, 0x0, 0xc350⟩,  -- TWN_RESYNC
  ⟨0x3a00020, 1, 0x0, 1, 0x0, 0x7ffffff, 0x7ffffff, 0x0, 0x0, 0x0, 0x0⟩,  -- TWN_WITNESS
  ⟨0x3a00024, 1, 0x0, 1, 0x0, 0x0, 0x0, 0x0, 0x0, 0x0, 0x0⟩,  -- TWN_CHMAP_COUNT
  ⟨0x3a00028, 1, 0x0, 1, 0x0, 0x0, 0xffffffff, 0x0, 0x0, 0x0, 0x0⟩,  -- TWN_PAIR_LO
  ⟨0x3a0002c, 1, 0x0, 1, 0x0, 0x0, 0xffffffff, 0x0, 0x0, 0x0, 0x0⟩,  -- TWN_PAIR_HI
  ⟨0x3a00030, 1, 0x0, 1, 0x0, 0xffffffff, 0x0, 0x0, 0x0, 0x0, 0x0⟩,  -- TWN_IADDR
  ⟨0x3a00034, 1, 0x0, 1, 0x0, 0x0, 0x0, 0x0, 0x0, 0x0, 0x0⟩,  -- TWN_IDATA
  ⟨0x3a00040, 1, 0x0, 1, 0x0, 0x0, 0x0, 0x0, 0x1, 0x0, 0x0⟩,  -- TWN_CMD
  ⟨0x3a00050, 1, 0x0, 1, 0x0, 0x0, 0x0, 0x0, 0x0, 0xffffffff, 0x0⟩,  -- TWN_CNT_FRAMES
  ⟨0x3a00054, 1, 0x0, 1, 0x0, 0x0, 0x0, 0x0, 0x0, 0xffffffff, 0x0⟩,  -- TWN_CNT_DIGEST
  ⟨0x3a00058, 1, 0x0, 1, 0x0, 0x0, 0x0, 0x0, 0x0, 0xffffffff, 0x0⟩,  -- TWN_CNT_DIGEST_SKIP
  ⟨0x3a0005c, 1, 0x0, 1, 0x0, 0x0, 0x0, 0x0, 0x0, 0xffffffff, 0x0⟩,  -- TWN_CNT_MISMATCH
  ⟨0x3a00060, 1, 0x0, 1, 0x0, 0x0, 0x0, 0x0, 0x0, 0xffffffff, 0x0⟩,  -- TWN_CNT_SB_FILL
  ⟨0x3a00064, 1, 0x0, 1, 0x0, 0x0, 0x0, 0x0, 0x0, 0xffffffff, 0x0⟩,  -- TWN_CNT_WITNESS
  ⟨0x3a00068, 1, 0x0, 1, 0x0, 0x0, 0x0, 0x0, 0x0, 0xffffffff, 0x0⟩,  -- TWN_CNT_HB_BAD
  ⟨0x3a0006c, 1, 0x0, 1, 0x0, 0x0, 0x0, 0x0, 0x0, 0xffffffff, 0x0⟩]  -- TWN_CNT_TAKEOVER

/-- The registers of BPM. -/
def regsBPM : List RegDef := [
  ⟨0xa00000, 1, 0x0, 1, 0x0, 0x1, 0x1, 0x0, 0x0, 0x0, 0x0⟩,  -- BPM_CTRL
  ⟨0xa00004, 1, 0x0, 1, 0x0, 0x0, 0x0, 0x0, 0x0, 0x0, 0x0⟩,  -- BPM_STATUS
  ⟨0xa00010, 1, 0x0, 4, 0x4, 0x0, 0x1ffff, 0x0, 0x0, 0x0, 0x0⟩,  -- BPM_POOL_CFG
  ⟨0xa00020, 1, 0x0, 4, 0x4, 0x0, 0x0, 0x0, 0x0, 0x0, 0x0⟩,  -- BPM_POOL_FREE
  ⟨0xa00030, 1, 0x0, 4, 0x4, 0x0, 0x0, 0x0, 0x0, 0x0, 0x0⟩,  -- BPM_POOL_SHARED
  ⟨0xa00040, 1, 0x0, 1, 0x0, 0xffff, 0xffff, 0xffff, 0x0, 0x0, 0x5555⟩,  -- BPM_DT
  ⟨0xa00044, 1, 0x0, 1, 0x0, 0xffff, 0xffff, 0xffff, 0x0, 0x0, 0xc0e0⟩,  -- BPM_PFC
  ⟨0xa00050, 1, 0x0, 4, 0x4, 0x0, 0x1ffff, 0x0, 0x0, 0x0, 0x0⟩,  -- BPM_HDRM
  ⟨0xa00060, 1, 0x0, 1, 0x0, 0x0, 0x0, 0x0, 0x0, 0x0, 0x0⟩,  -- BPM_BADRET
  ⟨0xa00064, 1, 0x0, 1, 0x0, 0x0, 0x0, 0x0, 0x0, 0x0, 0x0⟩,  -- BPM_BADRET_OWNER
  ⟨0xa00070, 1, 0x0, 1, 0x0, 0xffffffff, 0x0, 0x0, 0x0, 0x0, 0x0⟩,  -- BPM_IADDR
  ⟨0xa00074, 1, 0x0, 1, 0x0, 0x0, 0x0, 0x0, 0x0, 0x0, 0x0⟩,  -- BPM_IDATA
  ⟨0xa00080, 1, 0x0, 1, 0x0, 0x0, 0x0, 0x0, 0x1, 0x0, 0x0⟩,  -- BPM_CMD
  ⟨0xa00090, 1, 0x0, 4, 0x4, 0x0, 0x0, 0x0, 0x0, 0xffffffff, 0x0⟩,  -- BPM_CNT_GRANT
  ⟨0xa000a0, 1, 0x0, 1, 0x0, 0x0, 0x0, 0x0, 0x0, 0xffffffff, 0x0⟩,  -- BPM_CNT_UPSIZE
  ⟨0xa000a4, 1, 0x0, 1, 0x0, 0x0, 0x0, 0x0, 0x0, 0xffffffff, 0x0⟩,  -- BPM_CNT_WAIT
  ⟨0xa000a8, 1, 0x0, 1, 0x0, 0x0, 0x0, 0x0, 0x0, 0xffffffff, 0x0⟩,  -- BPM_CNT_DROP_LOSSY
  ⟨0xa000ac, 1, 0x0, 1, 0x0, 0x0, 0x0, 0x0, 0x0, 0xffffffff, 0x0⟩,  -- BPM_CNT_DROP_HDRM
  ⟨0xa000b0, 1, 0x0, 1, 0x0, 0x0, 0x0, 0x0, 0x0, 0xffffffff, 0x0⟩,  -- BPM_CNT_BADRET
  ⟨0xa000b4, 1, 0x0, 1, 0x0, 0x0, 0x0, 0x0, 0x0, 0xffffffff, 0x0⟩]  -- BPM_CNT_HDRM_USE

/-- The registers of INT. -/
def regsINT : List RegDef := [
  ⟨0x400000, 1, 0x0, 1, 0x0, 0x3, 0x1, 0x0, 0x0, 0x0, 0x0⟩,  -- INT_CTRL
  ⟨0x400004, 1, 0x0, 1, 0x0, 0x0, 0x0, 0x0, 0x0, 0x0, 0x0⟩,  -- INT_STATUS
  ⟨0x400008, 1, 0x0, 1, 0x0, 0x0, 0x0, 0x0, 0x0, 0x0, 0x0⟩,  -- INT_SWSET
  ⟨0x400030, 1, 0x0, 1, 0x0, 0x0, 0x0, 0x0, 0x1, 0x0, 0x0⟩,  -- INT_CMD
  ⟨0x400040, 1, 0x0, 1, 0x0, 0x0, 0x0, 0x0, 0x0, 0xffffffff, 0x0⟩,  -- INT_CNT_OFFER
  ⟨0x400044, 1, 0x0, 1, 0x0, 0x0, 0x0, 0x0, 0x0, 0xffffffff, 0x0⟩,  -- INT_CNT_SPURIOUS
  ⟨0x400048, 1, 0x0, 1, 0x0, 0x0, 0x0, 0x0, 0x0, 0xffffffff, 0x0⟩,  -- INT_CNT_STRAY
  ⟨0x40004c, 1, 0x0, 1, 0x0, 0x0, 0x0, 0x0, 0x0, 0xffffffff, 0x0⟩,  -- INT_CNT_SATURATED
  ⟨0x400100, 1, 0x0, 21, 0x10, 0x3f, 0x3f, 0x3f, 0x0, 0x0, 0x0⟩,  -- INT_TGT_CFG
  ⟨0x400104, 1, 0x0, 21, 0x10, 0x0, 0x0, 0x0, 0x0, 0x0, 0x0⟩,  -- INT_CLAIM
  ⟨0x400108, 1, 0x0, 21, 0x10, 0x0, 0x0, 0x0, 0x0, 0x0, 0x0⟩,  -- INT_COMPLETE
  ⟨0x40010c, 1, 0x0, 21, 0x10, 0x0, 0x0, 0x0, 0x0, 0x0, 0x0⟩,  -- INT_TGT_STATUS
  ⟨0x404000, 1, 0x0, 1153, 0x8, 0x1ff, 0x1ff, 0x1ff, 0x0, 0x0, 0x0⟩,  -- INT_SRC
  ⟨0x404004, 1, 0x0, 1153, 0x8, 0x1fffff, 0x1fffff, 0x1fffff, 0x0, 0x0, 0x0⟩]  -- INT_SRC_TGT

/-- The registers of SUP. -/
def regsSUP : List RegDef := [
  ⟨0x100000, 1, 0x0, 1, 0x0, 0x7, 0x7, 0x7, 0x0, 0x0, 0x0⟩,  -- SUP_CTRL
  ⟨0x100004, 1, 0x0, 1, 0x0, 0x0, 0x0, 0x0, 0x0, 0x0, 0x0⟩,  -- SUP_STATUS
  ⟨0x100008, 1, 0x0, 1, 0x0, 0x0, 0x0, 0x0, 0x0, 0x0, 0x0⟩,  -- SUP_TICK
  ⟨0x10000c, 1, 0x0, 1, 0x0, 0xffffff, 0xffffff, 0xffffff, 0x0, 0x0, 0x140c04⟩,  -- SUP_BTN
  ⟨0x100010, 1, 0x0, 1, 0x0, 0x0, 0x0, 0x0, 0x3, 0x0, 0x0⟩,  -- SUP_VBTN
  ⟨0x100014, 1, 0x0, 1, 0x0, 0x7f, 0x0, 0x0, 0x80, 0x0, 0x0⟩,  -- SUP_MARGIN
  ⟨0x100030, 1, 0x0, 1, 0x0, 0x0, 0x0, 0x0, 0x1, 0x0, 0x0⟩,  -- SUP_CMD
  ⟨0x100040, 1, 0x0, 1, 0x0, 0x0, 0x0, 0x0, 0x0, 0xffffffff, 0x0⟩,  -- SUP_CNT_FAIL
  ⟨0x100044, 1, 0x0, 1, 0x0, 0x0, 0x0, 0x0, 0x0, 0xffffffff, 0x0⟩,  -- SUP_CNT_BTN
  ⟨0x100100, 1, 0x0, 24, 0x10, 0xffffffff, 0xffffffff, 0xffffffff, 0x0, 0x0, 0x0⟩,  -- SUP_RAIL_TIME
  ⟨0x100104, 1, 0x0, 24, 0x10, 0xffffff, 0xffffff, 0xffffff, 0x0, 0x0, 0x0⟩,  -- SUP_RAIL_DEP
  ⟨0x100108, 1, 0x0, 24, 0x10, 0x1ffffff, 0x1ffffff, 0x1ffffff, 0x0, 0x0, 0x0⟩,  -- SUP_RAIL_CFG
  ⟨0x10010c, 1, 0x0, 24, 0x10, 0x0, 0x0, 0x0, 0x0, 0x0, 0x0⟩,  -- SUP_RAIL_STATE
  ⟨0x100400, 1, 0x0, 32, 0x10, 0x0, 0x0, 0x0, 0x0, 0x0, 0x0⟩,  -- SUP_MON_VAL
  ⟨0x100404, 1, 0x0, 32, 0x10, 0xfff0fff, 0xfff0fff, 0xfff0fff, 0x0, 0x0, 0x0⟩,  -- SUP_MON_THR
  ⟨0x100408, 1, 0x0, 32, 0x10, 0x1f, 0x1f, 0x1f, 0x0, 0x0, 0x0⟩]  -- SUP_MON_CFG

/-- The registers of PWR. -/
def regsPWR : List RegDef := [
  ⟨0x300000, 1, 0x0, 1, 0x0, 0x3, 0x3, 0x3, 0x0, 0x0, 0x0⟩,  -- PWR_CTRL
  ⟨0x300004, 1, 0x0, 1, 0x0, 0x0, 0x0, 0x0, 0x0, 0x0, 0x0⟩,  -- PWR_STATUS
  ⟨0x300008, 1, 0x0, 1, 0x0, 0xffffffff, 0xffffffff, 0xffffffff, 0x0, 0x0, 0xa646040⟩,  -- PWR_TRIM
  ⟨0x300010, 1, 0x0, 1, 0x0, 0x0, 0x0, 0x0, 0x0, 0x0, 0x0⟩,  -- PWR_DOMAIN_ON0
  ⟨0x300014, 1, 0x0, 1, 0x0, 0x0, 0x0, 0x0, 0x0, 0x0, 0x0⟩,  -- PWR_DOMAIN_ON1
  ⟨0x300018, 1, 0x0, 1, 0x0, 0x0, 0x0, 0x0, 0x0, 0x0, 0x0⟩,  -- PWR_DOMAIN_ON2
  ⟨0x300020, 1, 0x0, 1, 0x0, 0xffff, 0xffff, 0x0, 0x0, 0x0, 0x0⟩,  -- PWR_BASE
  ⟨0x300024, 1, 0x0, 1, 0x0, 0x0, 0x0, 0x0, 0x0, 0x0, 0x100⟩,  -- PWR_K
  ⟨0x300028, 1, 0x0, 1, 0x0, 0x0, 0x0, 0x0, 0x0, 0x0, 0x0⟩,  -- PWR_P_CHIP
  ⟨0x30002c, 1, 0x0, 1, 0x0, 0xff, 0xff, 0xff, 0x0, 0x0, 0x3c⟩,  -- PWR_ENERGY
  ⟨0x300030, 1, 0x0, 1, 0x0, 0x0, 0x0, 0x0, 0x1, 0x0, 0x0⟩,  -- PWR_CMD
  ⟨0x300040, 1, 0x0, 1, 0x0, 0xffffffff, 0x0, 0x0, 0x0, 0x0, 0x0⟩,  -- PWR_IADDR
  ⟨0x300044, 1, 0x0, 1, 0x0, 0x0, 0x0, 0x0, 0x0, 0x0, 0x0⟩,  -- PWR_IDATA
  ⟨0x300050, 1, 0x0, 1, 0x0, 0x0, 0x0, 0x0, 0x0, 0xffffffff, 0x0⟩,  -- PWR_CNT_TRIM
  ⟨0x300054, 1, 0x0, 1, 0x0, 0x0, 0x0, 0x0, 0x0, 0xffffffff, 0x0⟩,  -- PWR_CNT_FCHG
  ⟨0x300058, 1, 0x0, 1, 0x0, 0x0, 0x0, 0x0, 0x0, 0xffffffff, 0x0⟩]  -- PWR_CNT_K_CLAMP

/-- The registers of CRU. -/
def regsCRU : List RegDef := [
  ⟨0x200000, 1, 0x0, 1, 0x0, 0x0, 0x0, 0x0, 0x0, 0x0, 0x0⟩,  -- CRU_STATUS
  ⟨0x200004, 1, 0x0, 1, 0x0, 0x0, 0x0, 0x0, 0x0, 0x0, 0x0⟩,  -- CRU_RST_CAUSE
  ⟨0x200008, 1, 0x0, 1, 0x0, 0x0, 0x0, 0x0, 0x0, 0x0, 0x0⟩,  -- CRU_START
  ⟨0x20000c, 1, 0x0, 1, 0x0, 0x0, 0x0, 0x0, 0x0, 0x0, 0x0⟩,  -- CRU_START_MS
  ⟨0x200010, 1, 0x0, 1, 0x0, 0xffff, 0xffff, 0xffff, 0x0, 0x0, 0x3e8⟩,  -- CRU_WDT
  ⟨0x200014, 1, 0x0, 1, 0x0, 0x0, 0x0, 0x0, 0x0, 0x0, 0x0⟩,  -- CRU_WDT_FEED
  ⟨0x200018, 1, 0x0, 1, 0x0, 0x3f, 0x0, 0x0, 0x80000000, 0x0, 0x0⟩,  -- CRU_BRST
  ⟨0x200030, 1, 0x0, 1, 0x0, 0x0, 0x0, 0x0, 0x1, 0x0, 0x0⟩,  -- CRU_CMD
  ⟨0x200040, 1, 0x0, 1, 0x0, 0x0, 0x0, 0x0, 0x0, 0xffffffff, 0x0⟩,  -- CRU_CNT_RESET
  ⟨0x200044, 1, 0x0, 1, 0x0, 0x0, 0x0, 0x0, 0x0, 0xffffffff, 0x0⟩,  -- CRU_CNT_BRST
  ⟨0x200048, 1, 0x0, 1, 0x0, 0x0, 0x0, 0x0, 0x0, 0xffffffff, 0x0⟩,  -- CRU_CNT_REFLOSS
  ⟨0x20004c, 1, 0x0, 1, 0x0, 0x0, 0x0, 0x0, 0x0, 0xffffffff, 0x0⟩]  -- CRU_CNT_PIN_IGN

/-- The registers of RGC. -/
def regsRGC : List RegDef := [
  ⟨0x700000, 1, 0x0, 1, 0x0, 0x0, 0x0, 0x0, 0x0, 0x0, 0x0⟩,  -- RGC_STATUS
  ⟨0x700004, 1, 0x0, 1, 0x0, 0x0, 0x0, 0x0, 0x0, 0x0, 0x0⟩,  -- RGC_IMAGE
  ⟨0x700008, 1, 0x0, 1, 0x0, 0x0, 0x0, 0x0, 0x0, 0x0, 0x0⟩,  -- RGC_IMAGE_SEQ
  ⟨0x70000c, 1, 0x0, 1, 0x0, 0x0, 0x0, 0x0, 0x0, 0x0, 0x0⟩,  -- RGC_IMAGE_FLOOR
  ⟨0x700010, 1, 0x0, 1, 0x0, 0x0, 0x0, 0x0, 0x0, 0x0, 0x0⟩,  -- RGC_FW_VER
  ⟨0x700020, 1, 0x0, 1, 0x0, 0x0, 0x0, 0x0, 0x0, 0x0, 0x0⟩,  -- RGC_MB_DOORBELL
  ⟨0x700024, 1, 0x0, 1, 0x0, 0x0, 0x0, 0x0, 0x0, 0x0, 0x0⟩,  -- RGC_MB_STATUS
  ⟨0x700028, 1, 0x0, 1, 0x0, 0x0, 0x0, 0x0, 0x3, 0x0, 0x0⟩,  -- RGC_MB_CMD
  ⟨0x700030, 1, 0x0, 1, 0x0, 0xffffffff, 0x0, 0x0, 0x0, 0x0, 0x0⟩,  -- RGC_IADDR
  ⟨0x700034, 1, 0x0, 1, 0x0, 0x0, 0x0, 0x0, 0x0, 0x0, 0x0⟩,  -- RGC_IDATA
  ⟨0x700040, 1, 0x0, 1, 0x0, 0x0, 0x0, 0x0, 0x0, 0xffffffff, 0x0⟩,  -- RGC_CNT_SVC
  ⟨0x700044, 1, 0x0, 1, 0x0, 0x0, 0x0, 0x0, 0x0, 0xffffffff, 0x0⟩,  -- RGC_CNT_LOCKED
  ⟨0x700048, 1, 0x0, 1, 0x0, 0x0, 0x0, 0x0, 0x0, 0xffffffff, 0x0⟩]  -- RGC_CNT_REJECT

/-- The registers of EFL. -/
def regsEFL : List RegDef := [
  ⟨0x600000, 1, 0x0, 1, 0x0, 0x0, 0x0, 0x0, 0x0, 0x0, 0x0⟩,  -- EFL_STATUS
  ⟨0x600004, 1, 0x0, 1, 0x0, 0x0, 0x0, 0x0, 0x0, 0x0, 0x0⟩,  -- EFL_SUSPECT_COUNT
  ⟨0x600008, 1, 0x0, 1, 0x0, 0x0, 0x0, 0x0, 0x0, 0x0, 0x0⟩,  -- EFL_LAST_SUSPECT
  ⟨0x60000c, 1, 0x0, 1, 0x0, 0x0, 0x0, 0x0, 0x0, 0x0, 0x0⟩,  -- EFL_FW_PTR
  ⟨0x600030, 1, 0x0, 1, 0x0, 0x0, 0x0, 0x0, 0x1, 0x0, 0x0⟩,  -- EFL_CMD
  ⟨0x600040, 1, 0x0, 1, 0x0, 0x0, 0x0, 0x0, 0x0, 0xffffffff, 0x0⟩,  -- EFL_CNT_PROG
  ⟨0x600044, 1, 0x0, 1, 0x0, 0x0, 0x0, 0x0, 0x0, 0xffffffff, 0x0⟩,  -- EFL_CNT_ERASE
  ⟨0x600048, 1, 0x0, 1, 0x0, 0x0, 0x0, 0x0, 0x0, 0xffffffff, 0x0⟩,  -- EFL_CNT_SUSPEND
  ⟨0x60004c, 1, 0x0, 1, 0x0, 0x0, 0x0, 0x0, 0x0, 0xffffffff, 0x0⟩,  -- EFL_CNT_CORR
  ⟨0x600050, 1, 0x0, 1, 0x0, 0x0, 0x0, 0x0, 0x0, 0xffffffff, 0x0⟩]  -- EFL_CNT_DOUBLE

/-- The registers of DBK. -/
def regsDBK : List RegDef := [
  ⟨0x600100, 1, 0x0, 1, 0x0, 0x1, 0x0, 0x0, 0x0, 0x0, 0x0⟩,  -- DBK_CTRL
  ⟨0x600104, 1, 0x0, 1, 0x0, 0x7fff, 0x0, 0x0, 0x0, 0x0, 0x0⟩,  -- DBK_CURSOR
  ⟨0x600108, 1, 0x0, 1, 0x0, 0x0, 0x0, 0x0, 0x0, 0x0, 0x0⟩,  -- DBK_HEAD
  ⟨0x60010c, 1, 0x0, 1, 0x0, 0x0, 0x0, 0x0, 0x0, 0x0, 0x0⟩,  -- DBK_SEQ_LO
  ⟨0x600110, 1, 0x0, 1, 0x0, 0x0, 0x0, 0x0, 0x0, 0x0, 0x0⟩,  -- DBK_SEQ_HI
  ⟨0x600114, 1, 0x0, 1, 0x0, 0x0, 0x0, 0x0, 0x0, 0x0, 0x0⟩,  -- DBK_QUEUE
  ⟨0x600118, 1, 0x0, 1, 0x0, 0x0, 0x0, 0x0, 0x0, 0x0, 0x0⟩,  -- DBK_WIN_STATUS
  ⟨0x600130, 1, 0x0, 1, 0x0, 0x0, 0x0, 0x0, 0x0, 0xffffffff, 0x0⟩,  -- DBK_CNT_WRITTEN
  ⟨0x600134, 1, 0x0, 1, 0x0, 0x0, 0x0, 0x0, 0x0, 0xffffffff, 0x0⟩,  -- DBK_CNT_DROPPED
  ⟨0x600140, 1, 0x0, 16, 0x4, 0x0, 0x0, 0x0, 0x0, 0x0, 0x0⟩]  -- DBK_WIN

/-- The registers of SEC. -/
def regsSEC : List RegDef := [
  ⟨0x500000, 1, 0x0, 1, 0x0, 0x0, 0x0, 0x0, 0x0, 0x0, 0x0⟩,  -- SEC_STATUS
  ⟨0x500010, 1, 0x0, 1, 0x0, 0x3, 0x0, 0x0, 0x700, 0x0, 0x0⟩,  -- SEC_UNLOCK
  ⟨0x500014, 1, 0x0, 1, 0x0, 0x0, 0x0, 0x0, 0x1, 0x0, 0x0⟩,  -- SEC_PROVISION
  ⟨0x500020, 1, 0x0, 1, 0x0, 0x0, 0x0, 0x0, 0x0, 0x0, 0x0⟩,  -- SEC_CHAL0
  ⟨0x500024, 1, 0x0, 1, 0x0, 0x0, 0x0, 0x0, 0x0, 0x0, 0x0⟩,  -- SEC_CHAL1
  ⟨0x500028, 1, 0x0, 1, 0x0, 0x0, 0x0, 0x0, 0x0, 0x0, 0x0⟩,  -- SEC_CHAL2
  ⟨0x50002c, 1, 0x0, 1, 0x0, 0x0, 0x0, 0x0, 0x0, 0x0, 0x0⟩,  -- SEC_CHAL3
  ⟨0x500030, 1, 0x0, 1, 0x0, 0x0, 0x0, 0x0, 0x0, 0x0, 0x0⟩,  -- SEC_RESP0
  ⟨0x500034, 1, 0x0, 1, 0x0, 0x0, 0x0, 0x0, 0x0, 0x0, 0x0⟩,  -- SEC_RESP1
  ⟨0x500038, 1, 0x0, 1, 0x0, 0x0, 0x0, 0x0, 0x0, 0x0, 0x0⟩,  -- SEC_RESP2
  ⟨0x50003c, 1, 0x0, 1, 0x0, 0x0, 0x0, 0x0, 0x0, 0x0, 0x0⟩,  -- SEC_RESP3
  ⟨0x500040, 1, 0x0, 1, 0x0, 0x0, 0xffffffff, 0x0, 0x0, 0x0, 0x0⟩,  -- SEC_SEED0
  ⟨0x500044, 1, 0x0, 1, 0x0, 0x0, 0xffffffff, 0x0, 0x0, 0x0, 0x0⟩,  -- SEC_SEED1
  ⟨0x500048, 1, 0x0, 1, 0x0, 0x0, 0xffffffff, 0x0, 0x0, 0x0, 0x0⟩,  -- SEC_SEED2
  ⟨0x50004c, 1, 0x0, 1, 0x0, 0x0, 0xffffffff, 0x0, 0x0, 0x0, 0x0⟩,  -- SEC_SEED3
  ⟨0x500050, 1, 0x0, 1, 0x0, 0x0, 0xffffffff, 0x0, 0x0, 0x0, 0x0⟩,  -- SEC_SEED4
  ⟨0x500054, 1, 0x0, 1, 0x0, 0x0, 0xffffffff, 0x0, 0x0, 0x0, 0x0⟩,  -- SEC_SEED5
  ⟨0x500058, 1, 0x0, 1, 0x0, 0x0, 0xffffffff, 0x0, 0x0, 0x0, 0x0⟩,  -- SEC_SEED6
  ⟨0x50005c, 1, 0x0, 1, 0x0, 0x0, 0xffffffff, 0x0, 0x0, 0x0, 0x0⟩,  -- SEC_SEED7
  ⟨0x500060, 1, 0x0, 1, 0x0, 0x0, 0x0, 0x0, 0x1, 0x0, 0x0⟩,  -- SEC_CMD
  ⟨0x500070, 1, 0x0, 1, 0x0, 0x0, 0x0, 0x0, 0x0, 0xffffffff, 0x0⟩,  -- SEC_CNT_UNLOCK
  ⟨0x500074, 1, 0x0, 1, 0x0, 0x0, 0x0, 0x0, 0x0, 0xffffffff, 0x0⟩]  -- SEC_CNT_DENIED

/-- The registers of KCE. -/
def regsKCE : List RegDef := [
  ⟨0x501000, 1, 0x0, 1, 0x0, 0x0, 0x0, 0x0, 0x0, 0x0, 0x0⟩,  -- KCE_STATUS
  ⟨0x501004, 1, 0x0, 1, 0x0, 0x0, 0x0, 0x0, 0x0, 0x0, 0x0⟩,  -- KCE_SLOT_VALID
  ⟨0x501040, 1, 0x0, 1, 0x0, 0x0, 0x0, 0x0, 0x0, 0xffffffff, 0x0⟩,  -- KCE_CNT_REQ
  ⟨0x501044, 1, 0x0, 1, 0x0, 0x0, 0x0, 0x0, 0x0, 0xffffffff, 0x0⟩,  -- KCE_CNT_FAIL
  ⟨0x501048, 1, 0x0, 1, 0x0, 0x0, 0x0, 0x0, 0x0, 0xffffffff, 0x0⟩,  -- KCE_CNT_SUSPEND
  ⟨0x501140, 1, 0x0, 24, 0x8, 0xffffffff, 0xffffffff, 0x0, 0x0, 0x0, 0x0⟩,  -- KCE_SLOT_LABEL_LO
  ⟨0x501144, 1, 0x0, 24, 0x8, 0xffffffff, 0xffffffff, 0x0, 0x0, 0x0, 0x0⟩,  -- KCE_SLOT_LABEL_HI
  ⟨0x501220, 1, 0x0, 24, 0x4, 0x3, 0x3, 0x0, 0x0, 0x0, 0x0⟩]  -- KCE_SLOT_CFG

/-- The registers of SBB. -/
def regsSBB : List RegDef := [
  ⟨0x800000, 1, 0x0, 1, 0x0, 0x0, 0x0, 0x0, 0x0, 0x0, 0x0⟩,  -- SBB_STATUS
  ⟨0x800030, 1, 0x0, 1, 0x0, 0x0, 0x0, 0x0, 0x1, 0x0, 0x0⟩,  -- SBB_CMD
  ⟨0x800100, 1, 0x0, 4, 0x20, 0x3fff, 0x3fff, 0x38f9, 0x0, 0x0, 0x1828⟩,  -- SBB_CH_CFG
  ⟨0x800104, 1, 0x0, 4, 0x20, 0x0, 0x0, 0x0, 0x0, 0x0, 0x0⟩,  -- SBB_CH_STATE
  ⟨0x800108, 1, 0x0, 4, 0x20, 0x0, 0x0, 0x0, 0x0, 0xffffffff, 0x0⟩,  -- SBB_CH_CNT_XFER
  ⟨0x80010c, 1, 0x0, 4, 0x20, 0x0, 0x0, 0x0, 0x0, 0xffffffff, 0x0⟩,  -- SBB_CH_CNT_ERR
  ⟨0x800110, 1, 0x0, 4, 0x20, 0x0, 0x0, 0x0, 0x0, 0xffffffff, 0x0⟩,  -- SBB_CH_CNT_ARB
  ⟨0x800200, 1, 0x0, 1, 0x0, 0x1f, 0x0, 0x1f, 0x0, 0x0, 0x5⟩,  -- SBB_TGT_CFG
  ⟨0x800204, 1, 0x0, 1, 0x0, 0x0, 0x0, 0x0, 0x0, 0xffffffff, 0x0⟩,  -- SBB_TGT_CNT
  ⟨0x800208, 1, 0x0, 1, 0x0, 0x0, 0x0, 0x0, 0x0, 0xffffffff, 0x0⟩]  -- SBB_TGT_CNT_REFUSED

/-- The registers of DFT. -/
def regsDFT : List RegDef := [
  ⟨0x900000, 1, 0x0, 1, 0x0, 0x1, 0x0, 0x0, 0x0, 0x0, 0x0⟩,  -- DFT_CTRL
  ⟨0x900004, 1, 0x0, 1, 0x0, 0xff, 0x0, 0x0, 0x0, 0x0, 0x0⟩,  -- DFT_LSEL
  ⟨0x900008, 1, 0x0, 1, 0x0, 0xff, 0x0, 0x0, 0x100, 0x0, 0x0⟩,  -- DFT_LANE_CTRL
  ⟨0x90000c, 1, 0x0, 1, 0x0, 0x0, 0x0, 0x0, 0x0, 0x0, 0x0⟩,  -- DFT_LANE_STATUS
  ⟨0x900010, 1, 0x0, 1, 0x0, 0xffffffff, 0x0, 0x0, 0x0, 0x0, 0x0⟩,  -- DFT_USER0
  ⟨0x900014, 1, 0x0, 1, 0x0, 0xffffffff, 0x0, 0x0, 0x0, 0x0, 0x0⟩,  -- DFT_USER1
  ⟨0x900018, 1, 0x0, 1, 0x0, 0xffff, 0x0, 0x0, 0x0, 0x0, 0x0⟩,  -- DFT_USER2
  ⟨0x900020, 1, 0x0, 1, 0x0, 0xffffffff, 0x0, 0x0, 0x0, 0x0, 0x0⟩,  -- DFT_IADDR
  ⟨0x900024, 1, 0x0, 1, 0x0, 0x0, 0x0, 0x0, 0x0, 0x0, 0x0⟩,  -- DFT_IDATA
  ⟨0x900030, 1, 0x0, 1, 0x0, 0x0, 0x0, 0x0, 0x3, 0x0, 0x0⟩,  -- DFT_CMD
  ⟨0x900040, 1, 0x0, 1, 0x0, 0x3f, 0x0, 0x0, 0x40, 0x0, 0x0⟩,  -- DFT_DRAM_CTRL
  ⟨0x900044, 1, 0x0, 1, 0x0, 0x0, 0x0, 0x0, 0x0, 0x0, 0x0⟩,  -- DFT_DRAM_RES
  ⟨0x900080, 1, 0x0, 8, 0x4, 0x3ff03ff, 0x0, 0x0, 0x0, 0x0, 0x0⟩]  -- DFT_OBS_SEL

/-- The registers of TOP. -/
def regsTOP : List RegDef := [
  ⟨0x0, 1, 0x0, 1, 0x0, 0x0, 0x0, 0x0, 0x0, 0x0, 0x14b31⟩,  -- TOP_ID
  ⟨0x4, 1, 0x0, 1, 0x0, 0x0, 0x0, 0x0, 0x0, 0x0, 0x0⟩,  -- TOP_UID_LO
  ⟨0x8, 1, 0x0, 1, 0x0, 0x0, 0x0, 0x0, 0x0, 0x0, 0x0⟩,  -- TOP_UID_HI
  ⟨0xc, 1, 0x0, 1, 0x0, 0x0, 0x0, 0x0, 0x0, 0x0, 0x0⟩,  -- TOP_ROM_REV
  ⟨0x10, 1, 0x0, 1, 0x0, 0x0, 0x0, 0x0, 0x0, 0x0, 0x0⟩,  -- TOP_STRAP
  ⟨0x14, 1, 0x0, 1, 0x0, 0x0, 0x0, 0x0, 0x0, 0x0, 0x0⟩,  -- TOP_VCORE
  ⟨0x30, 1, 0x0, 1, 0x0, 0x0, 0x0, 0x0, 0x1, 0x0, 0x0⟩,  -- TOP_CMD
  ⟨0x40, 1, 0x0, 1, 0x0, 0x0, 0x0, 0x0, 0x0, 0xffffffff, 0x0⟩]  -- TOP_CNT_ACCESS

/-- The registers of LANE. -/
def regsLANE : List RegDef := [
  ⟨0x3c00020, 1, 0x0, 1, 0x0, 0xffffffff, 0x0, 0x0, 0x0, 0x0, 0x0⟩,  -- LANE_IADDR
  ⟨0x3c00024, 1, 0x0, 1, 0x0, 0x0, 0x0, 0x0, 0x0, 0x0, 0x0⟩]  -- LANE_IDATA

/-- Every register of the map. -/
def regDefs : List RegDef :=
  regsTQM ++ regsEPO ++ regsRSV ++ regsFCH ++ regsSTK ++ regsDMC ++ regsLPR ++ regsTVL ++ regsNRE ++ regsETH ++ regsCIR ++ regsTWN ++ regsBPM ++ regsINT ++ regsSUP ++ regsPWR ++ regsCRU ++ regsRGC ++ regsEFL ++ regsDBK ++ regsSEC ++ regsKCE ++ regsSBB ++ regsDFT ++ regsTOP ++ regsLANE

def rTQM_CTRL : Nat := 0xe00000
def fTQM_CTRL_ENABLE : Fld := ⟨0xe00000, 0, 0⟩
def fTQM_CTRL_PLACE_HOST : Fld := ⟨0xe00000, 1, 1⟩
def fTQM_CTRL_PIN_HOST : Fld := ⟨0xe00000, 2, 2⟩
def rTQM_STATUS : Nat := 0xe00004
def fTQM_STATUS_READY : Fld := ⟨0xe00004, 0, 0⟩
def fTQM_STATUS_CHECK_ERR : Fld := ⟨0xe00004, 1, 1⟩
def rTQM_LPA_FREE : Nat := 0xe00008
def fTQM_LPA_FREE_COUNT : Fld := ⟨0xe00008, 23, 0⟩
def rTQM_LPA_RUN : Nat := 0xe0000c
def fTQM_LPA_RUN_COUNT : Fld := ⟨0xe0000c, 23, 0⟩
def rTQM_OBJ_COUNT : Nat := 0xe00010
def fTQM_OBJ_COUNT_COUNT : Fld := ⟨0xe00010, 20, 0⟩
def rTQM_IADDR : Nat := 0xe00020
def fTQM_IADDR_ADDR : Fld := ⟨0xe00020, 31, 0⟩
def rTQM_IDATA : Nat := 0xe00024
def fTQM_IDATA_DATA : Fld := ⟨0xe00024, 31, 0⟩
def rTQM_CMD : Nat := 0xe00030
def fTQM_CMD_SNAP : Fld := ⟨0xe00030, 0, 0⟩
def fTQM_CMD_CLR_TEN : Fld := ⟨0xe00030, 1, 1⟩
def fTQM_CMD_TEN : Fld := ⟨0xe00030, 27, 16⟩
def rTQM_CNT_DENY : Nat := 0xe00040
def fTQM_CNT_DENY_V : Fld := ⟨0xe00040, 31, 0⟩
def rTQM_CNT_QUOTA : Nat := 0xe00044
def fTQM_CNT_QUOTA_V : Fld := ⟨0xe00044, 31, 0⟩
def rTQM_CNT_BYPASS : Nat := 0xe00048
def fTQM_CNT_BYPASS_V : Fld := ⟨0xe00048, 31, 0⟩
def rTQM_CNT_MAP : Nat := 0xe0004c
def fTQM_CNT_MAP_OPEN : Fld := ⟨0xe0004c, 15, 0⟩
def fTQM_CNT_MAP_REFUSED : Fld := ⟨0xe0004c, 31, 16⟩
def rEPO_CTRL : Nat := 0xb00000
def fEPO_CTRL_ENABLE : Fld := ⟨0xb00000, 0, 0⟩
def fEPO_CTRL_CAP : Fld := ⟨0xb00000, 4, 1⟩
def fEPO_CTRL_SOLO_POLICY : Fld := ⟨0xb00000, 5, 5⟩
def fEPO_CTRL_ROCE_MODE : Fld := ⟨0xb00000, 6, 6⟩
def rEPO_STATUS : Nat := 0xb00004
def fEPO_STATUS_READY : Fld := ⟨0xb00004, 0, 0⟩
def fEPO_STATUS_REPORTS : Fld := ⟨0xb00004, 1, 1⟩
def fEPO_STATUS_POOL_LOW : Fld := ⟨0xb00004, 2, 2⟩
def fEPO_STATUS_SOLO : Fld := ⟨0xb00004, 3, 3⟩
def fEPO_STATUS_LAG_FULL : Fld := ⟨0xb00004, 4, 4⟩
def rEPO_POOL_SIZE : Nat := 0xb00008
def fEPO_POOL_SIZE_SEGS : Fld := ⟨0xb00008, 17, 0⟩
def rEPO_POOL_FREE : Nat := 0xb0000c
def fEPO_POOL_FREE_SEGS : Fld := ⟨0xb0000c, 17, 0⟩
def rEPO_POOL_LOW : Nat := 0xb00010
def fEPO_POOL_LOW_SEGS : Fld := ⟨0xb00010, 17, 0⟩
def rEPO_LAG_LIMIT : Nat := 0xb00014
def fEPO_LAG_LIMIT_MIB : Fld := ⟨0xb00014, 15, 0⟩
def rEPO_LAG_NOW : Nat := 0xb00018
def fEPO_LAG_NOW_KIB : Fld := ⟨0xb00018, 23, 0⟩
def rEPO_RPT_COUNT : Nat := 0xb0001c
def fEPO_RPT_COUNT_STREAMS : Fld := ⟨0xb0001c, 20, 0⟩
def rEPO_IADDR : Nat := 0xb00020
def fEPO_IADDR_ADDR : Fld := ⟨0xb00020, 31, 0⟩
def rEPO_IDATA : Nat := 0xb00024
def fEPO_IDATA_DATA : Fld := ⟨0xb00024, 31, 0⟩
def rEPO_ISEG : Nat := 0xb00028
def fEPO_ISEG_SEG : Fld := ⟨0xb00028, 16, 0⟩
def rEPO_CMD : Nat := 0xb00030
def fEPO_CMD_SNAP : Fld := ⟨0xb00030, 0, 0⟩
def rEPO_CNT_ENTRIES : Nat := 0xb00040
def fEPO_CNT_ENTRIES_V : Fld := ⟨0xb00040, 31, 0⟩
def rEPO_CNT_CLOSES : Nat := 0xb00044
def fEPO_CNT_CLOSES_V : Fld := ⟨0xb00044, 31, 0⟩
def rEPO_CNT_UNCAT : Nat := 0xb00048
def fEPO_CNT_UNCAT_V : Fld := ⟨0xb00048, 31, 0⟩
def rEPO_CNT_HELD : Nat := 0xb0004c
def fEPO_CNT_HELD_V : Fld := ⟨0xb0004c, 31, 0⟩
def rEPO_CNT_DUP : Nat := 0xb00050
def fEPO_CNT_DUP_V : Fld := ⟨0xb00050, 31, 0⟩
def rEPO_CNT_RMW : Nat := 0xb00054
def fEPO_CNT_RMW_V : Fld := ⟨0xb00054, 31, 0⟩
def rRSV_CTRL : Nat := 0xc00000
def fRSV_CTRL_ENABLE : Fld := ⟨0xc00000, 0, 0⟩
def fRSV_CTRL_BANK_PRESENT : Fld := ⟨0xc00000, 1, 1⟩
def fRSV_CTRL_VAULT_ARM : Fld := ⟨0xc00000, 2, 2⟩
def fRSV_CTRL_PFC_EN : Fld := ⟨0xc00000, 3, 3⟩
def rRSV_STATUS : Nat := 0xc00004
def fRSV_STATUS_STAGE : Fld := ⟨0xc00004, 2, 0⟩
def fRSV_STATUS_OVER : Fld := ⟨0xc00004, 3, 3⟩
def fRSV_STATUS_MON_BAD : Fld := ⟨0xc00004, 4, 4⟩
def fRSV_STATUS_VAULT : Fld := ⟨0xc00004, 5, 5⟩
def fRSV_STATUS_LAST_INCOMPLETE : Fld := ⟨0xc00004, 6, 6⟩
def rRSV_BANK_CFG : Nat := 0xc00008
def fRSV_BANK_CFG_V_CH : Fld := ⟨0xc00008, 4, 0⟩
def fRSV_BANK_CFG_UV_LSB : Fld := ⟨0xc00008, 31, 16⟩
def rRSV_BANK_CAP : Nat := 0xc0000c
def fRSV_BANK_CAP_MF : Fld := ⟨0xc0000c, 15, 0⟩
def rRSV_BANK_FLOOR : Nat := 0xc00010
def fRSV_BANK_FLOOR_MV : Fld := ⟨0xc00010, 15, 0⟩
def rRSV_DRAW_CFG : Nat := 0xc00014
def fRSV_DRAW_CFG_V_CH : Fld := ⟨0xc00014, 4, 0⟩
def fRSV_DRAW_CFG_I_CH : Fld := ⟨0xc00014, 9, 5⟩
def rRSV_DRAW_SCALE : Nat := 0xc00018
def fRSV_DRAW_SCALE_V_UV_LSB : Fld := ⟨0xc00018, 15, 0⟩
def fRSV_DRAW_SCALE_I_MA_LSB : Fld := ⟨0xc00018, 31, 16⟩
def rRSV_DRAW_MIN : Nat := 0xc0001c
def fRSV_DRAW_MIN_W : Fld := ⟨0xc0001c, 15, 0⟩
def rRSV_TIMES : Nat := 0xc00020
def fRSV_TIMES_MARGIN : Fld := ⟨0xc00020, 7, 0⟩
def fRSV_TIMES_ENTRY : Fld := ⟨0xc00020, 15, 8⟩
def rRSV_LINK_RATE : Nat := 0xc00024
def fRSV_LINK_RATE_MBPS : Fld := ⟨0xc00024, 15, 0⟩
def rRSV_HARD_CAP : Nat := 0xc00028
def fRSV_HARD_CAP_GIB : Fld := ⟨0xc00028, 11, 0⟩
def rRSV_SAFE : Nat := 0xc0002c
def fRSV_SAFE_GIB : Fld := ⟨0xc0002c, 11, 0⟩
def rRSV_STAGE_THR : Nat := 0xc00030
def fRSV_STAGE_THR_S1 : Fld := ⟨0xc00030, 7, 0⟩
def fRSV_STAGE_THR_S2 : Fld := ⟨0xc00030, 15, 8⟩
def fRSV_STAGE_THR_S3 : Fld := ⟨0xc00030, 23, 16⟩
def fRSV_STAGE_THR_S4 : Fld := ⟨0xc00030, 31, 24⟩
def rRSV_STAGE_HYST : Nat := 0xc00034
def fRSV_STAGE_HYST_HYST : Fld := ⟨0xc00034, 7, 0⟩
def fRSV_STAGE_HYST_FILL_SLOW : Fld := ⟨0xc00034, 15, 8⟩
def rRSV_PFC : Nat := 0xc00038
def fRSV_PFC_PRIO : Fld := ⟨0xc00038, 7, 0⟩
def rRSV_E_NOW : Nat := 0xc00040
def fRSV_E_NOW_J : Fld := ⟨0xc00040, 31, 0⟩
def rRSV_P_NOW : Nat := 0xc00044
def fRSV_P_NOW_W : Fld := ⟨0xc00044, 15, 0⟩
def rRSV_T_AVAIL : Nat := 0xc00048
def fRSV_T_AVAIL_MS : Fld := ⟨0xc00048, 15, 0⟩
def rRSV_BUDGET : Nat := 0xc0004c
def fRSV_BUDGET_FOLIOS : Fld := ⟨0xc0004c, 31, 0⟩
def rRSV_DIRTY : Nat := 0xc00050
def fRSV_DIRTY_FOLIOS : Fld := ⟨0xc00050, 31, 0⟩
def rRSV_FIXED : Nat := 0xc00054
def fRSV_FIXED_FOLIOS : Fld := ⟨0xc00054, 31, 0⟩
def rRSV_STRANDED : Nat := 0xc00058
def fRSV_STRANDED_FOLIOS : Fld := ⟨0xc00058, 31, 0⟩
def rRSV_IADDR : Nat := 0xc00060
def fRSV_IADDR_ADDR : Fld := ⟨0xc00060, 31, 0⟩
def rRSV_IDATA : Nat := 0xc00064
def fRSV_IDATA_DATA : Fld := ⟨0xc00064, 31, 0⟩
def rRSV_CMD : Nat := 0xc00070
def fRSV_CMD_SNAP : Fld := ⟨0xc00070, 0, 0⟩
def rRSV_CNT_WAIT : Nat := 0xc00080
def fRSV_CNT_WAIT_V : Fld := ⟨0xc00080, 31, 0⟩
def rRSV_CNT_FULL : Nat := 0xc00084
def fRSV_CNT_FULL_V : Fld := ⟨0xc00084, 31, 0⟩
def rRSV_CNT_VAULTS : Nat := 0xc00088
def fRSV_CNT_VAULTS_V : Fld := ⟨0xc00088, 31, 0⟩
def rRSV_LAST_VAULT : Nat := 0xc00090
def fRSV_LAST_VAULT_MS : Fld := ⟨0xc00090, 31, 0⟩
def rRSV_LAST_FOLIOS : Nat := 0xc00094
def fRSV_LAST_FOLIOS_FOLIOS : Fld := ⟨0xc00094, 31, 0⟩
def rFCH_CTRL : Nat := 0xd00000
def fFCH_CTRL_MODE : Fld := ⟨0xd00000, 1, 0⟩
def fFCH_CTRL_NEIGHBOURS : Fld := ⟨0xd00000, 2, 2⟩
def fFCH_CTRL_SWEEP_EN : Fld := ⟨0xd00000, 3, 3⟩
def rFCH_STATUS : Nat := 0xd00004
def fFCH_STATUS_READY : Fld := ⟨0xd00004, 0, 0⟩
def fFCH_STATUS_DIR_ERR : Fld := ⟨0xd00004, 1, 1⟩
def fFCH_STATUS_PIN_PENDING : Fld := ⟨0xd00004, 2, 2⟩
def fFCH_STATUS_EVB_FULL : Fld := ⟨0xd00004, 3, 3⟩
def fFCH_STATUS_HAZ_FULL : Fld := ⟨0xd00004, 4, 4⟩
def fFCH_STATUS_DISABLE_REFUSED : Fld := ⟨0xd00004, 5, 5⟩
def rFCH_SETS : Nat := 0xd00008
def fFCH_SETS_SETS : Fld := ⟨0xd00008, 31, 0⟩
def rFCH_RESV : Nat := 0xd0000c
def fFCH_RESV_MIB : Fld := ⟨0xd0000c, 23, 0⟩
def rFCH_PIN_LIMIT : Nat := 0xd00010
def fFCH_PIN_LIMIT_WAYS : Fld := ⟨0xd00010, 3, 0⟩
def rFCH_SWEEP : Nat := 0xd00014
def fFCH_SWEEP_PERIOD_S : Fld := ⟨0xd00014, 7, 0⟩
def rFCH_EVB_USED : Nat := 0xd00018
def fFCH_EVB_USED_ENTRIES : Fld := ⟨0xd00018, 12, 0⟩
def rFCH_HAZ_USED : Nat := 0xd0001c
def fFCH_HAZ_USED_ENTRIES : Fld := ⟨0xd0001c, 13, 0⟩
def rFCH_IADDR : Nat := 0xd00020
def fFCH_IADDR_ADDR : Fld := ⟨0xd00020, 31, 0⟩
def rFCH_IDATA : Nat := 0xd00024
def fFCH_IDATA_DATA : Fld := ⟨0xd00024, 31, 0⟩
def rFCH_ISET : Nat := 0xd00028
def fFCH_ISET_SET : Fld := ⟨0xd00028, 27, 0⟩
def rFCH_CMD : Nat := 0xd00030
def fFCH_CMD_SNAP : Fld := ⟨0xd00030, 0, 0⟩
def rFCH_CNT_HIT : Nat := 0xd00040
def fFCH_CNT_HIT_V : Fld := ⟨0xd00040, 31, 0⟩
def rFCH_CNT_MISS : Nat := 0xd00044
def fFCH_CNT_MISS_V : Fld := ⟨0xd00044, 31, 0⟩
def rFCH_CNT_FILL : Nat := 0xd00048
def fFCH_CNT_FILL_V : Fld := ⟨0xd00048, 31, 0⟩
def rFCH_CNT_EVICT : Nat := 0xd0004c
def fFCH_CNT_EVICT_CLEAN : Fld := ⟨0xd0004c, 15, 0⟩
def fFCH_CNT_EVICT_DIRTY : Fld := ⟨0xd0004c, 31, 16⟩
def rFCH_CNT_RESCUE : Nat := 0xd00050
def fFCH_CNT_RESCUE_V : Fld := ⟨0xd00050, 31, 0⟩
def rFCH_CNT_NOWAY : Nat := 0xd00054
def fFCH_CNT_NOWAY_V : Fld := ⟨0xd00054, 31, 0⟩
def rFCH_CNT_VICTIM_WAIT : Nat := 0xd00058
def fFCH_CNT_VICTIM_WAIT_V : Fld := ⟨0xd00058, 31, 0⟩
def rFCH_CNT_MAINT : Nat := 0xd0005c
def fFCH_CNT_MAINT_V : Fld := ⟨0xd0005c, 31, 0⟩
def rFCH_CNT_TAGC_MISS : Nat := 0xd00060
def fFCH_CNT_TAGC_MISS_V : Fld := ⟨0xd00060, 31, 0⟩
def rFCH_CNT_DIRFIX : Nat := 0xd00064
def fFCH_CNT_DIRFIX_V : Fld := ⟨0xd00064, 31, 0⟩
def rSTK_CTRL : Nat := 0xf00000
def fSTK_CTRL_LINK_EN : Fld := ⟨0xf00000, 15, 0⟩
def rSTK_STATUS : Nat := 0xf00004
def fSTK_STATUS_UP : Fld := ⟨0xf00004, 15, 0⟩
def fSTK_STATUS_LOST : Fld := ⟨0xf00004, 31, 16⟩
def rSTK_TIMEOUT : Nat := 0xf00008
def fSTK_TIMEOUT_READ_MS : Fld := ⟨0xf00008, 7, 0⟩
def fSTK_TIMEOUT_WRITE_MS : Fld := ⟨0xf00008, 15, 8⟩
def fSTK_TIMEOUT_TRIM_MS : Fld := ⟨0xf00008, 23, 16⟩
def fSTK_TIMEOUT_RETRIES : Fld := ⟨0xf00008, 31, 24⟩
def rSTK_META : Nat := 0xf0000c
def fSTK_META_PRIMARY : Fld := ⟨0xf0000c, 3, 0⟩
def fSTK_META_COPY : Fld := ⟨0xf0000c, 7, 4⟩
def rSTK_FREE_TOTAL : Nat := 0xf00010
def fSTK_FREE_TOTAL_SHELVES : Fld := ⟨0xf00010, 23, 0⟩
def rSTK_IADDR : Nat := 0xf00020
def fSTK_IADDR_ADDR : Fld := ⟨0xf00020, 31, 0⟩
def rSTK_IDATA : Nat := 0xf00024
def fSTK_IDATA_DATA : Fld := ⟨0xf00024, 31, 0⟩
def rSTK_CMD : Nat := 0xf00030
def fSTK_CMD_SNAP : Fld := ⟨0xf00030, 0, 0⟩
def fSTK_CMD_RETRAIN : Fld := ⟨0xf00030, 1, 1⟩
def fSTK_CMD_LINK : Fld := ⟨0xf00030, 19, 16⟩
def rSTK_LINK_STATE : Nat := 0xf00100
def fSTK_LINK_STATE_STATE : Fld := ⟨0xf00100, 2, 0⟩
def fSTK_LINK_STATE_OUT : Fld := ⟨0xf00100, 13, 3⟩
def rSTK_LINK_FREE : Nat := 0xf00104
def fSTK_LINK_FREE_SHELVES : Fld := ⟨0xf00104, 19, 0⟩
def rSTK_LINK_CNT_READ : Nat := 0xf00108
def fSTK_LINK_CNT_READ_V : Fld := ⟨0xf00108, 31, 0⟩
def rSTK_LINK_CNT_WRITE : Nat := 0xf0010c
def fSTK_LINK_CNT_WRITE_V : Fld := ⟨0xf0010c, 31, 0⟩
def rSTK_LINK_CNT_ERR : Nat := 0xf00110
def fSTK_LINK_CNT_ERR_REPLAY : Fld := ⟨0xf00110, 15, 0⟩
def fSTK_LINK_CNT_ERR_RETRY : Fld := ⟨0xf00110, 31, 16⟩
def rDMC_CTRL : Nat := 0x1000000
def fDMC_CTRL_ENABLE : Fld := ⟨0x1000000, 0, 0⟩
def fDMC_CTRL_RETRAIN_EN : Fld := ⟨0x1000000, 1, 1⟩
def rDMC_STATUS : Nat := 0x1000004
def fDMC_STATUS_STATE : Fld := ⟨0x1000004, 2, 0⟩
def fDMC_STATUS_TSET : Fld := ⟨0x1000004, 3, 3⟩
def fDMC_STATUS_REF2X : Fld := ⟨0x1000004, 4, 4⟩
def fDMC_STATUS_HOT : Fld := ⟨0x1000004, 5, 5⟩
def fDMC_STATUS_INORDER : Fld := ⟨0x1000004, 6, 6⟩
def rDMC_POP : Nat := 0x1000008
def fDMC_POP_MASK : Fld := ⟨0x1000008, 15, 0⟩
def fDMC_POP_DPC : Fld := ⟨0x1000008, 17, 16⟩
def fDMC_POP_RANKS_LOG2 : Fld := ⟨0x1000008, 20, 18⟩
def fDMC_POP_DENSITY : Fld := ⟨0x1000008, 22, 21⟩
def fDMC_POP_MRDIMM : Fld := ⟨0x1000008, 23, 23⟩
def rDMC_SPEED : Nat := 0x100000c
def fDMC_SPEED_MTS : Fld := ⟨0x100000c, 15, 0⟩
def rDMC_SCHED : Nat := 0x1000010
def fDMC_SCHED_HIT_CAP : Fld := ⟨0x1000010, 7, 0⟩
def fDMC_SCHED_AGE_CAP : Fld := ⟨0x1000010, 15, 8⟩
def fDMC_SCHED_WQ_HIGH : Fld := ⟨0x1000010, 23, 16⟩
def fDMC_SCHED_WQ_LOW : Fld := ⟨0x1000010, 31, 24⟩
def rDMC_THERM : Nat := 0x1000014
def fDMC_THERM_HOT_C : Fld := ⟨0x1000014, 7, 0⟩
def fDMC_THERM_CRIT_C : Fld := ⟨0x1000014, 15, 8⟩
def fDMC_THERM_TEMP_C : Fld := ⟨0x1000014, 23, 16⟩
def rDMC_RETRAIN : Nat := 0x1000018
def fDMC_RETRAIN_PERIOD_MS : Fld := ⟨0x1000018, 7, 0⟩
def fDMC_RETRAIN_MARGIN_MIN : Fld := ⟨0x1000018, 15, 8⟩
def rDMC_CAPAR : Nat := 0x100001c
def fDMC_CAPAR_WINDOW : Fld := ⟨0x100001c, 7, 0⟩
def rDMC_IADDR : Nat := 0x1000020
def fDMC_IADDR_ADDR : Fld := ⟨0x1000020, 31, 0⟩
def rDMC_IDATA : Nat := 0x1000024
def fDMC_IDATA_DATA : Fld := ⟨0x1000024, 31, 0⟩
def rDMC_CMD : Nat := 0x1000030
def fDMC_CMD_SNAP : Fld := ⟨0x1000030, 0, 0⟩
def fDMC_CMD_FCHG : Fld := ⟨0x1000030, 1, 1⟩
def fDMC_CMD_RETRAIN_NOW : Fld := ⟨0x1000030, 2, 2⟩
def rDMC_CNT_READ : Nat := 0x1000040
def fDMC_CNT_READ_V : Fld := ⟨0x1000040, 31, 0⟩
def rDMC_CNT_WRITE : Nat := 0x1000044
def fDMC_CNT_WRITE_V : Fld := ⟨0x1000044, 31, 0⟩
def rDMC_CNT_ROWHIT : Nat := 0x1000048
def fDMC_CNT_ROWHIT_V : Fld := ⟨0x1000048, 31, 0⟩
def rDMC_CNT_CAPAR : Nat := 0x100004c
def fDMC_CNT_CAPAR_ALERTS : Fld := ⟨0x100004c, 15, 0⟩
def fDMC_CNT_CAPAR_REPLAYS : Fld := ⟨0x100004c, 31, 16⟩
def rDMC_CNT_INORDER : Nat := 0x1000050
def fDMC_CNT_INORDER_V : Fld := ⟨0x1000050, 31, 0⟩
def rDMC_CNT_STARVE : Nat := 0x1000054
def fDMC_CNT_STARVE_V : Fld := ⟨0x1000054, 31, 0⟩
def rDMC_TIM_A0 : Nat := 0x1000100
def fDMC_TIM_A0_TRCD : Fld := ⟨0x1000100, 7, 0⟩
def fDMC_TIM_A0_TRP : Fld := ⟨0x1000100, 15, 8⟩
def fDMC_TIM_A0_TRAS : Fld := ⟨0x1000100, 23, 16⟩
def fDMC_TIM_A0_TRTP : Fld := ⟨0x1000100, 31, 24⟩
def rDMC_TIM_A1 : Nat := 0x1000104
def fDMC_TIM_A1_TCL : Fld := ⟨0x1000104, 7, 0⟩
def fDMC_TIM_A1_TCWL : Fld := ⟨0x1000104, 15, 8⟩
def fDMC_TIM_A1_TWR : Fld := ⟨0x1000104, 23, 16⟩
def fDMC_TIM_A1_TWTR : Fld := ⟨0x1000104, 31, 24⟩
def rDMC_TIM_A2 : Nat := 0x1000108
def fDMC_TIM_A2_TRRD : Fld := ⟨0x1000108, 7, 0⟩
def fDMC_TIM_A2_TFAW : Fld := ⟨0x1000108, 15, 8⟩
def fDMC_TIM_A2_TCCD : Fld := ⟨0x1000108, 23, 16⟩
def fDMC_TIM_A2_TRTW : Fld := ⟨0x1000108, 31, 24⟩
def rDMC_TIM_A3 : Nat := 0x100010c
def fDMC_TIM_A3_TRFC : Fld := ⟨0x100010c, 11, 0⟩
def fDMC_TIM_A3_TREFI : Fld := ⟨0x100010c, 27, 12⟩
def rDMC_TIM_A4 : Nat := 0x1000110
def fDMC_TIM_A4_TXS : Fld := ⟨0x1000110, 15, 0⟩
def fDMC_TIM_A4_MTS : Fld := ⟨0x1000110, 31, 16⟩
def rDMC_TIM_B0 : Nat := 0x1000120
def fDMC_TIM_B0_TRCD : Fld := ⟨0x1000120, 7, 0⟩
def fDMC_TIM_B0_TRP : Fld := ⟨0x1000120, 15, 8⟩
def fDMC_TIM_B0_TRAS : Fld := ⟨0x1000120, 23, 16⟩
def fDMC_TIM_B0_TRTP : Fld := ⟨0x1000120, 31, 24⟩
def rDMC_TIM_B1 : Nat := 0x1000124
def fDMC_TIM_B1_TCL : Fld := ⟨0x1000124, 7, 0⟩
def fDMC_TIM_B1_TCWL : Fld := ⟨0x1000124, 15, 8⟩
def fDMC_TIM_B1_TWR : Fld := ⟨0x1000124, 23, 16⟩
def fDMC_TIM_B1_TWTR : Fld := ⟨0x1000124, 31, 24⟩
def rDMC_TIM_B2 : Nat := 0x1000128
def fDMC_TIM_B2_TRRD : Fld := ⟨0x1000128, 7, 0⟩
def fDMC_TIM_B2_TFAW : Fld := ⟨0x1000128, 15, 8⟩
def fDMC_TIM_B2_TCCD : Fld := ⟨0x1000128, 23, 16⟩
def fDMC_TIM_B2_TRTW : Fld := ⟨0x1000128, 31, 24⟩
def rDMC_TIM_B3 : Nat := 0x100012c
def fDMC_TIM_B3_TRFC : Fld := ⟨0x100012c, 11, 0⟩
def fDMC_TIM_B3_TREFI : Fld := ⟨0x100012c, 27, 12⟩
def rDMC_TIM_B4 : Nat := 0x1000130
def fDMC_TIM_B4_TXS : Fld := ⟨0x1000130, 15, 0⟩
def fDMC_TIM_B4_MTS : Fld := ⟨0x1000130, 31, 16⟩
def rLPR_CTRL : Nat := 0x2000000
def fLPR_CTRL_ENABLE : Fld := ⟨0x2000000, 0, 0⟩
def fLPR_CTRL_SCRUB_EN : Fld := ⟨0x2000000, 1, 1⟩
def fLPR_CTRL_REMAP_AUTO : Fld := ⟨0x2000000, 2, 2⟩
def fLPR_CTRL_DEAD_AUTO : Fld := ⟨0x2000000, 3, 3⟩
def rLPR_STATUS : Nat := 0x2000004
def fLPR_STATUS_READY : Fld := ⟨0x2000004, 0, 0⟩
def fLPR_STATUS_BIST_DONE : Fld := ⟨0x2000004, 1, 1⟩
def fLPR_STATUS_BIST_FAIL : Fld := ⟨0x2000004, 2, 2⟩
def fLPR_STATUS_ERASURE : Fld := ⟨0x2000004, 3, 3⟩
def fLPR_STATUS_CRITICAL : Fld := ⟨0x2000004, 4, 4⟩
def fLPR_STATUS_REMAP_FULL : Fld := ⟨0x2000004, 5, 5⟩
def rLPR_SCRUB : Nat := 0x2000008
def fLPR_SCRUB_PERIOD_H : Fld := ⟨0x2000008, 7, 0⟩
def fLPR_SCRUB_PROGRESS : Fld := ⟨0x2000008, 17, 8⟩
def rLPR_DEAD : Nat := 0x200000c
def fLPR_DEAD_COUNT : Fld := ⟨0x200000c, 11, 0⟩
def rLPR_RAW_ADDR : Nat := 0x2000010
def fLPR_RAW_ADDR_LINE : Fld := ⟨0x2000010, 31, 0⟩
def rLPR_RAW_ADDRH : Nat := 0x2000014
def fLPR_RAW_ADDRH_LINE : Fld := ⟨0x2000014, 4, 0⟩
def rLPR_RAW_CMD : Nat := 0x2000018
def fLPR_RAW_CMD_READ : Fld := ⟨0x2000018, 0, 0⟩
def fLPR_RAW_CMD_WRITE : Fld := ⟨0x2000018, 1, 1⟩
def fLPR_RAW_CMD_RESULT : Fld := ⟨0x2000018, 3, 2⟩
def rLPR_IADDR : Nat := 0x2000020
def fLPR_IADDR_ADDR : Fld := ⟨0x2000020, 31, 0⟩
def rLPR_IDATA : Nat := 0x2000024
def fLPR_IDATA_DATA : Fld := ⟨0x2000024, 31, 0⟩
def rLPR_CMD : Nat := 0x2000030
def fLPR_CMD_SNAP : Fld := ⟨0x2000030, 0, 0⟩
def fLPR_CMD_BIST : Fld := ⟨0x2000030, 1, 1⟩
def fLPR_CMD_SCRUB_NOW : Fld := ⟨0x2000030, 2, 2⟩
def rLPR_INJ_ADDR : Nat := 0x2000034
def fLPR_INJ_ADDR_LINE : Fld := ⟨0x2000034, 31, 0⟩
def rLPR_INJ_CTRL : Nat := 0x2000038
def fLPR_INJ_CTRL_ADDRH : Fld := ⟨0x2000038, 4, 0⟩
def fLPR_INJ_CTRL_POS0 : Fld := ⟨0x2000038, 9, 5⟩
def fLPR_INJ_CTRL_POS1 : Fld := ⟨0x2000038, 14, 10⟩
def fLPR_INJ_CTRL_CW : Fld := ⟨0x2000038, 16, 15⟩
def fLPR_INJ_CTRL_TWO : Fld := ⟨0x2000038, 17, 17⟩
def fLPR_INJ_CTRL_ARM : Fld := ⟨0x2000038, 31, 31⟩
def rLPR_INJ_MASK : Nat := 0x200003c
def fLPR_INJ_MASK_XOR0 : Fld := ⟨0x200003c, 15, 0⟩
def fLPR_INJ_MASK_XOR1 : Fld := ⟨0x200003c, 31, 16⟩
def rLPR_CNT_CE : Nat := 0x2000040
def fLPR_CNT_CE_V : Fld := ⟨0x2000040, 31, 0⟩
def rLPR_CNT_UE_DEMAND : Nat := 0x2000044
def fLPR_CNT_UE_DEMAND_V : Fld := ⟨0x2000044, 31, 0⟩
def rLPR_CNT_UE_SCRUB : Nat := 0x2000048
def fLPR_CNT_UE_SCRUB_V : Fld := ⟨0x2000048, 31, 0⟩
def rLPR_CNT_SCRUBBED : Nat := 0x200004c
def fLPR_CNT_SCRUBBED_V : Fld := ⟨0x200004c, 31, 0⟩
def rLPR_CNT_TAG_FOLD : Nat := 0x2000050
def fLPR_CNT_TAG_FOLD_V : Fld := ⟨0x2000050, 31, 0⟩
def rLPR_CNT_TAG_RW : Nat := 0x2000054
def fLPR_CNT_TAG_RW_V : Fld := ⟨0x2000054, 31, 0⟩
def rLPR_CNT_REMAP : Nat := 0x2000058
def fLPR_CNT_REMAP_V : Fld := ⟨0x2000058, 31, 0⟩
def rTVL_CTRL : Nat := 0x2100000
def fTVL_CTRL_ENABLE : Fld := ⟨0x2100000, 0, 0⟩
def fTVL_CTRL_SPLIT : Fld := ⟨0x2100000, 1, 1⟩
def rTVL_TIMERS : Nat := 0x2100008
def fTVL_TIMERS_REPLAY_US : Fld := ⟨0x2100008, 7, 0⟩
def fTVL_TIMERS_RECOV_MS : Fld := ⟨0x2100008, 15, 8⟩
def fTVL_TIMERS_RETRY_MS : Fld := ⟨0x2100008, 23, 16⟩
def rTVL_CAP : Nat := 0x210000c
def fTVL_CAP_PW : Fld := ⟨0x210000c, 12, 0⟩
def fTVL_CAP_RQ : Fld := ⟨0x210000c, 24, 13⟩
def rTVL_CAP2 : Nat := 0x2100010
def fTVL_CAP2_EV : Fld := ⟨0x2100010, 8, 0⟩
def fTVL_CAP2_AT : Fld := ⟨0x2100010, 14, 9⟩
def rTVL_CMD : Nat := 0x2100030
def fTVL_CMD_SNAP : Fld := ⟨0x2100030, 0, 0⟩
def fTVL_CMD_RETRAIN : Fld := ⟨0x2100030, 1, 1⟩
def fTVL_CMD_HALF : Fld := ⟨0x2100030, 2, 2⟩
def rTVL_LINK : Nat := 0x2100100
def fTVL_LINK_STATE : Fld := ⟨0x2100100, 2, 0⟩
def fTVL_LINK_HOLDER : Fld := ⟨0x2100100, 3, 3⟩
def fTVL_LINK_REVERSED : Fld := ⟨0x2100100, 4, 4⟩
def fTVL_LINK_POL : Fld := ⟨0x2100100, 8, 5⟩
def rTVL_PEER_UID_LO : Nat := 0x2100104
def fTVL_PEER_UID_LO_V : Fld := ⟨0x2100104, 31, 0⟩
def rTVL_PEER_UID_HI : Nat := 0x2100108
def fTVL_PEER_UID_HI_V : Fld := ⟨0x2100108, 31, 0⟩
def rTVL_PEER_CAP : Nat := 0x210010c
def fTVL_PEER_CAP_RS : Fld := ⟨0x210010c, 12, 0⟩
def fTVL_PEER_CAP_EV : Fld := ⟨0x210010c, 25, 13⟩
def rTVL_CRED_TX : Nat := 0x2100110
def fTVL_CRED_TX_RS : Fld := ⟨0x2100110, 12, 0⟩
def fTVL_CRED_TX_EV : Fld := ⟨0x2100110, 25, 13⟩
def rTVL_RX_FREE : Nat := 0x2100114
def fTVL_RX_FREE_PW : Fld := ⟨0x2100114, 12, 0⟩
def fTVL_RX_FREE_RQ : Fld := ⟨0x2100114, 24, 13⟩
def fTVL_RX_FREE_AT : Fld := ⟨0x2100114, 30, 25⟩
def rTVL_SEQ : Nat := 0x2100118
def fTVL_SEQ_FSEQ : Fld := ⟨0x2100118, 11, 0⟩
def fTVL_SEQ_ACKSEQ : Fld := ⟨0x2100118, 23, 12⟩
def rTVL_CNT_FLIT_RX : Nat := 0x2100120
def fTVL_CNT_FLIT_RX_V : Fld := ⟨0x2100120, 31, 0⟩
def rTVL_CNT_FLIT_TX : Nat := 0x2100124
def fTVL_CNT_FLIT_TX_V : Fld := ⟨0x2100124, 31, 0⟩
def rTVL_CNT_FEC_CORR : Nat := 0x2100128
def fTVL_CNT_FEC_CORR_V : Fld := ⟨0x2100128, 31, 0⟩
def rTVL_CNT_FEC_UNCORR : Nat := 0x210012c
def fTVL_CNT_FEC_UNCORR_V : Fld := ⟨0x210012c, 31, 0⟩
def rTVL_CNT_CRC : Nat := 0x2100130
def fTVL_CNT_CRC_V : Fld := ⟨0x2100130, 31, 0⟩
def rTVL_CNT_REPLAY : Nat := 0x2100134
def fTVL_CNT_REPLAY_V : Fld := ⟨0x2100134, 31, 0⟩
def rTVL_CNT_LINK : Nat := 0x2100138
def fTVL_CNT_LINK_RECOVERY : Fld := ⟨0x2100138, 15, 0⟩
def fTVL_CNT_LINK_LOST : Fld := ⟨0x2100138, 31, 16⟩
def rTVL_CNT_DISCARD : Nat := 0x210013c
def fTVL_CNT_DISCARD_V : Fld := ⟨0x210013c, 31, 0⟩
def rNRE_CTRL : Nat := 0x3100000
def fNRE_CTRL_ENABLE : Fld := ⟨0x3100000, 0, 0⟩
def fNRE_CTRL_ASYNC_EN : Fld := ⟨0x3100000, 1, 1⟩
def rNRE_STATUS : Nat := 0x3100004
def fNRE_STATUS_READY : Fld := ⟨0x3100004, 0, 0⟩
def fNRE_STATUS_CI_FULL : Fld := ⟨0x3100004, 1, 1⟩
def fNRE_STATUS_ASYNC_OVF : Fld := ⟨0x3100004, 2, 2⟩
def rNRE_QP_LIVE : Nat := 0x3100008
def fNRE_QP_LIVE_COUNT : Fld := ⟨0x3100008, 20, 0⟩
def rNRE_CI_USED : Nat := 0x310000c
def fNRE_CI_USED_COUNT : Fld := ⟨0x310000c, 15, 0⟩
def rNRE_PAGE : Nat := 0x3100010
def fNRE_PAGE_HOLD_US : Fld := ⟨0x3100010, 7, 0⟩
def fNRE_PAGE_RNR_MIN : Fld := ⟨0x3100010, 12, 8⟩
def rNRE_CNP : Nat := 0x3100014
def fNRE_CNP_INTERVAL_US : Fld := ⟨0x3100014, 7, 0⟩
def fNRE_CNP_DSCP : Fld := ⟨0x3100014, 13, 8⟩
def fNRE_CNP_EN : Fld := ⟨0x3100014, 14, 14⟩
def rNRE_MTU : Nat := 0x3100018
def fNRE_MTU_MAX : Fld := ⟨0x3100018, 1, 0⟩
def rNRE_ASYNC_PI : Nat := 0x310001c
def fNRE_ASYNC_PI_INDEX : Fld := ⟨0x310001c, 7, 0⟩
def rNRE_IADDR : Nat := 0x3100020
def fNRE_IADDR_ADDR : Fld := ⟨0x3100020, 31, 0⟩
def rNRE_IDATA : Nat := 0x3100024
def fNRE_IDATA_DATA : Fld := ⟨0x3100024, 31, 0⟩
def rNRE_CMD : Nat := 0x3100030
def fNRE_CMD_SNAP : Fld := ⟨0x3100030, 0, 0⟩
def rNRE_SID_LO : Nat := 0x3100038
def fNRE_SID_LO_V : Fld := ⟨0x3100038, 31, 0⟩
def rNRE_SID_HI : Nat := 0x310003c
def fNRE_SID_HI_V : Fld := ⟨0x310003c, 31, 0⟩
def rNRE_CNT_RX_PKT : Nat := 0x3100040
def fNRE_CNT_RX_PKT_V : Fld := ⟨0x3100040, 31, 0⟩
def rNRE_CNT_CI_MISS : Nat := 0x3100044
def fNRE_CNT_CI_MISS_V : Fld := ⟨0x3100044, 31, 0⟩
def rNRE_CNT_MISS_DROP : Nat := 0x3100048
def fNRE_CNT_MISS_DROP_V : Fld := ⟨0x3100048, 31, 0⟩
def rNRE_CNT_HOLD : Nat := 0x310004c
def fNRE_CNT_HOLD_V : Fld := ⟨0x310004c, 31, 0⟩
def rNRE_CNT_BOUNCE : Nat := 0x3100050
def fNRE_CNT_BOUNCE_V : Fld := ⟨0x3100050, 31, 0⟩
def rNRE_CNT_DUP : Nat := 0x3100054
def fNRE_CNT_DUP_V : Fld := ⟨0x3100054, 31, 0⟩
def rNRE_CNT_SEQ_NAK : Nat := 0x3100058
def fNRE_CNT_SEQ_NAK_V : Fld := ⟨0x3100058, 31, 0⟩
def rNRE_CNT_QP_ERR : Nat := 0x310005c
def fNRE_CNT_QP_ERR_V : Fld := ⟨0x310005c, 31, 0⟩
def rNRE_CNT_CNP : Nat := 0x3100060
def fNRE_CNT_CNP_TX : Fld := ⟨0x3100060, 15, 0⟩
def fNRE_CNT_CNP_RX : Fld := ⟨0x3100060, 31, 16⟩
def rNRE_CNT_ICRC : Nat := 0x3100064
def fNRE_CNT_ICRC_V : Fld := ⟨0x3100064, 31, 0⟩
def rNRE_CNT_UNKNOWN_QP : Nat := 0x3100068
def fNRE_CNT_UNKNOWN_QP_V : Fld := ⟨0x3100068, 31, 0⟩
def rETH_CTRL : Nat := 0x3200000
def fETH_CTRL_MODE : Fld := ⟨0x3200000, 1, 0⟩
def fETH_CTRL_PORT_EN : Fld := ⟨0x3200000, 5, 2⟩
def fETH_CTRL_PRIO_SRC : Fld := ⟨0x3200000, 6, 6⟩
def rETH_STATUS : Nat := 0x3200004
def fETH_STATUS_UP : Fld := ⟨0x3200004, 3, 0⟩
def fETH_STATUS_PFC_WD : Fld := ⟨0x3200004, 7, 4⟩
def rETH_PFC : Nat := 0x3200008
def fETH_PFC_RX_EN : Fld := ⟨0x3200008, 7, 0⟩
def fETH_PFC_TX_EN : Fld := ⟨0x3200008, 15, 8⟩
def fETH_PFC_WD_MS : Fld := ⟨0x3200008, 23, 16⟩
def rETH_ETS : Nat := 0x320000c
def fETH_ETS_W0 : Fld := ⟨0x320000c, 7, 0⟩
def fETH_ETS_W1 : Fld := ⟨0x320000c, 15, 8⟩
def fETH_ETS_W2 : Fld := ⟨0x320000c, 23, 16⟩
def fETH_ETS_W3 : Fld := ⟨0x320000c, 31, 24⟩
def rETH_ETS2 : Nat := 0x3200010
def fETH_ETS2_W4 : Fld := ⟨0x3200010, 7, 0⟩
def fETH_ETS2_W5 : Fld := ⟨0x3200010, 15, 8⟩
def fETH_ETS2_W6 : Fld := ⟨0x3200010, 23, 16⟩
def fETH_ETS2_W7 : Fld := ⟨0x3200010, 31, 24⟩
def rETH_MAXFRAME : Nat := 0x3200014
def fETH_MAXFRAME_BYTES : Fld := ⟨0x3200014, 13, 0⟩
def rETH_MACADDR_LO : Nat := 0x3200018
def fETH_MACADDR_LO_V : Fld := ⟨0x3200018, 31, 0⟩
def rETH_MACADDR_HI : Nat := 0x320001c
def fETH_MACADDR_HI_V : Fld := ⟨0x320001c, 15, 0⟩
def rETH_DSCP : Nat := 0x3200020
def fETH_DSCP_PRIO0 : Fld := ⟨0x3200020, 2, 0⟩
def fETH_DSCP_PRIO1 : Fld := ⟨0x3200020, 6, 4⟩
def fETH_DSCP_PRIO2 : Fld := ⟨0x3200020, 10, 8⟩
def fETH_DSCP_PRIO3 : Fld := ⟨0x3200020, 14, 12⟩
def fETH_DSCP_PRIO4 : Fld := ⟨0x3200020, 18, 16⟩
def fETH_DSCP_PRIO5 : Fld := ⟨0x3200020, 22, 20⟩
def fETH_DSCP_PRIO6 : Fld := ⟨0x3200020, 26, 24⟩
def fETH_DSCP_PRIO7 : Fld := ⟨0x3200020, 30, 28⟩
def rETH_CMD : Nat := 0x3200040
def fETH_CMD_SNAP : Fld := ⟨0x3200040, 0, 0⟩
def rETH_P_RX : Nat := 0x3200100
def fETH_P_RX_V : Fld := ⟨0x3200100, 31, 0⟩
def rETH_P_TX : Nat := 0x3200104
def fETH_P_TX_V : Fld := ⟨0x3200104, 31, 0⟩
def rETH_P_FCS : Nat := 0x3200108
def fETH_P_FCS_V : Fld := ⟨0x3200108, 31, 0⟩
def rETH_P_DROP : Nat := 0x320010c
def fETH_P_DROP_V : Fld := ⟨0x320010c, 31, 0⟩
def rETH_P_FEC_CORR : Nat := 0x3200110
def fETH_P_FEC_CORR_V : Fld := ⟨0x3200110, 31, 0⟩
def rETH_P_FEC_UNCORR : Nat := 0x3200114
def fETH_P_FEC_UNCORR_V : Fld := ⟨0x3200114, 31, 0⟩
def rETH_P_PFC : Nat := 0x3200118
def fETH_P_PFC_RX : Fld := ⟨0x3200118, 15, 0⟩
def fETH_P_PFC_TX : Fld := ⟨0x3200118, 31, 16⟩
def rETH_P_PAUSE_IGN : Nat := 0x320011c
def fETH_P_PAUSE_IGN_V : Fld := ⟨0x320011c, 31, 0⟩
def rCIR_CTRL : Nat := 0x3b00000
def fCIR_CTRL_ENG_EN : Fld := ⟨0x3b00000, 3, 0⟩
def rCIR_STATUS : Nat := 0x3b00004
def fCIR_STATUS_ENG_ON : Fld := ⟨0x3b00004, 3, 0⟩
def fCIR_STATUS_LATE : Fld := ⟨0x3b00004, 4, 4⟩
def rCIR_LATE : Nat := 0x3b00008
def fCIR_LATE_US : Fld := ⟨0x3b00008, 15, 0⟩
def rCIR_POLL : Nat := 0x3b0000c
def fCIR_POLL_US : Fld := ⟨0x3b0000c, 7, 0⟩
def fCIR_POLL_KEEPALIVE_MS : Fld := ⟨0x3b0000c, 15, 8⟩
def rCIR_CNP : Nat := 0x3b00010
def fCIR_CNP_CUT : Fld := ⟨0x3b00010, 7, 0⟩
def fCIR_CNP_RECOVER_US : Fld := ⟨0x3b00010, 15, 8⟩
def rCIR_RUNNING : Nat := 0x3b00014
def fCIR_RUNNING_COUNT : Fld := ⟨0x3b00014, 8, 0⟩
def rCIR_SID_LO : Nat := 0x3b00018
def fCIR_SID_LO_V : Fld := ⟨0x3b00018, 31, 0⟩
def rCIR_SID_HI : Nat := 0x3b0001c
def fCIR_SID_HI_V : Fld := ⟨0x3b0001c, 31, 0⟩
def rCIR_IADDR : Nat := 0x3b00020
def fCIR_IADDR_ADDR : Fld := ⟨0x3b00020, 31, 0⟩
def rCIR_IDATA : Nat := 0x3b00024
def fCIR_IDATA_DATA : Fld := ⟨0x3b00024, 31, 0⟩
def rCIR_CMD : Nat := 0x3b00030
def fCIR_CMD_SNAP : Fld := ⟨0x3b00030, 0, 0⟩
def rCIR_CNT_TILES : Nat := 0x3b00040
def fCIR_CNT_TILES_V : Fld := ⟨0x3b00040, 31, 0⟩
def rCIR_CNT_BATCHES : Nat := 0x3b00044
def fCIR_CNT_BATCHES_V : Fld := ⟨0x3b00044, 31, 0⟩
def rCIR_CNT_LATE : Nat := 0x3b00048
def fCIR_CNT_LATE_V : Fld := ⟨0x3b00048, 31, 0⟩
def rCIR_CNT_LATE_EVT : Nat := 0x3b0004c
def fCIR_CNT_LATE_EVT_V : Fld := ⟨0x3b0004c, 31, 0⟩
def rCIR_CNT_RING_FULL : Nat := 0x3b00050
def fCIR_CNT_RING_FULL_V : Fld := ⟨0x3b00050, 31, 0⟩
def rCIR_CNT_BYPASS : Nat := 0x3b00054
def fCIR_CNT_BYPASS_V : Fld := ⟨0x3b00054, 31, 0⟩
def rCIR_CNT_STOP_ERR : Nat := 0x3b00058
def fCIR_CNT_STOP_ERR_V : Fld := ⟨0x3b00058, 31, 0⟩
def rCIR_CNT_RESTART : Nat := 0x3b0005c
def fCIR_CNT_RESTART_V : Fld := ⟨0x3b0005c, 31, 0⟩
def rTWN_CTRL : Nat := 0x3a00000
def fTWN_CTRL_ENABLE : Fld := ⟨0x3a00000, 0, 0⟩
def fTWN_CTRL_AUTO_CLAIM : Fld := ⟨0x3a00000, 1, 1⟩
def fTWN_CTRL_AUTO_JOIN : Fld := ⟨0x3a00000, 2, 2⟩
def fTWN_CTRL_FAULT_HANDOVER : Fld := ⟨0x3a00000, 3, 3⟩
def fTWN_CTRL_WITNESS_EN : Fld := ⟨0x3a00000, 4, 4⟩
def rTWN_STATUS : Nat := 0x3a00004
def fTWN_STATUS_ROLE : Fld := ⟨0x3a00004, 2, 0⟩
def fTWN_STATUS_LINK_UP : Fld := ⟨0x3a00004, 3, 3⟩
def fTWN_STATUS_HB_IN : Fld := ⟨0x3a00004, 6, 4⟩
def fTWN_STATUS_LEASE_VALID : Fld := ⟨0x3a00004, 7, 7⟩
def fTWN_STATUS_WITNESS_OK : Fld := ⟨0x3a00004, 8, 8⟩
def fTWN_STATUS_PAIRED : Fld := ⟨0x3a00004, 9, 9⟩
def fTWN_STATUS_STALE : Fld := ⟨0x3a00004, 10, 10⟩
def rTWN_GEN : Nat := 0x3a00008
def fTWN_GEN_V : Fld := ⟨0x3a00008, 31, 0⟩
def rTWN_MSEQ_LO : Nat := 0x3a0000c
def fTWN_MSEQ_LO_V : Fld := ⟨0x3a0000c, 31, 0⟩
def rTWN_MSEQ_HI : Nat := 0x3a00010
def fTWN_MSEQ_HI_V : Fld := ⟨0x3a00010, 15, 0⟩
def rTWN_LAG : Nat := 0x3a00014
def fTWN_LAG_FRAMES : Fld := ⟨0x3a00014, 23, 0⟩
def rTWN_TIMERS : Nat := 0x3a00018
def fTWN_TIMERS_DIGEST_US : Fld := ⟨0x3a00018, 15, 0⟩
def fTWN_TIMERS_STALL_MS : Fld := ⟨0x3a00018, 23, 16⟩
def fTWN_TIMERS_BOOT_S : Fld := ⟨0x3a00018, 31, 24⟩
def rTWN_RESYNC : Nat := 0x3a0001c
def fTWN_RESYNC_MBPS : Fld := ⟨0x3a0001c, 15, 0⟩
def rTWN_WITNESS : Nat := 0x3a00020
def fTWN_WITNESS_PORT : Fld := ⟨0x3a00020, 15, 0⟩
def fTWN_WITNESS_KEY_SLOT : Fld := ⟨0x3a00020, 20, 16⟩
def fTWN_WITNESS_ADDR_IDX : Fld := ⟨0x3a00020, 26, 21⟩
def rTWN_CHMAP_COUNT : Nat := 0x3a00024
def fTWN_CHMAP_COUNT_REGIONS4 : Fld := ⟨0x3a00024, 31, 0⟩
def rTWN_PAIR_LO : Nat := 0x3a00028
def fTWN_PAIR_LO_V : Fld := ⟨0x3a00028, 31, 0⟩
def rTWN_PAIR_HI : Nat := 0x3a0002c
def fTWN_PAIR_HI_V : Fld := ⟨0x3a0002c, 31, 0⟩
def rTWN_IADDR : Nat := 0x3a00030
def fTWN_IADDR_ADDR : Fld := ⟨0x3a00030, 31, 0⟩
def rTWN_IDATA : Nat := 0x3a00034
def fTWN_IDATA_DATA : Fld := ⟨0x3a00034, 31, 0⟩
def rTWN_CMD : Nat := 0x3a00040
def fTWN_CMD_SNAP : Fld := ⟨0x3a00040, 0, 0⟩
def rTWN_CNT_FRAMES : Nat := 0x3a00050
def fTWN_CNT_FRAMES_V : Fld := ⟨0x3a00050, 31, 0⟩
def rTWN_CNT_DIGEST : Nat := 0x3a00054
def fTWN_CNT_DIGEST_V : Fld := ⟨0x3a00054, 31, 0⟩
def rTWN_CNT_DIGEST_SKIP : Nat := 0x3a00058
def fTWN_CNT_DIGEST_SKIP_V : Fld := ⟨0x3a00058, 31, 0⟩
def rTWN_CNT_MISMATCH : Nat := 0x3a0005c
def fTWN_CNT_MISMATCH_DIGEST : Fld := ⟨0x3a0005c, 15, 0⟩
def fTWN_CNT_MISMATCH_RESULT : Fld := ⟨0x3a0005c, 31, 16⟩
def rTWN_CNT_SB_FILL : Nat := 0x3a00060
def fTWN_CNT_SB_FILL_V : Fld := ⟨0x3a00060, 31, 0⟩
def rTWN_CNT_WITNESS : Nat := 0x3a00064
def fTWN_CNT_WITNESS_GRANT : Fld := ⟨0x3a00064, 15, 0⟩
def fTWN_CNT_WITNESS_DENY : Fld := ⟨0x3a00064, 31, 16⟩
def rTWN_CNT_HB_BAD : Nat := 0x3a00068
def fTWN_CNT_HB_BAD_V : Fld := ⟨0x3a00068, 31, 0⟩
def rTWN_CNT_TAKEOVER : Nat := 0x3a0006c
def fTWN_CNT_TAKEOVER_V : Fld := ⟨0x3a0006c, 31, 0⟩
def rBPM_CTRL : Nat := 0xa00000
def fBPM_CTRL_ENABLE : Fld := ⟨0xa00000, 0, 0⟩
def rBPM_STATUS : Nat := 0xa00004
def fBPM_STATUS_READY : Fld := ⟨0xa00004, 0, 0⟩
def fBPM_STATUS_CFG_ERR : Fld := ⟨0xa00004, 1, 1⟩
def fBPM_STATUS_EMPTY : Fld := ⟨0xa00004, 5, 2⟩
def rBPM_POOL_CFG : Nat := 0xa00010
def fBPM_POOL_CFG_COUNT : Fld := ⟨0xa00010, 16, 0⟩
def rBPM_POOL_FREE : Nat := 0xa00020
def fBPM_POOL_FREE_FREE : Fld := ⟨0xa00020, 16, 0⟩
def rBPM_POOL_SHARED : Nat := 0xa00030
def fBPM_POOL_SHARED_SHARED : Fld := ⟨0xa00030, 16, 0⟩
def rBPM_DT : Nat := 0xa00040
def fBPM_DT_ALPHA0 : Fld := ⟨0xa00040, 3, 0⟩
def fBPM_DT_ALPHA1 : Fld := ⟨0xa00040, 7, 4⟩
def fBPM_DT_ALPHA2 : Fld := ⟨0xa00040, 11, 8⟩
def fBPM_DT_ALPHA3 : Fld := ⟨0xa00040, 15, 12⟩
def rBPM_PFC : Nat := 0xa00044
def fBPM_PFC_XOFF : Fld := ⟨0xa00044, 7, 0⟩
def fBPM_PFC_XON : Fld := ⟨0xa00044, 15, 8⟩
def rBPM_HDRM : Nat := 0xa00050
def fBPM_HDRM_BUFFERS : Fld := ⟨0xa00050, 16, 0⟩
def rBPM_BADRET : Nat := 0xa00060
def fBPM_BADRET_ADDR : Fld := ⟨0xa00060, 26, 0⟩
def fBPM_BADRET_CAUSE : Fld := ⟨0xa00060, 28, 27⟩
def rBPM_BADRET_OWNER : Nat := 0xa00064
def fBPM_BADRET_OWNER_OWNER : Fld := ⟨0xa00064, 6, 0⟩
def rBPM_IADDR : Nat := 0xa00070
def fBPM_IADDR_ADDR : Fld := ⟨0xa00070, 31, 0⟩
def rBPM_IDATA : Nat := 0xa00074
def fBPM_IDATA_DATA : Fld := ⟨0xa00074, 31, 0⟩
def rBPM_CMD : Nat := 0xa00080
def fBPM_CMD_SNAP : Fld := ⟨0xa00080, 0, 0⟩
def rBPM_CNT_GRANT : Nat := 0xa00090
def fBPM_CNT_GRANT_V : Fld := ⟨0xa00090, 31, 0⟩
def rBPM_CNT_UPSIZE : Nat := 0xa000a0
def fBPM_CNT_UPSIZE_V : Fld := ⟨0xa000a0, 31, 0⟩
def rBPM_CNT_WAIT : Nat := 0xa000a4
def fBPM_CNT_WAIT_V : Fld := ⟨0xa000a4, 31, 0⟩
def rBPM_CNT_DROP_LOSSY : Nat := 0xa000a8
def fBPM_CNT_DROP_LOSSY_V : Fld := ⟨0xa000a8, 31, 0⟩
def rBPM_CNT_DROP_HDRM : Nat := 0xa000ac
def fBPM_CNT_DROP_HDRM_V : Fld := ⟨0xa000ac, 31, 0⟩
def rBPM_CNT_BADRET : Nat := 0xa000b0
def fBPM_CNT_BADRET_V : Fld := ⟨0xa000b0, 31, 0⟩
def rBPM_CNT_HDRM_USE : Nat := 0xa000b4
def fBPM_CNT_HDRM_USE_V : Fld := ⟨0xa000b4, 31, 0⟩
def rINT_CTRL : Nat := 0x400000
def fINT_CTRL_ENABLE : Fld := ⟨0x400000, 0, 0⟩
def fINT_CTRL_MODE : Fld := ⟨0x400000, 1, 1⟩
def rINT_STATUS : Nat := 0x400004
def fINT_STATUS_SIGNALLING : Fld := ⟨0x400004, 20, 0⟩
def rINT_SWSET : Nat := 0x400008
def fINT_SWSET_SOURCE : Fld := ⟨0x400008, 11, 0⟩
def rINT_CMD : Nat := 0x400030
def fINT_CMD_SNAP : Fld := ⟨0x400030, 0, 0⟩
def rINT_CNT_OFFER : Nat := 0x400040
def fINT_CNT_OFFER_V : Fld := ⟨0x400040, 31, 0⟩
def rINT_CNT_SPURIOUS : Nat := 0x400044
def fINT_CNT_SPURIOUS_V : Fld := ⟨0x400044, 31, 0⟩
def rINT_CNT_STRAY : Nat := 0x400048
def fINT_CNT_STRAY_V : Fld := ⟨0x400048, 31, 0⟩
def rINT_CNT_SATURATED : Nat := 0x40004c
def fINT_CNT_SATURATED_V : Fld := ⟨0x40004c, 31, 0⟩
def rINT_TGT_CFG : Nat := 0x400100
def fINT_TGT_CFG_EN : Fld := ⟨0x400100, 0, 0⟩
def fINT_TGT_CFG_SPLIT : Fld := ⟨0x400100, 4, 1⟩
def fINT_TGT_CFG_HALF : Fld := ⟨0x400100, 5, 5⟩
def rINT_CLAIM : Nat := 0x400104
def fINT_CLAIM_SOURCE : Fld := ⟨0x400104, 11, 0⟩
def fINT_CLAIM_COUNT : Fld := ⟨0x400104, 23, 12⟩
def fINT_CLAIM_PRIO : Fld := ⟨0x400104, 31, 24⟩
def rINT_COMPLETE : Nat := 0x400108
def fINT_COMPLETE_SOURCE : Fld := ⟨0x400108, 11, 0⟩
def rINT_TGT_STATUS : Nat := 0x40010c
def fINT_TGT_STATUS_ACTIVE : Fld := ⟨0x40010c, 3, 0⟩
def fINT_TGT_STATUS_RUNNING : Fld := ⟨0x40010c, 12, 4⟩
def fINT_TGT_STATUS_SIGNALLED : Fld := ⟨0x40010c, 13, 13⟩
def rINT_SRC : Nat := 0x404000
def fINT_SRC_PRIO : Fld := ⟨0x404000, 7, 0⟩
def fINT_SRC_MASK : Fld := ⟨0x404000, 8, 8⟩
def fINT_SRC_CLASS : Fld := ⟨0x404000, 9, 9⟩
def fINT_SRC_PEND : Fld := ⟨0x404000, 10, 10⟩
def fINT_SRC_ACTIVE : Fld := ⟨0x404000, 11, 11⟩
def fINT_SRC_TARGET : Fld := ⟨0x404000, 16, 12⟩
def fINT_SRC_COUNT : Fld := ⟨0x404000, 28, 17⟩
def rINT_SRC_TGT : Nat := 0x404004
def fINT_SRC_TGT_TGT_EN : Fld := ⟨0x404004, 20, 0⟩
def rSUP_CTRL : Nat := 0x100000
def fSUP_CTRL_AUTO_ON : Fld := ⟨0x100000, 0, 0⟩
def fSUP_CTRL_RESTART : Fld := ⟨0x100000, 1, 1⟩
def fSUP_CTRL_MARGIN_EN : Fld := ⟨0x100000, 2, 2⟩
def rSUP_STATUS : Nat := 0x100004
def fSUP_STATUS_SEQ : Fld := ⟨0x100004, 2, 0⟩
def fSUP_STATUS_ON_LATCHED : Fld := ⟨0x100004, 3, 3⟩
def fSUP_STATUS_RAIL_FAIL : Fld := ⟨0x100004, 4, 4⟩
def fSUP_STATUS_DISCHARGE_FAIL : Fld := ⟨0x100004, 5, 5⟩
def fSUP_STATUS_SUPPLY_BAD : Fld := ⟨0x100004, 6, 6⟩
def rSUP_TICK : Nat := 0x100008
def fSUP_TICK_TICK : Fld := ⟨0x100008, 15, 0⟩
def rSUP_BTN : Nat := 0x10000c
def fSUP_BTN_LONG_S : Fld := ⟨0x10000c, 7, 0⟩
def fSUP_BTN_VLONG_S : Fld := ⟨0x10000c, 15, 8⟩
def fSUP_BTN_DEBOUNCE_MS : Fld := ⟨0x10000c, 23, 16⟩
def rSUP_VBTN : Nat := 0x100010
def fSUP_VBTN_PRESS : Fld := ⟨0x100010, 1, 0⟩
def rSUP_MARGIN : Nat := 0x100014
def fSUP_MARGIN_RAIL : Fld := ⟨0x100014, 4, 0⟩
def fSUP_MARGIN_DIR : Fld := ⟨0x100014, 6, 5⟩
def fSUP_MARGIN_GO : Fld := ⟨0x100014, 7, 7⟩
def rSUP_CMD : Nat := 0x100030
def fSUP_CMD_SNAP : Fld := ⟨0x100030, 0, 0⟩
def rSUP_CNT_FAIL : Nat := 0x100040
def fSUP_CNT_FAIL_RAIL : Fld := ⟨0x100040, 15, 0⟩
def fSUP_CNT_FAIL_DISCHARGE : Fld := ⟨0x100040, 31, 16⟩
def rSUP_CNT_BTN : Nat := 0x100044
def fSUP_CNT_BTN_PRESSES : Fld := ⟨0x100044, 15, 0⟩
def fSUP_CNT_BTN_REFUSED : Fld := ⟨0x100044, 31, 16⟩
def rSUP_RAIL_TIME : Nat := 0x100100
def fSUP_RAIL_TIME_ON_TICK : Fld := ⟨0x100100, 15, 0⟩
def fSUP_RAIL_TIME_OFF_TICK : Fld := ⟨0x100100, 31, 16⟩
def rSUP_RAIL_DEP : Nat := 0x100104
def fSUP_RAIL_DEP_DEP : Fld := ⟨0x100104, 23, 0⟩
def rSUP_RAIL_CFG : Nat := 0x100108
def fSUP_RAIL_CFG_KIND : Fld := ⟨0x100108, 1, 0⟩
def fSUP_RAIL_CFG_FATAL : Fld := ⟨0x100108, 2, 2⟩
def fSUP_RAIL_CFG_KEEP_SB : Fld := ⟨0x100108, 3, 3⟩
def fSUP_RAIL_CFG_HD_OF : Fld := ⟨0x100108, 8, 4⟩
def fSUP_RAIL_CFG_PMBUS_ADDR : Fld := ⟨0x100108, 15, 9⟩
def fSUP_RAIL_CFG_PG_MS : Fld := ⟨0x100108, 23, 16⟩
def fSUP_RAIL_CFG_VID_LEVEL : Fld := ⟨0x100108, 24, 24⟩
def rSUP_RAIL_STATE : Nat := 0x10010c
def fSUP_RAIL_STATE_STATE : Fld := ⟨0x10010c, 2, 0⟩
def fSUP_RAIL_STATE_EN : Fld := ⟨0x10010c, 3, 3⟩
def fSUP_RAIL_STATE_PG : Fld := ⟨0x10010c, 4, 4⟩
def rSUP_MON_VAL : Nat := 0x100400
def fSUP_MON_VAL_VALUE : Fld := ⟨0x100400, 11, 0⟩
def fSUP_MON_VAL_FAULTY : Fld := ⟨0x100400, 12, 12⟩
def fSUP_MON_VAL_ALARM : Fld := ⟨0x100400, 13, 13⟩
def rSUP_MON_THR : Nat := 0x100404
def fSUP_MON_THR_LO : Fld := ⟨0x100404, 11, 0⟩
def fSUP_MON_THR_HI : Fld := ⟨0x100404, 27, 16⟩
def rSUP_MON_CFG : Nat := 0x100408
def fSUP_MON_CFG_COUNT : Fld := ⟨0x100408, 3, 0⟩
def fSUP_MON_CFG_ALARM_EN : Fld := ⟨0x100408, 4, 4⟩
def rPWR_CTRL : Nat := 0x300000
def fPWR_CTRL_TRIM_EN : Fld := ⟨0x300000, 0, 0⟩
def fPWR_CTRL_FCHG_EN : Fld := ⟨0x300000, 1, 1⟩
def rPWR_STATUS : Nat := 0x300004
def fPWR_STATUS_STATE : Fld := ⟨0x300004, 2, 0⟩
def fPWR_STATUS_CHANGING : Fld := ⟨0x300004, 3, 3⟩
def rPWR_TRIM : Nat := 0x300008
def fPWR_TRIM_ENTER : Fld := ⟨0x300008, 7, 0⟩
def fPWR_TRIM_EXIT : Fld := ⟨0x300008, 15, 8⟩
def fPWR_TRIM_HOLD : Fld := ⟨0x300008, 23, 16⟩
def fPWR_TRIM_WIN_MS : Fld := ⟨0x300008, 31, 24⟩
def rPWR_DOMAIN_ON0 : Nat := 0x300010
def fPWR_DOMAIN_ON0_V : Fld := ⟨0x300010, 31, 0⟩
def rPWR_DOMAIN_ON1 : Nat := 0x300014
def fPWR_DOMAIN_ON1_V : Fld := ⟨0x300014, 31, 0⟩
def rPWR_DOMAIN_ON2 : Nat := 0x300018
def fPWR_DOMAIN_ON2_V : Fld := ⟨0x300018, 31, 0⟩
def rPWR_BASE : Nat := 0x300020
def fPWR_BASE_W : Fld := ⟨0x300020, 15, 0⟩
def rPWR_K : Nat := 0x300024
def fPWR_K_K : Fld := ⟨0x300024, 9, 0⟩
def rPWR_P_CHIP : Nat := 0x300028
def fPWR_P_CHIP_W : Fld := ⟨0x300028, 15, 0⟩
def rPWR_ENERGY : Nat := 0x30002c
def fPWR_ENERGY_CKPT_MIN : Fld := ⟨0x30002c, 7, 0⟩
def rPWR_CMD : Nat := 0x300030
def fPWR_CMD_SNAP : Fld := ⟨0x300030, 0, 0⟩
def rPWR_IADDR : Nat := 0x300040
def fPWR_IADDR_ADDR : Fld := ⟨0x300040, 31, 0⟩
def rPWR_IDATA : Nat := 0x300044
def fPWR_IDATA_DATA : Fld := ⟨0x300044, 31, 0⟩
def rPWR_CNT_TRIM : Nat := 0x300050
def fPWR_CNT_TRIM_ENTER : Fld := ⟨0x300050, 15, 0⟩
def fPWR_CNT_TRIM_EXIT : Fld := ⟨0x300050, 31, 16⟩
def rPWR_CNT_FCHG : Nat := 0x300054
def fPWR_CNT_FCHG_V : Fld := ⟨0x300054, 31, 0⟩
def rPWR_CNT_K_CLAMP : Nat := 0x300058
def fPWR_CNT_K_CLAMP_V : Fld := ⟨0x300058, 31, 0⟩
def rCRU_STATUS : Nat := 0x200000
def fCRU_STATUS_REF_OK : Fld := ⟨0x200000, 3, 0⟩
def fCRU_STATUS_PLL_LOCK : Fld := ⟨0x200000, 8, 4⟩
def fCRU_STATUS_XTAL_OK : Fld := ⟨0x200000, 9, 9⟩
def fCRU_STATUS_UNCLEAN : Fld := ⟨0x200000, 10, 10⟩
def rCRU_RST_CAUSE : Nat := 0x200004
def fCRU_RST_CAUSE_KIND : Fld := ⟨0x200004, 3, 0⟩
def fCRU_RST_CAUSE_DRAM_KEPT : Fld := ⟨0x200004, 4, 4⟩
def fCRU_RST_CAUSE_AFTER_VAULT : Fld := ⟨0x200004, 5, 5⟩
def fCRU_RST_CAUSE_WDT : Fld := ⟨0x200004, 11, 6⟩
def rCRU_START : Nat := 0x200008
def fCRU_START_STEP : Fld := ⟨0x200008, 3, 0⟩
def fCRU_START_FAILED : Fld := ⟨0x200008, 4, 4⟩
def rCRU_START_MS : Nat := 0x20000c
def fCRU_START_MS_MS : Fld := ⟨0x20000c, 15, 0⟩
def rCRU_WDT : Nat := 0x200010
def fCRU_WDT_PERIOD_MS : Fld := ⟨0x200010, 15, 0⟩
def rCRU_WDT_FEED : Nat := 0x200014
def fCRU_WDT_FEED_KEY : Fld := ⟨0x200014, 15, 0⟩
def rCRU_BRST : Nat := 0x200018
def fCRU_BRST_BLOCK : Fld := ⟨0x200018, 5, 0⟩
def fCRU_BRST_GO : Fld := ⟨0x200018, 31, 31⟩
def rCRU_CMD : Nat := 0x200030
def fCRU_CMD_SNAP : Fld := ⟨0x200030, 0, 0⟩
def rCRU_CNT_RESET : Nat := 0x200040
def fCRU_CNT_RESET_PIN : Fld := ⟨0x200040, 15, 0⟩
def fCRU_CNT_RESET_WDT : Fld := ⟨0x200040, 31, 16⟩
def rCRU_CNT_BRST : Nat := 0x200044
def fCRU_CNT_BRST_DONE : Fld := ⟨0x200044, 15, 0⟩
def fCRU_CNT_BRST_REFUSED : Fld := ⟨0x200044, 31, 16⟩
def rCRU_CNT_REFLOSS : Nat := 0x200048
def fCRU_CNT_REFLOSS_V : Fld := ⟨0x200048, 31, 0⟩
def rCRU_CNT_PIN_IGN : Nat := 0x20004c
def fCRU_CNT_PIN_IGN_V : Fld := ⟨0x20004c, 31, 0⟩
def rRGC_STATUS : Nat := 0x700000
def fRGC_STATUS_READY : Fld := ⟨0x700000, 0, 0⟩
def fRGC_STATUS_NO_IMAGE : Fld := ⟨0x700000, 1, 1⟩
def fRGC_STATUS_HALTED : Fld := ⟨0x700000, 2, 2⟩
def fRGC_STATUS_FW_BANK : Fld := ⟨0x700000, 3, 3⟩
def fRGC_STATUS_FW_CONFIRMED : Fld := ⟨0x700000, 4, 4⟩
def rRGC_IMAGE : Nat := 0x700004
def fRGC_IMAGE_COPY : Fld := ⟨0x700004, 0, 0⟩
def fRGC_IMAGE_SEAL_FAIL_A : Fld := ⟨0x700004, 1, 1⟩
def fRGC_IMAGE_SEAL_FAIL_B : Fld := ⟨0x700004, 2, 2⟩
def fRGC_IMAGE_CAUSE : Fld := ⟨0x700004, 6, 3⟩
def rRGC_IMAGE_SEQ : Nat := 0x700008
def fRGC_IMAGE_SEQ_V : Fld := ⟨0x700008, 31, 0⟩
def rRGC_IMAGE_FLOOR : Nat := 0x70000c
def fRGC_IMAGE_FLOOR_V : Fld := ⟨0x70000c, 31, 0⟩
def rRGC_FW_VER : Nat := 0x700010
def fRGC_FW_VER_V : Fld := ⟨0x700010, 31, 0⟩
def rRGC_MB_DOORBELL : Nat := 0x700020
def fRGC_MB_DOORBELL_SLOT : Fld := ⟨0x700020, 3, 0⟩
def rRGC_MB_STATUS : Nat := 0x700024
def fRGC_MB_STATUS_DONE : Fld := ⟨0x700024, 15, 0⟩
def fRGC_MB_STATUS_RESTARTED : Fld := ⟨0x700024, 16, 16⟩
def rRGC_MB_CMD : Nat := 0x700028
def fRGC_MB_CMD_SNAP : Fld := ⟨0x700028, 0, 0⟩
def fRGC_MB_CMD_ACK_RESTART : Fld := ⟨0x700028, 1, 1⟩
def rRGC_IADDR : Nat := 0x700030
def fRGC_IADDR_ADDR : Fld := ⟨0x700030, 31, 0⟩
def rRGC_IDATA : Nat := 0x700034
def fRGC_IDATA_DATA : Fld := ⟨0x700034, 31, 0⟩
def rRGC_CNT_SVC : Nat := 0x700040
def fRGC_CNT_SVC_V : Fld := ⟨0x700040, 31, 0⟩
def rRGC_CNT_LOCKED : Nat := 0x700044
def fRGC_CNT_LOCKED_V : Fld := ⟨0x700044, 31, 0⟩
def rRGC_CNT_REJECT : Nat := 0x700048
def fRGC_CNT_REJECT_DOORBELL : Fld := ⟨0x700048, 15, 0⟩
def fRGC_CNT_REJECT_IMAGE : Fld := ⟨0x700048, 31, 16⟩
def rEFL_STATUS : Nat := 0x600000
def fEFL_STATUS_READY : Fld := ⟨0x600000, 0, 0⟩
def fEFL_STATUS_BUSY0 : Fld := ⟨0x600000, 1, 1⟩
def fEFL_STATUS_BUSY1 : Fld := ⟨0x600000, 2, 2⟩
def fEFL_STATUS_SUSPENDED : Fld := ⟨0x600000, 3, 3⟩
def fEFL_STATUS_SUSPECT : Fld := ⟨0x600000, 4, 4⟩
def rEFL_SUSPECT_COUNT : Nat := 0x600004
def fEFL_SUSPECT_COUNT_COUNT : Fld := ⟨0x600004, 12, 0⟩
def rEFL_LAST_SUSPECT : Nat := 0x600008
def fEFL_LAST_SUSPECT_SECTOR : Fld := ⟨0x600008, 12, 0⟩
def rEFL_FW_PTR : Nat := 0x60000c
def fEFL_FW_PTR_BANK : Fld := ⟨0x60000c, 0, 0⟩
def fEFL_FW_PTR_COUNT : Fld := ⟨0x60000c, 31, 8⟩
def rEFL_CMD : Nat := 0x600030
def fEFL_CMD_SNAP : Fld := ⟨0x600030, 0, 0⟩
def rEFL_CNT_PROG : Nat := 0x600040
def fEFL_CNT_PROG_V : Fld := ⟨0x600040, 31, 0⟩
def rEFL_CNT_ERASE : Nat := 0x600044
def fEFL_CNT_ERASE_V : Fld := ⟨0x600044, 31, 0⟩
def rEFL_CNT_SUSPEND : Nat := 0x600048
def fEFL_CNT_SUSPEND_V : Fld := ⟨0x600048, 31, 0⟩
def rEFL_CNT_CORR : Nat := 0x60004c
def fEFL_CNT_CORR_CORRECTED : Fld := ⟨0x60004c, 15, 0⟩
def fEFL_CNT_CORR_UNCORR : Fld := ⟨0x60004c, 31, 16⟩
def rEFL_CNT_DOUBLE : Nat := 0x600050
def fEFL_CNT_DOUBLE_V : Fld := ⟨0x600050, 31, 0⟩
def rDBK_CTRL : Nat := 0x600100
def fDBK_CTRL_AUTO : Fld := ⟨0x600100, 0, 0⟩
def rDBK_CURSOR : Nat := 0x600104
def fDBK_CURSOR_SLOT : Fld := ⟨0x600104, 14, 0⟩
def rDBK_HEAD : Nat := 0x600108
def fDBK_HEAD_SLOT : Fld := ⟨0x600108, 14, 0⟩
def rDBK_SEQ_LO : Nat := 0x60010c
def fDBK_SEQ_LO_V : Fld := ⟨0x60010c, 31, 0⟩
def rDBK_SEQ_HI : Nat := 0x600110
def fDBK_SEQ_HI_V : Fld := ⟨0x600110, 15, 0⟩
def rDBK_QUEUE : Nat := 0x600114
def fDBK_QUEUE_COUNT : Fld := ⟨0x600114, 6, 0⟩
def rDBK_WIN_STATUS : Nat := 0x600118
def fDBK_WIN_STATUS_VALID : Fld := ⟨0x600118, 0, 0⟩
def fDBK_WIN_STATUS_ERASED : Fld := ⟨0x600118, 1, 1⟩
def fDBK_WIN_STATUS_SUSPECT : Fld := ⟨0x600118, 2, 2⟩
def fDBK_WIN_STATUS_BROKEN : Fld := ⟨0x600118, 3, 3⟩
def rDBK_CNT_WRITTEN : Nat := 0x600130
def fDBK_CNT_WRITTEN_V : Fld := ⟨0x600130, 31, 0⟩
def rDBK_CNT_DROPPED : Nat := 0x600134
def fDBK_CNT_DROPPED_V : Fld := ⟨0x600134, 31, 0⟩
def rDBK_WIN : Nat := 0x600140
def fDBK_WIN_V : Fld := ⟨0x600140, 31, 0⟩
def rSEC_STATUS : Nat := 0x500000
def fSEC_STATUS_LIFECYCLE : Fld := ⟨0x500000, 1, 0⟩
def fSEC_STATUS_LEVEL : Fld := ⟨0x500000, 3, 2⟩
def fSEC_STATUS_SEED_ROW : Fld := ⟨0x500000, 4, 4⟩
def fSEC_STATUS_SEED_BAD : Fld := ⟨0x500000, 5, 5⟩
def fSEC_STATUS_PROV_EXHAUSTED : Fld := ⟨0x500000, 6, 6⟩
def fSEC_STATUS_LOCKOUT : Fld := ⟨0x500000, 7, 7⟩
def fSEC_STATUS_CHAL_VALID : Fld := ⟨0x500000, 8, 8⟩
def rSEC_UNLOCK : Nat := 0x500010
def fSEC_UNLOCK_PURPOSE : Fld := ⟨0x500010, 1, 0⟩
def fSEC_UNLOCK_CHALLENGE : Fld := ⟨0x500010, 8, 8⟩
def fSEC_UNLOCK_SUBMIT : Fld := ⟨0x500010, 9, 9⟩
def fSEC_UNLOCK_RELOCK : Fld := ⟨0x500010, 10, 10⟩
def fSEC_UNLOCK_BUSY : Fld := ⟨0x500010, 11, 11⟩
def rSEC_PROVISION : Nat := 0x500014
def fSEC_PROVISION_COMMIT : Fld := ⟨0x500014, 0, 0⟩
def fSEC_PROVISION_RESULT : Fld := ⟨0x500014, 7, 4⟩
def rSEC_CHAL0 : Nat := 0x500020
def fSEC_CHAL0_V : Fld := ⟨0x500020, 31, 0⟩
def rSEC_CHAL1 : Nat := 0x500024
def fSEC_CHAL1_V : Fld := ⟨0x500024, 31, 0⟩
def rSEC_CHAL2 : Nat := 0x500028
def fSEC_CHAL2_V : Fld := ⟨0x500028, 31, 0⟩
def rSEC_CHAL3 : Nat := 0x50002c
def fSEC_CHAL3_V : Fld := ⟨0x50002c, 31, 0⟩
def rSEC_RESP0 : Nat := 0x500030
def fSEC_RESP0_V : Fld := ⟨0x500030, 31, 0⟩
def rSEC_RESP1 : Nat := 0x500034
def fSEC_RESP1_V : Fld := ⟨0x500034, 31, 0⟩
def rSEC_RESP2 : Nat := 0x500038
def fSEC_RESP2_V : Fld := ⟨0x500038, 31, 0⟩
def rSEC_RESP3 : Nat := 0x50003c
def fSEC_RESP3_V : Fld := ⟨0x50003c, 31, 0⟩
def rSEC_SEED0 : Nat := 0x500040
def fSEC_SEED0_V : Fld := ⟨0x500040, 31, 0⟩
def rSEC_SEED1 : Nat := 0x500044
def fSEC_SEED1_V : Fld := ⟨0x500044, 31, 0⟩
def rSEC_SEED2 : Nat := 0x500048
def fSEC_SEED2_V : Fld := ⟨0x500048, 31, 0⟩
def rSEC_SEED3 : Nat := 0x50004c
def fSEC_SEED3_V : Fld := ⟨0x50004c, 31, 0⟩
def rSEC_SEED4 : Nat := 0x500050
def fSEC_SEED4_V : Fld := ⟨0x500050, 31, 0⟩
def rSEC_SEED5 : Nat := 0x500054
def fSEC_SEED5_V : Fld := ⟨0x500054, 31, 0⟩
def rSEC_SEED6 : Nat := 0x500058
def fSEC_SEED6_V : Fld := ⟨0x500058, 31, 0⟩
def rSEC_SEED7 : Nat := 0x50005c
def fSEC_SEED7_V : Fld := ⟨0x50005c, 31, 0⟩
def rSEC_CMD : Nat := 0x500060
def fSEC_CMD_SNAP : Fld := ⟨0x500060, 0, 0⟩
def rSEC_CNT_UNLOCK : Nat := 0x500070
def fSEC_CNT_UNLOCK_GRANTED : Fld := ⟨0x500070, 15, 0⟩
def fSEC_CNT_UNLOCK_FAILED : Fld := ⟨0x500070, 31, 16⟩
def rSEC_CNT_DENIED : Nat := 0x500074
def fSEC_CNT_DENIED_V : Fld := ⟨0x500074, 31, 0⟩
def rKCE_STATUS : Nat := 0x501000
def fKCE_STATUS_READY : Fld := ⟨0x501000, 0, 0⟩
def fKCE_STATUS_QUEUED : Fld := ⟨0x501000, 7, 1⟩
def fKCE_STATUS_SUSPENDED : Fld := ⟨0x501000, 8, 8⟩
def fKCE_STATUS_FULL : Fld := ⟨0x501000, 9, 9⟩
def rKCE_SLOT_VALID : Nat := 0x501004
def fKCE_SLOT_VALID_V : Fld := ⟨0x501004, 31, 0⟩
def rKCE_CNT_REQ : Nat := 0x501040
def fKCE_CNT_REQ_V : Fld := ⟨0x501040, 31, 0⟩
def rKCE_CNT_FAIL : Nat := 0x501044
def fKCE_CNT_FAIL_MISMATCH : Fld := ⟨0x501044, 15, 0⟩
def fKCE_CNT_FAIL_NO_KEY : Fld := ⟨0x501044, 31, 16⟩
def rKCE_CNT_SUSPEND : Nat := 0x501048
def fKCE_CNT_SUSPEND_V : Fld := ⟨0x501048, 31, 0⟩
def rKCE_SLOT_LABEL_LO : Nat := 0x501100
def fKCE_SLOT_LABEL_LO_V : Fld := ⟨0x501100, 31, 0⟩
def rKCE_SLOT_LABEL_HI : Nat := 0x501104
def fKCE_SLOT_LABEL_HI_V : Fld := ⟨0x501104, 31, 0⟩
def rKCE_SLOT_CFG : Nat := 0x501200
def fKCE_SLOT_CFG_LEN256 : Fld := ⟨0x501200, 0, 0⟩
def fKCE_SLOT_CFG_MAC_OUT : Fld := ⟨0x501200, 1, 1⟩
def rSBB_STATUS : Nat := 0x800000
def fSBB_STATUS_STUCK : Fld := ⟨0x800000, 3, 0⟩
def fSBB_STATUS_BUSY : Fld := ⟨0x800000, 7, 4⟩
def rSBB_CMD : Nat := 0x800030
def fSBB_CMD_SNAP : Fld := ⟨0x800030, 0, 0⟩
def rSBB_CH_CFG : Nat := 0x800100
def fSBB_CH_CFG_EN : Fld := ⟨0x800100, 0, 0⟩
def fSBB_CH_CFG_SPEED : Fld := ⟨0x800100, 2, 1⟩
def fSBB_CH_CFG_FILT : Fld := ⟨0x800100, 7, 3⟩
def fSBB_CH_CFG_SOLE : Fld := ⟨0x800100, 8, 8⟩
def fSBB_CH_CFG_ATTN_EN : Fld := ⟨0x800100, 9, 9⟩
def fSBB_CH_CFG_PEC : Fld := ⟨0x800100, 10, 10⟩
def fSBB_CH_CFG_RETRIES : Fld := ⟨0x800100, 13, 11⟩
def rSBB_CH_STATE : Nat := 0x800104
def fSBB_CH_STATE_STATE : Fld := ⟨0x800104, 2, 0⟩
def fSBB_CH_STATE_SCL : Fld := ⟨0x800104, 3, 3⟩
def fSBB_CH_STATE_SDA : Fld := ⟨0x800104, 4, 4⟩
def fSBB_CH_STATE_LAST_ATTN : Fld := ⟨0x800104, 11, 5⟩
def rSBB_CH_CNT_XFER : Nat := 0x800108
def fSBB_CH_CNT_XFER_V : Fld := ⟨0x800108, 31, 0⟩
def rSBB_CH_CNT_ERR : Nat := 0x80010c
def fSBB_CH_CNT_ERR_NACK : Fld := ⟨0x80010c, 15, 0⟩
def fSBB_CH_CNT_ERR_TIMEOUT : Fld := ⟨0x80010c, 31, 16⟩
def rSBB_CH_CNT_ARB : Nat := 0x800110
def fSBB_CH_CNT_ARB_LOST : Fld := ⟨0x800110, 15, 0⟩
def fSBB_CH_CNT_ARB_ATTN : Fld := ⟨0x800110, 31, 16⟩
def rSBB_TGT_CFG : Nat := 0x800200
def fSBB_TGT_CFG_FILT : Fld := ⟨0x800200, 4, 0⟩
def rSBB_TGT_CNT : Nat := 0x800204
def fSBB_TGT_CNT_ACCESS : Fld := ⟨0x800204, 15, 0⟩
def fSBB_TGT_CNT_DROPPED : Fld := ⟨0x800204, 31, 16⟩
def rSBB_TGT_CNT_REFUSED : Nat := 0x800208
def fSBB_TGT_CNT_REFUSED_V : Fld := ⟨0x800208, 31, 0⟩
def rDFT_CTRL : Nat := 0x900000
def fDFT_CTRL_OBS_EN : Fld := ⟨0x900000, 0, 0⟩
def rDFT_LSEL : Nat := 0x900004
def fDFT_LSEL_LANE : Fld := ⟨0x900004, 7, 0⟩
def rDFT_LANE_CTRL : Nat := 0x900008
def fDFT_LANE_CTRL_GEN : Fld := ⟨0x900008, 2, 0⟩
def fDFT_LANE_CTRL_CHK : Fld := ⟨0x900008, 5, 3⟩
def fDFT_LANE_CTRL_LOOP : Fld := ⟨0x900008, 7, 6⟩
def fDFT_LANE_CTRL_INJ : Fld := ⟨0x900008, 8, 8⟩
def rDFT_LANE_STATUS : Nat := 0x90000c
def fDFT_LANE_STATUS_TEST : Fld := ⟨0x90000c, 0, 0⟩
def fDFT_LANE_STATUS_LOCK : Fld := ⟨0x90000c, 1, 1⟩
def fDFT_LANE_STATUS_INVERTED : Fld := ⟨0x90000c, 2, 2⟩
def fDFT_LANE_STATUS_REFUSED : Fld := ⟨0x90000c, 3, 3⟩
def rDFT_USER0 : Nat := 0x900010
def fDFT_USER0_V : Fld := ⟨0x900010, 31, 0⟩
def rDFT_USER1 : Nat := 0x900014
def fDFT_USER1_V : Fld := ⟨0x900014, 31, 0⟩
def rDFT_USER2 : Nat := 0x900018
def fDFT_USER2_V : Fld := ⟨0x900018, 15, 0⟩
def rDFT_IADDR : Nat := 0x900020
def fDFT_IADDR_ADDR : Fld := ⟨0x900020, 31, 0⟩
def rDFT_IDATA : Nat := 0x900024
def fDFT_IDATA_DATA : Fld := ⟨0x900024, 31, 0⟩
def rDFT_CMD : Nat := 0x900030
def fDFT_CMD_SNAP : Fld := ⟨0x900030, 0, 0⟩
def fDFT_CMD_CLR : Fld := ⟨0x900030, 1, 1⟩
def rDFT_DRAM_CTRL : Nat := 0x900040
def fDFT_DRAM_CTRL_CH : Fld := ⟨0x900040, 3, 0⟩
def fDFT_DRAM_CTRL_MODE : Fld := ⟨0x900040, 5, 4⟩
def fDFT_DRAM_CTRL_GO : Fld := ⟨0x900040, 6, 6⟩
def fDFT_DRAM_CTRL_DONE : Fld := ⟨0x900040, 7, 7⟩
def rDFT_DRAM_RES : Nat := 0x900044
def fDFT_DRAM_RES_MISSED : Fld := ⟨0x900044, 15, 0⟩
def fDFT_DRAM_RES_FALSE : Fld := ⟨0x900044, 31, 16⟩
def rDFT_OBS_SEL : Nat := 0x900080
def fDFT_OBS_SEL_A : Fld := ⟨0x900080, 9, 0⟩
def fDFT_OBS_SEL_B : Fld := ⟨0x900080, 25, 16⟩
def rTOP_ID : Nat := 0x0
def fTOP_ID_PART : Fld := ⟨0x0, 15, 0⟩
def fTOP_ID_STEP : Fld := ⟨0x0, 19, 16⟩
def rTOP_UID_LO : Nat := 0x4
def fTOP_UID_LO_V : Fld := ⟨0x4, 31, 0⟩
def rTOP_UID_HI : Nat := 0x8
def fTOP_UID_HI_V : Fld := ⟨0x8, 31, 0⟩
def rTOP_ROM_REV : Nat := 0xc
def fTOP_ROM_REV_REV : Fld := ⟨0xc, 15, 0⟩
def rTOP_STRAP : Nat := 0x10
def fTOP_STRAP_BOOT_SEL : Fld := ⟨0x10, 1, 0⟩
def fTOP_STRAP_VIO_33 : Fld := ⟨0x10, 2, 2⟩
def rTOP_VCORE : Nat := 0x14
def fTOP_VCORE_MV : Fld := ⟨0x14, 7, 0⟩
def rTOP_CMD : Nat := 0x30
def fTOP_CMD_SNAP : Fld := ⟨0x30, 0, 0⟩
def rTOP_CNT_ACCESS : Nat := 0x40
def fTOP_CNT_ACCESS_UNMAPPED : Fld := ⟨0x40, 11, 0⟩
def fTOP_CNT_ACCESS_NARROW : Fld := ⟨0x40, 23, 12⟩
def fTOP_CNT_ACCESS_OFF : Fld := ⟨0x40, 31, 24⟩
def rLANE_IADDR : Nat := 0x3c00020
def fLANE_IADDR_ADDR : Fld := ⟨0x3c00020, 31, 0⟩
def rLANE_IDATA : Nat := 0x3c00024
def fLANE_IDATA_DATA : Fld := ⟨0x3c00024, 31, 0⟩

end Sys2Proof.Machine
end

