-- ==== Sys2Proof/Machine/State.lean ====
section
/-! DEFINITION. The state of the MK1: the commands that wait, what it has sent, its register files and every block.
Every field's default is its value at reset, so State.reset is the record of defaults: the chip right after a Cold
reset, before the start reads an image. -/

namespace Sys2Proof.Machine

/-- A fault of the model. No meaning raises one: every command that the manual describes has its effect. -/
inductive Fault where
  /-- raised by no command; kept so that the type has a name to answer with (safe) -/
  | none
deriving DecidableEq, Repr

/-- A refusal of the model. -/
inductive Refusal where
  /-- an arm that has no meaning yet (safe: nothing can be proved of the command's effect) -/
  | notModelled (mnemonic : String)
deriving DecidableEq, Repr

/-- The whole machine. -/
structure State where
  /-- [the block's queue; reset empty] commands waiting, first in, first out -/
  pending : List Instr := []
  /-- [the model's record; reset empty] everything sent, oldest first -/
  out : List Emit := []
  /-- [the model's clock; reset 0, DESIGN CHOICE] microseconds since reset, which only an idle step advances -/
  timeUs : Nat := 0
  /-- [the model's counter of free values; reset 0, DESIGN CHOICE] -/
  freeCtr : Nat := 0
  /-- [R494, R497; reset per register] the RW fields of every register, by address of the first copy -/
  regs : Tab W32 := []
  /-- [R501; reset 0] live counters, by the address of their SH register -/
  cnt : Tab W32 := []
  /-- [R501; reset 0] the SH copies made by the last SNAP, by address -/
  sh : Tab W32 := []
  /-- [R499; reset 0] IADDR of each requester path, by window address * 4 + path -/
  iaddr : Tab W32 := []
  /-- [the model's hand-over; reset empty] requests that ended and whose transport has yet to form the answer -/
  done : List (Src × Ans) := []
  int : IntSt := {}
  tqm : TqmSt := {}
  epo : EpoSt := {}
  fch : FchSt := {}
  rsv : RsvSt := {}
  lpr : LprSt := {}
  stk : StkSt := {}
  twn : TwnSt := {}
  bpm : BpmSt := {}
  dmc : DmcSt := {}
  dbk : DbkSt := {}
  tvl : TvlSt := {}
  eth : EthSt := {}
  nre : NreSt := {}
  cir : CirSt := {}
  sup : SupSt := {}
  pwr : PwrSt := {}
  cru : CruSt := {}
  rgc : RgcSt := {}
  efl : EflSt := {}
  sec : SecSt := {}
  top : TopSt := {}
  sbb : SbbSt := {}
  dft : DftSt := {}
  /-- [R402; reset 0] client ports are open: the start has ended and nothing has closed them -/
  ports : Bool := false
deriving DecidableEq, Repr

/-- The machine right after a Cold reset. -/
def State.reset : State := {}

end Sys2Proof.Machine
end

