-- ==== Sys2Proof/Machine/Ops.lean ====
section
/-! DEFINITION. The named operations every meaning is written with: registers and counters, interrupt counts, daybook
records, emissions, free values. -/

namespace Sys2Proof.Machine

/-! ### Registers (R493 to R501) -/

/-- The definition and instance offset of the register at an address of the first copy, if a table lists one. -/
def RegDef.covers (d : RegDef) (a : Nat) : Bool :=
  if a < d.addr then false
  else
    let o := a - d.addr
    let i := if d.n1 ≤ 1 then 0 else o / d.s1
    let o2 := if d.n1 ≤ 1 then o else o % d.s1
    if d.n2 ≤ 1 then decide (i < max d.n1 1 ∧ o2 = 0)
    else decide (i < max d.n1 1 ∧ o2 % d.s2 = 0 ∧ o2 / d.s2 < d.n2)

/-- The register at an address of the first copy. -/
def regDefAt (a : Nat) : Option RegDef := regDefs.find? (·.covers a)

/-- The RW bits of a register after an Image reset where no image names it (R497): the default its chapter gives. -/
def regReset (a : Nat) : W32 :=
  if a = rBPM_POOL_CFG then 32768
  else if a = rBPM_POOL_CFG + 4 then 8192
  else if a = rBPM_POOL_CFG + 8 then 2048
  else if a = rBPM_POOL_CFG + 12 then 864
  else match regDefAt a with
    | some d => BitVec.ofNat 32 d.dflt
    | none => 0

/-- The RW fields of a register. -/
def State.reg (s : State) (a : Nat) : W32 := Tab.get regReset s.regs a

/-- Sets the RW fields of a register. -/
def State.setReg (s : State) (a : Nat) (v : W32) : State := { s with regs := Tab.set regReset s.regs a v }

/-- A field of a register. -/
def State.fld (s : State) (f : Fld) : Nat := bitsOf (s.reg f.addr).toNat f.hi f.lo

/-- A one-bit field of a register. -/
def State.flag (s : State) (f : Fld) : Bool := decide (s.fld f ≠ 0)

/-- Sets a field of a register. -/
def State.setFld (s : State) (f : Fld) (v : Nat) : State :=
  s.setReg f.addr (BitVec.ofNat 32 (setBits (s.reg f.addr).toNat f.hi f.lo v))

/-- The live counter behind an SH register. -/
def State.count (s : State) (a : Nat) : W32 := Tab.get (fun _ => 0) s.cnt a

/-- Sets a live counter. -/
def State.setCount (s : State) (a : Nat) (v : W32) : State := { s with cnt := Tab.set (fun _ => 0) s.cnt a v }

/-- Adds to a 32-bit counter, which wraps (R501). -/
def State.bumpBy (s : State) (a n : Nat) : State := s.setCount a (s.count a + BitVec.ofNat 32 n)

/-- Adds 1 to a 32-bit counter. -/
def State.bump (s : State) (a : Nat) : State := s.bumpBy a 1

/-- Adds 1 to a field of a counter register that saturates at its maximum. -/
def State.bumpFld (s : State) (f : Fld) : State :=
  let w := (s.count f.addr).toNat
  s.setCount f.addr (BitVec.ofNat 32 (setBits w f.hi f.lo (satInc (2 ^ (f.hi + 1 - f.lo) - 1) (bitsOf w f.hi f.lo))))

/-! ### Emissions, free values -/

/-- Sends something. -/
def State.emit (s : State) (e : Emit) : State := { s with out := s.out ++ [e] }

/-- Takes the next free value's index. -/
def State.tickFree (s : State) : State := { s with freeCtr := s.freeCtr + 1 }

/-! ### Interrupt counts (R359) -/

/-- A source's record. -/
def State.src (s : State) (n : Nat) : IntSrc := Tab.get (fun _ => {}) s.int.srcs n

/-- Sets a source's record. -/
def State.setSrc (s : State) (n : Nat) (r : IntSrc) : State :=
  { s with int := { s.int with srcs := Tab.set (fun _ => {}) s.int.srcs n r } }

/-- Adds 1 to a Count source without the saturation event. -/
def State.raise0 (s : State) (n : Nat) : State :=
  let r := s.src n
  s.setSrc n { r with cnt := satInc 4095 r.cnt }

/-- One event on a Count source (R359): its counter rises by 1 up to 4,095; when it reaches 4,095, source 0x07D counts
once, except for 0x07D itself. INT_CNT_SATURATED counts the counters that reached 4,095. -/
def State.raise (s : State) (n : Nat) : State :=
  if (s.src n).cnt = 4094 then
    let s1 := (s.raise0 n).bump rINT_CNT_SATURATED
    if n = 0x07D then s1
    else if (s1.src 0x07D).cnt = 4094 then (s1.raise0 0x07D).bump rINT_CNT_SATURATED
    else s1.raise0 0x07D
  else s.raise0 n

/-- Several events on a Count source. -/
def State.raiseN (s : State) (n : Nat) : Nat → State
  | 0 => s
  | k + 1 => (s.raise n).raiseN n k

/-! ### Energy (R390) -/

/-- Charges `n` operations of a kind to a tenant: 0 LOAD_LINE, 1 STORE_LINE, 2 FILL_FOLIO, 3 RESHELVE_FOLIO, 4 MIRROR_LINE,
5 PACKET, 6 TILE. -/
def State.spend (s : State) (tenant kind n : Nat) : State :=
  let k := tenant * 8 + kind
  { s with pwr := { s.pwr with raw := Tab.set (fun _ => 0) s.pwr.raw k (Tab.get (fun _ => 0) s.pwr.raw k + n) } }

/-! ### Daybook (R444, R448) -/

/-- Queues a daybook record, or drops it when 64 are queued (R448). -/
def State.note (s : State) (code : Nat) (words : List Nat) : State :=
  let d := s.dbk
  if d.queue.length < 64 then
    let r : DRec :=
      { code := code
        hours := d.hours
        uptime := (s.timeUs - d.startAt) / 1000
        cycles := d.cycles
        words := (words.map (· % 2 ^ 32)).take 8 }
    { s with dbk := { d with queue := d.queue ++ [r] } }
  else
    let first := if d.dropped = 0 then code else d.firstDropped
    ({ s.raise 0x059 with dbk := { d with dropped := d.dropped + 1, firstDropped := first } }).bump rDBK_CNT_DROPPED

/-- The two words of an item wider than 32 bits, low word first (R445). -/
def words2 (v : Nat) : List Nat := [v % 2 ^ 32, v / 2 ^ 32]

/-! ### Tables of TQM -/

/-- A tenant record (R528): tenant 0x000 is the appliance, always VALID and unlimited. -/
def State.tenant (s : State) (t : Nat) : Tenant :=
  let r := Tab.get (fun _ => {}) s.tqm.tenants t
  if t = 0 then
    { r with
      valid := true
      suspend := false
      pinLim := 0xFFFFFFFF
      cacheLim := 0xFFFFFFFF
      stkLim := 0xFFFFFFFF
      deskLim := 0xFFFFFFFF
      accLim := 0xFFFF
      cirLim := 0xFFF }
  else r

/-- Sets a tenant record; tenant 0xFFF has none. -/
def State.setTenant (s : State) (t : Nat) (r : Tenant) : State :=
  if t = 0xFFF then s else { s with tqm := { s.tqm with tenants := Tab.set (fun _ => {}) s.tqm.tenants t r } }

/-- Places of the tables in the metadata shelf, in folios. DESIGN CHOICE (log 104): R26 names the tables and R48 gives the shelf
table's entries; the order of the tables, and 64 B an object, 128 B a tenant, 32 B a grant or a map, are the model's. -/
def metaObjs : Nat := 32768
def metaTenants : Nat := 49152
def metaGrants : Nat := 49280
def metaMaps : Nat := 49408
def metaRest : Nat := 50432

/-- A folio of the metadata shelf takes a change (R91): DIRTY, or changed again while its copy is being written. -/
def State.metaTouch (s : State) (f : Nat) : State :=
  let v := Tab.get (fun _ => 0) s.fch.metaDirty f
  { s with fch := { s.fch with metaDirty := Tab.set (fun _ => 0) s.fch.metaDirty f (if v ≤ 1 then 1 else 3) } }

def State.obj (s : State) (slot : Nat) : Obj := Tab.get (fun _ => {}) s.tqm.objs slot
def State.setObj (s : State) (slot : Nat) (o : Obj) : State :=
  { s with tqm := { s.tqm with objs := Tab.set (fun _ => {}) s.tqm.objs slot o } }
def State.grant (s : State) (n : Nat) : Grant := Tab.get (fun _ => {}) s.tqm.grants n
def State.setGrant (s : State) (n : Nat) (g : Grant) : State :=
  ({ s with tqm := { s.tqm with grants := Tab.set (fun _ => {}) s.tqm.grants n g } }).metaTouch (metaGrants + n / 128)
def State.window (s : State) (n : Nat) : Window := Tab.get (fun _ => {}) s.tqm.windows n
def State.setWindow (s : State) (n : Nat) (w : Window) : State :=
  { s with tqm := { s.tqm with windows := Tab.set (fun _ => {}) s.tqm.windows n w } }
/-- Map `m` of host context `c` (R31). -/
def State.mapEnt (s : State) (c m : Nat) : MapEnt := Tab.get (fun _ => {}) s.tqm.maps (c * 4096 + m)
def State.setMap (s : State) (c m : Nat) (e : MapEnt) : State :=
  ({ s with tqm := { s.tqm with maps := Tab.set (fun _ => {}) s.tqm.maps (c * 4096 + m) e } }).metaTouch
    (metaMaps + (c * 4096 + m) / 128)
def State.ctx (s : State) (c : Nat) : Ctx := Tab.get (fun _ => {}) s.tqm.ctxs c
def State.setCtx (s : State) (c : Nat) (x : Ctx) : State :=
  { s with tqm := { s.tqm with ctxs := Tab.set (fun _ => {}) s.tqm.ctxs c x } }
def State.shelf (s : State) (n : Nat) : Shelf := Tab.get (fun _ => {}) s.tqm.shelves n
def State.setShelf (s : State) (n : Nat) (h : Shelf) : State :=
  ({ s with tqm := { s.tqm with shelves := Tab.set (fun _ => {}) s.tqm.shelves n h } }).metaTouch (n / 256)

/-- Bits [111:0] of a shelf-table entry (R48). -/
def Shelf.body (e : Shelf) : Nat :=
  e.st % 16 + e.sled % 16 * 2 ^ 4 + e.sledShelf % 2 ^ 19 * 2 ^ 8 + e.tenant % 4096 * 2 ^ 32 + e.object % 2 ^ 36 * 2 ^ 44
    + e.gen % 2 ^ 24 * 2 ^ 80 + e.cls % 4 * 2 ^ 104

/-- The 16 bytes of a shelf-table entry (R48): the fields, then CHECK over bytes 0 to 13. -/
def Shelf.bytes (e : Shelf) : List Byte :=
  let b := leBytes 14 e.body
  b ++ leBytes 2 (crcBytes 0x1021#16 0xFFFF#16 b).toNat

/-- CHECK of the 16 bytes of an entry (R48). -/
def shelfCheck (b : List Byte) : Bool := leNat (b.drop 14) == (crcBytes 0x1021#16 0xFFFF#16 (b.take 14)).toNat

def State.grp (s : State) (n : Nat) : Grp := Tab.get (fun _ => {}) s.tqm.grps n
def State.setGrp (s : State) (n : Nat) (g : Grp) : State :=
  { s with tqm := { s.tqm with grps := Tab.set (fun _ => {}) s.tqm.grps n g } }

/-! ### Streams, ways, links -/

/-- The record of a stream that is not listed: IDLE, with the last epoch and LAST_SSN that R403 may have moved. -/
def EpoSt.blank (e : EpoSt) : Stream := { epoch := e.base.1, lastSsn := e.base.2 }
def State.stream (s : State) (i : Nat) : Stream := Tab.get (fun _ => s.epo.blank) s.epo.streams i
def State.setStream (s : State) (i : Nat) (r : Stream) : State :=
  { s with epo := { s.epo with streams := Tab.set (fun _ => s.epo.blank) s.epo.streams i r } }
def State.way (s : State) (k : Nat) : Way := Tab.get (fun _ => {}) s.fch.dir k
/-- A way as the tag cache holds it, without the write to DRAM (R118). -/
def State.putWay (s : State) (k : Nat) (w : Way) : State :=
  { s with fch := { s.fch with dir := Tab.set (fun _ => {}) s.fch.dir k w } }
def State.pinRsv (s : State) (set : Nat) : Nat := Tab.get (fun _ => 0) s.fch.pinRsv set
def State.putPinRsv (s : State) (set n : Nat) : State :=
  { s with fch := { s.fch with pinRsv := Tab.set (fun _ => 0) s.fch.pinRsv set n } }
def State.link (s : State) (n : Nat) : StkLink := Tab.get (fun _ => {}) s.stk.links n
def State.setLink (s : State) (n : Nat) (l : StkLink) : State :=
  { s with stk := { s.stk with links := Tab.set (fun _ => {}) s.stk.links n l } }

/-! ### Refusals and charges (R42, R43) -/

/-- Counts a refused allocation on a tenant (R43): the refusal counter saturates at 4,095, the reason is kept, the
event-group source and TQM_CNT_QUOTA count. Tenant 0x000 is never refused. -/
def State.refuse (s : State) (t reason : Nat) : State :=
  let r := s.tenant t
  if t = 0 ∨ t = 0xFFF then s.bump rTQM_CNT_QUOTA
  else ((s.setTenant t { r with refusals := satInc 4095 r.refusals, lastReason := reason }).raise (0x3C0 + r.evt)).bump
    rTQM_CNT_QUOTA

/-- A new allocation of `n` units fits under a limit (R47, R528): never while SUSPEND is set; a limit of all ones is
unlimited; and no allocation while usage stands above the limit. -/
def fits (suspend : Bool) (lim inf use n : Nat) : Bool :=
  !suspend && (lim == inf || decide (use + n ≤ lim))

/-! ### Ends -/

/-- The times the model knows: milliseconds. -/
def ms : Nat := 1000

/-- Changes every stream record listed (used where an event touches all of them). -/
def State.mapStreams (s : State) (f : Nat → Stream → Stream) : State :=
  s.epo.streams.foldl (fun s e => s.setStream e.1 (f e.1 (s.stream e.1))) s

/-- Indexes below n, ascending. -/
def upTo (n : Nat) : List Nat := List.range n

/-! ### Lanes under test (R483, R484) -/

def State.lane (s : State) (n : Nat) : DftLane := Tab.get (fun _ => {}) s.dft.lanes n
def State.setLane (s : State) (n : Nat) (l : DftLane) : State :=
  { s with dft := { s.dft with lanes := Tab.set (fun _ => {}) s.dft.lanes n l } }

/-- Lanes [a, a + n) train: TX_FIR and RX_EQ as written no longer hold (R503). -/
def State.laneTrained (s : State) (a n : Nat) : State :=
  { s with dft := { s.dft with phy := Tab.drop (fun k => decide (a ≤ k ∧ k < a + n)) s.dft.phy } }

/-- A lane is in test: GEN, CHK or LOOP is not 0 (R484); LOOP 3 acts as 0. -/
def DftLane.test (l : DftLane) : Bool := l.gen != 0 || l.chk != 0 || l.loop == 1 || l.loop == 2

/-- Some lane of [a, a + n) is in test, so that its owner treats the link as disabled. -/
def State.testing (s : State) (a n : Nat) : Bool :=
  !s.dft.lanes.isEmpty && (upTo n).any (fun i => (s.lane (a + i)).test)

/-- A Tvedfy port is enabled and none of its lanes is in test. -/
def State.tvOn (s : State) (p : Nat) : Bool := s.flag (fTVL_CTRL_ENABLE.plus (0x100000 * p)) && !s.testing (4 * p) 4

/-- A stack link is enabled and its lane is not in test. -/
def State.stkOn (s : State) (n : Nat) : Bool := bitOf (s.fld fSTK_CTRL_LINK_EN) n && !s.testing (112 + n) 1

/-- The twin link is enabled and none of its lanes is in test. -/
def State.twnOn (s : State) : Bool := s.flag fTWN_CTRL_ENABLE && !s.testing 96 16

end Sys2Proof.Machine
end

