-- ==== Sys2Proof/Machine/Flash.lean ====
section
/-! DEFINITION. The embedded flash (R431 to R443) and the daybook's place in it (R444 to R450): code words, the ROM
routine's journals and pointer, settings, records. -/

namespace Sys2Proof.Machine

/-- Code words in a bank (R431). -/
def bankWords : Nat := 786432

/-- Bank of a code word. -/
def wordBank (w : Nat) : Nat := if w < bankWords then 0 else 1

/-- The area of a sector, as the row of R431's table, from 0. -/
def flashArea (sec : Nat) : Nat :=
  ([1024, 1536, 3006, 3007, 3008, 3072, 4096, 4608, 6078, 6079, 6080, 6144].filter (· ≤ sec)).length

/-- Pointer, journal and reserved sectors, which only the ROM's own routines write (R434). -/
def flashOwn (sec : Nat) : Bool := decide (1536 ≤ sec ∧ sec ≤ 3007) || decide (4608 ≤ sec ∧ sec ≤ 6079)

def State.fword (s : State) (w : Nat) : FWord := Tab.get (fun _ => .erased) s.efl.words w
def State.setFword (s : State) (w : Nat) (x : FWord) : State :=
  { s with efl := { s.efl with words := Tab.set (fun _ => .erased) s.efl.words w x } }

def State.fop (s : State) (b : Nat) : FlashOp := if b = 0 then s.efl.op0 else s.efl.op1
def State.setFop (s : State) (b : Nat) (o : FlashOp) : State :=
  if b = 0 then { s with efl := { s.efl with op0 := o } } else { s with efl := { s.efl with op1 := o } }

/-- A word as a read finds it: one whose program or erase was cut short reads as any class, differently each time
(R437), so its class and data are free. -/
def State.readFword (s : State) (w : Nat) : State × FWord :=
  match s.fword w with
  | .torn =>
    let c := (Config.freeWord s.freeCtr).toNat % 3
    let d := (Config.freeLine s.freeCtr).truncate 128
    (s.tickFree, if c = 0 then .erased else if c = 1 then .written d false else .invalid d)
  | x => (s, x)

/-- The bytes of a code word as its class returns them (R432). -/
def FWord.data : FWord → BitVec 128
  | .erased => BitVec.allOnes 128
  | .written d _ => d
  | .invalid d => d
  | .torn => BitVec.allOnes 128

/-- A code word as the ROM reads it, with what R432 counts: answers class and data. -/
def State.romRead (s : State) (w : Nat) : State × FWord :=
  let (s1, x) := s.readFword w
  match x with
  | .written _ true => (s1.bumpFld fEFL_CNT_CORR_CORRECTED, x)
  | .invalid _ => (((s1.bumpFld fEFL_CNT_CORR_UNCORR).raise 0x051).note 0x484 [w * 16], x)
  | _ => (s1, x)

/-- The ROM routine feeds the watchdog (R439). -/
def State.feed (s : State) : State := { s with cru := { s.cru with fedAt := s.timeUs } }

/-- Suspends the erase of a bank (R435). -/
def State.suspend (s : State) (b : Nat) : State :=
  match s.fop b with
  | .erase sec => ({ s.setFop b .none with efl := { (s.setFop b .none).efl with susp := some sec } }).bump rEFL_CNT_SUSPEND
  | _ => s

/-- Programs a code word: one more word programmed; an erase of its bank is suspended (R435) and the watchdog fed (R439). -/
def State.progWord (s : State) (w : Nat) (d : BitVec 128) : State :=
  ((s.suspend (wordBank w)).feed.setFword w (.written d false)).bump rEFL_CNT_PROG

/-- Programs consecutive code words. -/
def State.progWords (s : State) (w : Nat) : List (BitVec 128) → State
  | [] => s
  | d :: t => (s.progWord w d).progWords (w + 1) t

/-- Sets every word of a sector to erased. -/
def State.clearSector (s : State) (sec : Nat) : State :=
  { s with efl := { s.efl with words := Tab.drop (fun w => w / 256 == sec) s.efl.words } }

/-- A 128-bit word from a number. -/
def w128 (n : Nat) : BitVec 128 := BitVec.ofNat 128 n

/-! ### Journals and pointer (R440, R441) -/

/-- A sector-state entry: SECTOR, OP (1 ERASE_OPEN, 2 ERASE_DONE), JSEQ. -/
def jEntry (sec op jseq : Nat) : BitVec 128 := w128 (sec % 65536 + op * 2 ^ 16 + (jseq % 2 ^ 32) * 2 ^ 32)

/-- Appends one entry to the journal sector in use, which has room. -/
def State.jPut (s : State) (sec op : Nat) : State :=
  let e := s.efl
  let s1 := s.progWord (e.jsec * 256 + e.jat) (jEntry sec op e.jseq)
  { s1 with efl := { s1.efl with
    jat := e.jat + 1
    jseq := e.jseq + 1
    opened := if op = 1 then e.opened ++ [sec] else e.opened.filter (· != sec) } }

/-- Appends an entry; a full journal sector is first left for the other (R441). -/
def State.journal (s : State) (sec op : Nat) : State :=
  if s.efl.jat < 256 then s.jPut sec op
  else
    let full := s.efl.jsec
    let open_ := s.efl.opened
    let s1 : State := { s with efl := { s.efl with jsec := 9086 - full, jat := 0, opened := [] } }
    let s2 := open_.foldl (fun s x => s.jPut x 1) s1
    let s3 := (((s2.jPut full 1).clearSector full).bump rEFL_CNT_ERASE).jPut full 2
    s3.jPut sec op

/-- Appends an active-bank pointer entry with COUNT + 1 (R440). -/
def State.pointTo (s : State) (bank version : Nat) : State :=
  let e := s.efl
  let cnt := (e.ptrCount + 1) % 2 ^ 32
  let d := w128 (0x4B4E4142 + bank % 256 * 2 ^ 32 + (255 - bank % 256) * 2 ^ 40 + cnt * 2 ^ 64 + (version % 2 ^ 32) * 2 ^ 96)
  let full := decide (e.pat ≥ 256)
  let sec := if full then 9084 - e.psec else e.psec
  let at_ := if full then 0 else e.pat
  let s1 := s.progWord (sec * 256 + at_) d
  let s2 : State := { s1 with efl := { s1.efl with ptrBank := bank, ptrCount := cnt, psec := sec, pat := at_ + 1 } }
  if full then (((s2.journal e.psec 1).clearSector e.psec).bump rEFL_CNT_ERASE).journal e.psec 2 else s2

/-! ### Settings (R442) -/

/-- The code words of a settings record: header, data words, mark. -/
def settingWords (key version : Nat) (vals : List Nat) : List (BitVec 128) :=
  let n := (vals.length + 3) / 4
  let hdr := w128 (key % 65536 + n % 65536 * 2 ^ 16 + (version % 2 ^ 32) * 2 ^ 32)
  let data := (List.range n).map (fun i =>
    w128 (((vals.drop (4 * i)).take 4).foldr (fun v a => v % 2 ^ 32 + a * 2 ^ 32) 0))
  let crc := crc32 ((hdr :: data).flatMap (fun x => leBytes 16 x.toNat))
  hdr :: data ++ [w128 (crc.toNat + (version % 2 ^ 32) * 2 ^ 32 + 0x5A5A * 2 ^ 112)]

/-- First code word of a half of the settings journal. -/
def halfBase (h : Nat) : Nat := if h = 0 then 3008 * 256 else 6080 * 256

/-- Appends the current record of a KEY to the active half. -/
def State.putSetting (s : State) (key version : Nat) (vals : List Nat) : State :=
  let ws := settingWords key version vals
  let s1 := s.progWords (halfBase s.efl.half + s.efl.halfAt) ws
  { s1 with efl := { s1.efl with
    halfAt := s.efl.halfAt + ws.length
    keys := Tab.set (fun _ => (0, [])) s1.efl.keys key (version, vals) } }

/-- Writes a KEY (R442): appended, or after the other half has been erased and every current record copied into it, its
header programmed last. -/
def State.setting (s : State) (key : Nat) (vals : List Nat) : State :=
  let old := Tab.get (fun _ => (0, [])) s.efl.keys key
  let need := (settingWords key (old.1 + 1) vals).length
  let s0 : State := if s.efl.halfAt = 0 then
      let g := s.efl.halfGen + 1
      let s1 := s.progWord (halfBase s.efl.half) (w128 (0x4C544553 + (g % 2 ^ 32) * 2 ^ 32))
      { s1 with efl := { s1.efl with halfGen := g, halfAt := 1 } }
    else s
  if s0.efl.halfAt + need ≤ 16384 then s0.putSetting key (old.1 + 1) vals
  else
    let other := 1 - s0.efl.half
    let sec0 := halfBase other / 256
    let s1 := (List.range 64).foldl (fun s i =>
      (((s.journal (sec0 + i) 1).clearSector (sec0 + i)).bump rEFL_CNT_ERASE).journal (sec0 + i) 2) s0
    let s2 : State := { s1 with efl := { s1.efl with half := other, halfAt := 1 } }
    let s3 := (s1.efl.keys.filter (fun e => e.1 != key)).foldl (fun s e => s.putSetting e.1 e.2.1 e.2.2) s2
    let s4 := s3.putSetting key (old.1 + 1) vals
    let g := s4.efl.halfGen + 1
    let s5 := s4.progWord (halfBase other) (w128 (0x4C544553 + (g % 2 ^ 32) * 2 ^ 32))
    { s5 with efl := { s5.efl with halfGen := g } }

/-! ### The daybook's slots (R444 to R447) -/

/-- First code word of a daybook slot. -/
def slotWord (n : Nat) : Nat := 4096 * 256 + 4 * (n % 32768)

/-- The 64 bytes of a record under its SEQ (R444). -/
def recordBytes (seq : Nat) (r : DRec) : List Byte :=
  let body := leBytes 6 seq ++ leBytes 2 r.code ++ leBytes 4 r.hours ++ leBytes 4 r.uptime ++ leBytes 4 r.cycles
    ++ ((List.range 8).flatMap (fun i => leBytes 4 (r.words.getD i 0)))
  body ++ leBytes 4 (crc32 body).toNat ++ leBytes 6 seq ++ leBytes 2 0xDB5A

/-- A word of 16 bytes. -/
def wordOf (l : List Byte) : BitVec 128 := w128 (leNat l)

/-- The class of a slot under R446: 0 VALID, 1 ERASED, 3 BROKEN. -/
def slotClass (ws : List FWord) : Nat :=
  if ws.all (fun x => match x with | .erased => true | _ => false) then 1
  else
    let b := ws.flatMap (fun x => leBytes 16 x.data.toNat)
    if ws.all (fun x => match x with | .written .. => true | _ => false)
      ∧ (crc32 (b.take 52)).toNat = leNat ((b.drop 52).take 4)
      ∧ leNat ((b.drop 62).take 2) = 0xDB5A ∧ (b.drop 56).take 6 = b.take 6
    then 0 else 3

/-- The sector of a daybook slot. -/
def slotSector (n : Nat) : Nat := 4096 + n % 32768 / 64

/-- The sector of a slot is being erased, so its words read all ones (R450). -/
def State.slotErasing (s : State) (n : Nat) : Bool :=
  s.efl.op1 == .erase (slotSector n) || s.efl.susp == some (slotSector n)

/-- DBK_WINi: word i of a slot as the flash holds it now (R450). -/
def State.dbkWin (s : State) (slot i : Nat) : State × W32 :=
  if s.slotErasing slot then (s, BitVec.allOnes 32)
  else
    let (s1, x) := s.readFword (slotWord slot + i / 4)
    (s1, BitVec.ofNat 32 (bitsOf x.data.toNat (32 * (i % 4) + 31) (32 * (i % 4))))

/-- DBK_WIN_STATUS: VALID, ERASED, SUSPECT, BROKEN as bits 0 to 3 (R446, R450). -/
def State.dbkStatus (s : State) (slot : Nat) : W32 :=
  if s.efl.suspect.contains (slotSector slot) then 4
  else if s.slotErasing slot then 2
  else BitVec.ofNat 32 (2 ^ slotClass ((List.range 4).map (fun i => (s.readFword (slotWord slot + i)).2)))

end Sys2Proof.Machine
end

