-- ==== Sys2Proof/Machine/Kce.lean ====
section
/-! DEFINITION. The lifecycle and its keys (R453 to R463), the check engine (R458 to R460), debug levels (R464 to
R468). -/

namespace Sys2Proof.Machine

/-- The lifecycle state (R454): 0 BLANK, 1 OWNED, 2 DECOMMISSIONED. -/
def State.lifecycle (s : State) : Nat :=
  if s.sec.fuse.decomm ∨ s.sec.seedBad then 2 else if s.sec.fuse.owned.isSome then 1 else 0

/-- The debug level a start or RELOCK gives (R463, R468). -/
def State.baseLevel (s : State) : Nat := if s.lifecycle = 0 then 1 else if s.lifecycle = 1 then 0 else 2

/-- The seed of the row in use. -/
def State.ownerSeed (s : State) : List Nat :=
  let row := s.sec.fuse.owned.getD 0
  ((if row = 0 then s.sec.fuse.seedA else s.sec.fuse.seedB).map (·.1)).getD []

/-- OWNER_ROOT of a seed (R455, R456). -/
def State.ownerRoot (s : State) (seed : List Nat) : List Nat := deriveKey s.sec.fuse.transport labelOWNERKEY seed true

/-- The parent of slots 2 to 31 (R456): TRANSPORT_KEY in Blank, OWNER_ROOT in Owned; with a provisioning image loaded
the prospective owner keys (R461). -/
def State.parentKey (s : State) : Option (List Nat) :=
  if s.lifecycle = 2 then none
  else if s.lifecycle = 1 then some (s.ownerRoot s.ownerSeed)
  else match s.sec.seed with
    | some sd => some (s.ownerRoot sd)
    | none => some s.sec.fuse.transport

/-- A key derived with the die's context (R455). -/
def State.dieKey (s : State) (label : List Nat) (long : Bool) : Option (List Nat) :=
  s.parentKey.map (fun p => deriveKey p label (dieContext s.sec.fuse.uid.toNat) long)

/-- The label of an owner key slot. -/
def State.slotLabel (s : State) (n : Nat) : List Nat :=
  leNats 4 (s.reg (rKCE_SLOT_LABEL_LO + 8 * n)).toNat ++ leNats 4 (s.reg (rKCE_SLOT_LABEL_HI + 8 * n)).toNat

/-- A label that gives a slot no key (R456). -/
def labelBad (l : List Nat) : Bool :=
  l.all (· == 0) || l == labelOWNERKEY || l == labelIMAGEKEY || l == labelFIRMWARE || l == labelDEBUGKEY

/-- The key a slot holds after the registrar has loaded it (R456); slot 2 is derived at each check. -/
def State.slotKey (s : State) (n : Nat) : Key :=
  if s.lifecycle = 2 then {}
  else if n = 0 then { bytes := s.sec.fuse.transport, derive_ := true }
  else if n = 1 then
    (if s.lifecycle = 1 then { bytes := s.ownerRoot s.ownerSeed, derive_ := true }
     else match s.sec.seed with
      | some sd => { bytes := s.ownerRoot sd, derive_ := true }
      | none => {})
  else if n = 3 then { bytes := (s.dieKey labelFIRMWARE true).getD [], verify := true }
  else if n = 4 then { bytes := (s.dieKey labelDEBUGKEY false).getD [], verify := true }
  else if 8 ≤ n ∧ n ≤ 31 then
    let l := s.slotLabel n
    if labelBad l then {}
    else
      { bytes := (s.dieKey l (s.flag (fKCE_SLOT_CFG_LEN256.plus (4 * n)))).getD []
        verify := true
        macOut := s.flag (fKCE_SLOT_CFG_MAC_OUT.plus (4 * n)) }
  else {}

def State.key (s : State) (n : Nat) : Key := Tab.get (fun _ => {}) s.sec.keys n

/-- Loads every slot but slot 2, which holds the key of the copy last checked (R456). -/
def State.loadKeys (s : State) : State :=
  { s with sec := { s.sec with
    kReady := true
    keys := (upTo 32).foldl (fun t n =>
      Tab.set (fun _ => ({} : Key)) t n (if n = 2 then s.key 2 else s.slotKey n)) [] } }

/-- Bytes as the numbers AES works on. -/
def natsOf (l : List Byte) : List Nat := l.map BitVec.toNat

/-- KCE_SLOT_VALID. -/
def State.slotValid (s : State) : Nat :=
  (upTo 32).foldl (fun a n => if (s.key n).bytes.isEmpty then a else a + 2 ^ n) 0

/-- The result of a request with the key its slot held when it started (R458): 0 OK or MATCH, 1 MISMATCH, 2 NO_KEY,
3 USE; and the MAC for MAC_OUT. -/
def kceResult (k : Key) (use : Nat) (msg mac : List Byte) : Nat × List Byte :=
  if k.bytes.isEmpty then (2, [])
  else if (use = 0 ∧ !k.derive_) ∨ (use = 1 ∧ !k.verify) ∨ (use = 2 ∧ !k.macOut) ∨ use > 2 then (3, [])
  else if use = 0 then (0, [])
  else
    let m := cmac k.bytes (natsOf msg)
    if use = 1 then (if m = natsOf mac then (0, []) else (1, [])) else (0, m.map (BitVec.ofNat 8 ·))

/-- Counts a finished request (R458). -/
def State.kceCount (s : State) (r : Nat) : State :=
  let s1 := s.bump rKCE_CNT_REQ
  if r = 1 then (s1.bumpFld fKCE_CNT_FAIL_MISMATCH).raise 0x070
  else if r = 2 then (s1.bumpFld fKCE_CNT_FAIL_NO_KEY).raise 0x071
  else s1

/-- A check made inside one command, as one request of KCE: whether it matched. -/
def State.kceVerify (s : State) (k : Key) (msg mac : List Byte) : State × Bool :=
  let r := (kceResult k 1 msg mac).1
  (s.kceCount r, r == 0)

/-- Derives slot 2 for an image whose header names its length (R456). -/
def State.imageKey (s : State) (long : Bool) : State × Key :=
  let k : Key := { bytes := (s.dieKey labelIMAGEKEY long).getD [], verify := true }
  ({ s with sec := { s.sec with keys := Tab.set (fun _ => ({} : Key)) s.sec.keys 2 k } }, k)

/-! ### The queue of KCE (R459, R460) -/

/-- Starts the next request: URGENT before NORMAL, the suspended one before a new NORMAL one; it runs with the key its
slot holds now. -/
def State.kceStart (s : State) : State :=
  if s.sec.kRun.isSome then s
  else
    let take (q : KReq) : State :=
      let rest := s.sec.kQueue.erase q
      let room := s.sec.kWait.take (64 - rest.length)
      { s with sec := { s.sec with
        kRun := some { q with key := some (s.key q.slot) }
        kQueue := rest ++ room
        kWait := s.sec.kWait.drop room.length } }
    match s.sec.kQueue.find? (·.urgent) with
    | some q => take q
    | none =>
      match s.sec.kSusp with
      | some q => { s with sec := { s.sec with kRun := some q, kSusp := none } }
      | none =>
        match s.sec.kQueue.head? with
        | some q => take q
        | none => s

/-- A request arrives (R459): it waits while the queue is full; an URGENT one suspends a NORMAL one that runs. -/
def State.kceSubmit (s : State) (q : KReq) : State :=
  if s.sec.kQueue.length ≥ 64 then { s with sec := { s.sec with kWait := s.sec.kWait ++ [q] } }
  else
    let s1 : State := { s with sec := { s.sec with kQueue := s.sec.kQueue ++ [q] } }
    let s2 : State := match s1.sec.kRun with
      | some r =>
        if q.urgent ∧ !r.urgent then
          ({ s1 with sec := { s1.sec with kRun := none, kSusp := some r } }).bump rKCE_CNT_SUSPEND
        else s1
      | none => s1
    s2.kceStart

/-- Requests of KCE end ABORTED (R458). -/
def State.kceAbort (s : State) : State :=
  let asked := s.sec.kQueue ++ s.sec.kRun.toList ++ s.sec.kSusp.toList ++ s.sec.kWait
  { s with sec := { s.sec with
    kQueue := []
    kRun := none
    kSusp := none
    kWait := []
    submitted := none
    kLast := if asked.isEmpty then s.sec.kLast else ((asked.getLast?).elim 0 (·.who), 4, []) } }

/-! ### Debug levels (R464, R465) -/

/-- Addresses of the LPR raw window and the injection registers (R464). -/
def rawReg (a : Nat) : Bool := decide (rLPR_RAW_ADDR ≤ a ∧ a ≤ rLPR_RAW_CMD) || decide (rLPR_INJ_ADDR ≤ a ∧ a ≤ rLPR_INJ_MASK)

/-- Client ports may be open: an Owned unit in service whose start has come through step 10 with nothing that forbids it
(R107, R347, R403, R404, R461). -/
def State.portsMay (s : State) : Bool :=
  s.lifecycle == 1 && !s.cru.failed && !s.bpm.cfgErr && !s.cru.awaitAccept && decide (11 ≤ s.cru.step)
    && (s.pwr.st == .starting || s.pwr.st == .service || s.pwr.st == .trimmed)

/-- Opens the client ports where they may be open. -/
def State.openPorts (s : State) : State := { s with ports := s.ports || s.portsMay }

/-- The wait of R107 and R403 ends: by VAULT_ACCEPT, or by a full resync. -/
def State.awaitEnd (s : State) : State :=
  ({ s with
    cru := { s.cru with awaitAccept := false }
    rsv := { s.rsv with lastIncomplete := false } }).openPorts

/-- An access refused by level (R465). -/
def State.secDenied (s : State) : State := (s.bump rSEC_CNT_DENIED).raise 0x063

/-- Registers a read of which has a side effect (R465, R496). -/
def readEffect (a : Nat) : Bool :=
  (decide (rINT_CLAIM ≤ a ∧ a < rINT_CLAIM + 0x10 * 21) && a % 0x10 == rINT_CLAIM % 0x10) || a == rDBK_SEQ_LO || a == rPWR_IDATA

/-- Burns a seed row; `good` says whether its read-back holds. -/
def Fuses.burnRow (f : Fuses) (row : Nat) (seed : List Nat) (good : Bool) : Fuses :=
  if row = 0 then { f with seedA := some (seed, good) } else { f with seedB := some (seed, good) }

/-- The fuses after the core was reset or lost power: a burn that ran leaves its row used (R462). -/
def SecSt.fuseCut (x : SecSt) : Fuses :=
  match x.burning with
  | some row => { x.fuse.burnRow row (x.seed.getD []) false with cut := some row }
  | none => x.fuse

/-! ### Unlocking (R466, R467) -/

/-- A failed unlock (R467). -/
def State.unlockFail (s : State) (path : Nat) : State :=
  let n := s.sec.failures + 1
  ((({ s with sec := { s.sec with failures := n, lockout := s.sec.lockout || decide (n ≥ 4) } }).bumpFld
    fSEC_CNT_UNLOCK_FAILED).raise 0x061).note 0x492 [n, path]

/-- A granted unlock (R466): the level becomes the one PURPOSE names. -/
def State.unlockGrant (s : State) (purpose path : Nat) : State :=
  ((({ s with sec := { s.sec with level := if purpose = 1 then 1 else if purpose = 2 then 2 else s.sec.level } }).bumpFld
    fSEC_CNT_UNLOCK_GRANTED).raise 0x060).note 0x491
      [if purpose = 1 then 1 else if purpose = 2 then 2 else s.sec.level, purpose, path]

end Sys2Proof.Machine
end

