-- ==== Sys2Proof/Machine/Chip.lean ====
section
/-! DEFINITION. Operations of the whole chip that several blocks use: snapshots (R383), fatal faults (R18), pin levels,
the numbers of the power states. -/

namespace Sys2Proof.Machine

def State.rail (s : State) (n : Nat) : Rail := Tab.get (fun _ => {}) s.sup.rails n
def State.setRail (s : State) (n : Nat) (r : Rail) : State :=
  { s with sup := { s.sup with rails := Tab.set (fun _ => {}) s.sup.rails n r } }
def State.mon (s : State) (n : Nat) : Mon := Tab.get (fun _ => {}) s.sup.mons n
def State.setMon (s : State) (n : Nat) (m : Mon) : State :=
  { s with sup := { s.sup with mons := Tab.set (fun _ => {}) s.sup.mons n m } }

/-- KIND of a rail slot (R370). -/
def State.railKind (s : State) (n : Nat) : Nat := s.fld (fSUP_RAIL_CFG_KIND.plus (16 * n))

/-- Level of EN_RAIL[n] (R370): a rail's enable, a hard-disable slot as driven, a VID bit while any rail is on. -/
def State.enLevel (s : State) (n : Nat) : Bool :=
  match s.railKind n with
  | 1 => (s.rail n).en
  | 2 => (s.rail n).en
  | 3 => s.flag (fSUP_RAIL_CFG_VID_LEVEL.plus (16 * n)) && (upTo 24).any (fun m => s.railKind m == 1 && (s.rail m).en)
  | _ => false

/-- A number whose bit n is `p n`. -/
def bitsWhere (n : Nat) (p : Nat → Bool) : Nat := (upTo n).foldl (fun a i => if p i then a + 2 ^ i else a) 0

/-- A snapshot (R383): two records. -/
def State.snapshot (s : State) : State :=
  let pack (from_ : Nat) : Nat := (upTo 16).foldl (fun a i => a + ((s.mon (from_ + i)).value % 4096) * 2 ^ (12 * i)) 0
  let six (v : Nat) : List Nat := (upTo 6).map (fun i => bitsOf v (32 * i + 31) (32 * i))
  (s.note 0x451 (six (pack 0))).note 0x452 (six (pack 16) ++ [bitsWhere 24 s.enLevel, bitsWhere 24 (fun n => (s.rail n).pg)])

/-- A fatal fault (R18): latched, FAULT_N falls, a snapshot is taken (R383). The causes: 0 watchdog, 1 DMC PLL, 2 core
PLL, 3 channel failed, 4 coder self-test, 5 domain power-good. -/
def State.fatal (s : State) (cause : Nat) : State :=
  (if s.cru.fatal.contains cause then s else { s with cru := { s.cru with fatal := s.cru.fatal ++ [cause] } }).snapshot

/-- Number of a power state (PWR_STATUS.STATE; OFF and STANDBY as the target port numbers them). -/
def PwrState.code : PwrState → Nat
  | .off => 0
  | .standby => 1
  | .quiesced => 2
  | .service => 3
  | .trimmed => 4
  | .vault => 5
  | .starting => 6

/-- A change of power state (R386): record 0x460 and source 0x020. ALIVE is low outside Service and Trimmed (R18). -/
def State.setPwr (s : State) (st : PwrState) (cause : Nat) : State :=
  if s.pwr.st = st then s
  else
    let old := s.pwr.st
    let alive := if st = .service ∨ st = .trimmed then s.cru.alive else false
    (({ s with pwr := { s.pwr with st := st }, cru := { s.cru with alive := alive } }).note 0x460
      [old.code, st.code, Config.itemCode 0x460 2 cause, 0]).raise 0x020

/-- The cipher, scrub and debug domains are on (R385). -/
def State.cipherOn (s : State) : Bool :=
  s.pwr.st == .service || s.pwr.st == .trimmed || s.pwr.st == .starting

/-- FAULT_N is asserted: a fatal fault is latched (R18). -/
def State.faultLow (s : State) : Bool := !s.cru.fatal.isEmpty

/-- What a pin shows: driven low, driven high, or high impedance, where the board's pull decides (R17). -/
inductive PinLevel where
  | low | high | highZ
deriving DecidableEq, Repr

/-- FAULT_N (R18): high impedance from a Cold or Pin reset until step 2 of the start drives it (R397, R402); then high
only while no fatal fault is latched. -/
def State.faultPin (s : State) : PinLevel :=
  if !s.cru.pinsDriven then .highZ else if s.faultLow then .low else .high

/-- ALIVE (R18): high impedance in reset and when unpowered, high from the end of a start until the unit leaves Service or
Trimmed. -/
def State.alivePin (s : State) : PinLevel :=
  if !s.cru.pinsDriven then .highZ else if s.cru.alive then .high else .low

/-- What the board sees on a pin with a pull-down (R17): an undriven one rests low. -/
def PinLevel.pulledDown : PinLevel → Bool
  | .high => true
  | _ => false

/-- Entering a Cold or Pin reset (R16, R18, R397): every SerDes transmitter (TV, EN, TN, SK, MG) goes to electrical idle,
ALIVE and FAULT_N are released. Lanes that are idle already stay so and nothing is sent again. -/
def State.releasePins (s : State) : State :=
  let s1 := if s.cru.lanesIdle then s else s.emit .lanesIdle
  { s1 with cru := { s1.cru with alive := false, pinsDriven := false, lanesIdle := true } }

/-- Step 2 of a start (R402): the core leaves reset, its transmitters and FAULT_N are driven again. That the transmitters
leave electrical idle here is DEDUCED: R16 binds their idle to the reset, and each link's own chapter says when it sends. -/
def State.drivePins (s : State) : State :=
  { s with cru := { s.cru with pinsDriven := true, lanesIdle := false } }

end Sys2Proof.Machine
end

