-- ==== Sys2Proof/Machine/TvFec.lean ====
section
/-! DEFINITION. The lane side of links: the scrambler, RS(544,514) over GF(2^10), the dealing of symbols to lanes and the
alignment markers of a Tvedfy or twin link (R212, R318), and RS(528,514) of a stack link (R145). What these rules take from
IEEE 802.3 is PRESUMED as that standard has it (log 112, log 125). -/

namespace Sys2Proof.Machine

/-! ### Scrambler (x^58 + x^39 + 1) -/

/-- One bit through the self-synchronous scrambler: the register holds the last 58 bits sent, the latest as bit 0. -/
def scrambleBit (r : BitVec 58) (b : Bool) : BitVec 58 :=
  let o := b ^^ r.getLsbD 38 ^^ r.getLsbD 57
  (r <<< 1) ||| (BitVec.ofBool o).setWidth 58

/-- Scrambles a stream of bits in order: the register after it, and what leaves. -/
def scramble : BitVec 58 → List Bool → BitVec 58 × List Bool
  | r, [] => (r, [])
  | r, b :: t =>
    let r1 := scrambleBit r b
    let p := scramble r1 t
    (p.1, r1.getLsbD 0 :: p.2)

/-- What the other end makes of one bit: the register is fed with what arrives. -/
def unscramble : BitVec 58 → List Bool → List Bool
  | _, [] => []
  | r, b :: t => (b ^^ r.getLsbD 38 ^^ r.getLsbD 57) :: unscramble ((r <<< 1) ||| (BitVec.ofBool b).setWidth 58) t

/-- The bits of bytes, least significant first (PRESUMED, log 112). -/
def bitsOfBytes (l : List Byte) : List Bool := l.flatMap (fun b => [0, 1, 2, 3, 4, 5, 6, 7].map b.getLsbD)

/-! ### GF(2^10) and the code -/

/-- Times α: the field polynomial is x^10 + x^3 + 1. -/
def rsDouble (a : Nat) : Nat := if a < 512 then 2 * a else (2 * a) ^^^ 0x409

/-- Product in GF(2^10). -/
def rsMul (a b : Nat) : Nat :=
  ((List.range 10).foldl (fun (p : Nat × Nat) i => (if bitOf b i then p.1 ^^^ p.2 else p.1, rsDouble p.2)) (0, a)).1

/-- Powers of α. -/
def rsPow : Nat → Nat
  | 0 => 1
  | n + 1 => rsDouble (rsPow n)

/-- (x + root) times a polynomial, whose coefficients stand lowest power first. -/
def polyTimes (root : Nat) (p : List Nat) : List Nat :=
  List.zipWith (· ^^^ ·) (0 :: p) (p.map (rsMul root) ++ [0])

/-- The generator polynomial of a code with `n` parity symbols: the product of (x + α^j), j = 0 to n - 1. Its coefficients
below x^n. -/
def rsGen (n : Nat) : List Nat := ((List.range n).foldl (fun p j => polyTimes (rsPow j) p) [1]).take n

/-- One message symbol into the parity register, lowest power first. -/
def rsPush (g par : List Nat) (m : Nat) : List Nat :=
  let q := m ^^^ par.getLastD 0
  List.zipWith (fun a c => a ^^^ rsMul q c) (0 :: par.dropLast) g

/-- A code word: the message's symbols, then the `n` parity symbols, highest power first. -/
def rsEncode (n : Nat) (msg : List Nat) : List Nat := msg ++ (msg.foldl (rsPush (rsGen n)) (List.replicate n 0)).reverse

/-- `n` symbols of 10 bits from a stream of bits, the first bit of a symbol its lowest. -/
def symbols : Nat → List Bool → List Nat
  | 0, _ => []
  | n + 1, l => flags (l.take 10) :: symbols n (l.drop 10)

/-- The first `m` code words of a stream of bits, each of 514 message symbols and `n` parity symbols. -/
def codeWords (n : Nat) : Nat → List Bool → List (List Nat)
  | 0, _ => []
  | m + 1, l => rsEncode n (symbols 514 l) :: codeWords n m (l.drop 5140)

/-! ### Lanes -/

/-- The symbols of a code word that lane `lane` of `n` carries: dealt in turn, starting with lane 0. -/
def dealt (n lane : Nat) (w : List Nat) : List Nat := (w.zipIdx.filter (fun p => p.2 % n == lane)).map (·.1)

/-- The alignment marker of a lane: 10 symbols, of which the first holds the lane number (DESIGN CHOICE, log 112: the manual
names its place in no symbol, and gives the others no content). -/
def laneMarker (lane : Nat) : List Nat := lane :: (List.range 9).map (fun k => (Config.markerSymbol lane k).toNat)

/-- Code word number `i` as the `n` lanes carry it: a marker goes before every 16,384th. -/
def onLanes (n i : Nat) (w : List Nat) : List (List Nat) :=
  (List.range n).map (fun lane => (if i % 16384 = 0 then laneMarker lane else []) ++ dealt n lane w)

end Sys2Proof.Machine
end

