-- ==== Sys2Proof/Machine/Lines.lean ====
section
/-! DEFINITION. Lines in DRAM: where they lie (R115, R169, R171), the RS(20,17) line code and its decoder (R192 to
R194), reads and writes of whole lines with their tags, the remap table (R202), STATE changes (R201). -/

namespace Sys2Proof.Machine

/-! ### GF(2^16) (R192) -/

/-- Multiplies by x modulo x^16 + x^12 + x^3 + x + 1. -/
def gfX (a : Nat) : Nat := if a * 2 ≥ 65536 then (a * 2 - 65536) ^^^ 0x100B else a * 2

/-- Adds the shifted copies of a for the low n bits of b. -/
def gfMulN : Nat → Nat → Nat → Nat
  | 0, _, _ => 0
  | n + 1, a, b => (if b % 2 = 1 then a else 0) ^^^ gfMulN n (gfX a) (b / 2)

/-- The product in GF(2^16). -/
def gfMul (a b : Nat) : Nat := gfMulN 16 a b

/-- α^n, α = 2. -/
def gfPow : Nat → Nat
  | 0 => 1
  | n + 1 => gfX (gfPow n)

/-- a^(2^n - 2) by repeated squaring: the inverse for n = 16. -/
def gfInvN : Nat → Nat → Nat
  | 0, _ => 1
  | n + 1, a => let q := gfMul a a; gfMul q (gfInvN n q)

/-- The inverse in GF(2^16): a^(2^16 - 2) is the product of a^(2^i), i = 1 to 15. -/
def gfInv (a : Nat) : Nat := gfInvN 15 a

/-- The quotient in GF(2^16). -/
def gfDiv (a b : Nat) : Nat := gfMul a (gfInv b)

/-- The device 19 - i with X = α^i, 0 ≤ i ≤ 19 (R194). -/
def gfDev (x : Nat) : Option Nat := ((List.range 20).find? (fun i => gfPow i = x)).map (19 - ·)

/-! ### The code (R192, R193) -/

/-- Symbol j of code word k of a line and its tag: data symbols 0 to 15, tag symbol 16 (R193). -/
def symOf (d : Line) (t : Tag) (k j : Nat) : Nat :=
  if j = 16 then bitsOf t.toNat (16 * k + 15) (16 * k) else bitsOf d.toNat (256 * k + 16 * j + 15) (256 * k + 16 * j)

/-- One step of the division by g(x): the remainder (r2, r1, r0) takes the next symbol. -/
def rsStep (r : Nat × Nat × Nat) (sym : Nat) : Nat × Nat × Nat :=
  let f := r.1 ^^^ sym
  (r.2.1 ^^^ gfMul f 0x0007, r.2.2 ^^^ gfMul f 0x000E, gfMul f 0x0008)

/-- The stored check symbols S_17, S_18, S_19 of code word k, check offset included (R192). -/
def rsCheck (d : Line) (t : Tag) (k : Nat) : Nat × Nat × Nat :=
  let r := ((List.range 17).map (symOf d t k)).foldl rsStep (0, 0, 0)
  (r.1 ^^^ 1, r.2.1 ^^^ 1, r.2.2 ^^^ 1)

/-- The syndrome C(α^t) of a symbol-error pattern of one code word: (device, XOR) pairs. -/
def synd (e : List (Nat × Nat)) (t : Nat) : Nat :=
  e.foldl (fun a p => a ^^^ gfMul p.2 (gfPow (t * (19 - p.1)))) 0

/-- XORs an error into the pattern at a device. -/
def errXor (e : List (Nat × Nat)) (dev x : Nat) : List (Nat × Nat) :=
  let old := ((e.find? (·.1 = dev)).map (·.2)).getD 0
  let rest := e.filter (·.1 ≠ dev)
  if old ^^^ x = 0 then rest else (dev, old ^^^ x) :: rest

/-- What decoding one code word finds. -/
inductive Dec where
  | clean (left : List (Nat × Nat))
  | corrected (left : List (Nat × Nat)) (dev : Nat)
  | uncorrectable
deriving DecidableEq, Repr

/-- The decoder of R194 on the error pattern of one code word: the code is linear, so the syndromes of the received
word are those of its errors, and what the decoder XORs into the word it XORs into the pattern. `left` is what remains
wrong after it: nothing, or a miscorrection. -/
def decodeCw (erased : Option Nat) (e : List (Nat × Nat)) : Dec :=
  let s0 := synd e 0
  let s1 := synd e 1
  let s2 := synd e 2
  match erased with
  | none =>
    if s0 = 0 ∧ s1 = 0 ∧ s2 = 0 then .clean e
    else if s0 ≠ 0 ∧ s1 ≠ 0 ∧ s2 ≠ 0 ∧ gfMul s1 s1 = gfMul s0 s2 then
      match gfDev (gfDiv s1 s0) with
      | some p => .corrected (errXor e p s0) p
      | none => .uncorrectable
    else .uncorrectable
  | some p =>
    let xp := gfPow (19 - p)
    let t0 := s1 ^^^ gfMul xp s0
    let t1 := s2 ^^^ gfMul xp s1
    if t0 = 0 ∧ t1 = 0 then .clean (errXor e p s0)
    else if t0 ≠ 0 ∧ t1 ≠ 0 then
      match gfDev (gfDiv t1 t0) with
      | some q =>
        if q = p then .uncorrectable
        else
          let ei := gfDiv t0 (gfDiv t1 t0 ^^^ xp)
          .corrected (errXor (errXor e q ei) p (s0 ^^^ ei)) q
      | none => .uncorrectable
    else .uncorrectable

/-- The errors of code word k in a line's pattern. -/
def cwErrs (l : DLine) (k : Nat) : List (Nat × Nat) :=
  l.errs.filterMap (fun e => if e.1 = k then some e.2 else none)

/-- XORs into data and tag what an error pattern of code word k leaves wrong. -/
def applyLeft (k : Nat) (p : Line × Tag) (left : List (Nat × Nat)) : Line × Tag :=
  left.foldl (fun a e =>
    if e.1 ≤ 15 then (a.1 ^^^ (BitVec.ofNat 1024 e.2 <<< (256 * k + 16 * e.1)), a.2)
    else if e.1 = 16 then (a.1, a.2 ^^^ (BitVec.ofNat 64 e.2 <<< (16 * k)))
    else a) p

/-- What reading one stored line finds. -/
inductive LineRead where
  /-- data and tag, with the (code word, device) pairs corrected -/
  | good (data : Line) (tag : Tag) (fixed : List (Nat × Nat))
  | uncorrectable
deriving DecidableEq, Repr

/-- Decodes a stored line (R194): uncorrectable if any of its four code words is. A line never written is
uncorrectable (R200). -/
def decodeLine (erased : Option Nat) (l : DLine) : LineRead :=
  if !l.written then .uncorrectable
  else if l.errs.isEmpty then .good l.data l.tag []
  else
    [0, 1, 2, 3].foldl (fun a k =>
      match a with
      | .uncorrectable => .uncorrectable
      | .good d t fx =>
        match decodeCw erased (cwErrs l k) with
        | .clean left => let r := applyLeft k (d, t) left; .good r.1 r.2 fx
        | .corrected left dev => let r := applyLeft k (d, t) left; .good r.1 r.2 (fx ++ [(k, dev)])
        | .uncorrectable => .uncorrectable) (.good l.data l.tag [])

/-! ### Where a line lies -/

/-- N: the number of populated channels (R169). -/
def State.nchan (s : State) : Nat := s.dmc.pop.length

/-- The channel of a DRAM line address (R169). -/
def State.chanOf (s : State) (a : Nat) : Nat :=
  if s.nchan = 0 then 0 else s.dmc.pop.getD ((a / 32) % s.nchan) 0

/-- The channel-local line L of a DRAM line address (R169). -/
def State.localOf (s : State) (a : Nat) : Nat :=
  if s.nchan = 0 then a else (a / 32 / s.nchan) * 32 + a % 32

def State.ch (s : State) (c : Nat) : DmcCh := Tab.get (fun _ => {}) s.dmc.chs c
def State.setCh (s : State) (c : Nat) (x : DmcCh) : State :=
  { s with dmc := { s.dmc with chs := Tab.set (fun _ => {}) s.dmc.chs c x } }

/-- The logical rank of a channel-local line (R171). -/
def State.rankOf (s : State) (c l : Nat) : Nat := (l / 4096) % 2 ^ (s.ch c).rankBits

/-- The row of a channel-local line (R171). -/
def State.rowOf (s : State) (c l : Nat) : Nat := l / 4096 / 2 ^ (s.ch c).rankBits

/-- The bank group of a channel-local line (R171). -/
def State.bgOf (s : State) (c l : Nat) : Nat := (l / 32) % 8 ^^^ s.rowOf c l % 8

/-- The bank of a channel-local line within its group (R171). -/
def State.baOf (s : State) (c l : Nat) : Nat := (l / 256) % 4 ^^^ (s.rowOf c l / 8) % 4

/-- The column block CB of a channel-local line (R171). -/
def cbOf (l : Nat) : Nat := ((l / 1024) % 4) * 32 + l % 32

/-- The device column address of a channel-local line (R171): column bits [3:0] are zero for BL16. -/
def colOf (l : Nat) : Nat := cbOf l * 16

/-- A logical rank split as R171 does: 3DS chip ID, package rank, DIMM. -/
def State.rankSplit (s : State) (rank : Nat) : Nat × Nat × Nat :=
  let stack := max 1 s.rgc.profile.2.1
  let pkg := max 1 s.rgc.profile.1
  (rank % stack, rank / stack % pkg, rank / stack / pkg)

/-- The bank of a DRAM line, by number: channel, rank, bank group, bank (R169, R171). -/
def State.bankKey (s : State) (a : Nat) : Nat :=
  let c := s.chanOf a
  let l := s.localOf a
  ((c * 32 + s.rankOf c l) * 8 + s.bgOf c l) * 4 + s.baOf c l

/-- The channel of a bank's number. -/
def bankChan (k : Nat) : Nat := k / 1024

/-- The first line of the folio region, DATA_BASE / 128 (R115). -/
def State.dataBase (s : State) : Nat := s.fld fFCH_RESV_MIB * 8192

/-- Keys of desk copies lie above every way of the directory. -/
def deskKey : Nat := 2 ^ 40

/-- Keys of eviction-buffer copies of metadata-shelf folios: they have no way (log 104). -/
def metaKey : Nat := 2 ^ 50

/-- Line i of the way with key k (set * 16 + way): R115. Desk copies keep their lines above the DRAM. -/
def State.wayLine (s : State) (k i : Nat) : Nat := if k < deskKey then s.dataBase + k * 32 + i else k * 32 + i

/-- The directory line of a set, first copy (R115). -/
def State.dirLine (s : State) (set : Nat) : Nat := s.dataBase + s.fch.sets * 512 + set

/-- The directory line of a set, second copy (R115). -/
def State.dirLine2 (s : State) (set : Nat) : Nat := s.dirLine set + s.fch.sets + (s.nchan / 2) * 32

/-- A line of a directory copy: the set it belongs to (R115). -/
def State.dirLineSet (s : State) (a : Nat) : Option Nat :=
  let d := s.dirLine 0
  let d2 := s.dirLine2 0
  if d ≤ a ∧ a < d + s.fch.sets then some (a - d) else if d2 ≤ a ∧ a < d2 + s.fch.sets then some (a - d2) else none

/-- The 8 bytes of a way's entry (R117), with the AGE and SETF given. -/
def Way.word (w : Way) (age setf : Nat) : Nat :=
  w.folio % 2 ^ 41 + age % 4 * 2 ^ 41 + w.st % 8 * 2 ^ 43 + b2n w.pin * 2 ^ 46 + w.tenant % 4096 * 2 ^ 47 + b2n w.w * 2 ^ 59
    + setf % 16 * 2 ^ 60

/-- The AGE fields of a set's record as the tag cache holds them, two bits a way. -/
def State.agesOf (s : State) (set : Nat) : Nat := (upTo 16).foldl (fun a i => a + (s.way (set * 16 + i)).age % 4 * 4 ^ i) 0

/-- A directory line (R117): the 16 entries of a set's record, with the ages as they were last written to DRAM (R118). -/
def State.setData (s : State) (set : Nat) : Line :=
  let ages := Tab.get (fun _ => 0) s.fch.ages set
  BitVec.ofNat 1024 ((upTo 16).foldl (fun a i =>
    a + (s.way (set * 16 + i)).word (ages / 4 ^ i) (if i = 0 then s.pinRsv set else 0) * 2 ^ (64 * i)) 0)

/-! ### Stored lines -/

/-- Lines that the shelf table's copy in DRAM takes, eight entries to a line (R48). -/
def shelfLines : Nat := 2 ^ 20

/-- DRAM holds the copy of the shelf table at the foot of the reserved region (R48; the place is a DESIGN CHOICE, log 99). -/
def State.shelfHeld (s : State) (a : Nat) : Bool := decide (a < shelfLines) && decide (shelfLines ≤ s.dataBase)

/-- CRC-16 of an entry and of a shelf-table entry: polynomial 0x1021, initial value 0xFFFF (R48, R72). -/
def crc16 (l : List Byte) : BitVec 16 := crcBytes 0x1021#16 0xFFFF#16 l

/-- The bytes of a line in address order. -/
def lineBytes (d : Line) : List Byte := leBytes 128 d.toNat

/-- A line from bytes in address order. -/
def lineOfBytes (l : List Byte) : Line := BitVec.ofNat 1024 (leNat l)

/-- A line of the reserved region as the registrar wrote it (R200): the shelf table's entries, or content that the manual
does not give. -/
def State.resvLine (s : State) (a : Nat) : DLine :=
  { written := true
    data := if s.shelfHeld a then lineOfBytes ((upTo 8).flatMap (fun i => (s.shelf (a * 8 + i)).bytes)) else Config.reservedLine a
    tag := (Config.reservedLine (a + 2 ^ 40)).truncate 64 }

/-- A line as DRAM holds it: what was last written there, or what the start wrote into the reserved region, or the set record
that a directory line holds (R117, R118). -/
def State.dline (s : State) (a : Nat) : DLine :=
  let l := Tab.get (fun _ => ({} : DLine)) s.lpr.dram a
  if l.written then l
  else if s.lpr.resv ∧ a < s.dataBase then s.resvLine a
  else if s.fch.held then
    match s.dirLineSet a with
    | some set => { written := true, data := s.setData set }
    | none => l
  else l
def State.setDline (s : State) (a : Nat) (l : DLine) : State :=
  { s with lpr := { s.lpr with dram := Tab.set (fun _ => {}) s.lpr.dram a l } }
def State.remapEnt (s : State) (c e : Nat) : Remap := Tab.get (fun _ => {}) s.lpr.remap (c * 64 + e)
def State.setRemap (s : State) (c e : Nat) (r : Remap) : State :=
  { s with lpr := { s.lpr with remap := Tab.set (fun _ => {}) s.lpr.remap (c * 64 + e) r } }
def State.erasure (s : State) (c r : Nat) : Erasure := Tab.get (fun _ => {}) s.lpr.erasure (c * 32 + r)
def State.setErasure (s : State) (c r : Nat) (e : Erasure) : State :=
  { s with lpr := { s.lpr with erasure := Tab.set (fun _ => {}) s.lpr.erasure (c * 32 + r) e } }

/-- The remap entry in force for a line, by its number (R202). -/
def State.remapOf (s : State) (c l : Nat) : Option Nat :=
  (upTo 64).find? (fun e => (s.remapEnt c e).valid && (s.remapEnt c e).l == l)

/-- The DRAM line address of a channel-local line (R169). -/
def State.lineOf (s : State) (c l : Nat) : Nat :=
  let k := (s.dmc.pop.findIdx? (· == c)).getD 0
  (l / 32 * s.nchan + k) * 32 + l % 32

/-- Rows of a channel that lie wholly in the reserved region (R115, R171). -/
def State.resvRows (s : State) (c : Nat) : Nat :=
  if s.nchan = 0 then 0 else s.dataBase / 32 / s.nchan / (128 * 2 ^ (s.ch c).rankBits)

/-- The channel-local line of spare line k (R202): the four spare folios are the first folios of the last four rows of the
reserved region, which lie in four different rows and, by R171, in four different bank groups (DESIGN CHOICE, log 100: R202
leaves the place to the registrar). -/
def State.spareLocal (s : State) (c k : Nat) : Nat :=
  (s.resvRows c - 4 + k / 32) * 4096 * 2 ^ (s.ch c).rankBits + k % 32

/-- The DRAM line address of a spare line (R202). -/
def State.spareAddr (s : State) (c k : Nat) : Nat := s.lineOf c (s.spareLocal c k)

/-- The DRAM line that reads of an address reach: its spare where a remap entry is in force (R202), or itself. -/
def State.phys (s : State) (a : Nat) : Nat :=
  if s.lpr.remap.isEmpty then a
  else match s.remapOf (s.chanOf a) (s.localOf a) with
    | some e => s.spareAddr (s.chanOf a) (s.remapEnt (s.chanOf a) e).spare
    | none => a

/-- What reads of an address find stored: the content of its spare where a remap entry is in force (R202), or its own. -/
def State.stored (s : State) (a : Nat) : DLine :=
  if s.lpr.remap.isEmpty then s.dline a
  else match s.remapOf (s.chanOf a) (s.localOf a) with
    | some e => s.dline (s.spareAddr (s.chanOf a) (s.remapEnt (s.chanOf a) e).spare)
    | none => s.dline a

/-- The device erased for a line's rank (R196). -/
def State.erasedDev (s : State) (a : Nat) : Option Nat :=
  if s.lpr.erasure.isEmpty then none
  else
    let c := s.chanOf a
    let e := s.erasure c (s.rankOf c (s.localOf a))
    if e.erased then some e.dev else none

/-- A channel has failed (R181). -/
def State.chFailed (s : State) (c : Nat) : Bool := decide ((s.ch c).st = 5)

/-- Reads a line as the decoder answers it, without side effects. A line on a failed channel cannot be read (R181).
Desk copies stand in SRAM and are read as they are. -/
def State.peek (s : State) (a : Nat) : LineRead :=
  if a ≥ deskKey * 32 then let l := s.dline a; if l.written then .good l.data l.tag [] else .uncorrectable
  else if s.chFailed (s.chanOf a) then .uncorrectable
  else decodeLine (s.erasedDev a) (s.stored a)

/-- The entry of a shelf in the DRAM copy of the shelf table fails its CHECK (R50): its line was overwritten, through the raw
window or by an injected error, and its 16 bytes no longer agree with bytes 14 and 15, or the line cannot be read. -/
def State.checkBad (s : State) (n : Nat) : Bool :=
  let a := n / 8
  s.shelfHeld a && (Tab.get (fun _ => ({} : DLine)) s.lpr.dram a).written
    && (match s.peek a with
      | .good d _ _ => !shelfCheck (((lineBytes d).drop (n % 8 * 16)).take 16)
      | .uncorrectable => true)

/-- Some shelf-table entry fails its CHECK (TQM_STATUS.CHECK_ERR, R50). -/
def State.shelfBad (s : State) : Bool :=
  s.lpr.dram.any (fun e => s.shelfHeld e.1 && (upTo 8).any (fun i => s.checkBad (e.1 * 8 + i)))

/-- The registrar rewrites every entry that fails its CHECK from the metadata copy (R50). -/
def State.shelfRepair (s : State) : State :=
  if s.shelfBad then
    { s with lpr := { s.lpr with dram := s.lpr.dram.filter (fun e =>
      !(s.shelfHeld e.1 && (upTo 8).any (fun i => s.checkBad (e.1 * 8 + i)))) } }
  else s

/-- The bit on a channel data lane in a beat of a line's burst (R193): device j = lane / 4 drives symbol j of code word
beat / 4, four bits a beat, lane 4j + n carrying bit 4b + n. Lanes 0 to 39 are subchannel A, 40 to 79 subchannel B. -/
def burstBit (d : Line) (t : Tag) (beat lane : Nat) : Bool :=
  let k := beat / 4
  let j := lane / 4
  let c := rsCheck d t k
  let sym := if j = 17 then c.1 else if j = 18 then c.2.1 else if j = 19 then c.2.2 else symOf d t k j
  bitOf sym (4 * (beat % 4) + lane % 4)

/-- The subchannel of a device (R193): false A, true B. -/
def subchannel (dev : Nat) : Bool := decide (10 ≤ dev)

/-- The poison line's tag (R199): TENANT 0xFFF, STATE 4. -/
def poisonTag : Tag := BitVec.ofNat 64 (0xFFF + 4 * 2 ^ 60)

/-- STATE of a tag (R79). -/
def tagState (t : Tag) : Nat := bitsOf t.toNat 62 60

/-- Replaces STATE. -/
def tagWithState (t : Tag) (st : Nat) : Tag := BitVec.ofNat 64 (setBits t.toNat 62 60 st)

/-- A tag from its fields (R79). -/
def mkTag (tenant epoch writer gen stream st : Nat) : Tag :=
  BitVec.ofNat 64 (tenant % 4096 + (epoch % 4096) * 2 ^ 12 + (writer % 4096) * 2 ^ 24 + (gen % 4096) * 2 ^ 36
    + (stream % 4096) * 2 ^ 48 + (st % 8) * 2 ^ 60)

/-! ### The DMCs' queues (R172 to R175, R179) -/

/-- A channel issues a command: its retry buffer keeps the last 32 (R179). -/
def State.retryPut (s : State) (c : Nat) (what : String) (v : Nat) : State :=
  let l := Tab.get (fun _ => ([] : List (String × Nat))) s.lpr.retry c ++ [(what, v)]
  { s with lpr := { s.lpr with retry := Tab.set (fun _ => []) s.lpr.retry c (l.drop (l.length - 32)) } }

/-- Issues the writes at these places of the queue; a bank none of whose writes is left leaves in-order mode (R175). -/
def State.dmcIssue (s : State) (p : Nat → Bool) : State :=
  let left := s.lpr.wq.filter (fun a => !p a)
  let s1 : State := { s with lpr := { s.lpr with
    wq := left
    inord := s.lpr.inord.filter (fun k => left.any (fun a => s.bankKey a == k)) } }
  (s.lpr.wq.filter p).foldl (fun s a => s.retryPut (s.chanOf a) "WR" a) s1

/-- A channel accepts a write: it takes an entry of the channel's write queue (R172). Where all 128 are taken the requester waits
until the oldest is issued. -/
def State.accept (s : State) (a : Nat) (l : DLine) : State :=
  let mine := s.lpr.wq.filter (fun x => s.chanOf x == s.chanOf a)
  let s1 := if mine.length < 128 then s else s.dmcIssue (fun x => x == mine.headD 0)
  ({ s1 with lpr := { s1.lpr with wq := s1.lpr.wq ++ [a] } }).setDline a l

/-- A read enters a bank's queue (R175): where a write to its row still waits, the bank enters in-order mode, counted on DMC_CNT_INORDER
and source +5. A read is never answered from the write queue: the writes before it go first, and it finds what they wrote. -/
def State.dmcRead (s : State) (a0 : Nat) : State :=
  let a := s.phys a0
  let c := s.chanOf a
  if a0 ≥ deskKey * 32 ∨ s.chFailed c then s
  else
    let s1 := s.retryPut c "RD" a
    let k := s.bankKey a
    if s.lpr.inord.contains k then s1
    else if s.lpr.wq.any (fun x => s.bankKey x == k && s.rowOf c (s.localOf x) == s.rowOf c (s.localOf a)) then
      (({ s1 with lpr := { s1.lpr with inord := k :: s1.lpr.inord } }).bump (rDMC_CNT_INORDER + 0x100000 * c)).raise (0x080 + 8 * c + 5)
    else s1

/-! ### Writes -/

/-- Writes a whole line with its tag. An armed injection on this line XORs its symbols into the stored code words,
clears ARM and counts on 0x109 (R207). Until a remap entry is persisted, writes go to the spare and to the original;
afterwards to the spare only (R203). A failed channel loses the write. -/
def State.putLine (s : State) (a : Nat) (d : Line) (t : Tag) : State :=
  if a ≥ deskKey * 32 then s.setDline a { written := true, data := d, tag := t }
  else
    let inj := s.lpr.armed && decide (a = s.fld fLPR_INJ_ADDR_LINE + s.fld fLPR_INJ_CTRL_ADDRH * 2 ^ 32)
    let cw := s.fld fLPR_INJ_CTRL_CW
    let e1 := errXor [] (s.fld fLPR_INJ_CTRL_POS0) (s.fld fLPR_INJ_MASK_XOR0)
    let e2 := if s.flag fLPR_INJ_CTRL_TWO then errXor e1 (s.fld fLPR_INJ_CTRL_POS1) (s.fld fLPR_INJ_MASK_XOR1) else e1
    let errs := if inj then (e2.filter (·.1 < 20)).map (fun e => (cw, e.1, e.2)) else []
    let l : DLine := { written := true, data := d, tag := t, errs := errs }
    let s1 := if inj then ({ s with lpr := { s.lpr with armed := false } }).raise 0x109 else s
    let c := s1.chanOf a
    if s1.chFailed c then s1
    else if s1.lpr.remap.isEmpty then s1.accept a l
    else match s1.remapOf c (s1.localOf a) with
      | none => s1.accept a l
      | some e =>
        let r := s1.remapEnt c e
        let s2 := s1.accept (s1.spareAddr c r.spare) l
        if r.persisted then s2 else s2.accept a l

/-! ### The directory's copies in DRAM (R117, R118) -/

/-- An error injection is armed on a line (R207). -/
def State.armedAt (s : State) (a : Nat) : Bool :=
  s.lpr.armed && decide (a = s.fld fLPR_INJ_ADDR_LINE + s.fld fLPR_INJ_CTRL_ADDRH * 2 ^ 32)

/-- Writes a set's record to one of its lines: DRAM holds it from then on, whatever stood there. -/
def State.dirPut (s : State) (set a : Nat) : State :=
  if s.armedAt a ∨ !s.lpr.remap.isEmpty ∨ s.chFailed (s.chanOf a) then s.putLine a (s.setData set) 0 else s.accept a {}

/-- Writes a set's record to both directory copies (R118), its ages with it. -/
def State.dirWrite (s : State) (set : Nat) : State :=
  if s.fch.held then
    let s1 : State := { s with fch := { s.fch with ages := Tab.set (fun _ => 0) s.fch.ages set (s.agesOf set) } }
    (s1.dirPut set (s1.dirLine set)).dirPut set (s1.dirLine2 set)
  else s

/-- Changes a way. Every change to its set's record but one of AGE alone is written to both directory copies (R118). -/
def State.setWay (s : State) (k : Nat) (w : Way) : State :=
  let old := s.way k
  if k < deskKey ∧ { w with age := 0 } ≠ { old with age := 0 } then (s.putWay k w).dirWrite (k / 16) else s.putWay k w

/-- Changes a set's pin reservations, in both directory copies too (R117, R118). -/
def State.setPinRsv (s : State) (set n : Nat) : State :=
  if s.pinRsv set = n then s else (s.putPinRsv set n).dirWrite set

/-- Both copies of the directory stand in DRAM as the tag cache has it: what was written over them before is gone (R121,
R143). -/
def State.dirFresh (s : State) : State :=
  let s1 : State := { s with fch := { s.fch with held := true, ages := [] } }
  { s1 with lpr := { s1.lpr with dram := s1.lpr.dram.filter (fun e => (s1.dirLineSet e.1).isNone) } }

/-- The erasure entries of a channel as words, for the settings journal. -/
def State.erasureWords (s : State) (c : Nat) : List Nat :=
  (upTo 32).map (fun r => let e := s.erasure c r; e.dev + 32 * b2n e.erased + 64 * b2n e.critical)

/-- Sets an erasure entry and has the registrar store it in the embedded flash (R196, R442). -/
def State.storeErasure (s : State) (c r : Nat) (e : Erasure) : State :=
  let s1 := s.setErasure c r e
  s1.setting (0x0010 + c) (s1.erasureWords c)

/-- Declares a device of a rank dead, or marks the rank CRITICAL when another device is erased already (R196, R197). -/
def State.declareDead (s : State) (c r dev : Nat) : State :=
  let e := s.erasure c r
  if e.erased then
    if e.dev = dev then s
    else if e.critical then s
    else (s.storeErasure c r { e with critical := true }).note 0x3C1 [c, r, dev, 1]
  else (s.storeErasure c r { dev := dev, erased := true, critical := false }).note 0x3C1 [c, r, dev, 0]

/-- Counts one correction of a device (R196): only if its line differs from the last one counted. A device that reaches the
count is declared dead with DEAD_AUTO; the second of a rank makes it CRITICAL whatever DEAD_AUTO says (R197). -/
def State.countCorr (s : State) (a dev : Nat) : State :=
  let c := s.chanOf a
  let r := s.rankOf c (s.localOf a)
  let k := (c * 32 + r) * 20 + dev
  if Tab.get (fun _ => 0) s.lpr.corrLast k = a + 1 then s
  else
    let n := satInc 4095 (Tab.get (fun _ => 0) s.lpr.corr k)
    let s1 := { s with lpr := { s.lpr with
      corr := Tab.set (fun _ => 0) s.lpr.corr k n
      corrLast := Tab.set (fun _ => 0) s.lpr.corrLast k (a + 1) } }
    let lim := max 1 (s.fld fLPR_DEAD_COUNT)
    if n ≥ lim ∧ (s.flag fLPR_CTRL_DEAD_AUTO ∨ (s.erasure c r).erased) then s1.declareDead c r dev else s1

/-- Counts the corrections of one read: LPR_CNT_CE, source 0x101 and the device counters (R196). -/
def State.countFixed (s : State) (a : Nat) (fx : List (Nat × Nat)) : State :=
  fx.foldl (fun s p => ((s.bump rLPR_CNT_CE).raise 0x101).countCorr a p.2) s

/-- Logs an uncorrectable line in the ring of 64 (R198). -/
def State.ringLog (s : State) (a : Nat) (scrub : Bool) : State :=
  let r := s.lpr.ring ++ [(a, scrub)]
  { s with lpr := { s.lpr with ring := r.drop (r.length - 64), ringAt := s.lpr.ringAt + 1 } }

/-- A demand read (R198): data and tag, or none when the request is answered POISON, reason MEDIA. An uncorrectable
line is logged, counted on 0x102 and recorded; a line whose STATE is POISON or reserved is answered without the log. -/
def State.demand (s0 : State) (a : Nat) : State × Option (Line × Tag) :=
  let s := s0.dmcRead a
  match s.peek a with
  | .good d t fx =>
    let s1 := s.countFixed a fx
    if tagState t ≥ 4 then (s1, none) else (s1, some (d, t))
  | .uncorrectable =>
    (((s.ringLog a false).raise 0x102).note 0x3C0 ([s.chanOf a] ++ words2 a ++ [0]) |>.bump rLPR_CNT_UE_DEMAND, none)

/-- Copies a line out of DRAM (R199): corrections count (R196), and an uncorrectable line becomes a poison line. -/
def State.copyLine (s0 : State) (a : Nat) : State × Line × Tag :=
  let s := s0.dmcRead a
  match s.peek a with
  | .good d t fx => (s.countFixed a fx, d, t)
  | .uncorrectable => (s, 0, poisonTag)

/-- Copies the 32 lines of a way. -/
def State.copyWay (s : State) (k : Nat) : State × List (Line × Tag) :=
  (upTo 32).foldl (fun p i => let q := p.1.copyLine (p.1.wayLine k i); (q.1, p.2 ++ [q.2])) (s, [])

/-- Changes STATE alone (R201): folded into a write of the line that is still queued, or by a read and rewrite that nothing comes
between. -/
def State.setLineState (s : State) (a st : Nat) : State :=
  if s.lpr.wq.contains (s.phys a) then
    match s.peek a with
    | .uncorrectable => s
    | .good d t _ => (s.setDline (s.phys a) { s.dline (s.phys a) with data := d, tag := tagWithState t st }).bump rLPR_CNT_TAG_FOLD
  else
    let s0 := s.dmcRead a
    match s0.peek a with
    | .uncorrectable => s0
    | .good d t fx => ((s0.countFixed a fx).putLine a d (tagWithState t st)).bump rLPR_CNT_TAG_RW

/-- Sets STATE of the lines of a way of which `p` holds. -/
def State.setWayStates (s : State) (k : Nat) (p : Nat → Bool) (st : Nat) : State :=
  (upTo 32).foldl (fun s i =>
    match s.peek (s.wayLine k i) with
    | .good _ t _ => if p (tagState t) then s.setLineState (s.wayLine k i) st else s
    | .uncorrectable => s) s

/-- Replaces `n` bytes of a line at byte `off`. -/
def linePatch (d : Line) (off : Nat) (bytes : List Byte) : Line :=
  let l := lineBytes d
  lineOfBytes (l.take off ++ bytes ++ l.drop (off + bytes.length))

/-- Merges the bytes a mask selects (R60, R242). -/
def lineMask (mask : BitVec 128) (new old : Line) : Line :=
  lineOfBytes ((upTo 128).map (fun i =>
    BitVec.ofNat 8 (bitsOf (if mask.getLsbD i then new.toNat else old.toNat) (8 * i + 7) (8 * i))))

end Sys2Proof.Machine
end

