-- ==== Sys2Proof/Machine/StkWire.lean ====
section
/-! DEFINITION. Bytes of the stack links (R3, R145 to R150): messages, their cells, their code words, and what the vault's tiles hold. -/

namespace Sys2Proof.Machine

/-! ### Records -/

/-- Words of a stream record as EPO indirect space shows them; a REPORTED one shows its report's epoch. -/
def Stream.word (r : Stream) (w : Nat) : Nat :=
  let (epoch, mode, uncat, pool, key, segs, ents) := match r.report with
    | some p => (p.epoch, p.mode, p.uncat, p.pool, p.keyShared, p.segs.length, p.entries.length)
    | none => (r.epoch, r.mode, r.uncat, r.pool, r.keyShared, r.segs.length, r.entries.length)
  let st := match r.st with
    | .idle => 0
    | .opened => 1
    | .closing => 2
    | .reported => 3
  if w = 0 then packed [(st, 0), (b2n mode, 2), (epoch % 4096, 3), (flags [uncat, pool, key], 15), (segs % 32, 18)]
  else if w = 1 then ents % 2 ^ 17
  else if w = 2 then packed [(r.writer % 4096, 0), (r.field % 4096, 12)]
  else 0

/-- The 128 B of a stream record in the stream table (R92): words 0 to 2 as EPO indirect space shows them; the manual names no
layout for the rest, which is free (log 108). -/
def Stream.bytes (r : Stream) (i : Nat) : List Byte :=
  (upTo 32).flatMap (fun w => leBytes 4
    (if w < 3 then r.word w else (Config.recordWord 2 w [i, r.lastSsn, r.tenant, b2n r.wrote, b2n r.skip, r.digest.toNat]).toNat))

/-- The bytes of one tile of the stream table: 512 records. -/
def tableBytes (tile : Nat) (listed : Tab Stream) (epoch ssn : Nat) : List Byte :=
  (upTo 512).flatMap (fun k =>
    (Tab.get (fun _ => ({ epoch := epoch, lastSsn := ssn } : Stream)) listed (512 * tile + k)).bytes (512 * tile + k))

/-- A folio record (R150): 32 lines of 128 B, then their 32 line tags of 8 B. -/
def folioRecord (l : List (Line × Tag)) : List Byte := l.flatMap (fun p => lineBytes p.1) ++ l.flatMap (fun p => leBytes 8 p.2.toNat)

/-- The lines and tags of a folio record. -/
def recordLines (b : List Byte) : List (Line × Tag) :=
  (upTo 32).map (fun i => (lineOfBytes ((b.drop (128 * i)).take 128), BitVec.ofNat 64 (leNat ((b.drop (4096 + 8 * i)).take 8))))

/-- Bytes cut into lines of 128 B with a tag of 0. -/
def plainLines (b : List Byte) : List (Line × Tag) := (upTo 32).map (fun i => (lineOfBytes ((b.drop (128 * i)).take 128), 0))

/-! ### Messages (R149) -/

/-- Folios that a mask names. -/
def maskCount (m : Nat) : Nat := ((upTo 16).filter (bitOf m)).length

/-- LENGTH of a request: only TILE_WRITE has a payload. -/
def StkReq.len (r : StkReq) : Nat := if r.op = 2 then 4352 * maskCount r.mask else 0

/-- The 65,536 bytes of a tile that holds no folios of clients (R158, R161). -/
def StkReq.tileBytes (r : StkReq) : List Byte :=
  let b := match r.table with
    | some (t, l, e, n) => tableBytes t l e n
    | none => r.raw
  b ++ List.replicate (65536 - b.length) r.pad

/-- The payload of a request: one folio record for each folio of MASK, ascending. The tags of a tile that holds no folios of
clients are 0 (log 108). -/
def StkReq.payload (r : StkReq) : List Byte :=
  if r.op ≠ 2 then []
  else if r.recs.isEmpty then
    (upTo 16).flatMap (fun k => folioRecord (plainLines ((r.tileBytes.drop (4096 * k)).take 4096)))
  else r.recs.flatMap folioRecord

/-- The 32-byte header of a request (R149). -/
def StkReq.header (r : StkReq) : List Byte :=
  leBytes 32 (r.op % 256 + b2n r.all * 2 ^ 8 + r.tag % 1024 * 2 ^ 16 + r.shelf % 2 ^ 19 * 2 ^ 32 + r.tile % 2 ^ 14 * 2 ^ 64
    + r.mask % 2 ^ 16 * 2 ^ 80 + r.len * 2 ^ 96 + r.arg % 2 ^ 32 * 2 ^ 160 + r.arg2 % 2 ^ 64 * 2 ^ 192)

/-- A request's message. -/
def StkReq.message (r : StkReq) : List Byte := r.header ++ r.payload

/-! ### Cells (R146, R148) -/

/-- Cells of a request. -/
def StkReq.cells (r : StkReq) : Nat := ceilDiv (32 + r.len) 1024

/-- The body of cell `k` of a request; the unused tail of the last is zero. -/
def StkReq.body (r : StkReq) (k : Nat) : List Byte :=
  let b := (r.message.drop (1024 * k)).take 1024
  b ++ List.replicate (1024 - b.length) 0

/-- A cell's header (R146): its CRC-32 covers bits [31:0] and the body. -/
def cellHdr (seq kind : Nat) (first : Bool) (ack : Nat) (nak : Bool) (body : List Byte) : BitVec 64 :=
  let low := packed [(seq % 4096, 0), (kind % 4, 12), (b2n first, 14), (ack % 4096, 16), (b2n nak, 28)]
  BitVec.ofNat 64 (low + (crc32 (leBytes 4 low ++ body)).toNat * 2 ^ 32)

/-- The body of an idle cell. DESIGN CHOICE (log 106): zeros. -/
def idleBody : List Byte := List.replicate 1024 0

/-- Bits enter a link's FEC stream (R145): each 5,140 of them make one code word of RS(528,514), all of it on the one lane. -/
def State.stkFec (s : State) (n : Nat) (bits : List Bool) : State :=
  let l := s.link n
  let all := l.line ++ bits
  let m := all.length / 5140
  (s.setLink n { l with line := all.drop (5140 * m) }).emit (.stkWords n (codeWords 14 m all))

/-- A cell leaves: its header before its body (R146). -/
def State.cellOut (s : State) (n : Nat) (hdr : BitVec 64) (body : List Byte) : State :=
  (s.emit (.cell n hdr body)).stkFec n (bitsOfBytes (leBytes 8 hdr.toNat ++ body))

/-- Sends an idle cell, whose header says what has arrived (R146, R147); NAK has then been said. -/
def State.stkIdle (s : State) (n : Nat) : State :=
  let l := s.link n
  (s.setLink n { l with nak := false }).cellOut n (cellHdr l.txSeq 0 false l.rxSeq l.nak idleBody) idleBody

/-- Sends one data cell under its SEQ: cell `k` of a request (R146, R148). -/
def State.stkCell (s : State) (n seq : Nat) (r : StkReq) (k : Nat) : State :=
  let l := s.link n
  (s.setLink n { l with nak := false }).cellOut n (cellHdr seq 1 (k == 0) l.rxSeq l.nak (r.body k)) (r.body k)

/-- Sends a request's cells (R148) under the next sequence numbers, and keeps them (R147). -/
def State.stkCells (s : State) (n : Nat) (r : StkReq) : State :=
  let l := s.link n
  let new := (upTo r.cells).map (fun k => ((l.txSeq + 1 + k) % 4096, r, k))
  let kept := l.kept ++ new
  let s1 := s.setLink n { l with txSeq := (l.txSeq + r.cells) % 4096, kept := kept.drop (kept.length - 256) }
  new.foldl (fun s c => s.stkCell n c.1 c.2.1 c.2.2) s1

/-- A link that carries cells: trained, and not lost since. -/
def StkLink.carries (l : StkLink) : Bool := l.trained || l.st == 2 || l.st == 4 || l.st == 5

/-- Data cells sent and not yet acknowledged. -/
def StkLink.unacked (l : StkLink) : Nat := (l.txSeq + 4096 - l.rxAck) % 4096

end Sys2Proof.Machine
end

