-- ==== Sys2Proof/Machine/WireOut.lean ====
section
/-! DEFINITION. Bytes of what the MK1 sends on Tvedfy links and on the twin link (R3, R215, R227, R232, R237, R244, R319,
R321, R322): the slots of a message, the control and CONFIG blocks. -/

namespace Sys2Proof.Machine

/-! ### Slots -/

/-- Bytes as slots of 16, the last filled with zeros. -/
def slotsOf (b : List Byte) : List (BitVec 128) :=
  (List.range ((b.length + 15) / 16)).map (fun i => BitVec.ofNat 128 (leNat ((b.drop (16 * i)).take 16)))

/-- A header slot from its link byte (R217), OP, and its other fields. -/
def headSlot (cls slots op : Nat) (fields : List (Nat × Nat)) : BitVec 128 :=
  BitVec.ofNat 128 (packed ([(cls % 4, 0), (slots % 16, 2), (op % 256, 8)] ++ fields))

/-- A message of a header slot and the payload's bytes. -/
def slotMsg (cls op : Nat) (fields : List (Nat × Nat)) (body : List Byte) : List (BitVec 128) :=
  let p := slotsOf body
  headSlot cls (p.length + 1) op fields :: p

/-! ### Tvedfy messages (R237, R244) -/

/-- A response's slots. -/
def TvResp.slots : TvResp → List (BitVec 128)
  | .data tag ok solo b =>
    slotMsg 1 0x80 [(tag % 4096, 16), (b2n ok, 28), (b2n solo, 29), ((b.length - 1) % 256, 32)] b
  | .ack tag dup solo uncat st ep ssn mode map =>
    slotMsg 1 0x81 [(tag % 4096, 16), (flags [dup, solo, uncat], 28), (st % 256, 32), (ep % 4096, 40), (ssn % 65536, 52),
      (b2n mode, 68), (map % 4096, 69)] []
  | .poison tag r => slotMsg 1 0x82 [(tag % 4096, 16), (r % 16, 32)] []
  | .quota tag r => slotMsg 1 0x83 [(tag % 4096, 16), (r % 16, 32)] []
  | .unknownOutcome tag => slotMsg 1 0x84 [(tag % 4096, 16)] []
  | .retryLater tag r => slotMsg 1 0x85 [(tag % 4096, 16), (r % 16, 32)] []
  | .event src kind count stream ep solo =>
    slotMsg 3 0xF0 [(src % 4096, 16), (kind % 16, 28), (count % 4096, 32), (stream % 4096, 44), (ep % 4096, 56), (b2n solo, 68)] []

/-- The control block of ROLE (R232). -/
def roleBlock (holder : Bool) (count : Nat) : List (BitVec 128) :=
  [BitVec.ofNat 128 (packed [(1, 0), (b2n holder, 8), (count % 2 ^ 32, 32)])]

/-- The CONFIG block of a Tvedfy link (R227). -/
def configBlock (split : Bool) (half : Nat) (holder ack : Bool) (uid rq pw ev at_ : Nat) : List (BitVec 128) :=
  slotsOf (leBytes 4 (packed [(1, 0), (b2n split, 8), (half % 2, 9), (b2n holder, 10), (b2n ack, 11)]) ++ leBytes 8 uid
    ++ leBytes 2 rq ++ leBytes 2 0 ++ leBytes 2 pw ++ leBytes 2 ev ++ leBytes 1 at_)

/-- The CONFIG block of the twin link (R319). -/
def twinBlock (ack : Bool) (uid lo hi : Nat) : List (BitVec 128) :=
  slotsOf (leBytes 4 (packed [(1, 0), (b2n ack, 8)]) ++ leBytes 8 uid ++ leBytes 4 lo ++ leBytes 4 hi ++ leBytes 4 32768
    ++ leBytes 1 (2048 / 16) ++ leBytes 1 (64 / 16))

/-! ### Service request records (R419, R423) -/

/-- SVC, FLAGS and the request body of a service. MAP open and close and PLACE come from no mailbox slot: the manual gives
their records no form, so it is free. -/
def Svc.record : Svc → Nat × Nat × List Byte
  | .tenantSet t evt a b c d e f susp =>
    (0x01, 0, leBytes 2 t ++ leBytes 1 evt ++ leBytes 1 (b2n susp) ++ [a, b, c, d, e, f].flatMap (leBytes 4))
  | .portBind ctx h t => (0x02, 0, leBytes 1 (ctx / 2) ++ leBytes 1 (ctx % 2) ++ leBytes 2 h ++ leBytes 2 t)
  | .objCreate t len cls => (0x03, 0, leBytes 2 t ++ leBytes 6 cls ++ leBytes 8 len)
  | .objResize h len => (0x04, 0, leBytes 8 h ++ leBytes 8 len)
  | .objPlace h cls => (0x05, 0, leBytes 8 h ++ leBytes 1 cls)
  | .objDelete h => (0x06, 0, leBytes 8 h)
  | .grantSet h g r w a => (0x07, 0, leBytes 8 h ++ leBytes 2 g ++ leBytes 1 (flags [r, w, a]))
  | .grantClear n => (0x08, 0, leBytes 4 n)
  | .windowSet n t h o off len base r w a =>
    (0x09, 0, leBytes 4 n ++ leBytes 2 t ++ leBytes 2 h ++ leBytes 8 o ++ leBytes 8 off ++ leBytes 8 len ++ leBytes 8 base
      ++ leBytes 1 (flags [r, w, a]))
  | .windowClear n => (0x0A, 0, leBytes 4 n)
  | .netHostSet h _ a0 a1 ok => (0x0B, 0, leBytes 2 h ++ leBytes 14 (b2n ok) ++ leBytes 8 a0 ++ leBytes 8 a1)
  | .reportRelease i => (0x11, 0, leBytes 4 i)
  | .streamAbort i => (0x12, 0, leBytes 4 i)
  | .folioMaint h off len mop => (0x13, 0, leBytes 8 h ++ leBytes 8 off ++ leBytes 4 len ++ leBytes 1 mop)
  | .schedLoad n t i first last es =>
    (0x20, flags [false, first, last], leBytes 2 n ++ leBytes 2 t ++ leBytes 2 i ++ leBytes 10 es.length
      ++ es.flatMap (fun e => leBytes 16 (packed [(e.1, 0), (e.2.1, 64), (e.2.2, 101)])))
  | .schedUnload n => (0x21, 0, leBytes 1 n)
  | .streamSet n w =>
    (0x22, 0, leBytes 2 n ++ leBytes 2 (w.getD 0 0) ++ leBytes 2 (w.getD 1 0) ++ leBytes 1 (w.getD 2 0) ++ leBytes 1 (w.getD 3 0)
      ++ leBytes 2 (w.getD 4 0) ++ leBytes 2 (w.getD 5 0) ++ leBytes 1 (w.getD 6 0) ++ leBytes 1 (w.getD 7 0))
  | .streamRetarget n sch => (0x23, 0, leBytes 1 n ++ leBytes 1 sch)
  | .streamStart n => (0x24, 0, leBytes 1 n)
  | .streamStop n => (0x25, 0, leBytes 1 n)
  | .mapOpen c h r w a k => free 0 [c, h, flags [r, w, a], k]
  | .mapClose c m => free 1 [c, m]
  | .place c m k => free 2 [c, m, k]
where
  /-- A record that the manual gives no form. -/
  free (which : Nat) (l : List Nat) : Nat × Nat × List Byte :=
    ((Config.recordWord 3 0 [which]).toNat % 256, 0, (List.range 4).flatMap (fun w => leBytes 4 (Config.recordWord 3 (w + 1) (which :: l)).toNat))

/-- The request record of a service (R419, R421): bytes 0 to 15 and the body. -/
def Svc.bytes (v : Svc) (token : Nat) : List Byte :=
  let p := v.record
  leBytes 1 p.1 ++ leBytes 1 p.2.1 ++ leBytes 2 p.2.2.length ++ leBytes 4 token ++ leBytes 8 0 ++ p.2.2

/-! ### Table records (R343) -/

/-- A record of a table whose bytes the manual does not place (log 113). -/
def freeRecord (table n words : Nat) (l : List Nat) : Nat × Nat × List Byte :=
  (table, 4 * words * n, (List.range words).flatMap (fun w => leBytes 4 (Config.recordWord (4 + table) w (n :: l)).toNat))

/-- A shelf table entry (R48) with its SLED fields 0: only the logical fields are copied. -/
def Shelf.logical (r : Shelf) : List Byte := Shelf.bytes { r with sled := 0, sledShelf := 0 }

/-- TABLE, OFFSET and bytes of a part of a table. The manual numbers the tables nowhere: the number is free (log 113). -/
def RsItem.record : RsItem → Nat × Nat × List Byte
  | .stream i r => (0, 128 * i, r.bytes i)
  | .window i r =>
    freeRecord 1 i 8 [b2n r.valid, r.tenant, r.host, r.handle, r.off, r.len, r.base, b2n r.r, b2n r.w, b2n r.a, r.tag]
  | .host i b => freeRecord 2 i 8 b
  | .shelf i r => (3, 16 * i, r.logical)
  | .circ i w => freeRecord 4 i 8 w

/-! ### Twin frames (R321, R322) -/

/-- STREAM, LINE, SSN, KIND and RESULT of a write's frame. -/
def wHead (i line ssn kind : Nat) (res : Bool) : List (Nat × Nat) :=
  [(i % 2 ^ 21, 16), (line % 2 ^ 46, 37), (ssn % 65536, 83), (kind % 4, 99), (b2n res, 101)]

/-- A sequenced frame's slots (R321). W_ATOMIC carries its byte offset in [111:105] (DESIGN CHOICE, log 44). -/
def MFrame.slots : MFrame → List (BitVec 128)
  | .wFull i line q kind res d => slotMsg 0 0x01 (wHead i line q kind res) (lineBytes d)
  | .wMasked i line q mask d => slotMsg 0 0x02 (wHead i line q 1 false) (leBytes 16 mask.toNat ++ lineBytes d)
  | .wAtomic i line q aop off a b =>
    slotMsg 0 0x03 (wHead i line q 2 false ++ [(aop % 8, 102), (off % 128, 105)])
      (if aop = 1 then leBytes 16 a.toNat ++ leBytes 16 b.toNat
       else if aop = 0 then leBytes 8 a.toNat ++ leBytes 8 b.toNat else leBytes 16 a.toNat)
  | .wZero i line q => slotMsg 0 0x04 (wHead i line q 3 false) []
  | .epoch i eop cause mode fin sm e =>
    slotMsg 0 0x10 [(i % 2 ^ 21, 16), (eop % 8, 37), (cause % 16, 40), (flags [mode, fin, sm], 44), (e % 4096, 47)] []
  | .ssn i n => slotMsg 0 0x11 [(i % 2 ^ 21, 16), (n % 65536, 37)] []
  | .service v r token => slotMsg 0 0x20 [(v.record.1 % 256, 16), (r % 256, 24)] (v.bytes token)
  | .fill f => slotMsg 0 0x21 [(f % 2 ^ 41, 16)] []
  | .rsLine line tag d => slotMsg 0 0x30 [(line % 2 ^ 46, 16), (tag.toNat, 64)] (lineBytes d)
  | .rsTrim t => slotMsg 0 0x31 [(t % 2 ^ 37, 16)] []
  | .rsState it =>
    let p := it.record
    slotMsg 0 0x32 [((Config.recordWord 9 0 [p.1]).toNat % 256, 16), (p.2.1 % 2 ^ 32, 24)] p.2.2
  | .rsRegion r => slotMsg 0 0x33 [(r % 2 ^ 33, 16)] []
  | .rsEnd => slotMsg 0 0x34 [] []

/-- An unsequenced frame's slots (R322). -/
def UFrame.slots : UFrame → List (BitVec 128)
  | .applied m => slotMsg 1 0x81 [(m % 2 ^ 48, 16)] []
  | .result m ok old => slotMsg 1 0x82 [(m % 2 ^ 48, 16), (b2n ok, 64)] (leBytes 16 (leNat old))
  | .digest i e skip crc m =>
    slotMsg 1 0x83 [(i % 2 ^ 21, 16), (e % 4096, 37), (b2n skip, 49)] (leBytes 8 crc.toNat ++ leBytes 8 (m % 2 ^ 48))
  | .status free stage m => slotMsg 1 0x84 [(free % 2 ^ 24, 16), (stage % 8, 40), (m % 2 ^ 48, 64)] []
  | .fault c m => slotMsg 1 0x85 [(c % 256, 16), (m % 2 ^ 48, 24)] []
  | .diverge l => slotMsg 1 0x86 [(l.length % 256, 16)] (l.flatMap (leBytes 8))
  | .lease g n m => slotMsg 2 0xA0 [(g % 2 ^ 32, 16), (n % 2 ^ 32, 48), (m % 2 ^ 48, 80)] []
  | .leaseAck g n => slotMsg 2 0xA1 [(g % 2 ^ 32, 16), (n % 2 ^ 32, 48)] []
  | .leaseDrop g m r => slotMsg 2 0xA2 [(g % 2 ^ 32, 16), (m % 2 ^ 48, 48), (r % 16, 96)] []
  | .fence g r => slotMsg 2 0xA3 [(g % 2 ^ 32, 16), (r % 16, 48)] []
  | .hello g was st va role d => slotMsg 2 0xA4 [(g % 2 ^ 32, 16), (flags [was, st, va], 48), (role % 8, 51)] (leBytes 16 (d % 2 ^ 64))
  | .join g ok r => slotMsg 2 0xA5 [(g % 2 ^ 32, 16), (b2n ok, 48), (r % 128, 49)] []

/-- A frame's class: 0 Mirror, 1 Return, 2 Lease (R320). -/
def TwinMsg.cls : TwinMsg → Nat
  | .m _ => 0
  | .u f => bitsOf (f.slots.headD 0).toNat 1 0

/-- A frame's slots. -/
def TwinMsg.slots : TwinMsg → List (BitVec 128)
  | .m f => f.slots
  | .u f => f.slots

end Sys2Proof.Machine
end

