-- ==== Sys2Proof/Machine/TvTx.lean ====
section
/-! DEFINITION. Flits that leave on a Tvedfy or twin link (R212, R214 to R220, R223, R318): headers, the replay buffer, the FEC
stream. IDLE flits go out whenever nothing else does; of those only the ones that a command brings about are listed (log 112). -/

namespace Sys2Proof.Machine

def State.tvl_ (s : State) (lk : Nat) : TvLink := Tab.get (fun _ => {}) s.tvl.links lk
def State.setTvl (s : State) (lk : Nat) (l : TvLink) : State :=
  { s with tvl := { s.tvl with links := Tab.set (fun _ => {}) s.tvl.links lk l } }

/-- The twin link is numbered after the 32 Tvedfy links: it follows their rules for training, flits, replay and states
(R318), always at x16, and has no counters, records or sources of theirs. -/
def twinLk : Nat := 32

/-- Lanes of a link (R209, R318). -/
def TvLink.lanes (l : TvLink) (lk : Nat) : Nat := if lk = twinLk then 16 else if l.split then 2 else 4

/-- Entries of a link's replay buffer (R219, R318). -/
def TvLink.cap (l : TvLink) (lk : Nat) : Nat := if lk = twinLk then 2048 else if l.split then 256 else 512

/-- The replay buffer has room for one more flit. -/
def TvLink.room (l : TvLink) (lk : Nat) : Bool := decide ((l.fseq + 4096 - l.ackRx) % 4096 < l.cap lk)

/-- CR_CLASS, CR_COUNT and AT_COUNT of the next flit (R215, R223): the classes an end receives are reported in turn, so each is
reported in every three flits. -/
def TvLink.credits (l : TvLink) (lk : Nat) : Nat × Nat × Nat :=
  if lk = twinLk then
    (l.crTurn, (if l.crTurn = 0 then l.cntRq else if l.crTurn = 1 then l.cntRs else l.cntEv), 0)
  else if l.crTurn = 0 then (0, l.cntRq, l.cntAt)
  else if l.crTurn = 1 then (2, l.cntPw, 0) else (3, l.cntEv, 0)

/-- A flit's header as it leaves now (R215): ACKSEQ and credits are those of the moment. -/
def TvLink.header (l : TvLink) (lk : Nat) (f : Flit) (nak : Bool) : BitVec 64 :=
  let c := l.credits lk
  BitVec.ofNat 64 (packed [(f.ty % 4, 0), (f.fseq % 4096, 2), (l.ackTx % 4096, 14), (b2n nak, 26), (c.1 % 4, 28), (c.2.1 % 4096, 30),
    (c.2.2 % 64, 42), (f.first % 16, 48)])

/-- The bytes of a flit under its CRC (R214, R216). -/
def flitBytes (hdr : BitVec 64) (slots : List (BitVec 128)) : List Byte :=
  leBytes 8 hdr.toNat ++ (upTo 15).flatMap (fun i => leBytes 16 (slots.getD i 0).toNat)

/-- The 256 bytes of a flit. -/
def flitWhole (hdr : BitVec 64) (slots : List (BitVec 128)) : List Byte :=
  let b := flitBytes hdr slots
  b ++ leBytes 8 (digestOut (crc64 digestInit b)).toNat

/-- Bits enter a link's FEC stream (R212): scrambled, and with 5,140 of them together one code word goes to the lanes. -/
def State.fecPut (s : State) (lk : Nat) (bits : List Bool) : State :=
  let l := s.tvl_ lk
  let p := scramble l.scr bits
  let all := l.line ++ p.2
  if all.length < 5140 then s.setTvl lk { l with scr := p.1, line := all }
  else
    (s.setTvl lk { l with scr := p.1, line := all.drop 5140, words := l.words + 1 }).emit
      (.codeWord lk (onLanes (l.lanes lk) l.words (rsEncode 30 (symbols 514 all))))

/-- One flit leaves. -/
def State.putFlit (s : State) (lk : Nat) (f : Flit) (nak : Bool) : State :=
  let l := s.tvl_ lk
  let b := flitWhole (l.header lk f nak) f.slots
  ((s.setTvl lk { l with crTurn := (l.crTurn + 1) % 3 }).emit (.flit lk b)).fecPut lk (bitsOfBytes b)

/-- An IDLE flit: it repeats the last FSEQ sent. -/
def State.idleFlit (s : State) (lk : Nat) (nak : Bool) : State := s.putFlit lk { ty := 0, fseq := (s.tvl_ lk).fseq } nak

/-- A CONFIG flit with its block. -/
def State.configFlit (s : State) (lk : Nat) (slots : List (BitVec 128)) : State := s.putFlit lk { ty := 3, slots := slots } false

/-- A DATA or CTRL flit leaves under the next FSEQ and is kept (R219); on a Tvedfy link it counts in TVL_CNT_FLIT_TX. -/
def State.sendFlit (s : State) (lk ty first : Nat) (slots : List (BitVec 128)) : State :=
  let l := s.tvl_ lk
  let f : Flit := { ty := ty, fseq := (l.fseq + 1) % 4096, first := first, slots := slots }
  let s1 := (s.setTvl lk { l with fseq := f.fseq, kept := l.kept ++ [f] }).putFlit lk f false
  if lk = twinLk then s1 else s1.bump (0x2100124 + 0x100000 * (lk / 2) + 0x80 * (lk % 2))

/-- Every kept flit leaves again, in order (R219). -/
def State.resend (s : State) (lk : Nat) : State := (s.tvl_ lk).kept.foldl (fun s f => s.putFlit lk f false) s

/-- The FEC stream of a link starts with an IDLE flit (R226). -/
def State.fecStart (s : State) (lk : Nat) : State :=
  ((s.setTvl lk { s.tvl_ lk with scr := Config.scramblerStart s.freeCtr, line := [], words := 0, kept := [] }).tickFree).idleFlit lk false

/-- The FSEQ range (a, b] holds `n`. -/
def seqBetween (a b n : Nat) : Bool := decide ((n + 4096 - a) % 4096 ≠ 0 ∧ (n + 4096 - a) % 4096 ≤ (b + 4096 - a) % 4096)

/-- What an ACKSEQ leaves of the replay buffer. -/
def TvLink.acked (l : TvLink) (a : Nat) : TvLink :=
  { l with ackRx := a, replays := 0, kept := l.kept.filter (fun f => !seqBetween l.ackRx a f.fseq) }

/-! ### Frames of the twin link -/

/-- A frame for the partner: it waits for its turn on the twin link. -/
def State.twinWait (s : State) (m : TwinMsg) : State := { s with twn := { s.twn with txq := s.twn.txq ++ [m] } }

/-- An unsequenced frame for the partner (R322). -/
def State.twinOut (s : State) (f : UFrame) : State := (s.emit (.twin f)).twinWait (.u f)

/-- Credits that an end holds on the twin link (R320). -/
def TvLink.twinCred (l : TvLink) (c : Nat) : Nat := if c = 0 then l.credMi else if c = 1 then l.credRs else l.credEv

/-- Credits spent. -/
def TvLink.twinSpend (l : TvLink) (c n : Nat) : TvLink :=
  if c = 0 then { l with credMi := l.credMi - n } else if c = 1 then { l with credRs := l.credRs - n } else { l with credEv := l.credEv - n }

/-- A frame leaves in a flit of its own, or waits for credits and the replay buffer; it holds back every later one of its class
(R321, R223). A link that is not up takes nothing. -/
def State.twinPut (s : State) (m : TwinMsg) : State :=
  let l := s.tvl_ twinLk
  let p := m.slots
  if l.st ≠ 4 ∧ l.st ≠ 5 then s
  else if l.st = 4 ∧ l.room twinLk ∧ p.length ≤ l.twinCred m.cls ∧ !(s.twn.txq.any (fun x => x.cls == m.cls)) then
    (s.setTvl twinLk (l.twinSpend m.cls p.length)).sendFlit twinLk 1 0 p
  else s.twinWait m

/-- Sends what waits for the twin link, in order, while it can. -/
def State.twinPump (s : State) : State :=
  s.twn.txq.foldl (fun s m => s.twinPut m) { s with twn := { s.twn with txq := [] } }

end Sys2Proof.Machine
end

