-- ==== Sys2Proof/Machine/Desk.lean ====
section
/-! DEFINITION. The desk (R346 to R354): pools, owners and minima, the allocator, returns, tenant charges; and the
answers of requests, which give their desk buffer back. -/

namespace Sys2Proof.Machine

/-- Buffer size of a pool (R346). -/
def poolSize (p : Nat) : Nat := [256, 2048, 9216, 65536].getD p 0

/-- Buffers in a pool (R347). -/
def State.poolCount (s : State) (p : Nat) : Nat := s.fld (fBPM_POOL_CFG_COUNT.plus (4 * p))

/-- Desk address of a pool's first byte: pools lie in pool order from 0 (R346). -/
def State.poolBase (s : State) (p : Nat) : Nat := (upTo p).foldl (fun a i => a + s.poolCount i * poolSize i) 0

/-- Headroom of a pool. -/
def State.poolHdrm (s : State) (p : Nat) : Nat := s.fld (fBPM_HDRM_BUFFERS.plus (4 * p))

/-- Owners are 0x00 to 0x57 (R348). -/
def ownerCount : Nat := 0x58

/-- The pools an owner may use (R348). -/
def ownerMay (o p : Nat) : Bool :=
  if o < 0x20 then p == 0
  else if o < 0x40 then decide (p ≤ 2)
  else if o < 0x50 then p == 2 || p == 3
  else if o < 0x54 then p == 3
  else if o = 0x54 then p == 0
  else if o = 0x55 then decide (p ≤ 3)
  else if o = 0x56 then p == 0 || p == 2
  else if o = 0x57 then p == 2 || p == 3
  else false

/-- Default reserved minima (R348). -/
def defaultMin (o p : Nat) : Nat :=
  if o < 0x20 then [128, 0, 0, 0].getD p 0
  else if o < 0x40 then [32, 32, 16, 0].getD p 0
  else if o < 0x50 then [0, 0, 16, 0].getD p 0
  else if o < 0x54 then [0, 0, 0, 48].getD p 0
  else if o = 0x54 then [1024, 0, 0, 0].getD p 0
  else if o = 0x55 then [16, 16, 8, 4].getD p 0
  else if o = 0x56 then [2048, 0, 256, 0].getD p 0
  else if o = 0x57 then [0, 0, 512, 16].getD p 0
  else 0

/-- Reserved minimum of an owner in a pool: the image's, or the default (R348). -/
def State.ownerMin (s : State) (o p : Nat) : Nat :=
  let v := Tab.get (fun _ => 0) s.bpm.minima (o * 4 + p)
  if v = 0 then defaultMin o p else v - 1

/-- The default minima summed over all owners, by pool: 8,208, 1,040, 1,544 and 212 (R348). -/
def State.minSum (s : State) (p : Nat) : Nat := (upTo ownerCount).foldl (fun a o => a + s.ownerMin o p) 0

/-- A pool's buffers in use: its part of the table of buffers. -/
def State.poolBufs (s : State) (p : Nat) : List (Nat × Buf) := s.bpm.bufs.filter (fun e => e.1 / 65536 == p)

/-- F: a pool's free count (R350). -/
def State.poolFree (s : State) (p : Nat) : Nat := s.poolCount p - (s.poolBufs p).length

/-- Buffers an owner has in use in a pool. -/
def State.inUse (s : State) (o p : Nat) : Nat := ((s.poolBufs p).filter (fun e => e.2.owner == o + 1)).length

/-- Headroom buffers in use in a pool. -/
def State.hdrmUse (s : State) (p : Nat) : Nat := ((s.poolBufs p).filter (fun e => e.2.hdrm)).length

/-- R_un: the unused minima of all owners (R350). -/
def State.unusedMin (s : State) (p : Nat) : Nat := (upTo ownerCount).foldl (fun a o => a + (s.ownerMin o p - s.inUse o p)) 0

/-- S: the shared free count (R350). -/
def State.poolShared (s : State) (p : Nat) : Nat := s.poolFree p - s.unusedMin p - s.poolHdrm p

/-- ALPHA of a pool; above 7 acts as 7 (BPM_DT). -/
def State.alpha (s : State) (p : Nat) : Nat :=
  min 7 (s.fld ([fBPM_DT_ALPHA0, fBPM_DT_ALPHA1, fBPM_DT_ALPHA2, fBPM_DT_ALPHA3].getD p fBPM_DT_ALPHA0))

/-- The allocators run (BPM_STATUS.READY) and the pools are in use (BPM_CTRL.ENABLE). -/
def State.bpmOn (s : State) : Bool := s.bpm.ready && s.flag fBPM_CTRL_ENABLE

/-- The rule of R350 that grants a request, 1 to 3, or 0 when it fails in the pool. -/
def State.grantRule (s : State) (o p n : Nat) (lossless : Bool) : Nat :=
  let u := s.inUse o p
  let m := s.ownerMin o p
  let sh := s.poolShared p
  if !s.bpmOn || !ownerMay o p || decide (s.poolFree p < n) then 0
  else if u + n ≤ m then 1
  else if 16 * (u + n - m) ≤ 2 ^ s.alpha p * sh ∧ n ≤ sh then 2
  else if lossless ∧ n ≤ s.poolHdrm p - s.hdrmUse p then 3
  else 0

/-- The n lowest-numbered free buffers of a pool, found from `i` on (R349). -/
def lowestFree (used : List Nat) : Nat → Nat → Nat → List Nat
  | 0, _, _ => []
  | fuel + 1, i, n =>
    if n = 0 then []
    else if used.contains i then lowestFree used fuel (i + 1) n
    else i :: lowestFree used fuel (i + 1) (n - 1)

/-- Grants n buffers of a pool to an owner for a tenant. Answers their pointers. -/
def State.grantBufs (s : State) (o p n : Nat) (hdrm : Bool) (tenant : Option Nat) : State × List Nat :=
  let used := (s.poolBufs p).map (fun e => e.1 % 65536)
  let ix := lowestFree used (used.length + n) 0 n
  let b : Buf := { owner := o + 1, tenant := (tenant.map (· + 1)).getD 0, hdrm := hdrm }
  let bufs := ix.foldl (fun t i => Tab.set (fun _ => {}) t (p * 65536 + i) b) s.bpm.bufs
  let s1 := ({ s with bpm := { s.bpm with bufs := bufs } }).bumpBy (rBPM_CNT_GRANT + 4 * p) n
  let s2 := if hdrm then (s1.bumpBy rBPM_CNT_HDRM_USE n).raise 0x387 else s1
  (s2, ix.map (fun i => s.poolBase p + i * poolSize p))

/-- One request of R349 under R350 and R352: its own pool, then with UPSIZE the next larger pool its owner may use. -/
def State.bpmAlloc (s : State) (o p n : Nat) (upsize lossless : Bool) (tenant : Option Nat) : State × Option (List Nat) :=
  let try1 (s : State) (p : Nat) : State × Option (List Nat) :=
    let r := s.grantRule o p n lossless
    if r = 0 then (s, none)
    else let g := s.grantBufs o p n (r == 3) tenant; (g.1, some g.2)
  match try1 s p with
  | (s1, some l) => (s1, some l)
  | (s1, none) =>
    if !upsize then (s1, none)
    else
      ((upTo 4).filter (fun q => decide (p < q) && ownerMay o q)).foldl (fun a q =>
        match a with
        | (s2, some l) => (s2, some l)
        | (s2, none) => try1 ((s2.bump rBPM_CNT_UPSIZE).raise 0x386) q) (s1, none)

/-- The pool and number of a desk pointer, or the cause of a bad return: 0 RANGE, 1 ALIGN, 2 FREE (R354). -/
def State.ptrFind (s : State) (ptr : Nat) : Except Nat (Nat × Nat) :=
  match (upTo 4).find? (fun p => decide (s.poolBase p ≤ ptr ∧ ptr < s.poolBase p + s.poolCount p * poolSize p)) with
  | none => .error 0
  | some p =>
    let o := ptr - s.poolBase p
    if o % poolSize p ≠ 0 then .error 1
    else
      let k := p * 65536 + o / poolSize p
      if (Tab.get (fun _ => ({} : Buf)) s.bpm.bufs k).owner = 0 then .error 2 else .ok (p, k)

/-- Takes `n` bytes off a tenant's desk usage. -/
def State.deskRelease (s : State) (t n : Nat) : State :=
  let r := Tab.get (fun _ => {}) s.tqm.tenants t
  s.setTenant t { r with deskUse := r.deskUse - n }

/-- A returned pointer (R354): checked, then its bitmap bit is cleared and its tenant's charge released; a bad return is
dropped, counted, latched, and recorded at most once a second. -/
def State.bpmReturn (s : State) (ptr owner : Nat) : State :=
  match s.ptrFind ptr with
  | .ok (p, k) =>
    let b := Tab.get (fun _ => ({} : Buf)) s.bpm.bufs k
    let s1 := { s with bpm := { s.bpm with bufs := Tab.set (fun _ => {}) s.bpm.bufs k {} } }
    if b.tenant = 0 then s1 else s1.deskRelease (b.tenant - 1) (poolSize p)
  | .error c =>
    let s1 := ({ s with bpm := { s.bpm with badPtr := ptr % 2 ^ 27, badCause := c, badOwner := owner } }).raise 0x384
      |>.bump rBPM_CNT_BADRET
    let sec := s.timeUs / 1000000 + 1
    if s.bpm.badSec = sec then s1
    else ({ s1 with bpm := { s1.bpm with badSec := sec } }).note 0x441 [owner, ptr, c]

/-- Charges `n` bytes of desk to a tenant if its limit allows (R353): usage is compared in KiB, rounded up. -/
def State.deskCharge (s : State) (t n : Nat) : Option State :=
  let r := s.tenant t
  let now := (r.deskUse + n + 1023) / 1024
  if r.suspend ∨ (r.deskLim ≠ 0xFFFFFFFF ∧ r.deskLim < now) then none
  else some (s.setTenant t { Tab.get (fun _ => {}) s.tqm.tenants t with deskUse := r.deskUse + n })

/-! ### Answers -/

/-- The Tvedfy form of an answer (R244). -/
def Ans.toTv (tag : Nat) : Ans → TvResp
  | .data b c so => .data tag c so b
  | .ack d so u st e n m mp => .ack tag d so u st e n m mp
  | .poison r => .poison tag r
  | .quota r => .quota tag r
  | .retry r => .retryLater tag r
  | .unknown => .unknownOutcome tag
  | .svc c _ => .ack tag false false false c 0 0 false 0

/-- Slots of a response or event (R217, R244). -/
def respSlots : TvResp → Nat
  | .data _ _ _ b => 1 + (b.length + 15) / 16
  | _ => 1

/-- Class of a message the MK1 sends: Event for EVENT, else Response. -/
def isEvent : TvResp → Bool
  | .event .. => true
  | _ => false

/-- The link can send a message now: ACTIVE, credits for all its slots, room in the replay buffer (R219, R223). -/
def canSend (lk : Nat) (l : TvLink) (r : TvResp) : Bool :=
  l.st == 4 && decide (respSlots r ≤ (if isEvent r then l.credEv else l.credRs)) && l.room lk

/-- Sends a message on a link in a DATA flit of its own, whose remaining slots are null (R217), or queues it until credits and the
replay buffer allow; how messages share flits is timing. A link that is not up takes nothing. -/
def State.tvSend (s : State) (lk : Nat) (r : TvResp) : State :=
  let l := s.tvl_ lk
  if l.st ≠ 4 ∧ l.st ≠ 5 then s
  else if !(l.txq.any (fun x => isEvent x == isEvent r)) ∧ canSend lk l r then
    let n := respSlots r
    ((s.setTvl lk { l with
      credRs := if isEvent r then l.credRs else l.credRs - n
      credEv := if isEvent r then l.credEv - n else l.credEv }).emit (.tv lk r)).sendFlit lk 1 0 r.slots
  else s.setTvl lk { l with txq := l.txq ++ [r] }

/-- Sends what waits on a link, in order, while it can. -/
def State.tvPump (s : State) (lk : Nat) : State :=
  let q := (s.tvl_ lk).txq
  q.foldl (fun s r => s.tvSend lk r) (s.setTvl lk { s.tvl_ lk with txq := [] })

/-- No buffer: pointers are below 2^27. -/
def noBuf : Nat := 2 ^ 27

/-- Ends a request: a Tvedfy answer leaves on its link and its desk buffer returns; every other transport forms its own
answer from the hand-over list. -/
def State.answer1 (s : State) (src : Src) (a : Ans) : State :=
  match src with
  | .nobody => s
  | .tv lk tag buf =>
    let s1 := if tag / 4096 = (s.tvl_ lk).life then s.tvSend lk (a.toTv (tag % 4096)) else s
    if buf ≥ noBuf then s1 else s1.bpmReturn buf lk
  | x => { s with done := s.done ++ [(x, a)] }

/-- The answer of a group once its last part is done (R246). -/
def Grp.final (g : Grp) : Ans :=
  if g.poison ≠ 0 then .poison g.poison
  else if g.quota ≠ 0 then .quota g.quota
  else .ack false g.solo false g.status 0 0 false 0

/-- The answer of FOLIO_MAINT (R423): result code, then response bytes 0 and 1, and the quota code. -/
def Grp.finalSvc (g : Grp) : Ans :=
  let w := g.status + 256 * g.poison
  if g.busy then .svc 3 [w] else if g.poison ≠ 0 then .svc 1 [w] else if g.quota ≠ 0 then .svc 2 [w, g.quota] else .svc 0 [w]

/-- One part of a group ends at folio `f`: the first non-OK answer in ascending folio order stands. -/
def Grp.part (g : Grp) (f : Nat) (a : Ans) : Grp :=
  let first := decide (g.status = 0 ∧ g.poison = 0 ∧ g.quota = 0) || decide (f < g.at_)
  let g1 := { g with left := g.left - 1 }
  match a with
  | .poison r => if first then { g1 with poison := r, at_ := f, status := 0, quota := 0 } else g1
  | .quota r => if first then { g1 with quota := r, at_ := f, status := 0, poison := 0 } else g1
  | .ack _ so _ st _ _ _ _ =>
    let g2 := { g1 with solo := g1.solo || so, busy := g1.busy || st == 0xE }
    if st ≠ 0 ∧ first then { g2 with status := st, at_ := f, poison := 0, quota := 0 } else g2
  | _ => g1

/-- Ends a request or a part of one. -/
def State.answerAt (s : State) (src : Src) (f : Nat) (a : Ans) : State :=
  match src with
  | .grp n =>
    let g := (s.grp n).part f a
    if g.left = 0 then
      (s.setGrp n {}).answer1 g.src (match g.src with | .svc _ => g.finalSvc | .sb _ => g.finalSvc | _ => g.final)
    else s.setGrp n g
  | x => s.answer1 x a

/-- Ends a request. -/
def State.answer (s : State) (src : Src) (a : Ans) : State := s.answerAt src 0 a

/-- Opens a group of `n` parts for a requester. -/
def State.openGrp (s : State) (src : Src) (n : Nat) : State × Nat :=
  let k := s.tqm.nextGrp
  (({ s with tqm := { s.tqm with nextGrp := k + 1 } }).setGrp k { left := n, src := src }, k)

end Sys2Proof.Machine
end

