-- ==== Sys2Proof/Machine/Folio.lean ====
section
/-! DEFINITION. Translation (R24, R27, R29), stack-link requests (R149 to R154), the tag directory, replacement, the
eviction buffer and fills (R116 to R137). -/

namespace Sys2Proof.Machine

/-! ### Translation (R24 to R29) -/

/-- SLOT of a handle (R24). -/
def hSlot (h : Nat) : Nat := h % 2 ^ 20
/-- REUSE of a handle (R24). -/
def hReuse (h : Nat) : Nat := (h / 2 ^ 20) % 2 ^ 16
/-- Owning tenant of a handle (R10). -/
def hTenant (h : Nat) : Nat := (h / 2 ^ 36) % 2 ^ 12
/-- The handle of a live object (R10, R24). -/
def mkHandle (tenant reuse slot : Nat) : Nat := tenant * 2 ^ 36 + (reuse % 2 ^ 16) * 2 ^ 20 + slot

/-- POISON reasons (R245). -/
def rsACCESS : Nat := 1
def rsRANGE : Nat := 2
def rsALIGN : Nat := 3
def rsSTREAM : Nat := 4
def rsMEDIA : Nat := 5
def rsLOST : Nat := 6
def rsSTALE : Nat := 7
def rsFORMAT : Nat := 8
def rsSEQUENCE : Nat := 9

/-- The live object a handle names (R24): tenant and REUSE must match. -/
def State.liveObj (s : State) (h : Nat) : Option Obj :=
  let o := s.obj (hSlot h)
  if o.live ∧ o.tenant = hTenant h ∧ o.reuse = hReuse h ∧ hTenant h ≠ 0xFFF then some o else none

/-- Rights a tenant holds on a handle (R29): the owner all, others through grants to them or to any tenant. -/
def State.rightsOf (s : State) (t h : Nat) : Bool × Bool × Bool :=
  if hTenant h = t then (true, true, true)
  else s.tqm.grants.foldl (fun a e =>
    let g := e.2
    if g.valid ∧ g.handle = h ∧ (g.grantee = t ∨ g.grantee = 0xFFF) then (a.1 || g.r, a.2.1 || g.w, a.2.2 || g.a) else a)
    (false, false, false)

/-- Translates (object, offset) of a request of `size` bytes (R27); the shelf's entry must pass its CHECK (R50). -/
def State.translate (s : State) (h off size : Nat) : Except Nat Nat :=
  match s.liveObj h with
  | none => .error rsACCESS
  | some o =>
    if off + size > o.len then .error rsRANGE
    else
      let lpa := o.base * 2 ^ 30 + off
      if s.checkBad (lpa / 2 ^ 30) ∨ s.checkBad ((lpa + (size - 1)) / 2 ^ 30) then .error rsACCESS
      else .ok lpa

/-- The object that owns a logical shelf, if any. -/
def State.objOfShelf (s : State) (sh : Nat) : Obj := s.obj ((s.shelf sh).object % 2 ^ 20)

/-- The logical shelf of a folio. -/
def shelfOf (folio : Nat) : Nat := folio / 2 ^ 18

/-! ### Stack-link requests -/

/-- Response time allowed for a request, in ms (R154); a field of 0 acts as 1. VAULT_BEGIN may be answered up to
RSV_TIMES.ENTRY. -/
def State.stkTimeout (s : State) (op : Nat) : Nat :=
  if op = 1 then max 1 (s.fld fSTK_TIMEOUT_READ_MS)
  else if op = 2 then max 1 (s.fld fSTK_TIMEOUT_WRITE_MS)
  else if op = 3 then max 1 (s.fld fSTK_TIMEOUT_TRIM_MS)
  else if op = 4 then 1000
  else if op = 6 then max 1 (10 * s.fld fRSV_TIMES_ENTRY)
  else 1

/-- Two requests that may not be outstanding together (R153). -/
def stkClash (a b : StkReq) : Bool :=
  let tiles := fun (r : StkReq) => if r.op = 3 then r.arg % 2 ^ 15 else 1
  let meet := a.shelf == b.shelf && decide (a.tile < b.tile + tiles b ∧ b.tile < a.tile + tiles a)
  let ios := decide (1 ≤ a.op ∧ a.op ≤ 3 ∧ 1 ≤ b.op ∧ b.op ≤ 3)
  ios && meet && !(a.op == 1 && b.op == 1) && (a.op == 3 || b.op == 3 || (a.mask &&& b.mask) != 0)

/-- The next TAG with no request outstanding and past twice its timeout (R152): the model tries them in turn. -/
def pickTag (l : StkLink) (now : Nat) : Nat → Nat → Option Nat
  | 0, _ => none
  | fuel + 1, t =>
    if (l.out.any (fun r => r.tag == t)) || decide (now < Tab.get (fun _ => 0) l.tagFree t) then
      pickTag l now fuel ((t + 1) % 1024)
    else some t

/-- A link that takes requests: UP; any for STATUS; a SEALED one for the vault header (R104). -/
def stkUsable (l : StkLink) (op : Nat) : Bool := l.st == 2 || op == 5 || (l.st == 5 && op == 2)

/-- A request to a sled shelf that a sled taken in as empty has still to trim (R163, R530). -/
def StkLink.untrimmed (l : StkLink) (r : StkReq) : Bool :=
  (r.op == 1 || r.op == 2) && (match l.trimAt with | some k => decide (k ≤ r.shelf) | none => false)

/-- Sends one request if MAX_OUT, R153, the TAGs and the 256 cells kept for a replay (R147) allow; otherwise it waits on its
link. -/
def State.stkTry (s : State) (n : Nat) (r : StkReq) : State × Bool :=
  let l := s.link n
  if !stkUsable l r.op then (s, false)
  else if r.op ≠ 5 ∧ l.out.length ≥ l.maxOut then (s, false)
  else if l.out.any (stkClash r) ∨ l.untrimmed r ∨ 256 < l.unacked + r.cells then (s, false)
  else match pickTag l s.timeUs 1024 l.nextTag with
    | none => (s, false)
    | some t =>
      let r1 := { r with tag := t, since := s.timeUs, seq := (l.txSeq + r.cells) % 4096 }
      let l1 := { l with
        out := l.out ++ [r1]
        nextTag := (t + 1) % 1024
        tagFree := Tab.set (fun _ => 0) l.tagFree t (s.timeUs + 2 * s.stkTimeout r.op * ms) }
      ((s.setLink n l1).stkCells n r1, true)

/-- Sends the requests of a link that wait, in order, each when nothing before it clashes. -/
def State.stkPump (s : State) (n : Nat) : State :=
  let w := (s.link n).wait
  w.foldl (fun s r =>
    let l := s.link n
    if l.wait.any (fun q => q.op != 0 && stkClash r q) then s.setLink n { l with wait := l.wait ++ [r] }
    else
      let p := s.stkTry n r
      if p.2 then p.1 else p.1.setLink n { p.1.link n with wait := (p.1.link n).wait ++ [r] })
    (s.setLink n { s.link n with wait := [] })

/-- Sends a request on a link, or queues it behind those that wait. -/
def State.stkSend (s : State) (n : Nat) (r : StkReq) : State :=
  let r1 := { r with tries := s.fld fSTK_TIMEOUT_RETRIES }
  (s.setLink n { s.link n with wait := (s.link n).wait ++ [r1] }).stkPump n

/-- A link that takes writes: UP, and in a vault also ready (R104). -/
def State.stkReady (s : State) (n : Nat) : Bool := (s.link n).st == 2 && (s.rsv.ph == .off || (bitOf s.rsv.ready n && !bitOf s.rsv.failed n))

/-- The link of the metadata shelf (R160): the primary, or the copy while only the copy can be used. -/
def State.metaLink (s : State) : Nat :=
  let p := s.fld fSTK_META_PRIMARY
  let c := s.fld fSTK_META_COPY
  if !s.stkReady p && s.stkReady c then c else p

/-- The sled shelf and link that hold a folio's data, when its shelf is BACKED or META (R48, R160). -/
def State.sledOf (s : State) (folio : Nat) : Option (Nat × Nat) :=
  let h := s.shelf (shelfOf folio)
  if shelfOf folio = 0 then some (s.metaLink, 9)
  else if h.st = 1 then some (h.sled, h.sledShelf)
  else none

/-- The tile within its shelf that holds a folio. -/
def tileIn (folio : Nat) : Nat := (folio / 16) % 16384

/-! ### The directory -/

/-- The set of a folio (R116). -/
def State.setOf (s : State) (folio : Nat) : Nat :=
  if s.fch.sets = 0 then 0 else ((folio ^^^ (folio >>> 18)) ^^^ (folio >>> 36)) % s.fch.sets

/-- The way that holds a folio, desk copies included. -/
def State.findWay (s : State) (folio : Nat) : Option Nat :=
  (s.fch.dir.find? (fun e => e.2.st != 0 && e.2.folio == folio)).map (·.1)

/-- The folio's fill, if it is filling. -/
def State.fillOf (s : State) (folio : Nat) : Option Fill := s.fch.fills.find? (·.folio == folio)

/-- Replaces or adds a fill. -/
def State.putFill (s : State) (f : Fill) : State :=
  if (s.fillOf f.folio).isSome then
    { s with fch := { s.fch with fills := s.fch.fills.map (fun g => if g.folio == f.folio then f else g) } }
  else { s with fch := { s.fch with fills := s.fch.fills ++ [f] } }

/-- Removes a fill. -/
def State.dropFill (s : State) (folio : Nat) : State :=
  { s with fch := { s.fch with fills := s.fch.fills.filter (fun g => g.folio != folio) } }

/-- Hazard entries in use: folios filling, under maintenance, or waiting (R134). -/
def State.hazUsed (s : State) : Nat :=
  s.fch.fills.length + ((s.fch.maints.map (·.folio)).eraseDups.filter (fun f => (s.fillOf f).isNone)).length

/-- The eviction buffer has no free entry (R130). -/
def State.evbFull (s : State) : Bool := decide (4096 ≤ s.fch.evb.length)

/-- The hazard table takes no request to this folio: it has no entry and none is free (R134). -/
def State.hazFull (s : State) (folio : Nat) : Bool :=
  decide (8192 ≤ s.hazUsed) && (s.fillOf folio).isNone && !s.fch.maints.any (fun m => m.folio == folio)

/-- A way may be chosen as a victim for a fill of `tenant` (R124, R125, R162), its copy in the eviction buffer apart; `bound` is
a fill bound by R44. -/
def State.eligible (s : State) (k tenant : Nat) (bound : Bool) : Bool :=
  let w := s.way k
  let busy := s.fch.maints.any (fun m => m.folio == w.folio) || s.fch.fills.any (fun f => f.way == some k)
  if w.st = 0 then !bound && !busy
  else (w.st == 1 || w.st == 2) && !w.pin && !busy && (s.shelf (shelfOf w.folio)).st != 3
    && (!bound || w.tenant == tenant)

/-- Order of R124: INVALID, then CLEAN and DIRTY of each age, oldest first. -/
def wayRank (w : Way) : Nat := if w.st = 0 then 0 else 1 + 2 * w.age + (if w.st = 2 then 1 else 0)

/-- The victim of R124: the first eligible way in that order, the lowest way number among equals. -/
def State.victim (s : State) (folio tenant : Nat) (bound : Bool) : Option Nat :=
  let set := s.setOf folio
  if s.fch.sets = 0 ∨ s.fch.dead.contains set then none
  else
    let c := ((upTo 16).map (set * 16 + ·)).filter (fun k =>
      s.eligible k tenant bound && !((s.way k).st == 2 && s.evbFull))
    c.foldl (fun a k =>
      match a with
      | none => some k
      | some j => if wayRank (s.way k) < wayRank (s.way j) then some k else some j) none

/-- Only DIRTY ways could be chosen and no eviction-buffer entry is free, so the fill waits for one (R124, R144). -/
def State.victimBlocked (s : State) (folio tenant : Nat) (bound : Bool) : Bool :=
  s.evbFull && decide (0 < s.fch.sets) && !s.fch.dead.contains (s.setOf folio) && (s.victim folio tenant bound).isNone
    && (upTo 16).any (fun i => let k := s.setOf folio * 16 + i; (s.way k).st == 2 && s.eligible k tenant bound)

/-- Adds a copy to the eviction buffer, with the writes in it that the twin has yet to report applied (R130, R131). -/
def State.evbPut (s : State) (folio k : Nat) (lines : List (Line × Tag)) : State :=
  let behind := (s.twn.sent.filter (fun f => f.lines.any (fun l => l / 32 == folio))).map (·.mseq)
  { s with fch := { s.fch with evb := s.fch.evb ++ [({ folio := folio, way := k, lines := lines, behind := behind } : Evb)] } }

/-- Copies a way's 32 lines into the eviction buffer and clears W (R130); poison stands in for a line that cannot be
read (R199). -/
def State.evbTake (s : State) (k st : Nat) : State :=
  let w := s.way k
  let (s0, lines) := s.copyWay k
  (s0.evbPut w.folio k lines).setWay k { w with st := st, w := false }

/-- Binds a victim way to a fill: CLEAN becomes EVICT_CLEAN, DIRTY is copied and becomes EVICT_DIRTY (R136). -/
def State.takeVictim (s : State) (k : Nat) : State :=
  let w := s.way k
  if w.st = 1 then s.setWay k { w with st := 4 }
  else if w.st = 2 then s.evbTake k 5
  else s

/-- The tenant of a fill is at or above its cached limit (R44). -/
def State.cacheFull (s : State) (t : Nat) : Bool :=
  let r := s.tenant t
  !fits r.suspend r.cacheLim 0xFFFFFFFF r.cacheUse 1

/-- The age a fill inserts at: 3 for Cached, 0 for Streamed and for the rest (R39, R122). -/
def State.fillAge (s : State) (folio : Nat) : Nat :=
  if (s.objOfShelf (shelfOf folio)).cls = 0 then 3 else 0

/-- An object whose folios are pinned: Pinned or Unbacked (R39). -/
def pinnedCls (c : Nat) : Bool := c == 2 || c == 3

/-- Releases a folio's cached charge when it leaves its way (R42): pinned folios carry none. -/
def State.uncharge (s : State) (w : Way) : State :=
  if w.st = 0 ∨ w.pin then s
  else
    let r := Tab.get (fun _ => ({} : Tenant)) s.tqm.tenants w.tenant
    s.setTenant w.tenant { r with cacheUse := r.cacheUse - 1 }

/-- Takes a folio's cached charge. -/
def State.chargeCache (s : State) (t : Nat) : State :=
  let r := Tab.get (fun _ => ({} : Tenant)) s.tqm.tenants t
  s.setTenant t { r with cacheUse := r.cacheUse + 1 }

/-- Gives back the cached charge of a fill that ends without its folio (R42). -/
def State.refund (s : State) (f : Fill) : State :=
  if f.charged then
    let r := Tab.get (fun _ => ({} : Tenant)) s.tqm.tenants f.tenant
    s.setTenant f.tenant { r with cacheUse := r.cacheUse - 1 }
  else s

/-- A prefetch may go now: always below stage 2, FILL_SLOW of every 256 from it on (R99). -/
def State.specGo (s : State) : State × Bool :=
  if s.rsv.stage < 2 then (s, true)
  else
    let n := s.fch.slow + s.fld fRSV_STAGE_HYST_FILL_SLOW
    if n ≥ 256 then ({ s with fch := { s.fch with slow := n - 256 } }, true)
    else ({ s with fch := { s.fch with slow := n } }, false)

/-- Sends TILE_READ for a folio (R136); on a demand fill with NEIGHBOURS the rest of its tile is asked for too, where it is
neither resident nor filling (R126), at stage 2 and above at its slowed rate (R99). -/
def State.sendRead (s : State) (folio : Nat) (demand : Bool) : State :=
  match s.sledOf folio with
  | none => s
  | some (n, sh) =>
    let base := folio / 16 * 16
    let near := (upTo 16).filter (fun i => (s.findWay (base + i)).isNone && (s.fillOf (base + i)).isNone && base + i != folio)
    let (s1, go) := if demand ∧ s.flag fFCH_CTRL_NEIGHBOURS ∧ s.fch.mode = 1 ∧ !near.isEmpty then s.specGo else (s, false)
    let mask := 2 ^ (folio % 16) + (if go then near.foldl (fun a i => a + 2 ^ i) 0 else 0)
    s1.stkSend n { op := 1, shelf := sh, tile := tileIn folio, mask := mask, ltile := folio / 16,
                   want := if go then some folio else none }

/-- Touches a tag-cache record: a miss reads the directory and counts; the least recently used record of the cache
index leaves, its AGE fields written back if they changed (R118, R119). -/
def State.tagTouch (s : State) (set : Nat) : State :=
  if s.fch.tagc.contains set then
    { s with fch := { s.fch with tagc := set :: s.fch.tagc.filter (· != set) } }
  else
    let idx := fun (x : Nat) => (x % 8, (x / 8) % 4096)
    let same := s.fch.tagc.filter (fun x => idx x == idx set)
    let out := if same.length < 8 then none else same.getLast?
    let rest := match out with | none => s.fch.tagc | some x => s.fch.tagc.filter (· != x)
    let s1 := match out with
      | some x => if Tab.get (fun _ => 0) s.fch.ages x ≠ s.agesOf x then s.dirWrite x else s
      | none => s
    ({ s1 with fch := { s1.fch with tagc := set :: rest } }).bump rFCH_CNT_TAGC_MISS

/-- The tag cache empties, the AGE fields that changed written back first (R118, R388). -/
def State.tagBack (s : State) : State :=
  let s1 := s.fch.tagc.foldl (fun s x => if Tab.get (fun _ => 0) s.fch.ages x ≠ s.agesOf x then s.dirWrite x else s) s
  { s1 with fch := { s1.fch with tagc := [] } }

/-- A stored line cannot be read: it carries errors beyond the code. A directory line never written reads as its table
says. -/
def State.dirBad (s : State) (a : Nat) : Bool :=
  s.chFailed (s.chanOf a) || ((s.stored a).written && s.peek a == .uncorrectable)

/-- Chooses a way for a fill that has none (R124, R133). Where only DIRTY ways could be chosen and the
eviction buffer is full, the fill waits, counted once on 0x141 (R124, R144); otherwise a load that finds none is served from
the desk. The cached limit is checked and the folio charged in this one step (R42); a fill bound by R44 takes over its
victim's charge when it is installed. -/
def State.bindWay (s : State) (f0 : Fill) (forLoad : Bool) : State :=
  let bound := s.cacheFull f0.tenant && !f0.pin && !f0.charged
  match s.victim f0.folio f0.tenant bound with
  | some k =>
    let f := { f0 with tookDirty := (s.way k).st == 2 }
    let s1 := s.takeVictim k
    if bound ∨ f.pin ∨ f.charged then s1.putFill { f with way := some k, bypass := false }
    else (s1.chargeCache f.tenant).putFill { f with way := some k, bypass := false, charged := true }
  | none =>
    let f := f0
    if s.victimBlocked f.folio f.tenant bound then
      (if f.evbWait then s else s.raise 0x141).putFill { f with evbWait := true }
    else if forLoad then
      ((s.refund f).bump (if bound ∨ s.fch.dead.contains (s.setOf f.folio) then rTQM_CNT_BYPASS else rFCH_CNT_NOWAY)).putFill
        { f with way := none, bypass := true, charged := false }
    else s.putFill f

/-- A fill loses the way it had bound (R133): it chooses again. One whose requests only read is served from the desk where it
finds none; one that nobody waits for is dropped then (R125). -/
def State.rebind (s : State) (f : Fill) : State :=
  let s1 := s.bindWay { f with way := none } (!f.reqs.isEmpty && f.reqs.all FReq.reads && !f.zero)
  if f.reqs.isEmpty ∧ !f.zero then
    match s1.fillOf f.folio with
    | some g => if g.way.isNone ∧ !g.evbWait then (s1.refund g).dropFill f.folio else s1
    | none => s1
  else s1

/-- Reads a set's directory line (R120): a bad first copy is rewritten from the second and counted; when both are bad
the set goes out of use, its ways are abandoned, and record 0x3D0 is written. -/
def State.dirRead (s : State) (set : Nat) : State :=
  if s.fch.tagc.contains set then s.tagTouch set
  else if s.fch.dead.contains set then s
  else
    let s1 := (s.tagTouch set).dmcRead (s.dirLine set)
    if !s1.dirBad (s1.dirLine set) then s1
    else if !s1.dirBad (s1.dirLine2 set) then
      (s1.dirPut set (s1.dirLine set)).bump rFCH_CNT_DIRFIX
    else
      let tn := (upTo 16).map (fun i =>
        match s1.peek (s1.wayLine (set * 16 + i) 0) with | .good _ t _ => bitsOf t.toNat 11 0 | .uncorrectable => 0xFFF)
      let packed := tn.foldr (fun v a => v + a * 4096) 0
      let s2 := (upTo 16).foldl (fun s i => (s.uncharge (s.way (set * 16 + i))).putWay (set * 16 + i) {}) s1
      let s3 := { s2 with fch := { s2.fch with
        dead := set :: s2.fch.dead
        evb := s2.fch.evb.filter (fun e => e.way / 16 != set) } }
      let s4 := (s3.fch.fills.filter (fun f => (f.way.map (· / 16)) == some set)).foldl (fun s f => s.rebind f) s3
      s4.note 0x3D0 (set :: (upTo 6).map (fun i => bitsOf packed (32 * i + 31) (32 * i)))

/-- A lookup of a folio (R119, R120): its set's record comes from the tag cache, or from the directory in DRAM. -/
def State.lookup (s : State) (folio : Nat) : State :=
  if s.fch.held ∧ 0 < s.fch.sets ∧ (s.fch.mode = 1 ∨ s.fch.mode = 2) then s.dirRead (s.setOf folio) else s

/-- A rescue (R133): the folio stays in its way at age 3 and the fill that had chosen the way chooses again. -/
def State.rescue (s : State) (k : Nat) (write : Bool) : State :=
  let w := s.way k
  let sent := (s.fch.evb.find? (fun e => e.way == k)).map (·.sent)
  let s1 :=
    if w.st = 4 then s.setWay k { w with st := 1, age := 3 }
    else match sent with
      | some true => s.setWay k { w with st := 3, age := 3, w := write }
      | _ =>
        ({ s with fch := { s.fch with evb := s.fch.evb.filter (fun e => e.way != k) } }).setWay k { w with st := 2, age := 3 }
  let s2 := s1.bump rFCH_CNT_RESCUE
  match s2.fch.fills.find? (fun f => f.way == some k) with
  | none => s2
  | some f => s2.rebind f

/-- An access finds the folio resident: age 3, a rescue where a fill had chosen the way, a hit counted (R122, R133). -/
def State.access (s : State) (k : Nat) (write : Bool) : State :=
  let s1 := s.bump rFCH_CNT_HIT
  let w := s1.way k
  if w.st = 4 ∨ w.st = 5 then s1.rescue k write else s1.setWay k { w with age := 3 }

/-! ### Reading lines for clients -/

/-- SHELF_GEN of a tag against the shelf's generation (R50). -/
def State.genOk (s : State) (line : Nat) (t : Tag) : Bool :=
  bitsOf t.toNat 47 36 == (s.shelf (line / 2 ^ 23)).gen % 4096

/-- Reads one logical line for a client: from its way, or from the desk copy of its fill (R132). -/
def State.readLine (s : State) (line : Nat) : State × Except Nat (Line × Tag) :=
  let folio := line / 32
  let chk (s : State) (d : Line) (t : Tag) : State × Except Nat (Line × Tag) :=
    if s.genOk line t then (s, .ok (d, t)) else (s.raise 0x151, .error rsSTALE)
  match s.findWay folio with
  | some k =>
    match s.demand (s.wayLine k (line % 32)) with
    | (s1, none) => (s1, .error rsMEDIA)
    | (s1, some (d, t)) => chk s1 d t
  | none =>
    match s.fillOf folio with
    | some { desk := some l, .. } =>
      let p := l.getD (line % 32) (0, poisonTag)
      if tagState p.2 ≥ 4 then (s, .error rsMEDIA) else chk s p.1 p.2
    | _ => (s, .error rsMEDIA)

/-- Reads `n` lines from `line` on: all of them, or the first failure. -/
def State.readLines (s : State) : Nat → Nat → State × Except Nat (List Byte)
  | 0, _ => (s, .ok [])
  | n + 1, line =>
    match s.readLine line with
    | (s1, .error e) => (s1, .error e)
    | (s1, .ok (d, _)) =>
      match s1.readLines n (line + 1) with
      | (s2, .ok l) => (s2, .ok (lineBytes d ++ l))
      | r => r

/-- A folio can be read now: it is resident, or its data stands in the desk (R132). -/
def State.readable (s : State) (folio : Nat) : Bool :=
  (s.findWay folio).isSome || (match s.fillOf folio with | some f => f.desk.isSome | none => false)

/-- Adds a request to the folio's hazard entry. -/
def State.park (s : State) (folio : Nat) (r : FReq) : State :=
  match s.fillOf folio with
  | some f => s.putFill { f with reqs := f.reqs ++ [r] }
  | none => s

end Sys2Proof.Machine
end

