-- ==== Sys2Proof/Machine/Govern.lean ====
section
/-! DEFINITION. The reserve governor: what it counts (R91 to R94), stages (R99), admission (R100), write-through
(R108); the twin's view of it: the solo rule (R59) and the mirror stream's sequence (R321, R323, R342). -/

namespace Sys2Proof.Machine

/-- RSV_FIXED (R92). -/
def rsvFixed : Nat := 35088

/-- A way holds a governed folio (R91, R93, R117): DIRTY, RESHELVING or EVICT_DIRTY, in DRAM. -/
def dirtyWay (k : Nat) (w : Way) : Bool := decide (k < deskKey) && (w.st == 2 || w.st == 3 || w.st == 5)

/-- The link that a folio's shelf lies on (R94). -/
def State.sledLink (s : State) (folio : Nat) : Nat :=
  if shelfOf folio = 0 then s.metaLink else (s.shelf (shelfOf folio)).sled

/-- The folio's shelf is LOST (R94, R162). -/
def State.lostShelf (s : State) (folio : Nat) : Bool := (s.shelf (shelfOf folio)).st == 3

/-- The governor runs: otherwise every write is written through (R108). -/
def State.governs (s : State) : Bool := s.flag fRSV_CTRL_ENABLE && s.flag fRSV_CTRL_BANK_PRESENT

/-- A folio whose write waits for its TILE_WRITE under R108: it is admitted, and counted, only with the acknowledgement, when it
is clean again. -/
def State.throughHeld (s : State) (folio : Nat) : Bool :=
  !s.governs && s.epo.streams.any (fun e => e.2.acks.any (fun a => (a.needTw.map (·.1)) == some folio))

/-- A way's folio is in the governed count (R91, R94, R108). -/
def State.counted (s : State) (k : Nat) (w : Way) : Bool := dirtyWay k w && !s.lostShelf w.folio && !s.throughHeld w.folio

/-- Dirty folios counted against one sled (R94), those of the metadata shelf against its sled. -/
def State.sledDirty (s : State) (n : Nat) : Nat :=
  (s.fch.dir.filter (fun e => s.counted e.1 e.2 && s.sledLink e.2.folio == n)).length
    + (if s.metaLink = n then s.fch.metaDirty.length else 0)

/-- Dirty folios in the governed count, the metadata shelf's included (R91). -/
def State.dirtyCount (s : State) : Nat := (s.fch.dir.filter (fun e => s.counted e.1 e.2)).length + s.fch.metaDirty.length

/-- RSV_STRANDED: dirty folios on lost sleds (R94). -/
def State.stranded (s : State) : Nat :=
  (s.fch.dir.filter (fun e => dirtyWay e.1 e.2 && s.lostShelf e.2.folio)).length

/-- 16 folios for each segment out of the pool (R91). -/
def State.segFolios (s : State) : Nat := 16 * s.epo.used.length

/-- The governed count (R91). -/
def State.governed (s : State) : Nat := s.dirtyCount + s.segFolios + rsvFixed

/-- Sleds present: links UP. -/
def State.sleds (s : State) : List Nat := (upTo 16).filter (fun n => (s.link n).st == 2)

/-- The even share of the fixed charge and the segments, rounded up (R94). -/
def State.evenShare (s : State) : Nat := if s.sleds.length = 0 then 0 else ceilDiv (rsvFixed + s.segFolios) s.sleds.length

/-- One sled's governed count (R94). -/
def State.sledCount (s : State) (n : Nat) : Nat := s.sledDirty n + s.evenShare

/-- The budget in force (R95, R108). -/
def State.budgetNow (s : State) : Nat := if s.governs then s.rsv.budget else rsvFixed + s.segFolios

/-- A sled's budget in force. -/
def State.sledBudget (s : State) (n : Nat) : Nat := Tab.get (fun _ => 0) s.rsv.bs n

/-- 256 × count / budget, as R99 forms it; a budget of 0 with anything counted is above every threshold. -/
def level (count budget : Nat) : Nat := if budget = 0 then (if count = 0 then 0 else 256 * (count + 1)) else 256 * count / budget

/-- L of R99. -/
def State.levelNow (s : State) : Nat :=
  s.sleds.foldl (fun a n => max a (level (s.sledCount n) (s.sledBudget n))) (level s.governed s.budgetNow)

/-- Threshold of stage i, 1 to 4. -/
def State.stageThr (s : State) (i : Nat) : Nat :=
  s.fld ([fRSV_STAGE_THR_S1, fRSV_STAGE_THR_S2, fRSV_STAGE_THR_S3, fRSV_STAGE_THR_S4].getD (i - 1) fRSV_STAGE_THR_S1)

/-- The stage that follows a stage at level L (R99): entered at its threshold, left below threshold less HYST. -/
def State.stageAt (s : State) (old l : Nat) : Nat :=
  [1, 2, 3, 4].foldl (fun a i =>
    if l ≥ s.stageThr i ∨ (i ≤ old ∧ l + s.fld fRSV_STAGE_HYST_HYST ≥ s.stageThr i) then i else a) 0

/-- Forms the level and sets the stage, and checks the budget against the count (R98, R99); each rise to stage 3 or to stage 4
counts on 0x160. In a vault nothing extra is written (R105). -/
def State.govern (s : State) : State :=
  if !s.governs then { s with rsv := { s.rsv with stage := 0, overB := false } }
  else
    let st := s.stageAt s.rsv.stage s.levelNow
    let s1 := if st ≥ 3 ∧ s.rsv.stage < st then s.raise 0x160 else s
    let ov := decide (s.budgetNow < s.governed)
    let s2 := if ov && !s.rsv.overB && s.rsv.ph == .off then s1.note 0x4A2 [s.budgetNow, s.governed] else s1
    { s2 with rsv := { s2.rsv with stage := st, overB := ov } }

/-- The folio is in the governed count already (R100). -/
def State.inCount (s : State) (folio : Nat) : Bool := s.fch.dir.any (fun e => e.2.folio == folio && s.counted e.1 e.2)

/-- A sled's governed count after `d` more folios of its own and `g` more segments, which are spread evenly (R94, R100). -/
def State.sledAfter (s : State) (n d g : Nat) : Nat :=
  s.sledDirty n + d + (if s.sleds.length = 0 then 0 else ceilDiv (rsvFixed + s.segFolios + 16 * g) s.sleds.length)

/-- Admission (R100): a write to a folio already counted always passes; one that brings `d` folios or `g` new segments into the
count must fit the total budget and, where its shelf has a sled that is there, that sled's. In write-through every write waits
for its own TILE_WRITE instead (R108). -/
def State.admits (s : State) (folio d g : Nat) : Bool :=
  if d = 0 ∧ g = 0 then true
  else if !s.governs ∨ s.inCount folio then true
  else decide (s.governed + d + 16 * g ≤ s.budgetNow) &&
    ((s.shelf (shelfOf folio)).st != 1 || decide (s.sledAfter (s.sledLink folio) d g ≤ s.sledBudget (s.sledLink folio)))

/-! ### Standby, solo rule, mirror stream -/

/-- The unit serves clients: it holds the token, or is UNPAIRED (R315). -/
def State.holder (s : State) : Bool := s.twn.role == .active || s.twn.role == .unpaired

/-- No standby is in step (R59). -/
def State.solo (s : State) : Bool := !(s.twn.role == .active && s.twn.partner == .inStep)

/-- EPO_STATUS.SOLO (R59): the solo rule is in force. On a standby that is in step itself it is not. -/
def State.soloShown (s : State) : Bool := s.solo && s.twn.role != .inStep

/-- A standby takes sequenced frames: it is catching up or in step. -/
def State.mirrors (s : State) : Bool := s.twn.role == .active && s.twn.partner != .lost

/-- The unit executes mirrored frames. -/
def State.standby (s : State) : Bool := s.twn.role == .inStep || s.twn.role == .catchingUp || s.twn.gaining.isSome

/-- The MiB region of a line (R11, R342). -/
def regionOf (line : Nat) : Nat := line / 8192

/-- Marks a region of the change map (R342). -/
def State.mark (s : State) (region : Nat) : State :=
  if s.twn.chmap.contains region then s else { s with twn := { s.twn with chmap := region :: s.twn.chmap } }

/-- Sends a sequenced frame under the next MSEQ when a standby takes them (R321); answers the MSEQ. -/
def State.mirror (s : State) (f : MFrame) (lines : List Nat) : State × Option Nat :=
  if s.mirrors then
    let m := s.twn.mseq
    let s1 := { s with twn := { s.twn with
      mseq := (m + 1) % 2 ^ 48
      appliedAt := if s.twn.sent.isEmpty then s.timeUs else s.twn.appliedAt
      sent := s.twn.sent ++ [({ mseq := m, lines := lines } : SentFrame)] } }
    (((s1.emit (.mirror m f)).twinWait (.m f)).bump rTWN_CNT_FRAMES, some m)
  else if s.twn.role == .active then (lines.foldl (fun s l => s.mark (regionOf l)) s, none)
  else (s, none)

/-- Sends a sequenced frame whose MSEQ nobody needs. -/
def State.mirror_ (s : State) (f : MFrame) : State := (s.mirror f []).1

/-- MSEQ `m` is covered by the last APPLIED, or was never outstanding. -/
def State.covered (s : State) (m : Nat) : Bool := !(s.twn.sent.any (fun f => f.mseq == m))

/-- EPO_LAG_NOW in bytes: posted bytes acknowledged and not mirrored (R58). -/
def State.lagBytes (s : State) : Nat := s.twn.sent.foldl (fun a f => a + f.posted) 0

/-- R58 limit reached. -/
def State.lagFull (s : State) : Bool := decide (s.fld fEPO_LAG_LIMIT_MIB * 2 ^ 20 ≤ s.lagBytes)

end Sys2Proof.Machine
end

