-- ==== Sys2Proof/Machine/Write.lean ====
section
/-! DEFINITION. Writes: the accession log (R72 to R78), the application of one write to its line (R55, R60, R79), the
answers it waits for (R55, R58, R59, R329), the order of a stream (R65, R100, R248, R250), fills started and finished
(R136), closes (R67). -/

namespace Sys2Proof.Machine

/-! ### The accession log -/

/-- An accession entry (R72). -/
def mkEntry (line tenant epoch seq : Nat) (crc : BitVec 16) (kind : Nat) : Entry :=
  BitVec.ofNat 128 (line % 2 ^ 46 + (tenant % 4096) * 2 ^ 46 + (epoch % 4096) * 2 ^ 58 + (seq % 65536) * 2 ^ 70
    + crc.toNat * 2 ^ 86 + (kind % 4) * 2 ^ 102)

/-- Fields of an entry (R72). -/
def entLine (e : Entry) : Nat := bitsOf e.toNat 45 0
def entCrc (e : Entry) : Nat := bitsOf e.toNat 101 86
def entKind (e : Entry) : Nat := bitsOf e.toNat 103 102
def entSeq (e : Entry) : Nat := bitsOf e.toNat 85 70
def entEpoch (e : Entry) : Nat := bitsOf e.toNat 69 58

/-- An entry with its verdict (R72, R83). -/
def entVerdict (e : Entry) (v : Nat) (poison : Bool) : Entry :=
  BitVec.ofNat 128 (setBits (setBits e.toNat 106 104 v) 107 107 (b2n poison))

/-- An entry names a line: its own, or any of the 32 of a zero-folio (R72, R86). -/
def entNames (e : Entry) (line : Nat) : Bool :=
  if entKind e = 3 then entLine e / 32 == line / 32 else entLine e == line

/-- KIND of a write (R72). -/
def WOp.kind : WOp → Nat
  | .full _ => 0
  | .masked .. => 1
  | .atomic .. => 2
  | .zero => 3

/-- A write is narrow: a read-modify-write of its line (R60). A mask with every bit set is a full-line store. -/
def WOp.narrow : WOp → Bool
  | .masked m _ => m != BitVec.allOnes 128
  | .atomic .. => true
  | _ => false

/-- Segments an epoch may hold (R76). -/
def State.segCap (s : State) : Nat := if s.fld fEPO_CTRL_CAP = 0 then 16 else s.fld fEPO_CTRL_CAP

/-- The write's entry needs a new segment (R75). -/
def needsSeg (r : Stream) : Bool := !r.uncat && r.entries.length % 4096 == 0 && r.entries.length / 4096 == r.segs.length

/-- What R76 decides when a segment is needed. -/
inductive SegDec where
  | none | take | refuse | cap | pool
deriving DecidableEq, Repr

/-- The decision of R76, in its order. The standby refuses nothing (R325). -/
def State.segDecide (s : State) (r : Stream) : SegDec :=
  if !needsSeg r then .none
  else
    let t := s.tenant r.tenant
    if !s.standby && !fits t.suspend t.accLim 0xFFFF t.accUse 1 then .refuse
    else if r.segs.length ≥ s.segCap then .cap
    else if s.epo.used.length ≥ s.fld fEPO_POOL_SIZE_SEGS then .pool
    else .take

/-- The lowest segment of the pool not in use. -/
def lowSeg (used : List Nat) : Nat → Nat → Nat
  | 0, i => i
  | fuel + 1, i => if used.contains i then lowSeg used fuel (i + 1) else i

/-- Takes a segment for a stream's epoch and charges the tenant of its binding (R42, R75). -/
def State.takeSeg (s : State) (i : Nat) : State :=
  let r := s.stream i
  let g := lowSeg s.epo.used s.epo.used.length 0
  let s1 := ({ s with epo := { s.epo with used := s.epo.used ++ [g] } }).setStream i { r with segs := r.segs ++ [g] }
  let t := Tab.get (fun _ => ({} : Tenant)) s1.tqm.tenants r.tenant
  s1.setTenant r.tenant { t with accUse := t.accUse + 1 }

/-- Returns segments to the pool and releases the tenant's usage (R67 step 5). -/
def State.freeSegs (s : State) (tenant : Nat) (l : List Nat) : State :=
  let t := Tab.get (fun _ => ({} : Tenant)) s.tqm.tenants tenant
  ({ s with epo := { s.epo with used := s.epo.used.filter (fun g => !l.contains g) } }).setTenant tenant
    { t with accUse := t.accUse - l.length }

/-- Segments a stream keeps out of the pool: its epoch's, or its report's (R75, R87). -/
def Stream.segsHeld (r : Stream) : List Nat := match r.report with | some p => p.segs | none => r.segs

/-- Takes segments out of the pool for a stream that is restored or copied, with the tenant's charge (R75). -/
def State.holdSegs (s : State) (tenant : Nat) (l : List Nat) : State :=
  if l.isEmpty then s
  else
    let t := Tab.get (fun _ => ({} : Tenant)) s.tqm.tenants tenant
    ({ s with epo := { s.epo with used := s.epo.used ++ l.filter (fun g => !s.epo.used.contains g) } }).setTenant tenant
      { t with accUse := t.accUse + l.length }

/-! ### Shelf ranges (R78) -/

/-- Inserts a one-shelf range in ascending order. -/
def rangeInsert (f : Nat) : List (Nat × Nat) → List (Nat × Nat)
  | [] => [(f, 1)]
  | (a, n) :: t => if f < a then (f, 1) :: (a, n) :: t else (a, n) :: rangeInsert f t

/-- Joins neighbours that touch or overlap. -/
def rangeJoin : List (Nat × Nat) → List (Nat × Nat)
  | [] => []
  | (a, n) :: t =>
    match rangeJoin t with
    | [] => [(a, n)]
    | (b, m) :: u => if b ≤ a + n then (a, max (a + n) (b + m) - a) :: u else (a, n) :: (b, m) :: u

/-- The smallest gap between neighbours. -/
def rangeGap : List (Nat × Nat) → Option Nat
  | (a, n) :: (b, m) :: t =>
    let g := b - (a + n)
    match rangeGap ((b, m) :: t) with
    | none => some g
    | some h => some (min g h)
  | _ => none

/-- Merges the first pair of neighbours with that gap, gap included. -/
def rangeMerge (g : Nat) : List (Nat × Nat) → List (Nat × Nat)
  | (a, n) :: (b, m) :: t => if b - (a + n) = g then (a, b + m - a) :: t else (a, n) :: rangeMerge g ((b, m) :: t)
  | l => l

/-- Records a written shelf (R78): at most 8 ranges, which never overlap or touch. -/
def rangeAdd (l : List (Nat × Nat)) (f : Nat) : List (Nat × Nat) :=
  if l.any (fun r => decide (r.1 ≤ f ∧ f < r.1 + r.2)) then l
  else
    let l1 := rangeJoin (rangeInsert f l)
    if l1.length ≤ 8 then l1 else match rangeGap l1 with | some g => rangeMerge g l1 | none => l1

/-! ### Digest (R216, R328) -/

/-- The digest after one more entry: LINE in 8 bytes, then the line's 128 bytes. -/
def digestAdd (d : BitVec 64) (line : Nat) (data : Line) : BitVec 64 := crc64 (crc64 d (leBytes 8 line)) (lineBytes data)

/-! ### Atomics (R243) -/

/-- Bytes an atomic touches. -/
def aopSize (aop : Nat) : Nat := if aop = 1 ∨ aop = 4 then 16 else 8

/-- Old value, new bytes to write (none for a compare that failed), and CAS_OK. -/
def atomicRun (aop off : Nat) (a b : BitVec 128) (line : Line) : List Byte × Option (List Byte) × Bool :=
  let n := aopSize aop
  let old := ((lineBytes line).drop off).take n
  let lo := fun (x : BitVec 128) => x.toNat % 2 ^ 64
  let hi := fun (x : BitVec 128) => x.toNat / 2 ^ 64
  if aop = 0 then (if leNat old = lo a then (old, some (leBytes 8 (hi a)), true) else (old, none, false))
  else if aop = 1 then (if leNat old = a.toNat then (old, some (leBytes 16 b.toNat), true) else (old, none, false))
  else if aop = 2 then (old, some (leBytes 8 ((leNat old + lo a) % 2 ^ 64)), false)
  else if aop = 3 then (old, some (leBytes 8 (lo a)), false)
  else (old, some (leBytes 16 a.toNat), false)

/-! ### Answers that wait -/

/-- An acknowledgement may leave (R55, R58, R59, R329). -/
def State.ackReady (s : State) (a : AckWait) (earlier : Bool) : Bool :=
  if a.dup then !earlier
  else
    let twin := match a.mseq with | some m => s.covered m | none => true
    let res := !a.needResult || s.solo
    a.needTw.isNone && res && (if a.mirrored then (twin || s.solo) else !s.lagFull)

/-- Sends one acknowledgement: a posted one not yet mirrored counts toward the lag (R58). -/
def State.sendAck (s : State) (a : AckWait) : State :=
  let so := a.mirrored && s.solo
  let s1 := match a.old with
    | some (b, c) => s.answer a.src (.data b c so)
    | none => s.answer a.src (.ack a.dup so false 0 0 0 false 0)
  match a.mseq with
  | some m =>
    if a.mirrored then s1
    else { s1 with twn := { s1.twn with
      sent := s1.twn.sent.map (fun f => if f.mseq == m then { f with posted := f.posted + 128 * f.lines.length } else f) } }
  | none => s1

/-- Sends every acknowledgement of a stream that may leave; the rest stay in order. -/
def State.releaseAcks (s : State) (i : Nat) : State :=
  let r := s.stream i
  if r.acks.isEmpty then s
  else
    let p := r.acks.foldl (fun (p : State × List AckWait) a =>
      if p.1.ackReady a (!p.2.isEmpty) then (p.1.sendAck a, p.2) else (p.1, p.2 ++ [a])) (s, [])
    p.1.setStream i { p.1.stream i with acks := p.2 }

/-- Sends every acknowledgement that may leave, over all streams. -/
def State.releaseAll (s : State) : State := s.epo.streams.foldl (fun s e => s.releaseAcks e.1) s

/-! ### One write -/

/-- What became of a write at the front of its stream. -/
inductive WDone where
  /-- it is out of the stream's order -/
  | gone (s : State)
  /-- it waits; the stream waits behind it -/
  | waits (s : State)

/-- Refuses the front write: the answer, its refusal counted, and SSN sent to the twin (R249, R323). -/
def State.refuseWrite (s : State) (i : Nat) (r : WriteReq) (a : Ans) : State :=
  let s1 := match r.src with
    | .sb _ => s
    | _ => if i < 65536 then s.mirror_ (.ssn i r.ssn) else s
  s1.answer r.src a

/-- The frame that carries an applied write (R321, R343 step 2): its own form, or the line as it stands when its region is
still marked. -/
def State.frameOf (s : State) (i : Nat) (r : WriteReq) (newLine : Line) : MFrame :=
  let marked := s.twn.partner == .catching && s.twn.chmap.contains (regionOf r.line)
  match r.op with
  | .full d => .wFull i r.line r.ssn ((r.kind).getD 0) false d
  | .masked m d => if marked then .wFull i r.line r.ssn 1 true newLine else .wMasked i r.line r.ssn m d
  | .atomic aop off a b => if marked then .wFull i r.line r.ssn 2 true newLine else .wAtomic i r.line r.ssn aop off a b
  | .zero => .wZero i r.line r.ssn

/-- Applies a write whose folio is in way `k` (R55, R60, R72, R79, R118): narrow writes read their line first and are
refused POISON where it cannot be read, and so is every write to a channel that has failed (R181); the entry, the line with its tag, the folio's state, the ranges, the digest and
the mirror frame follow; the answer waits for R55. Answers the state with the write out of its stream's order. -/
def State.applyWrite (s : State) (i k : Nat) (r : WriteReq) : State :=
  let onStandby := match r.src with | .sb _ => true | _ => false
  let folio := r.line / 32
  let (s0, rd) :=
    if k < deskKey ∧ s.chFailed (s.chanOf (s.wayLine k 0)) then (s, .error rsMEDIA)
    else if r.op.narrow then s.readLine r.line
    else (s, .ok (0, 0))
  match rd with
  | .error e => s0.refuseWrite i r (.poison e)
  | .ok (oldLine, _) =>
    let (newLine, old, isWrite) : Line × Option (List Byte × Bool) × Bool := match r.op with
      | .full d => (d, none, true)
      | .masked m d => (lineMask m d oldLine, none, true)
      | .zero => (0, none, true)
      | .atomic aop off a b =>
        let t := atomicRun aop off a b oldLine
        match t.2.1 with
        | some nb => (linePatch oldLine off nb, some (t.1, t.2.2), true)
        | none => (oldLine, some (t.1, false), false)
    if !isWrite then s0.answer r.src (.data ((old.getD ([], false)).1) false false)
    else
      match s0.segDecide (s0.stream i) with
      | .refuse => (s0.refuse (s0.stream i).tenant 0x5).refuseWrite i r (.quota 0x5)
      | dec =>
        let s1 := match dec with
          | .take => s0.takeSeg i
          | .cap => ((s0.setStream i { s0.stream i with uncat := true, pool := false }).raise 0x171).bump rEPO_CNT_UNCAT
          | .pool => ((s0.setStream i { s0.stream i with uncat := true, pool := true }).raise 0x172).bump rEPO_CNT_UNCAT
          | _ => s0
        let st := s1.stream i
        let obj := s1.objOfShelf (shelfOf folio)
        let unb := obj.cls == 3
        let lst := if onStandby then (if unb then 3 else 1) else 2
        let tag := mkTag r.owner st.epoch r.host ((s1.shelf (shelfOf folio)).gen) st.field lst
        let zeroOp := r.op.kind == 3
        let s2 := if zeroOp then (upTo 32).foldl (fun s j => s.putLine (s.wayLine k j) 0 tag) s1
          else s1.putLine (s1.wayLine k (r.line % 32)) newLine tag
        let w := s2.way k
        let s3 := s2.setWay k
          (if unb then { w with age := 3 }
           else if w.st = 1 then { w with st := 2, age := 3 }
           else if w.st = 3 then { w with w := true, age := 3 }
           else { w with age := 3 })
        let kind := (r.kind).getD r.op.kind
        let st3 := s3.stream i
        let ent := mkEntry r.line r.owner st3.epoch st3.entries.length (crc16 (lineBytes newLine)) kind
        let st4 := { st3 with
          entries := if st3.uncat then st3.entries else st3.entries ++ [ent]
          skip := if st3.wrote then st3.skip else s3.twn.role == .catchingUp
          wrote := true
          ranges := rangeAdd st3.ranges (shelfOf folio)
          digest := digestAdd st3.digest r.line newLine }
        let s4 := s3.setStream i st4
        let s5 := if st3.uncat then s4 else s4.bump rEPO_CNT_ENTRIES
        let s6 := if r.op.narrow then s5.bump rEPO_CNT_RMW else s5
        let lines := if zeroOp then (upTo 32).map (fun j => r.line + j) else [r.line]
        if onStandby then
          let s60 := s6.spend r.owner 4 lines.length
          let s7 := match r.op, old with
            | .atomic .., some (b, c) =>
              (match r.src with | .sb m => s60.emit (.twin (.result m c b)) | _ => s60)
            | _, _ => s60
          s7.answer r.src .ok
        else
          let (s7, m) := (s6.spend r.owner 1 lines.length).mirror (s6.frameOf i r newLine) lines
          let isAtom := match r.op with | .atomic .. => true | _ => false
          let sentAtom := match s6.frameOf i r newLine with | .wAtomic .. => m.isSome | _ => false
          let s8 := if sentAtom then
            { s7 with twn := { s7.twn with atoms := s7.twn.atoms ++
              [({ mseq := m.getD 0, old := (old.getD ([], false)).1, casOk := (old.getD ([], false)).2, stream := i } : AtomWait)] } }
            else s7
          let through := !s8.governs || s8.fch.mode == 0 || s8.fch.mode == 2
          let s81 := if s8.governs ∨ unb then s8 else (s8.bump rRSV_CNT_WAIT).raise 0x161
          let s9 := if through ∧ !unb ∧ (s81.way k).st = 2 ∧ !s81.evbFull then s81.evbTake k 3 else s81
          let tw := if through ∧ !unb then some (folio, if (s9.way k).w then 2 else 1) else none
          let a : AckWait :=
            { src := r.src
              old := if isAtom then old else none
              mirrored := (s9.stream i).mode
              mseq := m
              needResult := sentAtom && (s9.stream i).mode
              needTw := tw
              ctx := r.ctx
              map := r.map
              win := r.win }
          (s9.setStream i { s9.stream i with acks := (s9.stream i).acks ++ [a] }).releaseAcks i

/-- A miss on a LOST shelf (R156): counted on its link's read-failure source, and record 0x3E3 with the folio's place. -/
def State.lostMiss (s : State) (folio : Nat) : State :=
  let h := s.shelf (shelfOf folio)
  (s.raise (0x182 + 8 * h.sled)).note 0x3E3 [h.sled, h.sledShelf, tileIn folio, 0]

/-- Counts a write's wait for the budget once (R100). -/
def State.budgetWait (s : State) (i : Nat) (r : WriteReq) (rest : List SItem) : State :=
  if r.waitedB then s
  else ((s.setStream i { s.stream i with queue := .write { r with waitedB := true } :: rest }).bump rRSV_CNT_WAIT).raise 0x161

/-- Counts a write's wait for a way once (R125). -/
def State.victimWait (s : State) (i : Nat) (r : WriteReq) (rest : List SItem) : State :=
  if r.waitedV then s
  else (s.setStream i { s.stream i with queue := .write { r with waitedV := true } :: rest }).bump rFCH_CNT_VICTIM_WAIT

/-- A fill of an absent folio begins for a request (R136): its hazard entry, a victim, TILE_READ. -/
def State.startFill (s : State) (folio tenant : Nat) (q : Option FReq) (spec pin zero cir : Bool) : State :=
  let isLoad := q.elim false FReq.reads
  let f : Fill :=
    { folio := folio
      tenant := tenant
      since := s.timeUs
      spec := spec
      pin := pin
      zero := zero
      cir := cir
      age := if spec then (if pin then 0 else 3) else s.fillAge folio
      reqs := q.toList }
  let s1 := ((s.bump rFCH_CNT_MISS).putFill f).bindWay f isLoad
  if zero then
    match s1.fillOf folio, q with
    | some { way := none, .. }, some (.maint _) => s1.bump rFCH_CNT_VICTIM_WAIT
    | _, _ => s1
  else s1.sendRead folio (!spec)

/-- A desk copy of an absent folio for a write while the reading room is disabled (R142): filled from the sled. Each copy has a
key of its own. -/
def State.startThrough (s : State) (folio tenant : Nat) (q : FReq) : State :=
  let s1 := s.putFill { folio := folio, tenant := tenant, through := true, way := some (deskKey + s.fch.nextDesk), reqs := [q] }
  ({ s1 with fch := { s1.fch with nextDesk := s1.fch.nextDesk + 1 } }).sendRead folio false

/-- FCH_PIN_LIMIT.WAYS; 0 acts as 1 (R127). -/
def State.pinLimit (s : State) : Nat := max 1 (s.fld fFCH_PIN_LIMIT_WAYS)

/-- The pinned load of a set (R127). -/
def State.pinLoad (s : State) (set : Nat) : Nat :=
  ((upTo 16).filter (fun w => (s.way (set * 16 + w)).st != 0 && (s.way (set * 16 + w)).pin)).length + s.pinRsv set

/-- A set's pinned load is below the limit (R127). -/
def State.pinRoom (s : State) (set : Nat) : Bool := decide (s.pinLoad set < s.pinLimit)

/-- Installs a fill's lines in its way (R136): the victim leaves, charges move, FILL goes to the twin, a pinned
object's promotion advances. The requests of its hazard entry are the caller's. -/
def State.installLines (s : State) (f : Fill) (k : Nat) (lines : List (Line × Tag)) : State :=
  let v := s.way k
  let s1 := if v.st = 4 ∨ v.st = 5 then s.bumpFld (if f.tookDirty then fFCH_CNT_EVICT_DIRTY else fFCH_CNT_EVICT_CLEAN) else s
  let s2 := if k < deskKey then s1.uncharge v else s1
  let s3 := (upTo 32).foldl (fun s j => let p := lines.getD j (0, poisonTag); s.putLine (s.wayLine k j) p.1 p.2) s2
  let obj := s3.objOfShelf (shelfOf f.folio)
  let pin := pinnedCls obj.cls && (!s3.fch.unres.contains f.folio || s3.pinRoom (s3.setOf f.folio))
  let s40 := if f.zero then s3 else s3.spend f.tenant 2 1
  let s4 := s40.setWay k { folio := f.folio, age := f.age, st := 1, pin := pin, tenant := f.tenant, w := false }
  if k ≥ deskKey then s4
  else
    let s5 := s4.bump rFCH_CNT_FILL
    let s6 := if pin then s5.refund f else if f.charged then s5 else s5.chargeCache f.tenant
    let s7 := if s6.holder then s6.mirror_ (.fill f.folio) else s6
    if pin ∧ obj.pinLeft > 0 then
      let set := s7.setOf f.folio
      let slot := (s7.shelf (shelfOf f.folio)).object % 2 ^ 20
      let s8 : State := if s7.fch.unres.contains f.folio then
          { s7 with fch := { s7.fch with unres := s7.fch.unres.filter (· != f.folio) } }
        else s7.setPinRsv set (s7.pinRsv set - 1)
      let s9 : State := { s8 with fch := { s8.fch with promoFailed := s8.fch.promoFailed.filter (· != f.folio) } }
      s9.setObj slot { obj with pinLeft := obj.pinLeft - 1 }
    else s7

/-- The 32 zero lines with appliance tags of a fresh folio (R79, R157). DESIGN CHOICE (log 101): their STATE is 3 UNBACKED for an
Unbacked object, where R79 names no case. -/
def State.zeroLines (s : State) (folio owner : Nat) : List (Line × Tag) :=
  let g := (s.shelf (shelfOf folio)).gen
  let unb := (s.objOfShelf (shelfOf folio)).cls == 3
  List.replicate 32 ((0 : Line), mkTag owner 0 0 g 0 (if unb then 3 else 0))

/-- Folios that a write brings into the governed count where its folio is CLEAN or absent (R91, R93, R94): none for an Unbacked
object or a shelf that is LOST. -/
def State.newDirty (s : State) (folio : Nat) : Nat :=
  if (s.objOfShelf (shelfOf folio)).cls = 3 ∨ s.lostShelf folio then 0 else 1

/-- What stands between a zero-folio and an absent folio that has a way (R43, R76, R100). -/
inductive ZeroGate where
  | go | wait | refuse
deriving DecidableEq, Repr

/-- A zero-folio of an absent folio passes the accession quota and the budget before any line is changed (R43, R73, R76,
R100): a refused or waiting one leaves the folio absent. -/
def State.zeroGate (s : State) (i folio : Nat) : ZeroGate :=
  let seg := s.segDecide (s.stream i)
  if seg = .refuse then .refuse
  else if s.admits folio (s.newDirty folio) (if seg = .take then 1 else 0) then .go
  else .wait

/-- A desk copy of zero lines for a zero-folio of an absent folio that no way takes (R136, R142): nothing is read from the
sled. -/
def State.zeroThrough (s : State) (folio owner : Nat) : State :=
  let k := deskKey + s.fch.nextDesk
  ({ s with fch := { s.fch with nextDesk := s.fch.nextDesk + 1 } }).installLines { folio := folio, tenant := owner, zero := true } k
    (s.zeroLines folio owner)

/-- Lines [a, a + n) that a write names: its own, or the 32 of a zero-folio. -/
def WriteReq.span (w : WriteReq) : Nat × Nat := if w.op.kind = 3 then (w.line / 32 * 32, 32) else (w.line, 1)

/-- Lines that a load names. -/
def LoadReq.span (l : LoadReq) : Nat × Nat := (l.lpa / 128, (l.lpa + (l.len - 1)) / 128 - l.lpa / 128 + 1)

/-- Two runs of lines have one in common. -/
def spanMeets (a b : Nat × Nat) : Bool := decide (a.1 < b.1 + b.2 ∧ b.1 < a.1 + a.2)

/-- A stream holds an unapplied write of context `ctx` to one of these lines, of which `p` holds. -/
def State.writeWaits (s : State) (ctx : Nat) (span : Nat × Nat) (p : WriteReq → Bool) : Bool :=
  s.epo.streams.any (fun e => e.2.queue.any (fun q =>
    match q with
    | .write w => w.ctx == ctx && spanMeets w.span span && p w
    | _ => false))

/-- An earlier request of the write's context names one of its lines and has not run (R250): a write of another stream, or a load. -/
def State.writeBehind (s : State) (r : WriteReq) : Bool :=
  r.ctx != 32 && (s.writeWaits r.ctx r.span (fun w => decide (w.order < r.order))
    || s.epo.loads.any (fun l => l.ctx == r.ctx && decide (l.order < r.order) && spanMeets l.span r.span))

/-- The first write at the front of a stream meets its folio (R65, R100, R124, R134, R136, R142, R250). -/
def State.tryWrite (s0 : State) (i : Nat) (r : WriteReq) (rest : List SItem) : WDone :=
  let folio := r.line / 32
  let onStandby : Bool := match r.src with | .sb _ => true | _ => false
  let pop (s : State) : State := s.setStream i { s.stream i with queue := rest }
  let s := s0.lookup folio
  if s0.writeBehind r then
    .waits (if s0.epo.behind.contains i then s0 else { s0 with epo := { s0.epo with behind := s0.epo.behind ++ [i] } })
  else if s.hazFull folio then
    (if s.fch.waits.contains (FReq.write i) then .waits s
     else .waits (({ s with fch := { s.fch with waits := s.fch.waits ++ [FReq.write i] } }).raise 0x144))
  else if s.lostShelf folio ∧ (s.findWay folio).isNone ∧ (s.fillOf folio).isNone ∧ r.op.kind ≠ 3 then
    .gone (((pop s).lostMiss folio).refuseWrite i r (.poison rsLOST))
  else
  match s.findWay folio with
  | some k =>
    let w := s.way k
    let d := if w.st = 1 ∧ k < deskKey ∧ s.fch.mode = 1 then s.newDirty folio else 0
    let g := if s.segDecide (s.stream i) = .take then 1 else 0
    if w.st = 4 ∨ w.st = 5 then
      let s1 := s.access k true
      let d1 := if (s1.way k).st = 1 then s1.newDirty folio else 0
      if s1.admits folio d1 g then .gone ((pop s1).applyWrite i k r) else .waits (s1.budgetWait i r rest)
    else if s.admits folio d g then .gone ((pop (s.access k true)).applyWrite i k r)
    else .waits (s.budgetWait i r rest)
  | none =>
    match s.fillOf folio with
    | some f =>
      if r.op.kind = 3 ∧ !f.zero ∧ f.reqs.isEmpty then .waits (s.putFill { f with zero := true, desk := none, reqs := [.write i] })
      else if f.reqs.contains (FReq.write i) then .waits s
      else .waits (s.putFill { f with reqs := f.reqs ++ [FReq.write i] })
    | none =>
      if s.fch.mode ≠ 1 ∨ (onStandby ∧ s.fch.dead.contains (s.setOf folio)) then
        (if r.op.kind = 3 then .gone ((pop s).zeroThrough folio r.owner |>.applyWrite i (deskKey + s.fch.nextDesk) r)
         else .waits (s.startThrough folio r.owner (.write i)))
      else
        let bound := s.cacheFull r.owner && !onStandby && !pinnedCls (s.objOfShelf (shelfOf folio)).cls
        match s.victim folio r.owner bound with
        | none =>
          let blocked := s.victimBlocked folio r.owner bound
          if !blocked ∧ !onStandby ∧ (bound ∨ s.fch.dead.contains (s.setOf folio)) then
            .gone (((pop s).refuse r.owner 0x2).refuseWrite i r (.quota 0x2))
          else
            let s1 := if blocked ∧ !r.waitedV then s.raise 0x141 else s
            .waits (s1.victimWait i r rest)
        | some k =>
          if r.op.kind = 3 ∧ ((s.way k).st = 0 ∨ (s.way k).st = 1) then
            match s.zeroGate i folio with
            | .refuse => .gone ((((pop s).refuse (s.stream i).tenant 0x5)).refuseWrite i r (.quota 0x5))
            | .wait => .waits (s.budgetWait i r rest)
            | .go =>
              let f : Fill := { folio := folio, tenant := r.owner, age := 3 }
              let s1 := (s.takeVictim k).installLines f k (s.zeroLines folio r.owner)
              .gone ((pop s1).applyWrite i k r)
          else
            let s1 := if onStandby then s.bump rTWN_CNT_SB_FILL else s
            .waits (s1.startFill folio r.owner (some (.write i)) false false (r.op.kind == 3) false)

/-! ### Closing (R65, R67, R247) -/

/-- The difference of R5: (reference - x) modulo 4,096. -/
def epochDiff (r x : Nat) : Nat := (r + 4096 - x % 4096) % 4096

/-- x is earlier than r (R5). -/
def epochEarlier (r x : Nat) : Bool := decide (1 ≤ epochDiff r x ∧ epochDiff r x ≤ 2048)

/-- A stream that holds an open epoch. -/
def Stream.live (r : Stream) : Bool := r.st == .opened || r.st == .closing

/-- The stream's close has not reached its place in the order yet. -/
def Stream.closeWaits (r : Stream) : Bool := r.close.elim false (·.waiting)

/-- What waits in a stream is discarded (R339): a close that has not reached its place goes with it. -/
def Stream.dropQueue (r : Stream) : Stream :=
  if r.closeWaits then { r with queue := [], acks := [], st := .opened, close := none }
  else { r with queue := [], acks := [], close := r.close.map (fun c => { c with src := .nobody }) }

/-- A close of the open epoch takes its stream to CLOSING at once (R65, R67 step 1), though writes that came before it may
still wait: the first one in the stream's order that names the epoch. -/
def State.closeMark (s : State) (i : Nat) : State :=
  let r := s.stream i
  if r.st = .opened then
    match r.queue.find? (fun q => match q with | .close _ e .. => epochDiff r.epoch e == 0 | _ => false) with
    | some (.close src _ sm m fin) =>
      s.setStream i { r with st := .closing, close := some { src := src, setMode := sm, mode := m, fin := fin, waiting := true } }
    | _ => s
  else s

/-- A close at the front of a stream is judged (R65, R247). -/
def State.judgeClose (s : State) (i : Nat) (src : Src) (e : Nat) (setMode mode fin : Bool) (rest : List SItem) : State :=
  let r := s.stream i
  let pop (s : State) : State := s.setStream i { s.stream i with queue := rest }
  if r.live then
    if epochDiff r.epoch e = 0 then
      let (s1, m) := (pop s).mirror (.epoch i 1 0 mode fin setMode r.epoch) []
      s1.setStream i { s1.stream i with
        st := .closing
        close := some { src := src, setMode := setMode, mode := mode, fin := fin, mseq := m, digestOk := m.isNone } }
    else if epochEarlier r.epoch e then (pop s).answer src (.status 6)
    else (pop s).answer src (.poison rsSTREAM)
  else (pop s).answer src (.poison rsSTREAM)

/-- Runs a stream's order until its front waits. `fuel` bounds the items looked at. -/
def State.pump (s : State) (i : Nat) : Nat → State
  | 0 => s
  | fuel + 1 =>
    let r := s.stream i
    let held := r.st == .closing && !r.closeWaits
    match r.queue with
    | [] => s
    | .dup src c m :: rest =>
      if held then s
      else
        let a : AckWait := { src := src, dup := true, mirrored := r.mode, ctx := c, map := m }
        ((s.setStream i { r with queue := rest, acks := r.acks ++ [a] }).releaseAcks i).pump i fuel
    | .close src e sm m fin :: rest =>
      if held then s else (s.judgeClose i src e sm m fin rest).pump i fuel
    | .write w :: rest =>
      if held then s
      else if r.live then
        match s.tryWrite i w rest with
        | .gone s1 => s1.pump i fuel
        | .waits s1 => s1
      else ((s.setStream i { r with queue := rest }).refuseWrite i w (.poison rsSTREAM)).pump i fuel

/-- Runs a stream's whole order. -/
def State.pumpAll (s : State) (i : Nat) : State := s.pump i (s.stream i).queue.length

end Sys2Proof.Machine
end

