-- ==== Sys2Proof/Machine/Verdicts.lean ====
section
/-! DEFINITION. What a verdict is and what it reads (R83), QUERY_LINE (R86), and the fills that lines outside the reading
room need before they can be judged (R82). -/

namespace Sys2Proof.Machine

/-! ### Verdicts (R83) -/

/-- What reading a line for a verdict finds: content and tag, or poison. A line that is neither in the reading room nor in the
desk cannot be read; its fill is the caller's. -/
def State.verdictRead (s : State) (line : Nat) : Option (Line × Tag) :=
  let folio := line / 32
  let chk (p : Line × Tag) : Option (Line × Tag) := if tagState p.2 ≥ 4 then none else some p
  match s.findWay folio with
  | some k => (match s.peek (s.wayLine k (line % 32)) with | .good d t _ => chk (d, t) | .uncorrectable => none)
  | none =>
    match s.fillOf folio with
    | some { desk := some l, .. } => chk (l.getD (line % 32) (0, poisonTag))
    | _ => none

/-- The verdicts of R83 for the entries of one line, in SEQ order: 1 APPLIED, 2 NOT-APPLIED, 3 SUPERSEDED, with the
POISON bit. -/
def verdicts (rd : Option (Line × Tag)) (writer field epoch : Nat) (crcs : List Nat) : List (Nat × Bool) :=
  match rd with
  | none => crcs.map (fun _ => (2, true))
  | some (d, t) =>
    let mine := bitsOf t.toNat 35 24 == writer && bitsOf t.toNat 59 48 == field
    let crc := (crc16 (lineBytes d)).toNat
    let idx := upTo crcs.length
    let hit := if mine && bitsOf t.toNat 23 12 == epoch then (idx.filter (fun i => crcs.getD i 0 == crc)).getLast? else none
    idx.map (fun i =>
      match hit with
      | some h => (if i < h then 3 else if i = h then 1 else 2, false)
      | none =>
        if bitsOf t.toNat 35 24 = 0 then (2, false)
        else if mine ∧ bitsOf t.toNat 23 12 ≠ epoch then (2, false)
        else (3, false))

/-- A folio has to be filled before a line of it can be judged (R82, R83): it is neither in the reading room nor in the desk,
its shelf is on a sled that can be asked, and it has not been read for the report yet. -/
def State.verdictFills (s : State) (folio : Nat) : Bool :=
  !s.readable folio && !s.lostShelf folio && (match s.sledOf folio with | some (n, _) => (s.link n).st == 2 | none => false)

/-- What a report reads of a line: what a fill brought in for it, or what the line holds now. -/
def State.reportLine (s : State) (reads : List (Nat × Option (Line × Tag))) (line : Nat) : Option (Line × Tag) :=
  match reads.find? (fun x => x.1 == line) with
  | some x => x.2
  | none => s.verdictRead line

/-- The verdict of entry `e` on one line among the stream's entries. -/
def State.verdictOn (s : State) (r : Stream) (all : List Entry) (e : Entry) (line : Nat) : Nat × Bool :=
  let named := all.filter (fun x => entNames x line)
  let v := verdicts (s.reportLine (r.report.elim [] (·.reads)) line) r.writer r.field r.epoch (named.map entCrc)
  ((named.zip v).find? (fun p => entSeq p.1 == entSeq e)).elim (2, false) (·.2)

/-- The verdict of an entry: a zero-folio is evaluated on each of its 32 lines (R83). -/
def State.verdictOf (s : State) (r : Stream) (all : List Entry) (e : Entry) : Entry :=
  if entKind e = 3 then
    let vs := (upTo 32).map (fun j => s.verdictOn r all e (entLine e / 32 * 32 + j))
    let v := if vs.any (·.1 == 2) then 2 else if vs.any (·.1 == 3) then 3 else 1
    entVerdict e v (vs.any (·.2))
  else
    let p := s.verdictOn r all e (entLine e)
    entVerdict e p.1 p.2

/-! ### Queries of one line -/

/-- QUERY_LINE (R86): the latest 4 entries that name a line, in ascending SEQ, with live verdicts. -/
def State.queryLine (s : State) (i line : Nat) : Ans :=
  let r := s.stream i
  let named := if r.live then r.entries.filter (fun e => entNames e line) else []
  let last := named.drop (named.length - 4)
  if last.isEmpty then .status 0xB
  else
    let v := verdicts (s.verdictRead line) r.writer r.field r.epoch (named.map entCrc)
    let pairs := (named.zip v).drop (named.length - 4)
    .data (pairs.flatMap (fun p => leBytes 16 (entVerdict p.1 p.2.1 p.2.2).toNat)) false false

/-! ### Reads that wait for a fill (R82, R83, R86) -/

/-- Starts, or joins, the fill of a folio that a report or a query must read. -/
def State.verdictFill (s : State) (f : Nat) (q : FReq) : State :=
  let o := s.objOfShelf (shelfOf f)
  match s.fillOf f with
  | some g => if g.reqs.contains q then s else s.park f q
  | none =>
    if s.hazFull f then
      (if s.fch.waits.contains q then s else ({ s with fch := { s.fch with waits := s.fch.waits ++ [q] } }).raise 0x144)
    else if s.fch.mode ≠ 1 ∨ s.fch.sets = 0 then
      (s.putFill { folio := f, tenant := o.tenant, bypass := true, reqs := [q] }).sendRead f false
    else s.startFill f o.tenant (some q) false (pinnedCls o.cls) false false

/-- QUERY_LINE is asked (R86): its line is filled first where it is not at hand. -/
def State.queryAsk (s : State) (src : Src) (i line ctx map : Nat) : State :=
  let r := s.stream i
  if r.live && r.entries.any (fun e => entNames e line) && s.verdictFills (line / 32) then
    s.verdictFill (line / 32) (.query src i line ctx map)
  else s.answer src (s.queryLine i line)

/-- Lines of a folio that an entry names. -/
def entLinesIn (e : Entry) (folio : Nat) : List Nat :=
  if entLine e / 32 ≠ folio then [] else if entKind e = 3 then (upTo 32).map (· + folio * 32) else [entLine e]

/-- A report reads the lines of a folio that it names (R83): what they hold, or poison where the fill failed (R156). -/
def State.reportTake (s : State) (i folio : Nat) (ok : Bool) : State :=
  let r := s.stream i
  match r.report with
  | some rep =>
    if rep.building then
      let lines := (rep.entries.flatMap (fun e => entLinesIn e folio)).eraseDups
      let reads := rep.reads ++ lines.map (fun l => (l, if ok then s.verdictRead l else none))
      s.setStream i { r with report := some { rep with reads := reads } }
    else s
  | none => s

end Sys2Proof.Machine
end

