-- ==== Sys2Proof/Machine/Serve.lean ====
section
/-! DEFINITION. Loads, maintenance operations, and what a folio's hazard entry does when its fill arrives, fails or is
installed, and when a TILE_WRITE is acknowledged (R122 to R138, R156, R157). -/

namespace Sys2Proof.Machine

/-! ### Loads -/

/-- Folios a byte range touches, ascending. -/
def foliosOf (lpa len : Nat) : List Nat :=
  (upTo ((lpa + (len - 1)) / 4096 - lpa / 4096 + 1)).map (· + lpa / 4096)

/-- A stream of the load's context holds an earlier write to one of its lines that is not yet applied (R250). -/
def State.loadBehind (s : State) (l : LoadReq) : Bool :=
  l.ctx != 32 && s.writeWaits l.ctx l.span (fun w => decide (w.order ≤ l.order))

/-- A load beyond the one that caused the fill is served from its desk data: the folio will be installed at age 3 (R122). -/
def State.fillTouch (s : State) (folio : Nat) : State :=
  match s.fillOf folio with
  | some f => s.putFill { f with age := 3 }
  | none => s

/-- Runs a load (R246): every folio it touches must be readable; otherwise it waits in the hazard entry of the first
that is not, whose fill begins if it has none. No data leaves if any line is bad. -/
def State.runLoad (s0 : State) (l : LoadReq) : State :=
  let fs := foliosOf l.lpa l.len
  if s0.loadBehind l then { s0 with epo := { s0.epo with loads := s0.epo.loads ++ [l] } }
  else if fs.any s0.hazFull then ({ s0 with fch := { s0.fch with waits := s0.fch.waits ++ [FReq.load l] } }).raise 0x144
  else
    let s := fs.foldl State.lookup s0
    match fs.find? (fun f => !s.readable f) with
    | some f =>
      match s.fillOf f with
        | some _ => s.park f (.load l)
        | none =>
          if s.lostShelf f then (s.lostMiss f).answer l.src (.poison rsLOST)
          else if s.fch.mode ≠ 1 ∨ s.fch.sets = 0 then
            (s.putFill { folio := f, tenant := l.owner, bypass := true, reqs := [.load l] }).sendRead f false
          else s.startFill f l.owner (some (.load l)) false (pinnedCls (s.objOfShelf (shelfOf f)).cls) false
            (match l.src with | .cir .. => true | _ => false)
    | none =>
      let s1 := fs.foldl (fun s f => match s.findWay f with | some k => s.access k false | none => s.fillTouch f) s
      let first := l.lpa / 128
      let n := (l.lpa + (l.len - 1)) / 128 - first + 1
      let tile := match l.src with | .cir .. => true | _ => false
      match s1.readLines n first with
      | (s2, .ok b) => (if tile then s2 else s2.spend l.owner 0 n).answer l.src (.data ((b.drop (l.lpa % 128)).take l.len) false false)
      | (s2, .error e) => s2.answer l.src (.poison e)

/-- Runs again the loads that waited for an earlier write of their context. -/
def State.retryLoads (s : State) : State :=
  s.epo.loads.foldl (fun s l => s.runLoad l) { s with epo := { s.epo with loads := [] } }

/-! ### Maintenance (R138) -/

/-- Ends a maintenance operation on one folio. -/
def State.maintDone (s : State) (m : MaintReq) (status : Nat) : State :=
  ({ s with fch := { s.fch with maints := s.fch.maints.filter (· != m) } }).bump rFCH_CNT_MAINT
    |>.answerAt m.src m.folio (.status status)

/-- Adds an operation that waits for TILE_WRITE acknowledgements. -/
def State.maintWait (s : State) (m : MaintReq) : State :=
  { s with fch := { s.fch with maints := s.fch.maints ++ [m] } }

/-- Takes the eviction-buffer copy of a DIRTY way for reshelving, when an entry is free (R130). -/
def State.reshelve (s : State) (k : Nat) : State :=
  if (s.way k).st = 2 ∧ s.fch.evb.length < 4096 then s.evbTake k 3 else s

/-- Makes a way INVALID and releases its charge. -/
def State.invalidateWay (s : State) (k : Nat) : State := (s.uncharge (s.way k)).setWay k {}

/-- ZERO asked for by the registrar, on a resident folio (R138): its lines become zero lines of the appliance, under the
budget; a write without a stream makes no accession entry. -/
def State.zeroWay (s : State) (k : Nat) (m : MaintReq) : State :=
  let s1 := if (s.way k).st = 4 ∨ (s.way k).st = 5 then s.rescue k true else s
  let w := s1.way k
  let obj := s1.objOfShelf (shelfOf m.folio)
  let unb := obj.cls == 3
  let d := if w.st = 1 ∧ k < deskKey ∧ s1.fch.mode = 1 then s1.newDirty m.folio else 0
  if k < deskKey ∧ s1.chFailed (s1.chanOf (s1.wayLine k 0)) then
    (s1.bump rFCH_CNT_MAINT).answerAt m.src m.folio (.poison rsMEDIA)
  else if !s1.admits m.folio d 0 then { s1 with fch := { s1.fch with waits := s1.fch.waits ++ [FReq.maint m] } }
  else
    let tag := mkTag obj.tenant 0 0 ((s1.shelf (shelfOf m.folio)).gen) 0 (if unb then 3 else 1)
    let s2 := (upTo 32).foldl (fun s i => s.putLine (s.wayLine k i) 0 tag) s1
    let s3 := s2.setWay k
      (if unb then { w with age := 3 } else if w.st = 1 then { w with st := 2, age := 3 }
       else if w.st = 3 then { w with w := true, age := 3 } else { w with age := 3 })
    let s4 := if s3.twn.role == .active && s3.twn.partner == .lost then s3.mark (regionOf (m.folio * 32)) else s3
    let s5 := if !s4.governs ∨ s4.fch.mode ≠ 1 then s4.reshelve k else s4
    s5.maintDone m 0

/-- Runs CLEAN, FLUSH, INVALIDATE, PROMOTE or the registrar's ZERO on one folio as it stands (R138). FLUSH lowers the age as it
runs, so that what arrives after it, and raises the age, stands. DESIGN CHOICE (log 105): a PROMOTE whose fill is dropped
(R125), or that finds the reading room disabled (R142), ends BUSY. -/
def State.runMaint (s0 : State) (m : MaintReq) : State :=
  let s := s0.lookup m.folio
  let obj := s.objOfShelf (shelfOf m.folio)
  if s.hazFull m.folio then ({ s with fch := { s.fch with waits := s.fch.waits ++ [FReq.maint m] } }).raise 0x144
  else
  match s.findWay m.folio with
  | none =>
    match s.fillOf m.folio with
    | some f =>
      if m.mop = 4 ∧ !f.zero ∧ f.reqs.isEmpty then s.putFill { f with zero := true, desk := none, reqs := [.maint m] }
      else s.park m.folio (.maint m)
    | none =>
      if m.mop = 4 ∧ s.fch.mode ≠ 1 then (s.zeroThrough m.folio obj.tenant).zeroWay (deskKey + s.fch.nextDesk) m
      else if m.mop = 4 then
        let bound := s.cacheFull obj.tenant && !pinnedCls obj.cls
        if bound ∧ (s.victim m.folio obj.tenant true).isNone then
          ((s.refuse obj.tenant 0x2).bump rFCH_CNT_MAINT).answerAt m.src m.folio (.quota 0x2)
        else s.startFill m.folio obj.tenant (some (.maint m)) false (pinnedCls obj.cls) true false
      else if m.mop ≠ 3 then s.maintDone m (if obj.cls = 3 then 0xF else 0)
      else if pinnedCls obj.cls then s.maintDone m 0
      else if s.lostShelf m.folio then
        ((s.lostMiss m.folio).bump rFCH_CNT_MAINT).answerAt m.src m.folio (.poison rsLOST)
      else
        let bound := s.cacheFull obj.tenant
        if s.fch.mode ≠ 1 ∨ ((s.victim m.folio obj.tenant bound).isNone ∧ !s.victimBlocked m.folio obj.tenant bound) then
          s.maintDone m 0xE
        else s.startFill m.folio obj.tenant (some (.maint m)) true false false false
  | some k =>
    if m.mop = 4 then s.zeroWay k m
    else if m.mop = 3 then
      let w := s.way k
      (if pinnedCls obj.cls then s else if w.st = 4 ∨ w.st = 5 then s.rescue k false else s.setWay k { w with age := 3 }).maintDone m 0
    else if obj.cls = 3 then s.maintDone m 0xF
    else if obj.cls = 2 ∧ m.mop = 2 then s.maintDone m 0xD
    else if s.lostShelf m.folio then
      let clean := (s.way k).st == 1
      if m.mop = 2 then s.maintDone m 0xE
      else if clean then (if m.mop = 1 then s.setWay k { s.way k with age := 0 } else s).maintDone m 0
      else s.maintDone m 0xE
    else
      let s1 := if m.mop ≠ 2 ∧ ((s.way k).st = 4 ∨ (s.way k).st = 5) then s.rescue k false else s
      let w := s1.way k
      let pinned := obj.cls == 2
      if w.st = 1 ∨ w.st = 4 then
        if m.mop = 0 then s1.maintDone m 0
        else if m.mop = 1 then
          (if pinned then s1 else s1.setWay k { w with age := 0 }).maintDone m (if pinned then 0xD else 0)
        else (s1.invalidateWay k).maintDone m 0
      else
        let s2 := if m.mop = 1 ∧ !pinned then s1.setWay k { w with age := 0 } else s1
        if w.st = 2 then (s2.reshelve k).maintWait { m with acks := 1, tries := 1 }
        else if w.st = 3 then s2.maintWait { m with acks := if w.w then 2 else 1, tries := 1 }
        else s2.maintWait { m with acks := 1, tries := 1 }

/-- A TILE_WRITE of a folio was acknowledged: its maintenance operations advance (R138). -/
def State.maintAck (s : State) (folio : Nat) : State :=
  (s.fch.maints.filter (fun m => m.folio == folio)).foldl (fun s m =>
    let s0 := { s with fch := { s.fch with maints := s.fch.maints.filter (· != m) } }
    let left := m.acks - 1
    match s0.findWay folio with
    | none => s0.maintDone m 0
    | some k =>
      let w := s0.way k
      if left > 0 then (s0.reshelve k).maintWait { m with acks := left }
      else if m.mop = 0 then s0.maintDone m 0
      else if m.mop = 1 then
        s0.maintDone m (if (s0.objOfShelf (shelfOf folio)).cls = 2 then 0xD else 0)
      else if w.st = 1 then (s0.invalidateWay k).maintDone m 0
      else if m.tries ≥ 4 then s0.maintDone m 0xE
      else (s0.reshelve k).maintWait { m with acks := 1, tries := m.tries + 1 }) s

/-! ### A hazard entry's requests -/

/-- Runs one request of a hazard entry again. -/
def State.runReq (s : State) (q : FReq) : State :=
  match q with
  | .load l => s.runLoad l
  | .write i => s.pumpAll i
  | .maint m => s.runMaint m
  | .report i f => s.reportTake i f true
  | .query src i line _ _ => s.answer src (s.queryLine i line)

/-- Runs requests in their order of arrival. -/
def State.runReqs (s : State) (l : List FReq) : State := l.foldl State.runReq s

/-- The loads and other reads at the front of a list of requests, and the rest. -/
def frontLoads (l : List FReq) : List FReq × List FReq := l.span FReq.reads

/-- A load. -/
def FReq.isLoad : FReq → Bool
  | .load _ => true
  | _ => false

/-- The data of a fill has arrived (R122, R132, R136): the loads at its front are served from the desk; a fill without a way
ends there, and a cancelled one is dropped. -/
def State.fillArrive (s : State) (f : Fill) (lines : List (Line × Tag)) : State :=
  if f.zero then s
  else
    let (ld, rest) := frontLoads f.reqs
    let loads := (ld.filter FReq.isLoad).length
    let cause := !f.spec && (ld.head?.map FReq.isLoad).getD false
    let s1 := s.putFill { f with desk := some lines, reqs := rest, age := if loads > b2n cause then 3 else f.age }
    let s2 := s1.runReqs ld
    if f.bypass then (s2.dropFill f.folio).runReqs rest else s2

/-- A bound way is given back when its fill fails (R136): as at a rescue, without a change of age. -/
def State.unbind (s : State) (k : Nat) : State :=
  let w := s.way k
  if w.st = 4 then s.setWay k { w with st := 1 }
  else if w.st = 5 then
    match (s.fch.evb.find? (fun e => e.way == k)).map (·.sent) with
    | some true => s.setWay k { w with st := 3 }
    | _ => ({ s with fch := { s.fch with evb := s.fch.evb.filter (fun e => e.way != k) } }).setWay k { w with st := 2 }
  else s

/-- What a failed fill does to one of its requests (R156). -/
def State.failReq (s : State) (reason : Nat) (q : FReq) : State :=
  match q with
  | .load l => s.answer l.src (.poison reason)
  | .write i =>
    let r := s.stream i
    match r.queue with
    | .write w :: rest =>
      if w.op.kind = 3 then s.pumpAll i
      else ((s.setStream i { r with queue := rest }).refuseWrite i w (.poison reason)).pumpAll i
    | _ => s
  | .report i f => s.reportTake i f false
  | .query src i line _ _ => s.answer src (s.queryLine i line)
  | .maint m => if m.mop = 3 then (s.bump rFCH_CNT_MAINT).answerAt m.src m.folio (.poison reason) else s.maintDone m 0

/-- Requests up to the first ZERO fail; the ZERO and what is queued behind it stay and run on the zeroed folio
(R156). -/
def State.splitFail (s : State) (l : List FReq) : List FReq × List FReq :=
  l.span (fun q => match q with
    | .write i => (match (s.stream i).queue with | .write w :: _ => w.op.kind != 3 | _ => true)
    | .maint m => m.mop != 4
    | _ => true)

/-- A fill fails (R156). -/
def State.fillFail (s : State) (folio reason link bad : Nat) : State :=
  match s.fillOf folio with
  | none => s
  | some f =>
    let s1 := (match f.way with | some k => if k < deskKey then s.unbind k else s | none => s).refund f
    let s2 := s1.dropFill folio
    let (no, yes) := s2.splitFail f.reqs
    let s3 := no.foldl (fun s q => s.failReq reason q) s2
    let s4 := s3.runReqs yes
    let s5 := if f.pin then { s4 with fch := { s4.fch with promoFailed := folio :: s4.fch.promoFailed } } else s4
    (s5.raise (0x182 + 8 * link)).note 0x3E3
      [link, if shelfOf folio = 0 then 9 else (s5.shelf (shelfOf folio)).sledShelf, tileIn folio, bad]

/-- A fill's way is free: INVALID, or a clean victim's (R132). -/
def State.wayFree (s : State) (k : Nat) : Bool := k ≥ deskKey || (s.way k).st == 0 || (s.way k).st == 4

/-- What a zero-folio that waits for its way meets before its lines are written (R43, R73, R76, R100): the first request of its
hazard entry is the zero-folio itself. -/
def State.zeroFillGate (s : State) (f : Fill) : ZeroGate :=
  match f.reqs with
  | .write i :: _ =>
    (match (s.stream i).queue with
    | .write w :: _ => if w.op.kind = 3 then s.zeroGate i f.folio else .go
    | _ => .go)
  | .maint _ :: _ => if s.admits f.folio (s.newDirty f.folio) 0 then .go else .wait
  | _ => .go

/-- The zero-folio at the front of a fill is refused or waits: refused, the way it had bound returns (R136) and the write ends
QUOTA; waiting, it is counted once (R100). -/
def State.zeroStops (s : State) (f : Fill) (g : ZeroGate) : State :=
  match f.reqs with
  | .write i :: more =>
    (match (s.stream i).queue with
    | .write w :: rest =>
      if g = .refuse then
        let s1 := (((match f.way with | some k => if k < deskKey then s.unbind k else s | none => s).refund f).dropFill f.folio)
        let s2 := s1.setStream i { s1.stream i with queue := rest }
        (((s2.refuse (s2.stream i).tenant 0x5).refuseWrite i w (.quota 0x5)).pumpAll i).runReqs more
      else s.budgetWait i w rest
    | _ => s)
  | _ => s

/-- Installs a fill whose data is ready and whose way is free (R136), then runs its requests in order. A fill without a
way tries to bind one first; a zero-folio must pass the quota and the budget before its lines are written. -/
def State.install (s : State) (folio : Nat) : State :=
  match s.fillOf folio with
  | none => s
  | some f0 =>
    let s0 := if f0.way.isNone ∧ !f0.bypass then s.bindWay f0 false else s
    match s0.fillOf folio with
    | some { way := some k, .. } =>
      let f := (s0.fillOf folio).getD {}
      let owner := (s0.objOfShelf (shelfOf folio)).tenant
      let lines := if f.zero then some (s0.zeroLines folio owner) else f.desk
      match lines with
      | none => s0
      | some l =>
        if s0.wayFree k then
          let gate := if f.zero then s0.zeroFillGate f else .go
          if gate = .go then
            let ready := if f.zero then { f with age := 3 } else f
            ((s0.installLines ready k l).dropFill folio).runReqs f.reqs
          else s0.zeroStops f gate
        else s0
    | _ => s0

/-- Neighbour prefetch (R126): installs another folio of the tile at age 0 where it may. -/
def State.neighbour (s0 : State) (folio : Nat) (lines : List (Line × Tag)) : State :=
  let s := s0.lookup folio
  let owner := (s.objOfShelf (shelfOf folio)).tenant
  if (s.findWay folio).isSome ∨ (s.fillOf folio).isSome ∨ s.cacheFull owner ∨ !s.flag fFCH_CTRL_NEIGHBOURS ∨ s.fch.mode ≠ 1
  then s
  else
    match s.victim folio owner false with
    | none => s
    | some k =>
      let w := s.way k
      if w.st = 0 ∨ (w.st = 1 ∧ w.age = 0) then
        (s.takeVictim k).installLines { folio := folio, tenant := owner, age := 0 } k lines
      else s

/-! ### TILE_WRITE acknowledged (R136) -/

/-- Answers of written-through writes advance by one acknowledgement of their folio. -/
def State.twAcked (s : State) (folio : Nat) : State :=
  let f (a : AckWait) : AckWait := match a.needTw with
    | some (g, n) => if g = folio then { a with needTw := if n ≤ 1 then none else some (g, n - 1) } else a
    | none => a
  s.epo.streams.foldl (fun s e =>
    let r := s.stream e.1
    if r.acks.any (fun a => (a.needTw.map (·.1)) == some folio) then
      (s.setStream e.1 { r with acks := r.acks.map f }).releaseAcks e.1
    else s) s

/-- Clears a desk copy: its lines and its key go. -/
def State.dropDesk (s : State) (k : Nat) : State :=
  ((upTo 32).foldl (fun s i => s.setDline (s.wayLine k i) {}) s).setWay k {}

/-- One folio of an acknowledged TILE_WRITE (R136): its buffer entry is freed; RESHELVING becomes CLEAN, or DIRTY if it
was written meanwhile; EVICT_DIRTY is as a clean victim from then on, which keeps its way until its successor's data is written
there (R132); a desk copy goes; a folio of the metadata shelf is clean unless it changed meanwhile. -/
def State.folioWritten (s : State) (folio : Nat) : State :=
  match s.fch.evb.find? (fun e => e.folio == folio && e.sent) with
  | none => s
  | some e =>
    let k := e.way
    let s1 : State := { s with fch := { s.fch with evb := s.fch.evb.filter (fun x => !(x.folio == folio && x.sent)) } }
    let w := s1.way k
    let s2 :=
      if k ≥ metaKey then { s1 with fch := { s1.fch with
        metaDirty := Tab.set (fun _ => 0) s1.fch.metaDirty folio (if Tab.get (fun _ => 0) s1.fch.metaDirty folio = 3 then 1 else 0) } }
      else if w.folio ≠ folio then s1
      else if w.st = 3 then
        if w.w then
          let s3 := s1.setWay k { w with st := 2, w := false }
          if k ≥ deskKey ∨ !s3.governs ∨ s3.fch.mode ≠ 1 then s3.reshelve k else s3
        else if k ≥ deskKey then s1.dropDesk k
        else (s1.setWayStates k (fun st => st == 1 || st == 2) 0).setWay k { w with st := 1 }
      else if w.st = 5 then (s1.setWayStates k (fun st => st == 1 || st == 2) 0).setWay k { w with st := 4, w := false }
      else s1
    ((s2.spend (s2.objOfShelf (shelfOf folio)).tenant 3 1).twAcked folio).maintAck folio

/-- Takes the eviction-buffer copy of a changed folio of the metadata shelf: the shelf table's entries, or tables whose layout
the manual does not give (log 104). -/
def State.metaTake (s : State) (f : Nat) : State :=
  if Tab.get (fun _ => 0) s.fch.metaDirty f = 1 ∧ !s.evbFull then
    let lines := (upTo 32).map (fun i =>
      ((if f < metaObjs then lineOfBytes ((upTo 8).flatMap (fun j => (s.shelf (f * 256 + i * 8 + j)).bytes))
        else Config.freeLine (s.freeCtr + i)), mkTag 0 0 0 (s.shelf 0).gen 0 1))
    let s1 := s.evbPut f (metaKey + f) lines
    { s1 with freeCtr := s1.freeCtr + 32, fch := { s1.fch with metaDirty := Tab.set (fun _ => 0) s1.fch.metaDirty f 2 } }
  else s

/-- Sends a tile's copies whose lines are past PENDING (R131): every write in them is reported applied, no standby is in step,
or the vault runs, which writes to ready sleds alone (R154). -/
def State.evbSend (s : State) (tile : Nat) : State :=
  let free := s.solo || s.rsv.ph != .off
  let ready := s.fch.evb.filter (fun e => e.folio / 16 == tile && !e.sent && (free || e.behind.all s.covered))
  let first := (ready.head?.map (·.folio)).getD 0
  match s.sledOf first with
  | none => s
  | some (n, sh) =>
    if ready.isEmpty ∨ !s.stkReady n then s
    else
      let sorted := (upTo 16).filterMap (fun i => ready.find? (fun e => e.folio == tile * 16 + i))
      let mask := sorted.foldl (fun a e => a + 2 ^ (e.folio % 16)) 0
      let fix (p : Line × Tag) : Line × Tag := if tagState p.2 = 2 then (p.1, tagWithState p.2 1) else p
      let req : StkReq :=
        { op := 2
          shelf := sh
          tile := tileIn first
          mask := mask
          ltile := tile
          recs := sorted.map (fun e => e.lines.map fix) }
      let s1 : State := { s with fch := { s.fch with
        evb := s.fch.evb.map (fun e => if sorted.contains e then { e with sent := true } else e) } }
      let s2 : State := s1.stkSend n req
      let p : Nat := s.fld fSTK_META_PRIMARY
      let c : Nat := if n = p then s.fld fSTK_META_COPY else p
      if shelfOf first = 0 ∧ c ≠ n ∧ s2.stkReady c then s2.stkSend c req else s2

/-- An acknowledged TILE_WRITE (R136, R160): a metadata tile waits for its other copy. -/
def State.tileWritten (s : State) (r : StkReq) : State :=
  let other : Bool := decide (r.ltile / 2 ^ 14 = 0) && (upTo 16).any (fun n =>
    (s.link n).st == 2 && (((s.link n).out ++ (s.link n).wait).any (fun q => q.op == 2 && q.ltile == r.ltile && q.mask == r.mask)))
  if other then s
  else ((upTo 16).filter (fun i => bitOf r.mask i)).foldl (fun s i => s.folioWritten (r.ltile * 16 + i)) s

/-! ### Settling the data path -/

/-- Folios of a group's operation in progress: its unanswered parts but those that have not begun (R140). -/
def State.maintBusy (s : State) (src : Src) : Nat :=
  match src with
  | .grp g => (s.grp g).left - (s.fch.maintQ.filter (fun x => x.src == src)).length
  | _ => 0

/-- A maintenance operation that waits may begin: it is the first on its folio, none runs there (R135), fewer than 64 folios
of its range are in progress (R140), and no earlier write of its context to the folio waits (R250). -/
def State.maintMay (s : State) (m : MaintReq) : Bool :=
  s.fch.maintQ.find? (fun x => x.folio == m.folio) == some m && !s.fch.maints.any (fun x => x.folio == m.folio)
    && decide (s.maintBusy m.src < 64)
    && !(m.ctx != 32 && s.writeWaits m.ctx (m.folio * 32, 32) (fun w => decide (w.order < m.order)))

/-- Begins the maintenance operations that may. -/
def State.maintRun : Nat → State → State
  | 0, s => s
  | n + 1, s =>
    match s.fch.maintQ.find? s.maintMay with
    | none => s
    | some m => (({ s with fch := { s.fch with maintQ := s.fch.maintQ.erase m } }).runMaint m).maintRun n

/-- Accepts maintenance operations, in ascending folio order (R140). -/
def State.maintAsk (s : State) (l : List MaintReq) : State :=
  ({ s with fch := { s.fch with maintQ := s.fch.maintQ ++ l } }).maintRun l.length

/-- Written-through folios whose copy found the eviction buffer full are copied once it has room (R108, R130). -/
def State.throughRun (s : State) : State :=
  s.epo.streams.foldl (fun s e => e.2.acks.foldl (fun s a =>
    match a.needTw with
    | some (f, _) => (match s.findWay f with | some k => s.reshelve k | none => s)
    | none => s) s) s

/-- Requests that waited for an earlier one of their context run again (R250), in their order. -/
def State.orderRun (s : State) : State :=
  let s1 := if s.epo.loads.isEmpty then s else s.retryLoads
  if s1.epo.behind.isEmpty then s1
  else
    let s2 := s1.epo.behind.foldl (fun s i => s.pumpAll i) { s1 with epo := { s1.epo with behind := [] } }
    if s2.epo.loads.isEmpty then s2 else s2.retryLoads

/-- What the data path does by itself after every command. -/
def State.fchRun (s : State) : State := (s.orderRun.maintRun s.fch.maintQ.length).throughRun

/-- Lets every request that can move do so: fills with data and a free way are left to FILL_INSTALL; streams whose front
no longer waits run on, and loads that waited for them follow. -/
def State.stir (s : State) : State :=
  (s.epo.streams.foldl (fun s e => (s.pumpAll e.1).releaseAcks e.1) s).retryLoads

end Sys2Proof.Machine
end

