-- ==== Sys2Proof/Machine/Reports.lean ====
section
/-! DEFINITION. Epochs beyond single writes: opening (R65, R66), the commit point (R67, R68), verdicts (R83), reports
(R81 to R87), queries (R86). -/

namespace Sys2Proof.Machine

/-- Opens the next epoch of a stream (R65): epoch ← last epoch + 1, sequence 0. A writer key shared with another open
stream sets KEY_SHARED in both and counts on 0x174 (R64). -/
def State.openEpoch (s : State) (i : Nat) (mode : Bool) (writer field tenant : Nat) : State :=
  let r := s.stream i
  let others := (s.epo.streams.filter (fun e => e.1 != i && e.2.live && e.2.writer == writer && e.2.field == field)).map (·.1)
  let s1 := others.foldl (fun s j => s.setStream j { s.stream j with keyShared := true }) s
  let s2 := if others.isEmpty then s1 else s1.raise 0x174
  s2.setStream i { r with
    st := .opened
    mode := mode
    epoch := (r.epoch + 1) % 4096
    uncat := false
    pool := false
    keyShared := !others.isEmpty
    segs := []
    entries := []
    wrote := false
    writer := writer
    field := field
    tenant := tenant
    ranges := []
    digest := digestInit
    skip := false
    close := none }

/-- The commit point of a close (R67 steps 4 and 5): one write of the stream record, then the segments return. -/
def State.commitClose (s : State) (i : Nat) (answer : Bool) (unknown : Bool) : State :=
  let r := s.stream i
  match r.st, r.close with
  | .closing, some c =>
    let e1 := (r.epoch + 1) % 4096
    let r1 := { r with
      st := if c.fin then .idle else .opened
      epoch := if c.fin then r.epoch else e1
      mode := if c.setMode then c.mode else r.mode
      uncat := false
      pool := false
      keyShared := if c.fin then false else r.keyShared
      segs := []
      entries := []
      wrote := false
      ranges := []
      digest := digestInit
      skip := false
      close := none }
    let s1 := ((s.setStream i r1).freeSegs r.tenant r.segs).bump rEPO_CNT_CLOSES
    let s2 :=
      if !answer then s1
      else if unknown then s1.answer c.src .unknown
      else s1.answer c.src (.ack false s.solo r.uncat 0 e1 0 false 0)
    (s2.closeMark i).pumpAll i
  | _, _ => s

/-- EPOCH close arrives (R65, R67, R247): it takes its place in the stream's order, and judgement follows there. -/
def State.closeArrive (s : State) (i : Nat) (src : Src) (e : Nat) (setMode mode fin : Bool) : State :=
  let r := s.stream i
  ((s.setStream i { r with queue := r.queue ++ [.close src e setMode mode fin] }).closeMark i).pumpAll i

/-- Every write of the epoch is reported applied and the digests compare, so the close may commit (R67 steps 2, 3). -/
def State.closeReady (s : State) (i : Nat) : Bool :=
  let r := s.stream i
  match r.st, r.close with
  | .closing, some c =>
    !c.waiting && r.acks.all (fun a => a.needTw.isNone) &&
      (s.solo || ((match c.mseq with | some m => s.covered m | none => true) && c.digestOk))
  | _, _ => false

/-! ### Reports -/

/-- A fault ends an open epoch (R81): with no write in it no report is built and the stream goes idle at that epoch;
otherwise it is REPORTED and the report is building. Held writes and closes are answered only where the link is up. -/
def State.endEpoch (s : State) (i cause : Nat) (answers : Bool) : State :=
  let r := s.stream i
  if !r.live then s
  else
    let s1 := if answers then
        (match r.close with | some c => s.answer c.src .unknown | none => s)
      else s
    let mine := (r.queue.find? (fun q => match q, r.close with | .close src .., some c => c.waiting && src == c.src | _, _ => false))
    let held := match mine with | some q => r.queue.erase q | none => r.queue
    let s2 := if answers then
        held.foldl (fun s q => match q with
          | .write w => s.refuseWrite i w (.poison rsSTREAM)
          | .close src .. => s.answer src (.poison rsSTREAM)
          | .dup src _ _ => s.answer src (.ack true false false 0 0 0 false 0)) s1
      else s1
    let base := { s2.stream i with queue := [], close := none, acks := if answers then (s2.stream i).acks else [] }
    if !r.wrote then s2.setStream i { base with st := .idle, keyShared := false }
    else
      let rep : Report :=
        { building := true
          cause := cause
          epoch := r.epoch
          mode := r.mode
          uncat := r.uncat
          pool := r.pool
          keyShared := r.keyShared
          ranges := r.ranges
          entries := if r.uncat then [] else r.entries
          segs := r.segs }
      s2.setStream i { base with st := .reported, report := some rep }

/-- Folios that a report's entries name. -/
def Report.folios (rep : Report) : List Nat := (rep.entries.map (fun e => entLine e / 32)).eraseDups

/-- Folios that must be filled before a report can be built: absent, reachable, and not read for it yet. -/
def State.reportNeeds (s : State) (rep : Report) : List Nat :=
  rep.folios.filter (fun f => s.verdictFills f && !rep.reads.any (fun x => x.1 / 32 == f))

/-- The report finishes building (R82): verdicts are set; a line that cannot be read counts as poison. -/
def State.buildReport (s : State) (i : Nat) : State :=
  let r := s.stream i
  match r.report with
  | some rep =>
    if !rep.building then s
    else
      let es := rep.entries.map (s.verdictOf r rep.entries)
      s.setStream i { r with report := some { rep with building := false, entries := es, reads := [] } }
  | none => s

/-- Header record of a report (R85). -/
def Report.header (rep : Report) (i writer field : Nat) : BitVec 128 :=
  BitVec.ofNat 128 (i % 2 ^ 21 + rep.epoch % 4096 * 2 ^ 21 + rep.entries.length % 2 ^ 17 * 2 ^ 33
    + rep.ranges.length % 16 * 2 ^ 50 + b2n rep.uncat * 2 ^ 54 + b2n rep.pool * 2 ^ 55 + b2n rep.keyShared * 2 ^ 56
    + b2n rep.mode * 2 ^ 57 + rep.cause % 16 * 2 ^ 58 + writer % 4096 * 2 ^ 62 + field % 4096 * 2 ^ 74)

/-- A range record (R85). -/
def rangeRec (r : Nat × Nat) : BitVec 128 := BitVec.ofNat 128 (r.1 % 2 ^ 23 + r.2 % 2 ^ 24 * 2 ^ 23)

/-- All records of a report: header, ranges in ascending FIRST, entries in SEQ order (R85). -/
def Report.records (rep : Report) (i writer field : Nat) : List (BitVec 128) :=
  rep.header i writer field :: rep.ranges.map rangeRec ++ rep.entries

/-- Releases a report (R86, R87): segments return, the stream goes IDLE at the reported epoch. -/
def State.releaseReport (s : State) (i : Nat) : State :=
  let r := s.stream i
  match r.report with
  | none => s
  | some rep =>
    (s.setStream i { r with
      st := .idle
      epoch := rep.epoch
      keyShared := false
      segs := []
      entries := []
      wrote := false
      ranges := []
      report := none }).freeSegs r.tenant rep.segs

/-- Up to 14 records from an index (R86). -/
def State.reportRead (s : State) (i index : Nat) : Ans :=
  let r := s.stream i
  match r.report with
  | none => .status 0xC
  | some rep =>
    if rep.building then .status 0xA
    else
      let l := ((rep.records i r.writer r.field).drop index).take 14
      if l.isEmpty then .status 0xB
      else .data (l.flatMap (fun x => leBytes 16 x.toNat)) false false

/-- QUERY_STATE of epoch x (R86): the status code. -/
def Stream.query (r : Stream) (x : Nat) : Nat :=
  match r.st with
  | .opened => if epochDiff r.epoch x = 0 then 4 else if epochEarlier r.epoch x then 6 else 8
  | .closing => if epochDiff r.epoch x = 0 then 5 else if epochEarlier r.epoch x then 6 else 8
  | .reported => if epochDiff r.epoch x = 0 then 7 else if epochEarlier r.epoch x then 6 else 8
  | .idle => if epochEarlier ((r.epoch + 1) % 4096) x then 6 else 8

/-- Streams that hold a report (EPO_RPT_COUNT). -/
def State.reports (s : State) : Nat := (s.epo.streams.filter (fun e => e.2.report.isSome)).length

end Sys2Proof.Machine
end

