-- ==== Sys2Proof/Machine/Tables.lean ====
section
/-! DEFINITION. The services that change TQM's tables (R22 to R53, R127 to R129, R159, R269, R527 to R529): each
answers a result code of R422, its REASON, and its response words. -/

namespace Sys2Proof.Machine

/-- A service's result: code, reason, words (R422). -/
structure SvcRes where
  code : Nat := 0
  reason : Nat := 0
  words : List Nat := []
deriving DecidableEq, Repr

def svcOK : SvcRes := {}
def svcDENIED : SvcRes := { code := 1 }
def svcQUOTA (r : Nat) : SvcRes := { code := 2, reason := r }
def svcBUSY : SvcRes := { code := 3 }
def svcNOOBJ : SvcRes := { code := 4 }

/-- A tenant that allocations may name: its record is VALID (R528). -/
def State.tenantOk (s : State) (t : Nat) : Bool := t != 0xFFF && decide (t < 4096) && (s.tenant t).valid

/-- TENANT_SET (R47, R52, R528). DESIGN CHOICE (log 96): the service gives every limit 4 bytes while the record holds 16 bits
of the accession limit and 12 of the circulation limit; the model keeps the low bits, and takes all ones of the field as
R47's unlimited. -/
def State.doTenantSet (s : State) (t evt pin cache stk desk acc cir : Nat) (susp : Bool) : State × SvcRes :=
  if t = 0 ∨ t ≥ 0xFFF ∨ evt ≥ 192 then (s, svcDENIED)
  else
    let r := Tab.get (fun _ => ({} : Tenant)) s.tqm.tenants t
    ((s.metaTouch (metaTenants + t / 32)).setTenant t { r with
      valid := true
      suspend := susp
      evt := evt
      pinLim := pin % 2 ^ 32
      cacheLim := cache % 2 ^ 32
      stkLim := stk % 2 ^ 32
      deskLim := desk % 2 ^ 32
      accLim := acc % 2 ^ 16
      cirLim := cir % 2 ^ 12 }, svcOK)

/-! ### Maps (R31 to R34, R255) -/

/-- Requests in progress that passed the check of map `m` of context `c` (R34). -/
def State.mapBusy (s : State) (c m : Nat) : Bool :=
  let inReq (q : FReq) : Bool := match q with
    | .load l => l.ctx == c && l.map == m
    | .maint x => x.ctx == c && x.map == m
    | .query _ _ _ x y => x == c && y == m
    | _ => false
  s.fch.fills.any (fun f => f.reqs.any inReq) || s.fch.waits.any inReq || s.epo.loads.any (fun l => l.ctx == c && l.map == m)
    || s.fch.maints.any (fun x => x.ctx == c && x.map == m) || s.fch.maintQ.any (fun x => x.ctx == c && x.map == m)
    || s.epo.streams.any (fun e =>
      e.2.queue.any (fun q => match q with
        | .write w => w.ctx == c && w.map == m
        | .dup _ x y => x == c && y == m
        | _ => false)
      || e.2.acks.any (fun a => a.ctx == c && a.map == m))

/-- Starts closing every open map of a context (R23, R34); answers whether all of them are closed. -/
def State.closeCtx (s : State) (c : Nat) : State × Bool :=
  let s1 := (s.tqm.maps.filter (fun e => e.1 / 4096 == c && e.2.valid)).foldl (fun s e =>
    let m := e.1 % 4096
    if s.mapBusy c m then s.setMap c m { s.mapEnt c m with valid := false, closing := some .nobody } else s.setMap c m {}) s
  (s1, !s1.tqm.maps.any (fun e => e.1 / 4096 == c))

/-- The PORT_BINDs of a context that wait take effect once its maps are closed (R23). -/
def State.bindNow (s : State) (c : Nat) : State :=
  if s.tqm.binds.any (fun b => b.1 == c) then
    match s.closeCtx c with
    | (s1, false) => s1
    | (s1, true) =>
      (s1.tqm.binds.filter (fun b => b.1 == c)).foldl (fun s b =>
          (s.setCtx c { host := b.2.1, tenant := b.2.2.1 }).answer b.2.2.2 (.svc 0 []))
        { s1 with tqm := { s1.tqm with binds := s1.tqm.binds.filter (fun b => b.1 != c) } }
  else s

/-- Closes a map once nothing uses it (R34); a PORT_BIND may have waited for it (R23). -/
def State.closeMapNow (s : State) (c m : Nat) : State :=
  let e := s.mapEnt c m
  (match e.closing with
  | some src => (s.setMap c m {}).answer src .ok
  | none => s.setMap c m {}).bindNow c

/-- Starts a close: new access stops at once; it completes when the accesses in progress have (R34). -/
def State.closeMap (s : State) (c m : Nat) (src : Src) : State :=
  let s1 := s.setMap c m { s.mapEnt c m with valid := false, closing := some src }
  if s1.mapBusy c m then s1 else s1.closeMapNow c m

/-- MAP OPEN's table work (R31, R32, R255): status and index. A map with the same handle, rights and COOKIE is answered
with its index. -/
def State.openMap (s : State) (c h : Nat) (r w a : Bool) (cookie : Nat) : State × Nat × Nat :=
  match s.liveObj h with
  | none => (s, 1, 0)
  | some _ =>
    let rt := s.rightsOf (s.ctx c).tenant h
    if (r && !rt.1) || (w && !rt.2.1) || (a && !rt.2.2) || !(rt.1 || rt.2.1 || rt.2.2) then (s, 2, 0)
    else
      match s.tqm.maps.find? (fun e => e.1 / 4096 == c && e.2.valid && e.2.handle == h && e.2.r == r && e.2.w == w
          && e.2.a == a && e.2.cookie == cookie) with
      | some e => (s, 0, e.1 % 4096)
      | none =>
        let used := (s.tqm.maps.filter (fun e => e.1 / 4096 == c)).map (·.1 % 4096)
        match lowestFree used 4096 0 1 with
        | [m] =>
          if m < 4096 then (s.setMap c m { valid := true, handle := h, r := r, w := w, a := a, cookie := cookie }, 0, m)
          else (s, 3, 0)
        | _ => (s, 3, 0)

/-- PORT_BIND (R4, R23, R528): the binding changes once every open map of the context is closed; while accesses through
one are in progress the service waits. DESIGN CHOICE (log 97): a context number of 32 or more is answered DENIED. -/
def State.doPortBind (s : State) (c host tenant : Nat) (src : Src) : State × Option SvcRes :=
  let x := s.ctx c
  if c ≥ 32 then (s, some svcDENIED)
  else if tenant ≠ 0xFFF ∧ (tenant = 0 ∨ host = 0 ∨ host ≥ 0xFFF ∨ !s.tenantOk tenant) then (s, some svcDENIED)
  else if x.host = host ∧ x.tenant = tenant ∧ !s.tqm.binds.any (fun b => b.1 == c) then (s, some svcOK)
  else
    match s.closeCtx c with
    | (s1, true) => (s1.setCtx c { host := host, tenant := tenant }, some svcOK)
    | (s1, false) => ({ s1 with tqm := { s1.tqm with binds := s1.tqm.binds ++ [(c, host, tenant, src)] } }, none)

/-! ### Grants and windows -/

/-- GRANT_SET (R29, R528): the lowest free entry of 16,384. DESIGN CHOICE (log 97): a full grant table, and a handle that names
no live object, are answered DENIED, the one refusal the service has. -/
def State.doGrantSet (s : State) (h grantee : Nat) (r w a : Bool) : State × SvcRes :=
  if (s.liveObj h).isNone ∨ (grantee ≠ 0xFFF ∧ !s.tenantOk grantee) then (s, svcDENIED)
  else
    match lowestFree (s.tqm.grants.map (·.1)) 16384 0 1 with
    | [n] => if n < 16384 then
        (s.setGrant n { valid := true, handle := h, grantee := grantee, r := r, w := w, a := a }, { words := [n] })
      else (s, svcDENIED)
    | _ => (s, svcDENIED)

/-- GRANT_CLEAR (R29). DESIGN CHOICE (log 97): an index that holds no grant is answered DENIED. -/
def State.doGrantClear (s : State) (n : Nat) : State × SvcRes :=
  if (s.grant n).valid then (s.setGrant n {}, svcOK) else (s, svcDENIED)

/-- WINDOW_SET (R4, R35, R38): answers the R_Key; tenant and host must be a client's, or for the host 0xFFF, any. DESIGN CHOICE
(log 97): a window that is valid, or whose clear is still waiting, is answered DENIED. -/
def State.doWindowSet (s : State) (n t host h off len base : Nat) (r w a : Bool) : State × SvcRes :=
  let x := s.window n
  if n ≥ 1048576 ∨ !s.tenantOk t ∨ t = 0 ∨ host = 0 then (s, svcDENIED)
  else if (s.liveObj h).isNone then (s, svcNOOBJ)
  else if x.valid ∨ x.clearing.isSome then (s, svcDENIED)
  else
    (s.setWindow n { x with
      valid := true
      tenant := t
      host := host
      handle := h
      off := off
      len := len
      base := base
      r := r
      w := w
      a := a }, { words := [n * 4096 + x.tag] })

/-- Requests in progress that passed the check of a window (R37). -/
def State.winBusy (s : State) (n : Nat) : Bool :=
  let inReq (q : FReq) : Bool := match q with | .load l => l.win == n | _ => false
  s.fch.fills.any (fun f => f.reqs.any inReq) || s.fch.waits.any inReq || s.epo.loads.any (fun l => l.win == n)
    || s.nre.qps.any (fun e => match e.2.wr with | some (_, _, _, win) => win == n | none => false)
    || s.epo.streams.any (fun e => e.2.queue.any (fun q => match q with | .write w => w.win == n | _ => false)
      || e.2.acks.any (fun a => a.win == n))

/-- WINDOW_CLEAR increments the key tag at once (R37); it completes when the accesses in progress have, a WRITE message of
several packets included. DESIGN CHOICE (log 97): a window that is not valid is answered DENIED. -/
def State.doWindowClear (s : State) (n : Nat) (slot : Option Nat) : State × Option SvcRes :=
  let x := s.window n
  if n ≥ 1048576 ∨ !x.valid then (s, some svcDENIED)
  else
    let tag := (x.tag + 1) % 4096
    let s1 := s.setWindow n { tag := tag, clearing := slot }
    if s1.winBusy n ∧ slot.isSome then (s1, none)
    else (s1.setWindow n { tag := tag }, some { words := [n * 4096 + tag] })

/-! ### Shelves (R46, R48, R159) -/

/-- Logical shelves owned or lost, ascending; shelf 0 is the metadata shelf (R26). -/
def State.shelvesUsed (s : State) : List Nat := 0 :: (s.tqm.shelves.filter (fun e => e.2.st != 0 && e.1 != 0)).map (·.1)

/-- Number of logical shelves. -/
def lpaShelves : Nat := 8388608

/-- The lowest base of a run of n free logical shelves (R26); the manual leaves the choice of run open. -/
def State.findRun (s : State) (n : Nat) : Option Nat :=
  let u := s.shelvesUsed
  (u.map (· + 1)).find? (fun b => decide (b + n ≤ lpaShelves) && !(u.any (fun x => decide (b ≤ x ∧ x < b + n))))

/-- TQM_LPA_RUN: the longest run of free logical shelves. -/
def State.lpaRun (s : State) : Nat :=
  let u := s.shelvesUsed ++ [lpaShelves]
  ((u.zip (u.drop 1)).map (fun p => p.2 - p.1 - 1)).foldl max 0

/-- Sled shelves of a link that are taken: allocated, or waiting for their trim (R49, R158). -/
def State.sledTaken (s : State) (n : Nat) : List Nat :=
  (s.tqm.shelves.filterMap (fun e => if (e.2.st == 1 || e.2.st == 3) && e.2.sled == n then some e.2.sledShelf else none))
    ++ (s.link n).trims

/-- STK_LINK_FREE: free shelves on a sled (R158, R159). -/
def State.sledFree (s : State) (n : Nat) : Nat :=
  let l := s.link n
  if l.shelves = 0 then 0 else (l.trimAt.getD l.shelves) - 16 - (s.sledTaken n).length

/-- STK_FREE_TOTAL: free sled shelves on UP sleds. -/
def State.freeTotal (s : State) : Nat := s.sleds.foldl (fun a n => a + s.sledFree n) 0

/-- The partner's free shelves (R327), or none while its first STATUS is awaited. -/
def State.partnerFree (s : State) : Option Nat :=
  match s.twn.status with
  | none => none
  | some (f, m) =>
    let later := s.twn.allocs.filter (fun a => decide (m < a.1))
    some (f + later.foldl (fun a x => a + x.2.2) 0 - later.foldl (fun a x => a + x.2.1) 0)

/-- The sled R159 takes: UP, most free shelves, lower link on a tie. -/
def State.pickSled (s : State) : Option Nat :=
  (s.sleds.filter (fun n => decide (0 < s.sledFree n))).foldl (fun a n =>
    match a with
    | none => some n
    | some m => if s.sledFree m < s.sledFree n then some n else some m) none

/-- Gives a logical shelf an owner (R48, R159): GENERATION rises; a backed shelf takes a sled shelf. -/
def State.ownShelf (s : State) (sh tenant object cls : Nat) : State :=
  let g := ((s.shelf sh).gen + 1) % 2 ^ 24
  let base : Shelf := { st := 2, tenant := tenant, object := object, gen := g, cls := cls }
  if cls = 3 then s.setShelf sh base
  else match s.pickSled with
    | none => s.setShelf sh { base with st := 1 }
    | some n =>
      let taken := s.sledTaken n
      let k := ((lowestFree (taken.map (· - 16)) (taken.length + 1) 0 1).headD 0) + 16
      s.setShelf sh { base with st := 1, sled := n, sledShelf := k }

/-- Frees a logical shelf of a tenant (R49): TILE_TRIM of the whole sled shelf; a LOST one leaves at once. The stacks
charge of a BACKED shelf is released when the sled acknowledges. -/
def State.freeShelf (s : State) (sh tenant : Nat) : State :=
  let e := s.shelf sh
  let s1 := s.setShelf sh { gen := e.gen }
  let t := Tab.get (fun _ => ({} : Tenant)) s1.tqm.tenants tenant
  if e.st = 1 ∨ e.st = 3 then
    let l := s1.link e.sled
    let s2 := s1.setLink e.sled { l with trims := l.trims ++ [e.sledShelf] }
    if e.st = 3 then s2.setTenant tenant { t with stkUse := t.stkUse - 1 }
    else s2.stkSend e.sled { op := 3, shelf := e.sledShelf, tile := 0, mask := 0xFFFF, arg := 16384, ltile := tenant }
  else s1

/-! ### Folios of objects -/

/-- Folios of an object from byte `a` to byte `b` of it. -/
def folioRange (base a b : Nat) : List Nat :=
  let f0 := base * 2 ^ 18 + (a + 4095) / 4096
  let f1 := base * 2 ^ 18 + (b + 4095) / 4096
  (upTo (f1 - f0)).map (· + f0)

/-- The pin walk (R128): a reservation per folio, or none at all, whatever MODE reads. Without a set there is nothing to walk. -/
def State.pinWalk (s : State) (fs : List Nat) : Option State :=
  if s.fch.sets = 0 then some s
  else fs.foldl (fun a f =>
    match a with
    | none => none
    | some s0 => let set := s0.setOf f
      let s := s0.lookup f
      if s.pinLoad set < s.pinLimit then some (s.setPinRsv set (s.pinRsv set + 1)) else none) (some s)

/-- Resident folios of a pinned range get PIN at once and leave the cached count (R40, R129); answers how many are
absent. -/
def State.pinResident (s : State) (fs : List Nat) : State × Nat :=
  fs.foldl (fun p f =>
    match p.1.findWay f with
    | none => (p.1, p.2 + 1)
    | some k =>
      if k ≥ deskKey then (p.1, p.2 + 1)
      else
        let s0 := p.1
        let set := s0.setOf f
        let s1 := (s0.uncharge (s0.way k)).setPinRsv set (s0.pinRsv set - 1)
        let w := s1.way k
        let s2 := if w.st = 4 ∨ w.st = 5 then s1.rescue k false else s1
        (s2.setWay k { s2.way k with pin := true }, p.2)) (s, 0)

/-- PIN bits and reservations of a range are cleared, a folio that had none apart; its folios keep age 3 and join the cached count (R129). -/
def State.unpin (s : State) (fs : List Nat) (tenant : Nat) : State :=
  fs.foldl (fun s f =>
    match s.findWay f with
    | none =>
      if s.fch.unres.contains f then { s with fch := { s.fch with unres := s.fch.unres.filter (· != f) } }
      else let set := s.setOf f; s.setPinRsv set (s.pinRsv set - 1)
    | some k => if (s.way k).pin then (s.setWay k { s.way k with pin := false, age := 3 }).chargeCache tenant else s) s

/-- Discards the folios of a range (R49): ways, buffer copies and fills go, dirty data with them. -/
def State.discard (s : State) (fs : List Nat) : State :=
  fs.foldl (fun s f =>
    let s1 := match s.findWay f with | some k => s.invalidateWay k | none => s
    let s2 : State := { s1 with fch := { s1.fch with evb := s1.fch.evb.filter (fun e => e.folio != f) } }
    match s2.fillOf f with
    | some g => (((match g.way with | some k => if k < deskKey then s2.unbind k else s2 | none => s2).refund g).dropFill f).runReqs
        (g.reqs.filter (fun q => match q with | .maint _ => true | _ => false))
    | none => s2) s

/-- Shelves a length takes. -/
def shelvesFor (len : Nat) : Nat := ceilDiv len (2 ^ 30)
/-- Folios a length takes. -/
def foliosFor (len : Nat) : Nat := ceilDiv len 4096

/-- Checks of an allocation of shelves (R42, R46): none when it fits, or the refusal's reason. DESIGN CHOICE (log 98): where
several reasons apply the model gives STACKS first, then READING_PINNED, LPA_EXHAUSTED, STACKS_FULL, and PIN_SET_FULL last;
a SUSPENDed tenant's Unbacked object, which takes no stacks quota, is refused with READING_PINNED. -/
def State.shelfRefusal (s : State) (t n cls : Nat) (run : Bool) : Option Nat :=
  let r := s.tenant t
  if cls ≠ 3 ∧ !fits r.suspend r.stkLim 0xFFFFFFFF r.stkUse n then some 0x3
  else if r.suspend then some 0x1
  else if !run then some 0x8
  else if cls ≠ 3 ∧ (s.freeTotal < n ∨ (s.mirrors ∧ (s.partnerFree.getD n) < n)) then some 0x9
  else none

/-- The service waits for the partner's first STATUS of the period (R327). -/
def State.allocWait (s : State) (cls : Nat) : Bool := cls != 3 && s.mirrors && s.twn.status.isNone

/-- A refused service: counted on its tenant (R43). -/
def State.svcRefuse (s : State) (t reason : Nat) : State × Option SvcRes := (s.refuse t reason, some (svcQUOTA reason))

/-- Adds to the SERVICE allocations of R327. -/
def State.noteAlloc (s : State) (a f : Nat) : State :=
  if s.mirrors then { s with twn := { s.twn with allocs := s.twn.allocs ++ [(s.twn.mseq, a, f)] } } else s

/-- OBJ_CREATE (R24, R25, R42, R46, R128, R129). An Unbacked object completes when every folio is resident. DESIGN CHOICE
(log 97): with no free slot the answer is DENIED, since no quota reason names the object table. -/
def State.doObjCreate (s : State) (t len cls : Nat) (slot : Option Nat) : State × Option SvcRes :=
  if !s.tenantOk t ∨ t = 0 ∨ len = 0 ∨ len > 8388607 * 2 ^ 30 ∨ cls > 3 then (s, some svcDENIED)
  else
    let n := shelvesFor len
    let r := s.tenant t
    match s.shelfRefusal t n cls (s.findRun n).isSome with
    | some e => s.svcRefuse t e
    | none =>
      if pinnedCls cls ∧ !fits r.suspend r.pinLim 0xFFFFFFFF r.pinUse (foliosFor len) then s.svcRefuse t 0x1
      else
        let base := (s.findRun n).getD 0
        let os := lowestFree (0 :: (s.tqm.objs.filter (fun e => e.2.live)).map (·.1)) 1048577 0 1
        let slotN := os.headD 0
        if slotN = 0 ∨ slotN ≥ 1048576 then (s, some svcDENIED)
        else
          let fs := folioRange base 0 len
          match (if pinnedCls cls then s.pinWalk fs else some s) with
          | none => (s.raise 0x142).svcRefuse t 0x7
          | some s1 =>
            let o := s1.obj slotN
            let num := o.reuse * 2 ^ 20 + slotN
            let s2 := (upTo n).foldl (fun s i => s.ownShelf (base + i) t num cls) s1
            let q := Tab.get (fun _ => ({} : Tenant)) s2.tqm.tenants t
            let s3 := s2.setTenant t { q with
              stkUse := if cls = 3 then q.stkUse else q.stkUse + n
              pinUse := if pinnedCls cls then q.pinUse + foliosFor len else q.pinUse }
            let left := if pinnedCls cls then foliosFor len else 0
            let s4 := (s3.metaTouch (metaObjs + slotN / 64)).setObj slotN { o with
              live := true
              tenant := t
              base := base
              len := len
              cls := cls
              pinLeft := left
              waiter := if cls = 3 then slot else none }
            let h := mkHandle t o.reuse slotN
            (s4.noteAlloc (if cls = 3 then 0 else n) 0, if cls = 3 ∧ slot.isSome then none else some { words := words2 h })

/-- Any map or window names the object (R38). -/
def State.named (s : State) (h : Nat) : Bool :=
  s.tqm.maps.any (fun e => (e.2.valid || e.2.closing.isSome) && e.2.handle == h) || s.tqm.windows.any (fun e => e.2.valid && e.2.handle == h)

/-- OBJ_DELETE (R38, R49). -/
def State.doObjDelete (s : State) (h : Nat) : State × SvcRes :=
  match s.liveObj h with
  | none => (s, svcNOOBJ)
  | some o =>
    if s.named h ∨ o.waiter.isSome then (s, svcBUSY)
    else
      let fs := folioRange o.base 0 o.len
      let s0 := if pinnedCls o.cls then s.unpin fs o.tenant else s
      let s1 := s0.discard fs
      let n := shelvesFor o.len
      let s2 := (upTo n).foldl (fun s i => s.freeShelf (o.base + i) o.tenant) s1
      let q := Tab.get (fun _ => ({} : Tenant)) s2.tqm.tenants o.tenant
      let s3 := if pinnedCls o.cls then s2.setTenant o.tenant { q with pinUse := q.pinUse - foliosFor o.len } else s2
      (((s3.metaTouch (metaObjs + hSlot h / 64)).setObj (hSlot h) { reuse := (o.reuse + 1) % 65536 }).noteAlloc 0 (if o.cls = 3 then 0 else n), svcOK)

/-- OBJ_RESIZE (R25, R529). DESIGN CHOICE (log 97): a length of 0 or above R25's maximum is answered DENIED, as OBJ_CREATE's
is, though the service's own results do not list it. -/
def State.doObjResize (s : State) (h len : Nat) : State × SvcRes :=
  match s.liveObj h with
  | none => (s, svcNOOBJ)
  | some o =>
    let slot := hSlot h
    let n0 := shelvesFor o.len
    let n1 := shelvesFor len
    if o.pinLeft > 0 ∨ (len < o.len ∧ s.named h) then (s, svcBUSY)
    else if len = 0 ∨ len > 8388607 * 2 ^ 30 then (s, svcDENIED)
    else if len < o.len then
      let fs := folioRange o.base len o.len
      let s0 := if pinnedCls o.cls then s.unpin fs o.tenant else s
      let s1 := s0.discard fs
      let s2 := (upTo (n0 - n1)).foldl (fun s i => s.freeShelf (o.base + n1 + i) o.tenant) s1
      let q := Tab.get (fun _ => ({} : Tenant)) s2.tqm.tenants o.tenant
      let s3 := if pinnedCls o.cls then s2.setTenant o.tenant { q with pinUse := q.pinUse - (foliosFor o.len - foliosFor len) } else s2
      (((s3.metaTouch (metaObjs + slot / 64)).setObj slot { o with len := len }).noteAlloc 0 (if o.cls = 3 then 0 else n0 - n1), svcOK)
    else
      let d := n1 - n0
      let room := decide (o.base + n1 ≤ lpaShelves) && (upTo d).all (fun i => (s.shelf (o.base + n0 + i)).st == 0)
      let t := o.tenant
      let r := s.tenant t
      match (if d = 0 then none else s.shelfRefusal t d o.cls room) with
      | some e => (s.refuse t e, svcQUOTA e)
      | none =>
        let more := foliosFor len - foliosFor o.len
        if pinnedCls o.cls ∧ !fits r.suspend r.pinLim 0xFFFFFFFF r.pinUse more then (s.refuse t 0x1, svcQUOTA 0x1)
        else
          match (if pinnedCls o.cls then s.pinWalk (folioRange o.base o.len len) else some s) with
          | none => ((s.raise 0x142).refuse t 0x7, svcQUOTA 0x7)
          | some s1 =>
            let s2 := (upTo d).foldl (fun s i => s.ownShelf (o.base + n0 + i) t (o.reuse * 2 ^ 20 + slot) o.cls) s1
            let q := Tab.get (fun _ => ({} : Tenant)) s2.tqm.tenants t
            let s3 := s2.setTenant t { q with
              stkUse := if o.cls = 3 then q.stkUse else q.stkUse + d
              pinUse := if pinnedCls o.cls then q.pinUse + more else q.pinUse }
            (((s3.metaTouch (metaObjs + slot / 64)).setObj slot { o with len := len, poison := false, pinLeft := if pinnedCls o.cls then o.pinLeft + more else 0 }).noteAlloc
              (if o.cls = 3 then 0 else d) 0, svcOK)

/-- A class change (R40, R41): the ACK status or quota reason it ends with, as (status, quota). -/
def State.placeObj (s : State) (h cls : Nat) : State × Nat × Nat :=
  match s.liveObj h with
  | none => (s, 1, 0)
  | some o =>
    let slot := hSlot h
    if cls ≥ 3 ∨ o.cls = 3 then (s, 2, 0)
    else if o.cls = cls then (s, 0, 0)
    else
      let n := foliosFor o.len
      let fs := folioRange o.base 0 o.len
      let shelvesTo (s : State) : State :=
        (upTo (shelvesFor o.len)).foldl (fun s i => s.setShelf (o.base + i) { s.shelf (o.base + i) with cls := cls })
          (s.metaTouch (metaObjs + slot / 64))
      if cls = 2 then
        let r := s.tenant o.tenant
        if !fits r.suspend r.pinLim 0xFFFFFFFF r.pinUse n then (s.refuse o.tenant 0x1, 0, 0x1)
        else match s.pinWalk fs with
          | none => ((s.raise 0x142).refuse o.tenant 0x7, 0, 0x7)
          | some s1 =>
            let q := Tab.get (fun _ => ({} : Tenant)) s1.tqm.tenants o.tenant
            let (s2, left) := (s1.setTenant o.tenant { q with pinUse := q.pinUse + n }).pinResident fs
            (shelvesTo (s2.setObj slot { o with cls := 2, pinLeft := left }), 0, 0)
      else if o.cls = 2 then
        let q := Tab.get (fun _ => ({} : Tenant)) s.tqm.tenants o.tenant
        let s1 := (s.setTenant o.tenant { q with pinUse := q.pinUse - n }).unpin fs o.tenant
        (shelvesTo (s1.setObj slot { o with cls := cls, pinLeft := 0 }), 0, 0)
      else (shelvesTo (s.setObj slot { o with cls := cls }), 0, 0)

/-- OBJ_PLACE (R40). -/
def State.doObjPlace (s : State) (h cls : Nat) : State × SvcRes :=
  match s.placeObj h cls with
  | (s1, 0, 0) => (s1, svcOK)
  | (s1, 0, q) => (s1, svcQUOTA q)
  | (s1, 1, _) => (s1, svcNOOBJ)
  | (s1, _, _) => (s1, svcDENIED)

end Sys2Proof.Machine
end

