-- ==== Sys2Proof/Machine/TvMsg.lean ====
section
/-! DEFINITION. Tvedfy messages: header slots (R217, R238 to R243), admission, the map check (R33), sequence numbers
(R248). -/

namespace Sys2Proof.Machine

/-! ### Header slots -/

def hTag (h : BitVec 128) : Nat := bitsOf h.toNat 27 16
def hOp (h : BitVec 128) : Nat := bitsOf h.toNat 15 8
def hResent (h : BitVec 128) : Bool := h.getLsbD 28
def hMap (h : BitVec 128) : Nat := bitsOf h.toNat 43 32
def hOffset (h : BitVec 128) : Nat := bitsOf h.toNat 96 44
def hLen (h : BitVec 128) : Nat := bitsOf h.toNat 103 97 + 1
def hStream (h : BitVec 128) : Nat := bitsOf h.toNat 108 97
def hSsn (h : BitVec 128) : Nat := bitsOf h.toNat 124 109
def hAop (h : BitVec 128) : Nat := bitsOf h.toNat 127 125
def hPlace (h : BitVec 128) : Nat := bitsOf h.toNat 98 97
def hMop (h : BitVec 128) : Nat := bitsOf h.toNat 99 97
def hEop (h : BitVec 128) : Nat := bitsOf h.toNat 112 109
def hEpoch (h : BitVec 128) : Nat := bitsOf h.toNat 127 116

/-- Bits [hi:lo] are all 0. -/
def zeroBits (h : BitVec 128) (hi lo : Nat) : Bool := bitsOf h.toNat hi lo == 0

/-- Byte 0 and OP are those of the table of R237: class, SLOTS, ATOMIC bit, opcode. -/
def tvShape (h : BitVec 128) (cls slots : Nat) (atomic : Bool) (op : Nat) : Bool :=
  bitsOf h.toNat 1 0 == cls && bitsOf h.toNat 5 2 == slots && h.getLsbD 6 == atomic && hOp h == op

/-- A header slot from its fields, for the address form (R240): byte 0, OP, TAG, RESENT, MAP, OFFSET, and bits
[127:97]. -/
def mkHdr (cls slots : Nat) (atomic : Bool) (op tag : Nat) (resent : Bool) (map off high : Nat) : BitVec 128 :=
  BitVec.ofNat 128 (cls + slots * 4 + b2n atomic * 64 + op * 2 ^ 8 + tag * 2 ^ 16 + b2n resent * 2 ^ 28 + map * 2 ^ 32
    + off * 2 ^ 44 + high * 2 ^ 97)

/-! ### Admission of a message -/

/-- The port of a link, and whether it runs as two halves (R23, R63). -/
def portOf (lk : Nat) : Nat := lk / 2
def State.split (s : State) (lk : Nat) : Bool := (s.tvl_ lk).split

/-- A link whose messages are executed: client ports open, link ACTIVE, the unit holds the token and is not draining. -/
def State.tvServes (s : State) (lk : Nat) : Bool :=
  s.ports && decide (lk < 32) && (s.tvl_ lk).st == 4 && s.holder && !s.twn.drained && s.rsv.ph == .off

/-- A whole message with this header stands in the link's receive buffer: it is executed though the link is LOST (R230). -/
def State.tvBuffered (s : State) (lk : Nat) (h : BitVec 128) : Bool := (s.tvl_ lk).buf.any (fun m => m.head? == some h)

/-- Under stage 3 Posted-write and ATOMIC counts stop (R225); under the congestion order Request and Posted-write
(R355). -/
def State.holdPw (s : State) (lk : Nat) : Bool := decide (s.rsv.stage ≥ 3) || s.bpm.held.contains lk
def State.holdAt (s : State) : Bool := decide (s.rsv.stage ≥ 3)
def State.holdRq (s : State) (lk : Nat) : Bool := s.bpm.held.contains lk

/-- A message leaves the receive buffer for the desk: its slots are freed, and reported unless its class is withheld
(R223, R225). -/
def State.tvLeave (s : State) (lk : Nat) (h : BitVec 128) : State :=
  let l := s.tvl_ lk
  match l.buf.find? (fun m => m.head? == some h) with
  | none => s
  | some m =>
    let n := bitsOf h.toNat 5 2
    let c := bitsOf h.toNat 1 0
    let l1 := { l with buf := l.buf.erase m }
    let l2 :=
      if c = 0 then (if s.holdRq lk then { l1 with heldRq := l1.heldRq + n } else
        { l1 with cntRq := (l1.cntRq + n) % 4096, crRq := l1.crRq + n })
      else if c = 2 then (if s.holdPw lk then { l1 with heldPw := l1.heldPw + n } else
        { l1 with cntPw := (l1.cntPw + n) % 4096, crPw := l1.crPw + n })
      else { l1 with cntEv := (l1.cntEv + n) % 4096, crEv := l1.crEv + n }
    let l3 := if h.getLsbD 6 then
        (if s.holdAt then { l2 with heldAt := l2.heldAt + 1 } else { l2 with cntAt := (l2.cntAt + 1) % 64, crAt := l2.crAt + 1 })
      else l2
    s.setTvl lk l3

/-- The stream index a message names (R63), none when an x2 half names an ID outside its range. -/
def State.tvStream (s : State) (lk id : Nat) : Option Nat :=
  if s.split lk ∧ (decide (id < 2048) = decide (lk % 2 = 1)) then none else some (portOf lk * 4096 + id)

/-- How far the common checks of a message went. -/
inductive TvGate where
  /-- nothing is executed: the link does not serve, or the message waits in the receive buffer for a buffer -/
  | no (s : State)
  /-- answered already -/
  | ended (s : State)
  /-- goes on, answers going to `src`; `desk` is false when the tenant's desk limit refused the buffer -/
  | go (s : State) (src : Src) (desk : Bool)

/-- One more Tvedfy request takes its place in the order (R250). -/
def State.arrive (s : State) : State := { s with epo := { s.epo with arrivals := s.epo.arrivals + 1 } }

/-- The common path of a request (R23, R225, R238, R352, R353): a desk buffer of the link, the FORMAT check, the
context's tenant, TQM_CTRL.ENABLE, the tenant's desk charge. -/
def State.tvGate (s : State) (lk : Nat) (h : BitVec 128) (format : Bool) : TvGate :=
  if !(s.tvServes lk || (s.ports && s.holder && s.rsv.ph == .off && s.tvBuffered lk h)) then .no s
  else
    match s.bpmAlloc lk 0 1 true false none with
    | (sa, some [p]) =>
      let s0 : State := { sa with bpm := { sa.bpm with held := sa.bpm.held.filter (· != lk) } }
      let s1 := (s0.tvLeave lk h).arrive
      let src : Src := .tv lk (hTag h + 4096 * (s1.tvl_ lk).life) p
      let t := (s1.ctx lk).tenant
      if !format then .ended (s1.answer src (.poison rsFORMAT))
      else if t = 0xFFF ∨ !s1.flag fTQM_CTRL_ENABLE ∨ !s1.tqm.ready then .ended (s1.answer src (.poison rsACCESS))
      else match s1.deskCharge t 256 with
        | some s2 =>
          match s2.ptrFind p with
          | .ok (_, k) =>
            .go { s2 with bpm := { s2.bpm with bufs := Tab.set (fun _ => {}) s2.bpm.bufs k { owner := lk + 1, tenant := t + 1 } } } src true
          | .error _ => .go s2 src true
        | none => .go (s1.refuse t 0x4) src false
    | (s1, _) =>
      if s1.bpm.held.contains lk then .no s1
      else .no ({ s1 with bpm := { s1.bpm with held := s1.bpm.held ++ [lk] } }.bump rBPM_CNT_WAIT)

/-- A request refused by the map check or the checks of R27 and R28 (R33). -/
def State.tvDeny (s : State) (src : Src) (reason : Nat) : State :=
  ((s.bump rTQM_CNT_DENY).raise 0x153).answer src (.poison reason)

/-- The map check (R33) and translation (R27): the logical address and the owning tenant. -/
def State.mapCheck (s : State) (lk m : Nat) (need : MapEnt → Bool) (off size : Nat) : Except Nat (Nat × Nat) :=
  let e := s.mapEnt lk m
  if !e.valid ∨ !need e then .error rsACCESS
  else match s.translate e.handle off size with
    | .ok a => .ok (a, hTenant e.handle)
    | .error r => .error r

/-- d of R248. -/
def ssnDiff (ssn last : Nat) : Nat := (ssn + 65536 - last % 65536) % 65536

/-- What R248 says of a write. -/
inductive SsnDec where
  | new | dup | gap
deriving DecidableEq, Repr

def ssnJudge (ssn last : Nat) : SsnDec :=
  let d := ssnDiff ssn last
  if d = 1 then .new else if d = 0 ∨ d ≥ 32768 then .dup else .gap

/-- SOLO_POLICY 1 holds new writes of a mirrored stream (R59). -/
def State.soloHolds (s : State) (r : Stream) : Bool := r.mode && r.live && s.solo && s.flag fEPO_CTRL_SOLO_POLICY

/-- A write takes its place in its stream's order (R65, R248): a new one uses its SSN whatever becomes of it, a duplicate
takes its place as a write that changes nothing, a gap is refused. `bad` is the refusal of the checks made before. -/
def State.tvWrite (s : State) (lk : Nat) (_h : BitVec 128) (i ssn : Nat) (src : Src) (desk : Bool)
    (chk : Except Nat WriteReq) : State :=
  if !s.flag fEPO_CTRL_ENABLE then s.answer src (.poison rsACCESS)
  else
    let r := s.stream i
    match ssnJudge ssn r.lastSsn with
    | .gap => s.answer src (.poison rsSEQUENCE)
    | .dup =>
      let s1 := (s.bump rEPO_CNT_DUP).raise 0x175
      (s1.setStream i { s1.stream i with queue := (s1.stream i).queue ++
        [match chk with | .ok w => .dup src w.ctx w.map | .error _ => .dup src 32 4096] }).pumpAll i
    | .new =>
      let s1 := s.setStream i { r with lastSsn := ssn }
      if !desk then (s1.mirror_ (.ssn i ssn)).answer src (.retry 0x4)
      else match chk with
        | .error e =>
          let s2 := s1.mirror_ (.ssn i ssn)
          if e = rsFORMAT then s2.answer src (.poison e) else s2.tvDeny src e
        | .ok w =>
          if s1.soloHolds r then
            (s1.mirror_ (.ssn i ssn)).answer src (.retry 0x0)
          else
            let held := r.st == .closing
            let s2 := s1.setStream i { s1.stream i with queue := (s1.stream i).queue ++ [.write w] }
            let s3 := if held then s2.bump rEPO_CNT_HELD else s2
            if lk < 32 then s3.pumpAll i else s3

/-- The end of every meaning that answers a next state. -/
def keep (s : State) : Host.Outcome State Fault Refusal := .next s

/-! ### ROLE (R232, R233) -/

/-- Sends ROLE, a CTRL flit, on one link when the token was gained or lost since (R232, R233), once the replay buffer has room. -/
def State.sayRole (s : State) (lk : Nat) : State :=
  let l := s.tvl_ lk
  let h := s.holder
  if lk ≥ 32 ∨ l.st ≠ 4 ∨ l.holderSaid = h ∨ !l.room lk then s
  else
    ((s.setTvl lk { l with
      holderSaid := h
      cntRq := if h then 0 else l.cntRq
      cntPw := if h then 0 else l.cntPw
      cntAt := if h then 0 else l.cntAt
      heldRq := 0
      heldPw := 0
      heldAt := 0
      crRq := if h then (if l.split then 1024 else 2048) else 0
      crPw := if h then (if l.split then 3072 else 6144) else 0
      crAt := if h then (if l.split then 16 else 32) else 0 }).emit (.role lk h)).sendFlit lk 2 15 (roleBlock h s.tvl.roles)

/-- ROLE on every ACTIVE link; ROLE_COUNT counts the changes of role. -/
def State.sayRoles (s : State) : State :=
  let h := s.holder
  let s1 := if h = s.tvl.roleSaid then s else { s with tvl := { s.tvl with roleSaid := h, roles := s.tvl.roles + 1 } }
  s1.tvl.links.foldl (fun s e => s.sayRole e.1) s1

end Sys2Proof.Machine
end

