-- ==== Sys2Proof/Machine/NetOps.lean ====
section
/-! DEFINITION. Operations of ETH and NRE that commands share: ports and their queues (R260 to R265), addresses (R267),
queue-pair contexts and the card index (R284), async events (R292), admission (R36, R280), answers in PSN order (R274,
R275, R280, R291). -/

namespace Sys2Proof.Machine

/-! ### Ports -/

/-- Byte offset of a port's MAC window, and of its own registers. -/
def ethOff (e : Nat) : Nat := 0x100000 * (e / 4)
def ethSub (e : Nat) : Nat := ethOff e + 0x40 * (e % 4)

/-- Interrupt source of a port's MAC (R296). -/
def ethSrc (e off : Nat) : Nat := 0x280 + 8 * (e / 4) + off

def State.ethPort (s : State) (e : Nat) : EthPort := Tab.get (fun _ => {}) s.eth.ports e
def State.setEthPort (s : State) (e : Nat) (p : EthPort) : State :=
  { s with eth := { s.eth with ports := Tab.set (fun _ => {}) s.eth.ports e p } }

/-- Sub-ports of a MODE (R260). -/
def modeHas (mode k : Nat) : Bool :=
  if mode = 0 then k == 0 else if mode = 1 then k == 0 || k == 2 else if mode = 2 then decide (k < 4) else k == 0 || k == 2 || k == 3

/-- Lanes of sub-port `k` in a MODE (R260). -/
def modeLanes (mode k : Nat) : Nat := if mode = 0 then 4 else if mode = 1 then 2 else if mode = 2 then 1 else if k = 0 then 2 else 1

/-- The MODE of a port's MAC (R260): a change takes effect at the MAC's next training, so while one of its ports is up it is the
one that stood when they trained. -/
def State.ethMode (s : State) (e : Nat) : Nat :=
  if (upTo 4).any (fun k => (s.ethPort (e / 4 * 4 + k)).up) then Tab.get (fun _ => 0) s.eth.modes (e / 4)
  else s.fld (fETH_CTRL_MODE.plus (ethOff e))

/-- A port is enabled, exists in its MAC's MODE (R260) and none of its lanes is in test (R484). -/
def State.ethEnabled (s : State) (e : Nat) : Bool :=
  let mode := s.ethMode e
  decide (e < 32) && bitOf (s.fld (fETH_CTRL_PORT_EN.plus (ethOff e))) (e % 4)
    && modeHas mode (e % 4) && !s.testing (64 + e) (modeLanes mode (e % 4))

/-- A priority is lossless on a port: set in ETH_PFC.TX_EN (R355). -/
def State.lossless (s : State) (e prio : Nat) : Bool := bitOf (s.fld (fETH_PFC_TX_EN.plus (ethOff e))) prio

/-- The MAC address a port sends from (R261). -/
def State.portMac (s : State) (e : Nat) : Nat :=
  (s.fld ⟨rETH_MACADDR_LO + ethOff e, 31, 0⟩ + s.fld ⟨rETH_MACADDR_HI + ethOff e, 15, 0⟩ * 2 ^ 32 + e % 4) % 2 ^ 48

/-- Every RoCE packet is marked ECT(0), except CNPs (R266). -/
def Emit.ect : Emit → Bool
  | .roce _ op _ _ _ => op != 0x81
  | .rdmaWrite .. => true
  | .rdmaRead .. => true
  | .cm .. => true
  | .cmRep .. => true
  | _ => false

/-- Frames that carry it. -/
def Emit.frames : Emit → Nat
  | .rdmaWrite _ _ n _ _ _ _ => n
  | .frame _ _ _ _ _ x => x.frames
  | _ => 1

/-- Priority of a DSCP on a port (R262). -/
def State.dscpPrio (s : State) (e d : Nat) : Nat := s.fld ⟨rETH_DSCP + ethOff e + 4 * (d % 64 / 8), 4 * (d % 8) + 2, 4 * (d % 8)⟩

/-- The mark of a packet that the unit sends of its own accord with a DSCP. -/
def State.dscpMark (s : State) (e d : Nat) : Mark := { prio := s.dscpPrio e d, dscp := some d }

/-- How a received frame is marked (R262): its priority is that of its DSCP, or its PCP. -/
def State.frameMark (s : State) (e : Nat) (tag dscp : Option Nat) : Mark :=
  { prio := if s.flag (fETH_CTRL_PRIO_SRC.plus (ethOff e)) then tag.getD 0 % 8 else dscp.elim 0 (s.dscpPrio e)
    dscp := dscp
    pcp := tag }

/-- Sends a packet on a port: held while its priority is paused (R263), lost while the port is down. -/
def State.ethSend (s : State) (e : Nat) (m : Mark) (x : Emit) : State :=
  let p := s.ethPort e
  let y := Emit.frame e (s.portMac e) m.dscp m.pcp x.ect x
  if !p.up then s
  else if p.paused.contains m.prio then s.setEthPort e { p with held := p.held ++ [(m.prio, y)] }
  else (s.emit y).bumpBy (rETH_P_TX + ethSub e) y.frames

/-- Weight of a traffic class (R265). -/
def State.etsWeight (s : State) (e c : Nat) : Nat := s.fld ⟨rETH_ETS + ethOff e + 4 * (c / 4), 8 * (c % 4) + 7, 8 * (c % 4)⟩

/-- Bytes of a packet as ETS counts them: its payload, and 64 for its headers (DESIGN CHOICE, log 114). -/
def Emit.size : Emit → Nat
  | .roce _ _ _ _ p => p.length + 64
  | .rdmaWrite _ _ n _ _ _ p => p.length + 64 * n
  | .frame _ _ _ _ _ x => x.size
  | _ => 64

/-- Of two weighted classes with their bytes sent and weights, the one that has had less than its share, the higher on a tie. -/
def etsLess (a b : Nat × Nat × Nat) : Nat × Nat × Nat := if b.2.1 * a.2.2 ≤ a.2.1 * b.2.2 then b else a

/-- The class that ETS serves next on a port (R265), of those that have a packet and are not paused: the strict ones from class 7
down, then the weighted ones in proportion to their weights. -/
def State.etsPick (s : State) (e : Nat) : Option Nat :=
  let p := s.ethPort e
  let ready := (upTo 8).filter (fun c => !p.paused.contains c && p.held.any (fun h => h.1 == c))
  match (ready.filter (fun c => s.etsWeight e c == 0)).getLast? with
  | some c => some c
  | none =>
    match ready.map (fun c => (c, Tab.get (fun _ => 0) p.sent c, s.etsWeight e c)) with
    | [] => none
    | x :: t => some (t.foldl etsLess x).1

/-- Sends held packets of a port in the order of ETS, while a class that is not paused has one. -/
def State.ethDrain (s : State) (e : Nat) : Nat → State
  | 0 => s
  | n + 1 =>
    match s.etsPick e with
    | none => s.setEthPort e { s.ethPort e with sent := [] }
    | some c =>
      let p := s.ethPort e
      match p.held.find? (fun h => h.1 == c) with
      | none => s
      | some h =>
        let sent := if s.etsWeight e c = 0 then p.sent else Tab.set (fun _ => 0) p.sent c (Tab.get (fun _ => 0) p.sent c + h.2.size)
        (((s.setEthPort e { p with held := p.held.erase h, sent := sent }).emit h.2).bumpBy (rETH_P_TX + ethSub e) h.2.frames).ethDrain e n

/-- The pause of priorities ends on a port: what was held leaves. -/
def State.ethResume (s : State) (e : Nat) (prios : List Nat) : State :=
  let p := s.ethPort e
  (s.setEthPort e { p with paused := p.paused.filter (fun x => !prios.contains x) }).ethDrain e (p.held.length + 1)

/-- A dropped frame. -/
def State.ethDrop (s : State) (e : Nat) : State := s.bump (rETH_P_DROP + ethSub e)

/-- A frame takes a desk buffer of its port (R350, R352), or is dropped. -/
def State.ethBuffer (s : State) (e prio len : Nat) : State × Option Nat :=
  let pool := if len ≤ 256 then 0 else if len ≤ 2048 then 1 else 2
  match s.bpmAlloc (0x20 + e) pool 1 true (s.lossless e prio) none with
  | (s1, some [p]) => (s1, some p)
  | (s1, _) =>
    let s2 := (s1.ethDrop e).raise (ethSrc e 7)
    (if s.lossless e prio then (s2.bump rBPM_CNT_DROP_HDRM).raise 0x385 else s2.bump rBPM_CNT_DROP_LOSSY, none)

/-- The frame a packet came in: the oldest one its port has buffered, or one that arrives with it, untagged and with this DSCP
(log 116). Answers how it is marked and its desk buffer. -/
def State.takeFrame (s : State) (e len : Nat) (dscp : Option Nat) : State × Option (Mark × Nat) :=
  let p := s.ethPort e
  match p.frames with
  | f :: t => (s.setEthPort e { p with frames := t }, some f)
  | [] =>
    let m := s.frameMark e none dscp
    match (s.bump (rETH_P_RX + ethSub e)).ethBuffer e m.prio len with
    | (s1, some b) => (s1, some (m, b))
    | (s1, none) => (s1, none)

/-! ### Addresses -/

/-- IPv4-mapped (R267). -/
def isV4 (a : Nat) : Bool := a % 2 ^ 80 == 0 && a / 2 ^ 80 % 65536 == 0xFFFF

def State.netAddr (s : State) (n : Nat) : NetAddr := Tab.get (fun _ => {}) s.nre.addrs n

/-- Floating addresses are answered (R267, R268): the unit holds the token, or is UNPAIRED. -/
def State.floatsHere (s : State) : Bool := s.twn.role == .unpaired || (s.twn.role == .active && s.twn.floating)

/-- The valid entry that holds an address on a port. -/
def State.addrOn (s : State) (e a : Nat) : Option NetAddr :=
  (((upTo 64).map s.netAddr).find? (fun x => x.valid && x.addr == a && bitOf x.mask e))

/-- The unit answers for an address on a port (R267). -/
def State.answersFor (s : State) (e a : Nat) : Bool :=
  (s.ethPort e).up && (match s.addrOn e a with | some x => !x.floating || s.floatsHere | none => false)

/-- Gratuitous ARP and unsolicited NA for every floating address on every port of its mask that is up (R268). -/
def State.announce (s : State) : State :=
  ((upTo 64).map s.netAddr).foldl (fun s x =>
    if x.valid ∧ x.floating then
      (upTo 32).foldl (fun s e =>
        if bitOf x.mask e then s.ethSend e {} (.eth e (if isV4 x.addr then "GARP" else "NA") x.addr) else s) s
    else s) s

/-! ### Contexts -/

def State.qp (s : State) (q : Nat) : Qp := Tab.get (fun _ => {}) s.nre.qps q
def State.setQp (s : State) (q : Nat) (x : Qp) : State :=
  { s with nre := { s.nre with qps := Tab.set (fun _ => {}) s.nre.qps q x } }

/-- The stream of a client queue pair (R63). -/
def qpStream (q : Nat) : Nat := 65536 + q

/-- A context may not be evicted (R284). -/
def Qp.held (x : Qp) : Bool := x.stall || x.circ || !x.out.isEmpty || !x.waiting.isEmpty

/-- The context is in the card index. -/
def State.carded (s : State) (q : Nat) : Bool := s.nre.cards.any (fun c => c.1 == q)

/-- NRE_STATUS.CI_FULL: every cached context is held (R285). -/
def State.ciFull (s : State) : Bool := decide (s.nre.cards.length ≥ 32768) && s.nre.cards.all (fun c => (s.qp c.1).held)

/-- The clock (R284): the hand passes held contexts and those with a reference bit, clearing it, and takes the next. -/
def State.clock (s : State) : Nat → List (Nat × Bool) → Option (List (Nat × Bool))
  | 0, _ => none
  | n + 1, l =>
    match l with
    | [] => none
    | (q, r) :: t => if r || (s.qp q).held then s.clock n (t ++ [(q, false)]) else some t

/-- Brings a context into the card index, evicting one by the clock; nothing when every one is held. -/
def State.card (s : State) (q : Nat) : State × Bool :=
  if s.carded q then
    ({ s with nre := { s.nre with cards := s.nre.cards.map (fun c => if c.1 = q then (q, true) else c) } }, true)
  else if s.nre.cards.length < 32768 then ({ s with nre := { s.nre with cards := s.nre.cards ++ [(q, true)] } }, true)
  else
    match s.clock (2 * s.nre.cards.length + 1) s.nre.cards with
    | some l => ({ s with nre := { s.nre with cards := l ++ [(q, true)] } }, true)
    | none => (s, false)

/-- Returns the desk buffers of a queue pair's requests. -/
def State.dropReqs (s : State) (x : Qp) : State :=
  (x.out.map (fun o => (o.port, o.buf)) ++ x.waiting.map (fun w => (w.port, w.buf))).foldl (fun s b =>
    if b.2 ≥ noBuf then s else s.bpmReturn b.2 (0x20 + b.1)) s

/-- Frees a queue pair. -/
def State.freeQp (s : State) (q : Nat) : State :=
  let s1 := s.dropReqs (s.qp q)
  { s1.setQp q {} with nre := { (s1.setQp q {}).nre with
    cards := s1.nre.cards.filter (fun c => c.1 != q)
    fetching := s1.nre.fetching.filter (· != q) } }

/-! ### Async events -/

/-- Writes an async event (R292, R293). -/
def State.async (s : State) (code port qpn host reason : Nat) (quota : Bool) : State :=
  if !s.flag fNRE_CTRL_ASYNC_EN then s
  else
    let r := BitVec.ofNat 128 (code % 256 + port % 256 * 2 ^ 8 + qpn % 2 ^ 24 * 2 ^ 16 + host % 4096 * 2 ^ 40
      + reason % 16 * 2 ^ 52 + b2n quota * 2 ^ 56 + s.timeUs % 2 ^ 64 * 2 ^ 64)
    let n := s.nre.ringAt
    ({ s with nre := { s.nre with
      ring := Tab.set (fun _ => 0) s.nre.ring (n % 256) r
      ringAt := n + 1
      ringSeen := max s.nre.ringSeen (n + 1 - 256)
      ovf := s.nre.ovf || decide (n + 1 - s.nre.ringSeen > 256) } }).raise 0x2C5

/-! ### Answers -/

/-- Ends an open epoch for a fault, telling the standby (R81, R323). -/
def State.faultEpoch (s : State) (i cause : Nat) (answers : Bool) : State :=
  let r := s.stream i
  if !r.live then s
  else (s.endEpoch i cause answers).mirror_ (.epoch i 3 cause r.mode false false r.epoch)

/-- The NAK of a POISON reason (R280). -/
def nakOf (reason : Nat) : Nat := if reason = rsACCESS ∨ reason = rsRANGE then 0x62
  else if reason = rsMEDIA ∨ reason = rsLOST ∨ reason = rsSTALE then 0x63 else 0x61

/-- Sends one packet of a queue pair with an AETH: syndrome and MSN. -/
def State.roceSend (s : State) (q : Nat) (o : QOut) (op syn : Nat) (payload : List Byte) : State :=
  (s.spend (s.stream (qpStream q)).tenant 5 1).ethSend o.port o.mark (.roce q op o.psn (syn + 256 * (s.qp q).msn) payload)

/-- A client queue pair enters ERROR as it sends a NAK (R280, R291). -/
def State.qpError (s : State) (q : Nat) (o : QOut) (syn reason : Nat) (quota : Bool) : State :=
  let x := s.qp q
  let s1 := s.roceSend q o 0x11 syn []
  let s2 := s1.dropReqs x
  let s3 := s2.setQp q { x with st := 3, out := [], waiting := [], stall := false, wr := none, rnr := none, recs := [] }
  let s4 := ((s3.faultEpoch (qpStream q) 3 true).raise 0x2C0).bump rNRE_CNT_QP_ERR
  s4.async (if syn = 0x61 ∧ reason ≠ 0 then 5 else if syn = 0x62 then 6 else 4) 0xFF (0x100000 + q) x.host reason quota

/-- Response packets of a READ: First, Middle, Last, or Only (R286). -/
def State.readPackets (s : State) (q : Nat) (o : QOut) (size : Nat) : Nat → List Byte → Bool → State
  | 0, _, _ => s
  | n + 1, l, first =>
    let last := decide (l.length ≤ size)
    let op := if first && last then 0x10 else if first then 0x0D else if last then 0x0F else 0x0E
    let s1 := s.roceSend q o op 0x1F (l.take size)
    if last then s1 else s1.readPackets q { o with psn := (o.psn + 1) % 2 ^ 24 } size n (l.drop size) false

/-- Payload bytes a packet of a PMTU holds. -/
def mtuBytes (p : Nat) : Nat := if p = 0 then 1024 else if p = 1 then 2048 else 4096

/-- Sends the answer of the request at the front of a queue pair's order, or takes the queue pair to ERROR; so does a close whose
epoch STREAM_ABORT ended (R70; DEDUCED, log 48). -/
def State.qpReply (s : State) (q : Nat) (o : QOut) (a : Ans) : State :=
  let x := s.qp q
  match o.kind with
  | .nak syn r quota => s.qpError q o syn r quota
  | .rnr c => s.roceSend q o 0x11 (0x20 + c) []
  | .seqNak => s.roceSend q o 0x11 0x60 []
  | k =>
    match a with
    | .poison r => s.qpError q o (nakOf r) r false
    | .quota r => s.qpError q o 0x63 r true
    | .unknown => s.qpError q o 0x61 rsSTREAM false
    | .data b _ _ =>
      match k with
      | .cmd false => s
      | .read => s.readPackets q o (mtuBytes x.pmtu) (b.length / mtuBytes x.pmtu + 1) b true
      | .atomic =>
        (s.setQp q { x with recs := x.recs.map (fun e => if e.1 = o.psn then (e.1, some b) else e) }).roceSend q o 0x12 0x1F b
      | _ => s.roceSend q o 0x11 0x1F []
    | _ => match k with
      | .ack false => s
      | .cmd false => s
      | _ => s.roceSend q o 0x11 0x1F []

/-- Sends the answers at the front of a queue pair's order that are ready (R274). -/
def State.qpFlush (s : State) (q : Nat) : Nat → State
  | 0 => s
  | n + 1 =>
    let x := s.qp q
    match x.out with
    | [] => s
    | o :: t =>
      let ready : Option Ans := match o.kind with
        | .nak .. => some .ok
        | .rnr _ => some .ok
        | .seqNak => some .ok
        | _ => o.ans
      match ready with
      | none => s
      | some a =>
        let s1 := (s.setQp q { x with out := t }).qpReply q o a
        (if o.buf ≥ noBuf then s1 else s1.bpmReturn o.buf (0x20 + o.port)).qpFlush q n

/-- The status block after a command (R278). -/
def Qp.command (x : Qp) (a : Ans) : Qp :=
  match a with
  | .ack _ so un st _ _ _ _ => { x with done := (x.done + 1) % 2 ^ 32, status := st, uncat := un, solo := so, recBytes := [] }
  | .data b _ _ => { x with done := (x.done + 1) % 2 ^ 32, status := 0, uncat := false, solo := false, recBytes := b }
  | _ => x

/-- A request of a queue pair came to an answer. -/
def State.qpAnswered (s : State) (q id : Nat) (a : Ans) : State :=
  let x := s.qp q
  if x.st ≠ 2 then s
  else
    let isCmd := x.out.any (fun o => o.id == id && (match o.kind with | .cmd _ => true | _ => false))
    let x1 := if isCmd then x.command a else x
    let s1 := s.setQp q { x1 with out := x1.out.map (fun o => if o.id = id then { o with ans := some a } else o) }
    s1.qpFlush q x.out.length

/-- Adds a request to a queue pair's order; answers its number. -/
def State.qpPush (s : State) (q : Nat) (o : QOut) : State × Nat :=
  let x := s.qp q
  (s.setQp q { x with out := x.out ++ [{ o with id := x.nextId }], nextId := x.nextId + 1 }, x.nextId)

/-! ### Windows (R36) -/

/-- The check of R36 with R29 and R27: logical address, owner, window, tenant of the access. -/
def State.winCheck (s : State) (host rkey va len : Nat) (right : Bool × Bool × Bool → Bool) :
    Except Nat (Nat × Nat × Nat × Nat) :=
  let n := rkey / 4096
  let w := s.window n
  if n = 0 ∨ !w.valid ∨ w.tag ≠ rkey % 4096 ∨ (w.host ≠ host ∧ w.host ≠ 0xFFF) ∨ !right (w.r, w.w, w.a) then .error rsACCESS
  else if va < w.base ∨ va + len > w.base + w.len then .error rsACCESS
  else if !right (s.rightsOf w.tenant w.handle) then .error rsACCESS
  else match s.translate w.handle (w.off + (va - w.base)) len with
    | .ok a => .ok (a, hTenant w.handle, n, w.tenant)
    | .error e => .error e

/-- A failed check counts (R33, R53). -/
def State.winDeny (s : State) : State := (s.bump rTQM_CNT_DENY).raise 0x153

/-! ### On-demand paging (R286 to R289) -/

/-- L_s: the mean of the last round trips of a sled; with none yet, the manual gives no value. -/
def State.meanRtt (s : State) (n : Nat) : Nat :=
  let r := (s.link n).rtts
  if r.isEmpty then (Config.freeWord s.freeCtr).toNat else r.foldl (· + ·) 0 / r.length

/-- The prediction for a folio in µs (R287). -/
def State.predict (s : State) (folio : Nat) : Nat :=
  match s.findWay folio with
  | some _ => 0
  | none =>
    match s.fillOf folio with
    | some f => s.meanRtt (s.sledLink folio) - (s.timeUs - f.since)
    | none => s.meanRtt (s.sledLink folio)

/-- Times of the RNR timer codes 1 to 31, in 10 µs (R289). -/
def rnrTimes : List Nat := [1, 2, 3, 4, 6, 8, 12, 16, 24, 32, 48, 64, 96, 128, 192, 256, 384, 512, 768, 1024, 1536, 2048,
  3072, 4096, 6144, 8192, 12288, 16384, 24576, 32768, 49152]

/-- NRE_PAGE.RNR_MIN; 0 acts as 1. -/
def State.rnrMin (s : State) : Nat := max 1 (s.fld fNRE_PAGE_RNR_MIN)

/-- The RNR timer code of a prediction in µs (R289). -/
def State.rnrCode (s : State) (us : Nat) : Nat :=
  max s.rnrMin (((upTo 31).find? (fun i => decide (us ≤ 10 * rnrTimes.getD i 0))).elim 31 (· + 1))

end Sys2Proof.Machine
end

