-- ==== Sys2Proof/Machine/CirOps.lean ====
section
/-! DEFINITION. Circulation (R297 to R313): schedules and their checks, services, the desk window and promote-ahead, the
ring, batches. -/

namespace Sys2Proof.Machine

def State.sched (s : State) (n : Nat) : Sched := Tab.get (fun _ => {}) s.cir.scheds n
def State.setSched (s : State) (n : Nat) (x : Sched) : State :=
  ({ s with cir := { s.cir with scheds := Tab.set (fun _ => {}) s.cir.scheds n x } }).metaTouch metaRest
def State.cs (s : State) (i : Nat) : CirStream := Tab.get (fun _ => {}) s.cir.streams i
def State.setCs (s : State) (i : Nat) (x : CirStream) : State :=
  { s with cir := { s.cir with streams := Tab.set (fun _ => {}) s.cir.streams i x } }

/-- The context of a circulation stream: QPN 0x20_0000 + s is 0x10_0000 + q (R301). -/
def cirQ (i : Nat) : Nat := 1048576 + i

/-! ### Services (R298, R299) -/

/-- What is wrong with an entry (R298): 0 nothing, 1 ACCESS, 2 RANGE, 4 no such object. -/
def State.entryBad (s : State) (tenant : Nat) (e : Nat × Nat × Nat) : Nat :=
  match s.liveObj e.1 with
  | none => 4
  | some o =>
    if !(s.rightsOf tenant e.1).1 then 1
    else if e.2.2 = 0 ∨ (e.2.1 + e.2.2) * 65536 > o.len then 2 else 0

/-- Result FORMAT (R422). -/
def svcFORMAT : SvcRes := { code := 7 }

/-- CIR_SCHED_LOAD, one chunk (R299, R423): checked and charged at LAST. -/
def State.doSchedLoad (s : State) (n tenant index : Nat) (first last : Bool) (es : List (Nat × Nat × Nat)) :
    State × SvcRes :=
  let l : Option SchedLoad := Tab.get (fun _ => none) s.cir.loading n
  let put (s : State) (v : Option SchedLoad) : State :=
    { s with cir := { s.cir with loading := Tab.set (fun _ => none) s.cir.loading n v } }
  let start : Except SvcRes SchedLoad :=
    if first then
      (if (s.sched n).valid ∨ l.isSome then .error svcBUSY
       else if index ≠ 0 then .error svcFORMAT else .ok { tenant := tenant })
    else match l with
      | none => .error svcFORMAT
      | some x => if x.next ≠ index ∨ x.tenant ≠ tenant then .error svcFORMAT else .ok x
  match start with
  | .error e => (if first then s else put s none, e)
  | .ok x =>
    let t := x.tenant
    let all := x.entries ++ es
    if !last then (put s (some { tenant := t, next := x.next + es.length, entries := all }), svcOK)
    else
      let s1 := put s none
      let bad := all.map (s1.entryBad t)
      let r := s1.tenant t
      if !s1.tenantOk t ∨ all.isEmpty ∨ all.length > 4096 then (s1, svcDENIED)
      else if bad.contains 4 then (s1, svcNOOBJ)
      else if bad.any (· != 0) then (s1, svcDENIED)
      else if !fits r.suspend r.cirLim 0xFFF r.cirUse 1 then (s1.refuse t 0x6, svcQUOTA 0x6)
      else
        let q := Tab.get (fun _ => ({} : Tenant)) s1.tqm.tenants t
        ((s1.setTenant t { q with cirUse := q.cirUse + 1 }).setSched n { valid := true, tenant := t, entries := all }, svcOK)

/-- A stream's engine runs (R297); from step 2 of a vault on none does (R312). -/
def State.cirOn (s : State) (i : Nat) : Bool := bitOf (s.fld fCIR_CTRL_ENG_EN) (i % 4) && s.rsv.ph == .off

/-- Streams that name a schedule slot, in their record or by a batch in progress (DESIGN CHOICE, log 117). -/
def State.schedUsers (s : State) (n : Nat) : Nat :=
  (s.cir.streams.filter (fun e => (e.2.set && e.2.sched == n) || ((e.2.st == 2 || e.2.st == 3) && e.2.run == n))).length

/-- CIR_SCHED_UNLOAD. -/
def State.doSchedUnload (s : State) (n : Nat) : State × SvcRes :=
  if s.schedUsers n > 0 then (s, svcBUSY)
  else
    let x := s.sched n
    if !x.valid then (s, svcOK)
    else
      let q := Tab.get (fun _ => ({} : Tenant)) s.tqm.tenants x.tenant
      ((s.setTenant x.tenant { q with cirUse := q.cirUse - 1 }).setSched n {}, svcOK)

/-- A host's entry in the host table is valid (R269). -/
def State.hostOk (s : State) (h : Nat) : Bool := Tab.get (fun _ => 0) s.nre.hosts h != 0

/-- CIR_STREAM_SET (R299, R300): tenant, host, schedule, DEPTH, AHEAD, RATE, DSCP, REPEAT. -/
def State.doStreamSet (s : State) (i : Nat) (w : List Nat) : State × SvcRes :=
  let g (k : Nat) : Nat := w.getD k 0
  let x := s.cs i
  if x.st ≠ 0 ∧ x.st ≠ 4 then (s, svcBUSY)
  else if !(s.sched (g 2)).valid ∨ (s.sched (g 2)).tenant ≠ g 0 ∨ !s.hostOk (g 1) then (s, svcDENIED)
  else
    ((s.setCs i { x with
      tenant := g 0
      host := g 1
      sched := g 2
      depth := g 3
      ahead := g 4
      rate := g 5
      dscp := g 6
      rep := decide (g 7 ≠ 0)
      set := true }).metaTouch metaRest, svcOK)

/-- CIR_STREAM_RETARGET. -/
def State.doStreamRetarget (s : State) (i n : Nat) : State × SvcRes :=
  let x := s.cs i
  if !x.set ∨ !(s.sched n).valid ∨ (s.sched n).tenant ≠ x.tenant ∨ !s.hostOk x.host then (s, svcDENIED)
  else ((s.setCs i { x with sched := n }).metaTouch metaRest, svcOK)

/-- CIR_STREAM_START. -/
def State.doStreamStart (s : State) (i : Nat) : State × SvcRes :=
  let x := s.cs i
  if x.st ≠ 0 ∧ x.st ≠ 4 then (s, svcBUSY) else ((s.setCs i { x with st := 1 }).metaTouch metaRest, svcOK)

/-! ### Sending -/

/-- Sends a message of a stream and keeps it until it is acknowledged; held while an RNR timer runs. -/
def State.cirPut (s : State) (i pkts : Nat) (what : CirWhat) (mk : Nat → Emit) : State :=
  let x := s.cs i
  let m : CirMsg := { psn := x.psn, pkts := pkts, what := what, msg := mk x.psn }
  let s1 := (s.spend x.tenant 5 pkts).setCs i { x with psn := (x.psn + pkts) % 2 ^ 24, out := x.out ++ [m] }
  if x.rnr.isSome then s1
  else s1.ethSend x.port (s.dscpMark x.port x.dscp) m.msg

/-- Sends again everything from a PSN on. -/
def State.cirResend (s : State) (i psn : Nat) : State :=
  let x := s.cs i
  (x.out.filter (fun m => decide ((m.psn + m.pkts - 1 + 2 ^ 24 - psn) % 2 ^ 24 < 2 ^ 23))).foldl (fun s m =>
    s.ethSend x.port (s.dscpMark x.port x.dscp) m.msg) s

/-- PRODUCED is written when it has moved and no such write is outstanding (R304). -/
def State.cirProduced (s : State) (i : Nat) : State :=
  let x := s.cs i
  if x.acked = x.prodSaid ∨ !s.cirOn i ∨ x.out.any (fun m => m.what == .produced) ∨ !x.conn then s
  else (s.setCs i { x with prodSaid := x.acked }).cirPut i 1 .produced
    (fun p => .rdmaWrite (cirQ i) p 1 (x.va + 8) x.rkey none (leBytes 8 x.acked))

/-- The completion record (R308). -/
def CirStream.record (x : CirStream) : List Byte :=
  let l := x.limit.getD (0, 0, 0)
  let b := leBytes 4 (x.batches + 1) ++ leBytes 1 l.2.1 ++ leBytes 1 (b2n x.lateBatch + 2 * b2n x.restarted)
    ++ leBytes 2 x.lateWaits ++ leBytes 8 x.first ++ leBytes 8 (x.acked - x.first) ++ leBytes 2 l.2.2
  b ++ List.replicate (64 - b.length) 0

/-- Immediate data of the completion (R308). -/
def CirStream.imm (x : CirStream) : Nat :=
  (x.batches + 1) % 2 ^ 20 + (x.limit.getD (0, 0, 0)).2.1 * 2 ^ 20 + b2n x.lateBatch * 2 ^ 24 + b2n x.restarted * 2 ^ 25

/-- A batch's end advances (R308 steps 1 to 3): DRAINING when its last tile is sent, the completion once every tile is
acknowledged and PRODUCED stands. -/
def State.cirDrain (s : State) (i : Nat) : State :=
  let x := s.cs i
  match x.limit with
  | none => s
  | some (n, st, _) =>
    if x.sendN < n ∨ (x.st ≠ 2 ∧ x.st ≠ 3) ∨ !s.cirOn i then s
    else
      let s0 := if x.st = 2 ∧ st ≠ 0 ∧ st ≠ 6 then
          ((s.raise 0x342).bump rCIR_CNT_STOP_ERR).note 0x420 [i, (x.limit.getD (0, 0, 0)).2.2, st] else s
      let s1 := s0.setCs i { s0.cs i with st := 3 }
      let x1 := s1.cs i
      if x1.out.any (fun m => match m.what with | .tile _ => true | .completion => true | _ => false) then s1
      else
        let s2 := s1.cirProduced i
        s2.cirPut i 1 .completion (fun p => .rdmaWrite (cirQ i) p 1 (x1.va + 64) x1.rkey (some x1.imm) x1.record)

/-! ### Fetching (R305) -/

/-- The place after (entry, tile) in a schedule. -/
def nextPlace (es : List (Nat × Nat × Nat)) (p : Nat × Nat) : Nat × Nat :=
  if p.2 + 1 < (es.getD p.1 (0, 0, 0)).2.2 then (p.1, p.2 + 1) else (p.1 + 1, 0)

/-- The logical tile of a place; none where its object is gone. -/
def State.placeTile (s : State) (es : List (Nat × Nat × Nat)) (p : Nat × Nat) : Option Nat :=
  let e := es.getD p.1 (0, 0, 0)
  (s.liveObj e.1).map (fun o => o.base * 16384 + e.2.1 + p.2)

/-- Promotes the absent folios of a tile (R138, R305): dropped where a speculative fill is dropped. -/
def State.promoteTile (s : State) (tile : Nat) : State :=
  (upTo 16).foldl (fun s0 k =>
    let f := tile * 16 + k
    let s := s0.lookup f
    let o := s.objOfShelf (shelfOf f)
    if (s.findWay f).isSome ∨ (s.fillOf f).isSome ∨ s.fch.mode ≠ 1 ∨ s.hazFull f ∨ s.lostShelf f
      ∨ s.cacheFull o.tenant ∨ (s.victim f o.tenant false).isNone then s
    else
      let s1 := s.startFill f o.tenant none true (pinnedCls o.cls) false true
      match s1.fillOf f with
      | some g => s1.putFill { g with age := s1.fillAge f }
      | none => s1) s

/-- Promote-ahead: the tiles among the next DEPTH + AHEAD not yet promoted. -/
def State.cirAhead (s : State) (i : Nat) : Nat → State
  | 0 => s
  | n + 1 =>
    let x := s.cs i
    let es := (s.sched x.run).entries
    if x.st ≠ 2 ∨ x.limit.isSome ∨ !s.cirOn i ∨ x.aheadN ≥ x.sendN + x.depth + x.ahead ∨ x.aheadAt.1 ≥ es.length then s
    else
      let s1 := (s.placeTile es x.aheadAt).elim s s.promoteTile
      (s1.setCs i { s1.cs i with aheadN := x.aheadN + 1, aheadAt := nextPlace es x.aheadAt }).cirAhead i n

/-- Reads one folio of a tile into the desk: from DRAM, with a fill already running, or straight from its sled. -/
def State.cirFolio (s : State) (i n k folio owner : Nat) : State :=
  let l : LoadReq := { src := .cir i (n * 16 + k), lpa := folio * 4096, len := 4096, owner := owner }
  if s.readable folio ∨ s.lostShelf folio then s.runLoad l
  else
    match s.fillOf folio with
    | some g => (s.putFill { g with spec := false }).park folio (.load l)
    | none =>
      if s.hazFull folio then ({ s with fch := { s.fch with waits := s.fch.waits ++ [FReq.load l] } }).raise 0x144
      else
        let f : Fill := { folio := folio, tenant := owner, bypass := true, cir := true, since := s.timeUs, reqs := [.load l] }
        ((s.putFill f).sendRead folio false).bump rCIR_CNT_BYPASS

/-- Ends a batch at tile `n`, unless it ends earlier already. -/
def State.cirEnd (s : State) (i n status entry : Nat) : State :=
  let x := s.cs i
  let keep := match x.limit with | some (m, _, _) => decide (m ≤ n) | none => false
  if keep then s else s.setCs i { x with limit := some (n, status, entry) }

/-- Desk fetch: the next DEPTH tiles, in order, each into a 64 KiB buffer charged to TENANT. An entry is checked at its start
(R310); an object that is deleted under an entry in progress ends the batch with ACCESS (DEDUCED, log 117). -/
def State.cirFetch (s : State) (i : Nat) : Nat → State
  | 0 => s
  | m + 1 =>
    let x := s.cs i
    let es := (s.sched x.run).entries
    if x.st ≠ 2 ∨ x.limit.isSome ∨ !s.cirOn i ∨ x.fetchN ≥ x.sendN + x.depth then s
    else if x.fetchAt.1 ≥ es.length then s.cirEnd i x.fetchN 0 es.length
    else
      let e := es.getD x.fetchAt.1 (0, 0, 0)
      let bad := if x.fetchAt.2 = 0 then s.entryBad x.tenant e else if (s.liveObj e.1).isNone then 4 else 0
      if bad ≠ 0 then s.cirEnd i x.fetchN (if bad = 2 then 2 else 1) x.fetchAt.1
      else
        let wait (s : State) : State := s.setCs i { s.cs i with deskWait := true }
        match s.bpmAlloc (0x50 + i % 4) 3 1 false false (some x.tenant) with
        | (s1, some [p]) =>
          match s1.deskCharge x.tenant 65536 with
          | none =>
            let s2 : State := { s1 with bpm := { s1.bpm with bufs := s.bpm.bufs } }
            wait (if x.deskWait then s2 else s2.refuse x.tenant 0x4)
          | some s2 =>
            let o := (s2.liveObj e.1).getD {}
            let tile := (s2.placeTile es x.fetchAt).getD 0
            let t : CirTile := { n := x.fetchN, entry := x.fetchAt.1, buf := p }
            let s3 := s2.setCs i { s2.cs i with
              tiles := x.tiles ++ [t]
              fetchN := x.fetchN + 1
              fetchAt := nextPlace es x.fetchAt
              deskWait := false }
            let s4 := (upTo 16).foldl (fun s k => s.cirFolio i x.fetchN k (tile * 16 + k) o.tenant) s3
            s4.cirFetch i m
        | (s1, _) => if x.deskWait then wait s else wait (s1.bump rBPM_CNT_WAIT)

/-- Runs a stream's engine: promote-ahead, then the desk fetch. -/
def State.cirRun (s : State) (i : Nat) : State :=
  let s1 := s.cirAhead i ((s.cs i).depth + (s.cs i).ahead)
  (s1.cirFetch i ((s1.cs i).depth + 1)).cirDrain i

/-- One folio of a tile arrived, or cannot be read: MEDIA, LOST and STALE end the batch before the tile (R310). -/
def State.cirPart (s : State) (i k : Nat) (a : Ans) : State :=
  let x := s.cs i
  let n := k / 16
  match x.tiles.find? (fun t => t.n == n) with
  | none => s
  | some t =>
    match a with
    | .data b _ _ =>
      s.setCs i { x with tiles := x.tiles.map (fun (u : CirTile) =>
        if u.n = n then { u with parts := Tab.set (fun _ => []) u.parts (k % 16) b } else u) }
    | .poison r =>
      let st := if r = rsLOST then 4 else if r = rsSTALE then 5 else if r = rsMEDIA then 3 else if r = rsRANGE then 2 else 1
      (s.cirEnd i n st t.entry).cirDrain i
    | _ => s

/-! ### Batches and connections -/

/-- Returns the desk buffers of tiles. -/
def State.cirGive (s : State) (i : Nat) (l : List CirTile) : State :=
  l.foldl (fun s t => s.bpmReturn t.buf (0x50 + i % 4)) s

/-- A batch starts empty at entry 0 of the schedule SCHED names (R308, R309). -/
def State.cirStart (s : State) (i : Nat) (restarted : Bool) : State :=
  let x := s.cs i
  (s.setCs i { x with
    st := 2
    run := x.sched
    fetchN := x.sendN
    fetchAt := (0, 0)
    aheadN := x.sendN
    aheadAt := (0, 0)
    entry := 0
    first := x.sendN
    limit := none
    late := false
    lateBatch := false
    lateWaits := 0
    lateLong := false
    tileLate := false
    restarted := restarted
    stopping := false
    tiles := []
    deskWait := false }).cirRun i

/-- A stream's record without a connection, ARMED (R309, R312, R313). -/
def CirStream.rearm (x : CirStream) : CirStream :=
  { st := 1
    tenant := x.tenant
    host := x.host
    sched := x.sched
    depth := x.depth
    ahead := x.ahead
    rate := x.rate
    dscp := x.dscp
    rep := x.rep
    set := x.set
    restarted := true }

/-- A stream loses its connection (R309, R312, R313): desk buffers return, the batch in progress is discarded. -/
def State.cirLose (s : State) (i : Nat) : State :=
  let x := s.cs i
  let s1 := (s.cirGive i x.tiles).freeQp (cirQ i)
  let s2 := if x.st = 2 ∨ x.st = 3 then s1.bump rCIR_CNT_RESTART else s1
  if x.st = 0 then s2 else s2.setCs i x.rearm

/-- The queue pair of a stream enters error (R309): a stream with no batch in progress keeps its state and has no connection. -/
def State.cirError (s : State) (i : Nat) : State :=
  if (s.cs i).st = 2 ∨ (s.cs i).st = 3 then (s.cirLose i).raise 0x344 else (s.freeQp (cirQ i)).setCs i { s.cs i with conn := false, out := [] }

/-- Every stream that is not IDLE becomes ARMED; answers how many (R312, R313). -/
def State.cirRearmAll (s : State) : State × Nat :=
  s.cir.streams.foldl (fun p e => if e.2.st = 0 then p else (p.1.cirLose e.1, p.2 + 1)) (s, 0)

/-- CIR_STREAM_STOP (R311): the batch ends at the next tile boundary with STATUS STOPPED. -/
def State.doStreamStop (s : State) (i : Nat) : State × SvcRes :=
  let x := s.cs i
  if x.st = 2 ∨ x.st = 3 then
    (((s.setCs i { x with stopping := true }).cirEnd i x.sendN 6 (if x.sendN = x.first then 0 else x.entry + 1)).cirDrain i, svcOK)
  else (s, svcOK)

/-- Entries of a stream's message list up to a PSN are acknowledged (R304). -/
def State.cirAck (s : State) (i : Nat) : Nat → Nat → State
  | 0, _ => s
  | k + 1, psn =>
    let x := s.cs i
    match x.out with
    | [] => s
    | m :: t =>
      let covered := decide ((psn + 2 ^ 24 - (m.psn + m.pkts - 1)) % 2 ^ 24 < 2 ^ 23)
      if !covered ∨ m.what = .completion then s
      else
        let s1 := s.setCs i { x with out := t, tries := 7 }
        let s2 := match m.what with
          | .tile n =>
            let gone := x.tiles.filter (fun (u : CirTile) => u.n == n)
            let s3 := (s1.bump rCIR_CNT_TILES).cirGive i gone
            s3.setCs i { s3.cs i with acked := n + 1, tiles := (s3.cs i).tiles.filter (fun (u : CirTile) => u.n != n) }
          | _ => s1
        s2.cirAck i k psn

/-- What follows acknowledgements: PRODUCED, the drain, the engine. -/
def State.cirAfter (s : State) (i : Nat) : State := ((s.cirProduced i).cirDrain i).cirRun i

/-- The completion is acknowledged (R308 step 4, R309). -/
def State.cirComplete (s : State) (i : Nat) : State :=
  let x := s.cs i
  let st := (x.limit.getD (0, 0, 0)).2.1
  let s1 := (s.cirGive i x.tiles).raise 0x340 |>.bump rCIR_CNT_BATCHES
  let s2 := s1.setCs i { x with
    out := []
    tries := 7
    tiles := []
    batches := x.batches + 1
    sendN := x.acked
    limit := none
    late := false
    tileLate := false
    st := if st = 0 ∧ !x.stopping then 0 else 4 }
  if x.rep ∧ st = 0 ∧ !x.stopping then s2.cirStart i false else s2

end Sys2Proof.Machine
end

