-- ==== Sys2Proof/Machine/SvcOps.lean ====
section
/-! DEFINITION. Registrar services that change state which both units hold (R420 to R423): each runs at its commit point
and is carried to the standby in one SERVICE frame with its RESULT. -/

namespace Sys2Proof.Machine

def svcNOTREADY : SvcRes := { code := 5 }
def svcNOREPORT : SvcRes := { code := 6 }

/-- The mailbox slot of a requester. -/
def Src.slot : Src → Option Nat
  | .svc n => some n
  | _ => none

/-- NET_HOST_SET (R269). -/
def State.doNetHostSet (s : State) (n addr : Nat) (valid : Bool) : State × SvcRes :=
  if n = 0 ∨ n ≥ 0xFFF then (s, svcDENIED)
  else ({ s with nre := { s.nre with hosts := Tab.set (fun _ => 0) s.nre.hosts n (if valid then addr + 1 else 0) } }, svcOK)

/-- STREAM_ABORT (R81): the open epoch ends with a report, CAUSE 4. -/
def State.doStreamAbort (s : State) (i : Nat) : State × SvcRes :=
  if (s.stream i).live then (s.endEpoch i 4 true, svcOK) else (s, svcOK)

/-- EPOCH_REPORT_RELEASE (R86). -/
def State.doReportRelease (s : State) (i : Nat) : State × SvcRes :=
  match (s.stream i).report with
  | none => (s, svcNOREPORT)
  | some r => if r.building then (s, svcNOTREADY) else (s.releaseReport i, svcOK)

/-- FOLIO_MAINT (R138, R140, R423): checked, then each folio in ascending order. -/
def State.doFolioMaint (s : State) (h off len mop : Nat) (src : Src) : State × Option SvcRes :=
  if mop > 4 then (s, some svcFORMAT)
  else
    match s.liveObj h with
    | none => (s, some svcNOOBJ)
    | some o =>
      if len > 2 ^ 30 then (s, some { code := 1, words := [256 * rsRANGE] })
      else if mop = 4 ∧ len ≠ 0 ∧ (len % 4096 ≠ 0 ∨ off % 4096 ≠ 0) then (s, some { code := 1, words := [256 * rsALIGN] })
      else match s.translate h off (max 1 len) with
        | .error r => (s, some { code := 1, words := [256 * r] })
        | .ok lpa =>
          let fs := if len = 0 then [lpa / 4096] else foliosOf lpa len
          if mop = 4 ∧ o.tenant = 0xFFF then (s, some svcDENIED)
          else
            let (s1, g) := s.openGrp src fs.length
            (s1.maintAsk (fs.map (fun f => { src := .grp g, mop := mop, folio := f })), none)

/-- Runs a service at its commit point; none is answered later. -/
def State.runSvc (s : State) (v : Svc) (src : Src) : State × Option SvcRes :=
  let now (p : State × SvcRes) : State × Option SvcRes := (p.1, some p.2)
  match v with
  | .tenantSet t e a b c d f g h => now (s.doTenantSet t e a b c d f g h)
  | .portBind c h t => s.doPortBind c h t src
  | .objCreate t l c => s.doObjCreate t l c src.slot
  | .objResize h l => now (s.doObjResize h l)
  | .objPlace h c => now (s.doObjPlace h c)
  | .objDelete h => now (s.doObjDelete h)
  | .grantSet h g r w a => now (s.doGrantSet h g r w a)
  | .grantClear n => now (s.doGrantClear n)
  | .windowSet n t h x o l b r w a => now (s.doWindowSet n t h x o l b r w a)
  | .windowClear n => s.doWindowClear n src.slot
  | .folioMaint h o l m => s.doFolioMaint h o l m src
  | .netHostSet n _ a1 a2 ok => now (s.doNetHostSet n (a1 + a2 * 2 ^ 64) ok)
  | .streamAbort i => now (s.doStreamAbort i)
  | .reportRelease i => now (s.doReportRelease i)
  | .mapOpen c h r w a k =>
    let p := s.openMap c h r w a k
    (p.1, some { code := p.2.1 })
  | .mapClose c m => (s.closeMap c m .nobody, some svcOK)
  | .place c m k =>
    let p := s.placeObj (s.mapEnt c m).handle k
    (p.1, some { code := p.2.1, reason := p.2.2 })
  | .schedLoad n t i f l es => now (s.doSchedLoad n t i f l es)
  | .schedUnload n => now (s.doSchedUnload n)
  | .streamSet n ws => now (s.doStreamSet n ws)
  | .streamRetarget n c => now (s.doStreamRetarget n c)
  | .streamStart n => now (s.doStreamStart n)
  | .streamStop n => now (s.doStreamStop n)

/-- The service allocates shelves, so the partner's free count is asked for first (R46, R327). -/
def State.svcWaits (s : State) (v : Svc) : Bool :=
  match v with
  | .objCreate _ _ c => s.allocWait c
  | .objResize h l => match s.liveObj h with
    | some o => decide (shelvesFor o.len < shelvesFor l) && s.allocWait o.cls
    | none => false
  | _ => false

/-! ### Mailbox slots -/

def State.slot (s : State) (n : Nat) : MbSlot := Tab.get (fun _ => {}) s.rgc.slots n
def State.setSlot (s : State) (n : Nat) (x : MbSlot) : State :=
  { s with rgc := { s.rgc with slots := Tab.set (fun _ => {}) s.rgc.slots n x } }

/-- Byte `i` of a slot. -/
def MbSlot.byte (x : MbSlot) (i : Nat) : Byte :=
  BitVec.ofNat 8 ((Tab.get (fun _ => (0 : W32)) x.words (i / 4)).toNat >>> (8 * (i % 4)))

/-- Bytes [a, a + n) of a slot. -/
def MbSlot.bytes (x : MbSlot) (a n : Nat) : List Byte := (upTo n).map (fun i => x.byte (a + i))

/-- The little-endian number in bytes [a, a + n) of a slot. -/
def MbSlot.nat (x : MbSlot) (a n : Nat) : Nat := leNat (x.bytes a n)

/-- The number in bytes [a, a + n) of the body. -/
def MbSlot.arg (x : MbSlot) (a n : Nat) : Nat := x.nat (16 + a) n

/-- TOKEN of a slot (R419). -/
def MbSlot.token (x : MbSlot) : Nat := x.nat 4 4

/-- Runs a service of kind M for a mailbox slot: it waits for the partner's STATUS where R327 says so; at its commit
point the SERVICE frame leaves with its RESULT (R421), and a request that is refused changes nothing and sends
nothing, but for a chunk that ends a schedule's load. A service that completes later sends its frame with RESULT OK;
FOLIO_MAINT sends it when its result is known. -/
def State.doSvc (s : State) (v : Svc) (slot : Nat) : State × Option SvcRes :=
  if s.svcWaits v then ({ s with tqm := { s.tqm with allocWaits := s.tqm.allocWaits ++ [(slot, v)] } }, none)
  else
    match s.runSvc v (.svc slot) with
    | (s1, none) =>
      (match v with
        | .folioMaint .. => s1
        | _ => s1.mirror_ (.service v 0 (s.slot slot).token), none)
    | (s1, some r) =>
      let always : Bool := match v with | .schedLoad .. => true | _ => false
      (if r.code == 0 || always then s1.mirror_ (.service v r.code (s.slot slot).token) else s1, some r)

/-- The response bytes of a result: four for a word, one record of two bytes for FOLIO_MAINT. -/
def svcBytes (svc : Nat) (words : List Nat) : List Byte :=
  if svc = 0x13 then leBytes 2 (words.headD 0) else words.flatMap (leBytes 4)

/-- A slot's service has come to its result, which SERVICE_COMPLETE puts into the slot. -/
def State.svcOut (s : State) (slot : Nat) (r : SvcRes) : State :=
  let x := s.slot slot
  if x.st = 2 ∧ x.out.isNone then s.setSlot slot { x with out := some (r.code, r.reason, svcBytes (x.byte 0).toNat r.words) }
  else s

/-- The answer of a service that ended later (R423); FOLIO_MAINT's SERVICE frame leaves now. -/
def State.svcEnd (s : State) (slot code : Nat) (ws : List Nat) : State :=
  let x := s.slot slot
  let s1 := if x.byte 0 = 0x13 then
      s.mirror_ (.service (.folioMaint (x.arg 0 8) (x.arg 8 8) (x.arg 16 4) (x.arg 20 1)) code x.token) else s
  s1.svcOut slot { code := code, reason := ws.getD 1 0, words := ws }

/-- Runs the services that waited for the partner's free count (R327). -/
def State.runAllocWaits (s : State) : State :=
  s.tqm.allocWaits.foldl (fun s p =>
    match s.doSvc p.2 p.1 with
    | (s1, some r) => s1.svcOut p.1 r
    | (s1, none) => s1) { s with tqm := { s.tqm with allocWaits := [] } }

end Sys2Proof.Machine
end

