-- ==== Sys2Proof/Machine/TwnOps.lean ====
section
/-! DEFINITION. The twin pair's operations (R315 to R344): what losing and gaining the token does, the mirror stream on
the standby, the lease, the witness, HELLO and the divergence set, catch-up. -/

namespace Sys2Proof.Machine

/-- ROLE of TWN_STATUS and of HELLO. -/
def Role.code : Role → Nat
  | .unpaired => 0
  | .starting => 1
  | .active => 2
  | .inStep => 3
  | .catchingUp => 4
  | .detached => 5
  | .claiming => 6
  | .fenced => 7

/-- A witness is configured (R331). -/
def State.witness (s : State) : Bool := s.flag fTWN_CTRL_WITNESS_EN

/-- Last MSEQ sent, or applied. -/
def State.lastMseq (s : State) : Nat := (s.twn.mseq + 2 ^ 48 - 1) % 2 ^ 48

/-- Puts a role in TWN. -/
def State.setRole (s : State) (r : Role) : State := { s with twn := { s.twn with role := r } }

/-! ### Divergence (R342) -/

/-- MiB regions of a range of shelves. -/
def shelfRegions (f n : Nat) : List Nat := (upTo (n * 1024)).map (· + f * 1024)

/-- Regions a unit may hold differently (R342): entries and uncatalogued ranges of epochs not closed, the dirty-shelf map
of an incomplete vault, shelves on sleds it adopted; empty after a handover (R338). -/
def State.divergeSet (s : State) : List Nat :=
  if s.twn.handed then []
  else
    let open_ := s.epo.streams.filter (fun e => e.2.live || e.2.report.isSome)
    let ents (r : Stream) : List Nat := ((r.entries ++ (r.report.elim [] (·.entries))).map (fun e => regionOf (entLine e)))
    let rngs (r : Stream) : List Nat :=
      ((if r.uncat then r.ranges else []) ++ (r.report.elim [] (fun p => if p.uncat then p.ranges else []))).flatMap
        (fun p => shelfRegions p.1 p.2)
    (open_.flatMap (fun e => ents e.2 ++ rngs e.2) ++ s.rsv.dirtyMap.flatMap (fun f => shelfRegions f 1)
      ++ s.twn.diverge).eraseDups

/-- Lists of at most 28 (R322). -/
def chunks28 : Nat → List Nat → List (List Nat)
  | 0, _ => []
  | n + 1, l => if l.isEmpty then [] else l.take 28 :: chunks28 n (l.drop 28)

/-- Sends HELLO, and the divergence set after it (R322, R342). -/
def State.hello (s : State) : State :=
  if !s.twn.linkUp then s
  else
    let d := s.divergeSet
    let s1 := s.twinOut (.hello s.twn.gen s.twn.wasHolder s.twn.stateOk s.twn.vaultOk s.twn.role.code d.length)
    (chunks28 d.length d).foldl (fun s l => s.twinOut (.diverge l)) s1

/-! ### Losing the standby (R326) -/

/-- A handover cannot go on without a standby in step: it is given up, and its slot answered DENIED. -/
def State.handoverOff (s : State) : State :=
  match s.twn.handover with
  | none => s
  | some (_, slot) =>
    let s1 := { s with twn := { s.twn with handover := none, drained := false } }
    match slot with
    | some n => s1.svcOut n svcDENIED
    | none => s1

/-- The active treats the standby as lost (R326, R342): the regions of every frame not covered are marked, the solo rule
releases what waited for it. -/
def State.standbyLost (s : State) : State :=
  if s.twn.role ≠ .active ∨ s.twn.partner = .lost then s
  else
    let lines := s.twn.sent.flatMap (·.lines)
    let s1 := lines.foldl (fun s l => s.mark (regionOf l)) s
    let s2 := { s1 with twn := { s1.twn with
      partner := .lost
      sent := []
      atoms := []
      copying := none
      copyWait := []
      status := none
      allocs := [] } }
    (s2.releaseAll.handoverOff).runAllocWaits

/-- The active fences its standby (R326, R330): 0 to 2 are mismatches, after which a full resync is due. -/
def State.fenceOut (s : State) (reason : Nat) : State :=
  let s1 := (((s.twinOut (.fence s.twn.gen reason)).raise 0x309).note 0x432 ([reason] ++ words2 s.lastMseq)).standbyLost
  { s1 with twn := { s1.twn with
    fencedGen := if reason ≤ 2 then s1.twn.gen + 1 else s1.twn.fencedGen
    fullNext := s1.twn.fullNext || decide (reason ≤ 2) } }

/-! ### Losing the token -/

/-- Frees every desk buffer of the owners `p` names, with its charge. -/
def State.freeOwners (s : State) (p : Nat → Bool) : State :=
  (s.bpm.bufs.filter (fun e => e.2.owner != 0 && p (e.2.owner - 1))).foldl (fun s e =>
    let s1 := { s with bpm := { s.bpm with bufs := Tab.set (fun _ => {}) s.bpm.bufs e.1 {} } }
    if e.2.tenant = 0 then s1 else s1.deskRelease (e.2.tenant - 1) (poolSize (e.1 / 65536))) s

/-- Every admitted request is discarded without answer (R339). -/
def State.dropClients (s : State) : State :=
  let s1 := s.mapStreams (fun _ r => r.dropQueue)
  let s2 := { s1 with
    epo := { s1.epo with loads := [], behind := [] }
    tqm := { s1.tqm with grps := [] }
    fch := { s1.fch with
      waits := []
      maints := []
      fills := s1.fch.fills.map (fun (f : Fill) => { f with reqs := [] }) }
    done := s1.done.filter (fun d => match d.1 with | .svc _ => true | .sb _ => true | _ => false) }
  let s3 := s2.freeOwners (fun o => decide (o < 0x40))
  { s3 with
    nre := { s3.nre with qps := Tab.update (fun _ => {}) (fun (x : Qp) => { x with out := [], waiting := [], stall := false }) s3.nre.qps }
    eth := { s3.eth with ports := Tab.update (fun _ => {}) (fun (x : EthPort) => { x with frames := [] }) s3.eth.ports }
    tvl := { s3.tvl with links := Tab.update (fun _ => {}) (fun (x : TvLink) => { x with buf := [], part := [], txq := [], life := x.life + 1 }) s3.tvl.links } }

/-- Step 4 of R338: floating addresses are no longer answered, circulation stops, and the token goes, with ROLE on every ACTIVE
Tvedfy link. Source 0x302, record 0x431. -/
def State.giveUp (s : State) (r : Role) (reason : Nat) : State :=
  let s1 := { s with twn := { s.twn with floating := false, partner := .lost, wasHolder := true, handed := decide (reason = 1) } }
  let s2 := (s1.cirRearmAll).1
  let s3 := { s2 with twn := { s2.twn with
    role := r
    sent := []
    atoms := []
    leases := []
    leaseUntil := 0
    renewUntil := 0
    copying := none
    copyWait := []
    status := none
    allocs := []
    drained := false
    handover := none
    stale := s2.twn.stale } }
  (s3.sayRoles.raise 0x302).note 0x431 [s.twn.gen, reason]

/-- Demotion (R339): step 4 of R338, and every admitted request is discarded. -/
def State.demote (s : State) (r : Role) : State :=
  if s.twn.role ≠ .active then s.setRole r else ((s.handoverOff).giveUp r 0).dropClients

/-! ### Witness (R335) -/

/-- Bytes 0 to 39 of a witness message. -/
def State.witnessMsg (s : State) (type seq : Nat) : List Byte :=
  leBytes 4 (1 + 256 * type) ++ leBytes 4 (s.reg rTWN_PAIR_LO).toNat ++ leBytes 4 (s.reg rTWN_PAIR_HI).toNat
    ++ leBytes 8 s.sec.fuse.uid.toNat ++ leBytes 4 s.twn.gen ++ leBytes 4 seq ++ leBytes 4 s.dbk.cycles ++ leBytes 8 0

/-- Sends one message of the request outstanding, under the next request count; its MAC is one request of KCE. -/
def State.witnessMail (s : State) (w : WReq) : State :=
  let seq := s.twn.reqCount
  let r := kceResult (s.key (s.fld fTWN_WITNESS_KEY_SLOT)) 2 (s.witnessMsg w.type seq) []
  let s1 := (s.kceCount r.1)
  let s2 := { s1 with twn := { s1.twn with
    reqCount := (seq + 1) % 2 ^ 32
    wreq := some { w with sent := w.sent ++ [(seq, s.timeUs)] } } }
  if r.1 = 0 then s2.emit (.witness w.type s.twn.gen (seq + s.dbk.cycles % 2 ^ 32 * 2 ^ 32)
    (s.netAddr (s.fld fTWN_WITNESS_ADDR_IDX)).addr (s.fld fTWN_WITNESS_PORT) (s.witnessMsg w.type seq ++ r.2) (s.rgc.witnesses.filter (fun b => b.any (· != 0)))) else s2

/-- Starts a request to the witness; it takes the place of one outstanding. -/
def State.witnessAsk (s : State) (type : Nat) : State := s.witnessMail { type := type }

/-! ### Gaining the token (R339) -/

/-- Streams a takeover ends (R294): how many are REPORTED, how many IDLE. -/
def State.flushRoce (s : State) : State × Nat × Nat :=
  s.epo.streams.foldl (fun p e =>
    let r := p.1.stream e.1
    if e.1 < 65536 ∨ !r.live then p
    else
      let s1 := p.1.faultEpoch e.1 3 false
      if r.wrote then (s1, p.2.1 + 1, p.2.2) else (s1, p.2.1, p.2.2 + 1)) (s, 0, 0)

/-- Steps 1 to 5 of R339 once every frame received whole is applied. -/
def State.gainNow (s : State) (gen cause : Nat) : State :=
  let s0 := { s with twn := { s.twn with
    gen := gen
    role := .active
    partner := .lost
    gaining := none
    rxq := []
    rxBusy := false
    rxWant := none
    grantHeld := 0
    dropAt := none
    viewUntil := 0
    leases := []
    sent := []
    atoms := []
    chmap := []
    copying := none
    copyWait := []
    status := none
    allocs := []
    wasHolder := true
    handed := false
    drained := false
    diverge := []
    stale := s.twn.stale || decide (cause = 4) } }
  let s1 := s0.epo.streams.foldl (fun s e => s.commitClose e.1 false false) (s0.metaTouch metaRest)
  let (s2, rep, idl) := s1.flushRoce
  let s3 := { s2 with nre := { s2.nre with qps := [], cards := [], fetching := [] } }
  let (s4, arm) := s3.cirRearmAll
  let s5 := ((s4.async 9 0xFF 0 0 0 false).note 0x411 [rep, idl]).note 0x421 [arm]
  let s6 := ((s5.raise 0x301).bump rTWN_CNT_TAKEOVER).note 0x430 [gen, cause]
  let s6r := s6.sayRoles
  let s7 := ({ s6r with twn := { s6r.twn with floating := true } }).announce
  let s8 := match s7.twn.takeover with
    | some t => { s7.svcOut t.slot svcOK with twn := { (s7.svcOut t.slot svcOK).twn with takeover := none } }
    | none => s7
  s8.hello

/-! ### The mirror stream on the standby (R323 to R325, R343) -/

/-- Sends FAULT (R322). -/
def State.sbFault (s : State) (cause : Nat) : State := s.twinOut (.fault cause s.lastMseq)

/-- A unit that takes mirror frames tells of a failure of its own (R322): 0 a channel, 3 a sled, 4 a vault. -/
def State.tellFault (s : State) (cause : Nat) : State :=
  if (s.twn.role = .inStep ∨ s.twn.role = .catchingUp) ∧ s.twn.linkUp then s.sbFault cause else s

/-- A close that the active has committed is committed here before a later frame of its stream. -/
def State.sbCommit (s : State) (i : Nat) : State :=
  match (s.stream i).st with
  | .closing => s.commitClose i false false
  | _ => s

/-- The Tvedfy link of a stream. -/
def State.streamLk (s : State) (i : Nat) : Nat :=
  let port := i / 4096
  2 * port + (if s.split (2 * port) ∧ i % 4096 ≥ 2048 then 1 else 0)

/-- What a frame's application came to. -/
inductive RxDone where
  | applied (s : State)
  /-- its write or service is under way -/
  | busy (s : State)
  /-- it is tried again later -/
  | wait (s : State)

/-- A mirrored write takes its place in its stream (R324). -/
def State.sbWrite (s : State) (m i line ssn : Nat) (op : WOp) (kind : Option Nat) : RxDone :=
  let s0 := s.sbCommit i
  let r := s0.stream i
  let w : WriteReq :=
    { src := .sb m
      op := op
      line := line
      ssn := ssn
      owner := (s0.objOfShelf (shelfOf (line / 32))).tenant
      host := if i < 65536 then (s0.ctx (s0.streamLk i)).host else r.writer
      kind := kind }
  .busy ((s0.setStream i { r with
    lastSsn := if i < 65536 then ssn else r.lastSsn
    queue := r.queue ++ [.write w] }).pumpAll i)

/-- An EPOCH frame (R324). R321 gives the frame no bits for the host ID of a RoCE stream, nor the standby another way to learn it:
that WRITER is a free value (log 44). -/
def State.sbEpoch (s : State) (m i eop cause : Nat) (mode fin setMode : Bool) (epoch : Nat) : State :=
  if eop = 0 then
    let s0 := s.sbCommit i
    let c := s0.ctx (s0.streamLk i)
    let s1 := if i < 65536 then s0.openEpoch i mode c.host (i % 4096) c.tenant
      else (s0.openEpoch i mode ((Config.freeWord s0.freeCtr).toNat % 4096) ((i - 65536) % 4096) 0xFFF).tickFree
    s1.setStream i { s1.stream i with epoch := epoch }
  else if eop = 1 then
    let s0 := s.sbCommit i
    let r := s0.stream i
    match r.st with
    | .opened =>
      let s1 := s0.setStream i { r with
        st := .closing
        close := some { setMode := setMode, mode := mode, fin := fin, digestOk := true } }
      if s1.twn.role = .inStep then s1.twinOut (.digest i r.epoch r.skip (digestOut r.digest) m) else s1
    | _ => s0
  else if eop = 2 then (s.buildReport i).releaseReport i
  else (s.sbCommit i).endEpoch i cause false

/-- FILL (R324): the folio is promoted at age 3, as speculative fill, which is dropped where it finds no room. -/
def State.sbFill (s0 : State) (f : Nat) : State :=
  let s := s0.lookup f
  let o := s.objOfShelf (shelfOf f)
  match s.findWay f with
  | some k => if k < deskKey ∧ ((s.way k).st = 1 ∨ (s.way k).st = 2) then s.setWay k { s.way k with age := 3 } else s
  | none =>
    if (s.fillOf f).isSome ∨ s.fch.mode ≠ 1 ∨ s.hazFull f ∨ s.lostShelf f ∨ s.cacheFull o.tenant
      ∨ (s.victim f o.tenant false).isNone ∨ (s.sledOf f).isNone then s
    else
      let s1 := s.startFill f o.tenant none true (pinnedCls o.cls) false false
      match s1.fillOf f with
      | some g => s1.putFill { g with age := 3 }
      | none => s1

/-- RS_LINE (R343): a DIRTY line in the joiner's reading room, under its own budget; its folio is filled first. -/
def State.sbLine (s0 : State) (line : Nat) (tag : Tag) (data : Line) : RxDone :=
  let f := line / 32
  let s := s0.lookup f
  let o := s.objOfShelf (shelfOf f)
  match s.findWay f with
  | none =>
    if (s.fillOf f).isSome ∨ s.hazFull f then .wait s
    else .wait (s.startFill f o.tenant none false (pinnedCls o.cls) false false)
  | some k =>
    let s1 := if (s.way k).st = 4 ∨ (s.way k).st = 5 then s.rescue k true else s
    let w := s1.way k
    let unb := o.cls == 3
    if !s1.admits f (if w.st = 1 then s1.newDirty f else 0) 0 then .wait s1
    else
      let s2 := s1.putLine (s1.wayLine k (line % 32)) data
        (if tagState tag ≥ 4 then poisonTag else tagWithState tag (if unb then 3 else 1))
      .applied ((s2.spend 0 4 1).setWay k (if unb then w else if w.st = 1 then { w with st := 2 } else if w.st = 3 then { w with w := true } else w))

/-- RS_TRIM (R343): the tile's folios go, and its place on the sled is trimmed. -/
def State.sbTrim (s : State) (tile : Nat) : State :=
  let s1 := s.discard ((upTo 16).map (· + tile * 16))
  match s1.sledOf (tile * 16) with
  | some (n, sh) => s1.stkSend n { op := 3, shelf := sh, tile := tileIn (tile * 16), mask := 0xFFFF, arg := 1, ltile := tile }
  | none => s1

/-- RS_STATE (R343): a record of the holder's table; of a shelf only the logical fields, the joiner allocating and
trimming sled shelves of its own. -/
def State.sbState (s : State) (it : RsItem) : State :=
  match it with
  | .stream i r =>
    let old := s.stream i
    let r1 := r.dropQueue
    let s1 := (s.freeSegs old.tenant old.segsHeld).holdSegs r1.tenant r1.segsHeld
    s1.setStream i { r1 with close := r1.close.map (fun c => { c with digestOk := true }) }
  | .window i r => s.setWindow i { r with clearing := none }
  | .host i b => { s with nre := { s.nre with hosts := Tab.set (fun _ => 0) s.nre.hosts i (b.headD 0) } }
  | .circ i ws =>
    let g (k : Nat) : Nat := ws.getD k 0
    s.setCs i {
      st := g 8
      tenant := g 0
      host := g 1
      sched := g 2
      depth := g 3
      ahead := g 4
      rate := g 5
      dscp := g 6
      rep := decide (g 7 ≠ 0)
      set := decide (g 9 ≠ 0) }
  | .shelf i r =>
    let h := s.shelf i
    let owned (st : Nat) : Bool := st == 1 || st == 3
    if owned r.st ∧ !owned h.st then
      if r.cls ≠ 3 ∧ s.freeTotal = 0 then s.sbFault 1
      else
        let s1 := s.ownShelf i r.tenant r.object r.cls
        s1.setShelf i { s1.shelf i with gen := r.gen }
    else if !owned r.st ∧ owned h.st then
      let s1 := s.freeShelf i h.tenant
      s1.setShelf i { r with sled := 0, sledShelf := 0 }
    else s.setShelf i { h with st := if owned r.st then h.st else r.st, tenant := r.tenant, object := r.object, gen := r.gen, cls := r.cls }

/-- The result code of an answer to a mirrored request. -/
def Ans.svcCode : Ans → Nat
  | .svc c _ => c
  | .poison _ => 1
  | .quota _ => 2
  | _ => 0

/-- Applies one sequenced frame (R324, R343). -/
def State.applyFrame (s : State) (m : Nat) (f : MFrame) : RxDone :=
  match f with
  | .wFull i line ssn kind res d => s.sbWrite m i line ssn (.full d) (if res then some kind else none)
  | .wMasked i line ssn mask d => s.sbWrite m i line ssn (.masked mask d) none
  | .wAtomic i line ssn aop off a b => s.sbWrite m i line ssn (.atomic aop off a b) none
  | .wZero i line ssn => s.sbWrite m i line ssn .zero none
  | .epoch i eop cause mode fin sm e => .applied (s.sbEpoch m i eop cause mode fin sm e)
  | .ssn i n => .applied (s.setStream i { s.stream i with lastSsn := n })
  | .service v r _ =>
    match s.runSvc v (.sb m) with
    | (s1, some x) => .applied (if x.code = r then s1 else s1.sbFault 2)
    | (s1, none) =>
      match v with
      | .folioMaint .. => .busy { s1 with twn := { s1.twn with rxWant := some r } }
      | _ => .applied s1
  | .fill f => .applied (s.sbFill f)
  | .rsLine line tag d => s.sbLine line tag d
  | .rsTrim t => .applied (s.sbTrim t)
  | .rsState it => .applied (s.sbState it)
  | .rsRegion r => .applied { s with twn := { s.twn with diverge := s.twn.diverge.filter (· != r) } }
  | .rsEnd =>
    let s1 : State := { s with twn := { s.twn with role := .inStep, diverge := [] } }
    .applied ((if s1.cru.awaitAccept then s1.awaitEnd else s1).raise 0x30A)

/-- A frame is applied: the next one follows. -/
def State.rxNext (s : State) : State :=
  ({ s with twn := { s.twn with
    rxq := s.twn.rxq.drop 1
    rxBusy := false
    rxWant := none
    mseq := (s.twn.mseq + 1) % 2 ^ 48 } }).bump rTWN_CNT_FRAMES

/-- The write or service under way has ended, if it has: its answer is taken off the hand-over list. -/
def State.rxAnswered (s : State) : Option State :=
  match s.done.find? (fun d => match d.1 with | .sb m => m == s.twn.mseq | _ => false) with
  | none => none
  | some d =>
    let s1 := { s with done := s.done.filter (fun x => match x.1 with | .sb _ => false | _ => true) }
    some (match s.twn.rxWant with
      | some r => if d.2.svcCode = r then s1 else s1.sbFault 2
      | none => s1)

/-- Frames are applied while the link is up, or while the token is being gained (R316, R339). -/
def State.rxRuns (s : State) : Bool :=
  ((s.twn.role == .inStep || s.twn.role == .catchingUp) && s.twn.linkUp) || s.twn.gaining.isSome

/-- Applies received frames in MSEQ order until one waits. -/
def State.rxRun (s : State) : Nat → State
  | 0 => s
  | n + 1 =>
    if s.twn.rxBusy then
      match s.rxAnswered with
      | none => s
      | some s1 => s1.rxNext.rxRun n
    else if !s.rxRuns then s
    else match s.twn.rxq with
      | [] => s
      | f :: _ =>
        match s.applyFrame s.twn.mseq f with
        | .applied s1 => s1.rxNext.rxRun n
        | .wait s1 => s1
        | .busy s1 => ({ s1 with twn := { s1.twn with rxBusy := true } }).rxRun n

/-- A LEASE_DROP has been applied through its MSEQ (R316, R332): claim where a witness is configured, or gain. -/
def State.dropCheck (s : State) : State :=
  match s.twn.dropAt with
  | some m =>
    if s.twn.role = .inStep ∧ !s.twn.rxBusy ∧ (s.twn.mseq + 2 ^ 48 - (m + 1) % 2 ^ 48) % 2 ^ 48 < 2 ^ 47 then
      (if s.witness then { s with twn := { s.twn with role := .claiming, claimWhy := 1, dropAt := none, viewUntil := 0 } }
       else { s with twn := { s.twn with gaining := some (s.twn.gen, 1), dropAt := none } })
    else s
  | none => s

/-- Runs the standby's side: frames, APPLIED, a drop, a gain. -/
def State.rxPump (s : State) : State :=
  let m := s.twn.mseq
  let s1 := s.rxRun (2 * s.twn.rxq.length + 2)
  let s2 := if s1.twn.mseq ≠ m ∧ s1.twn.linkUp then s1.twinOut (.applied s1.lastMseq) else s1
  let s3 := s2.dropCheck
  match s3.twn.gaining with
  | some (g, c) =>
    let s4 := s3.rxRun (2 * s3.twn.rxq.length + 2)
    if s4.twn.rxq.isEmpty ∧ !s4.twn.rxBusy then s4.gainNow g c else s4
  | none => s3

/-- The last condition of R316 for gaining holds. -/
def State.gain (s : State) (gen cause : Nat) : State :=
  ({ s with twn := { s.twn with gaining := some (gen, cause) } }).rxPump

/-- The unit stops applying frames and keeps what it has. -/
def State.detach (s : State) : State :=
  { s with twn := { s.twn with role := .detached, rxq := [], rxBusy := false, rxWant := none, dropAt := none, gaining := none } }

/-- R340: the unit is FENCED. -/
def State.fenced (s : State) : State :=
  let s1 := s.demote .fenced
  { s1 with twn := { s1.twn with
    role := .fenced
    floating := false
    rxq := []
    rxBusy := false
    rxWant := none
    dropAt := none
    gaining := none
    wreq := none
    grantHeld := 0 } }

/-! ### Handover (R338) -/

/-- Every admitted request is complete. -/
def State.clientsDone (s : State) : Bool :=
  s.epo.streams.all (fun e => e.2.queue.isEmpty && e.2.acks.isEmpty && e.2.close.isNone) && s.epo.loads.isEmpty
    && s.fch.waits.isEmpty && s.fch.maints.isEmpty && s.fch.fills.all (fun f => f.reqs.isEmpty)
    && s.nre.qps.all (fun e => e.2.out.isEmpty && e.2.waiting.isEmpty)

/-- Steps 2 to 5 of R338: once every request is complete and APPLIED covers the last frame, the token is dropped. -/
def State.handoverRun (s : State) : State :=
  match s.twn.handover with
  | none => s
  | some (reason, slot) =>
    if !s.clientsDone ∨ !s.twn.sent.isEmpty then s
    else
      let g := s.twn.gen
      let m := s.lastMseq
      let s1 := s.giveUp (if reason = 2 then .fenced else .detached) reason
      let s2 := s1.twinOut (.leaseDrop g m reason)
      let s3 := if s2.witness then s2.witnessAsk 3 else s2
      match slot with
      | some n => s3.svcOut n svcOK
      | none => s3

/-- Starts a handover: no new client request is admitted (R338 step 1). -/
def State.handoverStart (s : State) (reason : Nat) (slot : Option Nat) : State :=
  { s with twn := { s.twn with drained := true, handover := some (reason, slot) } }

/-! ### Catch-up at the holder (R343, R344) -/

/-- Regions of every owned logical shelf (R344). -/
def State.fullMap (s : State) : List Nat :=
  (s.tqm.shelves.filter (fun e => e.2.st != 0 && e.1 != 0)).flatMap (fun e => shelfRegions e.1 1)

/-- Copies the tables (R343 step 1). -/
def State.sendTables (s : State) : State :=
  let s1 := s.epo.streams.foldl (fun s e => s.mirror_ (.rsState (.stream e.1 e.2))) s
  let s2 := s1.tqm.windows.foldl (fun s e => s.mirror_ (.rsState (.window e.1 e.2))) s1
  let s3 := s2.nre.hosts.foldl (fun s e => s.mirror_ (.rsState (.host e.1 [e.2]))) s2
  let s4 := (s3.tqm.shelves.filter (fun e => e.1 != 0)).foldl (fun s e => s.mirror_ (.rsState (.shelf e.1 e.2))) s3
  s4.cir.streams.foldl (fun s e =>
    let x := e.2
    s.mirror_ (.rsState (.circ e.1 [x.tenant, x.host, x.sched, x.depth, x.ahead, x.rate, x.dscp, b2n x.rep,
      if x.st = 2 ∨ x.st = 3 then 1 else x.st, b2n x.set]))) s4

/-- A join is accepted: the change map takes the metadata shelf, and everything where a full resync is due (R342 to
R344). -/
def State.acceptJoin (s : State) (gen : Nat) (stateOk : Bool) : State :=
  let full := s.twn.fullNext || !stateOk || decide (gen + 1 < s.twn.gen)
  let map := (shelfRegions 0 1 ++ (if full then s.fullMap else []) ++ s.twn.chmap).eraseDups
  let s1 := { s with twn := { s.twn with
    partner := .catching
    mseq := 0
    sent := []
    atoms := []
    allocs := []
    status := none
    chmap := map
    fullNext := false
    joinAt := s.timeUs
    copied := 0
    copying := none
    copyWait := [] } }
  (s1.twinOut (.join s.twn.gen true 0)).sendTables

/-- A region's copy ends when nothing of it is awaited: RS_REGION, and its bit clears; with the map empty RS_END, and
the pair is in step (R343). -/
def State.copyEnd (s : State) : State :=
  match s.twn.copying with
  | none => s
  | some r =>
    if !s.twn.copyWait.isEmpty then s
    else
      let s1 := s.mirror_ (.rsRegion r)
      let s2 := { s1 with twn := { s1.twn with
        copying := none
        copied := s1.twn.copied + 1
        chmap := s1.twn.chmap.filter (· != r) } }
      if !s2.twn.chmap.isEmpty then s2
      else
        let s3 := s2.mirror_ .rsEnd
        (({ s3 with twn := { s3.twn with partner := .inStep } }).raise 0x30A).note 0x434
          [s3.twn.copied, (s3.timeUs - s3.twn.joinAt) / 1000]

/-- RS_LINE for each line of a folio (R343). -/
def State.copyLines (s : State) (f : Nat) (l : List (Line × Tag)) : State :=
  (upTo 32).foldl (fun s j => let p := l.getD j (0, poisonTag); s.mirror_ (.rsLine (f * 32 + j) p.2 p.1)) s

/-- The folios of a region that are awaited have come from a sled: written ones as lines, a tile that is trimmed and
absent as RS_TRIM. -/
def State.copyArrive (s : State) (f : Nat) (data : Option (List (Line × Tag))) (trimmedTile : Bool) : State :=
  if !s.twn.copyWait.contains f then s
  else
    let s1 := { s with twn := { s.twn with copyWait := s.twn.copyWait.filter (· != f) } }
    let s2 := match data with
      | some l => s1.copyLines f l
      | none => if trimmedTile ∧ f % 16 = 0 then s1.mirror_ (.rsTrim (f / 16)) else s1
    s2.copyEnd

/-- Starts the copy of the lowest marked region (R343). -/
def State.copyStart (s : State) : State :=
  match s.twn.chmap with
  | [] => s
  | r0 :: t =>
    let r := t.foldl min r0
    let fs := (upTo 256).map (· + r * 256)
    let s0 := { s with twn := { s.twn with copying := some r } }
    let s1 := fs.foldl (fun s f =>
      match s.findWay f with
      | some k => let p := s.copyWay k; p.1.copyLines f p.2
      | none =>
        if (s.sledOf f).isNone ∨ s.lostShelf f then s
        else { s with twn := { s.twn with copyWait := s.twn.copyWait ++ [f] } }) s0
    let tiles := (s1.twn.copyWait.map (· / 16)).eraseDups
    let s2 := tiles.foldl (fun s t =>
      match s.sledOf (t * 16) with
      | some (n, sh) =>
        let mask := (s.twn.copyWait.filter (fun f => f / 16 == t)).foldl (fun a f => a + 2 ^ (f % 16)) 0
        s.stkSend n { op := 1, shelf := sh, tile := tileIn (t * 16), mask := mask, ltile := t }
      | none => s) s1
    s2.copyEnd

/-! ### The link and the lease -/

/-- The twin link is lost (R316, R326, R341). -/
def State.twinDown (s : State) : State :=
  if !s.twn.linkUp then s
  else
    let s1 := ({ s with twn := { s.twn with linkUp := false, pulses := 0, txq := [] } }).standbyLost
    if s1.twn.role = .catchingUp then s1.detach else s1

/-- A claim ends without the token (R316): its request and a GRANT held go, and the unit is DETACHED. -/
def State.claimEnd (s : State) : State :=
  { s.detach with twn := { s.detach.twn with wreq := none, grantHeld := 0 } }

/-- The twin link is ACTIVE (R316, R336): HELLO is sent by the roles that join or arbitrate, and by the holder; a claim of an
IN_STEP unit ends. -/
def State.twinUp (s : State) : State :=
  let s1 := { s with twn := { s.twn with linkUp := true } }
  match s1.twn.role with
  | .starting => s1.hello
  | .active => s1.hello
  | .detached => if s1.flag fTWN_CTRL_AUTO_JOIN then s1.hello else s1
  | .claiming => if s1.twn.takeover.isSome then s1.hello else s1.claimEnd.hello
  | .inStep => if s1.flag fTWN_CTRL_AUTO_JOIN then s1.detach.hello else s1.detach
  | _ => s1

/-- The holder may act for the pair (R331). -/
def State.mayAct (s : State) : Bool :=
  decide (s.timeUs < s.twn.leaseUntil) || decide (s.timeUs < s.twn.renewUntil) || !s.witness
    || (!s.twn.linkUp && s.twn.hbIn == 2 && decide (s.timeUs - s.twn.hbAt ≤ 200))

end Sys2Proof.Machine
end

