-- ==== Sys2Proof/Machine/IntOps.lean ====
section
/-! DEFINITION. INT (R359 to R369): which sources are pending, the offers, claims, completions, and the signals of the
targets. -/

namespace Sys2Proof.Machine

/-! ### Conditions of the Level sources -/

/-- PIN_PENDING of R129: some object's folios are not yet all resident. -/
def State.pinPending (s : State) : Bool := s.tqm.objs.any (fun e => decide (0 < e.2.pinLeft))

/-- TWN_STATUS.LINK_UP: the twin link is ACTIVE, which in RECOVERY it is not (R226, R318). -/
def State.twinActiveNow (s : State) : Bool := s.twn.linkUp && (s.tvl_ twinLk).st != 5

/-- TWN_STATUS.PAIRED. -/
def State.paired (s : State) : Bool :=
  (s.twn.role == .active && s.twn.partner == .inStep) || s.twn.role == .inStep

/-- Sub-sources of a lane reference group (R395): some lane of the group is enabled. -/
def State.groupOn (s : State) (g : Nat) : Bool :=
  if g = 0 then (upTo 16).any s.tvOn
  else if g = 1 then (upTo 32).any s.ethEnabled
  else if g = 2 then s.twnOn
  else (upTo 16).any s.stkOn

/-- The channels of LPR and DMC. -/
def State.anyErasure (s : State) (f : Erasure → Bool) : Bool := s.lpr.erasure.any (fun e => f e.2)

/-- All entries of some channel's remap table are in use (R202). -/
def State.remapFullAny (s : State) : Bool :=
  (upTo 16).any (fun c => decide ((s.lpr.remap.filter (fun e => e.1 / 64 == c && e.2.valid)).length ≥ 64))

/-- S of pool `p` is 0. -/
def State.poolEmpty (s : State) (p : Nat) : Bool := s.poolShared p == 0

/-- Conditions of the sources below 0x100: supervision, power, clocks, registrar, flash, security, DRAM channels. -/
def State.levelLow (s : State) (n : Nat) : Bool :=
  if n < 0x080 then
    if n = 0x001 then s.sup.railFail
    else if n = 0x002 then s.sup.dischFail
    else if n = 0x022 then !s.pwr.failed.isEmpty
    else if n = 0x040 then (upTo 4).any (fun g => !bitOf s.cru.refOk g && s.groupOn g)
    else if n = 0x046 then s.cru.unclean
    else if n = 0x04A then s.rgc.noImage
    else if n = 0x04C then s.rgc.halted
    else if n = 0x050 then !s.efl.suspect.isEmpty
    else if n = 0x062 then s.sec.lockout
    else if n = 0x064 then decide (s.baseLevel < s.sec.level)
    else if n = 0x072 then decide (64 ≤ s.sec.kQueue.length)
    else false
  else
    let c := s.ch ((n - 0x080) / 8)
    if n % 8 = 0 then c.st == 5 else if n % 8 = 3 then c.ref2x else if n % 8 = 4 then c.hot else false

/-- Conditions of the sources of LPR, FCH, TQM, RSV, EPO and STK. -/
def State.levelMid (s : State) (n : Nat) : Bool :=
  if n < 0x180 then
    if n = 0x100 then s.lpr.bistFail
    else if n = 0x104 then s.anyErasure (·.erased)
    else if n = 0x105 then s.anyErasure (·.critical)
    else if n = 0x107 then s.remapFullAny
    else if n = 0x140 then !s.fch.dead.isEmpty
    else if n = 0x145 then s.pinPending
    else if n = 0x150 then s.shelfBad
    else if n = 0x154 then decide (s.lpaRun < 1024)
    else if n = 0x162 then s.rsv.overB
    else if n = 0x163 then s.rsv.monBad
    else if n = 0x164 then decide (0 < s.stranded)
    else if n = 0x165 then s.rsv.lastIncomplete
    else if n = 0x170 then decide (s.fld fEPO_POOL_SIZE_SEGS - s.epo.used.length < s.fld fEPO_POOL_LOW_SEGS)
    else if n = 0x173 then decide (0 < s.reports)
    else if n = 0x176 then s.soloShown
    else if n = 0x177 then s.lagFull
    else false
  else
    let l := s.link ((n - 0x180) / 8)
    if n % 8 = 0 then l.st == 3 else if n % 8 = 1 then l.st == 4 else if n % 8 = 6 then bitOf l.sledSt 2 else false

/-- Conditions of the sources of the ports, the twin, circulation, the pools and the sideband. -/
def State.levelHigh (s : State) (n : Nat) : Bool :=
  if n < 0x280 then
    let p := (n - 0x200) / 8
    if n % 8 = 0 then s.tvOn p && (s.tvl_ (2 * p)).st != 4
    else if n % 8 = 1 then s.tvOn p && s.flag (fTVL_CTRL_SPLIT.plus (0x100000 * p)) && (s.tvl_ (2 * p + 1)).st != 4
    else false
  else if n < 0x2C0 then
    let e := 4 * ((n - 0x280) / 8) + n % 8
    n % 8 < 4 && s.ethEnabled e && !(s.ethPort e).up
  else if n = 0x2C4 then s.ciFull
  else if n = 0x2C6 then s.nre.ovf
  else if n = 0x300 then s.flag fTWN_CTRL_ENABLE && !s.paired
  else if n = 0x305 then !s.twinActiveNow
  else if n = 0x306 then s.twn.hbIn == 0
  else if n = 0x308 then s.witness && !s.twn.witnessOk
  else if n = 0x30B then s.twn.stale
  else if n = 0x343 then s.cir.streams.any (fun e => e.2.late)
  else if 0x380 ≤ n ∧ n ≤ 0x383 then s.poolEmpty (n - 0x380)
  else if n = 0x388 then s.bpm.cfgErr
  else if 0x3A0 ≤ n ∧ n < 0x3B0 then n % 4 == 0 && (Tab.get (fun _ => ({} : SbCh)) s.sbb.chs ((n - 0x3A0) / 4)).st == 5
  else false

/-- The hardware condition of a Level source. -/
def State.level_ (s : State) (n : Nat) : Bool :=
  if n < 0x100 then s.levelLow n else if n < 0x200 then s.levelMid n else s.levelHigh n

/-- Class Level (R359): the sources that the chapters' tables say so of. A reserved source has no class given; it is
taken as Count, since only software can raise it. -/
def levelClass (n : Nat) : Bool :=
  [0x001, 0x002, 0x022, 0x040, 0x046, 0x04A, 0x04C, 0x050, 0x062, 0x064, 0x072, 0x100, 0x104, 0x105, 0x107, 0x140,
    0x145, 0x150, 0x154, 0x162, 0x163, 0x164, 0x165, 0x170, 0x173, 0x176, 0x177, 0x2C4, 0x2C6, 0x300, 0x305, 0x306,
    0x308, 0x30B, 0x343, 0x380, 0x381, 0x382, 0x383, 0x388].contains n
  || (decide (0x080 ≤ n ∧ n < 0x100) && (n % 8 == 0 || n % 8 == 3 || n % 8 == 4))
  || (decide (0x180 ≤ n ∧ n < 0x200) && (n % 8 == 0 || n % 8 == 1 || n % 8 == 6))
  || (decide (0x200 ≤ n ∧ n < 0x280) && n % 8 < 2)
  || (decide (0x280 ≤ n ∧ n < 0x2C0) && n % 8 < 4)
  || (decide (0x3A0 ≤ n ∧ n < 0x3B0) && n % 4 == 0)

/-- Every Level source. -/
def levelSrcs : List Nat := (upTo 0x481).filter levelClass

/-! ### Pending, targets, deliverable (R359 to R364) -/

def State.tgt (s : State) (t : Nat) : IntTgt := Tab.get (fun _ => {}) s.int.tgts t
def State.setTgt (s : State) (t : Nat) (x : IntTgt) : State :=
  { s with int := { s.int with tgts := Tab.set (fun _ => {}) s.int.tgts t x } }

/-- A source number that can be set (R363): 0x001 to 0x480 but 0x07E and 0x07F. -/
def srcSettable (n : Nat) : Bool := decide (0 < n ∧ n ≤ 0x480) && n != 0x07E && n != 0x07F

/-- A source is pending (R359): not active, and its level holds, its flag is set, or its counter is above 0. -/
def State.srcPend (s : State) (n : Nat) : Bool :=
  let r := s.src n
  r.active.isNone && (if levelClass n then r.sw || s.level_ n else decide (0 < r.cnt))

def State.srcPrio (s : State) (n : Nat) : Nat := s.fld (fINT_SRC_PRIO.plus (8 * n))
def State.srcMask (s : State) (n : Nat) : Bool := s.flag (fINT_SRC_MASK.plus (8 * n))
def State.srcTgts (s : State) (n : Nat) : Nat := s.fld (fINT_SRC_TGT_TGT_EN.plus (8 * n))

/-- The Tvedfy link of a port target (R361). -/
def State.tgtLk (s : State) (t : Nat) : Nat :=
  let p := t - 5
  2 * p + (if (s.tvl_ (2 * p)).split ∧ s.flag (fINT_TGT_CFG_HALF.plus (0x10 * t)) then 1 else 0)

/-- A target is enabled (R362). -/
def State.tgtOn (s : State) (t : Nat) : Bool :=
  decide (t < 21) && s.flag fINT_CTRL_ENABLE && s.flag (fINT_TGT_CFG_EN.plus (0x10 * t))
    && (!(t == 1 || t == 2) || s.int.msixEn)
    && (decide (t < 5) || ((s.tvl_ (s.tgtLk t)).st == 4 && (s.tvl_ (s.tgtLk t)).holderSaid))

/-- SPLIT of a target; above 8 acts as 8. -/
def State.tgtSplit (s : State) (t : Nat) : Nat := min 8 (s.fld (fINT_TGT_CFG_SPLIT.plus (0x10 * t)))

/-- Sources active at a target. -/
def State.activeAt (s : State) (t : Nat) : List Nat := (s.int.srcs.filter (fun e => e.2.active == some t)).map (·.1)

/-- The running group of a target (R364), 0x1FF for none. -/
def State.running (s : State) (t : Nat) : Nat :=
  (s.activeAt t).foldl (fun a n => min a (s.srcPrio n >>> s.tgtSplit t)) 0x1FF

/-- The most urgent deliverable source at a target (R364): by group, then sub-priority, then lower number. -/
def State.deliverable (s : State) (t : Nat) : Option Nat :=
  if (s.activeAt t).length ≥ 8 then none
  else
    let run := s.running t
    let k := s.tgtSplit t
    let cand := (s.int.srcs.filter (fun e => e.2.offered == some t && decide (s.srcPrio e.1 >>> k < run))).map (·.1)
    cand.foldl (fun a n =>
      match a with
      | none => some n
      | some m => if s.srcPrio n < s.srcPrio m then some n else some m) none

/-- The next target for a source (R363): ascending after the last one, wrapping, among its set and enabled. -/
def State.nextTgt (s : State) (n : Nat) : Option Nat :=
  let l := (s.src n).last
  ((upTo 21).map (fun i => (l + 1 + i) % 21)).find? (fun t => bitOf (s.srcTgts n) t && s.tgtOn t)

/-! ### Offers -/

/-- Completes a source at a target (R367): it may pend again. -/
def State.srcDone (s : State) (n : Nat) : State :=
  let r := s.src n
  match r.active with
  | none => s
  | some t =>
    let s1 := s.setSrc n { r with active := none }
    if t = 1 ∨ t = 2 then s1.setTgt t { s1.tgt t with held := false } else s1

/-- Renews one source's offer (R363, R369): withdrawn when the source stops pending, is masked, or its target is disabled
or leaves its set; offered when it pends and some target takes it. -/
def State.reoffer (s : State) (n : Nat) : State :=
  let r := s.src n
  let want := s.srcPend n && !s.srcMask n
  let keeps : Bool := match r.offered with
    | some t => want && s.tgtOn t && bitOf (s.srcTgts n) t
    | none => false
  if keeps then s
  else if !want then (if r.offered.isSome then s.setSrc n { r with offered := none } else s)
  else match s.nextTgt n with
    | some t => s.setSrc n { r with offered := some t, last := t }
    | none => if r.offered.isSome then s.setSrc n { r with offered := none } else s

/-- Completes what is active at Tvedfy targets that are disabled (R252, R368). -/
def State.dropTargets (s : State) : State :=
  s.int.srcs.foldl (fun s e =>
    match e.2.active with
    | some t => if 5 ≤ t ∧ !s.tgtOn t then s.srcDone e.1 else s
    | none => s) s

/-- Renews every offer. -/
def State.offers (s : State) : State :=
  let listed := s.int.srcs.map (·.1)
  let s1 := listed.foldl (fun s n => s.reoffer n) s.dropTargets
  if s.flag fINT_CTRL_ENABLE then (levelSrcs.filter (fun n => !listed.contains n)).foldl (fun s n => s.reoffer n) s1 else s1

/-- A claim of the most urgent deliverable source (R366): it becomes active, its count goes to the claimant, and the
target's SIGNALLED clears. -/
def State.claim (s : State) (t : Nat) : State × Option (Nat × Nat × Nat) :=
  let g := { s.tgt t with signalled := false }
  match s.deliverable t with
  | none => (s.setTgt t g, none)
  | some n =>
    let r := s.src n
    let c := if levelClass n then 0 else r.cnt
    (((s.setTgt t g).setSrc n { r with cnt := 0, sw := false, active := some t, offered := none }).bump rINT_CNT_OFFER,
      some (n, c, s.srcPrio n))

/-- Sends EVENT for the deliverable sources of a Tvedfy target while its link can take one (R361, R365). -/
def State.sendEvents (s : State) (t : Nat) : Nat → State
  | 0 => s
  | k + 1 =>
    let lk := s.tgtLk t
    let l := s.tvl_ lk
    let ev := TvResp.event 0 0 0 0 0 false
    if (s.deliverable t).isNone ∨ !canSend lk l ev ∨ l.txq.any isEvent then s
    else
      match s.claim t with
      | (s1, some (n, c, _)) =>
        (((s1.setTgt t { s1.tgt t with signalled := true }).tvSend lk (.event n 0 c 0 0 false))).sendEvents t k
      | (s1, none) => s1

/-- Signals of a target that has a line, a pin or a vector (R365). -/
def State.signal (s : State) (t : Nat) : State :=
  let has := (s.deliverable t).isSome
  let g := s.tgt t
  if t = 1 ∨ t = 2 then
    if has && !g.held then
      if g.vecMask then s.setTgt t { g with held := true, pba := true }
      else (s.setTgt t { g with held := true, signalled := true }).emit (.msix (t - 1))
    else if !has && g.held then s.setTgt t { g with held := false } else s
  else
    let s1 := if has then s.setTgt t { g with signalled := true } else s
    if t = 0 then { s1 with int := { s1.int with line0 := has } }
    else if t = 3 then { s1 with int := { s1.int with irq0Low := has } }
    else { s1 with int := { s1.int with irq1Low := has } }

/-- Renews offers and signals. -/
def State.interrupts (s : State) : State :=
  let s1 := s.offers
  let s2 := if s1.flag fINT_CTRL_ENABLE then ((upTo 21).filter (fun t => decide (5 ≤ t) && s1.tgtOn t)).foldl (fun s t => s.sendEvents t 8) s1 else s1
  [0, 1, 2, 3, 4].foldl (fun s t => s.signal t) s2

end Sys2Proof.Machine
end

