-- ==== Sys2Proof/Machine/Settle.lean ====
section
/-! DEFINITION. What every command ends with: answers are handed to their transports, the twin's frames applied, the
governor's level formed, roles, credits, pauses and interrupts brought up to date. -/

namespace Sys2Proof.Machine

/-! ### Answers that transports other than Tvedfy form -/

/-- Hands one answer to its transport: a queue pair, a mailbox slot, a circulation stream. The answers of mirrored
requests stay for `rxPump`. -/
def State.handOver (s : State) (src : Src) (a : Ans) : State :=
  match src with
  | .roce q id => s.qpAnswered q id a
  | .svc n => (match a with
    | .svc c ws => s.svcEnd n c ws
    | _ => s.svcEnd n a.svcCode [])
  | .cir i k => s.cirPart i k a
  | .sb _ => { s with done := s.done ++ [(src, a)] }
  | _ => s

/-- Hands over every answer; handing one over may bring another. -/
def State.handAll : Nat → State → State
  | 0, s => s
  | n + 1, s =>
    if s.done.all (fun d => match d.1 with | .sb _ => true | _ => false) then s
    else (s.done.foldl (fun (s : State) d => s.handOver d.1 d.2) { s with done := [] }).handAll n

/-- OBJ_CREATE of an Unbacked object is answered once every folio is resident (R129, R423): its handle. -/
def State.pinAnswers (s : State) : State :=
  s.tqm.objs.foldl (fun s e =>
    match e.2.waiter with
    | some n =>
      if e.2.pinLeft = 0 then
        (s.setObj e.1 { s.obj e.1 with waiter := none }).svcOut n { words := words2 (mkHandle e.2.tenant e.2.reuse e.1) }
      else s
    | none => s) s

/-! ### Links -/

/-- Puts an event on every Tvedfy link that is ACTIVE and was told that this unit holds the token. -/
def State.tellHolders (s : State) (r : TvResp) : State :=
  (upTo 32).foldl (fun s lk => if (s.tvl_ lk).st = 4 ∧ (s.tvl_ lk).holderSaid then s.tvSend lk r else s) s

/-- SOLO is told to the holder links when it changes (R253), and counts as the start of a solo state (R59). -/
def State.tellSolo (s : State) : State :=
  let now := s.solo
  if now = s.epo.soloSaid then s
  else ({ s with epo := { s.epo with soloSaid := now } }).tellHolders (.event 0 2 0 0 0 now)

/-- Reports the credits that were withheld, once their class is no longer withheld (R225). -/
def State.unhold (s : State) (lk : Nat) : State :=
  let l := s.tvl_ lk
  let l1 := if l.heldRq ≠ 0 ∧ !s.holdRq lk then
      { l with heldRq := 0, cntRq := (l.cntRq + l.heldRq) % 4096, crRq := l.crRq + l.heldRq } else l
  let l2 := if l1.heldPw ≠ 0 ∧ !s.holdPw lk then
      { l1 with heldPw := 0, cntPw := (l1.cntPw + l1.heldPw) % 4096, crPw := l1.crPw + l1.heldPw } else l1
  let l3 := if l2.heldAt ≠ 0 ∧ !s.holdAt then
      { l2 with heldAt := 0, cntAt := (l2.cntAt + l2.heldAt) % 64, crAt := l2.crAt + l2.heldAt } else l2
  if l3 = l then s else s.setTvl lk l3

/-- Credits and queued messages of every Tvedfy link. -/
def State.linksRun (s : State) : State :=
  s.tvl.links.foldl (fun s e => if (s.tvl_ e.1).txq.isEmpty then s.unhold e.1 else (s.unhold e.1).tvPump e.1) s

/-! ### Pauses (R263, R355) -/

/-- Limit of a port in a pool (R355): its minimum plus α × S. -/
def State.portLimit (s : State) (e p : Nat) : Nat := s.ownerMin (0x20 + e) p + 2 ^ s.alpha p * s.poolShared p / 16

/-- A port's use is at or above n / 256 of its limit in one of pools 0 to 2. -/
def State.portAbove (s : State) (e n : Nat) : Bool :=
  (upTo 3).any (fun p => decide (0 < s.inUse (0x20 + e) p) && decide (n * s.portLimit e p ≤ 256 * s.inUse (0x20 + e) p))

/-- XON acts as XOFF - 1 when it is not below XOFF (BPM_PFC). -/
def State.xonThr (s : State) : Nat :=
  if s.fld fBPM_PFC_XOFF ≤ s.fld fBPM_PFC_XON then s.fld fBPM_PFC_XOFF - 1 else s.fld fBPM_PFC_XON

/-- Sends a PFC frame for a set of priorities and counts it. -/
def State.pfcSend (s : State) (e : Nat) (what : String) (prios : Nat) : State :=
  ((s.emit (.frame e (s.portMac e) none none false (.eth e what prios))).bump (rETH_P_TX + ethSub e)).bumpFld (fETH_P_PFC_TX.plus (0x100000 * (e / 4) + 0x40 * (e % 4)))

/-- A PFC frame for a set of priorities, where it is not empty. -/
def State.pfcSome (s : State) (e : Nat) (what : String) (prios : Nat) : State := if prios = 0 then s else s.pfcSend e what prios

/-- Priorities for which stage 4's XOFF stands on a port (R99). -/
def State.stageXoff (s : State) (e : Nat) : Nat := Tab.get (fun _ => 0) s.rsv.xoff e

/-- XOFF and XON of one port for its lossless priorities (R355). Priorities that stage 4 holds paused stay so (R99). -/
def State.portPause (s : State) (e : Nat) : State :=
  let prios := s.fld (fETH_PFC_TX_EN.plus (0x100000 * (e / 4)))
  let is := s.bpm.xoff.contains e
  if !is ∧ prios ≠ 0 ∧ (s.ethPort e).up ∧ s.portAbove e (s.fld fBPM_PFC_XOFF) then
    ({ s with bpm := { s.bpm with xoff := s.bpm.xoff ++ [e] } }).pfcSend e "XOFF" prios
  else if is ∧ !s.portAbove e s.xonThr then
    ({ s with bpm := { s.bpm with xoff := s.bpm.xoff.filter (· != e) } }).pfcSome e "XON" (if (s.ethPort e).up then prios &&& (255 ^^^ s.stageXoff e) else 0)
  else s

/-- Stage 4 of R99 on one port: XOFF stands for each priority of RSV_PFC while the stage is in force and the port is up, whenever
the port came up or RSV_PFC was written; it is taken back when that ends, except where the port itself is paused (R355). -/
def State.stagePort (s : State) (e : Nat) : State :=
  let en := s.fld (fETH_PFC_TX_EN.plus (0x100000 * (e / 4)))
  let up := (s.ethPort e).up
  let want := if s.rsv.stage ≥ 4 ∧ s.flag fRSV_CTRL_PFC_EN ∧ up then s.fld fRSV_PFC_PRIO &&& en else 0
  let said := s.stageXoff e
  if want = said then s
  else
    let s1 : State := { s with rsv := { s.rsv with xoff := Tab.set (fun _ => 0) s.rsv.xoff e want } }
    let own := if s.bpm.xoff.contains e then en else 0
    if up then (s1.pfcSome e "XOFF" (want &&& (255 ^^^ said))).pfcSome e "XON" (said &&& (255 ^^^ (want ||| own))) else s1

/-- Stage 4 of R99 on every Ethernet port. -/
def State.stagePause (s : State) : State := s.eth.ports.foldl (fun s e => s.stagePort e.1) s

/-! ### Fatal faults -/

/-- A fatal fault newly latched is told to the async ring (R292), and starts a handover on the holder of a pair in step
with FAULT_HANDOVER (R338). -/
def State.tellFatal (s : State) : State :=
  if s.cru.fatal.length ≤ s.cru.fatalSaid then
    (if s.cru.fatal.length < s.cru.fatalSaid then { s with cru := { s.cru with fatalSaid := s.cru.fatal.length } } else s)
  else
    let s1 := { s with cru := { s.cru with fatalSaid := s.cru.fatal.length } }
    let s2 := if s.cru.fatalSaid = 0 then s1.async 3 0xFF 0 0 0 false else s1
    if s2.flag fTWN_CTRL_FAULT_HANDOVER ∧ s2.twn.role = .active ∧ s2.twn.partner = .inStep ∧ s2.twn.handover.isNone then
      s2.handoverStart 2 none
    else s2

/-- Settles the machine after a command. -/
def settle (s : State) : State :=
  let s1 := (s.fchRun.handAll 64).pinAnswers
  let s2 := (s1.tellFatal.rxPump).handoverRun
  let s3 := (s2.handAll 64).govern
  let s4 := s3.tellSolo.sayRoles.linksRun.twinPump
  let s5 := (s4.eth.ports.foldl (fun s e => s.portPause e.1) s4).stagePause
  s5.interrupts

/-- The end of a meaning. -/
def finish (s : State) : Host.Outcome State Fault Refusal := .next (settle s)

end Sys2Proof.Machine
end

