-- ==== Sys2Proof/Machine/BpmRows.lean ====
section
/-! DEFINITION. The commands of BPM (R346 to R357): requests for desk buffers, returns, retries. -/

namespace Sys2Proof.Machine

/-- Owners whose buffers are charged to no tenant (R353). -/
def ownerFree (o : Nat) : Bool := decide (0x40 ≤ o ∧ o ≤ 0x4F) || decide (0x54 ≤ o ∧ o ≤ 0x57)

/-- A well-formed request (R348, R349): a known owner, a pool it may use, 1 to 8 buffers. -/
def bufferAsk (o p n : Nat) : Bool := decide (o < ownerCount) && ownerMay o p && decide (1 ≤ n ∧ n ≤ 8)

/-- The granted buffers are charged to the tenant where R353 charges them, or go back when its limit would be passed: the
refusal counts on the tenant as DESK. -/
def State.bufferCharge (s : State) (o : Nat) (ps : List Nat) (tenant : Option Nat) : State :=
  match (if ownerFree o then none else tenant) with
  | none => s
  | some t =>
    let size := ps.foldl (fun a p => match s.ptrFind p with | .ok (q, _) => a + poolSize q | .error _ => a) 0
    match s.deskCharge t size with
    | some s1 => s1
    | none =>
      let back := ps.foldl (fun (s : State) p => match s.ptrFind p with
        | .ok (_, k) => { s with bpm := { s.bpm with bufs := Tab.set (fun _ => {}) s.bpm.bufs k {} } }
        | .error _ => s) s
      back.refuse t 0x4

/-- What becomes of a request that no pool grants (R352): a frame is dropped and counted, anything else waits. -/
def State.bufferFail (s : State) (o p n : Nat) (up lossless : Bool) (tenant : Option Nat) : State :=
  if 0x20 ≤ o ∧ o < 0x40 then
    let s1 := (s.ethDrop (o - 0x20)).raise (ethSrc (o - 0x20) 7)
    if lossless then (s1.bump rBPM_CNT_DROP_HDRM).raise 0x385 else s1.bump rBPM_CNT_DROP_LOSSY
  else
    ({ s with bpm := { s.bpm with waits := s.bpm.waits ++ [(o, p, n, up, (tenant.map (· + 1)).getD 0)] } }).bump rBPM_CNT_WAIT

/-- BUFFER_ALLOC (R349 to R353). -/
def execBufferAlloc (owner pool n : Nat) (upsize lossless : Bool) (tenant : Option Nat) (s : State) :
    Host.Outcome State Fault Refusal :=
  finish (if !bufferAsk owner pool n then s
    else
      let t := if ownerFree owner then none else tenant
      match s.bpmAlloc owner pool n upsize lossless t with
      | (s1, some ps) => s1.bufferCharge owner ps t
      | (s1, none) => s1.bufferFail owner pool n upsize lossless t)

/-- BUFFER_RETURN (R354). -/
def execBufferReturn (ptr owner : Nat) (s : State) : Host.Outcome State Fault Refusal := finish (s.bpmReturn ptr owner)

/-- BUFFER_WAIT_RETRY (R351, R352): the k-th request that waits is tried again. -/
def execBufferWaitRetry (k : Nat) (s : State) : Host.Outcome State Fault Refusal :=
  finish (match s.bpm.waits[k]? with
    | none => s
    | some (o, p, n, up, t) =>
      let ten := if t = 0 then none else some (t - 1)
      match s.bpmAlloc o p n up false ten with
      | (s1, some ps) => ({ s1 with bpm := { s1.bpm with waits := s1.bpm.waits.eraseIdx k } }).bufferCharge o ps ten
      | (s1, none) => s1)

end Sys2Proof.Machine
end

