-- ==== Sys2Proof/Machine/NreOps.lean ====
section
/-! DEFINITION. A packet on a client queue pair (R273 to R290): PSN, opcode and lengths, windows, quota and residency,
execution; commands and the status block (R276 to R279); the miss buffer (R285). -/

namespace Sys2Proof.Machine

/-- Client traffic is accepted at a port. -/
def State.nreServes (s : State) (e : Nat) : Bool :=
  s.ports && s.nre.ready && s.flag fNRE_CTRL_ENABLE && (s.ethPort e).up && s.rsv.ph == .off

/-- Returns a packet's desk buffer. -/
def State.giveBuf (s : State) (e buf : Nat) : State := if buf ≥ noBuf then s else s.bpmReturn buf (0x20 + e)

/-- Charges a packet's buffer to the tenant of its window (R353), once. -/
def State.chargeBuf (s : State) (buf t : Nat) : Option State :=
  if buf ≥ noBuf then some s
  else
    match s.ptrFind buf with
    | .error _ => some s
    | .ok (p, k) =>
      let b := Tab.get (fun _ => ({} : Buf)) s.bpm.bufs k
      if b.tenant ≠ 0 then some s
      else (s.deskCharge t (poolSize p)).map (fun s1 =>
        { s1 with bpm := { s1.bpm with bufs := Tab.set (fun _ => {}) s1.bpm.bufs k { b with tenant := t + 1 } } })

/-- Pushes an answer whose content is known and sends what may leave. -/
def State.qpSay (s : State) (q : Nat) (w : QWait) (k : QKind) (a : Option Ans) (psn : Nat) : State :=
  let o : QOut := { psn := psn, kind := k, ans := a, port := w.port, mark := w.mark, buf := w.buf }
  let s1 := (s.qpPush q o).1
  s1.qpFlush q (s1.qp q).out.length

/-- A packet is refused with a NAK marked ERROR (R280). -/
def State.qpNak (s : State) (q : Nat) (w : QWait) (syn reason : Nat) : State := s.qpSay q w (.nak syn reason false) none w.pkt.psn

/-- A packet is refused with an RNR NAK (R280, R290): ePSN stays. -/
def State.qpRnr (s : State) (q : Nat) (w : QWait) (code : Nat) : State :=
  (s.setQp q { s.qp q with rnr := some w.pkt.psn }).qpSay q w (.rnr code) none w.pkt.psn

/-- What becomes of a packet that is processed. -/
inductive QStep where
  | done (s : State)
  /-- it waits: its folios are filling (R288) -/
  | wait (s : State)

/-! ### Residency -/

/-- What the residency of a packet's folios decides (R286 to R288). -/
inductive QPage where
  | go (s : State)
  | stall (s : State)
  | bounce (s : State) (us : Nat)
  /-- a write of a folio that R44 gives no way: refused with READING_CACHED -/
  | quota (s : State)

/-- Starts the demand fills of absent folios. -/
def State.demandFills (s : State) (fs : List Nat) (owner : Nat) : State :=
  fs.foldl (fun s f => if (s.fillOf f).isSome ∨ s.hazFull f then s
    else s.startFill f owner none false (pinnedCls (s.objOfShelf (shelfOf f)).cls) false false) s

/-- R44 leaves an absent folio without a way: its tenant is at the cached limit and owns no victim in the set. -/
def State.noRoom (s : State) (owner f : Nat) : Bool :=
  (s.fillOf f).isNone && s.cacheFull owner && !pinnedCls (s.objOfShelf (shelfOf f)).cls && (s.victim f owner true).isNone

/-- The decision between hold and bounce, on the largest prediction among a packet's folios. A READ of a folio that R44
gives no way goes on and is served from the desk; a WRITE or ATOMIC of one is refused. -/
def State.qpPage (s : State) (q : Nat) (fs : List Nat) (owner : Nat) (load : Bool) : QPage :=
  let absent0 := fs.filter (fun f => !(if load then s.readable f else (s.findWay f).isSome) && !s.lostShelf f)
  let absent := if load then absent0.filter (fun f => !s.noRoom owner f) else absent0
  if s.fch.mode ≠ 1 ∨ absent.isEmpty then .go s
  else if !load ∧ absent.any (s.noRoom owner) then .quota (s.refuse owner 0x2)
  else if (s.qp q).stall then (if absent.any (fun f => (s.fillOf f).isSome) then .stall s else .go s)
  else
    let s1 := (s.demandFills absent owner).tickFree
    let us := absent.foldl (fun a f => max a (s.predict f)) 0
    if us < s.fld fNRE_PAGE_HOLD_US then .stall (s1.bump rNRE_CNT_HOLD)
    else .bounce ((s1.bump rNRE_CNT_BOUNCE).raise 0x2C2) us

/-- Desk charge, the solo rule's hold and residency, in that order; then the packet runs. -/
def State.qpAdmit (s : State) (q : Nat) (w : QWait) (tenant owner : Nat) (fs : List Nat) (write : Bool)
    (run : State → State) : QStep :=
  match s.chargeBuf w.buf tenant with
  | none => .done ((s.refuse tenant 0x4).qpRnr q w s.rnrMin)
  | some s1 =>
    if write ∧ (s1.stream (qpStream q)).mode ∧ s1.solo ∧ s1.flag fEPO_CTRL_SOLO_POLICY then .done (s1.qpRnr q w s1.rnrMin)
    else
      match s1.qpPage q fs owner (!write) with
      | .go s2 => .done (run s2)
      | .stall s2 => .wait s2
      | .bounce s2 us => .done (s2.qpRnr q w (s2.rnrCode us))
      | .quota s2 => .done (s2.qpSay q w (.nak 0x63 0x2 true) none w.pkt.psn)

/-! ### Writes -/

/-- The line writes of a payload (R28, R60, R273): whole lines, and the bytes of the lines at its ends. -/
def writeParts (lpa : Nat) (bytes : List Byte) : List (Nat × WOp) :=
  let n := bytes.length
  (upTo ((lpa + (n - 1)) / 128 - lpa / 128 + 1)).map (fun j =>
    let line := lpa / 128 + j
    let a := max lpa (line * 128)
    let b := min (lpa + n) (line * 128 + 128)
    let seg := (bytes.drop (a - lpa)).take (b - a)
    let off := a - line * 128
    if b - a = 128 then (line, .full (lineOfBytes seg))
    else (line, .masked (BitVec.ofNat 128 ((2 ^ (b - a) - 1) * 2 ^ off)) (lineOfBytes (List.replicate off 0 ++ seg))))

/-- Puts writes of a queue pair on its stream; the epoch's segments are charged to the tenant of its first window. -/
def State.qpQueue (s : State) (q tenant : Nat) (l : List WriteReq) : State :=
  let i := qpStream q
  let r := s.stream i
  let r1 := { r with tenant := if r.segs.isEmpty then tenant else r.tenant, queue := r.queue ++ l.map SItem.write }
  let s1 := s.setStream i r1
  (if r.st = .closing then s1.bumpBy rEPO_CNT_HELD l.length else s1).pumpAll i

/-- Runs a WRITE packet at `lpa`: its place in the order of answers, its lines on the stream. -/
def State.qpWrite (s : State) (q : Nat) (w : QWait) (lpa owner win tenant : Nat) (last : Bool) (left : Nat) : State :=
  let x := s.qp q
  let ack := (last && w.pkt.ackReq) || x.pkts % 64 == 63
  let n := w.pkt.payload.length
  let s1 := s.setQp q { x with
    epsn := (x.epsn + 1) % 2 ^ 24
    pkts := if last then 0 else x.pkts + 1
    msn := if last then (x.msn + 1) % 2 ^ 24 else x.msn
    wr := if last then none else some (lpa + n, left - n, owner, win)
    stall := false
    rnr := none
    seqAt := none }
  if n = 0 then s1.qpSay q w (.ack ack) (some .ok) w.pkt.psn
  else
    let (s2, id) := s1.qpPush q { psn := w.pkt.psn, kind := .ack ack, port := w.port, mark := w.mark, buf := w.buf }
    let parts := writeParts lpa w.pkt.payload
    let (s3, g) := s2.openGrp (.roce q id) parts.length
    s3.qpQueue q tenant (parts.map (fun p =>
      { src := .grp g, op := p.2, line := p.1, owner := owner, host := x.host, ctx := 64 + q, win := win }))

/-- Folios of a payload. -/
def payFolios (lpa n : Nat) : List Nat := if n = 0 then [] else foliosOf lpa n

/-- A WRITE packet: First 0x06, Middle 0x07, Last 0x08 and 0x09, Only 0x0A and 0x0B. -/
def State.qpWritePkt (s : State) (q : Nat) (w : QWait) : QStep :=
  let x := s.qp q
  let n := w.pkt.payload.length
  let last := w.op != 6 && w.op != 7
  let imm (s : State) : State := if w.op = 9 ∨ w.op = 11 then s.setQp q { s.qp q with imm := w.pkt.imm % 2 ^ 32 } else s
  let go (lpa owner win tenant left : Nat) : QStep :=
    s.qpAdmit q w tenant owner (payFolios lpa n) true (fun s => (imm s).qpWrite q w lpa owner win tenant last left)
  if !s.flag fEPO_CTRL_ENABLE then .done (s.qpNak q w 0x62 rsACCESS)
  else match x.wr with
  | some (lpa, left, owner, win) => go lpa owner win (s.window win).tenant left
  | none =>
    if w.pkt.len = 0 then .done ((imm s).qpWrite q w 0 0 0 0 true 0)
    else
      match s.winCheck x.host w.pkt.rkey w.pkt.va w.pkt.len (·.2.1) with
      | .error r => .done (s.winDeny.qpNak q w (nakOf r) r)
      | .ok (lpa, owner, win, tenant) => go lpa owner win tenant w.pkt.len

/-! ### READ and ATOMIC -/

/-- The status block (R278). -/
def State.statusBlock (s : State) (q : Nat) : List Byte :=
  let x := s.qp q
  let r := s.stream (qpStream q)
  let b := leBytes 4 x.done ++ leBytes 1 x.status ++ leBytes 1 (b2n x.uncat + 2 * b2n x.solo + 4 * b2n r.mode)
    ++ leBytes 2 r.epoch ++ leBytes 4 x.imm ++ leBytes 1 (x.recBytes.length / 16) ++ leBytes 3 0 ++ x.recBytes
  b ++ List.replicate (256 - b.length) 0

/-- Keeps at most 16 responder-resource records (R282). -/
def keepRecs (l : List (Nat × Option (List Byte))) : List (Nat × Option (List Byte)) := l.drop (l.length - 16)

/-- A READ request; `again` says that it is a duplicate, which leaves ePSN as it is (R282). A READ takes one PSN for each
response packet. -/
def State.qpRead (s : State) (q : Nat) (w : QWait) (again : Bool) : QStep :=
  let x := s.qp q
  let n := w.pkt.len
  let next (s : State) : State :=
    let x := s.qp q
    s.setQp q { x with
      epsn := if again then x.epsn else (x.epsn + max 1 (ceilDiv n (mtuBytes x.pmtu))) % 2 ^ 24
      msn := if again then x.msn else (x.msn + 1) % 2 ^ 24
      recs := if again then x.recs else keepRecs (x.recs ++ [(w.pkt.psn, none)])
      stall := false
      rnr := if again then x.rnr else none
      seqAt := if again then x.seqAt else none }
  if w.pkt.rkey = 0 then
    (if w.pkt.va + n > 256 then .done (s.winDeny.qpNak q w 0x62 rsACCESS)
     else .done ((next s).qpSay q w .read (some (.data (((s.statusBlock q).drop w.pkt.va).take n) false false)) w.pkt.psn))
  else if n = 0 then .done ((next s).qpSay q w .read (some (.data [] false false)) w.pkt.psn)
  else
    match s.winCheck x.host w.pkt.rkey w.pkt.va n (·.1) with
    | .error r => .done (s.winDeny.qpNak q w (nakOf r) r)
    | .ok (lpa, owner, win, tenant) =>
      s.qpAdmit q w tenant owner (foliosOf lpa n) false (fun s =>
        let (s1, id) := (next s).qpPush q { psn := w.pkt.psn, kind := .read, port := w.port, mark := w.mark, buf := w.buf }
        s1.runLoad { src := .roce q id, lpa := lpa, len := n, owner := owner, ctx := 64 + q, win := win })

/-- CmpSwap 0x13 and FetchAdd 0x14 (R243, R275). -/
def State.qpAtomic (s : State) (q : Nat) (w : QWait) : QStep :=
  let x := s.qp q
  if !s.flag fEPO_CTRL_ENABLE then .done (s.qpNak q w 0x62 rsACCESS)
  else match s.winCheck x.host w.pkt.rkey w.pkt.va 8 (·.2.2) with
  | .error r => .done (s.winDeny.qpNak q w (nakOf r) r)
  | .ok (lpa, owner, win, tenant) =>
    if lpa % 8 ≠ 0 then .done (s.winDeny.qpNak q w 0x61 rsALIGN)
    else
      s.qpAdmit q w tenant owner [lpa / 4096] true (fun s =>
        let x := s.qp q
        let s1 := s.setQp q { x with
          epsn := (x.epsn + 1) % 2 ^ 24
          msn := (x.msn + 1) % 2 ^ 24
          recs := keepRecs (x.recs ++ [(w.pkt.psn, none)])
          stall := false
          rnr := none
          seqAt := none }
        let (s2, id) := s1.qpPush q { psn := w.pkt.psn, kind := .atomic, port := w.port, mark := w.mark, buf := w.buf }
        let op : WOp := if w.op = 0x13 then .atomic 0 (lpa % 128) (BitVec.ofNat 128 (w.pkt.cmp % 2 ^ 64 + w.pkt.swp % 2 ^ 64 * 2 ^ 64)) 0
          else .atomic 2 (lpa % 128) (BitVec.ofNat 128 (w.pkt.swp % 2 ^ 64)) 0
        s2.qpQueue q tenant
          [{ src := .roce q id, op := op, line := lpa / 128, owner := owner, host := x.host, ctx := 64 + q, win := win }])

/-! ### Commands (R276 to R279) -/

/-- The stream a command names (R279). -/
def State.cmdStream (s : State) (q qpn : Nat) : Option Nat :=
  if qpn = 0xFFFFFF then some (qpStream q)
  else if qpn < 0x100000 ∨ qpn ≥ 0x200000 then none
  else
    let i := qpStream (qpn - 0x100000)
    if (s.stream i).st = .reported ∧ (s.stream i).writer = (s.qp q).host then some i else none

/-- A SEND Only: a command of 32 bytes, or a bad one. -/
def State.qpCommand (s : State) (q : Nat) (w : QWait) : State :=
  let b := w.pkt.payload
  let f (a n : Nat) : Nat := leNat ((b.drop a).take n)
  let op := f 0 1
  if b.length ≠ 32 ∨ op = 0 ∨ op > 6 then s.qpNak q w 0x61 rsFORMAT
  else if !s.flag fEPO_CTRL_ENABLE then s.qpNak q w 0x62 rsACCESS
  else
    let x := s.qp q
    let s1 := s.setQp q { x with
      epsn := (x.epsn + 1) % 2 ^ 24, msn := (x.msn + 1) % 2 ^ 24, stall := false, rnr := none, seqAt := none }
    let i := qpStream q
    let k : QKind := .cmd w.pkt.ackReq
    let answer (s : State) (a : Ans) : State :=
      let (s2, id) := s.qpPush q { psn := w.pkt.psn, kind := k, port := w.port, mark := w.mark, buf := w.buf }
      s2.qpAnswered q id a
    let named := s1.cmdStream q (f 4 3)
    if op = 1 then
      let (s2, id) := s1.qpPush q { psn := w.pkt.psn, kind := k, port := w.port, mark := w.mark, buf := w.buf }
      s2.closeArrive i (.roce q id) (f 2 2 % 4096) (bitOf (f 1 1) 0) (bitOf (f 1 1) 1) false
    else if op = 2 then
      answer s1 (match named with | some j => .status ((s1.stream j).query (f 2 2 % 4096)) | none => .status 0xC)
    else if op = 3 then
      match s1.winCheck x.host (f 16 4) (f 8 8) 1 (·.1) with
      | .error r => (s1.setQp q x).winDeny.qpNak q w 0x62 r
      | .ok (lpa, _) =>
        let (s2, id) := s1.qpPush q { psn := w.pkt.psn, kind := k, port := w.port, mark := w.mark, buf := w.buf }
        s2.queryAsk (.roce q id) i (lpa / 128) (64 + q) 4096
    else if op = 4 then
      answer s1 (match named with | some j => s1.reportRead j (f 20 4 % 2 ^ 17) | none => .status 0xC)
    else if op = 5 then
      match named with
      | none => answer s1 (.status 0xC)
      | some j =>
        match (s1.stream j).report with
        | none => answer s1 (.status 0xC)
        | some rep =>
          if rep.building then answer s1 (.status 0xA)
          else answer ((s1.releaseReport j).mirror_ (.epoch j 2 0 false false false rep.epoch)) .ok
    else answer s1 .ok

/-! ### One packet -/

/-- Opcode and lengths (R259, R280): the sequence of First, Middle and Last, full packets before the last. -/
def Qp.pktOk (x : Qp) (w : QWait) : Bool :=
  let m := mtuBytes x.pmtu
  let n := w.pkt.payload.length
  match x.wr with
  | some (_, left, _, _) =>
    if w.op = 7 then n == m && decide (left > m) else (w.op == 8 || w.op == 9) && n == left && decide (n ≤ m)
  | none =>
    if w.op = 4 then true
    else if w.op = 6 then n == m && decide (w.pkt.len > m ∧ w.pkt.len ≤ 2 ^ 31)
    else if w.op = 10 ∨ w.op = 11 then n == w.pkt.len && decide (n ≤ m)
    else if w.op = 12 then decide (w.pkt.len ≤ 2 ^ 31)
    else w.op == 0x13 || w.op == 0x14

/-- A packet with the expected PSN. -/
def State.qpNew (s : State) (q : Nat) (w : QWait) : QStep :=
  if !(s.qp q).pktOk w then .done (s.qpNak q w 0x61 rsFORMAT)
  else if w.op = 4 then .done (s.qpCommand q w)
  else if w.op = 12 then s.qpRead q w false
  else if w.op = 0x13 ∨ w.op = 0x14 then s.qpAtomic q w
  else s.qpWritePkt q w

/-- A duplicate (R282). -/
def State.qpDup (s : State) (q : Nat) (w : QWait) : QStep :=
  let s0 := s.bump rNRE_CNT_DUP
  if w.op = 12 then s0.qpRead q w true
  else if w.op = 0x13 ∨ w.op = 0x14 then
    match (s.qp q).recs.find? (fun e => e.1 == w.pkt.psn) with
    | some (_, some b) => .done (s0.qpSay q w .atomic (some (.data b false false)) w.pkt.psn)
    | some (_, none) => .done (s0.giveBuf w.port w.buf)
    | none => .done (s0.qpNak q w 0x61 0)
  else .done (((s0.bump rEPO_CNT_DUP).raise 0x175).qpSay q w (.ack true) (some .ok) w.pkt.psn)

/-- Processes a packet whose context is at hand (R281). One with the expected PSN ends what R281 and R290 hold of it. -/
def State.qpRun (s : State) (q : Nat) (w : QWait) : QStep :=
  let x := s.qp q
  let d := (w.pkt.psn + 2 ^ 24 - x.epsn) % 2 ^ 24
  if x.st ≠ 2 ∨ x.out.any (fun o => match o.kind with | .nak .. => true | _ => false) then .done (s.giveBuf w.port w.buf)
  else if d = 0 then (s.setQp q { x with seqAt := none, rnr := none }).qpNew q w
  else if d < 2 ^ 23 then
    (if x.rnr.isSome || (match x.seqAt with | some t => decide (s.timeUs < t + 20) | none => false) then
       .done (s.giveBuf w.port w.buf)
     else .done (((s.setQp q { x with seqAt := some s.timeUs }).bump rNRE_CNT_SEQ_NAK).qpSay q w .seqNak none x.epsn))
  else s.qpDup q w

/-- A packet is held up by a write of its queue pair that has not been applied (R274, R280): one that waits for the budget or a
way; and, for a READ, one that a close holds back. -/
def State.qpBusy (s : State) (q op : Nat) : Bool :=
  let r := s.stream (qpStream q)
  !r.queue.isEmpty && (r.st == .opened || op == 12)

/-- Packets leave the miss buffer in arrival order until one waits (R285). -/
def State.missPump (s : State) (q : Nat) : Nat → State
  | 0 => s
  | n + 1 =>
    let x := s.qp q
    match x.waiting with
    | [] => s
    | w :: t =>
      if !s.carded q ∨ s.qpBusy q w.op then s
      else
        match (s.setQp q { x with waiting := t }).qpRun q w with
        | .done s1 => s1.missPump q n
        | .wait s1 => s1.setQp q { s1.qp q with waiting := w :: (s1.qp q).waiting, stall := true }

/-- Packets in a port's miss buffer. -/
def State.missCount (s : State) (e : Nat) : Nat :=
  s.nre.qps.foldl (fun a x => a + (x.2.waiting.filter (fun w => w.port == e)).length) 0

/-- A packet enters its port's miss buffer, or is dropped (R285): 64 packets, and a buffer of the port's minimum. -/
def State.missAdd (s : State) (q : Nat) (w : QWait) (front : Bool) : State :=
  let o := 0x20 + w.port
  let room := match s.ptrFind w.buf with | .ok (p, _) => decide (s.inUse o p ≤ s.ownerMin o p) | .error _ => true
  if s.missCount w.port ≥ 64 ∨ !room then ((s.giveBuf w.port w.buf).bump rNRE_CNT_MISS_DROP).raise 0x2C1
  else
    let x := s.qp q
    s.setQp q { x with waiting := if front then w :: x.waiting else x.waiting ++ [w], stall := x.stall || front }

/-- A CNP for a packet marked CE (R266). -/
def State.cnp (s : State) (q e : Nat) : State :=
  let x := s.qp q
  let due := match x.cnpAt with | some t => decide (t + s.fld fNRE_CNP_INTERVAL_US ≤ s.timeUs) | none => true
  if !s.flag fNRE_CNP_EN ∨ !due then s
  else ((s.setQp q { x with cnpAt := some s.timeUs }).ethSend e (s.dscpMark e (s.fld fNRE_CNP_DSCP)) (.roce q 0x81 0 0 [])).bumpFld fNRE_CNT_CNP_TX

/-- The queue pair enters RTS and its stream opens as the REP announced (R66, R270, R273). -/
def State.enterRts (s : State) (q : Nat) : State :=
  let x := s.qp q
  let i := qpStream q
  let s1 := (s.setQp q { x with st := 2 }).openEpoch i x.mode x.host (q % 4096) 0xFFF
  s1.mirror_ (.epoch i 0 0 x.mode false false (s1.stream i).epoch)

/-- NAK Invalid Request on a circulation queue pair, which takes no requests (R301). -/
def State.qpSayRaw (s : State) (q e : Nat) (m : Mark) (psn : Nat) : State :=
  (s.spend (s.cs (q - 1048576)).tenant 5 1).ethSend e m (.roce q 0x11 psn (0x61 + 256 * (s.qp q).msn) [])

/-- A packet of a client queue pair arrives at a port (R267, R280, R284, R285, R294). -/
def State.roceArrive (s : State) (e op : Nat) (p : RPkt) : State :=
  if !s.nreServes e then s
  else
    match s.takeFrame e (p.payload.length + 62) (some 0) with
    | (s1, none) => s1
    | (s1, some (mark, buf)) =>
      let drop (s : State) : State := s.giveBuf e buf
      let s2 := (s1.bump rNRE_CNT_RX_PKT).spend (s1.stream (qpStream (p.qpn - 0x100000))).tenant 5 1
      if p.icrcBad then drop ((s2.bump rNRE_CNT_ICRC).raise 0x2C3)
      else
        match s2.addrOn e p.dst with
        | none => drop s2
        | some a =>
          let q := p.qpn - 0x100000
          let x := s2.qp q
          if x.circ ∧ x.st = 2 ∧ (!a.floating ∨ s2.floatsHere) then
            drop ((s2.qpSayRaw q e mark p.psn).cirError (q - 1048576))
          else if (a.floating ∧ !s2.floatsHere) ∨ p.qpn < 0x100000 ∨ q ≥ 1048576 ∨ x.st = 0 then
            drop (s2.bump rNRE_CNT_UNKNOWN_QP)
          else if x.st = 3 ∨ (x.st = 1 ∧ p.psn ≠ x.epsn) then drop s2
          else
            let s3 := if x.st = 1 then (s2.enterRts q).async 7 0xFF p.qpn x.host 0 false else s2
            let s4 := if p.ce then s3.cnp q e else s3
            let w : QWait := { port := e, mark := mark, buf := buf, op := op, pkt := p }
            if !s4.carded q then
              let s5 := if s4.nre.fetching.contains q then s4
                else ({ s4 with nre := { s4.nre with fetching := s4.nre.fetching ++ [q] } }).bump rNRE_CNT_CI_MISS
              s5.missAdd q w false
            else
              let s5 := (s4.card q).1
              if !(s5.qp q).waiting.isEmpty ∨ s5.qpBusy q op then s5.missAdd q w false
              else match s5.qpRun q w with
                | .done s6 => s6
                | .wait s6 => s6.missAdd q w true

end Sys2Proof.Machine
end

