-- ==== Sys2Proof/Machine/NreRows.lean ====
section
/-! DEFINITION. The commands of ETH and NRE (R259 to R294). -/

namespace Sys2Proof.Machine

/-! ### Frames and ports -/

/-- An Ethernet frame arrives (R259, R262, R352): `len` bytes with FCS, its PCP if tagged, its DSCP if it is an IP packet,
the FEC's corrections and failures. -/
def execEthFrameReceive (port len : Nat) (fcsOk : Bool) (pcp dscp : Option Nat) (kind : FrameKind) (fixed bad : Nat)
    (s : State) : Host.Outcome State Fault Refusal :=
  let s0 := (s.bumpBy (rETH_P_FEC_CORR + ethSub port) fixed).bumpBy (rETH_P_FEC_UNCORR + ethSub port) bad
  let s1 := s0.raiseN (ethSrc port 4) bad
  finish (if !(s.ethPort port).up then s
    else
      let s2 := s1.bump (rETH_P_RX + ethSub port)
      if !fcsOk then (s2.bump (rETH_P_FCS + ethSub port)).raise (ethSrc port 5)
      else if len < 64 ∨ len > min 9216 (s2.fld (fETH_MAXFRAME_BYTES.plus (ethOff port))) then s2.ethDrop port
      else
        match kind with
        | .pause => s2.bump (rETH_P_PAUSE_IGN + ethSub port)
        | .unsupported => s2.ethDrop port
        | k =>
          let m := s2.frameMark port pcp dscp
          match s2.ethBuffer port m.prio len with
          | (s3, none) => s3
          | (s3, some b) =>
            let s4 := s3.setEthPort port { s3.ethPort port with frames := (s3.ethPort port).frames ++ [(m, b)] }
            match k with
            | .opcode op p => s4.roceArrive port op p
            | _ => s4)

/-- A PFC frame (R263): the priorities it names, with their quanta; quanta of 0 end a pause. -/
def execPfcFrame (port : Nat) (quanta : List (Nat × Nat)) (s : State) : Host.Outcome State Fault Refusal :=
  finish (if !(s.ethPort port).up then s
    else
      let s1 := s.bumpFld (fETH_P_PFC_RX.plus (ethSub port))
      let p := s1.ethPort port
      let heard := quanta.filter (fun x => decide (x.1 < 8) && bitOf (s1.fld (fETH_PFC_RX_EN.plus (ethOff port))) x.1 && !p.wd.contains x.1)
      let s2 := s1.setEthPort port { p with
        paused := heard.foldl (fun l x => if x.2 = 0 ∨ l.contains x.1 then l else l ++ [x.1]) p.paused }
      s2.ethResume port ((heard.filter (fun x => x.2 == 0)).map (·.1)))

/-- The quanta of a priority have run out (R263): what was held leaves. -/
def execPfcPauseExpiry (port prio : Nat) (s : State) : Host.Outcome State Fault Refusal :=
  let p := s.ethPort port
  finish (if !p.paused.contains prio then s
    else s.ethResume port [prio])

/-- A priority has been paused for WD_MS (R264): pause is ignored from now on and what cannot be sent is dropped. -/
def execPfcWatchdogTrigger (port prio : Nat) (s : State) : Host.Outcome State Fault Refusal :=
  let p := s.ethPort port
  finish (if s.fld (fETH_PFC_WD_MS.plus (ethOff port)) = 0 ∨ !p.paused.contains prio then s
    else
      let n := (p.held.filter (fun h => h.1 == prio)).length
      let s1 := s.setEthPort port { p with
        paused := p.paused.filter (· != prio)
        held := p.held.filter (fun h => h.1 != prio)
        wd := p.wd ++ [prio] }
      ((s1.bumpBy (rETH_P_DROP + ethSub port) n).raise (ethSrc port 6)).note 0x412 [port, prio])

/-- 100 ms without a pause frame for the priority (R264). -/
def execPfcWatchdogRecover (port prio : Nat) (s : State) : Host.Outcome State Fault Refusal :=
  finish (s.setEthPort port { s.ethPort port with wd := (s.ethPort port).wd.filter (· != prio) })

/-- A port comes up (R260, R293). -/
def execEthPortUp (port : Nat) (s : State) : Host.Outcome State Fault Refusal :=
  finish (if !s.ethEnabled port ∨ !s.ports ∨ !bitOf s.cru.refOk 1 ∨ (s.ethPort port).up then s
    else
      let m := s.ethMode port
      let s1 := (s.laneTrained (64 + port) (modeLanes m (port % 4))).setEthPort port { up := true }
      ({ s1 with eth := { s1.eth with modes := Tab.set (fun _ => 0) s1.eth.modes (port / 4) m } }).async 1 port 0 0xFFF 0 false)

/-- A port goes down: record 0x410 with its cause, PORT_ERR (R293); what it held is lost. -/
def State.ethDown (s : State) (port cause : Nat) : State :=
  let p := s.ethPort port
  if !p.up then s
  else
    let s1 := (p.frames.map (·.2)).foldl (fun s b => s.bpmReturn b (0x20 + port)) s
    ((s1.setEthPort port {}).note 0x410 [port, Config.itemCode 0x410 1 0, cause]).async 2 port 0 0xFFF 0 false

/-- An Ethernet port goes down. -/
def execEthPortDown (port cause : Nat) (s : State) : Host.Outcome State Fault Refusal := finish (s.ethDown port cause)

/-- A request that the unit answers for an address it holds, or not at all (R267). -/
def State.netAnswer (s : State) (port addr : Nat) (what : String) (dscp : Option Nat) : State :=
  match s.takeFrame port 64 dscp with
  | (s1, none) => s1
  | (s1, some (m, b)) =>
    (if s1.answersFor port addr then s1.ethSend port m (.eth port what addr) else s1).bpmReturn b (0x20 + port)

/-- ARP request. -/
def execArpRequest (port target : Nat) (s : State) : Host.Outcome State Fault Refusal :=
  finish (if (s.ethPort port).up then s.netAnswer port target "ARP" none else s)

/-- IPv6 neighbour solicitation. -/
def execNeighborSolicit (port target : Nat) (s : State) : Host.Outcome State Fault Refusal :=
  finish (if (s.ethPort port).up then s.netAnswer port target "NA" (some 0) else s)

/-- ICMP and ICMPv6 echo request. -/
def execIcmpEcho (port dst : Nat) (s : State) : Host.Outcome State Fault Refusal :=
  finish (if (s.ethPort port).up then s.netAnswer port dst "echo" (some 0) else s)

/-- 100 ms and 1 s after a token gain (R268). -/
def execGratuitousArpTimer (s : State) : Host.Outcome State Fault Refusal :=
  finish (if s.ports ∧ s.floatsHere then s.announce else s)

/-! ### Connections -/

/-- A CM message or a CNP arrives (R259, R267): counted as a RoCE packet, dropped unless it is addressed to the unit. Answers
how it is marked, as its answer is (R262). -/
def State.cmArrive (s : State) (port dst : Nat) : State × Option Mark :=
  if !s.nreServes port then (s, none)
  else
    match s.takeFrame port 320 (some 0) with
    | (s1, none) => (s1, none)
    | (s1, some (m, b)) =>
      let s2 := (s1.bump rNRE_CNT_RX_PKT).bpmReturn b (0x20 + port)
      match s2.addrOn port dst with
      | none => (s2, none)
      | some a => if a.floating ∧ !s2.floatsHere then (s2.bump rNRE_CNT_UNKNOWN_QP, none) else (s2, some m)

/-- The host whose valid entry holds an address; the lower ID of two (R269). -/
def State.hostOf (s : State) (a : Nat) : Option Nat := (s.nre.hosts.find? (fun h => h.2 == a + 1)).map (·.1)

/-- The lowest q of which `ok` holds. -/
def lowestQ (ok : Nat → Bool) : Nat → Nat → Option Nat
  | 0, _ => none
  | n + 1, i => if ok i then some i else lowestQ ok n (i + 1)

/-- The queue pair a connection gets (R271). -/
def State.pickQp (s : State) (host : Nat) : Option Nat :=
  let st (q : Nat) : StreamSt := (s.stream (qpStream q)).st
  let free (q : Nat) : Bool := (s.qp q).st == 0 && st q != .reported && st q != .closing
  let low := (s.nre.qps.filter (fun x => x.2.st != 0 && x.2.host == host)).map (·.1 % 4096)
  match lowestQ (fun q => free q && !low.contains (q % 4096)) 1048576 0 with
  | some q => some q
  | none => lowestQ free 1048576 0

/-- Rejects a connection request. -/
def State.cmReject (s : State) (port : Nat) (m : Mark) (comm reason : Nat) : State :=
  (s.ethSend port m (.cm "REJ" comm reason 0)).raise 0x2C7

/-- A CM REQ (R270, R271): the sender's address, communication ID, QPN and starting PSN, service ID, path MTU, transport
RC. -/
def execCmReq (port dst src comm qpn psn0 sid mtu : Nat) (rc : Bool) (s : State) : Host.Outcome State Fault Refusal :=
  finish (match s.cmArrive port dst with
    | (s1, none) => s1
    | (s1, some m) =>
      match s1.hostOf src with
      | none => s1.cmReject port m comm 28
      | some h =>
        if sid ≠ s1.fld fNRE_SID_LO_V + s1.fld fNRE_SID_HI_V * 2 ^ 32 ∨ !rc then s1.cmReject port m comm 28
        else
          match s1.pickQp h with
          | none => s1.cmReject port m comm 1
          | some q =>
            let psn := (s1.count rNRE_CNT_RX_PKT).toNat % 2 ^ 24
            let pm := min mtu (min 2 (s1.fld fNRE_MTU_MAX))
            let mode := s1.flag fEPO_CTRL_ROCE_MODE
            let s2 := s1.setQp q { st := 1, epsn := psn0 % 2 ^ 24, dest := qpn, host := h, pmtu := pm, mode := mode }
            let s3 := (s2.card q).1
            let ep := ((s3.stream (qpStream q)).epoch + 1) % 4096
            s3.ethSend port m (.cmRep comm (0x100000 + q) psn pm 16 0 (leBytes 2 ep ++ leBytes 1 (b2n mode) ++ leBytes 5 0)))

/-- A client queue pair in CONNECTING, by its number. -/
def State.connecting (s : State) (q : Nat) : Bool := (s.qp q).st == 1 && !(s.qp q).circ

/-- RTU (R270): RTS, and the stream opens. -/
def execCmRtu (port dst q : Nat) (s : State) : Host.Outcome State Fault Refusal :=
  finish (match s.cmArrive port dst with
    | (s1, none) => s1
    | (s1, some _) => if s1.connecting q then s1.enterRts q else s1)

/-- 1 s after REP without RTU or a valid packet (R270). -/
def execCmRtsTimeout (q : Nat) (s : State) : Host.Outcome State Fault Refusal :=
  finish (if s.connecting q then s.freeQp q else s)

/-- Frees a client queue pair: an open epoch that holds writes is reported, CAUSE 3 (R272). -/
def State.endQp (s : State) (q : Nat) : State := (s.faultEpoch (qpStream q) 3 true).freeQp q

/-- DREQ (R272, R291). -/
def execCmDreq (port dst q : Nat) (s : State) : Host.Outcome State Fault Refusal :=
  finish (match s.cmArrive port dst with
    | (s1, none) => s1
    | (s1, some m) =>
      if (s1.qp q).circ ∧ (s1.qp q).st = 2 then (s1.cirError (q - 1048576)).ethSend port m (.cm "DREP" (0x100000 + q) 0 0)
      else if (s1.qp q).st = 0 then s1.bump rNRE_CNT_UNKNOWN_QP
      else (s1.endQp q).ethSend port m (.cm "DREP" (0x100000 + q) 0 0))

/-- REJ from the active side: a connection that is not yet in RTS goes. -/
def execCmRej (port dst q : Nat) (s : State) : Host.Outcome State Fault Refusal :=
  finish (match s.cmArrive port dst with
    | (s1, none) => s1
    | (s1, some _) => if s1.connecting q then s1.freeQp q else s1)

/-- MRA: received and counted; R270's 1 s stands. -/
def execCmMra (port dst q : Nat) (s : State) : Host.Outcome State Fault Refusal :=
  let _ := q
  finish (s.cmArrive port dst).1

/-! ### Packets -/

/-- RDMA WRITE First. -/
def execRdmaWriteFirst (port : Nat) (p : RPkt) (s : State) : Host.Outcome State Fault Refusal := finish (s.roceArrive port 0x06 p)
/-- RDMA WRITE Middle. -/
def execRdmaWriteMiddle (port : Nat) (p : RPkt) (s : State) : Host.Outcome State Fault Refusal := finish (s.roceArrive port 0x07 p)
/-- RDMA WRITE Last. -/
def execRdmaWriteLast (port : Nat) (p : RPkt) (s : State) : Host.Outcome State Fault Refusal := finish (s.roceArrive port 0x08 p)
/-- RDMA WRITE Last with Immediate. -/
def execRdmaWriteLastImm (port : Nat) (p : RPkt) (s : State) : Host.Outcome State Fault Refusal := finish (s.roceArrive port 0x09 p)
/-- RDMA WRITE Only. -/
def execRdmaWriteOnly (port : Nat) (p : RPkt) (s : State) : Host.Outcome State Fault Refusal := finish (s.roceArrive port 0x0A p)
/-- RDMA WRITE Only with Immediate. -/
def execRdmaWriteOnlyImm (port : Nat) (p : RPkt) (s : State) : Host.Outcome State Fault Refusal := finish (s.roceArrive port 0x0B p)
/-- RDMA READ Request. -/
def execRdmaReadRequest (port : Nat) (p : RPkt) (s : State) : Host.Outcome State Fault Refusal := finish (s.roceArrive port 0x0C p)
/-- CmpSwap. -/
def execCmpSwap (port : Nat) (p : RPkt) (s : State) : Host.Outcome State Fault Refusal := finish (s.roceArrive port 0x13 p)
/-- FetchAdd. -/
def execFetchAdd (port : Nat) (p : RPkt) (s : State) : Host.Outcome State Fault Refusal := finish (s.roceArrive port 0x14 p)

/-- A SEND Only whose payload is not another of the six commands. -/
def State.roceCommand (s : State) (port : Nat) (p : RPkt) (op : Nat) : State :=
  let o := ((p.payload.head?).map BitVec.toNat).getD 0
  if p.payload.length = 32 ∧ o ≠ op ∧ 1 ≤ o ∧ o ≤ 6 then s else s.roceArrive port 0x04 p

/-- Command CLOSE. -/
def execRoceCmdClose (port : Nat) (p : RPkt) (s : State) : Host.Outcome State Fault Refusal := finish (s.roceCommand port p 1)
/-- Command QUERY_STATE. -/
def execRoceCmdQueryState (port : Nat) (p : RPkt) (s : State) : Host.Outcome State Fault Refusal := finish (s.roceCommand port p 2)
/-- Command QUERY_LINE. -/
def execRoceCmdQueryLine (port : Nat) (p : RPkt) (s : State) : Host.Outcome State Fault Refusal := finish (s.roceCommand port p 3)
/-- Command QUERY_REPORT. -/
def execRoceCmdQueryReport (port : Nat) (p : RPkt) (s : State) : Host.Outcome State Fault Refusal := finish (s.roceCommand port p 4)
/-- Command RELEASE. -/
def execRoceCmdRelease (port : Nat) (p : RPkt) (s : State) : Host.Outcome State Fault Refusal := finish (s.roceCommand port p 5)
/-- Command NOP. -/
def execRoceCmdNop (port : Nat) (p : RPkt) (s : State) : Host.Outcome State Fault Refusal := finish (s.roceCommand port p 6)

/-- A context fetch is done (R284, R285): the context is in the card index, if one can leave it, and its packets follow. -/
def execContextFetchDone (q : Nat) (s : State) : Host.Outcome State Fault Refusal :=
  finish (if !s.nre.fetching.contains q then s
    else
      match s.card q with
      | (s1, false) => s1
      | (s1, true) =>
        ({ s1 with nre := { s1.nre with fetching := s1.nre.fetching.filter (· != q) } }).missPump q
          ((s1.qp q).waiting.length))

/-- The folios of a stalled packet are resident (R288), or its queue pair's writes have got their budget (R280). -/
def execQpStallRelease (q : Nat) (s : State) : Host.Outcome State Fault Refusal :=
  finish (if (s.qp q).waiting.isEmpty then s else s.missPump q ((s.qp q).waiting.length))

/-- 10 s after an error without DREQ (R291). -/
def execQpErrorFreeTimeout (q : Nat) (s : State) : Host.Outcome State Fault Refusal :=
  finish (if (s.qp q).st = 3 ∧ !(s.qp q).circ then s.freeQp q else s)

end Sys2Proof.Machine
end

