-- ==== Sys2Proof/Machine/CirRows.lean ====
section
/-! DEFINITION. The commands of circulation (R301 to R313), its services apart. -/

namespace Sys2Proof.Machine

/-- A consumer's CM REQ to CIR_SID (R301): ring and stream in its private data. -/
def execCirConsumerReq (port dst src comm qpn sid mtu stream slots va rkey : Nat) (rc : Bool) (s : State) :
    Host.Outcome State Fault Refusal :=
  finish (match s.cmArrive port dst with
    | (s1, none) => s1
    | (s1, some mk) =>
      let x := s1.cs stream
      if sid ≠ s1.fld fCIR_SID_LO_V + s1.fld fCIR_SID_HI_V * 2 ^ 32 ∨ !rc ∨ stream ≥ 256 ∨ x.st ≠ 1
        ∨ s1.hostOf src ≠ some x.host ∨ slots < 2 ∨ slots > 65536 then s1.cmReject port mk comm 28
      else
        let q := cirQ stream
        let psn := (s1.count rNRE_CNT_RX_PKT).toNat % 2 ^ 24
        let m := min mtu (min 2 (s1.fld fNRE_MTU_MAX))
        let s2 := s1.setQp q { st := 2, circ := true, epsn := psn, dest := qpn, host := x.host, pmtu := m }
        let s3 := (s2.card q).1
        let s4 := s3.ethSend port mk (.cmRep comm (0x100000 + q) psn m 0 16 [])
        (s4.setCs stream { x.rearm with
          conn := true
          port := port
          slots := slots
          va := va
          rkey := rkey
          psn := psn }).cirStart stream true)

/-- A tile has its 16 folios in the desk (R305). -/
def execTileFetchDone (stream : Nat) (s : State) : Host.Outcome State Fault Refusal :=
  let x := s.cs stream
  finish (match x.tiles.find? (fun t => !t.whole && decide (t.parts.length = 16)) with
    | none => s
    | some t => s.setCs stream { x with tiles := x.tiles.map (fun u => if u.n = t.n then { u with whole := true } else u) })

/-- The payload of a whole tile. -/
def CirTile.bytes (t : CirTile) : List Byte := (upTo 16).flatMap (fun k => Tab.get (fun _ => []) t.parts k)

/-- The stream sends its next tile (R303, R304), or waits: for a ring slot, or because the tile is late (R307). -/
def execCirTileSend (stream : Nat) (s : State) : Host.Outcome State Fault Refusal :=
  let x := s.cs stream
  let n := x.sendN
  let atEnd : Bool := match x.limit with | some (m, _, _) => decide (m ≤ n) | none => false
  finish (if x.st ≠ 2 ∨ atEnd ∨ x.rnr.isSome ∨ !s.cirOn stream then s
    else if n - x.freed ≥ x.slots then s
    else
      match x.tiles.find? (fun t => t.n == n && t.whole) with
      | some t =>
        let m := mtuBytes (s.qp (cirQ stream)).pmtu
        let s1 := (s.spend x.tenant 6 1).setCs stream { x with
          sendN := n + 1
          late := x.tileLate
          tileLate := false
          lateLong := false
          entry := t.entry }
        (s1.cirPut stream (65536 / m) (.tile n)
          (fun p => .rdmaWrite (cirQ stream) p (65536 / m) (x.va + 4096 + n % x.slots * 65536) x.rkey none t.bytes)).cirRun stream
      | none =>
        if x.tileLate then s
        else (s.setCs stream { x with late := true, tileLate := true, lateBatch := true, lateLong := false }).bump rCIR_CNT_LATE)

/-- An ACK that covers a PSN (R304): tiles are acknowledged and PRODUCED is written. -/
def execCirTileAck (stream psn : Nat) (s : State) : Host.Outcome State Fault Refusal :=
  finish (if (s.cs stream).conn then ((s.bump rNRE_CNT_RX_PKT).cirAck stream (s.cs stream).out.length psn).cirAfter stream else s)

/-- FREED is read while the ring is full (R303). -/
def execFreedPoll (stream : Nat) (s : State) : Host.Outcome State Fault Refusal :=
  let x := s.cs stream
  let due : Bool := match x.pollAt with | some t => decide (t + max 1 (s.fld fCIR_POLL_US) ≤ s.timeUs) | none => true
  finish (if x.st ≠ 2 ∨ !s.cirOn stream ∨ x.sendN - x.freed < x.slots ∨ x.out.any (fun m => m.what == .freed) ∨ !due then s
    else (s.setCs stream { x with pollAt := some s.timeUs }).cirPut stream 1 .freed
      (fun p => .rdmaRead (cirQ stream) p x.va x.rkey 8))

/-- The value of FREED arrives (R303). -/
def execFreedReadResponse (stream value : Nat) (s : State) : Host.Outcome State Fault Refusal :=
  let x := s.cs stream
  finish (match x.out.find? (fun m => m.what == .freed) with
    | none => s
    | some m =>
      let s1 := (s.bump rNRE_CNT_RX_PKT).cirAck stream x.out.length m.psn
      let s2 := s1.setCs stream { s1.cs stream with freed := value % 2 ^ 64 }
      let y := s2.cs stream
      (if y.sendN - y.freed ≥ y.slots then s2.bump rCIR_CNT_RING_FULL else s2).cirAfter stream)

/-- KEEPALIVE_MS with no tile in flight: TICK rises (R304). -/
def execTickKeepalive (stream : Nat) (s : State) : Host.Outcome State Fault Refusal :=
  let x := s.cs stream
  finish (if !x.conn ∨ !s.cirOn stream ∨ x.out.any (fun m => match m.what with | .tile _ => true | _ => false) then s
    else (s.setCs stream { x with tick := (x.tick + 1) % 2 ^ 64 }).cirPut stream 1 .tick
      (fun p => .rdmaWrite (cirQ stream) p 1 (x.va + 16) x.rkey none (leBytes 8 (x.tick + 1))))

/-- A late tile has waited beyond CIR_LATE.US (R307). -/
def execLateWaitTimeout (stream : Nat) (s : State) : Host.Outcome State Fault Refusal :=
  let x := s.cs stream
  finish (if !x.tileLate ∨ x.lateLong then s
    else ((s.setCs stream { x with lateLong := true, lateWaits := satInc 4095 x.lateWaits }).bump rCIR_CNT_LATE_EVT).raise 0x341)

/-- The completion write is acknowledged (R308). -/
def execCompletionAck (stream : Nat) (s : State) : Host.Outcome State Fault Refusal :=
  finish (if (s.cs stream).st = 3 ∧ (s.cs stream).out.any (fun m => m.what == .completion) then
    (s.bump rNRE_CNT_RX_PKT).cirComplete stream else s)

/-- The queue pair of a stream enters error (R309). -/
def execCirQpError (stream : Nat) (s : State) : Host.Outcome State Fault Refusal :=
  finish (if (s.cs stream).conn then s.cirError stream else s)

/-- RECOVER_US without a CNP: the rate rises by 1 GB/s, up to RATE (R309). -/
def execCirRateRecover (stream : Nat) (s : State) : Host.Outcome State Fault Refusal :=
  let x := s.cs stream
  finish (match x.cur with
    | none => s
    | some c => s.setCs stream { x with cur := some (if x.rate = 0 then c + 10 else min x.rate (c + 10)) })

/-- A NAK with its AETH syndrome (R308, R309): RNR waits for its timer, a sequence error resends, any other ends the
connection. -/
def execCirNak (stream psn syn : Nat) (s : State) : Host.Outcome State Fault Refusal :=
  finish (if !(s.cs stream).conn then s
    else
      let s1 := (s.bump rNRE_CNT_RX_PKT).cirAck stream (s.cs stream).out.length ((psn + 2 ^ 24 - 1) % 2 ^ 24)
      let x := s1.cs stream
      if syn / 32 = 1 then s1.setCs stream { x with rnr := some psn }
      else if syn = 0x60 then
        (if x.tries = 0 then s1.cirError stream else (s1.setCs stream { x with tries := x.tries - 1 }).cirResend stream psn)
      else s1.cirError stream)

/-- The RNR timer has run out: everything from the NAKed PSN is sent again, without limit (R308). -/
def execCirRnrRetry (stream : Nat) (s : State) : Host.Outcome State Fault Refusal :=
  let x := s.cs stream
  finish (match x.rnr with
    | none => s
    | some p => (s.setCs stream { x with rnr := none }).cirResend stream p)

/-- The ACK timeout expires (R309): unacknowledged packets are sent again while retries remain. -/
def execCirAckTimeout (stream : Nat) (s : State) : Host.Outcome State Fault Refusal :=
  let x := s.cs stream
  finish (match x.out with
    | [] => s
    | m :: _ =>
      if x.tries = 0 then s.cirError stream
      else (s.setCs stream { x with tries := x.tries - 1 }).cirResend stream m.psn)

/-- A CNP arrives (R266, R309): on a circulation queue pair the current rate is cut, with a floor of 1 GB/s. Without a
cap the manual gives no current rate before the first cut. -/
def execCnpReceived (port dst qpn : Nat) (s : State) : Host.Outcome State Fault Refusal :=
  finish (match s.cmArrive port dst with
    | (s0, none) => s0
    | (s0, some _) =>
      let s1 := s0.bumpFld fNRE_CNT_CNP_RX
      let i := qpn - 0x200000
      let x := s1.cs i
      if qpn < 0x200000 ∨ i ≥ 256 ∨ !x.conn then s1
      else
        let now := match x.cur with
          | some c => c
          | none => if x.rate = 0 then (Config.freeWord s1.freeCtr).toNat else x.rate
        (s1.setCs i { x with cur := some (max 10 (now * (256 - s1.fld fCIR_CNP_CUT) / 256)) }).tickFree)

end Sys2Proof.Machine
end

