-- ==== Sys2Proof/Machine/SbbOps.lean ====
section
/-! DEFINITION. The controllers of the sideband buses (R471 to R479): channels, transactions and the idle check. -/

namespace Sys2Proof.Machine

/-- A sideband channel at a Block reset (R479, R478): its transactions are ABORTED, and an enabled one checks its bus. -/
def SbCh.aborted (c : SbCh) (on : Bool) : SbCh :=
  { st := if on then 1 else 0
    scl := c.scl
    sda := c.sda
    last := if c.run.isSome ∨ !c.queue.isEmpty then some .aborted else c.last }

def State.sbCh (s : State) (n : Nat) : SbCh := Tab.get (fun _ => {}) s.sbb.chs n
def State.setSbCh (s : State) (n : Nat) (c : SbCh) : State :=
  { s with sbb := { s.sbb with chs := Tab.set (fun _ => {}) s.sbb.chs n c } }

/-- EN of a sideband channel. -/
def State.sbOn (s : State) (n : Nat) : Bool := s.flag (fSBB_CH_CFG_EN.plus (0x20 * n))

/-- The channels that follow their EN bits (R478, R479): an enabled one that was OFF runs the idle check, one that is
disabled ends its transactions. -/
def State.sbSync (s : State) : State :=
  (upTo 4).foldl (fun s n =>
    let c := s.sbCh n
    if s.sbOn n ∧ c.st = 0 then s.setSbCh n { c with st := 1 }
    else if !s.sbOn n ∧ c.st ≠ 0 then
      (if c.run.isSome then s.emit (.sbStop n) else s).setSbCh n (c.aborted false)
    else s) s

/-- A register or field of a channel. -/
def sbOff (n : Nat) : Nat := 0x20 * n

/-- An interrupt source of a channel (R482). -/
def sbSrc (n off : Nat) : Nat := 0x3A0 + 4 * n + off

/-- Adds 1 several times to a half of a counter register. -/
def State.bumpFldN (s : State) (f : Fld) : Nat → State
  | 0 => s
  | k + 1 => (s.bumpFld f).bumpFldN f k

/-- A transaction's end on a channel that is left in state `st` (R479): what it counts. -/
def State.sbEnd (s : State) (n : Nat) (e : SbEnd) (st : Nat) : State :=
  let s1 := s.setSbCh n { s.sbCh n with st := st, run := none, last := some e }
  match e with
  | .ok => s1.bump (rSBB_CH_CNT_XFER + sbOff n)
  | .nack => (s1.bumpFld (fSBB_CH_CNT_ERR_NACK.plus (sbOff n))).raise (sbSrc n 1)
  | .timeout => (s1.bumpFld (fSBB_CH_CNT_ERR_TIMEOUT.plus (sbOff n))).raise (sbSrc n 1)
  | .pec => s1.raise (sbSrc n 1)
  | _ => s1

/-- Runs a transaction on an idle bus (R476): each lost arbitration counts, more than RETRIES of them end it with ARB; one that a
target holds up stays BUSY. -/
def State.sbRun (s : State) (n : Nat) (t : SbTx) : State :=
  let tries := s.fld (fSBB_CH_CFG_RETRIES.plus (sbOff n)) + 1
  let lost := min t.lost tries
  let s1 := (s.bumpFldN (fSBB_CH_CNT_ARB_LOST.plus (sbOff n)) lost).raiseN (sbSrc n 2) lost
  if t.lost ≥ tries then s1.sbEnd n .arb 2
  else
    let s2 := s1.emit (.sb n t.addr t.bytes)
    if t.hang then s2.setSbCh n { s2.sbCh n with st := 3, run := some t }
    else if !t.ack then s2.sbEnd n .nack 2
    else if s2.flag (fSBB_CH_CFG_PEC.plus (sbOff n)) ∧ !t.pecOk then s2.sbEnd n .pec 2
    else s2.sbEnd n .ok 2

/-- The transactions that wait run in order while the bus is idle. -/
def State.sbPump (s : State) (n : Nat) : Nat → State
  | 0 => s
  | fuel + 1 =>
    let c := s.sbCh n
    if c.st ≠ 2 then s
    else match c.queue with
      | [] => s
      | t :: rest => ((s.setSbCh n { c with queue := rest }).sbRun n t).sbPump n fuel

/-- The recovery of R478 over what SDA reads at the end of each pulse and after each STOP: whether the bus came free, and the
pulses sent. A high sample is followed by a STOP, and a STOP that leaves SDA low counts as a pulse. -/
def sbRecover : List Bool → Nat → Bool × Nat
  | [], pulses => (false, pulses)
  | sda :: rest, pulses =>
    if pulses ≥ 9 then (false, pulses)
    else if !sda then sbRecover rest (pulses + 1)
    else match rest with
      | [] => (true, pulses + 1)
      | stop :: rest2 =>
        if stop then (true, pulses + 1)
        else if pulses + 1 ≥ 9 then (false, pulses + 1)
        else sbRecover rest2 (pulses + 2)

/-- The bus is stuck (R478): record 0x4B0; what waits ends with STUCK. -/
def State.sbStuck (s : State) (n : Nat) (scl sda : Bool) (pulses : Nat) : State :=
  let c := s.sbCh n
  (s.setSbCh n { c with
    st := 5
    scl := scl
    sda := sda
    queue := []
    last := if c.queue.isEmpty then c.last else some .stuck }).note 0x4B0 [n, b2n scl + 2 * b2n sda, pulses]

/-- The idle check (R478): both lines high, SCL low for 35 ms, or SDA low with the readings that the pulses and STOPs find. -/
def State.sbCheck (s : State) (n : Nat) (scl sda : Bool) (readings : List Bool) : State :=
  let idle (s : State) : State :=
    let c := s.sbCh n
    (s.setSbCh n { c with st := 2, scl := true, sda := true }).sbPump n c.queue.length
  if !scl then s.sbStuck n false sda 0
  else if sda then idle s
  else
    let (free, pulses) := sbRecover readings 0
    if free then idle s else s.sbStuck n true false pulses

end Sys2Proof.Machine
end

