-- ==== Sys2Proof/Machine/Dram.lean ====
section
/-! DEFINITION. The commands of DMC and LPR: refresh, temperature, command parity, retraining, frequency change (R166 to
R190), erasure, remap, self-test, scrub, raw access (R196 to R207). -/

namespace Sys2Proof.Machine

/-! ### DMC -/

/-- Byte offset of a channel's window from DMC0's. -/
def dmcOff (c : Nat) : Nat := c * 0x100000

/-- Sends a DRAM command of a channel, which its retry buffer keeps (R179). -/
def State.dram (s : State) (c : Nat) (what : String) (v : Nat) : State := (s.emit (.dmc c what v)).retryPut c what v

/-- Sends one command to every logical rank of a channel. -/
def State.dramRanks (s : State) (c : Nat) (what : String) : State :=
  (upTo (2 ^ (s.ch c).rankBits)).foldl (fun s r => s.dram c what r) s

/-- A channel fails (R181): record 0x3B1, a fatal fault, no more reads or writes; the accepted writes still in its queue are lost. Causes: 0
training, 1 parity, 2 PHY self-test, 3 frequency change, 4 no saved training. -/
def State.failChannel (s : State) (c cause : Nat) : State :=
  let s1 : State := { s with lpr := { s.lpr with
    wq := s.lpr.wq.filter (fun a => s.chanOf a != c)
    inord := s.lpr.inord.filter (fun k => bankChan k != c)
    retry := Tab.set (fun _ => []) s.lpr.retry c [] } }
  (((s1.setCh c { s1.ch c with st := 5, alert := false, replaying := false }).note 0x3B1 [c, cause]).fatal 3).tellFault 0

/-- A replay of the retry buffer has ended (R180 step 6): source +1 counts. -/
def State.replayDone (s : State) (c : Nat) : State :=
  ((s.setCh c { s.ch c with replaying := false, alerts := 0 }).bumpFld (fDMC_CNT_CAPAR_REPLAYS.plus (dmcOff c))).raise
    (0x080 + 8 * c + 1)

/-- A channel issues from its queues: it serves, no alert has stopped it (R180, R187), and its PLL is in lock (R395). -/
def State.issues (s : State) (c : Nat) : Bool := (s.ch c).st == 2 && !(s.ch c).alert && !s.cru.dmcPll.contains c

/-- What the DMCs do in a microsecond. DESIGN CHOICE (log 111): every write queued is issued, no read waits between commands, a replay
that no alert has cut short has ended, and no command is still within the window of its retry buffer. -/
def State.dmcTick (s : State) : State :=
  let s1 := (upTo 16).foldl (fun s c => if (s.ch c).replaying && !(s.ch c).alert then s.replayDone c else s) s
  if s1.lpr.wq.isEmpty ∧ s1.lpr.retry.isEmpty then s1
  else
    let s2 : State := { s1 with lpr := { s1.lpr with retry := s1.lpr.retry.filter (fun e => (s1.ch e.1).alert) } }
    s2.dmcIssue (fun a => s2.issues (s2.chanOf a))

/-- A channel enters self-refresh (R189, R188): a serving one first issues every write it has accepted; then self-refresh entry
on every rank, and the RCD held. -/
def State.selfRefresh (s : State) (c : Nat) : State :=
  if (s.ch c).st = 2 ∨ (s.ch c).st = 4 then
    let s1 := if (s.ch c).st = 2 then (s.dmcIssue (fun a => s.chanOf a == c)).dramRanks c "SRE" else s
    let s2 := s1.dram c "RCD hold" 0
    s2.setCh c { s2.ch c with st := 3, alert := false, replaying := false }
  else s

/-- Every channel that serves, or changes speed, enters self-refresh. -/
def State.selfRefreshAll (s : State) : State := (upTo 16).foldl State.selfRefresh s

/-- tREFI has passed (R176): REFab to every logical rank, one after another. -/
def execRefreshDue (ch : Nat) (s : State) : Host.Outcome State Fault Refusal :=
  finish (if s.issues ch then s.dramRanks ch "REFab" else s)

/-- Every reading a channel holds. -/
def DmcCh.temps (c : DmcCh) : List Nat := (c.mr4.map (·.2)) ++ (c.hub.map (·.2))

/-- Judges the readings (R177): REF2X above HOT until every reading is 2 °C below it; HOT above CRIT. -/
def State.judgeTemp (s : State) (c : Nat) : State :=
  let x := s.ch c
  let hot := s.fld (fDMC_THERM_HOT_C.plus (dmcOff c))
  let crit := s.fld (fDMC_THERM_CRIT_C.plus (dmcOff c))
  let beyond := x.temps.any (fun t => decide (hot < t))
  let low := x.temps.all (fun t => decide (t + 2 ≤ hot))
  s.setCh c { x with
    ref2x := beyond || (x.ref2x && !low)
    hot := x.temps.any (fun t => decide (crit < t)) }

/-- The MR4 temperature of every rank (R177). -/
def execTempPollMr4 (ch : Nat) (temps : List Nat) (s : State) : Host.Outcome State Fault Refusal :=
  finish (if (s.ch ch).st ≠ 2 then s
    else
      let t := (upTo temps.length).foldl (fun t i => Tab.set (fun _ => 0) t i (temps.getD i 0)) (s.ch ch).mr4
      (s.setCh ch { s.ch ch with mr4 := t }).judgeTemp ch)

/-- The SPD hub sensor of every DIMM of a channel, through SB0 (R177). -/
def execTempPollSpd (ch : Nat) (temps : List Nat) (s : State) : Host.Outcome State Fault Refusal :=
  finish (if (s.ch ch).st = 0 ∨ (s.ch ch).st = 5 then s
    else
      let t := (upTo temps.length).foldl (fun t i => Tab.set (fun _ => 0) t i (temps.getD i 0)) (s.ch ch).hub
      (s.setCh ch { s.ch ch with hub := t }).judgeTemp ch)

/-- Dn_ALERT_N falls (R180): issue stops. `replay` says that a replay was running, which starts again and is not counted; the
third alert in a row on one replay fails the channel. -/
def execParityAlert (ch : Nat) (replay : Bool) (s : State) : Host.Outcome State Fault Refusal :=
  let x0 := s.ch ch
  finish (if x0.st = 0 ∨ x0.st = 3 ∨ x0.st = 5 then s
    else
      let s0 := if x0.replaying && !replay then s.replayDone ch else s
      let x := s0.ch ch
      let n := if replay then x.alerts + 1 else 1
      let s1 := (s0.setCh ch { x with alert := true, alerts := n, replaying := false }).bumpFld (fDMC_CNT_CAPAR_ALERTS.plus (dmcOff ch))
      if n ≥ 3 then s1.failChannel ch 1 else s1)

/-- Sends a command of the retry buffer again, its row reopened (R180 step 5). -/
def State.reissue (s : State) (c : Nat) (e : String × Nat) : State :=
  let s1 := if e.1 = "RD" ∨ e.1 = "WR" then s.emit (.dmc c "ACT" (s.rowOf c (s.localOf e.2))) else s
  s1.emit (.dmc c e.1 e.2)

/-- Dn_ALERT_N is high again (R180 steps 2 to 5): the RCD error is cleared, every rank precharged, the retry buffer issued
again, oldest first; normal issue resumes, and the replay counts, once it has ended (step 6). -/
def execAlertNHigh (ch : Nat) (s : State) : Host.Outcome State Fault Refusal :=
  let x := s.ch ch
  finish (if !x.alert then s
    else
      let s1 := (s.setCh ch { x with alert := false, replaying := true }).emit (.dmc ch "RCD clear" 0)
      let s2 := (upTo (2 ^ x.rankBits)).foldl (fun s r => s.emit (.dmc ch "PREab" r)) s1
      (Tab.get (fun _ => []) s.lpr.retry ch).foldl (fun s e => s.reissue ch e) s2)

/-- Dn_ALERT_N has stayed low beyond 1 µs, or a third alert hit one replay: the channel fails (R180, R181). -/
def execParityAlertTimeout (ch : Nat) (s : State) : Host.Outcome State Fault Refusal :=
  finish (if (s.ch ch).alert then s.failChannel ch 1 else s)

/-- A retraining pause (R185): the oscillators of every rank are read and the DQS delays re-centred; the remaining margin found,
with its rank and lane. -/
def execRetrainPause (ch rank lane margin : Nat) (s : State) : Host.Outcome State Fault Refusal :=
  let x := s.ch ch
  finish (if x.st ≠ 2 ∨ (!s.flag (fDMC_CTRL_RETRAIN_EN.plus (dmcOff ch)) ∧ !x.retrainNow) then s
    else
      let low := decide (margin < s.fld (fDMC_RETRAIN_MARGIN_MIN.plus (dmcOff ch)))
      let n := if low then x.lowMargins + 1 else 0
      let s0 := (s.dramRanks ch "MRR oscillator").emit (.dmc ch "re-centre" 0)
      let s1 := s0.setCh ch { s0.ch ch with retrainNow := false, lowMargins := n }
      let s2 := if low then s1.raise (0x080 + 8 * ch + 2) else s1
      if low ∧ n = 3 then s2.note 0x3B2 [ch, rank, lane, margin] else s2)

/-- DMC_CMD.RETRAIN_NOW. -/
def State.retrainNow (s : State) (ch : Nat) : State :=
  if (s.ch ch).st = 2 then s.setCh ch { s.ch ch with retrainNow := true } else s

/-- RetrainNow. -/
def execRetrainNow (ch : Nat) (s : State) : Host.Outcome State Fault Refusal := finish (s.retrainNow ch)

/-- A channel with one MRDIMM, which alone changes speed (R186). -/
def State.speedable (s : State) : Bool := s.fld fDMC_POP_DPC == 1 && s.flag fDMC_POP_MRDIMM

/-- DMC_CMD.FCHG (R186, R187 steps 1 to 4): the switch begins, the write queue not drained, or nothing happens and source +7
counts. -/
def State.fchg (s : State) (c : Nat) : State :=
  if !s.speedable then s.raise (0x080 + 8 * c + 7)
  else if (s.ch c).st = 2 then
    let s1 := ((s.setCh c { s.ch c with st := 4 }).dramRanks c "PREab").dramRanks c "SRE"
    ((s1.dram c "clock stop" 0).dram c "RCW speed" (b2n (!(s.ch c).tset))).dram c "PLL" (b2n (!(s.ch c).tset))
  else s

/-- DMC_CMD.FCHG. -/
def execFchg (ch : Nat) (s : State) : Host.Outcome State Fault Refusal := finish (s.fchg ch)

/-- The switch ends (R187 steps 5 to 7): the delays of the other speed are loaded, self-refresh ends, every rank is refreshed
and the other timing set is active; or the channel fails. An alert is handled first (R188). -/
def execFchgComplete (ch : Nat) (good : Bool) (s : State) : Host.Outcome State Fault Refusal :=
  let x := s.ch ch
  finish (if x.st ≠ 4 ∨ x.alert then s
    else if good then
      let s1 := ((s.dram ch "delays" (b2n (!x.tset))).dramRanks ch "SRX").dramRanks ch "REFab"
      (s1.setCh ch { s1.ch ch with st := 2, tset := !x.tset }).raise (0x080 + 8 * ch + 7)
    else s.failChannel ch 3)

/-- DMC_SPEED: the rate of the active set while the channel is trained. -/
def State.dmcSpeed (s : State) (c : Nat) : Nat :=
  if (s.ch c).st = 0 then 0
  else s.fld ((if (s.ch c).tset then fDMC_TIM_B4_MTS else fDMC_TIM_A4_MTS).plus (dmcOff c))

/-! ### LPR: dead devices -/

/-- Service DEVICE_DEAD (R196): false for a channel, rank or device that does not exist. -/
def State.doDeviceDead (s : State) (c r dev : Nat) : State × Bool :=
  if s.dmc.pop.contains c ∧ r < 2 ^ (s.ch c).rankBits ∧ dev < 20 then (s.declareDead c r dev, true)
  else (s, false)

/-! ### LPR: remap -/

/-- The remap table of a channel is full (R203). -/
def State.remapFull (s : State) (c : Nat) : Bool := (upTo 64).all (fun e => (s.remapEnt c e).valid)

/-- Bank group, bank and row of a channel-local line (R171). -/
def State.bankRow (s : State) (c l : Nat) : (Nat × Nat) × Nat := ((s.bgOf c l, s.baOf c l), s.rowOf c l)

/-- A spare line may replace a line (R202): no entry holds it, and its folio's bank and row both differ from the line's. -/
def State.spareFits (s : State) (c l sp : Nat) : Bool :=
  let a := s.bankRow c l
  let b := s.bankRow c (s.spareLocal c sp)
  !(upTo 64).any (fun e => (s.remapEnt c e).valid && (s.remapEnt c e).spare == sp) && a.1 != b.1 && a.2 != b.2

/-- Remaps a line (R203 steps 1 and 2): copied to its spare with corrections applied, then the entry is active. The
manual leaves which spare that fits is taken: the model takes the lowest. -/
def State.remapLine (s : State) (c l : Nat) : State × Bool :=
  if s.remapFull c then (s, false)
  else if (s.remapOf c l).isSome then (s, true)
  else
    let e := ((upTo 64).find? (fun e => !(s.remapEnt c e).valid)).getD 0
    let sp := ((upTo 128).find? (s.spareFits c l)).getD 0
    let p := s.copyLine (s.lineOf c l)
    let s1 := p.1.accept (p.1.spareAddr c sp) { written := true, data := p.2.1, tag := p.2.2 }
    ((((s1.setRemap c e { l := l, spare := sp, valid := true, persisted := false }).bump rLPR_CNT_REMAP).raise 0x106).note 0x3C2
      ([c] ++ words2 l ++ [sp]), true)

/-- Service LINE_REMAP (R203). -/
def State.doLineRemap (s : State) (c l : Nat) : State × Bool :=
  if s.dmc.pop.contains c then s.remapLine c l else (s, false)

/-- The remap entries of a channel as words, for the settings journal. -/
def State.remapWords (s : State) (c : Nat) : List Nat :=
  (upTo 64).flatMap (fun e =>
    let r := s.remapEnt c e
    [r.l % 2 ^ 32, r.l / 2 ^ 32 % 2 + 2 * r.spare + 256 * b2n r.valid + 512 * b2n r.persisted])

/-- The registrar has programmed an entry: PERSISTED (R203 step 3). -/
def execRemapPersist (ch entry : Nat) (s : State) : Host.Outcome State Fault Refusal :=
  let r := s.remapEnt ch entry
  finish (if r.valid ∧ !r.persisted then
      let s1 := s.setRemap ch entry { r with persisted := true }
      s1.setting (0x0020 + ch) (s1.remapWords ch)
    else s)

/-! ### LPR: scrub -/

/-- Lines on one channel. -/
def State.chLines (s : State) : Nat := if s.nchan = 0 then 0 else s.dmc.bytes / 128 / s.nchan

/-- A line of the folio-data area whose way is INVALID (R205), or a line in no area at all. -/
def State.scrubSkips (s : State) (a : Nat) : Bool :=
  if a < s.dataBase then false
  else
    let k := (a - s.dataBase) / 32
    if k < s.fch.sets * 16 then (s.way k).st == 0 else false

/-- A pass of the scrub ends on a channel (R196, R205): its correction counters clear, and what the pass corrected is
kept for the next (R203). -/
def State.passEnd (s : State) (c : Nat) : State :=
  let mine (k : Nat) : Bool := k / 640 == c
  let onCh (a : Nat) : Bool := s.chanOf a == c
  let hit := s.lpr.scrubNow.filter (fun e => onCh e.1)
  let keep := s.lpr.scrubHit.filter (fun e => !onCh e.1)
  ({ s with lpr := { s.lpr with
    corr := Tab.drop mine s.lpr.corr
    corrLast := Tab.drop mine s.lpr.corrLast
    scrubHit := hit.foldl (fun (t : Tab Nat) (e : Nat × Nat) => Tab.set (fun _ => 0) t e.1 e.2) keep
    scrubNow := s.lpr.scrubNow.filter (fun e => !onCh e.1)
    scrubAt := Tab.set (fun _ => 0) s.lpr.scrubAt c 0 } }).raise 0x108

/-- Reads, and where needed rewrites, one line of the scrub (R205). -/
def State.scrubOne (s : State) (c a : Nat) : State :=
  if s.scrubSkips a then s
  else
    let s0 := (s.bump rLPR_CNT_SCRUBBED).dmcRead a
    if !(s0.stored a).written ∧ !s0.chFailed c then s0
    else match s0.peek a with
      | .good d t [] => let _ := (d, t); s0
      | .good d t fx =>
        let s1 := (s0.countFixed a fx).putLine a d t
        let devs := (upTo 20).filter (fun d => fx.any (fun p => p.2 == d))
        let last := Tab.get (fun _ => 0) s1.lpr.scrubHit a
        let again := devs.any (fun d => bitOf last d && s1.erasedDev a != some d)
        let s2 : State := { s1 with lpr := { s1.lpr with
          scrubNow := Tab.set (fun _ => 0) s1.lpr.scrubNow a (packed (devs.map (fun d => (1, d)))) } }
        if again ∧ s2.flag fLPR_CTRL_REMAP_AUTO then (s2.remapLine c (s2.localOf a)).1 else s2
      | .uncorrectable =>
        match s0.dirLineSet a with
        | some set => s0.dirRead set
        | none =>
          (((s0.putLine a 0 poisonTag).ringLog a true).raise 0x103).note 0x3C0 ([c] ++ words2 a ++ [1])
            |>.bump rLPR_CNT_UE_SCRUB

/-- Patrol scrub visits the next line of a channel (R205, R206). -/
def execScrubLine (ch : Nat) (s : State) : Host.Outcome State Fault Refusal :=
  finish (if !s.flag fLPR_CTRL_SCRUB_EN ∨ (s.ch ch).st ≠ 2 ∨ s.rsv.ph ≠ .off ∨ s.chLines = 0 then s
    else
      let l := Tab.get (fun _ => 0) s.lpr.scrubAt ch
      let s1 := s.scrubOne ch (s.lineOf ch l)
      if l + 1 ≥ s.chLines then s1.passEnd ch
      else { s1 with lpr := { s1.lpr with scrubAt := Tab.set (fun _ => 0) s1.lpr.scrubAt ch (l + 1) } })

/-- LPR_CMD.SCRUB_NOW: the pass ends and a new one begins at L = 0. -/
def State.scrubNow (s : State) : State :=
  if s.cipherOn then s.dmc.pop.foldl (fun s c => s.passEnd c) s else s

/-- ScrubNow. -/
def execScrubNow (s : State) : Host.Outcome State Fault Refusal := finish (s.scrubNow)

/-! ### LPR: self-test, raw window, injection -/

/-- LPR_CMD.BIST: only while no channel reads SERVING (R204). -/
def State.lprBist (s : State) : State :=
  if s.dmc.pop.any (fun c => (s.ch c).st == 2) then s
    else { s with lpr := { s.lpr with bistRun := true, bistDone := false } }

/-- LprBist. -/
def execLprBist (s : State) : Host.Outcome State Fault Refusal := finish (s.lprBist)

/-- What a finished self-test leaves (R204). -/
def State.bistEnd (s : State) (good : Bool) (pair vector : Nat) : State :=
  let s1 : State := { s with lpr := { s.lpr with bistRun := false, bistDone := true } }
  if good then s1
  else (({ s1 with lpr := { s1.lpr with bistFail := true, ready := false } }).note 0x3C4 [pair, vector]).fatal 4

/-- The rerun self-test finishes (R204). -/
def execLprBistDone (good : Bool) (pair vector : Nat) (s : State) : Host.Outcome State Fault Refusal :=
  finish (if s.lpr.bistRun then s.bistEnd good pair vector else s)

/-- The raw window and injections are open to a path: the registrar at every level, the management host and
JTAG at Open (R464). Paths: 0 management endpoint, 1 registrar, 2 JTAG, 3 SBT. -/
def State.rawOpen (s : State) (path : Nat) : Bool := path == 1 || path == 3 || s.sec.level == 2

/-- The line of LPR_RAW_ADDR. -/
def State.rawLine (s : State) : Nat := s.fld fLPR_RAW_ADDR_LINE + s.fld fLPR_RAW_ADDRH_LINE * 2 ^ 32

/-- The raw window reaches the channel: it is trained and not in self-refresh (R469). -/
def State.rawReach (s : State) : Bool := let c := s.chanOf s.rawLine; (s.ch c).st == 2 || (s.ch c).st == 4 || (s.ch c).st == 5

/-- RESULT, data and tag of the raw window (R207). -/
def State.rawSet (s : State) (r : Nat) (d : Line) (t : Tag) : State :=
  { s with lpr := { s.lpr with rawResult := r, rawData := d, rawTag := t } }

/-- What the raw window shows of a line: what an uncorrectable one returns is free. -/
def State.rawFind (s : State) (a : Nat) : State :=
  match s.peek a with
  | .good d t [] => s.rawSet 0 d t
  | .good d t fx => (s.countFixed a fx).rawSet 1 d t
  | .uncorrectable =>
    (s.rawSet 2 (Config.freeLine s.freeCtr) ((Config.freeLine (s.freeCtr + 1)).truncate 64)).tickFree.tickFree

/-- Reads the raw window's line: RESULT, data and tag. -/
def State.rawRead (s : State) : State := (s.dmcRead s.rawLine).rawFind s.rawLine

/-- LPR_RAW_CMD.READ. -/
def State.rawReadCmd (s : State) (path : Nat) : State :=
  if !s.rawOpen path then s.secDenied else if !s.rawReach then s else s.rawRead

/-- RawRead. -/
def execRawRead (path : Nat) (s : State) : Host.Outcome State Fault Refusal := finish (s.rawReadCmd path)

/-- LPR_RAW_CMD.WRITE. -/
def State.rawWriteCmd (s : State) (path : Nat) : State :=
  if !s.rawOpen path then s.secDenied
    else if !s.rawReach then s
    else
      let s1 := s.putLine s.rawLine s.lpr.rawData s.lpr.rawTag
      { s1 with lpr := { s1.lpr with rawResult := 0 } }

/-- RawWrite. -/
def execRawWrite (path : Nat) (s : State) : Host.Outcome State Fault Refusal := finish (s.rawWriteCmd path)

/-- LPR_INJ_CTRL.ARM. -/
def State.injectArm (s : State) (path : Nat) : State :=
  if !s.rawOpen path then s.secDenied else { s with lpr := { s.lpr with armed := true } }

/-- InjectArm. -/
def execInjectArm (path : Nat) (s : State) : Host.Outcome State Fault Refusal := finish (s.injectArm path)

end Sys2Proof.Machine
end

