-- ==== Sys2Proof/Machine/FchRows.lean ====
section
/-! DEFINITION. The commands of FCH (R115 to R143): promotion, installs, reshelving, the sweep, waits that end, disabling
and enabling. -/

namespace Sys2Proof.Machine

/-- The folio belongs to a live pinned object whose promotion is under way, and may be tried now (R129): one that the walk left
unreserved only while its set's pinned load is below the limit (R127). -/
def State.promotable (s : State) (folio : Nat) : Bool :=
  let o := s.objOfShelf (shelfOf folio)
  s.fch.mode == 1 && decide (0 < s.fch.sets) && s.holder && o.live && pinnedCls o.cls && decide (0 < o.pinLeft)
    && decide (o.base * 2 ^ 18 ≤ folio ∧ folio < o.base * 2 ^ 18 + foliosFor o.len)
    && (s.findWay folio).isNone && (s.fillOf folio).isNone && !s.fch.promoFailed.contains folio
    && (!s.fch.unres.contains folio || s.pinRoom (s.setOf folio))

/-- Starts a promotion fill (R129): a Pinned folio is read from its sled, an Unbacked one becomes zero lines, or poison
lines after a start at which DRAM was lost. For want of an eligible way the fill is dropped (R125). -/
def State.promote (s0 : State) (folio : Nat) : State :=
  let o := s0.objOfShelf (shelfOf folio)
  let s := s0.lookup folio
  if s.hazFull folio ∨ ((s.victim folio o.tenant false).isNone ∧ !s.victimBlocked folio o.tenant false) then s
  else if o.cls = 2 then s.startFill folio o.tenant none true true false false
  else if o.poison then
    let f : Fill := { folio := folio, tenant := o.tenant, spec := true, pin := true, since := s.timeUs }
    let s1 := ((s.bump rFCH_CNT_MISS).putFill f).bindWay f false
    match s1.fillOf folio with
    | some g => s1.putFill { g with desk := some (List.replicate 32 ((0 : Line), poisonTag)) }
    | none => s1
  else s.startFill folio o.tenant none true true true false

/-- PIN_PROMOTION_RETRY. -/
def execPinPromotionRetry (folio : Nat) (s : State) : Host.Outcome State Fault Refusal :=
  finish (if s.promotable folio then s.promote folio else s)

/-- FILL_INSTALL (R136). -/
def execFillInstall (folio : Nat) (s : State) : Host.Outcome State Fault Refusal := finish (s.install folio)

/-- Level of one sled (R99). -/
def State.sledLevel (s : State) (n : Nat) : Nat := level (s.sledCount n) (s.sledBudget n)

/-- From stage 1 on the sleds with the highest L go first (R99): no other sled with a higher level has a folio that could be
reshelved now. -/
def State.sledFirst (s : State) (n : Nat) : Bool :=
  s.rsv.stage = 0 || !(s.sleds.any (fun m => decide (s.sledLevel n < s.sledLevel m)
    && (s.fch.dir.any (fun e => decide (e.1 < deskKey) && e.2.st == 2 && !s.lostShelf e.2.folio && s.sledLink e.2.folio == m)
      || (s.metaLink == m && s.fch.metaDirty.any (fun e => e.2 == 1)))))

/-- RESHELVE_SELECT (R99, R130): a DIRTY folio on a shelf that is not LOST is copied and becomes RESHELVING, a changed folio of the
metadata shelf too; from stage 1 on only on a sled whose turn it is. -/
def execReshelveSelect (folio : Nat) (s : State) : Host.Outcome State Fault Refusal :=
  finish (if !s.sledFirst (s.sledLink folio) then s
    else if shelfOf folio = 0 then s.metaTake folio
    else match s.findWay folio with
    | some k => if k < deskKey ∧ !s.lostShelf folio then s.reshelve k else s
    | none => s)

/-- EVB_SEND (R131). -/
def execEvbSend (tile : Nat) (s : State) : Host.Outcome State Fault Refusal := finish (s.evbSend tile)

/-- VICTIM_WAIT_RELEASE (R125): the stream's front write is tried again. -/
def execVictimWaitRelease (stream : Nat) (s : State) : Host.Outcome State Fault Refusal := finish (s.pumpAll stream)

/-- HAZARD_WAIT_RELEASE (R134): the request that has waited longest is accepted. -/
def execHazardWaitRelease (s : State) : Host.Outcome State Fault Refusal :=
  finish (match s.fch.waits with
    | q :: rest => if s.hazUsed < 8192 then ({ s with fch := { s.fch with waits := rest } }).runReq q else s
    | [] => s)

/-- SWEEP_VISIT (R118, R123): the next set in ascending order is read, every age above 0 falls by one, and the ages are written
back to both copies. The directory is valid while MODE reads ENABLED or DISABLE_PENDING. -/
def execSweepVisit (s : State) : Host.Outcome State Fault Refusal :=
  finish (if s.flag fFCH_CTRL_SWEEP_EN ∧ (s.fch.mode = 1 ∨ s.fch.mode = 2) ∧ 0 < s.fch.sets then
      let set := s.fch.sweepAt
      let s0 := s.dirRead set
      let s1 := (upTo 16).foldl (fun s i =>
        let w := s.way (set * 16 + i)
        if w.st ≠ 0 ∧ w.age > 0 then s.setWay (set * 16 + i) { w with age := w.age - 1 } else s) s0
      let s2 := if s1.fch.dead.contains set then s1 else s1.dirWrite set
      { s2 with fch := { s2.fch with sweepAt := (set + 1) % s2.fch.sets } }
    else s)

/-! ### Disabling and enabling (R141 to R143) -/

/-- Ways of the reading room, desk copies apart. -/
def State.roomWays (s : State) : List (Nat × Way) := s.fch.dir.filter (fun e => decide (e.1 < deskKey))

/-- Copies every DIRTY folio that can be reshelved while the buffer has room, counting them (R142 step 3). -/
def State.cleanAll (s : State) : State :=
  s.roomWays.foldl (fun s e =>
    let w := s.way e.1
    if w.st = 2 ∧ !s.lostShelf w.folio ∧ s.fch.evb.length < 4096 then
      let s1 := s.reshelve e.1
      { s1 with fch := { s1.fch with cleaned := s1.fch.cleaned + 1 } }
    else s) s

/-- Starts a disable (R142), or refuses it while an Unbacked object exists. -/
def State.disableStart (s : State) : State :=
  if s.tqm.objs.any (fun e => e.2.live && e.2.cls == 3) then
    ({ s with fch := { s.fch with refused := true } }).raise 0x143
  else
    ({ s with fch := { s.fch with mode := 2, since := s.timeUs, cleaned := 0 } }).cleanAll

/-- Every set record of the directory is written INVALID with PIN_RSV 0, in both copies (R121, R142, R143). -/
def State.dirClear (s : State) : State :=
  ({ s with fch := { s.fch with
    dir := s.fch.dir.filter (fun e => decide (deskKey ≤ e.1))
    pinRsv := []
    unres := []
    tagc := [] } }).dirFresh

/-- Starts an enable (R143): the directory is initialised as after a loss of DRAM. -/
def State.enableStart (s : State) : State :=
  ({ s with fch := { s.fch with
    mode := 3
    since := s.timeUs
    cleaned := 0 } }).dirClear

/-- A write of FCH_CTRL.MODE (R141): latched during a transition, no change when the mode is as asked. -/
def State.modeWrite (s : State) (on : Bool) : State :=
  let s1 := { s with fch := { s.fch with refused := false } }
  if s1.fch.mode ≥ 2 then { s1 with fch := { s1.fch with latched := some on } }
  else if on ∧ s1.fch.mode = 0 then s1.enableStart
  else if !on ∧ s1.fch.mode = 1 then s1.disableStart
  else s1

/-- FCH_DISABLE. -/
def execFchDisable (s : State) : Host.Outcome State Fault Refusal := finish (s.modeWrite false)

/-- FCH_ENABLE. -/
def execFchEnable (s : State) : Host.Outcome State Fault Refusal := finish (s.modeWrite true)

/-- The pin walk over every Pinned and Unbacked object, in slot order (R129): a folio whose set is at the limit counts
on 0x142 and stays unreserved. -/
def State.walkObjs (s : State) : State :=
  (s.tqm.objs.filter (fun e => e.2.live && pinnedCls e.2.cls)).foldl (fun s e =>
    let fs := (folioRange e.2.base 0 e.2.len).filter (fun f => (s.findWay f).isNone)
    let s1 := s.setObj e.1 { s.obj e.1 with pinLeft := fs.length }
    fs.foldl (fun s f =>
      let set := s.setOf f
      if s.pinRoom set then s.setPinRsv set (s.pinRsv set + 1)
      else ({ s with fch := { s.fch with unres := s.fch.unres ++ [f] } }).raise 0x142) s1) s

/-- The end of a transition (R141): record 0x3D1, source 0x143, then a latched write. -/
def State.modeEnd (s : State) (old new : Nat) : State :=
  let s1 := { s with fch := { s.fch with mode := new, latched := none } }
  let s2 := (s1.note 0x3D1 [old, new, s.fch.cleaned, (s.timeUs - s.fch.since) / 1000]).raise 0x143
  match s.fch.latched with
  | some on => if on ∧ new = 0 then s2.enableStart else if !on ∧ new = 1 then s2.disableStart else s2
  | none => s2

/-- FCH_MODE_TRANSITION_DONE: a disable ends once every fill has ended and every folio is clean; an enable once the
directory is initialised. A start ends its own transition at step 9. -/
def execFchModeTransitionDone (s : State) : Host.Outcome State Fault Refusal :=
  finish (if s.fch.mode = 2 then
      let s1 := s.cleanAll
      if s1.fch.fills.any (fun f => !f.bypass && !f.through) ∨ s1.roomWays.any (fun e => decide (e.2.st ≥ 2)) then s1
      else
        let s2 := s1.roomWays.foldl (fun s e => s.uncharge e.2) s1
        let s3 := s2.dirClear
        let s4 := (s3.tqm.objs.filter (fun e => e.2.live && e.2.cls == 2)).foldl (fun s e =>
          s.setObj e.1 { s.obj e.1 with pinLeft := foliosFor e.2.len }) s3
        s4.modeEnd 1 0
    else if s.fch.mode = 3 ∧ s.pwr.st ≠ .starting then s.walkObjs.modeEnd 0 1
    else s)

end Sys2Proof.Machine
end

