-- ==== Sys2Proof/Machine/FlashRows.lean ====
section
/-! DEFINITION. The commands of EFL and DBK: the ROM entry points and what ends them, the daybook's queue, its records
and its reads (R431 to R451). -/

namespace Sys2Proof.Machine

/-- Answers a call of the ROM routine. -/
def State.romAnswer (s : State) (r : Nat) (data : List (BitVec 128)) : State := s.emit (.flash r data)

/-- An erase runs or is suspended somewhere (R435). -/
def State.erasing (s : State) : Bool :=
  let er (o : FlashOp) : Bool := match o with | .erase _ => true | _ => false
  er s.efl.op0 || er s.efl.op1 || s.efl.susp.isSome

/-- An erase runs in a bank that has not run for 500 µs since it was resumed (R435). -/
def State.eraseHeld (s : State) (b : Nat) : Bool :=
  (match s.fop b with | .erase _ => true | _ => false) && decide (s.timeUs < s.efl.holdTill)

/-- Starts an erase: ERASE_OPEN first (R438). -/
def State.startErase (s : State) (sec : Nat) : State := ((s.journal sec 1).setFop (wordBank (sec * 256)) (.erase sec)).feed

/-- A bank is programming. -/
def State.programming (s : State) (b : Nat) : Bool := match s.fop b with | .program .. => true | _ => false

/-- Puts a call among those that wait. -/
def State.flashWait (s : State) (q : FlashReq) : State := { s with efl := { s.efl with waits := s.efl.waits ++ [q] } }

/-- Reads n words in order: state, data, any corrected, any invalid. -/
def State.romReads (s : State) : Nat → Nat → State × List (BitVec 128) × Bool × Bool
  | 0, _ => (s, [], false, false)
  | n + 1, w =>
    let (s1, x) := s.romRead w
    let (s2, l, c, i) := s1.romReads n (w + 1)
    (s2, x.data :: l, c || (match x with | .written _ true => true | _ => false),
      i || (match x with | .invalid _ => true | _ => false))

/-- A READ whose bank is free, or whose erase it suspends (R434, R435). -/
def State.flashRead (s : State) (w n : Nat) : State :=
  let b := wordBank w
  let b2 := wordBank (w + n - 1)
  if s.programming b ∨ s.programming b2 ∨ s.eraseHeld b ∨ s.eraseHeld b2 then s.flashWait (.read w n)
  else
    let s1 := (s.suspend b).suspend b2
    let (s2, l, c, i) := s1.romReads n w
    let sus := (List.range n).any (fun k => s.efl.suspect.contains ((w + k) / 256))
    s2.romAnswer (if sus then 2 else if i then 4 else if c then 1 else 0) l

/-- A PROGRAM of one code word (R433, R435, R438). -/
def State.flashProgram (s : State) (w : Nat) (d : BitVec 128) : State :=
  let b := wordBank w
  let sec := w / 256
  if s.programming b ∨ s.eraseHeld b then s.flashWait (.program w d)
  else if s.efl.suspect.contains sec then
    (if s.erasing then s else s.startErase sec).flashWait (.program w d)
  else
    let s1 := s.suspend b
    let (s2, x) := s1.romRead w
    match x with
    | .erased => (s2.setFop b (.program w d)).feed
    | _ => (((s2.bump rEFL_CNT_DOUBLE).raise 0x052).note 0x482 [w * 16, Config.itemCode 0x482 1 (flashArea sec)]).romAnswer 3 []

/-- An ERASE of one sector (R435, R438). -/
def State.flashErase (s : State) (sec : Nat) : State :=
  if s.erasing ∨ s.programming (wordBank (sec * 256)) then s.flashWait (.erase sec) else s.startErase sec

/-- Runs the calls that wait, in order; those that still cannot run wait again. -/
def State.flashRelease (s : State) : State :=
  s.efl.waits.foldl (fun s q =>
    match q with
    | .read w n => s.flashRead w n
    | .program w d => s.flashProgram w d
    | .erase sec => s.flashErase sec) { s with efl := { s.efl with waits := [] } }

/-- What time does to the flash: calls run that waited for an erase to have run 500 µs (R435), and the watchdog is fed every
10 ms of an erase (R439). -/
def State.flashTick (s : State) : State :=
  let s1 := if !s.efl.waits.isEmpty ∧ s.timeUs = s.efl.holdTill then s.flashRelease else s
  let runs (o : FlashOp) : Bool := match o with | .erase _ => true | _ => false
  if (runs s1.efl.op0 ∨ runs s1.efl.op1) ∧ s1.cru.fedAt + 10000 ≤ s1.timeUs then s1.feed else s1

/-- ROM entry point READ of n code words. -/
def execFlashRead (addr n : Nat) (s : State) : Host.Outcome State Fault Refusal :=
  finish (if addr % 16 ≠ 0 ∨ addr + 16 * n > 0x1800000 then s.romAnswer 7 [] else s.flashRead (addr / 16) n)

/-- ROM entry point PROGRAM of one code word. -/
def execFlashProgram (addr : Nat) (data : BitVec 128) (s : State) : Host.Outcome State Fault Refusal :=
  finish (if addr % 16 ≠ 0 ∨ addr ≥ 0x1800000 then s.romAnswer 7 []
    else if flashOwn (addr / 4096) then s.romAnswer 6 []
    else s.flashProgram (addr / 16) data)

/-- A program and its read-back end (R433): OK, or FAILED with the word left as no one can trust. -/
def execFlashProgramDone (bank : Nat) (good : Bool) (s : State) : Host.Outcome State Fault Refusal :=
  finish (match s.fop bank with
    | .program w d =>
      let s1 := s.setFop bank .none
      let s2 := if good then (s1.progWord w d).romAnswer 0 []
        else (((s1.setFword w .torn).raise 0x053).note 0x483 [w / 256, 0]).romAnswer 5 []
      s2.flashRelease
    | _ => s)

/-- ROM entry point ERASE of one sector. -/
def execFlashErase (addr : Nat) (s : State) : Host.Outcome State Fault Refusal :=
  finish (if addr % 4096 ≠ 0 ∨ addr ≥ 0x1800000 then s.romAnswer 7 []
    else if flashOwn (addr / 4096) then s.romAnswer 6 []
    else s.flashErase (addr / 4096))

/-- The daybook's next sector is erased as soon as no other erase runs (R447). -/
def State.daybookErase (s : State) : State :=
  match s.dbk.eraseNext with
  | some sec => if s.erasing ∨ s.programming 1 then s else
      ({ s with dbk := { s.dbk with eraseNext := none } }).startErase sec
  | none => s

/-- A sector erase ends (R438): ERASE_DONE is journalled and the sector is SUSPECT no more; a failed one leaves its
entry open and its words untrusted. -/
def execFlashEraseDone (bank : Nat) (good : Bool) (s : State) : Host.Outcome State Fault Refusal :=
  finish (match s.fop bank with
    | .erase sec =>
      let s1 := s.setFop bank .none
      let s2 := if good then
          let s3 := ((s1.clearSector sec).bump rEFL_CNT_ERASE).journal sec 2
          ({ s3 with efl := { s3.efl with suspect := s3.efl.suspect.filter (· != sec) } }).romAnswer 0 []
        else (((List.range 256).foldl (fun s i => s.setFword (sec * 256 + i) .torn) s1).raise 0x053 |>.note 0x483 [sec, 1]).romAnswer
          5 []
      s2.flashRelease.daybookErase
    | _ => s)

/-- A suspended erase resumes once the bank is free, and runs at least 500 µs before it can be suspended again (R435). -/
def execFlashEraseResume (s : State) : Host.Outcome State Fault Refusal :=
  finish (match s.efl.susp with
    | some sec =>
      let b := wordBank (sec * 256)
      match s.fop b with
      | .none => ({ s.setFop b (.erase sec) with efl := { (s.setFop b (.erase sec)).efl with
          susp := none
          holdTill := s.timeUs + 500 } }).feed
      | _ => s
    | none => s)

/-! ### The daybook -/

/-- A record is queued, or dropped (R448). -/
def execDaybookRecord (code : Nat) (words : List Nat) (s : State) : Host.Outcome State Fault Refusal :=
  finish (s.note code words)

/-- The next record is programmed into the next slot (R447); after the last slot of a sector the next sector is erased;
record 0x481 follows once the queue has room (R448). -/
def execDaybookProgram (s : State) : Host.Outcome State Fault Refusal :=
  finish (
    let n := s.dbk.head
    let sec := slotSector n
    match s.dbk.queue with
    | [] => s
    | r :: rest =>
      if !s.efl.ready ∨ s.programming 1 ∨ s.eraseHeld 1 ∨ s.dbk.eraseNext.isSome ∨ s.slotErasing n then s
      else if s.efl.suspect.contains sec then (if s.erasing then s else s.startErase sec)
      else
        let b := recordBytes s.dbk.seq r
        let s1 := s.progWords (slotWord n) ((List.range 4).map (fun i => wordOf ((b.drop (16 * i)).take 16)))
        let next := (n + 1) % 32768
        let extra : List DRec := if s.dbk.dropped = 0 then [] else
          [{ code := 0x481
             hours := s.dbk.hours
             uptime := (s.timeUs - s.dbk.startAt) / 1000
             cycles := s.dbk.cycles
             words := [s.dbk.dropped, s.dbk.firstDropped] }]
        let s2 : State := { s1 with dbk := { s1.dbk with
          queue := rest ++ extra
          dropped := 0
          firstDropped := 0
          head := next
          seq := (s1.dbk.seq + 1) % 2 ^ 48
          eraseNext := if next % 64 = 0 then some (slotSector next) else none } }
        ((s2.bump rDBK_CNT_WRITTEN).raise 0x058).daybookErase)

/-- Every 0.1 h the operating hours are written (R442, R443): in 0.01 h. -/
def execHoursCheckpoint (s : State) : Host.Outcome State Fault Refusal :=
  finish (
    let h := (s.dbk.hours + 10) % 2 ^ 32
    ({ s with dbk := { s.dbk with hours := h } }).setting 0x0002 [h])

/-- A read of DBK_WIN15: its value, and the cursor moves on when AUTO is set (R450). -/
def execDbkWin15Read (s : State) : Host.Outcome State Fault Refusal :=
  finish (
    let slot := s.fld fDBK_CURSOR_SLOT
    let (s1, v) := s.dbkWin slot 15
    let s2 := if s1.flag fDBK_CTRL_AUTO then s1.setFld fDBK_CURSOR_SLOT ((slot + 1) % 32768) else s1
    s2.emit (.readData "DBK_WIN15" v.toNat))

/-- A read of DBK_SEQ_LO: bits [31:0] of the next SEQ, and DBK_SEQ_HI takes bits [47:32] (R496). -/
def execDbkSeqLoRead (s : State) : Host.Outcome State Fault Refusal :=
  finish (({ s with dbk := { s.dbk with seqHi := s.dbk.seq / 2 ^ 32 % 65536 } }).emit
    (.readData "DBK_SEQ_LO" (s.dbk.seq % 2 ^ 32)))

end Sys2Proof.Machine
end

