-- ==== Sys2Proof/Machine/TvlRows.lean ====
section
/-! DEFINITION. The commands of the Tvedfy link layer (R209 to R236): training, flits, replay, credits, partner loss. -/

namespace Sys2Proof.Machine

/-- Byte offset of a port's window. -/
def tvPort (lk : Nat) : Nat := 0x100000 * (lk / 2)

/-- Byte offset of a half's registers. -/
def tvOff (lk : Nat) : Nat := tvPort lk + 0x80 * (lk % 2)

/-- Interrupt source of a link's port (R236). -/
def tvSrc (lk off : Nat) : Nat := 0x200 + 8 * (lk / 2) + off

/-- Capacities of a link (R222): Request, Posted-write, Event slots, ATOMIC credits. -/
def TvLink.capRq (l : TvLink) : Nat := if l.split then 1024 else 2048
def TvLink.capPw (l : TvLink) : Nat := if l.split then 3072 else 6144
def TvLink.capEv (l : TvLink) : Nat := if l.split then 128 else 256
def TvLink.capAt (l : TvLink) : Nat := if l.split then 16 else 32

/-- Does something only for a Tvedfy link. -/
def State.tvOnly (s : State) (lk : Nat) (f : State → State) : State := if lk = twinLk then s else f s

/-- Record 0x3F0: port, half, state left, cause. -/
def State.tvNote (s : State) (lk cause : Nat) : State :=
  s.tvOnly lk (fun s => s.note 0x3F0 [lk / 2, lk % 2, (s.tvl_ lk).st, cause])

/-- A training that fails (R226): record 0x3F0 and DOWN. -/
def State.tvFail (s : State) (lk cause : Nat) : State :=
  (s.tvNote lk cause).setTvl lk { s.tvl_ lk with st := 0 }

/-- Entering LOST (R226, R230): transmitters at electrical idle; the replay buffer, the credits and a partial message go, answers of requests from before are
discarded, whole messages stay and are executed. -/
def State.tvLose (s : State) (lk cause : Nat) : State :=
  let l := s.tvl_ lk
  let s1 := ((s.tvNote lk cause).emit (.tvLink lk "idle" 0)).setTvl lk { l with
    st := 6
    life := l.life + 1
    part := []
    txq := []
    kept := []
    credRs := 0
    credEv := 0
    credMi := 0
    ackRx := l.fseq
    replays := 0 }
  if lk = twinLk then s1.twinDown else (s1.raise (tvSrc lk 2)).bumpFld (fTVL_CNT_LINK_LOST.plus (tvOff lk))

/-- Entering RECOVERY (R226): replay buffers, credits and partial messages are kept, and IDLE flits are sent. -/
def State.tvRecover (s : State) (lk : Nat) : State :=
  ((s.setTvl lk { s.tvl_ lk with st := 5 }).idleFlit lk false).tvOnly lk (fun s =>
    (s.raise (tvSrc lk 3)).bumpFld (fTVL_CNT_LINK_RECOVERY.plus (tvOff lk)))

/-- A link exists: half 1 only while SPLIT is set, and not while the other width is in use (R209). -/
def State.tvExists (s : State) (lk : Nat) : Bool :=
  let sp := s.flag (fTVL_CTRL_SPLIT.plus (tvPort lk))
  if lk % 2 = 0 then sp || (s.tvl_ (lk + 1)).st == 0
  else sp && ((s.tvl_ (lk - 1)).st == 0 || (s.tvl_ (lk - 1)).split)

/-- A DOWN link that is enabled sends training frames (R226); SPLIT takes effect here (R209). -/
def execTvlTrainAttempt (lk : Nat) (s : State) : Host.Outcome State Fault Refusal :=
  finish (if lk = twinLk then
      (if s.twnOn ∧ bitOf s.cru.refOk 2 ∧ (s.tvl_ lk).st = 0 then
        (s.setTvl lk { s.tvl_ lk with st := 1, split := false, pol := 0, reversed := false }).emit (.tvLink lk "train" 0)
      else s)
    else if lk < 32 ∧ s.ports ∧ bitOf s.cru.refOk 0 ∧ s.tvOn (lk / 2) ∧ (s.tvl_ lk).st = 0
      ∧ s.tvExists lk then
      (s.setTvl lk { s.tvl_ lk with st := 1, split := s.flag (fTVL_CTRL_SPLIT.plus (tvPort lk)), pol := 0, reversed := false }).emit
        (.tvLink lk "train" 0)
    else s)

/-- Equalisation is done on every lane, polarity corrected (R211, R226). -/
def execEqualisationDone (lk pol : Nat) (s : State) : Host.Outcome State Fault Refusal :=
  let s1 := if lk = twinLk then s.laneTrained 96 16
    else if (s.tvl_ lk).split then s.laneTrained (2 * lk) 2
    else s.laneTrained (2 * lk) 4
  finish (if (s.tvl_ lk).st = 1 then (s1.setTvl lk { s.tvl_ lk with st := 2, pol := pol % 16 }).fecStart lk else s)

/-- EQ has lasted 500 ms. -/
def execEqTimeout (lk : Nat) (s : State) : Host.Outcome State Fault Refusal :=
  finish (if (s.tvl_ lk).st = 1 then s.tvFail lk 1 else s)

/-- The CONFIG block that the MK1 sends (R227, R319). -/
def State.tvBlock (s : State) (lk : Nat) (ack : Bool) : List (BitVec 128) :=
  let l := s.tvl_ lk
  if lk = twinLk then twinBlock ack s.sec.fuse.uid.toNat (s.reg rTWN_PAIR_LO).toNat (s.reg rTWN_PAIR_HI).toNat
  else configBlock l.split (lk % 2) s.holder ack s.sec.fuse.uid.toNat l.capRq l.capPw l.capEv l.capAt

/-- CONFIG flits go out back to back (R228): one is listed before the peer's is accepted, and the eight with ACK = 1 that the
handshake asks for after it. -/
def State.tvConfigOut (s : State) (lk : Nat) (ack : Bool) : State :=
  (upTo (if ack then 8 else 1)).foldl (fun s _ => s.configFlit lk (s.tvBlock lk ack)) s

/-- Code-word lock, deskew and lane order on every lane: CONFIG flits (R226). -/
def execAlignDone (lk : Nat) (reversed : Bool) (s : State) : Host.Outcome State Fault Refusal :=
  finish (if (s.tvl_ lk).st = 2 then (s.setTvl lk { s.tvl_ lk with st := 3, reversed := reversed }).tvConfigOut lk false else s)

/-- ALIGN has lasted 1 ms, or the lane order is none of R211's. -/
def execAlignTimeout (lk : Nat) (s : State) : Host.Outcome State Fault Refusal :=
  finish (if (s.tvl_ lk).st = 2 then s.tvFail lk 2 else s)

/-- Little-endian number of the bytes [a, a + n) of a block. -/
def blkNat (b : List Byte) (a n : Nat) : Nat := leNat ((b.drop a).take n)

/-- A peer CONFIG is accepted (R222, R228). -/
def tvConfigOk (l : TvLink) (lk : Nat) (b : List Byte) : Bool :=
  blkNat b 0 1 == 1 && bitOf (blkNat b 1 1) 0 == l.split && bitsOf (blkNat b 1 1) 1 1 == lk % 2
    && decide (15 ≤ blkNat b 14 2) && decide (15 ≤ blkNat b 18 2)

/-- The link becomes ACTIVE (R226, R233). -/
def State.tvActive (s : State) (lk : Nat) : State :=
  let l := s.tvl_ lk
  let h := s.holder
  s.setTvl lk { l with
    st := 4
    holderSaid := h
    kept := []
    crTurn := 0
    fseq := 0
    ackRx := 0
    ackTx := 0
    nakAt := none
    replays := 0
    part := []
    gotRs := 0
    gotEv := 0
    credRs := l.peerRs
    credEv := l.peerEv
    cntRq := 0
    cntPw := 0
    cntAt := 0
    cntEv := 0
    heldRq := 0
    heldPw := 0
    heldAt := 0
    crRq := if h then l.capRq else 0
    crPw := if h then l.capPw else 0
    crAt := if h then l.capAt else 0
    crEv := l.capEv }

/-- The twin CONFIG block is accepted (R319): version, and the same pair. -/
def State.twinConfigOk (s : State) (b : List Byte) : Bool :=
  blkNat b 0 1 == 1 && blkNat b 12 4 == (s.reg rTWN_PAIR_LO).toNat && blkNat b 16 4 == (s.reg rTWN_PAIR_HI).toNat

/-- The twin link becomes ACTIVE. -/
def State.twinActive (s : State) : State :=
  let l := s.tvl_ twinLk
  (s.setTvl twinLk { l with
    st := 4
    kept := []
    crTurn := 0
    fseq := 0
    ackRx := 0
    ackTx := 0
    nakAt := none
    replays := 0
    part := []
    gotRs := 0
    gotEv := 0
    gotMi := 0
    credRs := l.peerRs
    credEv := l.peerEv
    credMi := l.peerMi
    cntRq := 0
    cntRs := 0
    cntEv := 0 }).twinUp

/-- A CONFIG flit arrives (R227, R228): rejected, or accepted and its UID recorded; the MK1 then sends CONFIG flits with
ACK back to back, eight at least, and the peer's ACK completes the handshake. -/
def execConfigFlit (lk : Nat) (block : List Byte) (s : State) : Host.Outcome State Fault Refusal :=
  let l := s.tvl_ lk
  finish (if l.st ≠ 3 then s
    else if lk = twinLk then
      (if !s.twinConfigOk block then s.tvFail lk 3
       else
        let s1 := (s.setTvl lk { l with
          uid := blkNat block 4 8
          peerMi := blkNat block 20 4
          peerRs := 16 * blkNat block 24 1
          peerEv := 16 * blkNat block 25 1 }).tvConfigOut lk true
        if bitOf (blkNat block 1 1) 0 then s1.twinActive else s1)
    else if !tvConfigOk l lk block then s.tvFail lk 3
    else
      let uid := blkNat block 4 8
      let s1 := if l.uid ≠ 0 ∧ l.uid ≠ uid then
          (s.raise (tvSrc lk 7)).note 0x3F2 ([lk / 2, lk % 2] ++ words2 uid ++ words2 l.uid)
        else s
      let s2 := s1.setTvl lk { s1.tvl_ lk with uid := uid, peerRs := blkNat block 14 2, peerEv := blkNat block 18 2 }
      let s3 := s2.tvConfigOut lk true
      if bitOf (blkNat block 1 1) 3 then s3.tvActive lk else s3)

/-- CONFIG has lasted 100 µs. -/
def execConfigTimeout (lk : Nat) (s : State) : Host.Outcome State Fault Refusal :=
  finish (if (s.tvl_ lk).st = 3 then s.tvFail lk 3 else s)

/-! ### Flits -/

/-- Replays every kept flit, in order (R219): counted, and the eighth replay in a row from one ACKSEQ takes the link to RECOVERY
(R221). -/
def State.tvReplay (s : State) (lk : Nat) : State :=
  let l := s.tvl_ lk
  let s1 := ((s.setTvl lk { l with replays := l.replays + 1 }).resend lk).tvOnly lk
    (fun s => (s.bump (rTVL_CNT_REPLAY + tvOff lk)).raise (tvSrc lk 5))
  if l.replays + 1 ≥ 8 then s1.tvRecover lk else s1

/-- An ACKSEQ frees replay entries when it is at or beyond the last one and not beyond what was sent (R219). -/
def State.tvAck (s : State) (lk a : Nat) : State :=
  let l := s.tvl_ lk
  if seqBetween l.ackRx l.fseq a then s.setTvl lk (l.acked a) else s

/-- A discarded flit is answered with NAK in the next flit header, that of an IDLE flit, once until a flit is accepted or REPLAY_US has passed (R220). -/
def State.tvNak (s : State) (lk : Nat) : State :=
  let l := s.tvl_ lk
  let wait := if lk = twinLk then 1 else max 1 (s.fld (fTVL_TIMERS_REPLAY_US.plus (tvPort lk)))
  match l.nakAt with
  | some t => if s.timeUs < t + wait then s else (s.setTvl lk { l with nakAt := some s.timeUs }).idleFlit lk true
  | none => (s.setTvl lk { l with nakAt := some s.timeUs }).idleFlit lk true

/-- Credits of a header (R215, R223): the difference from the last count received. -/
def tvCredit (l : TvLink) (cls n : Nat) : TvLink :=
  if cls = 1 then { l with credRs := l.credRs + (n + 4096 - l.gotRs) % 4096, gotRs := n }
  else if cls = 3 then { l with credEv := l.credEv + (n + 4096 - l.gotEv) % 4096, gotEv := n }
  else l

/-- Credits of a twin header (R215, R320): the difference from the last count received. -/
def twinCredit (l : TvLink) (cls n : Nat) : TvLink :=
  if cls = 0 then { l with credMi := l.credMi + (n + 4096 - l.gotMi) % 4096, gotMi := n }
  else if cls = 1 then { l with credRs := l.credRs + (n + 4096 - l.gotRs) % 4096, gotRs := n }
  else if cls = 2 then { l with credEv := l.credEv + (n + 4096 - l.gotEv) % 4096, gotEv := n }
  else l

/-- The slots of a frame that left the receive buffer, in the count of its class (R223, R320). -/
def twinFreed (l : TvLink) (h : BitVec 128) : TvLink :=
  let c := bitsOf h.toNat 1 0
  let n := bitsOf h.toNat 5 2
  if c = 0 then { l with cntRq := (l.cntRq + n) % 4096 }
  else if c = 1 then { l with cntRs := (l.cntRs + n) % 4096 }
  else { l with cntEv := (l.cntEv + n) % 4096 }

/-- A header slot of the slot stream is legal (R217, R218, R224): reserved bits, SLOTS, ATOMIC, class, credits. On a link
that was told HOLDER = 0 messages are discarded, so their credits are not asked for (R234). -/
def tvHeadOk (l : TvLink) (h : BitVec 128) : Bool :=
  let c := bitsOf h.toNat 1 0
  let n := bitsOf h.toNat 5 2
  n != 0 && !h.getLsbD 7 && (!h.getLsbD 6 || c == 0) && c != 1
    && (!l.holderSaid
      || ((c != 0 || decide (n ≤ l.crRq)) && (c != 2 || decide (n ≤ l.crPw)) && (c != 3 || decide (n ≤ l.crEv))
        && (!h.getLsbD 6 || decide (1 ≤ l.crAt))))

/-- Credits spent at a message's first slot (R223). -/
def tvSpend (l : TvLink) (h : BitVec 128) : TvLink :=
  let c := bitsOf h.toNat 1 0
  let n := bitsOf h.toNat 5 2
  if !l.holderSaid then l
  else
    { l with
      crRq := if c = 0 then l.crRq - n else l.crRq
      crPw := if c = 2 then l.crPw - n else l.crPw
      crEv := if c = 3 then l.crEv - n else l.crEv
      crAt := if h.getLsbD 6 then l.crAt - 1 else l.crAt }

/-- What parsing the slots of a DATA flit gives: the link, messages discarded under R234, where the first message
begins, a protocol error. -/
structure TvParse where
  link : TvLink
  dropped : Nat := 0
  first : Nat := 15
  bad : Bool := false

/-- A message grows by one slot, and is whole or goes on. -/
def tvGrow (p : TvParse) (m : List (BitVec 128)) : TvParse :=
  let need := bitsOf (m.headD 0).toNat 5 2
  if m.length < need then { p with link := { p.link with part := m } }
  else if p.link.holderSaid then { p with link := { p.link with part := [], buf := p.link.buf ++ [m] } }
  else { p with link := { p.link with part := [] }, dropped := p.dropped + 1 }

/-- Parses one slot (R217). -/
def tvSlot (p : TvParse) (i : Nat) (x : BitVec 128) : TvParse :=
  if p.bad then p
  else if !p.link.part.isEmpty then tvGrow p (p.link.part ++ [x])
  else if x = 0 then p
  else if !tvHeadOk p.link x then { p with bad := true }
  else tvGrow { p with link := tvSpend p.link x, first := min p.first i } [x]

/-- Parses the 15 slots of a DATA flit whose header names FIRST_SLOT. -/
def tvParse (l : TvLink) (firstSlot : Nat) (slots : List (BitVec 128)) : TvParse :=
  let p := (upTo 15).foldl (fun p i => tvSlot p i (slots.getD i 0)) { link := l }
  { p with bad := p.bad || p.first != firstSlot }

/-- A protocol error (R218): source +4, LOST with cause 4. -/
def State.tvProtocol (s : State) (lk : Nat) : State := (s.tvOnly lk (fun s => s.raise (tvSrc lk 4))).tvLose lk 4

/-- Opcodes of twin frames with their class and slots (R321, R322): the SLOTS a header may give. -/
def twinFrameOk (c n op : Nat) : Bool :=
  if c = 0 then
    (if op = 0x01 ∨ op = 0x30 then n == 9 else if op = 0x02 then n == 10 else if op = 0x03 then n == 2 || n == 3
     else if op = 0x20 ∨ op = 0x32 then decide (2 ≤ n)
     else if op = 0x04 ∨ op = 0x10 ∨ op = 0x11 ∨ op = 0x21 ∨ op = 0x31 ∨ op = 0x33 ∨ op = 0x34 then n == 1 else false)
  else if c = 1 then
    (if op = 0x81 ∨ op = 0x84 ∨ op = 0x85 then n == 1 else if op = 0x82 ∨ op = 0x83 then n == 2
     else if op = 0x86 then decide (2 ≤ n) else false)
  else if c = 2 then (if op = 0xA4 then n == 2 else decide (0xA0 ≤ op ∧ op ≤ 0xA5) && n == 1)
  else false

/-- A twin frame grows by one slot; whole, it leaves the receive buffer, to the command of its frame. -/
def twinGrow (p : TvParse) (m : List (BitVec 128)) : TvParse :=
  if m.length < bitsOf (m.headD 0).toNat 5 2 then { p with link := { p.link with part := m } }
  else { p with link := twinFreed { p.link with part := [] } (m.headD 0) }

/-- Parses one slot of the twin link. -/
def twinSlot (p : TvParse) (i : Nat) (x : BitVec 128) : TvParse :=
  if p.bad then p
  else if !p.link.part.isEmpty then twinGrow p (p.link.part ++ [x])
  else if x = 0 then p
  else if x.getLsbD 6 || x.getLsbD 7 || !twinFrameOk (bitsOf x.toNat 1 0) (bitsOf x.toNat 5 2) (bitsOf x.toNat 15 8) then
    { p with bad := true }
  else twinGrow { p with first := min p.first i } [x]

/-- The slots of a DATA flit of the twin link (R217, R320 to R322): headers are checked, and a message that is whole is
left to the command of its frame. -/
def State.twinParse (s : State) (firstSlot : Nat) (slots : List (BitVec 128)) : State × Bool :=
  let p := (upTo 15).foldl (fun p i => twinSlot p i (slots.getD i 0)) ({ link := s.tvl_ twinLk } : TvParse)
  (s.setTvl twinLk p.link, !p.bad && p.first == firstSlot)

/-- A DATA flit of the twin link in sequence; CTRL flits are not used there. -/
def State.twinAccept (s : State) (hdr : BitVec 64) (slots : List (BitVec 128)) : State :=
  let s1 := s.setTvl twinLk { s.tvl_ twinLk with ackTx := bitsOf hdr.toNat 13 2, nakAt := none }
  if bitsOf hdr.toNat 1 0 = 2 then s1.tvProtocol twinLk
  else
    let p := s1.twinParse (bitsOf hdr.toNat 51 48) slots
    if p.2 then p.1 else p.1.tvProtocol twinLk

/-- A flit of the twin link that is not bad (R318). -/
def State.twinFlit (s : State) (hdr : BitVec 64) (slots : List (BitVec 128)) : State :=
  let s0 := s.tvAck twinLk (bitsOf hdr.toNat 25 14)
  let s1 := s0.setTvl twinLk (twinCredit (s0.tvl_ twinLk) (bitsOf hdr.toNat 29 28) (bitsOf hdr.toNat 41 30))
  let s2 :=
    if bitsOf hdr.toNat 1 0 = 0 then s1
    else if bitsOf hdr.toNat 13 2 = ((s1.tvl_ twinLk).ackTx + 1) % 4096 then s1.twinAccept hdr slots
    else s1.tvNak twinLk
  if hdr.getLsbD 26 ∧ (s2.tvl_ twinLk).st = 4 then s2.tvReplay twinLk else s2

/-- A DATA or CTRL flit in sequence (R217, R232). -/
def State.tvAccept (s : State) (lk : Nat) (hdr : BitVec 64) (slots : List (BitVec 128)) : State :=
  let s1 := (s.setTvl lk { s.tvl_ lk with ackTx := bitsOf hdr.toNat 13 2, nakAt := none }).bump (rTVL_CNT_FLIT_RX + tvOff lk)
  let first := bitsOf hdr.toNat 51 48
  if bitsOf hdr.toNat 1 0 = 2 then
    (if first = 15 ∧ bitsOf (slots.headD 0).toNat 7 0 = 1 then s1 else s1.tvProtocol lk)
  else
    let p := tvParse (s1.tvl_ lk) first slots
    let s2 := (s1.setTvl lk p.link).bumpBy (rTVL_CNT_DISCARD + tvOff lk) p.dropped
    if p.bad then s2.tvProtocol lk else s2

/-- A flit arrives on an ACTIVE link (R213, R215 to R224): `bad` is a code word that FEC could not correct, `fixed` the
symbols it corrected. -/
def execFlitReceive (lk : Nat) (hdr : BitVec 64) (slots : List (BitVec 128)) (crc : BitVec 64) (bad : Bool) (fixed : Nat)
    (s : State) : Host.Outcome State Fault Refusal :=
  let s0 := s.bumpBy (rTVL_CNT_FEC_CORR + tvOff lk) fixed
  let s1 := if bad then (s0.bump (rTVL_CNT_FEC_UNCORR + tvOff lk)).raise (tvSrc lk 6) else s0
  finish (if lk = twinLk then
      (if (s.tvl_ lk).st ≠ 4 then s
       else if bad ∨ digestOut (crc64 digestInit (flitBytes hdr slots)) ≠ crc then s.tvNak lk
       else if bitsOf hdr.toNat 1 0 = 3 then s
       else s.twinFlit hdr slots)
    else if lk ≥ 32 then s
    else if (s.tvl_ lk).st ≠ 4 then s1
    else if bad ∨ digestOut (crc64 digestInit (flitBytes hdr slots)) ≠ crc then
      (s1.bump (rTVL_CNT_CRC + tvOff lk)).tvNak lk
    else if bitsOf hdr.toNat 1 0 = 3 then s1
    else
      let s2 := s1.tvAck lk (bitsOf hdr.toNat 25 14)
      let s3 := s2.setTvl lk (tvCredit (s2.tvl_ lk) (bitsOf hdr.toNat 29 28) (bitsOf hdr.toNat 41 30))
      let s4 :=
        if bitsOf hdr.toNat 1 0 = 0 then s3
        else if bitsOf hdr.toNat 13 2 = ((s3.tvl_ lk).ackTx + 1) % 4096 then s3.tvAccept lk hdr slots
        else s3.tvNak lk
      let s5 := if hdr.getLsbD 26 ∧ (s4.tvl_ lk).st = 4 then s4.tvReplay lk else s4
      if (s5.tvl_ lk).st = 4 then s5.tvPump lk else s5)

/-- ACKSEQ has not advanced for REPLAY_US with flits kept (R219). -/
def execReplayTimeout (lk : Nat) (s : State) : Host.Outcome State Fault Refusal :=
  finish (if (s.tvl_ lk).st = 4 ∧ (s.tvl_ lk).ackRx ≠ (s.tvl_ lk).fseq then s.tvReplay lk else s)

/-- Lock is lost, or no intact flit has come for 10 µs (R226). -/
def execFlitLossTimeout (lk : Nat) (s : State) : Host.Outcome State Fault Refusal :=
  finish (if (s.tvl_ lk).st = 4 then s.tvRecover lk else s)

/-- Lock is regained and an IDLE flit with this ACKSEQ has come (R226): replay from there, and ACTIVE. -/
def execRecoveryRegained (lk ackseq : Nat) (s : State) : Host.Outcome State Fault Refusal :=
  finish (if (s.tvl_ lk).st ≠ 5 then s
    else
      let s1 := s.tvAck lk (ackseq % 4096)
      let s2 := s1.setTvl lk { s1.tvl_ lk with st := 4, replays := 0 }
      let s3 := if (s2.tvl_ lk).ackRx ≠ (s2.tvl_ lk).fseq then s2.tvReplay lk else s2
      if lk = twinLk then s3 else s3.tvPump lk)

/-- RECOV_MS has passed in RECOVERY. -/
def execRecoveryTimeout (lk : Nat) (s : State) : Host.Outcome State Fault Refusal :=
  finish (if (s.tvl_ lk).st = 5 then s.tvLose lk 5 else s)

/-- Partner loss (R229). -/
def execPartnerLoss (lk : Nat) (s : State) : Host.Outcome State Fault Refusal :=
  finish (if (s.tvl_ lk).st = 4 ∨ (s.tvl_ lk).st = 5 then s.tvLose lk 0 else s)

/-- 10 µs of electrical idle in LOST have passed. -/
def execLostIdleDone (lk : Nat) (s : State) : Host.Outcome State Fault Refusal :=
  finish (if (s.tvl_ lk).st = 6 then s.setTvl lk { s.tvl_ lk with st := 0 } else s)

/-- A link goes down at once (R231): from ACTIVE or RECOVERY with the effects of R230. The number of the cause in its
record is not the manual's. -/
def State.tvStop (s : State) (lk cause : Nat) : State :=
  let l := s.tvl_ lk
  if l.st = 0 then s
  else
    let s1 := if l.st = 4 ∨ l.st = 5 then s.tvLose lk cause else s.emit (.tvLink lk "idle" 0)
    s1.setTvl lk { s1.tvl_ lk with st := 0 }

/-- TVL_CTRL.ENABLE is written 0 (R226, R231). -/
def State.tvlDisable (s : State) (port : Nat) : State :=
  if port ≥ 16 then s
    else
      let s1 := s.setFld (fTVL_CTRL_ENABLE.plus (0x100000 * port)) 0
      let c := Config.itemCode 0x3F0 3 0
      (s1.tvStop (2 * port) c).tvStop (2 * port + 1) c

/-- TvlDisable. -/
def execTvlDisable (port : Nat) (s : State) : Host.Outcome State Fault Refusal := finish (s.tvlDisable port)

/-- TVL_CMD.RETRAIN: the half goes to LOST and trains again (R226, R230). -/
def State.tvlRetrain (s : State) (port half : Nat) : State :=
  let lk := 2 * port + half % 2
  if port ≥ 16 then s
    else
      let s1 := s.setFld (fTVL_CMD_HALF.plus (0x100000 * port)) half
      if (s1.tvl_ lk).st = 0 ∨ (s1.tvl_ lk).st = 6 then s1 else s1.tvLose lk (Config.itemCode 0x3F0 3 1)

/-- TvlRetrain. -/
def execTvlRetrain (port half : Nat) (s : State) : Host.Outcome State Fault Refusal := finish (s.tvlRetrain port half)

end Sys2Proof.Machine
end

