-- ==== Sys2Proof/Machine/TwnRows.lean ====
section
/-! DEFINITION. The commands of the twin pair (R315 to R344): mirrored frames, Return and Lease frames, the heartbeat, the
witness; and the twin services' effects. -/

namespace Sys2Proof.Machine

/-- A frame in the wrong direction is a protocol error (R218, R322): the twin link goes to LOST. -/
def State.twinProtocol (s : State) : State :=
  if s.twn.linkUp then (s.setTvl 32 { s.tvl_ 32 with st := 6 }).twinDown else s

/-- The twin link is lost (R326, R341). -/
def execTwinLinkLost (s : State) : Host.Outcome State Fault Refusal :=
  finish (if s.twn.linkUp then (s.setTvl 32 { s.tvl_ 32 with st := 6 }).twinDown else s)

/-! ### Sequenced frames -/

/-- A sequenced frame arrives (R321, R323): a standby takes it in order; a holder never receives one. -/
def State.rxFrame (s : State) (f : MFrame) : State :=
  if s.twn.role = .active then s.twinProtocol
  else if (s.twn.role = .inStep ∨ s.twn.role = .catchingUp) ∧ s.twn.linkUp then
    { s with twn := { s.twn with rxq := s.twn.rxq ++ [f] } }
  else s

def execWFull (stream line ssn kind : Nat) (result : Bool) (data : Line) (s : State) : Host.Outcome State Fault Refusal :=
  finish (s.rxFrame (.wFull stream line ssn kind result data))

def execWMasked (stream line ssn : Nat) (mask : BitVec 128) (data : Line) (s : State) : Host.Outcome State Fault Refusal :=
  finish (s.rxFrame (.wMasked stream line ssn mask data))

def execWAtomic (stream line ssn aop off : Nat) (a b : BitVec 128) (s : State) : Host.Outcome State Fault Refusal :=
  finish (s.rxFrame (.wAtomic stream line ssn aop off a b))

def execWZero (stream line ssn : Nat) (s : State) : Host.Outcome State Fault Refusal :=
  finish (s.rxFrame (.wZero stream line ssn))

def execTwinEpochFrame (stream eop cause : Nat) (mode fin setMode : Bool) (epoch : Nat) (s : State) :
    Host.Outcome State Fault Refusal :=
  finish (s.rxFrame (.epoch stream eop cause mode fin setMode epoch))

def execTwinSsnFrame (stream ssn : Nat) (s : State) : Host.Outcome State Fault Refusal := finish (s.rxFrame (.ssn stream ssn))

def execTwinServiceFrame (svc : Svc) (result : Nat) (s : State) : Host.Outcome State Fault Refusal :=
  finish (s.rxFrame (.service svc result 0))

def execTwinFillFrame (folio : Nat) (s : State) : Host.Outcome State Fault Refusal := finish (s.rxFrame (.fill folio))

def execRsLine (line : Nat) (tag : Tag) (data : Line) (s : State) : Host.Outcome State Fault Refusal :=
  finish (s.rxFrame (.rsLine line tag data))

def execRsTrim (tile : Nat) (s : State) : Host.Outcome State Fault Refusal := finish (s.rxFrame (.rsTrim tile))

def execRsState (item : RsItem) (s : State) : Host.Outcome State Fault Refusal := finish (s.rxFrame (.rsState item))

def execRsRegion (region : Nat) (s : State) : Host.Outcome State Fault Refusal := finish (s.rxFrame (.rsRegion region))

/-- RS_END (R316, R343). -/
def execRsEnd (s : State) : Host.Outcome State Fault Refusal := finish (s.rxFrame .rsEnd)

/-- The next marked region is copied (R343). -/
def execResyncRegionCopy (s : State) : Host.Outcome State Fault Refusal :=
  finish (if s.twn.role = .active ∧ s.twn.partner = .catching ∧ s.twn.copying.isNone then s.copyStart else s)

/-! ### Return frames -/

/-- What a Return frame does at a holder; at a standby it is a protocol error, elsewhere it is dropped. -/
def State.returnFrame (s : State) (body : State → State) : State :=
  if s.twn.role = .active then (if s.twn.partner = .lost then s else body s)
  else if s.twn.role = .inStep ∨ s.twn.role = .catchingUp then s.twinProtocol
  else s

/-- A line past PENDING (R79): DIRTY, or UNBACKED, unless a later frame not yet covered names it. -/
def State.unpend (s : State) (line : Nat) : State :=
  if s.twn.sent.any (fun f => f.lines.contains line) then s
  else match s.findWay (line / 32) with
    | none => s
    | some k =>
      let unb := (s.objOfShelf (shelfOf (line / 32))).cls == 3
      match s.peek (s.wayLine k (line % 32)) with
      | .good _ t _ => if tagState t = 2 then s.setLineState (s.wayLine k (line % 32)) (if unb then 3 else 1) else s
      | .uncorrectable => s

/-- APPLIED (R55, R79, R322). -/
def execApplied (mseq : Nat) (s : State) : Host.Outcome State Fault Refusal :=
  finish (s.returnFrame (fun s =>
    let cov (f : SentFrame) : Bool := decide ((mseq + 2 ^ 48 - f.mseq % 2 ^ 48) % 2 ^ 48 < 2 ^ 47)
    let gone := s.twn.sent.filter cov
    if gone.isEmpty then s
    else
      let s1 := { s with twn := { s.twn with sent := s.twn.sent.filter (fun f => !cov f), appliedAt := s.timeUs } }
      ((gone.flatMap (·.lines)).foldl State.unpend s1).releaseAll))

/-- RESULT (R329, R330). -/
def execResult (mseq : Nat) (casOk : Bool) (old : Nat) (s : State) : Host.Outcome State Fault Refusal :=
  finish (s.returnFrame (fun s =>
    match s.twn.atoms.find? (fun a => a.mseq == mseq) with
    | none => s
    | some a =>
      let s1 := { s with twn := { s.twn with atoms := s.twn.atoms.filter (fun b => b.mseq != mseq) } }
      if leNat a.old = old ∧ a.casOk = casOk then
        let r := s1.stream a.stream
        (s1.setStream a.stream { r with acks := r.acks.map (fun (w : AckWait) =>
          if w.mseq == some mseq then { w with needResult := false } else w) }).releaseAcks a.stream
      else
        let s2 := ((s1.bumpFld fTWN_CNT_MISMATCH_RESULT).raise 0x304).note 0x433
          ([a.stream, (s1.stream a.stream).epoch] ++ words2 (leNat a.old % 2 ^ 64) ++ words2 (old % 2 ^ 64))
        s2.fenceOut 2))

/-- A failure indication of a digest (R330): the standby is fenced; a close on a Tvedfy stream commits and is answered
UNKNOWN_OUTCOME, one on a RoCE stream takes its queue pair to ERROR. -/
def State.digestFail (s : State) (i reason : Nat) (partner : BitVec 64) : State :=
  let r := s.stream i
  let own := digestOut r.digest
  let s1 := (s.raise 0x303).note 0x433 ([i, r.epoch] ++ words2 own.toNat ++ words2 partner.toNat)
  let s2 := s1.fenceOut reason
  if i < 65536 then s2.commitClose i true true
  else
    match (s2.stream i).close with
    | some { src := .roce q id, .. } =>
      (match (s2.qp q).out.find? (fun o => o.id == id) with
        | some o => s2.qpError q o 0x63 0 false
        | none => s2)
    | _ => s2.faultEpoch i 3 false

/-- DIGEST (R328, R330). -/
def execDigest (stream epoch : Nat) (skipped : Bool) (crc : BitVec 64) (mseq : Nat) (s : State) :
    Host.Outcome State Fault Refusal :=
  finish (s.returnFrame (fun s =>
    let r := s.stream stream
    match r.st, r.close with
    | .closing, some c =>
      if c.mseq ≠ some mseq ∨ r.epoch ≠ epoch then s
      else
        let ok := s.setStream stream { r with close := some { c with digestOk := true } }
        if skipped then ok.bump rTWN_CNT_DIGEST_SKIP
        else if crc = digestOut r.digest then ok.bump rTWN_CNT_DIGEST
        else ((s.bump rTWN_CNT_DIGEST).bumpFld fTWN_CNT_MISMATCH_DIGEST).digestFail stream 0 crc
    | _, _ => s))

/-- No DIGEST within DIGEST_US of the CLOSE while the link is ACTIVE (R330). -/
def execDigestTimeout (stream : Nat) (s : State) : Host.Outcome State Fault Refusal :=
  let r := s.stream stream
  finish (match r.st, r.close with
    | .closing, some c =>
      if s.twn.role = .active ∧ s.twn.partner ≠ .lost ∧ s.twn.linkUp ∧ c.mseq.isSome ∧ !c.digestOk then s.digestFail stream 1 0
      else s
    | _, _ => s)

/-- STATUS (R327): one below the MSEQ held is ignored; allocations that wait run. -/
def execTwinStatus (free stage mseq : Nat) (s : State) : Host.Outcome State Fault Refusal :=
  finish (s.returnFrame (fun s =>
    let old : Bool := match s.twn.status with | some (_, m) => decide (mseq < m) | none => false
    if old ∨ stage > 7 then s
    else
      ({ s with twn := { s.twn with
        status := some (free, mseq)
        allocs := s.twn.allocs.filter (fun a => decide (mseq < a.1)) } }).runAllocWaits))

/-- Every 1 ms the standby sends STATUS. -/
def execStatusTimer (s : State) : Host.Outcome State Fault Refusal :=
  finish (if (s.twn.role = .inStep ∨ s.twn.role = .catchingUp) ∧ s.twn.linkUp then
      s.twinOut (.status s.freeTotal s.rsv.stage s.lastMseq)
    else s)

/-- FAULT (R326): the standby is lost, and fenced; one that could not allocate its shelves is refused (R343). -/
def execFault (cause mseq : Nat) (s : State) : Host.Outcome State Fault Refusal :=
  finish (s.returnFrame (fun s =>
    if mseq ≥ 2 ^ 48 then s
    else if cause = 1 ∧ s.twn.partner = .catching then (s.twinOut (.join s.twn.gen false 1)).standbyLost
    else s.fenceOut 3))

/-- DIVERGE (R342). -/
def execDiverge (regions : List Nat) (s : State) : Host.Outcome State Fault Refusal :=
  finish (if s.twn.role = .active then regions.foldl (fun s r => s.mark (r % 2 ^ 33)) s
    else if s.twn.role = .inStep then s.twinProtocol else s)

/-- APPLIED has not advanced for STALL_MS with frames outstanding (R326). -/
def execAppliedStall (s : State) : Host.Outcome State Fault Refusal :=
  finish (if s.twn.role = .active ∧ s.twn.partner ≠ .lost ∧ !s.twn.sent.isEmpty then s.fenceOut 4 else s)

/-! ### Lease frames -/

/-- Every 2 ms the holder sends LEASE (R331). -/
def execLeaseTimer (s : State) : Host.Outcome State Fault Refusal :=
  finish (if s.twn.role = .active ∧ s.twn.linkUp then
      let n := (s.twn.renew + 1) % 2 ^ 32
      ({ s with twn := { s.twn with renew := n, leases := s.twn.leases ++ [(n, s.timeUs)] } }).twinOut
        (.lease s.twn.gen n s.lastMseq)
    else s)

/-- LEASE arrives (R316, R332): the view runs 10.1 ms; a unit IN_STEP answers. -/
def execLease (gen renew mseq : Nat) (s : State) : Host.Outcome State Fault Refusal :=
  finish (if (s.twn.role = .inStep ∨ s.twn.role = .catchingUp ∨ s.twn.role = .claiming) ∧ s.twn.linkUp ∧ mseq < 2 ^ 48 then
      let s1 := { s with twn := { s.twn with viewUntil := s.timeUs + 10100, renew := renew } }
      if s1.twn.role = .inStep then s1.twinOut (.leaseAck gen renew) else s1
    else s)

/-- LEASE_ACK arrives (R331): the right to act runs 10 ms from when its LEASE was sent. -/
def execLeaseAck (gen renew : Nat) (s : State) : Host.Outcome State Fault Refusal :=
  finish (if s.twn.role ≠ .active ∨ gen ≠ s.twn.gen then s
    else match s.twn.leases.find? (fun l => l.1 == renew) with
      | none => s
      | some l =>
        { s with twn := { s.twn with
          leases := s.twn.leases.filter (fun x => x.1 != renew)
          leaseUntil := max s.twn.leaseUntil (l.2 + 10000) } })

/-- LEASE_DROP arrives (R316, R332). -/
def execLeaseDrop (gen mseq reason : Nat) (s : State) : Host.Outcome State Fault Refusal :=
  finish (if s.twn.role = .inStep ∧ reason ≤ 2 then
      ({ s with twn := { s.twn with dropAt := some mseq, gen := max s.twn.gen gen } }).metaTouch metaRest
    else s)

/-- No condition of R331 holds any longer: the holder demotes. -/
def execLeaseLapse (s : State) : Host.Outcome State Fault Refusal :=
  finish (if s.twn.role = .active ∧ !s.mayAct then s.demote .detached else s)

/-- The standby's lease view expires (R316, R332): a claimer that holds a GRANT gains. -/
def execLeaseViewExpiry (s : State) : Host.Outcome State Fault Refusal :=
  let s1 := { s with twn := { s.twn with viewUntil := 0 } }
  finish (if s1.twn.role = .claiming ∧ s1.twn.grantHeld ≠ 0 then s1.gain (s1.twn.grantHeld - 1) 0 else s1)

/-- FENCE arrives (R340). -/
def execFence (gen reason : Nat) (s : State) : Host.Outcome State Fault Refusal :=
  finish (if (s.twn.role = .inStep ∨ s.twn.role = .catchingUp) ∧ gen < 2 ^ 32 then
      ((s.raise 0x309).note 0x432 ([reason] ++ words2 s.lastMseq)).fenced
    else s)

/-- This unit ranks before its partner (R336). -/
def State.ranksFirst (s : State) (gen : Nat) (wasHolder stateOk vaultOk : Bool) : Bool :=
  let mine := s.twn.stateOk && s.twn.vaultOk
  let theirs := stateOk && vaultOk
  if s.twn.gen ≠ gen then decide (gen < s.twn.gen)
  else if s.twn.wasHolder != wasHolder then s.twn.wasHolder
  else if mine != theirs then mine
  else decide (s.sec.fuse.uid.toNat < (s.tvl_ 32).uid)

/-- HELLO arrives (R316, R336, R343). -/
def execHello (gen : Nat) (wasHolder stateOk vaultOk : Bool) (role diverge : Nat) (s : State) : Host.Outcome State Fault Refusal :=
  let w0 := 2 + 2 * 4 + 0xA4 * 2 ^ 8 + gen * 2 ^ 16 + b2n wasHolder * 2 ^ 48 + b2n stateOk * 2 ^ 49 + b2n vaultOk * 2 ^ 50
    + role * 2 ^ 51
  let s1 := { s with twn := { s.twn with lastHello := words2 (w0 % 2 ^ 64) ++ [0, 0] ++ words2 diverge ++ [0, 0] } }
  finish (match s1.twn.role with
    | .active =>
      if role = 2 then s1
      else if s1.twn.partner ≠ .lost ∨ s1.twn.handover.isSome then s1.twinOut (.join s1.twn.gen false 3)
      else s1.acceptJoin gen stateOk
    | .starting =>
      if role = 2 then s1.hello
      else if role ≠ 1 then s1
      else if !s1.ranksFirst gen wasHolder stateOk vaultOk ∨ !s1.twn.stateOk then s1
      else if s1.witness then { s1 with twn := { s1.twn with role := .claiming, claimWhy := 2, viewUntil := 0 } }
      else s1.gain s1.twn.gen 2
    | .detached =>
      if role = 2 then (if s1.flag fTWN_CTRL_AUTO_JOIN then s1.hello else s1)
      else if role = 1 then s1 else s1.twinOut (.join s1.twn.gen false 2)
    | _ => if role = 1 ∨ role = 2 then s1 else s1.twinOut (.join s1.twn.gen false 2))

/-- JOIN arrives (R316, R343): catch-up begins with the holder's tables, or the unit is refused. -/
def execJoin (gen : Nat) (accept : Bool) (reason : Nat) (s : State) : Host.Outcome State Fault Refusal :=
  let may := s.twn.role == .starting || s.twn.role == .detached || s.twn.role == .fenced || s.twn.role == .claiming
  finish (if accept then
      (if !may ∨ !s.twn.linkUp then s
       else
        State.metaTouch { s with
          epo := { s.epo with streams := [], used := [], loads := [], behind := [] }
          tqm := { s.tqm with windows := [] }
          nre := { s.nre with hosts := [] }
          twn := { s.twn with
            role := .catchingUp
            gen := gen
            mseq := 0
            rxq := []
            rxBusy := false
            rxWant := none
            wreq := none
            grantHeld := 0
            handed := false
            wasHolder := false
            joinAt := s.timeUs } } metaRest)
    else if s.twn.role = .catchingUp ∧ reason = 1 then s.detach
    else if s.twn.role = .claiming ∧ s.twn.takeover.isNone then s.detach
    else s)

/-! ### Heartbeat (R334, R341) -/

/-- Width of the pulse a role sends, in µs; a unit alone sends none. -/
def Role.pulse : Role → Nat
  | .active => 1
  | .inStep => 3
  | .catchingUp => 3
  | .detached => 3
  | .claiming => 5
  | .starting => 7
  | .fenced => 7
  | .unpaired => 0

/-- Every 100 µs TWIN_HB_OUT is pulsed. -/
def execHbPulseOut (s : State) : Host.Outcome State Fault Refusal :=
  let on := s.pwr.st == .service || s.pwr.st == .trimmed || s.pwr.st == .vault
    || (s.pwr.st == .starting && decide (6 ≤ s.cru.step) && !s.cru.failed)
  finish (if s.twn.role = .unpaired ∨ !on then s else s.emit (.pulse s.twn.role.pulse))

/-- The code of a width in ns, 0 for a width that is none. -/
def hbCode (ns : Nat) : Nat :=
  if 500 ≤ ns ∧ ns ≤ 1500 then 1 else if 2500 ≤ ns ∧ ns ≤ 3500 then 2
  else if 4500 ≤ ns ∧ ns ≤ 5500 then 3 else if 6500 ≤ ns ∧ ns ≤ 7500 then 4 else 0

/-- A heartbeat pulse of this width arrives: two valid ones since the link went down show an IN_STEP unit that its partner
lives. -/
def execHbPulseIn (ns : Nat) (s : State) : Host.Outcome State Fault Refusal :=
  let c := hbCode ns
  finish (if c = 0 then s.bump rTWN_CNT_HB_BAD
    else
      let n := if s.twn.linkUp then 0 else min 2 (s.twn.pulses + 1)
      let s1 := { s with twn := { s.twn with hbIn := c, hbAt := s.timeUs, pulses := n } }
      if s1.twn.role = .inStep ∧ !s1.twn.linkUp ∧ n ≥ 2 ∧ s1.twn.gaining.isNone then s1.detach else s1)

/-- 500 µs have passed without a valid pulse. -/
def execHbAbsent (s : State) : Host.Outcome State Fault Refusal :=
  let s1 := { s with twn := { s.twn with hbIn := 0 } }
  finish (if s1.twn.role = .inStep ∧ !s1.twn.linkUp ∧ s1.twn.gaining.isNone then
      (if s1.witness ∧ s1.flag fTWN_CTRL_AUTO_CLAIM then { s1 with twn := { s1.twn with role := .claiming, claimWhy := 0 } }
       else s1.detach)
    else s1)

/-! ### Witness (R335) -/

/-- 1 ms after entering CLAIMING, or 2 ms after DENY_HELD, the unit sends CLAIM. -/
def execClaimTimer (s : State) : Host.Outcome State Fault Refusal :=
  finish (if s.twn.role = .claiming ∧ s.twn.wreq.isNone ∧ s.twn.grantHeld = 0 then s.witnessAsk 1 else s)

/-- No HELLO has come for BOOT_S (R316). -/
def execBootTimeout (s : State) : Host.Outcome State Fault Refusal :=
  finish (if s.twn.role = .starting ∧ s.witness then
      { s with twn := { s.twn with role := .claiming, claimWhy := 2, viewUntil := 0 } }
    else s)

/-- Every 2 ms the holder renews at the witness while the twin link is down (R333). -/
def execWitnessRenewTimer (s : State) : Host.Outcome State Fault Refusal :=
  finish (if s.twn.role = .active ∧ s.witness ∧ !s.twn.linkUp ∧ s.twn.wreq.isNone then s.witnessAsk 2
    else s)

/-- A request unanswered for 2 ms is repeated; after three WITNESS_OK clears. -/
def execWitnessRetry (s : State) : Host.Outcome State Fault Refusal :=
  finish (match s.twn.wreq with
    | none => s
    | some w =>
      let s1 := { s with twn := { s.twn with witnessOk := s.twn.witnessOk && decide (w.tries + 1 < 3) } }
      s1.witnessMail { w with tries := w.tries + 1 })

/-- An answer is accepted (R335): its type, format, pair and unit, its CMAC, and the REQ_SEQ of a request outstanding.
Gives the request, when the message answered was sent, and GEN. -/
def State.witnessTake (s : State) (type : Nat) (msg : List Byte) : State × Option (WReq × Nat × Nat) :=
  let (s1, ok) := s.kceVerify (s.key (s.fld fTWN_WITNESS_KEY_SLOT)) (msg.take 40) (msg.drop 40)
  let s2 := if type = 0x81 then s1.bumpFld fTWN_CNT_WITNESS_GRANT else s1.bumpFld fTWN_CNT_WITNESS_DENY
  let n (a k : Nat) : Nat := leNat ((msg.drop a).take k)
  let fit := msg.length == 56 && n 0 1 == 1 && n 1 1 == type && n 4 4 == (s.reg rTWN_PAIR_LO).toNat
    && n 8 4 == (s.reg rTWN_PAIR_HI).toNat && n 12 8 == s.sec.fuse.uid.toNat && n 28 4 == s.dbk.cycles % 2 ^ 32
  match s.twn.wreq with
  | some w =>
    match w.sent.find? (fun p => p.1 == n 24 4) with
    | some p =>
      if ok && fit then ({ s2 with twn := { s2.twn with wreq := none, witnessOk := true } }, some (w, p.2, n 20 4)) else (s2, none)
    | none => (s2, none)
  | none => (s2, none)

/-- GRANT (R316, R331, R339). -/
def execWitnessGrant (msg : List Byte) (s : State) : Host.Outcome State Fault Refusal :=
  finish (match s.witnessTake 0x81 msg with
    | (s1, none) => s1
    | (s1, some (w, t, gen)) =>
      if w.type = 3 then s1
      else
        let s2 := { s1 with twn := { s1.twn with renewUntil := max s1.twn.renewUntil (t + 10000) } }
        if w.type = 2 ∨ s2.twn.role ≠ .claiming then s2
        else match s2.twn.takeover with
          | some k => s2.gain gen (if k.inStep then 3 else 4)
          | none =>
            if s2.twn.claimWhy = 2 then s2.gain gen 2
            else if s2.twn.claimWhy = 1 then s2.gain gen 1
            else if s2.timeUs ≥ s2.twn.viewUntil then s2.gain gen 0
            else { s2 with twn := { s2.twn with grantHeld := gen + 1 } })

/-- A TWIN_TAKEOVER fails: DENIED, and the unit takes its role back (R337). -/
def State.takeoverFail (s : State) (k : TakeSt) : State :=
  let s1 := s.svcOut k.slot svcDENIED
  { s1 with twn := { s1.twn with takeover := none, role := k.old } }

/-- A DENY counts (R345). -/
def State.denied (s : State) (type gen : Nat) : State := (s.raise 0x307).note 0x435 [type, gen]

/-- DENY_HELD (R316, R335, R337): a claimer tries again after 2 ms, a renewing holder demotes. -/
def execWitnessDenyHeld (msg : List Byte) (s : State) : Host.Outcome State Fault Refusal :=
  finish (match s.witnessTake 0x82 msg with
    | (s1, none) => s1
    | (s1, some (w, _, gen)) =>
      let s2 := s1.denied 0x82 gen
      if w.type = 2 then (if s2.twn.role = .active then s2.demote .detached else s2)
      else if w.type = 1 then
        (match s2.twn.takeover with
          | some k => if k.force then s2 else s2.takeoverFail k
          | none => s2)
      else s2)

/-- DENY_STALE (R316, R335, R337). -/
def execWitnessDenyStale (msg : List Byte) (s : State) : Host.Outcome State Fault Refusal :=
  finish (match s.witnessTake 0x83 msg with
    | (s1, none) => s1
    | (s1, some (w, _, gen)) =>
      let s2 := s1.denied 0x83 gen
      if w.type = 2 then (if s2.twn.role = .active then s2.demote .detached else s2)
      else if w.type = 1 ∧ s2.twn.role = .claiming then
        (match s2.twn.takeover with
          | some k =>
            if k.force then (({ s2 with twn := { s2.twn with gen := gen } }).metaTouch metaRest).witnessAsk 1 else s2.takeoverFail k
          | none => s2.detach.hello)
      else s2)

/-! ### Services (R337, R338, R340): the slot's result, or none while it runs -/

/-- A gain, a demotion or a handover is in progress. -/
def State.twnBusy (s : State) : Bool := s.twn.gaining.isSome || s.twn.takeover.isSome || s.twn.handover.isSome

/-- TWIN_JOIN (R316). -/
def State.doTwinJoin (s : State) : State × Option SvcRes :=
  if s.twn.role = .fenced ∨ s.twn.role = .detached then (if s.twnBusy then (s, some svcBUSY) else (s.hello, some svcOK))
  else if s.twn.role = .catchingUp then (s, some svcBUSY)
  else (s, some svcDENIED)

/-- TWIN_HANDOVER (R338). -/
def State.doTwinHandover (s : State) (slot : Nat) : State × Option SvcRes :=
  if s.twn.role ≠ .active ∨ s.twn.partner = .lost then (s, some svcDENIED)
  else if s.twnBusy ∨ s.twn.partner = .catching then (s, some svcBUSY)
  else (s.handoverStart 1 (some slot), none)

/-- TWIN_TAKEOVER (R337): without a witness at once, with one after a CLAIM. -/
def State.doTwinTakeover (s : State) (slot : Nat) (force : Bool) : State × Option SvcRes :=
  if s.twn.role = .active ∨ s.twn.role = .unpaired then (s, some svcDENIED)
  else if s.twnBusy then (s, some svcBUSY)
  else
    let inStep := s.twn.role == .inStep
    if !s.witness then (s.gain s.twn.gen (if inStep then 3 else 4), some svcOK)
    else
      ({ s with twn := { s.twn with
        takeover := some { slot := slot, force := force, inStep := inStep, old := s.twn.role }
        role := .claiming
        wreq := none
        grantHeld := 0 } }, none)

/-- TWIN_FENCE (R340), reason 5 of R322. -/
def State.doTwinFence (s : State) : State × Option SvcRes :=
  if s.twn.role = .unpaired then (s, some svcDENIED)
  else if s.twn.gaining.isSome then (s, some svcBUSY)
  else ((s.note 0x432 ([5] ++ words2 s.lastMseq)).fenced, some svcOK)

end Sys2Proof.Machine
end

