-- ==== Sys2Proof/Machine/MailOps.lean ====
section
/-! DEFINITION. The mailbox (R419 to R424): what a slot asks, the checks before a service runs, its result. -/

namespace Sys2Proof.Machine

/-- SVC, FLAGS and LENGTH of a slot. -/
def MbSlot.svc (x : MbSlot) : Nat := x.nat 0 1
def MbSlot.flags (x : MbSlot) : Nat := x.nat 1 1
def MbSlot.len (x : MbSlot) : Nat := x.nat 2 2
def MbSlot.first (x : MbSlot) : Bool := bitOf x.flags 1
def MbSlot.last (x : MbSlot) : Bool := bitOf x.flags 2

/-- Kind of a service (R423): 0 M, 1 R, 2 L. -/
def svcKind (c : Nat) : Nat := if c = 0x10 then 1 else if c < 0x30 then 0 else 2

/-- LENGTH of a service's body (R423), none for an unknown SVC. A chunk is as long as what it carries. -/
def MbSlot.want (x : MbSlot) : Option Nat :=
  let fixed : List (Nat × Nat) := [(0x01, 28), (0x02, 6), (0x03, 16), (0x04, 16), (0x05, 9), (0x06, 8), (0x07, 11), (0x08, 4),
    (0x09, 41), (0x0A, 4), (0x0B, 32), (0x10, 8), (0x11, 4), (0x12, 4), (0x13, 21), (0x21, 1), (0x22, 14), (0x23, 2),
    (0x24, 1), (0x25, 1), (0x30, 0), (0x31, 1), (0x32, 3), (0x33, 9), (0x34, 1), (0x38, 0), (0x39, 0), (0x3A, 0), (0x3B, 0),
    (0x41, 1), (0x42, 1), (0x43, 4), (0x49, 0)]
  match fixed.find? (fun p => p.1 == x.svc) with
  | some p => some p.2
  | none =>
    if x.svc = 0x20 then some (16 + 16 * x.arg 6 1)
    else if x.svc = 0x40 ∨ x.svc = 0x48 then some (16 + x.arg 8 2)
    else none

/-- A 2-byte host or tenant ID. -/
def MbSlot.id (x : MbSlot) (a : Nat) : Option Nat := let v := x.arg a 2; if v < 4096 then some v else none

/-- An 8-byte handle: the top 16 bits are 0 (R423). -/
def MbSlot.handle (x : MbSlot) (a : Nat) : Option Nat := let v := x.arg a 8; if v < 2 ^ 48 then some v else none

/-- Bytes [a, a + n) of the body are 0. -/
def MbSlot.zero (x : MbSlot) (a n : Nat) : Bool := x.arg a n == 0

/-- The entries of a schedule chunk (R298): handle, first tile, count; a reserved bit is an error. -/
def MbSlot.entries (x : MbSlot) : Option (List (Nat × Nat × Nat)) :=
  let n := x.arg 6 1
  let one (k : Nat) : Nat := x.arg (16 + 16 * k) 16
  if n = 0 ∨ n > 12 ∨ (upTo n).any (fun k => bitsOf (one k) 63 48 != 0) then none
  else some ((upTo n).map (fun k => (bitsOf (one k) 47 0, bitsOf (one k) 100 64, bitsOf (one k) 127 101)))

/-- The request of kind M that a slot holds (R423), none when a reserved bit or code is set. -/
def MbSlot.req (x : MbSlot) : Option Svc :=
  let c := x.svc
  let a := x.arg
  if c = 0x01 then
    (x.id 0).bind (fun t => if a 3 1 < 2 then
      some (.tenantSet t (a 2 1) (a 4 4) (a 8 4) (a 12 4) (a 16 4) (a 20 4) (a 24 4) (a 3 1 == 1)) else none)
  else if c = 0x02 then
    (x.id 2).bind (fun h => (x.id 4).bind (fun t => if a 0 1 < 16 ∧ a 1 1 < 2 then
      some (.portBind (2 * a 0 1 + a 1 1) h t) else none))
  else if c = 0x03 then
    (x.id 0).bind (fun t => if x.zero 3 5 then some (.objCreate t (a 8 8) (a 2 1)) else none)
  else if c = 0x04 then (x.handle 0).map (fun h => .objResize h (a 8 8))
  else if c = 0x05 then (x.handle 0).map (fun h => .objPlace h (a 8 1))
  else if c = 0x06 then (x.handle 0).map (fun h => .objDelete h)
  else if c = 0x07 then
    (x.handle 0).bind (fun h => (x.id 8).bind (fun g => let r := a 10 1
      if r < 8 then some (.grantSet h g (bitOf r 0) (bitOf r 1) (bitOf r 2)) else none))
  else if c = 0x08 then some (.grantClear (a 0 4))
  else if c = 0x09 then
    (x.id 4).bind (fun t => (x.id 6).bind (fun h => (x.handle 8).bind (fun o => let r := a 40 1
      if r < 8 then some (.windowSet (a 0 4) t h o (a 16 8) (a 24 8) (a 32 8) (bitOf r 0) (bitOf r 1) (bitOf r 2)) else none)))
  else if c = 0x0A then some (.windowClear (a 0 4))
  else if c = 0x0B then
    (x.id 0).bind (fun h => if a 2 1 < 2 ∧ x.zero 3 13 then
      some (.netHostSet h h (a 16 8) (a 24 8) (a 2 1 == 1)) else none)
  else if c = 0x11 then some (.reportRelease (a 0 4))
  else if c = 0x12 then some (.streamAbort (a 0 4))
  else if c = 0x13 then (x.handle 0).bind (fun h => if a 20 1 < 8 then some (.folioMaint h (a 8 8) (a 16 4) (a 20 1)) else none)
  else if c = 0x20 then
    (x.id 2).bind (fun t => x.entries.bind (fun es => if x.zero 1 1 ∧ x.zero 7 9 then
      some (.schedLoad (a 0 1) t (a 4 2) x.first x.last es) else none))
  else if c = 0x21 then some (.schedUnload (a 0 1))
  else if c = 0x22 then
    (x.id 2).bind (fun t => (x.id 4).bind (fun h =>
      if x.zero 1 1 ∧ 1 ≤ a 7 1 ∧ a 7 1 ≤ 64 ∧ a 8 2 ≤ 1024 ∧ a 10 2 < 4096 ∧ a 12 1 < 64 ∧ a 13 1 < 2 then
        some (.streamSet (a 0 1) [t, h, a 6 1, a 7 1, a 8 2, a 10 2, a 12 1, a 13 1]) else none))
  else if c = 0x23 then some (.streamRetarget (a 0 1) (a 1 1))
  else if c = 0x24 then some (.streamStart (a 0 1))
  else if c = 0x25 then some (.streamStop (a 0 1))
  else none

/-- The format checks of R422: a known SVC, its LENGTH, no reserved bit in FLAGS or bytes 8 to 15. -/
def MbSlot.formatOk (x : MbSlot) : Bool :=
  x.want == some x.len && decide (x.flags < 8) && x.nat 8 8 == 0

/-- The mailbox serves: firmware runs, or the ROM does without an image (R416); not while halted (R401). -/
def State.mailServes (s : State) : Bool := (s.rgc.ready || s.rgc.noImage) && !s.rgc.halted

/-- The slot is next (R420): QUEUED, first in doorbell order among its kind, and for kinds M and L nothing of them runs. -/
def State.isNext (s : State) (n : Nat) : Bool :=
  let kindR (k : Nat) : Bool := svcKind (s.slot k).svc == 1
  let mine := kindR n
  (s.slot n).st == 1 && (s.rgc.queue.filter (fun k => kindR k == mine)).head? == some n
    && (mine || (upTo 16).all (fun k => (s.slot k).st != 2 || kindR k))

/-- The checks before a service of a well-formed slot runs: slots 14 and 15 (R419), no image (R427), the role (R421). -/
def State.mayServe (s : State) (n : Nat) : Bool :=
  let c := (s.slot n).svc
  !(decide (n ≥ 14) && !(c == 0x34 || c == 0x39 || c == 0x41))
    && !(s.rgc.noImage && !(c == 0x40 || c == 0x41 || c == 0x43))
    && !(svcKind c == 0 && !s.holder)

/-- Runs the service that a slot holds, when it is next and of this code: the slot is RUNNING, and its result is kept
until SERVICE_COMPLETE. -/
def State.serve (s : State) (n code : Nat) (run : MbSlot → State → State × Option SvcRes) : State :=
  let x := s.slot n
  if n ≥ 16 ∨ !s.mailServes ∨ !s.isNext n ∨ x.svc ≠ code then s
  else
    let s1 := ({ s with rgc := { s.rgc with queue := s.rgc.queue.erase n } }).setSlot n { x with st := 2, out := none }
    if !x.formatOk then s1.svcOut n svcFORMAT
    else if !s1.mayServe n then s1.svcOut n svcDENIED
    else match run x s1 with
      | (s2, some r) => s2.svcOut n r
      | (s2, none) => s2

/-- Runs a service of kind M. -/
def State.serveM (s : State) (n code : Nat) : State :=
  s.serve n code (fun x s => match x.req with
    | some v => s.doSvc v n
    | none => (s, some svcFORMAT))

/-- Words of a slot with bytes written from `at_` on. -/
def MbSlot.put (x : MbSlot) (at_ : Nat) (l : List Byte) : MbSlot :=
  (upTo l.length).foldl (fun x i =>
    let a := at_ + i
    let w := (Tab.get (fun _ => (0 : W32)) x.words (a / 4)).toNat
    let v := BitVec.ofNat 32 (setBits w (8 * (a % 4) + 7) (8 * (a % 4)) (l.getD i 0).toNat)
    { x with words := Tab.set (fun _ => 0) x.words (a / 4) v }) x

/-- A slot becomes DONE (R420): result, response body, source 0x048. -/
def State.slotDone (s : State) (n : Nat) (r : Nat × Nat × List Byte) : State :=
  let x := s.slot n
  let body := r.2.2.take 224
  let s1 := s.setSlot n { x.put 16 body with
    st := 3
    result := r.1
    reason := r.2.1
    rlen := body.length
    out := none }
  (({ s1 with rgc := { s1.rgc with
    queue := s1.rgc.queue.erase n
    done := s1.rgc.done.erase n ++ [n] } }).bump rRGC_CNT_SVC).raise 0x048

/-- No command runs this request: its SVC is unknown (R422), or PWR_STATE names no state. -/
def MbSlot.unknown (x : MbSlot) : Bool := x.want.isNone || (x.svc == 0x34 && decide (x.arg 0 1 > 3))

/-- SERVICE_COMPLETE: a service that has its result becomes DONE; an unknown one that is next is answered FORMAT. -/
def execServiceComplete (slot : Nat) (s : State) : Host.Outcome State Fault Refusal :=
  let x := s.slot slot
  finish (if slot ≥ 16 then s
    else if x.st = 2 then
      (match x.out with
        | some r => s.slotDone slot r
        | none => s)
    else if s.mailServes ∧ s.isNext slot ∧ x.unknown then s.slotDone slot (7, 0, [])
    else s)

/-- MB_DOORBELL (R420): a FREE or DONE slot is queued; a doorbell for any other is counted. The target port rings for
slots 14 and 15 by a command of its own. -/
def State.doorbell (s : State) (slot : Nat) : State :=
  let x := s.slot slot
  if slot ≥ 16 then s
  else if x.st = 1 ∨ x.st = 2 then s.bumpFld fRGC_CNT_REJECT_DOORBELL
  else
    let s1 := s.setSlot slot { x with st := 1, result := 0, reason := 0, rlen := 0, out := none }
    { s1 with rgc := { s1.rgc with queue := s1.rgc.queue ++ [slot], done := s1.rgc.done.erase slot } }

/-- MB_DOORBELL. -/
def execMbDoorbell (slot : Nat) (s : State) : Host.Outcome State Fault Refusal := finish (s.doorbell slot)

/-- ACK_RESTART (R424). -/
def State.ackRestart (s : State) : State :=
  { s with rgc := { s.rgc with restarted := false } }

/-- AckRestart. -/
def execAckRestart (s : State) : Host.Outcome State Fault Refusal := finish (s.ackRestart)

end Sys2Proof.Machine
end

