-- ==== Sys2Proof/Machine/SvcRows.lean ====
section
/-! DEFINITION. The registrar services over tables (R423), and the completions of the services that wait. -/

namespace Sys2Proof.Machine

/-- TENANT_SET (tenants (R47, R52, R528)). -/
def execTenantSet (slot : Nat) (s : State) : Host.Outcome State Fault Refusal := finish (s.serveM slot 0x01)

/-- PORT_BIND (R23). -/
def execPortBind (slot : Nat) (s : State) : Host.Outcome State Fault Refusal := finish (s.serveM slot 0x02)

/-- OBJ_CREATE (R25, R128). -/
def execObjCreate (slot : Nat) (s : State) : Host.Outcome State Fault Refusal := finish (s.serveM slot 0x03)

/-- OBJ_RESIZE (R25). -/
def execObjResize (slot : Nat) (s : State) : Host.Outcome State Fault Refusal := finish (s.serveM slot 0x04)

/-- OBJ_PLACE (R40). -/
def execObjPlace (slot : Nat) (s : State) : Host.Outcome State Fault Refusal := finish (s.serveM slot 0x05)

/-- OBJ_DELETE (R38, R49). -/
def execObjDelete (slot : Nat) (s : State) : Host.Outcome State Fault Refusal := finish (s.serveM slot 0x06)

/-- GRANT_SET (R29). -/
def execGrantSet (slot : Nat) (s : State) : Host.Outcome State Fault Refusal := finish (s.serveM slot 0x07)

/-- GRANT_CLEAR (R29). -/
def execGrantClear (slot : Nat) (s : State) : Host.Outcome State Fault Refusal := finish (s.serveM slot 0x08)

/-- WINDOW_SET (R35). -/
def execWindowSet (slot : Nat) (s : State) : Host.Outcome State Fault Refusal := finish (s.serveM slot 0x09)

/-- WINDOW_CLEAR (R37). -/
def execWindowClear (slot : Nat) (s : State) : Host.Outcome State Fault Refusal := finish (s.serveM slot 0x0A)

/-- NET_HOST_SET (R269). -/
def execNetHostSet (slot : Nat) (s : State) : Host.Outcome State Fault Refusal := finish (s.serveM slot 0x0B)

/-- EPOCH_REPORT_RELEASE (R86). -/
def execEpochReportRelease (slot : Nat) (s : State) : Host.Outcome State Fault Refusal := finish (s.serveM slot 0x11)

/-- STREAM_ABORT (R81). -/
def execStreamAbort (slot : Nat) (s : State) : Host.Outcome State Fault Refusal := finish (s.serveM slot 0x12)

/-- FOLIO_MAINT (R138). -/
def execFolioMaint (slot : Nat) (s : State) : Host.Outcome State Fault Refusal := finish (s.serveM slot 0x13)

/-- CIR_SCHED_LOAD (R299). -/
def execCirSchedLoad (slot : Nat) (s : State) : Host.Outcome State Fault Refusal := finish (s.serveM slot 0x20)

/-- CIR_SCHED_UNLOAD (R299). -/
def execCirSchedUnload (slot : Nat) (s : State) : Host.Outcome State Fault Refusal := finish (s.serveM slot 0x21)

/-- CIR_STREAM_SET (R300). -/
def execCirStreamSet (slot : Nat) (s : State) : Host.Outcome State Fault Refusal := finish (s.serveM slot 0x22)

/-- CIR_STREAM_RETARGET (R299). -/
def execCirStreamRetarget (slot : Nat) (s : State) : Host.Outcome State Fault Refusal := finish (s.serveM slot 0x23)

/-- CIR_STREAM_START (R299). -/
def execCirStreamStart (slot : Nat) (s : State) : Host.Outcome State Fault Refusal := finish (s.serveM slot 0x24)

/-- CIR_STREAM_STOP (R299, R308). -/
def execCirStreamStop (slot : Nat) (s : State) : Host.Outcome State Fault Refusal := finish (s.serveM slot 0x25)

/-- EPOCH_REPORT_READ (R86): up to 14 records, of kind R. -/
def execEpochReportRead (slot : Nat) (s : State) : Host.Outcome State Fault Refusal :=
  finish (s.serve slot 0x10 (fun x s =>
    match s.reportRead (x.arg 0 4) (x.arg 4 4) with
    | .data l _ _ => (s.setSlot slot { s.slot slot with out := some (0, 0, l) }, none)
    | .ack _ _ _ st _ _ _ _ => (s, some (if st = 0xC then svcNOREPORT else if st = 0xA then svcNOTREADY else svcOK))
    | _ => (s, some svcOK)))

/-- WINDOW_CLEAR completes (R37): its accesses in progress have, and the slot gets the new R_Key. -/
def execWindowClearComplete (n : Nat) (s : State) : Host.Outcome State Fault Refusal :=
  let x := s.window n
  finish (match x.clearing with
    | some slot =>
      if s.winBusy n then s else (s.setWindow n { x with clearing := none }).svcOut slot { words := [n * 4096 + x.tag] }
    | none => s)

/-- TQM_CMD.CLR_TEN (R43): the refusal counter of one tenant; its last reason stays. -/
def State.clrTen (s : State) (ten : Nat) : State :=
  if ten = 0 ∨ ten ≥ 0xFFF then s
    else s.setTenant ten { Tab.get (fun _ => {}) s.tqm.tenants ten with refusals := 0 }

/-- ClrTen. -/
def execClrTen (ten : Nat) (s : State) : Host.Outcome State Fault Refusal := finish (s.clrTen ten)

/-- DEVICE_DEAD (R196): DENIED for a channel, rank or device that does not exist. -/
def execDeviceDead (slot : Nat) (s : State) : Host.Outcome State Fault Refusal :=
  finish (s.serve slot 0x32 (fun x s =>
    let p := s.doDeviceDead (x.arg 0 1) (x.arg 1 1) (x.arg 2 1)
    (p.1, some (if p.2 then svcOK else svcDENIED))))

/-- LINE_REMAP (R203): DENIED for a channel that is not populated or whose table is full. -/
def execLineRemap (slot : Nat) (s : State) : Host.Outcome State Fault Refusal :=
  finish (s.serve slot 0x33 (fun x s =>
    if !(x.zero 1 3) ∨ x.arg 4 5 ≥ 2 ^ 33 then (s, some svcFORMAT)
    else
      let p := s.doLineRemap (x.arg 0 1) (x.arg 4 5)
      (p.1, some (if p.2 then svcOK else svcDENIED))))

/-- TWIN_JOIN (R316). -/
def execTwinJoin (slot : Nat) (s : State) : Host.Outcome State Fault Refusal :=
  finish (s.serve slot 0x38 (fun _ s => s.doTwinJoin))

/-- TWIN_HANDOVER (R338). -/
def execTwinHandover (slot : Nat) (s : State) : Host.Outcome State Fault Refusal :=
  finish (s.serve slot 0x39 (fun _ s => s.doTwinHandover slot))

/-- TWIN_TAKEOVER, with FORCE in FLAGS (R337). -/
def execTwinTakeover (slot : Nat) (s : State) : Host.Outcome State Fault Refusal :=
  finish (s.serve slot 0x3A (fun x s => s.doTwinTakeover slot (bitOf x.flags 0)))

/-- TWIN_FENCE (R340). -/
def execTwinFence (slot : Nat) (s : State) : Host.Outcome State Fault Refusal :=
  finish (s.serve slot 0x3B (fun _ s => s.doTwinFence))

end Sys2Proof.Machine
end

