-- ==== Sys2Proof/Machine/StkOps.lean ====
section
/-! DEFINITION. What happens on stack links: answers found by their TAG, retries, loss and return of a sled (R154 to
R163), and the budgets that follow the sleds present (R95 to R97). -/

namespace Sys2Proof.Machine

/-- An interrupt source of a stack link (R165). -/
def stkSrc (n off : Nat) : Nat := 0x180 + 8 * n + off

/-- The core domains are powered. -/
def State.coreOn (s : State) : Bool := s.pwr.st != .off && s.pwr.st != .standby

/-! ### Budgets (R95 to R97) -/

/-- RSV_HARD_CAP in folios (R96). -/
def State.hardCap (s : State) : Nat :=
  let g := s.fld fRSV_HARD_CAP_GIB
  (if g = 0 then 1 else min g 2048) * 262144

/-- Sets the total budget, and one budget for every sled present. -/
def State.setBudget (s : State) (total per : Nat) : State :=
  let bs : Tab Nat := s.sleds.foldl (fun t n => Tab.set (fun _ => 0) t n per) []
  { s with rsv := { s.rsv with budget := total, bs := bs } }

/-- The budgets that follow from RSV_T_AVAIL and the sleds present: the computed ones scaled under the cap (R95, R96), or
the safe budget while the monitors are bad (R97). -/
def State.budgetForm (s : State) : State :=
  let k := s.sleds.length
  if s.rsv.monBad then
    let total := s.fld fRSV_SAFE_GIB * 262144
    s.setBudget total (total / k)
  else
    let b := s.rsv.tAvail * s.fld fRSV_LINK_RATE_MBPS * 1000 / 4096
    let cap := min (b * k) s.hardCap
    s.setBudget cap (if cap < b * k then b * cap / (b * k) else b)

/-! ### Requests -/

/-- The outstanding request of a link that a response names by TAG and opcode (R149). -/
def State.stkFind (s : State) (n tag op : Nat) : Option StkReq := (s.link n).out.find? (fun r => r.tag == tag && r.op == op)

/-- An outstanding request ends. -/
def State.stkDrop (s : State) (n tag : Nat) : State :=
  s.setLink n { s.link n with out := (s.link n).out.filter (fun r => r.tag != tag) }

/-- A response has come, so the sled has every cell of its request (R147; log 107). -/
def State.stkHeard (s : State) (n : Nat) (r : StkReq) : State :=
  let l := s.link n
  if (r.seq + 4096 - l.rxAck) % 4096 ≤ l.unacked then s.setLink n { l with rxAck := r.seq } else s

/-- Queues a request behind those that wait, without sending. -/
def State.stkQueue (s : State) (n : Nat) (r : StkReq) : State :=
  s.setLink n { s.link n with wait := (s.link n).wait ++ [{ r with tries := s.fld fSTK_TIMEOUT_RETRIES }] }

/-- The folios that a request's mask names. -/
def StkReq.folios (r : StkReq) : List Nat := ((upTo 16).filter (bitOf r.mask)).map (r.ltile * 16 + ·)

/-- A TILE_READ fails (R156). -/
def State.readFail (s : State) (n : Nat) (r : StkReq) (reason : Nat) : State :=
  r.folios.foldl (fun s f => (s.copyArrive f none false).fillFail f reason n 0) s

/-! ### Loss (R162) -/

/-- An eviction-buffer copy that cannot be written: the copy goes, its way is DIRTY, and a fill that had chosen the way
chooses again. -/
def State.evbDrop (s : State) (folio : Nat) : State :=
  match s.fch.evb.find? (fun e => e.folio == folio) with
  | none => s
  | some e =>
    let s1 : State := { s with fch := { s.fch with evb := s.fch.evb.filter (fun x => x.folio != folio) } }
    let w := s1.way e.way
    if e.way ≥ metaKey then { s1 with fch := { s1.fch with metaDirty := Tab.set (fun _ => 0) s1.fch.metaDirty folio 1 } }
    else if w.folio ≠ folio ∨ !(w.st == 3 || w.st == 5) then s1
    else
      let s2 := s1.setWay e.way { w with st := 2, w := false }
      match s2.fch.fills.find? (fun f => f.way == some e.way) with
      | none => s2
      | some f => s2.rebind f

/-- Tile numbers of the vault area and of nothing logical lie above every logical tile. -/
def vaultTile : Nat := 2 ^ 41

/-- A TILE_WRITE on a link that is lost (R160, R162): a metadata tile is done when its other sled has it; any other copy
goes back to its way. -/
def State.writeLost (s : State) (n : Nat) (r : StkReq) : State :=
  if r.ltile ≥ vaultTile then s
  else
    let p := s.fld fSTK_META_PRIMARY
    let o := if n = p then s.fld fSTK_META_COPY else p
    if r.ltile < 2 ^ 14 ∧ o ≠ n ∧ (s.link o).st = 2 then s.tileWritten r
    else r.folios.foldl State.evbDrop s

/-- Dirty folios whose shelf lies on a sled (R94). -/
def State.dirtyOn (s : State) (n : Nat) : Nat :=
  (s.fch.dir.filter (fun e => dirtyWay e.1 e.2 && shelfOf e.2.folio != 0 && (s.shelf (shelfOf e.2.folio)).sled == n)).length

/-- A link is lost (R162), or taken down as FOREIGN (R155): its shelves become LOST, its requests end, its budget goes, and
record 0x3E0 is written. Trims of whole shelves are kept for its return. A sled lost in a vault takes no further part in it. -/
def State.stkLose (s : State) (n st : Nat) : State :=
  let l := s.link n
  let reqs := l.out ++ l.wait
  let s1 := s.tqm.shelves.foldl (fun s e =>
    if e.2.st = 1 ∧ e.2.sled = n then s.setShelf e.1 { s.shelf e.1 with st := 3 } else s) s
  let s2 := s1.setLink n { l with
    st := st
    trained := false
    lostOnce := true
    out := []
    wait := reqs.filter (fun r => r.op == 3 && r.arg == 16384 && l.trimAt.isNone)
    nak := false
    kept := []
    rx := []
    vbAgain := false }
  let s2 : State := { s2 with rsv := { s2.rsv with
    failed := if s.rsv.ph = .off then s2.rsv.failed else s2.rsv.failed ||| 2 ^ n } }
  let s3 := (reqs.filter (fun r => r.op == 2)).foldl (fun s r => s.writeLost n r) s2
  let s4 := ((s3.fch.evb.map (·.folio)).filter (fun f => s3.lostShelf f)).foldl State.evbDrop s3
  let s5 := (reqs.filter (fun r => r.op == 1)).foldl (fun s r => s.readFail n r rsLOST) s4
  ((s5.note 0x3E0 ([n] ++ words2 l.uid ++ [s5.dirtyOn n])).budgetForm).tellFault 3

/-- A response RANGE (R155): the link is lost and its sled FOREIGN, with record 0x3E2 (R163). -/
def State.stkRange (s : State) (n : Nat) : State :=
  let l := s.link n
  (s.stkLose n 4).note 0x3E2 ([n] ++ words2 l.uid ++ words2 l.uidRec)

/-! ### Training and return (R163) -/

/-- The next TILE_TRIM of a sled that is trimmed whole. -/
def State.trimNext (s : State) (n : Nat) : State :=
  match (s.link n).trimAt with
  | none => s
  | some k =>
    if k ≥ (s.link n).shelves then (s.setLink n { s.link n with trimAt := none }).stkPump n
    else s.stkSend n { op := 3, shelf := k, tile := 0, mask := 0xFFFF, arg := 16384, ltile := 0xFFF }

/-- A sled is taken in as empty (R163, R530): its identity is recorded, its link is UP, and it is trimmed whole. -/
def State.stkAdopt (s : State) (n : Nat) : State :=
  let l := s.link n
  ((s.setLink n { l with
    st := 2
    uidRec := l.uid
    trained := false
    lostOnce := false
    wait := []
    trims := []
    trimAt := some 0 }).metaTouch metaRest |>.trimNext n).budgetForm

/-- A link comes UP with the sled it had (R163): LOST shelves are BACKED again, record 0x3E1 after a loss, freed shelves
that no trim has reached are trimmed, a trim of the whole sled goes on, and promotions that failed for it may start again. -/
def State.stkReturn (s : State) (n : Nat) : State :=
  let l := s.link n
  let s1 := s.tqm.shelves.foldl (fun s e =>
    if e.2.st = 3 ∧ e.2.sled = n then s.setShelf e.1 { s.shelf e.1 with st := 1 } else s) s
  let s2 := s1.setLink n { s1.link n with st := 2, trained := false, lostOnce := false }
  let s3 := if l.lostOnce then s2.note 0x3E1 ([n] ++ words2 l.uid ++ [s2.dirtyOn n]) else s2
  let s4 : State := { s3 with fch := { s3.fch with promoFailed := s3.fch.promoFailed.filter (fun f => s3.sledLink f != n) } }
  let due := l.trims.filter (fun k => !(l.wait.any (fun r => r.op == 3 && r.shelf == k)))
  let s5 := due.foldl (fun s k =>
    s.stkQueue n { op := 3, shelf := k, tile := 0, mask := 0xFFFF, arg := 16384, ltile := 0xFFF }) s4
  ((s5.trimNext n).stkPump n).budgetForm

/-- A sled that is not the one recorded (R163). -/
def State.stkForeign (s : State) (n : Nat) : State :=
  let l := s.link n
  (s.setLink n { l with st := 4, trained := false }).note 0x3E2 ([n] ++ words2 l.uid ++ words2 l.uidRec)

/-- Judges a sled whose STATUS has come (R163). -/
def State.stkJudge (s : State) (n : Nat) : State :=
  let l := s.link n
  if l.uidRec ≠ 0 ∧ l.uid = l.uidRec then s.stkReturn n else s.stkForeign n

/-- A start that has not reached step 8 judges its sleds there (R402, R530). -/
def State.beforeStep8 (s : State) : Bool := s.pwr.st == .starting && decide (s.cru.step < 8)

/-- Sends a request again under a new TAG while it has tries left, or gives it up (R154). -/
def State.stkRetry (s : State) (n : Nat) (r : StkReq) : State :=
  let s1 := s.stkDrop n r.tag
  if r.tries > 0 then
    let l := s1.link n
    (((s1.setLink n { l with wait := { r with tries := r.tries - 1 } :: l.wait }).raise (stkSrc n 3)).bumpFld
      (fSTK_LINK_CNT_ERR_RETRY.plus (0x20 * n))).stkPump n
  else if r.op = 1 then (s1.readFail n r rsMEDIA).stkPump n
  else s1.stkLose n 3

/-- The cells kept from the one after ACKSEQ on (R147). -/
def StkLink.due (l : StkLink) : List (Nat × StkReq × Nat) :=
  l.kept.filter (fun c => let d := (c.1 + 4096 - l.rxAck) % 4096; decide (1 ≤ d ∧ d ≤ l.unacked))

/-- Cells are sent again from the one after ACKSEQ (R147). -/
def State.stkReplay (s : State) (n : Nat) : State :=
  (((s.link n).due.foldl (fun s c => s.stkCell n c.1 c.2.1 c.2.2) s).bumpFld
    (fSTK_LINK_CNT_ERR_REPLAY.plus (0x20 * n))).raise (stkSrc n 5)

/-- Sends a HEARTBEAT (R150): ARG counts those sent. DESIGN CHOICE (log 106): one goes out each millisecond on a link that carries
cells and has none unacknowledged; the manual gives no period. -/
def State.stkBeat (s : State) (n : Nat) : State :=
  let l := s.link n
  let c := (l.hbOut + 1) % 2 ^ 32
  if l.carries ∧ l.unacked = 0 then (s.setLink n { l with hbOut := c }).stkCells n { op := 7, arg := c } else s

end Sys2Proof.Machine
end

