-- ==== Sys2Proof/Machine/VaultOps.lean ====
section
/-! DEFINITION. The vault (R102 to R107): how it begins, what it writes to the sleds, and how it goes from step to step as
the sleds answer. -/

namespace Sys2Proof.Machine

/-! ### Ports to electrical idle -/

/-- Every Tvedfy link goes to electrical idle (step 4 of R104, R231): DOWN; only the adapter recorded on it stays known. -/
def State.quietLinks (s : State) : State :=
  (s.tvl.links.filter (fun e => e.1 < 32)).foldl (fun s e =>
    let l := s.tvl_ e.1
    let s1 := s.setTvl e.1 { life := l.life + 1, uid := l.uid }
    if l.st = 0 then s1 else s1.emit (.tvLink e.1 "idle" 0)) s

/-- Every Ethernet port goes down. -/
def State.ethIdle (s : State) : State :=
  { s with
    eth := { s.eth with ports := [], modes := [] }
    bpm := { s.bpm with xoff := [] }
    rsv := { s.rsv with xoff := [] } }

/-- Generators, checkers and loopbacks off, a DRAM bus test ended (R488). -/
def State.dftOff (s : State) : State :=
  { s with dft := { s.dft with
    lanes := Tab.update (fun _ => {}) (fun (l : DftLane) => { l with gen := 0, chk := 0, loop := 0, lock := false }) s.dft.lanes
    run := none } }

/-- The twin link goes to electrical idle. -/
def State.twinIdle (s : State) : State :=
  let l := s.tvl_ twinLk
  { s.setTvl twinLk { life := l.life + 1 } with twn := { (s.setTvl twinLk { life := l.life + 1 }).twn with
    linkUp := false
    hbIn := 0
    pulses := 0
    rxq := []
    rxBusy := false
    rxWant := none
    txq := [] } }

/-- Step 5 of R104: the lease goes with LEASE_DROP, REASON 0, after the last mirror frame; a standby tells of its own
vault; then the twin lanes go to electrical idle. -/
def State.vaultTwin (s : State) : State :=
  let s1 :=
    if s.twn.role = .active then
      let s0 := s.handoverOff
      let s1 := if s0.twn.linkUp then (s0.twinOut (.leaseDrop s0.twn.gen s0.lastMseq 0)).twinPump else s0
      s1.giveUp .detached 3
    else if s.twn.role = .unpaired then (s.cirRearmAll).1
    else ((s.cirRearmAll).1.tellFault 4).twinPump
  s1.twinIdle

/-! ### The beginning (steps 2 to 7) -/

/-- VAULT_BEGIN on a link (R154). -/
def State.vaultBegin (s : State) (n : Nat) : State := (s.stkQueue n { op := 6 }).stkPump n

/-- The domains of the vault are powered again when it starts from Quiesced (R388): channels leave self-refresh, enabled
stack links train. -/
def State.wake (s : State) : State :=
  let s1 : State := { s with dmc := { s.dmc with
    chs := Tab.update (fun _ => {}) (fun (c : DmcCh) => if c.st = 3 then { c with st := 2 } else c) s.dmc.chs } }
  (upTo 16).foldl (fun s n => if s.stkOn n ∧ (s.link n).st = 0 then s.setLink n { s.link n with st := 1 } else s) s1

/-- Steps 2 to 7 of R104. -/
def State.startVault (s : State) (cause : Nat) : State :=
  let quiesced := decide (s.pwr.st = .quiesced)
  let s1 : State := { s with
    ports := false
    cru := { s.cru with vaultAct := true }
    rsv := { s.rsv with
      ph := .entry
      acked := []
      ready := 0
      failed := 0
      sealed := 0
      headed := 0
      written := 0
      eStart := s.rsv.eNow
      began := s.timeUs } }
  let s2 := ((s1.setPwr .vault cause).dropClients.quietLinks).ethIdle.dftOff.vaultTwin.kceAbort
  let s3 := if quiesced then s2.wake else s2
  s3.sleds.foldl State.vaultBegin s3

/-! ### What it writes (steps 9 to 12) -/

/-- Sleds of the vault: ready, and their link not lost since. -/
def State.vaultSleds (s : State) : List Nat :=
  (upTo 16).filter (fun n => bitOf s.rsv.ready n && !bitOf s.rsv.failed n && ((s.link n).st == 2 || (s.link n).st == 5))

/-- One tile of the vault area (R158): shelf and tile from its number. -/
def vaultReq (t : Nat) (raw : List Byte) (pad : Byte) : StkReq :=
  { op := 2
    shelf := t / 16384
    tile := t % 16384
    mask := 0xFFFF
    raw := raw
    pad := pad
    ltile := vaultTile + t }

/-- The vault header (R106). -/
def State.vaultHead (s : State) (complete : Bool) (ms_ : Nat) : List Byte :=
  let r := s.rsv
  leBytes 4 r.vaultSeq ++ [if complete then 1 else 0, 0] ++ leBytes 2 r.ready ++ leBytes 4 r.planned
    ++ leBytes 4 (if complete then r.written else 0) ++ leBytes 4 r.eStart ++ leBytes 4 ms_

/-- Shelves that hold a dirty folio (R92). -/
def State.dirtyShelves (s : State) : List Nat :=
  ((s.fch.dir.filter (fun e => dirtyWay e.1 e.2)).map (fun e => shelfOf e.2.folio)).eraseDups

/-- Bytes of a bit map of which `l` lists the bits set, as far as its last one. -/
def mapBytes (l : List Nat) : List Byte :=
  let top := l.foldl max 0
  if l.isEmpty then []
  else (upTo (top / 8 + 1)).map (fun b => BitVec.ofNat 8 ((l.filter (fun i => i / 8 == b)).foldl (fun a i => a ||| 2 ^ (i % 8)) 0))

/-- Tile k, 1 to 16, of the dirty-shelf map (R161). -/
def State.mapTile (s : State) (k : Nat) : List Byte :=
  mapBytes ((s.dirtyShelves.filter (fun f => f / 524288 + 1 == k)).map (· % 524288))

/-- Tiles of the stream table: 1,114,112 records of 128 B (R92). -/
def streamTiles : Nat := 2176

/-- The tiles dealt out (R161): the stream table's, then the segments in use, ascending. -/
inductive VItem where
  | streams (tile : Nat)
  | seg (n : Nat)
deriving DecidableEq, Repr

/-- Segments out of the pool, ascending. -/
def State.segsUp (s : State) : List Nat := s.epo.used.mergeSort (· ≤ ·)

/-- Entries of a segment as the stream or report that holds it has them. -/
def State.segEntries (s : State) (n : Nat) : List Entry :=
  s.epo.streams.foldl (fun a e =>
    let at_ (segs : List Nat) (es : List Entry) : List Entry :=
      match segs.findIdx? (· == n) with
      | some k => (es.drop (4096 * k)).take 4096
      | none => []
    let r := at_ e.2.segs e.2.entries
    let q := e.2.report.elim [] (fun p => at_ p.segs p.entries)
    if r.isEmpty then (if q.isEmpty then a else q) else r) []

/-- The share of the sled of rank `k` among `n`: every n-th item (R161). -/
def State.share (s : State) (n k : Nat) : List VItem :=
  let items := (upTo streamTiles).map VItem.streams ++ s.segsUp.map VItem.seg
  ((upTo items.length).filter (fun i => i % n == k)).map (fun i => items.getD i (.streams 0))

/-- The index of the segments a share holds (R161): one word a slot. -/
def indexWords (sh : List VItem) : List Nat := sh.filterMap (fun x => match x with | .seg n => some n | _ => none)

/-- A tile of the stream table (R92): 512 records of 128 B. -/
def State.streamTile (s : State) (t : Nat) : Nat × Tab Stream × Nat × Nat :=
  (t, s.epo.streams.filter (fun e => e.1 / 512 == t), s.epo.base.1, s.epo.base.2)

/-- Everything written to one sled at step 9, in its order. -/
def State.vaultTiles (s : State) (n k : Nat) : List StkReq :=
  let sh := s.share n k
  let ix := indexWords sh
  [vaultReq 0 (s.vaultHead false 0) 0]
    ++ (upTo 16).map (fun i => vaultReq (i + 1) (s.mapTile (i + 1)) 0)
    ++ (upTo 8).map (fun i => vaultReq (i + 17) (((ix.drop (16384 * i)).take 16384).flatMap (leBytes 4)) 0xFF)
    ++ (upTo sh.length).map (fun i => match sh.getD i (.streams 0) with
      | .streams t => { vaultReq (25 + i) [] 0 with table := some (s.streamTile t) }
      | .seg m => vaultReq (25 + i) ((s.segEntries m).flatMap (fun e => leBytes 16 e.toNat)) 0)

/-- Step 9: the header with COMPLETE = 0, the map, the stream table and the segments, dealt to the ready sleds by their rank in
READY (R161). -/
def State.vaultWrite (s : State) : State :=
  let s1 : State := { s with rsv := { s.rsv with
    ph := .writing
    vaultSeq := (s.rsv.vaultSeq + 1) % 2 ^ 32
    planned := s.governed
    failed := s.rsv.failed ||| s.sleds.foldl (fun a n => if bitOf s.rsv.ready n then a else a + 2 ^ n) 0
    savedStreams := s.epo.streams
    savedBase := s.epo.base
    savedSegs := s.segsUp } }
  let on := (upTo 16).filter (bitOf s1.rsv.ready)
  (upTo on.length).foldl (fun s k =>
    let n := on.getD k 0
    if s1.vaultSleds.contains n then ((s1.vaultTiles on.length k).foldl (fun s r => s.stkQueue n r) s).stkPump n else s) s1

/-- Writes or seals that a sled of the vault has still to acknowledge. -/
def State.vaultBusy (s : State) (p : StkReq → Bool) : Bool :=
  s.vaultSleds.any (fun n => ((s.link n).out ++ (s.link n).wait).any p)

/-- Step 10: copies of the eviction buffer first, then the metadata shelf, then the directory in order, as the buffer has
room. -/
def State.vaultFolios (s : State) : State :=
  let mine (s : State) (f : Nat) : Bool := s.vaultSleds.contains (s.sledLink f) && !s.lostShelf f
  let send (s : State) (fs : List Nat) : State := ((fs.map (· / 16)).eraseDups).foldl State.evbSend s
  let s1 := send s (((s.fch.evb.filter (fun e => !e.sent)).map (·.folio)).filter (mine s))
  let tables := (s1.fch.metaDirty.filter (fun e => e.2 == 1 && mine s1 e.1)).map (·.1)
  let s2 := send (tables.foldl State.metaTake s1) tables
  let room := (s2.fch.dir.filter (fun e => e.2.st == 2 && mine s2 e.2.folio)).take (4096 - s2.fch.evb.length)
  send (room.foldl (fun s e => s.evbTake e.1 3) s2) (room.map (fun e => e.2.folio))

/-- A folio that step 10 has still to write. -/
def State.vaultLeft (s : State) : Bool :=
  s.fch.dir.any (fun e => dirtyWay e.1 e.2 && s.vaultSleds.contains (s.sledLink e.2.folio) && !s.lostShelf e.2.folio)
    || (!s.fch.metaDirty.isEmpty && s.vaultSleds.contains s.metaLink)

/-- Every link that may yet answer VAULT_BEGIN has answered OK. -/
def State.entryDone (s : State) : Bool :=
  (upTo 16).all (fun n => !s.stkOn n || (s.link n).st == 3 || (s.link n).st == 4 || (bitOf s.rsv.ready n && !bitOf s.rsv.failed n))

/-- The vault goes on as far as it can. -/
def State.vaultStep : Nat → State → State
  | 0, s => s
  | fuel + 1, s =>
    match s.rsv.ph with
    | .entry => if s.entryDone then s.vaultWrite.vaultStep fuel else s
    | .writing =>
      if s.vaultBusy (fun r => r.op == 2 && decide (r.ltile ≥ vaultTile)) then s
      else
        let s1 := s.vaultFolios
        if s1.vaultLeft ∨ s1.vaultBusy (fun r => r.op == 2) then s1
        else
          let s2 : State := { s1 with rsv := { s1.rsv with ph := .sealing } }
          (s2.vaultSleds.foldl (fun s n => (s.stkQueue n { op := 4, all := true }).stkPump n) s2).vaultStep fuel
    | .sealing =>
      if s.vaultSleds.all (fun n => bitOf s.rsv.sealed n) then
        let ms_ := (s.timeUs - s.rsv.began) / ms
        let s1 : State := { s with rsv := { s.rsv with
          ph := .header
          lastMs := ms_ } }
        s1.vaultSleds.foldl (fun s n => (s.stkQueue n (vaultReq 0 (s1.vaultHead true ms_) 0)).stkPump n) s1
      else s
    | _ => s

/-- The vault goes on. -/
def State.vaultGo (s : State) : State := if s.rsv.ph = .off then s else s.vaultStep 4

/-- Steps 1 to 12 are over: every COMPLETE header is acknowledged. -/
def State.vaultOver (s : State) : Bool :=
  s.rsv.ph == .header && !s.vaultBusy (fun r => r.op == 2)

end Sys2Proof.Machine
end

