-- ==== Sys2Proof/Machine/RsvRows.lean ====
section
/-! DEFINITION. Commands of RSV that need no supervisor: the governor's sample, the end of the vault's entry time, waits
for the budget, VAULT_ACCEPT. -/

namespace Sys2Proof.Machine

/-- A monitor's sample is valid (R97). -/
def State.ainOk (s : State) (ch : Nat) : Bool :=
  let m := s.mon ch
  !m.faulty && m.value != 0 && m.value != 0xFFF

/-- The time available for the vault in ms (R95): e in 0.5 fJ against the mean of the draw samples in nW or the floor in
W, less margin and entry, rounded down to 100 ms. The manual states no time for a draw of 0. -/
def State.timeAvail (s : State) : Nat :=
  let e := s.rsv.eHist.foldl min (s.rsv.eHist.headD 0)
  let k := max 1 s.rsv.pHist.length
  let p := max (s.rsv.pHist.foldl (· + ·) 0) (s.fld fRSV_DRAW_MIN_W * 10 ^ 9 * k)
  let less := (s.fld fRSV_TIMES_MARGIN + s.fld fRSV_TIMES_ENTRY) * 10
  if p = 0 then (Config.freeWord s.freeCtr).toNat / 100 * 100
  else (e * k - less * (2000 * p)) / (2000 * p * 100) * 100

/-- One sample of the governor (R95 to R97). -/
def State.governorSample (s : State) : State :=
  let r := s.rsv
  let vc := s.fld fRSV_BANK_CFG_V_CH
  let dv := s.fld fRSV_DRAW_CFG_V_CH
  let di := s.fld fRSV_DRAW_CFG_I_CH
  let okB := s.ainOk vc
  let okV := s.ainOk dv
  let okI := s.ainOk di
  let vb := (s.mon vc).value * s.fld fRSV_BANK_CFG_UV_LSB
  let vf := s.fld fRSV_BANK_FLOOR_MV * 1000
  let e := s.fld fRSV_BANK_CAP_MF * (vb * vb - vf * vf)
  let pw := (s.mon dv).value * s.fld fRSV_DRAW_SCALE_V_UV_LSB * ((s.mon di).value * s.fld fRSV_DRAW_SCALE_I_MA_LSB)
  let badB := if okB then 0 else r.badBank + 1
  let badV := if okV then 0 else r.badV + 1
  let badI := if okI then 0 else r.badI + 1
  let good := if okB && okV && okI then r.goodRun + 1 else 0
  let bad := if badB ≥ 3 ∨ badV ≥ 3 ∨ badI ≥ 3 then true else if good ≥ 16 then false else r.monBad
  let s1 : State := { s with rsv := { r with
    eHist := if okB then (e :: r.eHist).take 4 else r.eHist
    pHist := if okV && okI then (pw :: r.pHist).take 16 else r.pHist
    badBank := badB
    badV := badV
    badI := badI
    goodRun := good
    monBad := bad } }
  let h := s1.rsv.eHist
  let mean := s1.rsv.pHist.foldl (· + ·) 0 / max 1 s1.rsv.pHist.length / 10 ^ 9
  let zero := decide (max (s1.rsv.pHist.foldl (· + ·) 0) (s1.fld fRSV_DRAW_MIN_W) = 0)
  let s2 : State := { s1 with rsv := { s1.rsv with
    eNow := h.foldl min (h.headD 0) / (2000 * 10 ^ 12)
    pNow := max mean (s1.fld fRSV_DRAW_MIN_W)
    tAvail := s1.timeAvail } }
  (if zero then s2.tickFree else s2).budgetForm

/-- A write waits under the FULL rule (R99): the front write of some stream has been made to wait for the budget. -/
def State.isFull (s : State) : Bool :=
  s.epo.streams.any (fun e => match e.2.queue with | .write w :: _ => w.waitedB | _ => false)

/-- The governor's sample every 100 µs (R95 to R99). -/
def execGovernorSample (s : State) : Host.Outcome State Fault Refusal :=
  finish (if !s.coreOn then s
    else
      let s1 := s.governorSample.govern
      if s1.isFull then s1.bump rRSV_CNT_FULL else s1)

/-- The front write of a stream is judged again (R100). -/
def execBudgetWaitRelease (stream : Nat) (s : State) : Host.Outcome State Fault Refusal := finish (s.pumpAll stream)

/-- RSV_TIMES.ENTRY has passed (R104 step 8): sleds that have not answered OK are marked failed, and writing begins. -/
def execVaultEntryTimeout (s : State) : Host.Outcome State Fault Refusal :=
  finish (if s.rsv.ph = .entry then s.vaultWrite.vaultGo else s)

/-- The stream table of an unclean start as VAULT_ACCEPT loads it (R403): every stream IDLE without report, its last epoch
2,048 and its LAST_SSN 32,768 further on. -/
def State.uncleanStreams (s : State) : State :=
  let s1 : State := { s with epo := { s.epo with
    streams := []
    used := []
    base := ((s.epo.base.1 + 2048) % 4096, (s.epo.base.2 + 32768) % 65536) } }
  s.rsv.savedStreams.foldl (fun s e =>
    s.setStream e.1 { epoch := (e.2.epoch + 2048) % 4096, lastSsn := (e.2.lastSsn + 32768) % 65536 }) s1

/-- Service VAULT_ACCEPT (R107, R403); with nothing to accept it is denied. -/
def State.doVaultAccept (s : State) : State × Option SvcRes :=
  if !s.rsv.lastIncomplete then (s, some svcDENIED)
  else
    let s1 := if s.rsv.loadDue then s.uncleanStreams else s
    (({ s1 with rsv := { s1.rsv with loadDue := false } }).awaitEnd, some svcOK)

/-- VAULT_ACCEPT. -/
def execVaultAccept (slot : Nat) (s : State) : Host.Outcome State Fault Refusal :=
  finish (s.serve slot 0x30 (fun _ s => s.doVaultAccept))

end Sys2Proof.Machine
end

