-- ==== Sys2Proof/Machine/ImageOps.lean ====
section
/-! DEFINITION. The Elile image (R408 to R417): the copies in the configuration flash, the order they are tried in, the
SUPPLY section as the supervisor reads it, the checks of R415, and what an image writes. -/

namespace Sys2Proof.Machine

/-! ### The configuration flash (R408) -/

/-- First byte of a copy. -/
def copyBase (c : Nat) : Nat := c * 0x800000

/-- Bytes [off, off + n) of a copy; an erased byte reads 0xFF. -/
def State.cfgBytes (s : State) (c off n : Nat) : List Byte :=
  (upTo n).map (fun i => Tab.get (fun _ => (0xFF : Byte)) s.rgc.cfg (copyBase c + off + i))

/-- Programs bytes of a copy. -/
def State.cfgPut (s : State) (c off : Nat) (l : List Byte) : State :=
  let t := (upTo l.length).foldl (fun t i => Tab.set (fun _ => (0xFF : Byte)) t (copyBase c + off + i) (l.getD i 0)) s.rgc.cfg
  ({ s with rgc := { s.rgc with cfg := t } }).emit (.cfg "program" (copyBase c + off))

/-- Erases a whole copy. -/
def State.cfgErase (s : State) (c : Nat) : State :=
  ({ s with rgc := { s.rgc with
    cfg := Tab.drop (fun a => decide (copyBase c ≤ a ∧ a < copyBase (c + 1))) s.rgc.cfg
    good := s.rgc.good.erase c
    verifiedB := s.rgc.verifiedB && c == 0 } }).emit (.cfg "erase" (copyBase c))

/-- A copy's seal-failure latch (R409). -/
def State.sealLatch (s : State) (c : Nat) : Bool := if c = 0 then s.rgc.sealA else s.rgc.sealB

/-- Sets or clears a copy's seal-failure latch. -/
def State.setSealLatch (s : State) (c : Nat) (b : Bool) : State :=
  if c = 0 then { s with rgc := { s.rgc with sealA := b } } else { s with rgc := { s.rgc with sealB := b } }

/-! ### SUPPLY (R371, R409, R412) -/

/-- The CRC-32 of a copy's SUPPLY section holds (R412). -/
def State.supplyOk (s : State) (c : Nat) : Bool := (crc32 (s.cfgBytes c 0 728)).toNat == leNat (s.cfgBytes c 728 4)

/-- IMAGE_SEQ of a copy, from a copy whose CRC passes, plus 1; 0 else. -/
def State.seqRank (s : State) (c : Nat) : Nat := if s.supplyOk c then leNat (s.cfgBytes c 12 4) + 1 else 0

/-- The order in which copies are tried (R409); one whose seal has failed is skipped. -/
def State.copyOrder (s : State) (sel : Nat) : List Nat :=
  let l := if sel = 0 then (if s.seqRank 0 < s.seqRank 1 then [1, 0] else [0, 1])
    else if sel = 1 then [0, 1] else if sel = 2 then [1, 0] else [0]
  l.filter (fun c => !s.sealLatch c)

/-- Writes the image bits of a register. -/
def State.putImage (s : State) (a v : Nat) : State :=
  match regDefAt a with
  | some d =>
    let old := (s.reg a).toNat
    s.setReg a (BitVec.ofNat 32 ((v &&& d.img) + (old - (old &&& d.img))))
  | none => s

/-- The SUP settings of a SUPPLY value (R412). -/
def State.putSupply (s : State) (v : List Byte) : State :=
  let s1 := (s.putImage rSUP_CTRL (numAt v 0 4)).putImage rSUP_BTN (numAt v 4 4)
  let s2 := (upTo 24).foldl (fun s n =>
    ((s.putImage (rSUP_RAIL_TIME + 16 * n) (numAt v (16 + 16 * n) 4)).putImage (rSUP_RAIL_DEP + 16 * n)
      (numAt v (20 + 16 * n) 4)).putImage (rSUP_RAIL_CFG + 16 * n) (numAt v (24 + 16 * n) 4)) s1
  let s3 := (upTo 32).foldl (fun s m =>
    (s.putImage (rSUP_MON_THR + 16 * m) (numAt v (400 + 8 * m) 4)).putImage (rSUP_MON_CFG + 16 * m)
      (numAt v (404 + 8 * m) 4)) s2
  { s3 with sup := { s3.sup with supply := v, bank := bitOf (numAt v 8 1) 0, supplyBad := false } }

/-- The supervisor reads the SUPPLY section (R371); a copy whose CRC fails is recorded. -/
def State.readSupply (s : State) : State :=
  let order := s.copyOrder s.top.bootPins
  let bad := order.takeWhile (fun c => !s.supplyOk c)
  let s1 := bad.foldl (fun s c => s.note 0x455 [c, 0]) s
  match order.find? s.supplyOk with
  | some c => s1.putSupply (s.cfgBytes c 72 660)
  | none => { s1 with sup := { s1.sup with supplyBad := true, supply := [] } }

/-! ### Checking a copy (R410 to R415) -/

/-- A section: TYPE, CRITICAL, value. -/
structure Sect where
  type : Nat := 0
  critical : Bool := false
  value : List Byte := []
  /-- its padding is zero -/
  padOk : Bool := true
deriving DecidableEq, Repr

/-- The sections of a run of bytes, which they must fill exactly (R411). -/
def parseSects : Nat → List Byte → Option (List Sect)
  | 0, _ => none
  | fuel + 1, l =>
    if l.isEmpty then some []
    else if l.length < 8 then none
    else
      let n := numAt l 4 4
      let all := 8 * ceilDiv n 8
      let rest := l.drop 8
      if rest.length < all then none
      else (parseSects fuel (rest.drop all)).map (fun t =>
        { type := numAt l 0 2
          critical := bitOf (numAt l 2 2) 0
          value := rest.take n
          padOk := ((rest.take all).drop n).all (· == 0) } :: t)

/-- The value length of a section whose TYPE fixes one. -/
def sectLenOk (x : Sect) : Bool :=
  if x.type = 1 then x.value.length == 660
  else if x.type = 2 then x.value.length == 768
  else if x.type = 3 then x.value.length % 8 == 0
  else if x.type = 4 then x.value.length == 128
  else if x.type = 5 then x.value.length == 1568
  else true

/-- How many sections have a TYPE. -/
def sectCount (l : List Sect) (t : Nat) : Nat := (l.filter (fun x => x.type == t)).length

/-- R411: SUPPLY first, SUPPLY, START and PORTS exactly once, no unknown critical section. -/
def sectsOk (l : List Sect) (count : Nat) : Bool :=
  decide (l.length = count) && (l.head?.elim false (fun x => x.type == 1)) && sectCount l 1 == 1 && sectCount l 2 == 1
    && sectCount l 4 == 1 && l.all (fun x => x.padOk && sectLenOk x && (decide (1 ≤ x.type ∧ x.type ≤ 5) || !x.critical))

/-- The value of the last section of a TYPE. -/
def sectValue (l : List Sect) (t : Nat) : Option (List Byte) :=
  ((l.filter (fun x => x.type == t)).getLast?).map (·.value)

/-- The records of the REGS sections in order: address word and value (R414). -/
def regRecs (l : List Sect) : List (Nat × Nat) :=
  (l.filter (fun x => x.type == 3)).flatMap (fun x =>
    (upTo (x.value.length / 8)).map (fun i => (numAt x.value (8 * i) 4, numAt x.value (8 * i + 4) 4)))

/-- A seed register (R461). -/
def seedReg (a : Nat) : Bool := decide (rSEC_SEED0 ≤ a ∧ a ≤ rSEC_SEED7)

/-- A record names a register with reset Image, at its own address (R414); the seed only in a provisioning image (R461). -/
def recOk (provision : Bool) (r : Nat × Nat) : Bool :=
  r.1 % 4 == 0 && r.1 < 2 ^ 26 && ((regDefAt r.1).elim false (fun d => d.img != 0)) && (provision || !seedReg r.1)

/-- What a check of a copy finds: the cause of R415, 0 when it passes; whether cause 6 was its only failure; header and
sections. -/
structure Checked where
  cause : Nat := 0
  only6 : Bool := false
  header : List Byte := []
  sects : List Sect := []
deriving DecidableEq, Repr

/-- PROVISION of a header. -/
def headProvision (h : List Byte) : Bool := bitOf (numAt h 6 2) 1

/-- Checks 7 to 9 of R415 under a lifecycle state. -/
def State.lateCause (s : State) (h : List Byte) (life : Nat) : Nat :=
  if numAt h 12 4 < s.rgc.floor then 7
  else if life ≥ 2 ∨ (decide (life = 0) != headProvision h) = true then 8
  else if s.sec.fuse.romRev < numAt h 28 4 then 9
  else 0

/-- Checks a copy whose bytes 0 to 63 are given (R415): `life` is the lifecycle state whose rules hold, `rails` whether
check 6 is made. The seal check is one request of KCE, and sets the copy's latch when it fails. -/
def State.checkCopy (s : State) (c : Nat) (h : List Byte) (life : Nat) (rails : Bool) : State × Checked :=
  let len := numAt h 8 4
  if numAt h 0 4 ≠ 0x4C494C45 ∨ numAt h 4 2 ≠ 1 then (s, { cause := 1 })
  else if len % 16 ≠ 0 ∨ len < 80 ∨ len > 0x800000 then (s, { cause := 2 })
  else
    let all := h ++ s.cfgBytes c 64 (len - 64)
    match parseSects len ((all.drop 64).take (len - 80)) with
    | none => (s, { cause := 2 })
    | some l =>
      let (s1, k) := s.imageKey (bitOf (numAt h 6 2) 0)
      let (s2, good) := s1.kceVerify k (all.take (len - 16)) (all.drop (len - 16))
      if !good then (s2.setSealLatch c true, { cause := 3 })
      else if !sectsOk l (numAt h 24 4) then (s2, { cause := 4 })
      else if !(regRecs l).all (recOk (headProvision h)) then (s2, { cause := 5 })
      else
        let late := s2.lateCause h life
        if rails ∧ sectValue l 1 ≠ some s2.sup.supply then (s2, { cause := 6, only6 := late == 0 })
        else (s2, { cause := late, header := h, sects := l })

/-- A copy is rejected (R415): record 0x477, source 0x04B. -/
def State.rejectCopy (s : State) (c cause : Nat) : State :=
  ((({ s with rgc := { s.rgc with cause := cause } }).bumpFld fRGC_CNT_REJECT_IMAGE).raise 0x04B).note 0x477 [c, cause]

/-- Tries copies in order (R415): the one taken, if any, and whether cause 6 was the only failure of some copy. A copy that
fails with cause 8 in Owned is erased (R462). -/
def State.tryCopies (s : State) (only6 : Bool) : List Nat → State × Option (Nat × Checked) × Bool
  | [] => (s, none, only6)
  | c :: t =>
    let (s1, x) := s.checkCopy c (s.cfgBytes c 0 64) s.lifecycle true
    if x.cause = 0 then (s1.note 0x476 [c, numAt x.header 12 4], some (c, x), only6)
    else
      let s2 := s1.rejectCopy c x.cause
      let s3 := if x.cause = 8 ∧ s2.lifecycle = 1 then s2.cfgErase c else s2
      s3.tryCopies (only6 || x.only6) t

/-! ### What an image writes (R413, R414, R417) -/

/-- Every image field outside SUP returns to its default. -/
def State.imageDefaults (s : State) : State :=
  let keep (e : Nat × W32) : W32 :=
    match regDefAt e.1 with
    | some d =>
      let dflt := (regReset e.1).toNat
      BitVec.ofNat 32 ((dflt &&& d.img) + (e.2.toNat - (e.2.toNat &&& d.img)))
    | none => e.2
  { s with regs := s.regs.foldl (fun t e => if e.1 / 0x100000 = 1 then t else Tab.set regReset t e.1 (keep e)) s.regs }

/-- START (R413). -/
def State.putStart (s : State) (v : List Byte) : State :=
  let s1 := (((s.putImage rDMC_POP (numAt v 0 4)).putImage rFCH_RESV (numAt v 16 4)).putImage rEPO_POOL_SIZE
    (numAt v 20 4)).putImage rTWN_PAIR_LO (numAt v 24 4) |>.putImage rTWN_PAIR_HI (numAt v 28 4)
  let s2 := (upTo 4).foldl (fun s p =>
    (s.putImage (rBPM_POOL_CFG + 4 * p) (numAt v (32 + 4 * p) 4)).putImage (rBPM_HDRM + 4 * p) (numAt v (48 + 4 * p) 4)) s1
  let mins := (upTo 352).foldl (fun (t : Tab Nat) k => Tab.set (fun _ => 0) t k (numAt v (64 + 2 * k) 2 + 1)) []
  { s2 with
    bpm := { s2.bpm with minima := mins }
    rgc := { s2.rgc with start := v, profile := (numAt v 4 1, numAt v 5 1, numAt v 8 8) } }

/-- PORTS (R23): a context bound otherwise than before loses its maps. No client is bound to 0x000 or 0xFFF (R4): a word that names
tenant 0x000, or a tenant with host 0x000 or 0xFFF, leaves its context unbound (DESIGN CHOICE, log 97). -/
def State.putPorts (s : State) (v : List Byte) : State :=
  (upTo 32).foldl (fun s c =>
    let w := numAt v (4 * c) 4
    let x0 : Ctx := { host := bitsOf w 11 0, tenant := bitsOf w 23 12 }
    let x : Ctx := if x0.tenant = 0 ∨ (x0.tenant ≠ 0xFFF ∧ (x0.host = 0 ∨ x0.host = 0xFFF)) then {} else x0
    if s.ctx c = x then s
    else
      let maps := (s.tqm.maps.filter (fun e => e.1 / 4096 == c && e.2.valid)).map (·.1 % 4096)
      (maps.foldl (fun s m => s.closeMap c m .nobody) s).setCtx c x) s

/-- NET (R267, R335): the address table and the witness addresses; without the section none is valid. A change of the
table is told to the async ring (R292). -/
def State.putNet (s : State) (v : List Byte) : State :=
  let addrs := (upTo 64).foldl (fun (t : Tab NetAddr) i =>
    let a := 24 * i
    if (v.drop a).isEmpty then t
    else Tab.set (fun _ => ({} : NetAddr)) t i
      { addr := numAt v a 16
        mask := numAt v (a + 16) 4
        valid := bitOf (numAt v (a + 20) 1) 0
        floating := bitOf (numAt v (a + 20) 1) 1 }) []
  let changed := decide (addrs ≠ s.nre.addrs)
  let s1 : State := { s with
    nre := { s.nre with addrs := addrs }
    rgc := { s.rgc with witnesses := if v.isEmpty then [] else [(v.drop 1536).take 16, (v.drop 1552).take 16] } }
  if changed ∧ s1.nre.ready then s1.async 8 0xFF 0 0 0 false else s1

/-- One REGS record (R414): the seed goes to SEC. -/
def State.putRec (s : State) (r : Nat × Nat) : State :=
  if seedReg r.1 then
    let old := s.sec.seed.getD (List.replicate 32 0)
    let at_ := r.1 - rSEC_SEED0
    let new := (upTo 4).foldl (fun l i => setAt l (at_ + i) (r.2 / 2 ^ (8 * i) % 256)) old
    { s with sec := { s.sec with seed := some new } }
  else s.putImage r.1 r.2

/-- Writes an image into the blocks (R417): defaults, START, PORTS, NET, REGS. INT_CTRL.MODE is SERVICE when no record
names it (R367); `live` says that it takes effect now. -/
def State.applyImage (s : State) (c : Nat) (x : Checked) (live : Bool) : State :=
  let recs := regRecs x.sects
  let s1 := (((s.imageDefaults.putStart ((sectValue x.sects 2).getD [])).putPorts ((sectValue x.sects 4).getD [])).putNet
    ((sectValue x.sects 5).getD []))
  let s2 := recs.foldl State.putRec s1
  let mode := if recs.any (fun r => r.1 == rINT_CTRL) then s2.flag fINT_CTRL_MODE else true
  let s3 : State := { s2 with
    int := { s2.int with imgMode := mode }
    rgc := { s2.rgc with copy := c, seq := numAt x.header 12 4, header := x.header } }
  let s4 := (s3.setFld fINT_CTRL_MODE (b2n (live && mode))).sbSync
  { s4 with rgc := { s4.rgc with image := s4.regs } }

/-- The start-only settings (R399): what START gives, in the registers and beside them, and the SUPPLY value. -/
def State.startOnly (s : State) : List Nat × Tab Nat × (Nat × Nat × Nat) :=
  (([rDMC_POP, rFCH_RESV, rEPO_POOL_SIZE, rTWN_PAIR_LO, rTWN_PAIR_HI] ++ (upTo 4).map (fun p => rBPM_POOL_CFG + 4 * p)
    ++ (upTo 4).map (fun p => rBPM_HDRM + 4 * p)).map (fun a =>
      (s.reg a).toNat &&& ((regDefAt a).elim 0 (fun d => d.img))), s.bpm.minima, s.rgc.profile)

end Sys2Proof.Machine
end

