-- ==== Sys2Proof/Machine/ResetOps.lean ====
section
/-! DEFINITION. What resets and power losses take away (R396 to R405, R437), and the rail sequences of the supervisor (R370
to R379). -/

namespace Sys2Proof.Machine

/-! ### Resets -/

/-- A flash operation cut short leaves a word or a sector that no one can trust (R437). -/
def State.opTorn (s : State) : FlashOp → State
  | .program w _ => s.setFword w .torn
  | .erase sec => (upTo 256).foldl (fun s i => s.setFword (sec * 256 + i) .torn) s
  | .none => s

/-- The operations of both banks and the suspended erase are cut short; the calls that wait are gone. -/
def State.flashCut (s : State) : State :=
  let s1 := (s.opTorn s.efl.op0).opTorn s.efl.op1
  let s2 := match s.efl.susp with
    | some sec => s1.opTorn (.erase sec)
    | none => s1
  { s2 with efl := { s2.efl with op0 := .none, op1 := .none, susp := none, waits := [] } }

/-- What embedded flash keeps of EFL: the registers are at their reset values (R405). -/
def EflSt.restart (e : EflSt) : EflSt :=
  { words := e.words
    opened := e.opened
    jseq := e.jseq
    jsec := e.jsec
    jat := e.jat
    ptrBank := e.ptrBank
    ptrCount := e.ptrCount
    psec := e.psec
    pat := e.pat
    half := e.half
    halfGen := e.halfGen
    halfAt := e.halfAt
    keys := e.keys }

/-- A channel at a core reset (R189, R181): a serving one is in self-refresh, a failed one stays so. -/
def DmcCh.restart (c : DmcCh) : DmcCh :=
  { st := if c.st = 2 ∨ c.st = 3 ∨ c.st = 4 then 3 else if c.st = 5 then 5 else 0
    rankBits := c.rankBits
    saved := c.saved
    savedRes := c.savedRes }

/-- A stream record at a core reset: what it holds in DRAM stays; what waits in it is lost with the links. -/
def Stream.restart (r : Stream) : Stream :=
  { r with
    queue := []
    acks := []
    close := none
    st := if r.st = .closing then .opened else r.st }

/-- An address in the SUP window, whose registers and counters a Pin reset keeps (R405). -/
def supWindow (a : Nat) : Bool := a / 0x100000 == 1

/-- The registrar's blocks at a reset of the core (R405): registers and mailbox at their reset values; the flashes, the
latches of the always-on domain and the floor stay. -/
def State.restartRgc (s : State) : State :=
  let s1 := s.flashCut
  { s1 with
    rgc := { sealA := s.rgc.sealA, sealB := s.rgc.sealB, floor := s.rgc.floor, cfg := s.rgc.cfg }
    efl := s1.efl.restart
    dbk := { queue := s.dbk.queue, cycles := s.dbk.cycles, hours := s.dbk.hours, startAt := s.dbk.startAt } }

/-- The blocks of the data path at a reset of the core (R405). -/
def State.restartData (s : State) : State :=
  { s with
    tqm := { s.tqm with
      tenants := Tab.update (fun _ => {}) (fun (t : Tenant) => { t with deskUse := 0 }) s.tqm.tenants
      objs := Tab.update (fun _ => {}) (fun (o : Obj) => { o with waiter := none }) s.tqm.objs
      windows := Tab.update (fun _ => {}) (fun (w : Window) => { w with clearing := none }) s.tqm.windows
      maps := s.tqm.maps.filter (fun e => e.2.valid)
      ready := false
      grps := []
      nextGrp := 0
      allocWaits := [] }
    epo := { s.epo with
      streams := s.epo.streams.foldl (fun t e => Tab.set (fun _ => s.epo.blank) t e.1 e.2.restart) []
      ready := false
      soloSaid := true
      loads := []
      behind := [] }
    fch := {
      dir := s.fch.dir
      pinRsv := s.fch.pinRsv
      sets := s.fch.sets
      held := s.fch.held
      ages := s.fch.ages
      metaDirty := Tab.update (fun _ => 0) (fun (v : Nat) => if v = 0 then 0 else 1) s.fch.metaDirty }
    rsv := {
      lastIncomplete := s.rsv.lastIncomplete
      loadDue := s.rsv.loadDue
      vaultSeq := s.rsv.vaultSeq
      dirtyMap := s.rsv.dirtyMap
      savedStreams := s.rsv.savedStreams
      savedBase := s.rsv.savedBase
      savedSegs := s.rsv.savedSegs }
    lpr := {
      dram := s.lpr.dram
      resv := s.lpr.resv
      erasure := s.lpr.erasure
      remap := Tab.update (fun _ => {}) (fun (r : Remap) => if r.persisted then r else {}) s.lpr.remap }
    stk := { links := Tab.update (fun _ => {}) (fun (l : StkLink) => { uidRec := l.uidRec, trims := l.trims }) s.stk.links }
    twn := {
      gen := s.twn.gen
      wasHolder := s.twn.wasHolder || s.twn.role == .active
      handed := s.twn.handed
      diverge := s.twn.diverge }
    bpm := {}
    dmc := { s.dmc with chs := Tab.update (fun _ => {}) DmcCh.restart s.dmc.chs } }

/-- Every core domain is reset (R396, R405): the supervisor, its registers and counters, and the always-on ports stay; so
does what the always-on domain remembers. -/
def State.coreReset (s : State) : State :=
  let s1 := s.restartRgc.restartData
  let kept (a : Nat) : Bool := supWindow a
  { s1 with
    regs := Tab.drop (fun a => !kept a) s1.regs
    cnt := Tab.drop (fun a => !(kept a || a == rRSV_CNT_VAULTS)) s1.cnt
    sh := Tab.drop (fun a => !kept a) s1.sh
    iaddr := []
    done := []
    int := {}
    tvl := { roles := s.tvl.roles }
    eth := {}
    nre := { hosts := s.nre.hosts }
    cir := { s.cir with
      loading := []
      streams := Tab.update (fun _ => {}) (fun (x : CirStream) => if x.st = 0 then x else x.rearm) s.cir.streams }
    pwr := { st := s.pwr.st, meter := s.pwr.ckpt, ckpt := s.pwr.ckpt }
    cru := {
      refOk := s.cru.refOk
      xtalOk := s.cru.xtalOk
      pinHeld := s.cru.pinHeld
      xtalHeld := s.cru.xtalHeld
      startDue := s.cru.startDue
      next := s.cru.next
      consumed := s.cru.consumed
      pinsDriven := s.cru.pinsDriven
      awaitAccept := s.cru.awaitAccept }
    sec := { fuse := s.sec.fuseCut, level := s.baseLevel }
    top := { bootPins := s.top.bootPins, vioPin := s.top.vioPin }
    sbb := { s.sbb with chs := Tab.update (fun _ => {}) (fun (c : SbCh) => { scl := c.scl, sda := c.sda }) s.sbb.chs }
    dft := { jtag := s.dft.jtag }
    ports := false }

/-- DRAM loses its content (R405): lines, directory, the stream table and its segments. Tables of objects and tenants come
back from the metadata shelf as they were. Whether the last vault was complete is judged again from its header (R107). -/
def State.dramLose (s : State) : State :=
  { s with
    tqm := { s.tqm with tenants := Tab.update (fun _ => {}) (fun (t : Tenant) => { t with cacheUse := 0, accUse := 0 }) s.tqm.tenants }
    epo := { s.epo with streams := [], base := (0, 0), used := [] }
    fch := { s.fch with dir := [], pinRsv := [], dead := [], held := false, ages := [], metaDirty := [] }
    rsv := { s.rsv with lastIncomplete := false, loadDue := false }
    cru := { s.cru with awaitAccept := false }
    lpr := { s.lpr with dram := [], resv := false, scrubHit := [], scrubNow := [] }
    dmc := { s.dmc with chs := Tab.update (fun _ => {}) (fun (c : DmcCh) => { c with st := 0 }) s.dmc.chs } }

/-! ### Rail sequences (R370 to R379) -/

/-- A rail slot in use. -/
def State.isRail (s : State) (n : Nat) : Bool := decide (n < 24) && s.railKind n == 1

/-- Rails that list `n` in their DEP field all show power good (R372). -/
def State.depsGood (s : State) (n : Nat) : Bool :=
  (upTo 24).all (fun m => !(s.isRail m && bitOf (s.fld (fSUP_RAIL_DEP_DEP.plus (16 * m))) n) || (s.rail m).pg)

/-- Rails that depend on some rail of a list, that list included, in at most `fuel` rounds: the closure of R373. -/
def State.dependants (s : State) : Nat → List Nat → List Nat
  | 0, l => l
  | fuel + 1, l =>
    s.dependants fuel ((upTo 24).filter (fun n =>
      l.contains n || l.any (fun m => bitOf (s.fld (fSUP_RAIL_DEP_DEP.plus (16 * m))) n)))

/-- Tick of the sequence that runs (SUP_TICK). -/
def State.supTick (s : State) : Nat :=
  if s.sup.seq = 1 ∨ s.sup.seq = 3 then ((s.timeUs - s.sup.seqAt) / 10) % 65536 else 0

/-- Phase of record 0x450: 0 power-up, 1 in service, 2 power-down. -/
def State.supPhase (s : State) : Nat := if s.sup.seq = 1 then 0 else if s.sup.seq = 3 then 2 else 1

/-- Changes every rail slot that is a rail. -/
def State.mapRails (s : State) (f : Nat → Rail → Rail) : State :=
  ((upTo 24).filter s.isRail).foldl (fun s n => s.setRail n (f n (s.rail n))) s

/-- A power-up is complete once no rail waits or is on without power good (R372): the start is due. -/
def State.upCheck (s : State) : State :=
  if s.sup.seq = 1 ∧ (upTo 24).all (fun n => !s.isRail n || (s.rail n).dropping || ((s.rail n).st != 1 && (s.rail n).st != 2)) then
    { s with sup := { s.sup with seq := 2 }, cru := { s.cru with startDue := true } }
  else s

/-- A power-down is complete once no rail that was to go is on or shows power good, STUCK ones apart (R372, R375): 500 ms
follow (R377). -/
def State.downCheck (s : State) : State :=
  if s.sup.seq = 3 ∧ (upTo 24).all (fun n =>
      let r := s.rail n
      !s.isRail n || r.kept || r.st == 6 || (!r.en && !r.pg)) then
    { s with sup := { s.sup with seq := 4, standby := s.sup.dest == .standby } }
  else s

/-- A power-down begins (R372): the core stops; rails not yet enabled are skipped, kept ones stay. -/
def State.powerDown (s : State) (dest : Dest) (cause : Nat) : State :=
  let s1 := (s.setPwr (if dest = .standby then .standby else .off) cause).coreReset
  let s2 := s1.mapRails (fun n r => { r with
    st := if r.st = 1 then 0 else r.st
    kept := decide (dest = .standby) && s1.flag (fSUP_RAIL_CFG_KEEP_SB.plus (16 * n)) && r.en })
  ({ s2 with
    sup := { s2.sup with seq := 3, seqAt := s.timeUs, dest := dest, standby := false }
    cru := { s2.cru with startDue := false } }).downCheck

/-- A power-up begins (R371, R372, R376): SUPPLY is read again, the status of the last one goes, every rail that was not
kept waits for its turn. With no good SUPPLY no rail is enabled. -/
def State.powerUp (s : State) : State :=
  let from_ := s.sup.standby
  let s0 : State := { s with
    cnt := Tab.drop supWindow s.cnt
    sh := Tab.drop supWindow s.sh
    sup := { s.sup with onLatched := false, railFail := false, dischFail := false } }
  let s1 := s0.readSupply
  if s1.sup.supplyBad then s1
  else
    let s2 := s1.mapRails (fun _ r => if r.kept && r.en then { r with kept := false } else { st := 1, pg := r.pg })
    let s3 := ((upTo 24).filter (fun n => s2.railKind n == 2)).foldl (fun s n => s.setRail n {}) s2
    ({ s3 with
      sup := { s3.sup with seq := 1, seqAt := s.timeUs, standby := false, vaultOff := false }
      cru := { s3.cru with next := if from_ then 5 else if s.cru.next = 0 then 0 else 4 } }).upCheck

/-- An on request (R376, R377): a power-up, or a latch while a power-down or its 500 ms run. -/
def State.onRequest (s : State) : State :=
  if !s.sup.aon then s
  else if s.sup.seq = 3 ∨ s.sup.seq = 4 then { s with sup := { s.sup with onLatched := true } }
  else if s.sup.seq = 0 then s.powerUp
  else s

/-- An off request (R376, R377): a power-down from a power-up or from service; from Standby the kept rails go too. A vault
runs to its end (R103). -/
def State.offRequest (s : State) (cause : Nat) : State :=
  if s.rsv.ph ≠ .off then s
  else if s.sup.seq = 1 ∨ s.sup.seq = 2 ∨ (s.sup.seq = 0 ∧ s.sup.standby) then s.powerDown .off cause
  else s

/-- A rail fails (R373, R374): it is disabled at once; its dependants go at their OFF_TICKs, or a FATAL one starts a
power-down, which a vault in progress comes before (R103). -/
def State.railFails (s : State) (n : Nat) : State :=
  let tick := s.supTick
  let phase := s.supPhase
  let s1 := s.setRail n { s.rail n with st := 5, en := false, dropping := false }
  let s2 := (({ s1 with sup := { s1.sup with railFail := true } }).bumpFld fSUP_CNT_FAIL_RAIL).note 0x450 [n, phase, tick]
  let s3 := s2.snapshot
  if s3.sup.seq = 3 then s3.downCheck
  else if s3.flag (fSUP_RAIL_CFG_FATAL.plus (16 * n)) then
    (if s3.rsv.ph ≠ .off then { s3 with sup := { s3.sup with dest := .off } } else s3.powerDown .off 6)
  else
    let deps := (s3.dependants 24 [n]).filter (fun m => m != n && s3.isRail m)
    (deps.foldl (fun s m =>
      let r := s.rail m
      s.setRail m { r with st := if r.st = 1 then 0 else r.st, dropping := r.en }) s3).upCheck

end Sys2Proof.Machine
end

