-- ==== Sys2Proof/Machine/StkRows.lean ====
section
/-! DEFINITION. The commands of STK (R145 to R165): training, cells, responses, timeouts, loss. -/

namespace Sys2Proof.Machine

/-- An enabled link of a powered chip. -/
def State.stkLive (s : State) (n : Nat) : Bool := decide (n < 16) && s.coreOn && s.pwr.st != .quiesced && s.stkOn n

/-- The 1 s retry of training (R145): a link that is DOWN trains; one that is LOST stays LOST until its sled has been
judged. An attempt without cell lock leaves the link as it was, and the next one follows. -/
def execStkTrainAttempt (link : Nat) (s : State) : Host.Outcome State Fault Refusal :=
  let l := s.link link
  finish (if s.stkLive link ∧ !l.trained ∧ (l.st = 0 ∨ l.st = 1 ∨ l.st = 3) then
      (s.setLink link { l with st := if l.st = 3 then 3 else 1 }).emit (.stkTrain link)
    else s)

/-- A link trains: cells number from 0 on both sides, its FEC stream starts, and STATUS is sent (R163). No lane trains without its group's
reference (R395). -/
def execStkLinkTrained (link : Nat) (s : State) : Host.Outcome State Fault Refusal :=
  let l := s.link link
  finish (if s.stkLive link ∧ bitOf s.cru.refOk 3 ∧ !l.trained ∧ (l.st = 1 ∨ l.st = 3) then
      (s.setLink link { l with
        trained := true
        txSeq := 0
        rxAck := 0
        rxSeq := 0
        nak := false
        kept := []
        rx := []
        hb := 0
        hbOut := 0
        line := [] }).laneTrained (112 + link) 1 |>.stkSend link { op := 5 }
    else s)

/-! ### Responses (R149 to R157) -/

/-- The record of one folio of a TILE_READ's response: the records stand in ascending order of MASK & ~TRIMMED & ~BAD. -/
def recOf (mask trimmed bad i : Nat) (recs : List (List (Line × Tag))) : Option (List (Line × Tag)) :=
  let with_ (k : Nat) : Bool := bitOf mask k && !bitOf trimmed k && !bitOf bad k
  if with_ i then recs[((upTo i).filter with_).length]? else none

/-- One folio of a TILE_READ's response (R132, R136, R156, R157): for the resync copy, for its fill, or a neighbour that a
demand fill asked for; a folio in TRIMMED is 32 zero lines. -/
def State.folioRead (s : State) (n : Nat) (r : StkReq) (trimmed bad : Nat) (recs : List (List (Line × Tag))) (i : Nat) : State :=
  let f := r.ltile * 16 + i
  let owner := (s.objOfShelf (shelfOf f)).tenant
  let near := r.want.isSome && r.want != some f
  if bitOf trimmed i then
    let s1 := s.copyArrive f none ((r.mask &&& trimmed) == 0xFFFF)
    match s1.fillOf f with
    | some x => s1.fillArrive x (s1.zeroLines f owner)
    | none => if near then s1.neighbour f (s1.zeroLines f owner) else s1
  else match recOf r.mask trimmed bad i recs with
    | none => if near ∧ (s.fillOf f).isNone then s else (s.copyArrive f none false).fillFail f rsMEDIA n bad
    | some lines =>
      let s1 := s.copyArrive f (some lines) false
      match s1.fillOf f with
      | some x => s1.fillArrive x lines
      | none => if near then s1.neighbour f lines else s1

/-- A TILE_READ is answered (R150, R154 to R157). -/
def State.readAnswer (s0 : State) (link : Nat) (r : StkReq) (status trimmed bad : Nat) (recs : List (List (Line × Tag))) : State :=
  let s := s0.stkHeard link r
  if status = 4 then s.stkRetry link r
  else if status = 2 then s.stkRange link
  else
    let l := s.link link
    let s1 := ((s.setLink link { l with rtts := ((s.timeUs - r.since) :: l.rtts).take 64 }).stkDrop link r.tag).bump
      (rSTK_LINK_CNT_READ + 0x20 * link)
    let s2 :=
      if status ≤ 1 then ((upTo 16).filter (bitOf r.mask)).foldl (fun s i => s.folioRead link r trimmed bad recs i) s1
      else s1.readFail link r rsMEDIA
    s2.stkPump link

/-- Tiles of the vault area below this one are the header and the dirty-shelf map (R161). -/
def vaultFixedTiles : Nat := 17

/-- Folios of an acknowledged tile of the vault area that count in WRITTEN (R92, R106): the header and the map once, whichever
sled has them first, the stream table and the segments; the segment index is in no count. -/
def State.vaultAcked (s : State) (r : StkReq) : State :=
  let t := r.ltile - vaultTile
  if s.rsv.ph ≠ .writing then s
  else if t < vaultFixedTiles then
    (if s.rsv.acked.contains t then s
    else { s with rsv := { s.rsv with acked := t :: s.rsv.acked, written := s.rsv.written + 16 } })
  else if t < 25 then s
  else { s with rsv := { s.rsv with written := s.rsv.written + 16 } }

/-- A TILE_WRITE is answered (R104, R106, R136, R154, R155, R160): an acknowledgement makes its folios clean; in a vault the
next step may follow. -/
def State.writeAnswer (s0 : State) (link : Nat) (r : StkReq) (status : Nat) : State :=
  let s := s0.stkHeard link r
  (if status = 4 then s.stkRetry link r
  else if status = 2 then s.stkRange link
  else if status ≠ 0 then s.stkLose link 3
  else
    let s1 := (s.stkDrop link r.tag).bump (rSTK_LINK_CNT_WRITE + 0x20 * link)
    let s2 :=
      if r.ltile ≥ vaultTile then
        (if s1.rsv.ph = .header then { s1 with rsv := { s1.rsv with headed := s1.rsv.headed ||| 2 ^ link } } else s1.vaultAcked r)
      else
        let t := s1.tileWritten r
        if s1.rsv.ph = .off then t
        else { t with rsv := { t.rsv with written := t.rsv.written + (s1.dirtyCount - t.dirtyCount) } }
    s2.stkPump link).vaultGo

/-- A TILE_TRIM is answered (R49, R163): a whole shelf is free again and its stacks charge released; a sled taken in whole goes
on to its next shelf. -/
def State.trimAnswer (s0 : State) (link : Nat) (r : StkReq) (status : Nat) : State :=
  let s := s0.stkHeard link r
  if status = 4 then s.stkRetry link r
  else if status = 2 then s.stkRange link
  else if status ≠ 0 then s.stkLose link 3
  else
    let s1 := s.stkDrop link r.tag
    let l := s1.link link
    let s2 :=
      if r.arg ≠ 16384 then s1
      else if l.trimAt = some r.shelf then (s1.setLink link { l with trimAt := some (r.shelf + 1) }).trimNext link
      else
        let t := Tab.get (fun _ => ({} : Tenant)) s1.tqm.tenants r.ltile
        (s1.setLink link { l with trims := l.trims.filter (· != r.shelf) }).setTenant r.ltile { t with stkUse := t.stkUse - 1 }
    s2.stkPump link

/-- A SHELF_SEAL is answered (R104): the link is SEALED; with the last one the headers are rewritten. -/
def State.sealAnswer (s0 : State) (link : Nat) (r : StkReq) (status : Nat) : State :=
  let s := s0.stkHeard link r
  (if status = 4 then s.stkRetry link r
  else if status = 2 then s.stkRange link
  else if status ≠ 0 then s.stkLose link 3
  else
    let s1 := s.stkDrop link r.tag
    let s2 : State := { s1 with rsv := { s1.rsv with sealed := s1.rsv.sealed ||| 2 ^ link } }
    s2.setLink link { s2.link link with st := 5 }).vaultGo

/-- A STATUS request is answered (R151, R163): the payload is stored, and a sled that has just trained is judged, at step 8
when a start has not come so far. -/
def State.statusAnswer (s0 : State) (link : Nat) (r : StkReq) (status : Nat) (payload : List Byte) : State :=
  let s := s0.stkHeard link r
  if status = 4 then s.stkRetry link r
  else if status = 2 then s.stkRange link
  else if status ≠ 0 then s.stkLose link 3
  else
    let at_ (a n : Nat) : Nat := leNat ((payload.drop a).take n)
    let s1 := s.stkDrop link r.tag
    let l := s1.link link
    let s2 := s1.setLink link { l with
      uid := at_ 0 8
      shelves := at_ 8 4
      maxOut := at_ 12 2
      sealRate := at_ 14 2
      sledSt := at_ 16 1
      mediaErr := at_ 24 8 }
    let s3 := if l.trained ∧ !s2.beforeStep8 then s2.stkJudge link else s2
    let s4 := if s3.rsv.ph = .entry ∧ l.trained ∧ (s3.link link).st = 2 then s3.vaultBegin link else s3
    s4.stkPump link

/-- A VAULT_BEGIN is answered (R104, R154, R155): OK makes the sled ready, BUSY has it asked again 1 ms later. -/
def State.beginAnswer (s0 : State) (link : Nat) (r : StkReq) (status : Nat) : State :=
  let s := s0.stkHeard link r
  let s1 := s.stkDrop link r.tag
  let s2 : State :=
    if status = 2 then s.stkRange link
    else if s1.rsv.ph ≠ .entry then s1
    else if status = 0 then { s1 with rsv := { s1.rsv with
        ready := s1.rsv.ready ||| 2 ^ link
        failed := s1.rsv.failed &&& (65535 - 2 ^ link) } }
    else if status = 4 then s1.setLink link { s1.link link with vbAgain := true }
    else s1
  s2.vaultGo

/-- A TILE_READ's response. -/
def execTileReadResponse (link tag status trimmed bad : Nat) (recs : List (List (Line × Tag))) (s : State) :
    Host.Outcome State Fault Refusal :=
  finish ((s.stkFind link tag 1).elim s (fun r => s.readAnswer link r status trimmed bad recs))

/-- A TILE_WRITE's response. -/
def execTileWriteResponse (link tag status : Nat) (s : State) : Host.Outcome State Fault Refusal :=
  finish ((s.stkFind link tag 2).elim s (fun r => s.writeAnswer link r status))

/-- A TILE_TRIM's response. -/
def execTileTrimResponse (link tag status : Nat) (s : State) : Host.Outcome State Fault Refusal :=
  finish ((s.stkFind link tag 3).elim s (fun r => s.trimAnswer link r status))

/-- A SHELF_SEAL's response. -/
def execShelfSealResponse (link tag status : Nat) (s : State) : Host.Outcome State Fault Refusal :=
  finish ((s.stkFind link tag 4).elim s (fun r => s.sealAnswer link r status))

/-- A STATUS response. -/
def execStatusResponse (link tag status : Nat) (payload : List Byte) (s : State) : Host.Outcome State Fault Refusal :=
  finish ((s.stkFind link tag 5).elim s (fun r => s.statusAnswer link r status payload))

/-- A VAULT_BEGIN's response. -/
def execVaultBeginResponse (link tag status : Nat) (s : State) : Host.Outcome State Fault Refusal :=
  finish ((s.stkFind link tag 6).elim s (fun r => s.beginAnswer link r status))

/-! ### Cells (R146 to R149) -/

/-- A HEARTBEAT has come (R150). -/
def State.beatIn (s : State) (link count : Nat) : State := s.setLink link { s.link link with hb := count % 2 ^ 32 }

/-- A whole message has come (R149, R150): a response answers the request outstanding under its TAG, opcode, SHELF, TILE and MASK,
and any other is discarded; a HEARTBEAT is noted. -/
def State.stkMessage (s : State) (link : Nat) (m : List Byte) : State :=
  let h := leNat (m.take 32)
  let op := bitsOf h 7 0
  let status := bitsOf h 135 128
  let arg := bitsOf h 191 160
  let arg2 := bitsOf h 255 192
  let load := (m.drop 32).take (bitsOf h 127 96)
  if op = 7 then s.beatIn link arg
  else match s.stkFind link (bitsOf h 25 16) (op - 128) with
    | none => s
    | some r =>
      if op < 128 ∨ bitsOf h 50 32 ≠ r.shelf ∨ bitsOf h 77 64 ≠ r.tile ∨ bitsOf h 95 80 ≠ r.mask then s
      else if r.op = 1 then
        s.readAnswer link r status (arg % 2 ^ 16) (arg2 % 2 ^ 16)
          ((upTo (load.length / 4352)).map (fun i => recordLines ((load.drop (4352 * i)).take 4352)))
      else if r.op = 2 then s.writeAnswer link r status
      else if r.op = 3 then s.trimAnswer link r status
      else if r.op = 4 then s.sealAnswer link r status
      else if r.op = 5 then s.statusAnswer link r status load
      else s.beginAnswer link r status

/-- The body of a data cell received in order and intact (R148): FIRST begins a message, which is whole once it has 32 + LENGTH
bytes. -/
def State.stkBody (s : State) (link : Nat) (first : Bool) (body : List Byte) : State :=
  let l := s.link link
  let m := if first then body else if l.rx.isEmpty then [] else l.rx ++ body
  if m.isEmpty then s
  else if m.length < 32 + numAt m 12 4 then s.setLink link { l with rx := m }
  else (s.setLink link { l with rx := [] }).stkMessage link m

/-- A cell arrives (R146, R147): one that fails its CRC, is out of sequence or of a reserved kind is discarded and NAK is
set in the next header; any other moves ACKSEQ, and its NAK asks for a replay. A data cell's body belongs to a message. -/
def execCellReceive (link : Nat) (hdr : BitVec 64) (body : List Byte) (s : State) : Host.Outcome State Fault Refusal :=
  let l := s.link link
  let seq := bitsOf hdr.toNat 11 0
  let kind := bitsOf hdr.toNat 13 12
  let sum := (crc32 (leBytes 4 (hdr.toNat % 2 ^ 32) ++ body)).toNat
  let good := decide (body.length = 1024) && sum == hdr.toNat / 2 ^ 32 && kind != 3
    && (if kind = 1 then seq == (l.rxSeq + 1) % 4096 else seq == l.rxSeq)
  finish (if link ≥ 16 ∨ !l.carries then s
    else if !good then (s.setLink link { l with nak := true }).stkIdle link
    else
      let s1 := s.setLink link { l with
        rxSeq := if kind = 1 then seq else l.rxSeq
        rxAck := bitsOf hdr.toNat 27 16 }
      let s2 := if hdr.getLsbD 28 then s1.stkReplay link else s1
      if kind = 1 then ((s2.stkIdle link).stkBody link (hdr.getLsbD 14) body).stkPump link else s2.stkPump link)

/-- ACKSEQ has not advanced for 20 µs with cells outstanding (R147). -/
def execCellReplayTimeout (link : Nat) (s : State) : Host.Outcome State Fault Refusal :=
  let l := s.link link
  finish (if link < 16 ∧ l.carries ∧ l.rxAck ≠ l.txSeq then s.stkReplay link else s)

/-- 1 ms after a BUSY answer, VAULT_BEGIN is sent again (R154). -/
def execVaultBeginRetry (link : Nat) (s : State) : Host.Outcome State Fault Refusal :=
  let l := s.link link
  finish (if link < 16 ∧ l.vbAgain ∧ s.rsv.ph = .entry then (s.setLink link { l with vbAgain := false }).vaultBegin link else s)

/-- A HEARTBEAT arrives (R150); it is not answered. -/
def execHeartbeat (link count : Nat) (s : State) : Host.Outcome State Fault Refusal :=
  finish (if link < 16 ∧ (s.link link).carries then s.beatIn link count else s)

/-- A request times out (R154); VAULT_BEGIN has its own rule. -/
def execStkRequestTimeout (link tag : Nat) (s : State) : Host.Outcome State Fault Refusal :=
  finish (match (s.link link).out.find? (fun r => r.tag == tag) with
    | none => s
    | some r => if r.op = 6 then s else ((s.raise (stkSrc link 4)).stkRetry link r).vaultGo)

/-- 1 ms has passed without an intact cell (R162): every link that carries cells is lost. -/
def execStkLinkLost (link : Nat) (s : State) : Host.Outcome State Fault Refusal :=
  finish (if link < 16 ∧ (s.link link).carries then (s.stkLose link 3).vaultGo else s)

/-- STK_CMD.RETRAIN (R162): an UP link is lost and trains again; any other enabled one trains. -/
def State.stkRetrain (s : State) (link : Nat) : State :=
  let l := s.link link
  if !s.stkLive link then s
  else if l.st = 2 then ((s.stkLose link 3).vaultGo).emit (.stkTrain link)
  else
    (s.setLink link { l with
      st := if l.st = 3 ∨ l.st = 4 then 3 else 1
      trained := false
      out := []
      kept := []
      rx := []
      wait := l.wait.filter (fun r => r.op == 3) }).emit (.stkTrain link)

/-- STK_CMD.RETRAIN. -/
def execStkRetrain (link : Nat) (s : State) : Host.Outcome State Fault Refusal := finish (s.stkRetrain link)

/-- Service SLED_ADOPT (R163): a FOREIGN sled is taken in as empty; its LOST shelves are to be restored by the twin. -/
def State.doSledAdopt (s : State) (n : Nat) : State × Option SvcRes :=
  if n ≥ 16 ∨ (s.link n).st ≠ 4 then (s, some svcDENIED)
  else
    let lost := (s.tqm.shelves.filter (fun e => e.2.st == 3 && e.2.sled == n)).map (·.1)
    let s1 := lost.foldl (fun s k => s.setShelf k { s.shelf k with st := 1 }) s
    let s2 : State := { s1 with twn := { s1.twn with diverge := (s1.twn.diverge ++ lost.flatMap (fun k => shelfRegions k 1)).eraseDups } }
    (s2.stkAdopt n, some svcOK)

/-- SLED_ADOPT. -/
def execSledAdopt (slot : Nat) (s : State) : Host.Outcome State Fault Refusal :=
  finish (s.serve slot 0x31 (fun x s => s.doSledAdopt (x.arg 0 1)))

end Sys2Proof.Machine
end

