-- ==== Sys2Proof/Machine/StartOps.lean ====
section
/-! DEFINITION. Start-up (R402 to R404): what each step does with what it finds, firmware's choice of a bank (R428, R440),
the daybook's position (R449), the tables' return (R403). -/

namespace Sys2Proof.Machine

/-! ### Firmware (R428, R440) -/

/-- Bytes [0, n) of a firmware bank as they read now; a word that was cut short reads as anything (R437). -/
def State.fwBytes (s : State) (bank n : Nat) : List Byte :=
  ((upTo (ceilDiv n 16)).flatMap (fun i =>
    leBytes 16 (({ s with freeCtr := s.freeCtr + i }).readFword ((if bank = 0 then 0 else 786432) + i)).2.data.toNat)).take n

/-- Checks a bank (R428, R429): cause 2 LENGTH, 3 seal, 9 MIN_ROM, 0 when it passes; and its VERSION. LENGTH counts header,
code and trailer. -/
def State.fwCheck (s : State) (bank : Nat) : State × Nat × Nat :=
  let h := s.fwBytes bank 32
  let len := numAt h 4 4
  if len < 48 ∨ len > 0x400000 then (s, 2, numAt h 0 4)
  else
    let all := s.fwBytes bank len
    let (s1, good) := ({ s with freeCtr := s.freeCtr + ceilDiv len 16 }).kceVerify (s.key 3) (all.take (len - 16)) (all.drop (len - 16))
    (s1, if !good then 3 else if s1.sec.fuse.romRev < numAt h 8 4 then 9 else 0, numAt h 0 4)

/-- Firmware of a version runs, not yet confirmed (R429). -/
def State.runFw (s : State) (version : Nat) : State :=
  { s with rgc := { s.rgc with fwVer := version, confirmed := false } }

/-- ROM boots firmware (R440): the active bank, or the other when the active bank's seal fails, which takes a pointer entry
and record 0x479. Answers whether any bank runs. -/
def State.bootFw (s : State) : State × Bool :=
  let b := s.efl.ptrBank
  let (s1, c, v) := s.fwCheck b
  if c = 0 then (s1.runFw v, true)
  else
    let (s2, c2, v2) := s1.fwCheck (1 - b)
    if c2 = 0 then ((((s2.pointTo (1 - b) v2).note 0x479 [b, v])).runFw v2, true) else (s2, false)

/-! ### The daybook's position (R449) -/

/-- The first word of a slot as the start reads it. -/
def State.slotHead (s : State) (n : Nat) : FWord := (s.readFword (slotWord n)).2

/-- A slot holds some word that is not ERASED. -/
def State.slotUsed (s : State) (n : Nat) : Bool :=
  (upTo 4).any (fun i => match (s.readFword (slotWord n + i)).2 with | .erased => false | _ => true)

/-- Slots that hold anything: those with a code word listed. -/
def State.slotsListed (s : State) : List Nat :=
  ((s.efl.words.filter (fun e => decide (slotWord 0 ≤ e.1 ∧ e.1 < slotWord 0 + 131072))).map (fun e =>
    (e.1 - slotWord 0) / 4)).eraseDups.filter s.slotUsed

/-- The slot of the highest SEQ, and SEQ, among slots whose first word is WRITTEN. -/
def State.topSlot (s : State) : Option (Nat × Nat) :=
  s.slotsListed.foldl (fun a n =>
    match s.slotHead n with
    | .written d _ =>
      let q := d.toNat % 2 ^ 48
      (match a with
        | some p => if p.2 < q then some (n, q) else a
        | none => some (n, q))
    | _ => a) none

/-- The last used slot from one on, within its sector. -/
def State.lastUsed (s : State) : Nat → Nat → Nat
  | 0, n => n
  | fuel + 1, n => if (n + 1) % 64 ≠ 0 ∧ s.slotUsed (n + 1) then s.lastUsed fuel (n + 1) else n

/-- R449: next SEQ and next slot; one slot is left unused. A sector it enters that is not erased is erased first (R447). -/
def State.daybookStart (s : State) : State :=
  match s.topSlot with
  | none => { s with dbk := { s.dbk with head := 0, seq := 0, startAt := s.dbk.startAt } }
  | some (n, q) =>
    let last := s.lastUsed 64 n
    let next := (last + 2) % 32768
    let fresh := decide (slotSector next ≠ slotSector last) && (upTo 64).any (fun i => s.slotUsed (next / 64 * 64 + i))
    ({ s with dbk := { s.dbk with
      head := next
      seq := (q + 1) % 2 ^ 48
      eraseNext := if fresh then some (slotSector next) else none } }).tickFree

/-! ### Steps 1 to 7 -/

/-- A start begins (R402, step 1): the core is in reset, INT_CTRL.MODE reads BRINGUP. After a power-up the core comes up from
nothing (R396). -/
def State.startBegin (s : State) (kept : Bool) : State :=
  let s0 := if s.cru.next = 1 ∨ s.cru.next = 2 ∨ s.cru.next = 3 then s else s.coreReset
  let s1 := if kept then s0 else s0.dramLose
  let s2 : State := { s1 with
    cru := { s1.cru with
      kind := s.cru.next
      next := 4
      startDue := false
      kept := kept
      afterVault := false
      wdt := 0
      step := 1
      failed := false
      startMs := 0 }
    dbk := { s1.dbk with startAt := s.timeUs } }
  (s2.setPwr .starting 0).setFld fINT_CTRL_MODE 0

/-- The start ends in failure (R404): record 0x473, no client port. -/
def State.startFail (s : State) (cause : Nat) : State :=
  ({ s with cru := { s.cru with failed := true }, ports := false }).note 0x473 [s.cru.step, cause]

/-- The step in progress is done. -/
def State.stepNext (s : State) : State := { s with cru := { s.cru with step := s.cru.step + 1 } }

/-- Step 2: core reset released and FAULT_N driven (R18), PLLs locked, straps sampled, fuses read (R454), the watchdog starts. The seed row that OWNED names must have a
good CRC; a burn that was cut short is told (R462). -/
def State.startStep2 (s : State) : State :=
  let f := s.sec.fuse
  let row (n : Nat) : Bool := ((if n = 0 then f.seedA else f.seedB).map (·.2)).getD false
  let bad := match f.owned with | some n => !row n | none => false
  let s0 := s.drivePins
  let s1 : State := { s0 with
    cru := { s0.cru with pllLock := 31, fedAt := s.timeUs }
    top := { s.top with bootSel := s.top.bootPins, vio33 := s.top.vioPin }
    sec := { s.sec with seedBad := bad } }
  let s2 : State := { s1 with sec := { s1.sec with level := s1.baseLevel } }
  match f.cut with
  | some n => ({ s2 with sec := { s2.sec with fuse := { f with cut := none }, provResult := 4 } }).note 0x494 [n, 4]
  | none => s2

/-- The power-cycle count rises and is stored before the first daybook record (R443). -/
def State.cycleUp (s : State) : State :=
  let n := (s.dbk.cycles + 1) % 2 ^ 32
  ({ s with dbk := { s.dbk with cycles := n } }).setting 0x0001 [n]

/-- Sectors whose latest journal entry is ERASE_OPEN are SUSPECT (R438); those that are so already stay. -/
def State.markSuspects (s : State) : State :=
  let new := s.efl.opened.filter (fun x => !s.efl.suspect.contains x)
  let s1 : State := { s with efl := { s.efl with
    suspect := s.efl.suspect ++ new
    lastSuspect := (new.getLast?).getD s.efl.lastSuspect
    ready := true } }
  new.foldl (fun s x => s.note 0x480 [x]) s1

/-- What the registrar does first, at a start and after a watchdog expiry (step 3, R401): keys, the flash's journals, the
daybook's position, firmware. Answers whether firmware runs. -/
def State.registrarBoot (s : State) : State × Bool := (s.cycleUp.loadKeys.markSuspects.daybookStart).bootFw

/-- Step 4 (R415 to R417): the image, or none. With cause 6 as the only failure of some copy the rails stand on values no
seal vouches for, and the MK1 powers down (R371, R416). -/
def State.startStep4 (s : State) : State :=
  let (s1, took, only6) := s.tryCopies false (s.copyOrder s.top.bootSel)
  match took with
  | some (c, x) =>
    let s2 := s1.applyImage c x false
    (({ s2 with rgc := { s2.rgc with good := [c], ready := true } }).loadKeys).stepNext
  | none =>
    let s2 := ({ s1 with rgc := { s1.rgc with noImage := true } }).startFail s1.rgc.cause
    if only6 then (s2.note 0x455 [if s2.rgc.sealA then 0 else 1, 1]).powerDown .off 6 else s2

/-- Channels that DMC_POP.MASK names, if it is one of the three masks of R167. -/
def State.popMask (s : State) : Option (List Nat) :=
  let m := s.fld fDMC_POP_MASK
  if m = 0xFFFF ∨ m = 0x5555 ∨ m = 0xAAAA then some ((upTo 16).filter (bitOf m)) else none

/-- A channel's DIMMs were exchanged (R197): erasure and remap entries are cleared, in the embedded flash too. -/
def State.channelNew (s : State) (c : Nat) : State :=
  let s1 : State := { s with lpr := { s.lpr with
    erasure := Tab.drop (fun k => k / 32 == c) s.lpr.erasure
    remap := Tab.drop (fun k => k / 64 == c) s.lpr.remap } }
  (s1.setting (0x0010 + c) (s1.erasureWords c)).setting (0x0020 + c) (s1.remapWords c)

/-- The field in which a DIMM differs from the image's DRAM profile (R167), or none: 0 module type, 1 density, 2 width, 3 package
ranks, 4 stack height, 5 capacity. -/
def State.dimmDiffers (s : State) (d : Dimm) : Option Nat :=
  let p := s.rgc.profile
  if d.mr != s.flag fDMC_POP_MRDIMM then some 0
  else if d.density ≠ s.fld fDMC_POP_DENSITY then some 1
  else if d.width ≠ 4 then some 2
  else if d.pkg ≠ p.1 then some 3
  else if d.stack ≠ p.2.1 then some 4
  else if d.cap ≠ p.2.2 then some 5
  else none

/-- The first channel whose DIMMs break R167, and how: a field of one of them, or 6 for too few. -/
def State.spdBad (s : State) (r : StartRep) (pop : List Nat) : Option (Nat × Nat) :=
  pop.findSome? (fun c =>
    if (r.on c).length ≠ s.fld fDMC_POP_DPC then some (c, 6) else ((r.on c).findSome? s.dimmDiffers).map (fun f => (c, f)))

/-- Every channel is left in OFF (R167), but one that has FAILED stays so until a start with DRAM lost (R181). -/
def State.channelsOff (s : State) : State :=
  { s with dmc := { s.dmc with
    chs := Tab.update (fun _ => {}) (fun (c : DmcCh) => if c.st = 5 then c else { c with st := 0 }) s.dmc.chs } }

/-- Channels in use: populated and enabled. -/
def State.chansOn (s : State) : List Nat := s.dmc.pop.filter (fun c => s.flag (fDMC_CTRL_ENABLE.plus (dmcOff c)))

/-- Step 5: LPR's self-test (R204), SPD (R167), links enabled; the channels begin to train (R182, R184). -/
def State.startStep5 (s : State) (r : StartRep) : State :=
  match r.bist with
  | some (pair, vector) => (s.bistEnd false pair vector).startFail 1
  | none =>
    let s1 := s.bistEnd true 0 0
    match s1.popMask with
    | none => s1.channelsOff.startFail 2
    | some pop =>
      match s1.spdBad r pop with
      | some (c, f) => (s1.channelsOff.note 0x3B0 [c, Config.itemCode 0x3B0 1 f]).startFail 2
      | none =>
        let s2 := (pop.filter (fun c => r.serial c != (s1.ch c).saved)).foldl State.channelNew s1
        let s3 := pop.foldl (fun s c => s.setCh c { s.ch c with rankBits := s.fld fDMC_POP_RANKS_LOG2 }) s2
        let s4 : State := { s3 with
          dmc := { s3.dmc with pop := pop, bytes := pop.length * s3.fld fDMC_POP_DPC * s3.rgc.profile.2.2 }
          lpr := { s3.lpr with ready := true } }
        let s5 := s4.chansOn.foldl (fun s c => if (s.ch c).st = 5 then s else s.setCh c { s.ch c with st := 1 }) s4
        ((upTo 16).foldl (fun s n => if s.stkOn n then s.setLink n { s.link n with st := 1 } else s) s5).stepNext

/-- Training of a channel as it is run (R182 to R184): all six steps, or with DRAM kept the first three and the read half of the
fourth, at each speed it can take, once and again after each attempt that fails, three times at most; then CA parity is
enabled in every RCD (R179). -/
def State.trainRun (s : State) (c fails : Nat) : State :=
  let n := (if s.cru.kept then 4 else 6) * (if s.speedable then 2 else 1) * min 3 (fails + 1)
  ((upTo n).foldl (fun s k => s.emit (.dmc c "train" (k % (if s.cru.kept then 4 else 6) + 1))) s).emit (.dmc c "RCW parity" 1)

/-- Step 6 on one channel (R181 to R184). With DRAM kept a channel needs the results saved for its DIMMs; with DRAM lost its
results are saved. -/
def State.trainOne (r : StartRep) (s : State) (c : Nat) : State :=
  let x := s.ch c
  let fails := (r.untrained.filter (· == c)).length
  let found := ((r.results.find? (fun e => e.1 == c)).map (·.2)).getD ([], [])
  if x.st = 5 then s
  else if r.phyBad.contains c then s.failChannel c 2
  else if s.cru.kept ∧ x.saved ≠ r.serial c then s.failChannel c 4
  else
    let s1 := s.trainRun c fails
    if fails ≥ 3 then s1.failChannel c 0
    else
      let res := if s.cru.kept then x.savedRes else found
      s1.setCh c { x with st := 2, saved := r.serial c, savedRes := res, results := res.1, results2 := res.2 }

/-- Step 6: training. A channel that fails leaves FAILED; with DRAM kept the start then ends. -/
def State.startStep6 (s : State) (r : StartRep) : State :=
  let on := s.chansOn
  let s1 := on.foldl (State.trainOne r) s
  if s1.cru.kept ∧ on.any (fun c => (s1.ch c).st == 5) then s1.startFail 3 else s1.stepNext

/-- FCH_SETS (R115). -/
def State.setsFor (s : State) : Nat :=
  let avail := s.dmc.bytes - s.fld fFCH_RESV_MIB * 2 ^ 20
  let n := avail / 65792
  let n1 := n - n % 1024
  if avail - n1 * 65792 < 65536 then n1 - 1024 else n1

/-- A way as a kept directory is rewritten (R121). -/
def Way.kept (w : Way) (pin : Bool) : Way :=
  if w.st = 0 then {}
  else { w with age := 1, st := if w.st = 1 ∨ w.st = 4 then 1 else 2, pin := pin, w := if w.st = 1 ∨ w.st = 4 then w.w else false }

/-- A folio of a live Pinned or Unbacked object. -/
def State.pinnedFolio (s : State) (folio : Nat) : Bool :=
  let o := s.objOfShelf (shelfOf folio)
  o.live && pinnedCls o.cls && decide (o.base * 2 ^ 18 ≤ folio ∧ folio < o.base * 2 ^ 18 + foliosFor o.len)

/-- Both copies take the AGE fields of every set that holds a folio. -/
def State.agesWrite (s : State) : State :=
  ((s.fch.dir.map (fun e => e.1 / 16)).eraseDups).foldl (fun s x =>
    { s with fch := { s.fch with ages := Tab.set (fun _ => 0) s.fch.ages x (s.agesOf x) } }) s

/-- The kept directory (R120, R121): every set record is read, a bad first copy from the second, a set with two bad copies given
up; then every set record rewritten in both copies, PIN and PIN_RSV from the object table, cached charges as the
ways stand. -/
def State.dirKept (s : State) : State :=
  let sets := (s.lpr.dram.filterMap (fun e => s.dirLineSet e.1)).eraseDups
  let s00 := sets.foldl State.dirRead { s with fch := { s.fch with tagc := [], fills := [] } }
  let s0 : State := { s00 with
    tqm := { s00.tqm with tenants := Tab.update (fun _ => {}) (fun (t : Tenant) => { t with cacheUse := 0 }) s00.tqm.tenants }
    fch := { s00.fch with pinRsv := [], dir := s00.fch.dir.filter (fun e => decide (e.1 < deskKey)) } }
  let s1 := (s0.fch.dir.foldl (fun s e =>
    let w := e.2.kept (s.pinnedFolio e.2.folio)
    let s1 := s.putWay e.1 w
    if w.st ≠ 0 ∧ !w.pin then s1.chargeCache w.tenant else s1) s0)
  let s2 := (s1.tqm.objs.filter (fun e => e.2.live && pinnedCls e.2.cls)).foldl (fun s e =>
    let fs := (folioRange e.2.base 0 e.2.len).filter (fun f => (s.findWay f).isNone)
    let s2 := s.setObj e.1 { s.obj e.1 with pinLeft := fs.length }
    fs.foldl (fun s f => let set := s.setOf f; s.putPinRsv set (s.pinRsv set + 1)) s2) s1
  ({ s2 with fch := { s2.fch with
    ages := [] } }).dirFresh.agesWrite

/-- Step 7: FCH_SETS, and the directory: initialised, or rebuilt (R121). -/
def State.startStep7 (s : State) : State :=
  let s1 : State := { s with fch := { s.fch with mode := 3, sets := s.setsFor, since := s.timeUs, cleaned := 0 } }
  (if s1.cru.kept then s1.dirKept
    else { s1.dirClear with
      fch := { s1.dirClear.fch with dir := [] }
      lpr := { s1.dirClear.lpr with resv := true } }).stepNext

/-! ### Steps 8 and 9 -/

/-- The start is fresh (R530): no vault header, no metadata shelf. -/
def StartRep.fresh (r : StartRep) : Bool := r.headers.isEmpty && !r.metadata

/-- A fresh start finds no table of its own. -/
def State.blankTables (s : State) : State :=
  { s with
    tqm := { ready := s.tqm.ready, ctxs := s.tqm.ctxs }
    nre := { s.nre with hosts := [] }
    cir := {}
    stk := { links := Tab.update (fun _ => {}) (fun (l : StkLink) => { l with uidRec := 0, trims := [] }) s.stk.links } }

/-- The entry of the metadata shelf (R26, R48, R160), and tenant 0x000's usage of it (R528). -/
def State.metaEntry (s : State) : State :=
  let h := s.shelf 0
  let e : Shelf :=
    { st := 4
      sled := s.fld fSTK_META_PRIMARY
      sledShelf := 9
      tenant := 0
      cls := 2
      gen := if h.st = 0 then (h.gen + 1) % 2 ^ 24 else h.gen }
  let s1 := if h = e then s else s.setShelf 0 e
  let t := Tab.get (fun _ => ({} : Tenant)) s1.tqm.tenants 0
  s1.setTenant 0 { t with stkUse := 1, pinUse := 262144 }

/-- The reads of step 8: the header of every sled that is UP (R107), the metadata shelf from the primary, and from the copy every
tile that the primary cannot return (R160). -/
def State.metaReads (s : State) (r : StartRep) : State :=
  let p := s.fld fSTK_META_PRIMARY
  let c := s.fld fSTK_META_COPY
  let s1 := s.sleds.foldl (fun s n => s.emit (.stkRead n 0 0 1)) s
  if (s.link p).st = 2 then
    (if (s.link c).st = 2 ∧ c ≠ p then r.metaBad.foldl (fun s t => s.emit (.stkRead c 9 t 1)) (s1.emit (.stkRead p 9 0 16384))
    else s1.emit (.stkRead p 9 0 16384))
  else if (s.link c).st = 2 then s1.emit (.stkRead c 9 0 16384)
  else s1

/-- Step 8: each enabled link whose sled has reported is judged (R163), or taken into use at a fresh start (R530); the
others are LOST (R162). Metadata shelf and vault headers are read. TQM is READY. -/
def State.startStep8 (s : State) (r : StartRep) : State :=
  let fresh := !s.cru.kept && r.fresh
  let s1 := if fresh then s.blankTables else s
  let s2 := ((upTo 16).filter s1.stkOn).foldl (fun s n =>
    let l := s.link n
    if l.trained ∧ l.uid ≠ 0 then (if fresh then s.stkAdopt n else s.stkJudge n) else s.stkLose n 3) s1
  let s3 := (s2.metaReads r).metaEntry
  ({ s3 with tqm := { s3.tqm with ready := true }, cru := { s3.cru with step := 8 } }).stepNext

/-- The header with the highest VAULT_SEQ (R107). DESIGN CHOICE (log 103): of two sleds' headers with the same VAULT_SEQ and
different COMPLETE, which R107 does not rank, the first listed is taken. -/
def StartRep.best (r : StartRep) : Option VHead :=
  r.headers.foldl (fun a h => match a with | some x => if x.seq < h.seq then some h else a | none => some h) none

/-- Ends every open epoch of the restored or kept streams (R81, R82). -/
def State.endAll (s : State) (cause : Nat) : State :=
  (s.epo.streams.map (·.1)).foldl (fun s i => s.endEpoch i cause false) s

/-- The streams that the last vault wrote come back (R65, R107), the last epochs of those it did not list among them, with the
segments that streams and reports still name and the tenants' charges for them (R68). -/
def State.restoreStreams (s : State) : State :=
  let s1 := s.rsv.savedStreams.foldl (fun s e => s.setStream e.1 e.2.restart)
    ({ s with epo := { s.epo with base := s.rsv.savedBase, used := [] } })
  s1.epo.streams.foldl (fun s e => s.holdSegs e.2.tenant e.2.segsHeld) s1

/-- Shelves that some object owns. -/
def State.ownedShelves (s : State) : List Nat := (s.tqm.shelves.filter (fun e => e.2.st != 0 && e.2.st != 4)).map (·.1)

/-- Client ports wait for VAULT_ACCEPT or a full resync; LAST_INCOMPLETE is set (R107, R403). -/
def State.mustAccept (s : State) (marked : List Nat) : State :=
  { s with
    rsv := { s.rsv with lastIncomplete := true, dirtyMap := marked }
    cru := { s.cru with awaitAccept := true }
    twn := { s.twn with stateOk := false, vaultOk := false } }

/-- The stream table at step 9 of a start with DRAM lost (R403). -/
def State.findStreams (s : State) (r : StartRep) : State :=
  match r.best with
  | none => { s with twn := { s.twn with stateOk := false, vaultOk := true } }
  | some h =>
    let s1 : State := { s with
      cru := { s.cru with foundSeq := h.seq }
      rsv := { s.rsv with vaultSeq := h.seq, lastMs := h.ms, lastFolios := h.written } }
    if !h.complete then
      ((s1.mustAccept r.marked).note 0x4A1 [h.seq, h.ready, h.planned]).restoreStreams.endAll (if s.cru.kind = 0 then 2 else 0)
    else if s.cru.consumed < h.seq then
      let s2 := s1.restoreStreams.endAll 0
      { s2 with
        cru := { s2.cru with afterVault := true }
        rsv := { s2.rsv with dirtyMap := [] }
        twn := { s2.twn with stateOk := true, vaultOk := true } }
    else
      let s2 := s1.mustAccept s1.ownedShelves
      ({ s2 with cru := { s2.cru with unclean := true }, rsv := { s2.rsv with loadDue := true } }).note 0x474 [h.seq, s.cru.consumed]

/-- CONSUMED_SEQ becomes the highest VAULT_SEQ found (R403). -/
def State.consume (s : State) (r : StartRep) : State :=
  match r.best with
  | none => s
  | some h => ({ s with cru := { s.cru with consumed := h.seq } }).setting 0x0003 [h.seq]

/-- A pool's count breaks R347 by itself. -/
def State.poolBad (s : State) (p : Nat) : Bool :=
  decide (s.poolCount p < 1 ∨ 65536 < s.poolCount p) || decide (s.poolCount p < s.minSum p + s.poolHdrm p)

/-- Bytes of all pools together. -/
def State.deskBytes (s : State) : Nat := (upTo 4).foldl (fun a p => a + s.poolCount p * poolSize p) 0

/-- The check of the desk's configuration (R347): CFG_ERR and record 0x440 for the first pool that fails, or pool 0 when only
the total does. -/
def State.bpmCheck (s : State) : State :=
  if (upTo 4).any s.poolBad ∨ 100663296 < s.deskBytes then
    let p := ((upTo 4).find? s.poolBad).getD 0
    ({ s with bpm := { s.bpm with cfgErr := true } }).note 0x440 [p, s.minSum p + s.poolHdrm p, s.poolCount p, s.deskBytes]
  else { s with bpm := { s.bpm with ready := true } }

/-- A MODE write latched while the start's transition ran is acted on (R141). -/
def State.startLatch (s : State) : State :=
  let s1 : State := { s with fch := { s.fch with latched := none } }
  match s.fch.latched with
  | some on => if on ∧ s.fch.mode = 0 then s1.enableStart else if !on ∧ s.fch.mode = 1 then s1.disableStart else
      { s1 with fch := { s1.fch with latched := if s.fch.mode ≥ 2 then some on else none } }
  | none => s1

/-- The start's transition ends in ENABLED or DISABLED (R121). -/
def State.startMode (s : State) (on : Bool) : State := ({ s with fch := { s.fch with mode := b2n on } }).startLatch

/-- Desk, directory and engines take up work at step 9: R347, the pin walk after DRAM was lost (R129), MODE as the image
says. An image that says DISABLED, over a kept directory that holds folios, disables as R142 does, since no MODE transition
discards dirty data (R139). -/
def State.engines (s : State) : State :=
  let s1 := s.bpmCheck
  let objs := if s1.cru.kept then s1.tqm.objs else
    Tab.update (fun _ => {}) (fun (o : Obj) => if o.live && o.cls == 3 then { o with poison := true } else o) s1.tqm.objs
  let s2 : State := { s1 with
    tqm := { s1.tqm with objs := objs }
    nre := { s1.nre with ready := true }
    epo := { s1.epo with ready := true } }
  if s2.fld ⟨rFCH_CTRL, 1, 0⟩ = 1 then
    let s3 := if s2.cru.kept then s2 else s2.walkObjs
    s3.startMode true
  else if s2.fch.dir.isEmpty then s2.startMode false
  else { s2 with fch := { s2.fch with mode := 1 } }.disableStart.startLatch

/-- The stream table at step 9 of a start with DRAM kept (R81, R402): it stands as it is. The header of the last vault is
shown (R107); a wait for VAULT_ACCEPT or a full resync that began at an earlier start goes on (log 110). -/
def State.keepStreams (s : State) (r : StartRep) : State :=
  let s0 := s.endAll (if s.cru.kind = 5 then 0 else 1)
  let h := r.best.getD { seq := s0.rsv.vaultSeq }
  { s0 with
    cru := { s0.cru with afterVault := decide (s.cru.kind = 5), foundSeq := h.seq }
    rsv := { s0.rsv with vaultSeq := h.seq, lastMs := h.ms, lastFolios := h.written }
    twn := { s0.twn with stateOk := !s0.cru.awaitAccept, vaultOk := !s0.cru.awaitAccept } }

/-- Step 9: the stream table, CONSUMED_SEQ, the governor, the vault armed unless Blank or Decommissioned (R102), reports
building (R82). -/
def State.startStep9 (s : State) (r : StartRep) : State :=
  let s1 := if s.cru.kept then s.keepStreams r else s.findStreams r
  let s2 := (s1.consume r).engines
  ({ s2 with rsv := { s2.rsv with armed := decide (s2.lifecycle = 1) } }).stepNext

/-! ### Steps 10 and 11 -/

/-- Step 10: role STARTING and HELLO on a unit of a pair (R316, R336), UNPAIRED else; client ports. -/
def State.startStep10 (s : State) : State :=
  let s1 := s.stepNext
  let s2 := if s1.flag fTWN_CTRL_ENABLE then (s1.setRole .starting).hello else s1.setRole .unpaired
  s2.openPorts

/-- VDD_CORE's regulator is set from the fused adaptive value (R384): a PMBus write of VOUT_COMMAND on SB1. The manual names
no address for it, so the address is free. -/
def State.setVcore (s : State) : State :=
  (s.emit (.sb 1 ((Config.freeWord s.freeCtr).toNat % 128) ([0x21] ++ leBytes 2 (680 + s.sec.fuse.mv)))).tickFree

/-- Step 11: MODE of INT (R367), ALIVE, record 0x470. -/
def State.startStep11 (s : State) : State :=
  let took := (s.timeUs - s.dbk.startAt) / 1000 % 65536
  let s1 := (({ s with cru := { s.cru with alive := true, startMs := took } }).setFld fINT_CTRL_MODE (b2n s.int.imgMode)).setPwr .service 0
  s1.note 0x470 [s1.cru.kind, b2n s1.cru.kept, b2n s1.cru.afterVault, took]

/-- The step in progress ends (R402); `cause` other than 0 says that it failed under its chapter (R404). -/
def State.startStep (s : State) (cause : Nat) (r : StartRep) : State :=
  if s.pwr.st ≠ .starting ∨ s.cru.failed ∨ s.cru.pinHeld ∨ s.cru.xtalHeld then s
  else if cause ≠ 0 then s.startFail cause
  else
    let k := s.cru.step
    if k = 1 then s.setVcore.stepNext
    else if k = 2 then s.startStep2.stepNext
    else if k = 3 then
      let (s1, runs) := s.registrarBoot
      if runs ∨ s1.lifecycle = 2 then s1.stepNext else s1.startFail 3
    else if k = 4 then s.startStep4
    else if k = 5 then s.startStep5 r
    else if k = 6 then s.startStep6 r
    else if k = 7 then s.startStep7
    else if k = 8 then s.startStep8 r
    else if k = 9 then s.startStep9 r
    else if k = 10 then s.startStep10
    else s.startStep11

end Sys2Proof.Machine
end

