-- ==== Sys2Proof/Machine/CruRows.lean ====
section
/-! DEFINITION. The commands of CRU (R393 to R406): resets, the watchdog, Block resets, clocks, the steps of a start. -/

namespace Sys2Proof.Machine

/-- The core runs: powered, released from reset at step 2 (R402), no Pin reset held. -/
def State.coreRuns (s : State) : Bool :=
  s.coreOn && !s.cru.pinHeld && !s.cru.xtalHeld && decide (3 ≤ s.cru.step)

/-! ### Cold and Pin resets (R396 to R398) -/

/-- A Cold reset: every domain, the supervisor included; what flash, fuses and sleds hold stays. -/
def State.coldReset (s : State) : State :=
  let s1 := s.coreReset.dramLose
  { s1 with
    regs := []
    cnt := []
    sh := []
    sup := {}
    pwr := { s1.pwr with st := .off }
    cru := { consumed := s.cru.consumed }
    tvl := {}
    rgc := { s1.rgc with sealA := false, sealB := false }
    dbk := { s1.dbk with queue := [] }
    sbb := { chs := s1.sbb.chs }
    out := s.releasePins.out }

/-- VDD_AON comes up, or the always-on brown-out detector fires (R396): the supervisor reads SUPPLY (R371), and powers up
with AUTO_ON = 1 (R376). -/
def execColdReset (s : State) : Host.Outcome State Fault Refusal :=
  let s1 := s.coldReset.readSupply
  finish (if s1.flag fSUP_CTRL_AUTO_ON then s1.onRequest else s1)

/-- VDD_AON falls (R379, R103): the rail enables are released, a vault or a sequence stops, nothing is recorded. -/
def execVddAonLoss (s : State) : Host.Outcome State Fault Refusal :=
  let s1 := s.coldReset
  finish { s1 with sup := { aon := false } }

/-- The KIND of the start that follows a Pin reset: an abandoned start with DRAM lost stays one until step 10. -/
def State.pinKind (s : State) (kind : Nat) : Nat :=
  if s.cru.startDue then s.cru.next
  else if s.pwr.st = .starting ∧ !s.cru.kept ∧ s.cru.step < 10 ∧ s.cru.step ≠ 0 then s.cru.kind
  else if s.pwr.st = .starting ∧ s.cru.step = 0 then s.cru.next
  else kind

/-- A Pin reset (R396, R405): every core domain; records queued in the registrar's RAM are lost. It counts after the
reset. -/
def State.pinReset (s : State) (kind : Nat) : State :=
  let s1 := s.selfRefreshAll.releasePins.coreReset
  let s2 : State := { s1 with
    cru := { s1.cru with next := s.pinKind kind, startDue := false, pinsDriven := false }
    dbk := { s1.dbk with queue := [] } }
  (if s.pwr.st = .off then s2 else s2.setPwr .starting 8).bumpFld fCRU_CNT_RESET_PIN

/-- RESET_N is ignored (R398). -/
def State.pinIgnored (s : State) : State := (s.bump rCRU_CNT_PIN_IGN).raise 0x045

/-- RESET_N low for 13 samples (R397, R398). -/
def execResetNAssert (s : State) : Host.Outcome State Fault Refusal :=
  finish (if !s.sup.aon ∨ s.cru.pinHeld then s
    else if s.rsv.ph ≠ .off ∨ s.sup.seq = 0 ∨ s.sup.seq = 3 ∨ s.sup.seq = 4 then s.pinIgnored
    else
      let s1 := if s.sup.seq = 1 then s.releasePins else s.pinReset 1
      { s1 with cru := { s1.cru with pinHeld := true } })

/-- A start is due again once no Pin reset is held. -/
def State.pinRelease (s : State) : State :=
  { s with cru := { s.cru with startDue := s.cru.startDue || decide (s.sup.seq = 2) } }

/-- RESET_N high for 13 samples (R397): the Pin reset ends. -/
def execResetNRelease (s : State) : Host.Outcome State Fault Refusal :=
  finish (if s.cru.pinHeld then ({ s with cru := { s.cru with pinHeld := false } }).pinRelease else s)

/-! ### Starts (R402 to R404) -/

/-- A start begins (R402): at power-up complete, or at the release of a Pin reset. `dimm` says that the DIMM rails stayed up
in Standby; a Pin reset always keeps DRAM (R396). -/
def execStartUp (dimm : Bool) (s : State) : Host.Outcome State Fault Refusal :=
  finish (if s.cru.startDue ∧ !s.cru.pinHeld ∧ !s.cru.xtalHeld ∧ s.sup.seq = 2 then
      let n := s.cru.next
      s.startBegin (n == 1 || n == 2 || n == 3 || (n == 5 && dimm))
    else s)

/-- The step in progress ends with what it found (R402), or fails under its own chapter with a cause other than 0
(R404). -/
def execStartStepDone (cause : Nat) (rep : StartRep) (s : State) : Host.Outcome State Fault Refusal :=
  finish (s.startStep cause rep)

/-! ### The watchdog (R401, R424, R429) -/

/-- Mailbox slots that a registrar restart loses: those not FREE. -/
def State.slotsLost (s : State) : Nat := (s.rgc.slots.filter (fun e => e.2.st != 0)).length

/-- Sources active at target 0 are completed (R401). -/
def State.target0Done (s : State) : State := (s.activeAt 0).foldl State.srcDone s

/-- The registrar's blocks at a registrar restart (R401, R405): registers of EFL, DBK and RGC and the mailbox go; the running
image, and what is known of the copies, stay. -/
def State.registrarDown (s : State) : State :=
  let mine (a : Nat) : Bool := a / 0x100000 == 6 || a / 0x100000 == 7
  let s1 := s.flashCut
  { s1 with
    regs := Tab.drop mine s1.regs
    cnt := Tab.drop mine s1.cnt
    sh := Tab.drop mine s1.sh
    iaddr := Tab.drop (fun k => mine (k / 4)) s1.iaddr
    rgc := {
      noImage := s.rgc.noImage
      fallback := s.rgc.fallback
      sealA := s.rgc.sealA
      sealB := s.rgc.sealB
      floor := s.rgc.floor
      header := s.rgc.header
      start := s.rgc.start
      profile := s.rgc.profile
      good := s.rgc.good
      verifiedB := s.rgc.verifiedB
      image := s.rgc.image
      cfg := s.rgc.cfg
      witnesses := s.rgc.witnesses }
    efl := s1.efl.restart
    dbk := { cycles := s.dbk.cycles, hours := s.dbk.hours, startAt := s.dbk.startAt } }

/-- Firmware not confirmed is left for the bank before it (R429). -/
def State.fallBack (s : State) : State :=
  match s.rgc.fallback with
  | none => s
  | some (bank, version) =>
    let left := s.efl.ptrBank
    let s1 := (({ s with rgc := { s.rgc with fallback := none } }).pointTo bank version).raise 0x04D
    s1.note 0x479 [left, version]

/-- The registrar restarts from ROM and boots (R401, R443, R438, R449): what was queued or asked of it is lost. -/
def State.registrarRestart (s : State) : State :=
  let slots := s.slotsLost
  let s1 := s.target0Done.registrarDown
  let s2 := s1.cycleUp.markSuspects.daybookStart
  let (s3, runs) := s2.bootFw
  let s4 : State := { s3 with
    cru := { s3.cru with fedAt := s.timeUs }
    rgc := { s3.rgc with ready := runs && !s3.rgc.noImage } }
  s4.note 0x47A [slots]

/-- CRU_WDT expires (R401): the registrar restarts; a third expiry within 60 s halts it; one before step 11 restarts the start
from step 2 (R404). -/
def State.watchdog (s : State) : State :=
  let lost := s.dbk.queue.length
  let recent := (s.cru.expiries.filter (fun t => decide (s.timeUs < t + 60000000))) ++ [s.timeUs]
  let s1 := ({ s with cru := { s.cru with expiries := recent, wdt := satInc 63 s.cru.wdt } }).bumpFld fCRU_CNT_RESET_WDT
  if recent.length ≥ 3 then
    let s2 := s1.target0Done.registrarDown
    (({ s2 with rgc := { s2.rgc with halted := true } }).fatal 0).raise 0x044
  else if s.pwr.st = .starting then
    let s2 := s1.target0Done.registrarDown
    let s3 := ({ s2 with cru := { s2.cru with step := 2, failed := false }, rgc := { s2.rgc with noImage := false } }).fallBack
    ((s3.note 0x472 [recent.length, lost]).note 0x47A [s.slotsLost]).raise 0x044
  else
    ((s1.fallBack.registrarRestart).note 0x472 [recent.length, lost]).raise 0x044

/-- CRU_WDT expires. -/
def execWatchdogExpiry (s : State) : Host.Outcome State Fault Refusal :=
  finish (if s.coreRuns && !s.rgc.halted then s.watchdog else s)

/-- A write of CRU_WDT_FEED (R401): 0xFEED from the registrar (path 1) restarts the count. -/
def State.wdtFeed (s : State) (path value : Nat) : State :=
  if path = 1 ∧ value % 65536 = 0xFEED then s.feed else s

/-- CruWdtFeed. -/
def execCruWdtFeed (path value : Nat) (s : State) : Host.Outcome State Fault Refusal := finish (s.wdtFeed path value)

/-! ### Block resets (R400) -/

/-- Registers of a block at their image values: image bits from the running image, the others at their reset values;
counters and copies at 0, IADDR at 0. -/
def State.blockRegs (s : State) (p : Nat → Bool) : State :=
  let keys := ((s.regs.map (·.1)) ++ (s.rgc.image.map (·.1))).filter p
  let value (a : Nat) : W32 :=
    match regDefAt a with
    | some d =>
      let i := (Tab.get regReset s.rgc.image a).toNat
      let r := (regReset a).toNat
      BitVec.ofNat 32 ((i &&& d.img) + (r - (r &&& d.img)))
    | none => regReset a
  { s with
    regs := keys.foldl (fun t a => Tab.set regReset t a (value a)) s.regs
    cnt := Tab.drop p s.cnt
    sh := Tab.drop p s.sh
    iaddr := Tab.drop (fun k => p (k / 4)) s.iaddr }

/-- Count sources of a block return to 0 (R400). -/
def State.blockSources (s : State) (first last : Nat) : State :=
  (s.int.srcs.filter (fun e => decide (first ≤ e.1 ∧ e.1 ≤ last))).foldl (fun s e => s.setSrc e.1 { s.src e.1 with cnt := 0 }) s

/-- A window. -/
def inWindow (w a : Nat) : Bool := a / 0x100000 == w

/-- KCE's part of the window it shares with SEC. -/
def kceReg (a : Nat) : Bool := inWindow 5 a && decide (0x1000 ≤ a % 0x10000)

/-- What a Block reset does to the block named (R400). -/
def State.blockReset (s : State) (b : Nat) : State :=
  if b ≤ 15 then
    let s1 := (s.blockRegs (inWindow (0x21 + b))).blockSources (0x200 + 8 * b) (0x207 + 8 * b)
    [2 * b, 2 * b + 1].foldl (fun s lk =>
      if (s.tvl_ lk).st = 0 then s
      else if (s.tvl_ lk).st = 6 then s else s.tvLose lk (Config.itemCode 0x3F0 3 5)) s1
  else if b ≤ 23 then
    let m := b - 16
    let s1 := (s.blockRegs (inWindow (0x32 + m))).blockSources (0x280 + 8 * m) (0x287 + 8 * m)
    [4 * m, 4 * m + 1, 4 * m + 2, 4 * m + 3].foldl (fun s e => if (s.ethPort e).up then s.ethDown e (Config.itemCode 0x410 2 5) else s) s1
  else if b = 24 then
    let s1 := (s.blockRegs (inWindow 0x3B)).blockSources 0x340 0x37F
    (s1.cir.streams.map (·.1)).foldl (fun s i => if (s.cs i).st = 0 then s else (s.cirError i).setCs i (s.cs i).rearm) s1
  else if b = 25 then
    let s1 := (s.blockRegs (inWindow 8)).blockSources 0x3A0 0x3BF
    [0, 1, 2, 3].foldl (fun s n => s.setSbCh n ((s.sbCh n).aborted (s.sbOn n))) s1
  else if b = 26 then
    let s1 := s.blockRegs (inWindow 9)
    { s1 with dft := {
      jtag := s1.dft.jtag
      phy := s1.dft.phy
      lanes := Tab.update (fun _ => {}) (fun (l : DftLane) =>
        { errs := l.errs, bits := l.bits, losses := l.losses }) s1.dft.lanes } }
  else
    let s1 := (s.blockRegs kceReg).blockSources 0x070 0x07B
    let s2 := s1.kceAbort
    ({ s2 with sec := { s2.sec with keys := [] } }).loadKeys

/-- CRU_BRST.GO (R400): BLOCK is set and the block is reset, or the write is refused. -/
def State.brstGo (s : State) (block : Nat) : State :=
  let s1 := s.setFld fCRU_BRST_BLOCK block
  let b := block % 64
  if !s.coreRuns then s1
    else if b ≤ 27 then ((s1.blockReset b).bumpFld fCRU_CNT_BRST_DONE).raise 0x042
    else (s1.bumpFld fCRU_CNT_BRST_REFUSED).raise 0x043

/-- BlockReset. -/
def execBlockReset (block : Nat) (s : State) : Host.Outcome State Fault Refusal := finish (s.brstGo block)

/-! ### Clocks (R395) -/

/-- Record 0x471: the reference or PLL, lost or regained. -/
def State.clockNote (s : State) (which : Nat) (regained : Bool) : State :=
  s.note 0x471 [Config.itemCode 0x471 0 which, Config.itemCode 0x471 1 (b2n regained)]

/-- Lanes of a reference's group: TV and MG, EN, TN, SK (R393, R483). -/
def groupLane (g n : Nat) : Bool :=
  if g = 0 then decide (n < 64) || n == 128 || n == 129
  else if g = 1 then decide (64 ≤ n ∧ n < 96)
  else if g = 2 then decide (96 ≤ n ∧ n < 112)
  else decide (112 ≤ n ∧ n < 128)

/-- Checkers of a group clear LOCK (R488). -/
def State.unlockLanes (s : State) (g : Nat) : State :=
  (s.dft.lanes.filter (fun e => groupLane g e.1)).foldl (fun s e => s.setLane e.1 { s.lane e.1 with lock := false }) s

/-- A lane reference is lost (R395): its lanes stop, Ethernet ports go down; the links fail under their own rules. Groups: 0 TV,
1 EN, 2 TN, 3 SK. -/
def execRefClockLost (group : Nat) (s : State) : Host.Outcome State Fault Refusal :=
  finish (if group ≥ 4 ∨ !bitOf s.cru.refOk group then s
    else
      let s1 := (({ s with cru := { s.cru with refOk := s.cru.refOk - 2 ^ group } }).bump rCRU_CNT_REFLOSS).clockNote group false
      let s2 := (s1.unlockLanes group).emit (.lanesStop group)
      if group = 1 then (upTo 32).foldl (fun s e => if (s.ethPort e).up then s.ethDown e (Config.itemCode 0x410 2 4) else s) s2 else s2)

/-- A reference has been good for 1 ms (R395). -/
def execRefClockRegained (group : Nat) (s : State) : Host.Outcome State Fault Refusal :=
  finish (if group ≥ 4 ∨ bitOf s.cru.refOk group then s
    else ({ s with cru := { s.cru with refOk := s.cru.refOk + 2 ^ group } }).clockNote group true)

/-- A DMC PLL loses lock (R395): its channel stops issuing. -/
def execDmcPllUnlock (ch : Nat) (s : State) : Host.Outcome State Fault Refusal :=
  finish (if ch ≥ 16 ∨ !s.coreOn ∨ s.cru.dmcPll.contains ch then s
    else
      let s1 : State := { s with cru := { s.cru with dmcPll := s.cru.dmcPll ++ [ch], pllLock := setBits s.cru.pllLock 1 1 0 } }
      ((s1.bump rCRU_CNT_REFLOSS).clockNote (16 + ch) false).dram ch "stop" 0)

/-- A DMC PLL locks again (R395): steps 5 to 7 of R187 at the channel's speed. -/
def execDmcPllRelock (ch : Nat) (s : State) : Host.Outcome State Fault Refusal :=
  finish (if !s.cru.dmcPll.contains ch then s
    else
      let left := s.cru.dmcPll.filter (· != ch)
      let s1 : State := { s with cru := { s.cru with
        dmcPll := left
        pllLock := if left.isEmpty then setBits s.cru.pllLock 1 1 1 else s.cru.pllLock } }
      (((s1.raise 0x041).clockNote (16 + ch) true).dram ch "R187 steps 5 to 7" (s.dmcSpeed ch)))

/-- A DMC PLL has not locked again within 1 ms (R395): a fatal fault. -/
def execDmcPllRelockTimeout (ch : Nat) (s : State) : Host.Outcome State Fault Refusal :=
  finish (if s.cru.dmcPll.contains ch then s.fatal 1 else s)

/-- Another core PLL loses lock (R395): a fatal fault, then a Pin reset with cause PLL; in a vault only the fault (R103). PLLs
as CRU_STATUS numbers them: 0 fabric, 2 link, 3 MAC, 4 registrar. -/
def execCorePllUnlock (pll : Nat) (s : State) : Host.Outcome State Fault Refusal :=
  finish (if !s.coreOn ∨ pll ≥ 5 ∨ pll = 1 then s
    else
      let s1 := ((s.bump rCRU_CNT_REFLOSS).clockNote (4 + pll) false).fatal 2
      if s.rsv.ph ≠ .off then s1 else (s1.pinReset 2).pinRelease)

/-- XTAL stops (R395): the always-on domain goes on, a Pin reset with cause XTAL is held until XTAL has run for 10 ms; a vault
runs on (R103). -/
def execXtalStopped (s : State) : Host.Outcome State Fault Refusal :=
  let s1 : State := { s with cru := { s.cru with xtalOk := false } }
  finish (if s.rsv.ph ≠ .off ∨ s.cru.xtalHeld then s1
    else
      let s2 := if s.coreOn then s1.pinReset 3 else s1.releasePins
      { s2 with cru := { s2.cru with xtalHeld := true } })

/-- XTAL has run for 10 ms (R395). -/
def execXtalRestored (s : State) : Host.Outcome State Fault Refusal :=
  let s1 : State := { s with cru := { s.cru with xtalOk := true, xtalHeld := false } }
  finish (if s.cru.xtalHeld then s1.pinRelease else s1)

end Sys2Proof.Machine
end

