-- ==== Sys2Proof/Machine/SupRows.lean ====
section
/-! DEFINITION. The commands of SUP (R370 to R384): requests, rails, buttons, monitors, margining; and the vault's alert and
end (R102 to R104). -/

namespace Sys2Proof.Machine

/-! ### Requests (R376 to R378) -/

/-- An on request. -/
def execOnRequest (s : State) : Host.Outcome State Fault Refusal := finish s.onRequest

/-- An off request. -/
def execOffRequest (s : State) : Host.Outcome State Fault Refusal := finish (s.offRequest 0)

/-- 500 ms have passed since a power-down completed (R377). -/
def execOffWaitExpiry (s : State) : Host.Outcome State Fault Refusal :=
  finish (if s.sup.seq = 4 then
      let s1 : State := { s with sup := { s.sup with seq := 0 } }
      if s.sup.onLatched then s1.onRequest else s1
    else s)

/-- HOLDUP_ALERT_N has been high for 1 s after a vault that ended in Off, whatever began it (R103, R378). -/
def execVaultRestartTimer (s : State) : Host.Outcome State Fault Refusal :=
  finish (if s.sup.vaultOff ∧ s.flag fSUP_CTRL_RESTART then s.onRequest else s)

/-! ### Rails (R372 to R375) -/

/-- A rail's turn comes in a power-up (R372). -/
def execRailEnableTick (rail : Nat) (s : State) : Host.Outcome State Fault Refusal :=
  let r := s.rail rail
  finish (if s.sup.seq = 1 ∧ s.isRail rail ∧ r.st = 1 ∧ s.depsGood rail then
      s.setRail rail { r with st := 2, en := true }
    else s)

/-- PG_RAIL goes high (R372). -/
def execRailPgRise (rail : Nat) (s : State) : Host.Outcome State Fault Refusal :=
  let r := s.rail rail
  finish (if s.isRail rail then (s.setRail rail { r with pg := true, st := if r.st = 2 then 3 else r.st }).upCheck else s)

/-- PG has not risen by its deadline (R373). -/
def execRailPgTimeout (rail : Nat) (s : State) : Host.Outcome State Fault Refusal :=
  finish (if s.isRail rail ∧ (s.rail rail).st = 2 then s.railFails rail else s)

/-- PG is low for more than 10 µs while the rail is on (R373). -/
def execRailPgDrop (rail : Nat) (s : State) : Host.Outcome State Fault Refusal :=
  let r := s.rail rail
  finish (if s.isRail rail ∧ r.st = 3 ∧ r.en then (s.setRail rail { r with pg := false }).railFails rail else s)

/-- A rail's OFF_TICK comes (R372, R373). -/
def execRailDisableTick (rail : Nat) (s : State) : Host.Outcome State Fault Refusal :=
  let r := s.rail rail
  finish (if s.isRail rail ∧ r.en ∧ ((s.sup.seq = 3 ∧ !r.kept) ∨ r.dropping) then
      (s.setRail rail { r with en := false, dropping := false, st := if r.pg then 4 else 0 }).downCheck
    else s)

/-- PG of a disabled rail falls (R372). -/
def execRailPgFall (rail : Nat) (s : State) : Host.Outcome State Fault Refusal :=
  let r := s.rail rail
  finish (if s.isRail rail ∧ !r.en then (s.setRail rail { r with pg := false, st := if r.st = 4 then 0 else r.st }).downCheck else s)

/-- PG is still high 50 ms after OFF_TICK (R375): STUCK, and the hard-disable slot of the rail is driven. -/
def execDischargeTimeout (rail : Nat) (s : State) : Host.Outcome State Fault Refusal :=
  let r := s.rail rail
  finish (if s.sup.seq = 3 ∧ s.isRail rail ∧ !r.en ∧ r.pg ∧ r.st ≠ 6 then
      let hd := (upTo 24).find? (fun n => s.railKind n == 2 && s.fld (fSUP_RAIL_CFG_HD_OF.plus (16 * n)) == rail)
      let s1 := s.setRail rail { r with st := 6 }
      let s2 : State := match hd with
        | some n => s1.setRail n { s1.rail n with en := true }
        | none => s1
      let s3 := (({ s2 with sup := { s2.sup with dischFail := true } }).bumpFld fSUP_CNT_FAIL_DISCHARGE).note 0x454
        [rail, hd.getD 0xFF]
      s3.snapshot.downCheck
    else s)

/-! ### The vault's start and end (R102, R104, R377) -/

/-- The conditions of a vault (R102). -/
def State.vaultMay (s : State) : Bool :=
  s.flag fRSV_CTRL_VAULT_ARM && s.rsv.armed && (s.pwr.st == .service || s.pwr.st == .trimmed || s.pwr.st == .quiesced)

/-- A vault that leads to Off or Standby, or the power-down alone where no vault may run. -/
def State.vaultTo (s : State) (dest : Dest) (cause : Nat) : State :=
  let s1 : State := { s with sup := { s.sup with dest := dest, offAfter := false } }
  if s1.vaultMay then s1.startVault cause else s1.powerDown dest cause

/-- The MK1 runs on an image that says no qualified bank is fitted, so that HOLDUP_ALERT_N is ignored (R108). Before step 4 of a
start no image says so, and R102 and R377 hold (log 109). -/
def State.bankless (s : State) : Bool :=
  !s.flag fRSV_CTRL_BANK_PRESENT && (s.pwr.st == .service || s.pwr.st == .trimmed || s.pwr.st == .quiesced
    || (s.pwr.st == .starting && decide (5 ≤ s.cru.step)))

/-- HOLDUP_ALERT_N low (R102): a vault, or no more than record 0x4A3; in a power-up as an off request (R377); ignored in a
vault, in a power-down and without a bank (R103, R108). -/
def execHoldupAlert (lowNs : Nat) (s : State) : Host.Outcome State Fault Refusal :=
  finish (if lowNs < 2000 ∨ s.rsv.ph ≠ .off ∨ s.sup.seq = 3 ∨ s.bankless then s
    else if s.vaultMay then ({ s with sup := { s.sup with dest := .off, offAfter := false } }).startVault 3
    else
      let s1 := s.note 0x4A3 [s.pwr.st.code]
      if s1.sup.seq = 1 then s1.offRequest 3 else s1)

/-- Step 13 of R104: record 0x4A0 with 100 J or more, VAULT_ACT low, the power-down. -/
def execVaultFinish (s : State) : Host.Outcome State Fault Refusal :=
  finish (if !s.vaultOver then s
    else
      let r := s.rsv
      let s1 := if r.eNow ≥ 100 then s.note 0x4A0 [r.vaultSeq, r.planned, r.written, r.lastMs, r.eNow] else s
      let s2 := s1.bump rRSV_CNT_VAULTS
      let s3 : State := { s2 with
        rsv := { s2.rsv with ph := .off }
        cru := { s2.cru with vaultAct := false }
        sup := { s2.sup with vaultOff := s2.sup.dest == .off } }
      s3.selfRefreshAll.powerDown s3.sup.dest 5)

/-! ### Buttons (R380, R381) -/

/-- The state as the target port shows it (R480): a sequence reads 7, and a start that is due reads 6. -/
def State.stateCode (s : State) : Nat :=
  if s.sup.seq = 1 ∨ s.sup.seq = 3 ∨ s.sup.seq = 4 then 7
  else if s.sup.seq = 2 ∧ s.pwr.st = .off then 6
  else s.pwr.st.code

/-- A press has its action: record 0x453, source 0x005, a snapshot (R380, R383). -/
def State.pressed (s : State) (kind action : Nat) : State :=
  ((s.note 0x453 [kind, s.stateCode, Config.itemCode 0x453 2 action]).raise 0x005).snapshot

/-- The action of a press (R380): kinds 1 short, 2 long, 3 very long. -/
def State.press (s : State) (kind : Nat) : State :=
  let s1 := s.bumpFld fSUP_CNT_BTN_PRESSES
  if !s1.sup.aon ∨ s1.rsv.ph ≠ .off then s1
  else if s1.sup.seq = 0 then
    (if kind ≠ 3 then (s1.pressed kind 0).onRequest
      else if s1.sup.standby then (s1.pressed 3 1).powerDown .off 4 else s1)
  else if s1.sup.seq = 3 ∨ s1.sup.seq = 4 then
    (if kind ≠ 3 then (s1.pressed kind 0).onRequest else s1)
  else if s1.pwr.st = .service ∨ s1.pwr.st = .trimmed ∨ s1.pwr.st = .quiesced then
    (if kind = 1 then
      let s2 := s1.pressed 1 2
      if s2.twn.role = .active ∧ s2.paired then
        let s3 : State := { s2 with sup := { s2.sup with offAfter := true } }
        if s3.twn.handover.isSome then s3 else s3.handoverStart 1 none
      else s2.vaultTo .off 4
    else if kind = 2 then
      (if s1.rsv.overB ∨ s1.rsv.monBad then (s1.bumpFld fSUP_CNT_BTN_REFUSED).raise 0x006
        else (s1.pressed 2 3).vaultTo .off 4)
    else (s1.pressed 3 4).powerDown .off 4)
  else (s1.pressed kind 5).offRequest 4

/-- PWR_BTN_N, a short press. -/
def execButtonShortPress (s : State) : Host.Outcome State Fault Refusal := finish (s.press 1)

/-- PWR_BTN_N, a long press. -/
def execButtonLongPress (s : State) : Host.Outcome State Fault Refusal := finish (s.press 2)

/-- PWR_BTN_N, a very long press. -/
def execButtonVeryLongPress (s : State) : Host.Outcome State Fault Refusal := finish (s.press 3)

/-- SUP_VBTN.PRESS = 1. -/
def execVbtnShort (s : State) : Host.Outcome State Fault Refusal := finish (s.press 1)

/-- SUP_VBTN.PRESS = 2. -/
def execVbtnLong (s : State) : Host.Outcome State Fault Refusal := finish (s.press 2)

/-- SUP_VBTN.PRESS = 3. -/
def execVbtnVeryLong (s : State) : Host.Outcome State Fault Refusal := finish (s.press 3)

/-- A microsecond passes: the registrar repairs the shelf table (R50), the DRAM channels issue what is queued, each millisecond
the stack links' HEARTBEATs go out (log 106); an orderly off goes on once its handover has ended (R380). -/
def clockTick (s : State) : State :=
  let s0 : State := ({ s with timeUs := s.timeUs + 1 }).shelfRepair.dmcTick.flashTick
  let s1 := if s0.timeUs % 1000 = 0 then (s0.stk.links.map (·.1)).foldl State.stkBeat s0 else s0
  if s1.sup.offAfter && s1.twn.handover.isNone then settle (s1.vaultTo .off 4) else s1

/-! ### Monitors and margining (R382, R384) -/

/-- A sample (R382): COUNT samples in a row beyond LO or HI raise the alarm, with a snapshot; a COUNT of 0 acts as 1. -/
def execMonitorSample (ch value : Nat) (s : State) : Host.Outcome State Fault Refusal :=
  let m := s.mon ch
  let v := value % 4096
  let o := 16 * ch
  let beyond := decide (v < s.fld (fSUP_MON_THR_LO.plus o)) || decide (s.fld (fSUP_MON_THR_HI.plus o) < v)
  let run := if beyond then m.run + 1 else 0
  let alarm := s.flag (fSUP_MON_CFG_ALARM_EN.plus o) && decide (max 1 (s.fld (fSUP_MON_CFG_COUNT.plus o)) ≤ run)
  let s1 := s.setMon ch { m with value := v, run := min run 16, alarm := alarm }
  finish (if ch ≥ 32 ∨ !s.sup.aon then s else if alarm && !m.alarm then (s1.raise 0x003).snapshot else s1)

/-- A reference check (R382): `dev` is what it reads off its reference, in counts. -/
def execMonitorRefCheck (ch : Nat) (dev : Int) (s : State) : Host.Outcome State Fault Refusal :=
  let m := s.mon ch
  let bad := decide (dev < -8 ∨ 8 < dev)
  let s1 := s.setMon ch { m with faulty := bad }
  finish (if ch ≥ 32 ∨ !s.sup.aon then s else if bad && !m.faulty then s1.raise 0x004 else s1)

/-- OPERATION of PMBus: nominal, margin high, margin low. -/
def marginByte (dir : Nat) : Byte := if dir = 0 then 0x80 else if dir = 1 then 0xA8 else 0x98

/-- SUP_MARGIN.GO (R384): OPERATION on SB1 to the rail's regulator. -/
def State.marginGo (s : State) (rail dir : Nat) : State :=
  let s1 := (s.setFld fSUP_MARGIN_RAIL rail).setFld fSUP_MARGIN_DIR dir
  let n := rail % 32
  let a := s.fld (fSUP_RAIL_CFG_PMBUS_ADDR.plus (16 * n))
  if s.flag fSUP_CTRL_MARGIN_EN ∧ s.coreRuns ∧ n < 24 ∧ a ≠ 0 ∧ dir % 4 < 3 then
      s1.emit (.sb 1 a [0x01, marginByte (dir % 4)])
    else s1

/-- MarginGo. -/
def execMarginGo (rail dir : Nat) (s : State) : Host.Outcome State Fault Refusal := finish (s.marginGo rail dir)

end Sys2Proof.Machine
end

