-- ==== Sys2Proof/Machine/PwrRows.lean ====
section
/-! DEFINITION. The commands of PWR (R385 to R391): power states, Trimmed, energy. -/

namespace Sys2Proof.Machine

/-- An internal domain fails its power-good (R385): a fatal fault, source 0x022, record 0x460. -/
def execDomainPgFail (domain : Nat) (s : State) : Host.Outcome State Fault Refusal :=
  finish (if domain ≥ 96 ∨ !s.coreOn then s
    else
      let s1 : State := { s with pwr := { s.pwr with
        failed := if s.pwr.failed.contains domain then s.pwr.failed else s.pwr.failed ++ [domain] } }
      (s1.note 0x460 [s.pwr.st.code, s.pwr.st.code, Config.itemCode 0x460 2 7, domain]).fatal 5)

/-! ### Quiesced (R388) -/

/-- Every client queue pair enters ERROR (R291): its open epoch ends, nothing more is sent. -/
def State.qpsError (s : State) : State :=
  (s.nre.qps.filter (fun e => e.2.st != 0 && e.2.st != 3 && !e.2.circ)).foldl (fun s e =>
    let s1 := s.setQp e.1 { s.qp e.1 with st := 3, wr := none, rnr := none, recs := [] }
    (((s1.faultEpoch (qpStream e.1) 3 false).raise 0x2C0).bump rNRE_CNT_QP_ERR).async 4 0xFF (0x100000 + e.1) e.2.host 0 false) s

/-- Fills in progress end without data; a way bound is given back. -/
def State.fillsEnd (s : State) : State :=
  s.fch.fills.foldl (fun s f =>
    let s1 := (match f.way with | some k => if k < deskKey then s.unbind k else s | none => s).refund f
    let s2 := s1.dropFill f.folio
    if f.pin then { s2 with fch := { s2.fch with promoFailed := f.folio :: s2.fch.promoFailed } } else s2) s

/-- Steps 1 to 5 of R388. -/
def State.quiesce (s : State) : State :=
  let s1 : State := { s with ports := false }
  let s2 := (upTo 32).foldl (fun s lk => s.tvStop lk (Config.itemCode 0x3F0 3 6)) s1
  let s3 := (s2.dropClients.qpsError.cirRearmAll).1
  let s4 := s3.fillsEnd
  let s5 := (s4.fch.evb.map (·.folio)).foldl State.evbDrop s4
  let s6 := (s5.freeOwners (fun _ => true)).ethIdle.twinIdle.kceAbort
  let t := s6.tagBack
  let s7 : State := { t with
    bpm := { t.bpm with waits := [], held := [] }
    stk := { links := Tab.update (fun _ => {}) (fun (l : StkLink) => { uidRec := l.uidRec, uid := l.uid, trims := l.trims }) t.stk.links } }
  s7.selfRefreshAll.setPwr .quiesced 2

/-- A transition may begin: the start has ended, and no vault, handover before an off or power sequence runs (R386). -/
def State.pwrIdle (s : State) : Bool :=
  (s.pwr.st == .service || s.pwr.st == .trimmed || s.pwr.st == .quiesced) && s.rsv.ph == .off && !s.sup.offAfter && s.sup.seq == 2

/-- PWR_STATE of a target: BUSY while a transition runs (R386); else what the target does. -/
def State.pwrService (s : State) (slot target : Nat) (run : State → State × Option SvcRes) : State :=
  if (s.slot slot).arg 0 1 ≠ target then s
  else s.serve slot 0x34 (fun _ s => if !s.pwrIdle then (s, some svcBUSY) else run s)

/-- PWR_STATE SERVICE (R386): back from Quiesced, or from Trimmed. -/
def State.toService (s : State) : State :=
  if s.pwr.st = .quiesced then (s.wake.setPwr .service 2).openPorts
  else if s.pwr.st = .trimmed then (s.setPwr .service 2).bumpFld fPWR_CNT_TRIM_EXIT
  else s

/-- PWR_STATE SERVICE. -/
def execPwrStateService (slot : Nat) (s : State) : Host.Outcome State Fault Refusal :=
  finish (s.pwrService slot 0 (fun s => (s.toService, some svcOK)))

/-- Roles in which QUIESCE is refused (R388). -/
def Role.serving (r : Role) : Bool := r == .active || r == .inStep || r == .catchingUp || r == .claiming

/-- PWR_STATE QUIESCE. -/
def execPwrStateQuiesce (slot : Nat) (s : State) : Host.Outcome State Fault Refusal :=
  finish (s.pwrService slot 1 (fun s =>
    if s.twn.role.serving then (s, some svcBUSY)
    else if s.pwr.st = .quiesced then (s, some svcOK)
    else (s.quiesce, some svcOK)))

/-- Words of the meters as a setting keeps them: tenant, low word, high word. -/
def meterWords (t : Tab Nat) : List Nat := t.flatMap (fun e => e.1 :: words2 e.2)

/-- The meters are copied to embedded flash (R391). -/
def State.checkpoint (s : State) : State :=
  ({ s with pwr := { s.pwr with ckpt := s.pwr.meter } }).setting 0x0100 (meterWords s.pwr.meter)

/-- PWR_STATE STANDBY (R389), from Quiesced only: meters and hours are kept, the vault runs, and the rails go but the kept
ones. -/
def execPwrStateStandby (slot : Nat) (s : State) : Host.Outcome State Fault Refusal :=
  finish (s.pwrService slot 2 (fun s =>
    if s.pwr.st ≠ .quiesced then (s, some svcDENIED)
    else ((s.checkpoint.setting 0x0002 [s.dbk.hours]).vaultTo .standby 2, some svcOK)))

/-- PWR_STATE OFF (R386): the vault, then Off. -/
def execPwrStateOff (slot : Nat) (s : State) : Host.Outcome State Fault Refusal :=
  finish (s.pwrService slot 3 (fun s => (s.vaultTo .off 2, some svcOK)))

/-! ### Trimmed (R387) -/

/-- Traffic of a window against a threshold in 1/256 of 1.75 TB/s: bytes * 256 * 1,000 against n * 1.75e12 * WIN_MS. -/
def State.trafficAt (s : State) (n : Nat) : Nat := n * 1750000000000 * s.fld fPWR_TRIM_WIN_MS

/-- Trimmed is left for Service. -/
def State.trimExit (s : State) : State :=
  if s.pwr.st = .trimmed then (s.setPwr .service 1).bumpFld fPWR_CNT_TRIM_EXIT else s

/-- A traffic window ends. -/
def execTrimWindow (bytes : Nat) (s : State) : Host.Outcome State Fault Refusal :=
  let t := bytes * 256000
  finish (if s.pwr.st = .service then
      let low := s.flag fPWR_CTRL_TRIM_EN && decide (t < s.trafficAt (s.fld fPWR_TRIM_ENTER))
      let run := if low then s.pwr.lowRun + 1 else 0
      if low && decide (s.fld fPWR_TRIM_HOLD ≤ run) then
        (({ s with pwr := { s.pwr with lowRun := 0 } }).setPwr .trimmed 1).bumpFld fPWR_CNT_TRIM_ENTER
      else { s with pwr := { s.pwr with lowRun := run } }
    else if s.pwr.st = .trimmed ∧ (!s.flag fPWR_CTRL_TRIM_EN ∨ s.trafficAt (s.fld fPWR_TRIM_EXIT) < t) then s.trimExit
    else s)

/-- A frequency change that PWR issues (R386 action, R387). -/
def State.pwrFchg (s : State) (c : Nat) : State := (s.fchg c).bump rPWR_CNT_FCHG

/-- The next channel is moved: down in Trimmed, back in Service, in channel order, one at a time (R186). -/
def execTrimFchgTick (s : State) : Host.Outcome State Fault Refusal :=
  finish (if (upTo 16).any (fun c => (s.ch c).st == 4) then s
    else if s.pwr.st = .trimmed then
      (if !s.flag fPWR_CTRL_FCHG_EN ∨ !s.speedable then s
      else match s.dmc.pop.find? (fun c => !s.pwr.slowed.contains c && (s.ch c).st == 2 && s.dmcSpeed c == 12800) with
        | some c => ({ s with pwr := { s.pwr with slowed := s.pwr.slowed ++ [c] } }).pwrFchg c
        | none => s)
    else if s.pwr.st = .service then
      (match (upTo 16).find? (fun c => s.pwr.slowed.contains c && (s.ch c).st == 2) with
        | some c => ({ s with pwr := { s.pwr with slowed := s.pwr.slowed.filter (· != c) } }).pwrFchg c
        | none => s)
    else s)

/-! ### Energy (R390, R391) -/

/-- Raw energy of a tenant's operations of the running second, in nJ. -/
def State.rawOf (s : State) (t : Nat) : Nat :=
  (upTo 7).foldl (fun a i => a + Tab.get (fun _ => 0) s.pwr.raw (t * 8 + i) * (Config.energyCoef i).toNat) 0

/-- Tenants that spent something. -/
def State.spenders (s : State) : List Nat := (s.pwr.raw.map (fun e => e.1 / 8)).eraseDups

/-- What a tenant is charged under K, in mJ. -/
def State.chargeOf (s : State) (k t : Nat) : Nat := s.rawOf t * k / 256000000

/-- Some channel of a monitor pair in use is invalid (R391, R97). -/
def State.pairBad (s : State) : Bool :=
  (upTo 8).any (fun j =>
    let w := (Config.railPair j 0).toNat
    bitOf w 10 && !(s.ainOk (bitsOf w 4 0) && s.ainOk (bitsOf w 9 5)))

/-- K as the sum of the raw energy and the measured energy give it, before its limits: rounded to the nearest, halves up. With
no raw energy the manual states no K. -/
def State.kOf (s : State) (m sum : Nat) : Nat :=
  if sum = 0 then (Config.freeWord s.freeCtr).toNat
  else
    let net := m - s.fld fPWR_BASE_W * 1000
    (2 * 256 * net * 1000000 + sum) / (2 * sum)

/-- The reconciliation of a second in which the rails measured `mj`. -/
def State.reconcile (s : State) (mj : Nat) : State :=
  let who := s.spenders
  let sum := who.foldl (fun a t => a + s.rawOf t) 0
  let bad := s.pairBad
  let k := if bad then s.pwr.k else max 128 (min 512 (s.kOf mj sum))
  let others := (who.filter (· != 0)).map (fun t => (t, s.chargeOf k t))
  let given := others.foldl (fun a e => a + e.2) 0
  let m := if bad then given + s.chargeOf k 0 else mj
  let meter (t : Nat) : Nat := Tab.get (fun _ => 0) s.pwr.meter t
  let t1 := others.foldl (fun (t : Tab Nat) e => Tab.set (fun _ => 0) t e.1 ((meter e.1 + e.2) % 2 ^ 64)) s.pwr.meter
  let rest := (((meter 0 + m : Nat) : Int) - (given : Int)) % (2 ^ 64 : Int)
  let t2 := Tab.set (fun _ => 0) t1 0 rest.toNat
  let s1 : State := { s with pwr := { s.pwr with
    meter := t2
    raw := []
    k := k
    pChip := m / 1000 } }
  let s2 := if !bad && (k == 128 || k == 512) then (s1.raise 0x021).bump rPWR_CNT_K_CLAMP else s1
  s2.tickFree

/-- Once a second. -/
def execEnergyReconcile (mj : Nat) (s : State) : Host.Outcome State Fault Refusal :=
  finish (if s.coreRuns then s.reconcile mj else s)

/-- Every CKPT_MIN minutes. -/
def execEnergyCheckpoint (s : State) : Host.Outcome State Fault Refusal :=
  finish (if s.coreRuns ∧ s.efl.ready then s.checkpoint else s)

end Sys2Proof.Machine
end

