-- ==== Sys2Proof/Machine/ImageRows.lean ====
section
/-! DEFINITION. The services that repair or replace images and firmware (R399, R425 to R429). -/

namespace Sys2Proof.Machine

/-! ### Images -/

/-- The load of a copy in progress. -/
def State.load (s : State) (c : Nat) : Option Loading := Tab.get (fun _ => none) s.rgc.loading c
def State.setLoad (s : State) (c : Nat) (x : Option Loading) : State :=
  { s with rgc := { s.rgc with loading := Tab.set (fun _ => none) s.rgc.loading c x } }

/-- Programs a chunk of a copy; bytes 0 to 63 are kept back (R425). -/
def State.imagePut (s : State) (c off : Nat) (data : List Byte) (l : Loading) : State :=
  let inHead := if off < 64 then 64 - off else 0
  let head := (upTo (min inHead data.length)).foldl (fun h i => setAt h (off + i) (data.getD i 0)) l.head
  let body := data.drop inHead
  let s1 := if body.isEmpty then s else s.cfgPut c (off + inHead) body
  s1.setLoad c (some { l with next := off + data.length, head := head })

/-- IMAGE_WRITE (R425). A chunk without a FIRST before it is answered as one that overlaps. -/
def State.doImageWrite (s : State) (x : MbSlot) : State × Option SvcRes :=
  let c := x.arg 0 1
  let off := x.arg 4 4
  let n := x.arg 8 2
  let data := x.bytes 32 n
  if c > 1 ∨ n = 0 ∨ n > 192 ∨ !x.zero 1 3 ∨ !x.zero 10 6 then (s, some svcFORMAT)
  else if !s.rgc.good.contains (1 - c) ∨ off + n > 0x800000 then (s, some svcBUSY)
  else if x.first then
    let s1 := s.cfgErase c
    (s1.imagePut c off data { which := c, next := 0, head := List.replicate 64 0xFF }, some svcOK)
  else match s.load c with
    | none => (s, some svcBUSY)
    | some l => if off < l.next then (s, some svcBUSY) else (s.imagePut c off data l, some svcOK)

/-- IMAGE_WRITE. -/
def execImageWrite (slot : Nat) (s : State) : Host.Outcome State Fault Refusal :=
  finish (s.serve slot 0x40 (fun x s => s.doImageWrite x))

/-- The lifecycle whose rules a check of a copy follows outside a start: with a seed loaded in Blank the Owned rules
(R461). -/
def State.checkLife (s : State) : Nat := if s.lifecycle = 0 ∧ s.sec.seed.isSome then 1 else s.lifecycle

/-- IMAGE_VERIFY (R426). -/
def State.doImageVerify (s : State) (x : MbSlot) : State × Option SvcRes :=
  let c := x.arg 0 1
  if c > 1 then (s, some svcFORMAT)
  else
    let head := (s.load c).elim (s.cfgBytes c 0 64) (·.head)
    let (s1, k) := s.checkCopy c head s.checkLife false
    if k.cause ≠ 0 then (s1.rejectCopy c k.cause, some { code := 1, reason := k.cause })
    else
      let s2 := if (s1.load c).isSome then (s1.cfgPut c 0 head).setLoad c none else s1
      let s3 := s2.setSealLatch c false
      ({ s3 with rgc := { s3.rgc with
        good := if s3.rgc.good.contains c then s3.rgc.good else s3.rgc.good ++ [c]
        verifiedB := s3.rgc.verifiedB || c == 1 } }, some { words := [numAt head 12 4] })

/-- IMAGE_VERIFY. -/
def execImageVerify (slot : Nat) (s : State) : Host.Outcome State Fault Refusal :=
  finish (s.serve slot 0x41 (fun x s => s.doImageVerify x))

/-- IMAGE_RELOAD (R399): every image field is rewritten, or nothing is. -/
def State.doImageReload (s : State) (x : MbSlot) : State × Option SvcRes :=
  let c := x.arg 0 1
  if c > 1 then (s, some svcFORMAT)
  else if s.pwr.st ≠ .quiesced then (s, some svcBUSY)
  else
    let (s1, k) := s.checkCopy c (s.cfgBytes c 0 64) s.lifecycle false
    if k.cause ≠ 0 then (s1.note 0x475 [1], some { code := 1, reason := k.cause })
    else
      let s2 := s1.applyImage c k true
      if s2.startOnly ≠ s1.startOnly ∨ sectValue k.sects 1 ≠ some s1.sup.supply then
        (s1.note 0x475 [2], some { code := 1, reason := 10 })
      else
        let s3 : State := { s2 with sec := { s2.sec with level := s2.baseLevel } }
        ((s3.modeWrite (s3.fld ⟨rFCH_CTRL, 1, 0⟩ == 1)).note 0x475 [0], some svcOK)

/-- IMAGE_RELOAD. -/
def execImageReload (slot : Nat) (s : State) : Host.Outcome State Fault Refusal :=
  finish (s.serve slot 0x42 (fun x s => s.doImageReload x))

/-- IMAGE_FLOOR (R427). -/
def State.doImageFloor (s : State) (x : MbSlot) : State × Option SvcRes :=
  let f := x.arg 0 4
  if f < s.rgc.floor ∨ numAt s.rgc.header 12 4 < f then (s, some svcDENIED)
  else (({ s with rgc := { s.rgc with floor := f } }).setting 0x0004 [f], some svcOK)

/-- IMAGE_FLOOR. -/
def execImageFloor (slot : Nat) (s : State) : Host.Outcome State Fault Refusal :=
  finish (s.serve slot 0x43 (fun x s => s.doImageFloor x))

/-! ### Firmware -/

/-- First sector of a firmware bank (R431). -/
def fwSector (bank : Nat) : Nat := if bank = 0 then 0 else 3072

/-- Erases a firmware bank sector by sector under the erase-open rule (R438). -/
def State.fwErase (s : State) (bank : Nat) : State :=
  (upTo 1024).foldl (fun s i =>
    let sec := fwSector bank + i
    let s1 := (((s.journal sec 1).clearSector sec).bump rEFL_CNT_ERASE).journal sec 2
    { s1 with efl := { s1.efl with suspect := s1.efl.suspect.filter (· != sec) } }) s

/-- Programs a chunk of the bank; a code word begun by the chunk before is completed. -/
def State.fwPut (s : State) (bank off next : Nat) (data : List Byte) : State :=
  let first := off / 16
  let last := (off + data.length - 1) / 16
  let s1 := (upTo (last + 1 - first)).foldl (fun s k =>
    let w := fwSector bank * 256 + first + k
    let begun := decide ((first + k) * 16 < next)
    let old := if begun then leBytes 16 (s.fword w).data.toNat else List.replicate 16 (0xFF : Byte)
    let new := (upTo 16).map (fun i =>
      let a := (first + k) * 16 + i
      if a < off ∨ off + data.length ≤ a then old.getD i 0 else data.getD (a - off) 0)
    if begun then s.setFword w (.written (wordOf new) false) else s.progWord w (wordOf new)) s
  { s1 with rgc := { s1.rgc with fwLoading := some { which := bank, next := off + data.length } } }

/-- FW_WRITE (R429). Chunks ascend; another one is answered as for an image. -/
def State.doFwWrite (s : State) (x : MbSlot) : State × Option SvcRes :=
  let bank := 1 - s.efl.ptrBank
  let off := x.arg 4 4
  let n := x.arg 8 2
  let data := x.bytes 32 n
  if n = 0 ∨ n > 192 ∨ !x.zero 0 4 ∨ !x.zero 10 6 then (s, some svcFORMAT)
  else if off + n > 0x400000 then (s, some svcBUSY)
  else if x.first then ((s.fwErase bank).fwPut bank off 0 data, some svcOK)
  else match s.rgc.fwLoading with
    | none => (s, some svcBUSY)
    | some l => if l.which ≠ bank ∨ off < l.next then (s, some svcBUSY) else (s.fwPut bank off l.next data, some svcOK)

/-- FW_WRITE. -/
def execFwWrite (slot : Nat) (s : State) : Host.Outcome State Fault Refusal :=
  finish (s.serve slot 0x48 (fun x s => s.doFwWrite x))

/-- FW_ACTIVATE (R429): the answer is given, then the registrar restarts, which loses the mailbox (R424). -/
def State.doFwActivate (s : State) (slot : Nat) : State × Option SvcRes :=
  let old := s.efl.ptrBank
  let bank := 1 - old
  let was := s.rgc.fwVer
  let (s1, cause, v) := s.fwCheck bank
  if cause ≠ 0 then (s1, some { code := 1, reason := cause })
  else
    let s2 := (s1.pointTo bank v).slotDone slot (0, 0, leBytes 4 v)
    let s3 : State := { s2 with rgc := { s2.rgc with fallback := some (old, was) } }
    (s3.registrarRestart.note 0x478 [was, v, 0], none)

/-- FW_ACTIVATE. -/
def execFwActivate (slot : Nat) (s : State) : Host.Outcome State Fault Refusal :=
  finish (s.serve slot 0x49 (fun _ s => s.doFwActivate slot))

/-- 60 s have passed without an expiry (R429). -/
def execFwConfirmTimer (s : State) : Host.Outcome State Fault Refusal :=
  finish (if !s.rgc.ready ∨ s.rgc.confirmed then s
    else
      let s1 : State := { s with rgc := { s.rgc with confirmed := true, fallback := none } }
      match s.rgc.fallback with
      | some (_, v) => s1.note 0x478 [v, s.rgc.fwVer, 1]
      | none => s1)

end Sys2Proof.Machine
end

