-- ==== Sys2Proof/Machine/SecRows.lean ====
section
/-! DEFINITION. The commands of SEC and KCE (R453 to R468): unlocking, provisioning, key-check requests. -/

namespace Sys2Proof.Machine

/-- The registers answer a path (R469): 0 the management host, 1 JTAG, which needs the debug domain. None does in a vault. -/
def State.regsOpen (s : State) (path : Nat) : Bool := s.coreRuns && s.rsv.ph == .off && (path == 0 || s.cipherOn)

/-! ### Unlocking (R466 to R468) -/

/-- The 16 bytes of a challenge (R466). -/
def State.challenge (s : State) (n purpose : Nat) : List Nat :=
  leNats 8 s.sec.fuse.uid.toNat ++ leNats 4 s.dbk.cycles ++ leNats 2 n ++ [purpose, s.lifecycle]

/-- A CHALLENGE is refused (R467). PURPOSE 0 names no level. -/
def State.chalRefused (s : State) (purpose : Nat) : Bool :=
  !s.cipherOn || s.sec.lockout || decide (s.sec.issued ≥ 65535) || purpose == 0 || (purpose == 3 && s.lifecycle == 2)

/-- SEC_UNLOCK.CHALLENGE (R466). -/
def State.unlockChallenge (s : State) (path purpose : Nat) : State :=
  let p := purpose % 4
  let s1 := s.setFld fSEC_UNLOCK_PURPOSE p
  if s1.chalRefused p then s1
  else
    let n := s1.sec.issued + 1
    let bytes := s1.challenge n p
    { s1 with sec := { s1.sec with issued := n, chal := some (bytes, p, path, s1.timeUs), chalRegs := bytes } }

/-- SEC_UNLOCK.CHALLENGE, with PURPOSE as written beside it. -/
def execUnlockChallenge (path purpose : Nat) (s : State) : Host.Outcome State Fault Refusal :=
  finish (if s.regsOpen path then s.unlockChallenge path purpose else s)

/-- The challenge is still valid: 10 s have not passed (R466). -/
def State.chalValid (s : State) : Bool := s.sec.chal.elim false (fun c => decide (s.timeUs < c.2.2.2 + 10000000))

/-- The response as SEC_RESP holds it. -/
def State.respBytes (s : State) : List Byte := (upTo 16).map (fun i => BitVec.ofNat 8 (Tab.get (fun _ => 0) s.sec.resp i))

/-- SEC_UNLOCK.SUBMIT (R466, R467): one URGENT VERIFY on slot 4 for a valid challenge, which it uses up. With the cipher
domain off the request ends ABORTED (R458), which is neither a grant nor a failure. -/
def State.unlockSubmit (s : State) (path : Nat) : State :=
  match s.sec.chal with
  | none => s.unlockFail path
  | some (bytes, purpose, _, _) =>
    let s1 : State := { s with sec := { s.sec with chal := none } }
    if !s.chalValid then s1.unlockFail path
    else if !s.cipherOn then { s1 with sec := { s1.sec with kLast := (2, 4, []) } }
    else ({ s1 with sec := { s1.sec with submitted := some (purpose, path) } }).kceSubmit
      { who := 2, slot := 4, use := 1, urgent := true, msg := bytes.map (BitVec.ofNat 8 ·), mac := s.respBytes }

/-- SEC_UNLOCK.SUBMIT. -/
def execUnlockSubmit (path : Nat) (s : State) : Host.Outcome State Fault Refusal :=
  finish (if s.regsOpen path then s.unlockSubmit path else s)

/-- SEC_UNLOCK.RELOCK (R468). -/
def State.unlockRelock (s : State) : State := { s with sec := { s.sec with level := s.baseLevel } }

/-- SEC_UNLOCK.RELOCK. -/
def execUnlockRelock (path : Nat) (s : State) : Host.Outcome State Fault Refusal :=
  finish (if s.regsOpen path then s.unlockRelock else s)

/-- 10 s have passed since a challenge (R466). -/
def execChallengeExpiry (s : State) : Host.Outcome State Fault Refusal :=
  finish { s with sec := { s.sec with chal := none } }

/-! ### Provisioning (R461, R462) -/

/-- The first seed row not used. -/
def Fuses.freeRow (f : Fuses) : Option Nat := if f.seedA.isNone then some 0 else if f.seedB.isNone then some 1 else none

/-- SEC_PROVISION.RESULT. -/
def State.provEnd (s : State) (n : Nat) : State := { s with sec := { s.sec with provResult := n } }

/-- SEC_PROVISION.COMMIT (steps 4 and 5 of R461). Without a provisioning image there are no owner keys under which copy B could
have passed. -/
def State.provCommit (s : State) : State :=
  if s.sec.burning.isSome then s
  else if s.lifecycle ≠ 0 then s.provEnd 1
  else if s.sec.seed.isNone ∨ !s.rgc.verifiedB then s.provEnd 2
  else
    let (s1, cause, _) := s.fwCheck (1 - s.efl.ptrBank)
    if cause ≠ 0 then s1.provEnd 3
    else match s1.sec.fuse.freeRow with
      | none => s1.provEnd 4
      | some row => { s1 with sec := { s1.sec with burning := some row, provResult := 0 } }

/-- SEC_PROVISION.COMMIT. -/
def execProvisionCommit (s : State) : Host.Outcome State Fault Refusal :=
  finish (if s.regsOpen 0 then s.provCommit else s)

/-- The burns end (R461, R462): `good` says that the row read back right. -/
def execFuseBurnDone (good : Bool) (s : State) : Host.Outcome State Fault Refusal :=
  finish (match s.sec.burning with
    | none => s
    | some row =>
      let f := s.sec.fuse.burnRow row (s.sec.seed.getD []) good
      let s1 : State := { s with sec := { s.sec with burning := none, fuse := if good then { f with owned := some row } else f } }
      if good then
        let s2 := ((s1.cfgErase 0).note 0x490 (words2 f.uid.toNat ++ [row])).powerDown .off 9
        { s2 with sup := { s2.sup with onLatched := true } }
      else (s1.provEnd 4).note 0x494 [row, 4])

/-! ### The check engine (R458 to R460) -/

/-- A request of the registrar (who 0) or of TWN for its witness slot (who 1): witness messages are URGENT (R459). Other
requesters cannot submit; a length above 16 MiB is no request. -/
def execKceRequest (who slot use : Nat) (msg mac : List Byte) (s : State) : Host.Outcome State Fault Refusal :=
  finish (if !s.coreRuns ∨ who > 1 ∨ slot > 31 ∨ use > 2 ∨ msg.length > 0x1000000 then s
    else if who = 1 ∧ slot ≠ s.fld fTWN_WITNESS_KEY_SLOT then s
    else if !s.cipherOn then { s with sec := { s.sec with kLast := (who, 4, []) } }
    else s.kceSubmit { who := who, slot := slot, use := use, urgent := who == 1, msg := msg, mac := mac })

/-- DECOMMISSION granted (R463): the fuse burns, and the MK1 acts as on PWR_STATE OFF. -/
def State.decommission (s : State) : State :=
  let s1 : State := { s with sec := { s.sec with fuse := { s.sec.fuse with decomm := true } } }
  (s1.note 0x493 (words2 s.sec.fuse.uid.toNat)).vaultTo .off 2

/-- A SUBMIT's check has ended (R466, R467): NO_KEY is neither a MATCH nor a MISMATCH. -/
def State.submitEnd (s : State) (r : Nat) : State :=
  match s.sec.submitted with
  | none => s
  | some (purpose, path) =>
    let s1 : State := { s with sec := { s.sec with submitted := none } }
    if r = 0 then
      let s2 := s1.unlockGrant purpose path
      if purpose = 3 then s2.decommission else s2
    else if r = 1 then s1.unlockFail path
    else s1

/-- The request that runs ends (R458). -/
def execKceRequestDone (s : State) : Host.Outcome State Fault Refusal :=
  finish (match s.sec.kRun with
    | none => s
    | some q =>
      let (r, mac) := kceResult (q.key.getD {}) q.use q.msg q.mac
      let s1 : State := { s with sec := { s.sec with kRun := none, kLast := (q.who, r, mac) } }
      let s2 := s1.kceCount r
      (if q.who = 2 then s2.submitEnd r else s2).kceStart)

end Sys2Proof.Machine
end

