-- ==== Sys2Proof/Machine/DftOps.lean ====
section
/-! DEFINITION. Lanes under test, the DRAM bus test, boundary scan and the observation pins (R483 to R491). -/

namespace Sys2Proof.Machine

/-! ### Lanes (R483 to R488) -/

/-- The lane DFT_LANE_* shows: DFT_LSEL above 129 acts as 129. -/
def State.lsel (s : State) : Nat := min 129 (s.fld fDFT_LSEL_LANE)

/-- The Ethernet port that owns lane EN `e` in its MAC's MODE (R260). -/
def State.laneEth (s : State) (e : Nat) : Nat :=
  let mode := s.ethMode e
  let k := ((upTo 4).filter (fun k => modeHas mode k && decide (k ≤ e % 4 ∧ e % 4 < k + modeLanes mode k))).headD (e % 4)
  e / 4 * 4 + k

/-- The owner of a lane has it disabled (R484); the management lanes only leave service for JTAG at Open. -/
def State.laneFree (s : State) (path n : Nat) : Bool :=
  if n < 64 then !s.flag (fTVL_CTRL_ENABLE.plus (0x100000 * (n / 4)))
  else if n < 96 then
    let e := s.laneEth (n - 64)
    !bitOf (s.fld (fETH_CTRL_PORT_EN.plus (ethOff e))) (e % 4)
  else if n < 112 then !s.flag fTWN_CTRL_ENABLE
  else if n < 128 then !bitOf (s.fld fSTK_CTRL_LINK_EN) (n - 112)
  else path == 2 && s.sec.level == 2

/-- A write of DFT_LANE_CTRL (R484): GEN, CHK and LOOP of the lane selected; one that would put a lane in test that its owner
uses is refused. A changed checker seeds itself anew. -/
def State.laneSet (s : State) (path v : Nat) : State :=
  let n := s.lsel
  let l := s.lane n
  let new : DftLane := { l with
    gen := bitsOf v 2 0
    chk := bitsOf v 5 3
    loop := bitsOf v 7 6
    refused := false
    lock := l.lock && bitsOf v 5 3 == l.chk }
  if new.test ∧ !l.test ∧ !s.laneFree path n then s.setLane n { l with refused := true }
  else s.setLane n new

/-- The lane group of R395 a lane belongs to: 0 TV and MG, 1 EN, 2 TN, 3 SK. -/
def laneGroup (n : Nat) : Nat := if n < 64 then 0 else if n < 96 then 1 else if n < 112 then 2 else if n < 128 then 3 else 0

/-- The powers of x in the polynomial of a pattern, but for its 1 (R485); the first is its degree. -/
def prbsTaps (gen : Nat) : List Nat :=
  match gen with
  | 1 => [7, 6]
  | 2 => [9, 5]
  | 3 => [13, 12, 2, 1]
  | 4 => [15, 14]
  | 5 => [23, 18]
  | 6 => [31, 28]
  | _ => []

/-- Bits of a pseudo-random pattern, in order; the register holds the last bits sent, the latest as bit 0. Answers the register after
them too. -/
def prbsRun (taps : List Nat) : Nat → Nat → Nat × List Bool
  | 0, r => (r, [])
  | n + 1, r =>
    let b := taps.foldl (fun b t => b ^^ bitOf r (t - 1)) false
    let p := prbsRun taps n ((2 * r + b2n b) % 2 ^ taps.headD 0)
    (p.1, b :: p.2)

/-- The pattern of USER: 80 bits, bit 0 first (R485). -/
def State.userBits (s : State) : List Bool :=
  let v := (s.reg rDFT_USER0).toNat + (s.reg rDFT_USER1).toNat * 2 ^ 32 + s.fld fDFT_USER2_V * 2 ^ 64
  (upTo 80).map (bitOf v)

/-- Gray-coded PAM4 symbols of a bit stream, the first bit of each pair the more significant (R485). -/
def pam4 : List Bool → List Nat
  | a :: b :: t => (2 * b2n a + b2n (a ^^ b)) :: pam4 t
  | _ => []

/-- The symbols of a bit stream on a lane: PAM4, or NRZ on the management lanes (R485). -/
def laneSymbols (n : Nat) (bits : List Bool) : List Nat := if n < 128 then pam4 bits else bits.map b2n

/-- The generator of a lane drives it: it runs, no far-end loop takes its place (R487), and the lane group has its reference
(R488). -/
def State.laneSends (s : State) (n : Nat) : Bool :=
  (s.lane n).gen != 0 && (s.lane n).loop != 2 && bitOf s.cru.refOk (laneGroup n)

/-- The generator of a lane sends 80 bits of its pattern, the first of them inverted or not (R485, R486). Where the pattern stands by
then is free, but never at all zeros; USER starts at its bit 0 (DESIGN CHOICE, log 124). -/
def State.laneSend (s : State) (n : Nat) (invert : Bool) : State :=
  let taps := prbsTaps (s.lane n).gen
  let r := (Config.freeWord s.freeCtr).toNat % (2 ^ taps.headD 0 - 1) + 1
  let bits := if taps.isEmpty then s.userBits else (prbsRun taps 80 r).2
  let out := match bits with
    | b :: t => (b ^^ invert) :: t
    | [] => []
  if s.laneSends n then (s.emit (.lane n (laneSymbols n out))).tickFree else s

/-- DFT_LANE_CTRL.INJ (R486): one bit that the lane's generator sends is inverted; a far-end loop ignores GEN (R487). -/
def State.laneInject (s : State) : State := s.laneSend s.lsel true

/-- A write of DFT_LANE_CTRL: a generator whose pattern it names anew starts to send it (R484, R485). -/
def State.laneWrite (s : State) (path v : Nat) : State :=
  let s1 := s.laneSet path v
  if (s1.lane s.lsel).gen = (s.lane s.lsel).gen then s1 else s1.laneSend s.lsel false

/-- Sets what TX_FIR and RX_EQ of a lane hold (R503). -/
def State.setPhy (s : State) (n : Nat) (tx rx : Option Nat) : State :=
  { s with dft := { s.dft with phy := Tab.set (fun _ => ((none, none) : Option Nat × Option Nat)) s.dft.phy n (tx, rx) } }

/-- DFT_CMD.CLR (R486): the lanes' counts are zeroed. -/
def State.dftClr (s : State) : State :=
  { s with dft := { s.dft with
    lanes := Tab.update (fun _ => {}) (fun (l : DftLane) => { l with errs := 0, bits := 0, losses := 0 }) s.dft.lanes } }

/-- Bits and errors that a locked checker has counted since its counts were last brought up to date: what arrives on the lane is not
the MK1's to say. -/
def State.laneCount (s : State) (n : Nat) : State :=
  let l := s.lane n
  if !l.lock then s
  else
    (s.setLane n { l with
      bits := (l.bits + (Config.freeWord s.freeCtr).toNat) % 2 ^ 64
      errs := satAdd 4294967295 l.errs (Config.freeWord (s.freeCtr + 1)).toNat }).tickFree.tickFree

/-- DFT_CMD.SNAP (R486): the counts of every lane are copied into indirect space. -/
def State.dftSnap (s : State) : State :=
  let s1 := (s.dft.lanes.map (·.1)).foldl State.laneCount s
  { s1 with dft := { s1.dft with
    copies := s1.dft.lanes.foldl (fun t e => Tab.set (fun _ => ({} : DftCopy)) t e.1
      { errs := e.2.errs, bits := e.2.bits, losses := e.2.losses }) [] } }

/-! ### The DRAM bus test (R489) -/

/-- DFT_DRAM_CTRL.GO: only while Quiesced, on a channel in self-refresh; MODE 0 and 3 name no test. -/
def State.dramTest (s : State) (ch mode : Nat) : State :=
  if s.pwr.st ≠ .quiesced ∨ s.dft.run.isSome ∨ mode = 0 ∨ mode = 3 ∨ (s.ch ch).st ≠ 3 then s
  else
    let s1 := (s.setCh ch { s.ch ch with st := 2 }).dram ch "bus test" mode
    { s1 with dft := { s1.dft with run := some (ch, mode), done := false } }

/-! ### Boundary scan (R490, R464) -/

/-- The pin-driving instructions of IEEE 1149.1 and 1149.6. -/
def JtagOp.drives : JtagOp → Bool
  | .extest => true
  | .extestPulse => true
  | .extestTrain => true
  | .clamp => true
  | .highz => true
  | _ => false

/-- The name of an instruction. -/
def JtagOp.name : JtagOp → String
  | .idcode => "IDCODE"
  | .bypass => "BYPASS"
  | .sample => "SAMPLE"
  | .extest => "EXTEST"
  | .extestPulse => "EXTEST_PULSE"
  | .extestTrain => "EXTEST_TRAIN"
  | .clamp => "CLAMP"
  | .highz => "HIGHZ"
  | .dbgAccess => "DBG_ACCESS"

/-- What an instruction acts as (R464, R469): pin-driving ones as BYPASS unless a Pin reset is held; outside service only IDCODE and
BYPASS are left, in Quiesced also SAMPLE. -/
def State.jtagActs (s : State) (op : JtagOp) : JtagOp :=
  let held := s.cru.pinHeld || s.cru.xtalHeld
  if op = .idcode ∨ op = .bypass then op
  else if !s.coreOn ∨ s.rsv.ph ≠ .off then .bypass
  else if op.drives then (if held then op else .bypass)
  else if op = .dbgAccess ∧ !(s.coreRuns && s.cipherOn) then .bypass
  else op

/-- IDCODE of A1 silicon (R490). -/
def idcode : Nat := 0x1 * 2 ^ 28 + 0x4B31 * 2 ^ 12 + Config.idcodeLow.toNat * 2 + 1

/-! ### Observation pins (R491) -/

/-- A signal of the observation pins: public ones as R491 lists them; what arrives on the lanes and on TWIN_HB_IN, and the datapath signals,
are not the manual's to say. -/
def State.obsSignal (s : State) (n : Nat) : Bool :=
  if n < 0x082 then Config.freeBit (s.freeCtr + n)
  else if n < 0x092 then (s.ch (n - 0x082)).st == 2
  else if n < 0x0B2 then (s.tvl_ (n - 0x092)).st == 4
  else if n < 0x0D2 then (s.ethPort (n - 0x0B2)).up
  else if n < 0x0E2 then (s.link (n - 0x0D2)).st == 2
  else if n = 0x0E2 then (s.tvl_ twinLk).st == 4
  else if n = 0x0E3 then s.mayAct
  else if n = 0x0E4 ∨ n = 0x0E5 then Config.freeBit (s.freeCtr + n)
  else if n = 0x0E6 then s.cru.vaultAct
  else if n = 0x0E7 then decide (3 ≤ s.rsv.stage)
  else if n < 0x0ED then (s.deliverable (n - 0x0E8)).isSome
  else if n = 0x0ED then false
  else if n = 0x0EE then true
  else if n < 0x100 then false
  else Config.freeBit (s.freeCtr + n)

/-- The selection of pin `i`. -/
def State.obsSel (s : State) (i : Nat) : Nat :=
  bitsOf (s.reg (rDFT_OBS_SEL + 4 * (i / 2))).toNat (16 * (i % 2) + 9) (16 * (i % 2))

/-- Level of OBS[i] (R491, R465): none is high impedance; a selection that is not public drives low below Open. -/
def State.obsPin (s : State) (i : Nat) : Option Bool :=
  if !(s.flag fDFT_CTRL_OBS_EN && s.coreRuns && s.cipherOn && s.rsv.ph == .off) then none
  else if s.obsSel i ≥ 0x100 ∧ s.sec.level ≠ 2 then some false
  else some (s.obsSignal (s.obsSel i))

end Sys2Proof.Machine
end

