-- ==== Sys2Proof/Machine/RegRead.lean ====
section
/-! DEFINITION. Reading the register map (R492 to R503): how an address becomes a register, and the bits that show the state of
their block. -/

namespace Sys2Proof.Machine

/-! ### Addresses (R493, R495) -/

/-- The window of an address: bits [25:20]. -/
def winOf (a : Nat) : Nat := a / 0x100000 % 64

/-- The register an address reaches: bits [19:16] and [1:0] are ignored (R495). -/
def canon (a : Nat) : Nat := winOf a * 0x100000 + a % 0x10000 / 4 * 4

/-- An unassigned window (R493). -/
def unmapped (a : Nat) : Bool := decide (0x3D ≤ winOf a)

/-- An access to an unassigned window is counted (R493). -/
def State.countUnmapped (s : State) : State := s.bumpFld fTOP_CNT_ACCESS_UNMAPPED

/-- The mailbox slots of RGC (R419). -/
def slotReg (a : Nat) : Bool := decide (0x701000 ≤ a ∧ a < 0x702000)

/-- Which instance of a register an address is: in its windows, and in its row of the window. -/
def RegDef.inst (d : RegDef) (a : Nat) : Nat × Nat :=
  let o := a - d.addr
  let i := if d.n1 ≤ 1 then 0 else o / d.s1
  let o2 := if d.n1 ≤ 1 then o else o % d.s1
  (i, if d.n2 ≤ 1 then 0 else o2 / d.s2)

/-! ### Live bits -/

/-- Domains of PWR_DOMAIN_ON (R385). -/
def State.domainOn (s : State) (n : Nat) : Bool :=
  let st := s.pwr.st
  let serving := st == .service || st == .starting || st == .trimmed
  let trim := st == .trimmed
  let tv (p : Nat) : Bool := s.flag (fTVL_CTRL_ENABLE.plus (0x100000 * p))
    && (!trim || (s.tvl_ (2 * p)).st != 0 || (s.tvl_ (2 * p + 1)).st != 0)
  let twin := s.flag fTWN_CTRL_ENABLE
  let eng (e : Nat) : Bool :=
    if trim then s.cir.streams.any (fun x => x.1 % 4 == e && x.2.st != 0) else bitOf (s.fld fCIR_CTRL_ENG_EN) e
  let on : Bool :=
    if st = .off ∨ st = .standby then false
    else if n < 16 then bitOf (s.fld fDMC_POP_MASK) n
    else if n < 32 then serving && tv (n - 16)
    else if n < 40 then serving && (upTo 4).any (fun k => s.ethEnabled (4 * (n - 32) + k))
    else if n < 44 then serving && twin
    else if n < 48 then st != .quiesced && (upTo 4).any (fun k => bitOf (s.fld fSTK_CTRL_LINK_EN) (4 * (n - 44) + k))
    else if n < 64 then serving && (upTo 2).any (fun k =>
      if trim then (s.ethPort (2 * (n - 48) + k)).up else s.ethEnabled (2 * (n - 48) + k))
    else if n < 80 then st != .quiesced
    else if n < 84 then serving && eng (n - 80)
    else if n < 88 then st != .quiesced
    else if n < 90 then serving && twin
    else if n = 92 ∨ n = 95 then true
    else if n = 94 then st != .vault
    else serving
  on && !s.pwr.failed.contains n

/-- The live bits of TQM, EPO and RSV. -/
def State.liveData (s : State) (b : Nat) : Nat :=
  if b = rTQM_STATUS then flags [s.tqm.ready, s.shelfBad]
  else if b = rTQM_LPA_FREE then lpaShelves - s.shelvesUsed.length
  else if b = rTQM_LPA_RUN then s.lpaRun
  else if b = rTQM_OBJ_COUNT then (s.tqm.objs.filter (fun e => e.2.live)).length
  else if b = rEPO_STATUS then
    flags [s.epo.ready, decide (0 < s.reports),
      decide (s.fld fEPO_POOL_SIZE_SEGS - s.epo.used.length < s.fld fEPO_POOL_LOW_SEGS), s.soloShown, s.lagFull]
  else if b = rEPO_POOL_FREE then s.fld fEPO_POOL_SIZE_SEGS - s.epo.used.length
  else if b = rEPO_LAG_NOW then min 0xFFFFFF (ceilDiv s.lagBytes 1024)
  else if b = rEPO_RPT_COUNT then s.reports
  else if b = rRSV_STATUS then
    packed [(if s.isFull then 5 else s.rsv.stage, 0), (flags [s.rsv.overB, s.rsv.monBad, s.rsv.ph != .off, s.rsv.lastIncomplete], 3)]
  else if b = rRSV_E_NOW then s.rsv.eNow
  else if b = rRSV_P_NOW then s.rsv.pNow % 65536
  else if b = rRSV_T_AVAIL then s.rsv.tAvail % 65536
  else if b = rRSV_BUDGET then s.budgetNow
  else if b = rRSV_DIRTY then s.governed
  else if b = rRSV_FIXED then rsvFixed
  else if b = rRSV_STRANDED then s.stranded
  else if b = rRSV_LAST_VAULT then s.rsv.lastMs
  else if b = rRSV_LAST_FOLIOS then s.rsv.lastFolios
  else 0

/-- The live bits of FCH and STK. -/
def State.liveRoom (s : State) (b j : Nat) : Nat :=
  if b = rFCH_CTRL then s.fch.mode
  else if b = rFCH_STATUS then
    flags [s.fch.mode == 1 || s.fch.mode == 2, !s.fch.dead.isEmpty, s.pinPending, decide (4096 ≤ s.fch.evb.length),
      decide (8192 ≤ s.hazUsed), s.fch.refused]
  else if b = rFCH_SETS then s.fch.sets
  else if b = rFCH_EVB_USED then s.fch.evb.length
  else if b = rFCH_HAZ_USED then s.hazUsed
  else if b = rSTK_STATUS then
    bitsWhere 16 (fun n => (s.link n).st == 2) + bitsWhere 16 (fun n => (s.link n).st == 3 || (s.link n).st == 4) * 65536
  else if b = rSTK_FREE_TOTAL then s.freeTotal
  else if b = rSTK_LINK_STATE then packed [((s.link j).st, 0), ((s.link j).out.length, 3)]
  else if b = rSTK_LINK_FREE then s.sledFree j
  else 0

/-- The live bits of DMC channel `i` and of LPR. -/
def State.liveDram (s : State) (b i : Nat) : Nat :=
  if b = rDMC_STATUS then
    let c := s.ch i
    packed [(c.st, 0), (flags [c.tset, c.ref2x, c.hot, s.lpr.inord.any (fun k => bankChan k == i)], 3)]
  else if b = rDMC_SPEED then s.dmcSpeed i
  else if b = rDMC_THERM then ((s.ch i).temps.foldl max 0) % 256 * 65536
  else if b = rDMC_CMD then flags [false, (s.ch i).st == 4, (s.ch i).retrainNow]
  else if b = rLPR_STATUS then
    flags [s.lpr.ready, s.lpr.bistDone, s.lpr.bistFail, s.anyErasure (·.erased), s.anyErasure (·.critical), s.remapFullAny]
  else if b = rLPR_SCRUB then
    let all := s.chLines * s.nchan
    let done := s.lpr.scrubAt.foldl (fun a e => a + e.2) 0
    (if all = 0 then 0 else min 1000 (done * 1000 / all)) * 256
  else if b = rLPR_RAW_CMD then s.lpr.rawResult * 4
  else if b = rLPR_CMD then flags [false, s.lpr.bistRun]
  else if b = rLPR_INJ_CTRL then b2n s.lpr.armed * 2 ^ 31
  else 0

/-- The live bits of TVL port `i`, half `j` (R222). -/
def State.liveTvl (s : State) (b i j : Nat) : Nat :=
  let l := s.tvl_ (2 * i + j)
  let w : TvLink := { split := s.flag (fTVL_CTRL_SPLIT.plus (0x100000 * i)) }
  if b = rTVL_CAP then packed [(w.capPw, 0), (w.capRq, 13)]
  else if b = rTVL_CAP2 then packed [(w.capEv, 0), (w.capAt, 9)]
  else if b = rTVL_LINK then packed [(l.st, 0), (b2n l.holderSaid, 3), (b2n l.reversed, 4), (l.pol % 16, 5)]
  else if b = rTVL_PEER_UID_LO then l.uid % 2 ^ 32
  else if b = rTVL_PEER_UID_HI then l.uid / 2 ^ 32
  else if b = rTVL_PEER_CAP then packed [(l.peerRs, 0), (l.peerEv, 13)]
  else if b = rTVL_CRED_TX then packed [(l.credRs, 0), (l.credEv, 13)]
  else if b = rTVL_RX_FREE then packed [(l.crPw + l.heldPw, 0), (l.crRq + l.heldRq, 13), (l.crAt + l.heldAt, 25)]
  else if b = rTVL_SEQ then packed [(l.fseq, 0), (l.ackRx, 12)]
  else 0

/-- The live bits of NRE, ETH (MAC `i`), CIR and TWN. -/
def State.liveNet (s : State) (b i : Nat) : Nat :=
  if b = rNRE_STATUS then flags [s.nre.ready, s.ciFull, s.nre.ovf]
  else if b = rNRE_QP_LIVE then (s.nre.qps.filter (fun e => e.2.st != 0 && !e.2.circ)).length
  else if b = rNRE_CI_USED then s.nre.cards.length
  else if b = rNRE_ASYNC_PI then s.nre.ringAt % 256
  else if b = rETH_STATUS then
    bitsWhere 4 (fun k => (s.ethPort (4 * i + k)).up) + bitsWhere 4 (fun k => !(s.ethPort (4 * i + k)).wd.isEmpty) * 16
  else if b = rCIR_STATUS then
    bitsWhere 4 (fun e => bitOf (s.fld fCIR_CTRL_ENG_EN) e && s.domainOn (80 + e)) + b2n (s.cir.streams.any (fun e => e.2.late)) * 16
  else if b = rCIR_RUNNING then (s.cir.streams.filter (fun e => e.2.st == 2 || e.2.st == 3)).length
  else if b = rTWN_STATUS then
    packed [(s.twn.role.code, 0), (b2n s.twinActiveNow, 3), (s.twn.hbIn, 4), (flags [s.mayAct, s.twn.witnessOk, s.paired, s.twn.stale], 7)]
  else if b = rTWN_GEN then s.twn.gen
  else if b = rTWN_MSEQ_LO then (if s.twn.role = .active then s.lastMseq else s.twn.applied) % 2 ^ 32
  else if b = rTWN_MSEQ_HI then (if s.twn.role = .active then s.lastMseq else s.twn.applied) / 2 ^ 32
  else if b = rTWN_LAG then min 0xFFFFFF s.twn.sent.length
  else if b = rTWN_CHMAP_COUNT then ceilDiv s.twn.chmap.length 4
  else 0

/-- The live bits of BPM and INT. -/
def State.liveMid (s : State) (b j : Nat) : Nat :=
  if b = rBPM_STATUS then packed [(flags [s.bpm.ready, s.bpm.cfgErr], 0), (bitsWhere 4 s.poolEmpty, 2)]
  else if b = rBPM_POOL_FREE then s.poolFree j
  else if b = rBPM_POOL_SHARED then s.poolShared j
  else if b = rBPM_BADRET then packed [(s.bpm.badPtr % 2 ^ 27, 0), (s.bpm.badCause, 27)]
  else if b = rBPM_BADRET_OWNER then s.bpm.badOwner
  else if b = rINT_STATUS then bitsWhere 21 (fun t => (s.deliverable t).isSome)
  else if b = rINT_TGT_STATUS then packed [((s.activeAt j).length, 0), (s.running j, 4), (b2n (s.tgt j).signalled, 13)]
  else if b = rINT_SRC then
    let x := s.src j
    if j = 0 then 0 else packed [(flags [!levelClass j, s.srcPend j, x.active.isSome], 9), ((x.active.getD (x.offered.getD 0)), 12),
      (if levelClass j then 0 else x.cnt, 17)]
  else 0

/-- The live bits of SUP, PWR and CRU. -/
def State.livePower (s : State) (b j : Nat) : Nat :=
  if b = rSUP_STATUS then
    packed [(s.sup.seq, 0), (flags [s.sup.onLatched, s.sup.railFail, s.sup.dischFail, s.sup.supplyBad], 3)]
  else if b = rSUP_TICK then s.supTick
  else if b = rSUP_RAIL_STATE then packed [((s.rail j).st, 0), (flags [s.enLevel j, (s.rail j).pg], 3)]
  else if b = rSUP_MON_VAL then packed [((s.mon j).value, 0), (flags [(s.mon j).faulty, (s.mon j).alarm], 12)]
  else if b = rPWR_STATUS then packed [(s.pwr.st.code, 0), (b2n (s.pwr.changing || s.sup.offAfter), 3)]
  else if b = rPWR_DOMAIN_ON0 then bitsWhere 32 s.domainOn
  else if b = rPWR_DOMAIN_ON1 then bitsWhere 32 (fun n => s.domainOn (32 + n))
  else if b = rPWR_DOMAIN_ON2 then bitsWhere 32 (fun n => s.domainOn (64 + n))
  else if b = rPWR_K then s.pwr.k
  else if b = rPWR_P_CHIP then s.pwr.pChip % 65536
  else if b = rCRU_STATUS then packed [(s.cru.refOk, 0), (s.cru.pllLock, 4), (flags [s.cru.xtalOk, s.cru.unclean], 9)]
  else if b = rCRU_RST_CAUSE then packed [(s.cru.kind, 0), (flags [s.cru.kept, s.cru.afterVault], 4), (s.cru.wdt, 6)]
  else if b = rCRU_START then packed [(s.cru.step, 0), (b2n s.cru.failed, 4)]
  else if b = rCRU_START_MS then s.cru.startMs % 65536
  else 0

/-- The live bits of RGC, EFL and DBK. -/
def State.liveBoot (s : State) (b : Nat) : Nat :=
  if b = rRGC_STATUS then flags [s.rgc.ready, s.rgc.noImage, s.rgc.halted, s.efl.ptrBank == 1, s.rgc.confirmed]
  else if b = rRGC_IMAGE then packed [(s.rgc.copy, 0), (flags [s.rgc.sealA, s.rgc.sealB], 1), (s.rgc.cause, 3)]
  else if b = rRGC_IMAGE_SEQ then s.rgc.seq
  else if b = rRGC_IMAGE_FLOOR then s.rgc.floor
  else if b = rRGC_FW_VER then s.rgc.fwVer
  else if b = rRGC_MB_STATUS then packed [(bitsWhere 16 (s.rgc.done.contains ·), 0), (b2n s.rgc.restarted, 16)]
  else if b = rEFL_STATUS then
    flags [s.efl.ready, s.efl.op0 != .none, s.efl.op1 != .none, s.efl.susp.isSome, !s.efl.suspect.isEmpty]
  else if b = rEFL_SUSPECT_COUNT then s.efl.suspect.length
  else if b = rEFL_LAST_SUSPECT then s.efl.lastSuspect
  else if b = rEFL_FW_PTR then packed [(s.efl.ptrBank, 0), (s.efl.ptrCount % 2 ^ 24, 8)]
  else if b = rDBK_HEAD then s.dbk.head
  else if b = rDBK_SEQ_LO then s.dbk.seq % 2 ^ 32
  else if b = rDBK_SEQ_HI then s.dbk.seqHi
  else if b = rDBK_QUEUE then s.dbk.queue.length
  else if b = rDBK_WIN_STATUS then (s.dbkStatus (s.fld fDBK_CURSOR_SLOT)).toNat
  else 0

/-- Word `i` of SEC_CHAL. -/
def State.chalWord (s : State) (i : Nat) : Nat := packed ((upTo 4).map (fun k => (s.sec.chalRegs.getD (4 * i + k) 0, 8 * k)))

/-- The live bits of SEC, KCE, SBB, DFT and TOP. -/
def State.liveGuard (s : State) (b j : Nat) : Nat :=
  let l := s.lane s.lsel
  let f := s.sec.fuse
  if b = rSEC_STATUS then
    packed [(s.lifecycle, 0), (s.sec.level, 2), (flags [f.owned == some 1, s.sec.seedBad,
      f.owned.isNone && f.seedA.isSome && f.seedB.isSome, s.sec.lockout, s.chalValid], 4)]
  else if b = rSEC_UNLOCK then flags [s.sec.submitted.isSome, false, !s.cipherOn] * 512
  else if b = rSEC_PROVISION then packed [(b2n s.sec.burning.isSome, 0), (s.sec.provResult, 4)]
  else if rSEC_CHAL0 ≤ b ∧ b ≤ rSEC_CHAL0 + 12 then s.chalWord ((b - rSEC_CHAL0) / 4)
  else if b = rKCE_STATUS then
    packed [(b2n s.sec.kReady, 0), (s.sec.kQueue.length, 1), (flags [s.sec.kSusp.isSome, decide (64 ≤ s.sec.kQueue.length)], 8)]
  else if b = rKCE_SLOT_VALID then s.slotValid
  else if b = rSBB_STATUS then bitsWhere 4 (fun n => (s.sbCh n).st == 5) + bitsWhere 4 (fun n => (s.sbCh n).st == 3) * 16
  else if b = rSBB_CH_STATE then
    let c := s.sbCh j
    packed [(c.st, 0), (flags [c.scl, c.sda], 3), (c.lastAttn, 5)]
  else if b = rDFT_LANE_CTRL then packed [(l.gen, 0), (l.chk, 3), (l.loop, 6)]
  else if b = rDFT_LANE_STATUS then flags [l.test, l.lock, l.inverted, l.refused]
  else if b = rDFT_DRAM_CTRL then flags [s.dft.run.isSome, s.dft.done] * 64
  else if b = rDFT_DRAM_RES then packed [(s.dft.missed, 0), (s.dft.false_, 16)]
  else if b = rTOP_ID then 0x14B31
  else if b = rTOP_UID_LO then s.sec.fuse.uid.toNat % 2 ^ 32
  else if b = rTOP_UID_HI then s.sec.fuse.uid.toNat / 2 ^ 32
  else if b = rTOP_ROM_REV then s.sec.fuse.romRev
  else if b = rTOP_STRAP then packed [(s.top.bootSel, 0), (b2n s.top.vio33, 2)]
  else if b = rTOP_VCORE then s.sec.fuse.mv
  else 0

/-- The bits of a register that show state: `b` is its first instance, `i` and `j` the instance read. -/
def State.liveBits (s : State) (b i j : Nat) : Nat :=
  let w := winOf b
  if w = 0x0E ∨ w = 0x0B ∨ w = 0x0C then s.liveData b
  else if w = 0x0D ∨ w = 0x0F then s.liveRoom b j
  else if w = 0x10 ∨ w = 0x20 then s.liveDram b i
  else if w = 0x21 then s.liveTvl b i j
  else if w = 0x31 ∨ w = 0x32 ∨ w = 0x3A ∨ w = 0x3B then s.liveNet b i
  else if w = 0x0A ∨ w = 0x04 then s.liveMid b j
  else if 1 ≤ w ∧ w ≤ 3 then s.livePower b j
  else if w = 6 ∨ w = 7 then s.liveBoot b
  else s.liveGuard b j

/-! ### Reads -/

/-- RW bits that the register file does not hold: FCH_CTRL.MODE (R141) and the fields of the selected lane. -/
def rwHeld (d : RegDef) : Nat :=
  if d.addr = rFCH_CTRL then d.rw - d.rw % 4 else if d.addr = rDFT_LANE_CTRL then d.rw - d.rw % 256 else d.rw

/-- A register's value without a side effect (R497): what was written, what the last SNAP copied, what its block shows. DMC_POP is the
same in every DMC (R167). -/
def State.regValue (s : State) (a : Nat) : Nat :=
  match regDefAt a with
  | none => 0
  | some d =>
    let (i, j) := d.inst a
    let file := (s.reg (if d.addr = rDMC_POP then rDMC_POP else a)).toNat &&& (rwHeld d ||| (if seedReg d.addr then 0 else d.img))
    let copy := (Tab.get (fun _ => (0 : W32)) s.sh a).toNat &&& d.sh
    (file ||| copy ||| s.liveBits d.addr i j) % 2 ^ 32

/-- A word of a mailbox slot (R419). -/
def State.slotWord_ (s : State) (a : Nat) : Nat :=
  let x := s.slot ((a - 0x701000) / 256)
  let i := a % 256 / 4
  if i < 60 then (Tab.get (fun _ => (0 : W32)) x.words i).toNat
  else if i = 60 then packed [(x.st, 0), (x.result, 8), (x.reason, 16), (x.rlen, 20)]
  else 0

/-- Registers that hold an IADDR (R499), one for each requester path. -/
def iaddrReg (a : Nat) : Bool :=
  [rTQM_IADDR, rEPO_IADDR, rRSV_IADDR, rFCH_IADDR, rSTK_IADDR, rLPR_IADDR, rNRE_IADDR, rCIR_IADDR, rTWN_IADDR, rBPM_IADDR,
    rPWR_IADDR, rRGC_IADDR, rDFT_IADDR, rLANE_IADDR].contains a
  || (decide (0x10 ≤ winOf a ∧ winOf a < 0x20) && a % 0x100000 == rDMC_IADDR % 0x100000)

/-- Registers that are an IDATA: each follows its IADDR. -/
def idataReg (a : Nat) : Bool := decide (4 ≤ a) && iaddrReg (a - 4)

/-- IADDR of a path: 0 management endpoint, 1 registrar, 2 JTAG. -/
def State.iaddrOf (s : State) (a path : Nat) : Nat := (Tab.get (fun _ => (0 : W32)) s.iaddr (a * 4 + path)).toNat
def State.setIaddr (s : State) (a path v : Nat) : State :=
  { s with iaddr := Tab.set (fun _ => (0 : W32)) s.iaddr (a * 4 + path) (BitVec.ofNat 32 v) }

/-- DBK_WIN0 to DBK_WIN15. -/
def dbkWinReg (a : Nat) : Bool := decide (rDBK_WIN ≤ a ∧ a < rDBK_WIN + 64)

end Sys2Proof.Machine
end

