-- ==== Sys2Proof/Machine/Indirect.lean ====
section
/-! DEFINITION. The indirect spaces (R499, R500): the word at an address of each block's space. -/

namespace Sys2Proof.Machine

/-- 32 bits of a number: word `w`. -/
def wordN (v w : Nat) : Nat := bitsOf v (32 * w + 31) (32 * w)

/-- Word `i` of little-endian bytes; bytes beyond them are 0. -/
def wordAt (l : List Byte) (i : Nat) : Nat := leNat ((l.drop (4 * i)).take 4)

/-- Words of a tenant record (TQM indirect space); tenant 0xFFF has none (R22). -/
def State.tenantWord (s : State) (t w : Nat) : Nat :=
  if t = 0xFFF then 0
  else
    let r := s.tenant t
    [packed [(flags [r.valid, r.suspend], 0), (r.evt, 2)], r.pinLim, r.pinUse, r.cacheLim, r.cacheUse, r.stkLim, r.stkUse, r.deskLim,
      ceilDiv r.deskUse 1024, r.accLim, r.accUse, r.cirLim, r.cirUse, packed [(r.refusals, 0), (r.lastReason, 12)]].getD w 0

/-- Words of the grant table. -/
def State.grantWord (s : State) (n w : Nat) : Nat :=
  let g := s.grant n
  if w = 0 then g.handle % 2 ^ 32
  else packed [(g.handle / 2 ^ 32 % 65536, 0), (g.grantee, 16), (flags [g.r, g.w, g.a, g.valid], 28)]

/-- Words of a window: the manual names its fields (R35) and not their places. -/
def State.windowWord (s : State) (n w : Nat) : Nat :=
  let x := s.window n
  (Config.recordWord 0 w [b2n x.valid, x.tenant, x.host, x.handle, x.off, x.len, x.base, b2n x.r, b2n x.w, b2n x.a, x.tag]).toNat

/-- TQM indirect space. -/
def State.tqmInd (s : State) (x : Nat) : Nat :=
  if x < 0x40000 then s.tenantWord (x / 0x40) (x % 0x40 / 4)
  else if 0x100000 ≤ x ∧ x < 0x120000 then s.grantWord ((x - 0x100000) / 8) (x % 8 / 4)
  else if 0x200000 ≤ x ∧ x < 0x2200000 then s.windowWord ((x - 0x200000) / 0x20) (x % 0x20 / 4)
  else 0

/-- EPO indirect space. -/
def State.epoInd (s : State) (x : Nat) : Nat :=
  if x < 0x10000000 then (s.stream (x / 0x80)).word (x % 0x80 / 4)
  else if x < 0x10000000 + 4096 * 16 then
    let e := (s.segEntries (s.fld fEPO_ISEG_SEG)).getD ((x - 0x10000000) / 16) 0
    wordN e.toNat (x % 16 / 4)
  else 0

/-- RSV indirect space. -/
def State.rsvInd (s : State) (x : Nat) : Nat :=
  if x < 0x80 then (if x % 8 / 4 = 0 then s.sledBudget (x / 8) else s.sledCount (x / 8))
  else if 0x10000 ≤ x ∧ x < 0x10000 + lpaShelves / 8 then
    let n := (x - 0x10000) / 4
    bitsWhere 32 (fun i => s.rsv.dirtyMap.contains (32 * n + i))
  else 0

/-- Word `w` of the set record of a set (R117). -/
def State.setWord (s : State) (set w : Nat) : Nat :=
  let y := s.way (set * 16 + w / 2)
  wordN (y.word y.age (if w / 2 = 0 then s.pinRsv set else 0)) (w % 2)

/-- FCH indirect space. -/
def State.fchInd (s : State) (x : Nat) : Nat :=
  if x < 0x80 then s.setWord (s.fld fFCH_ISET_SET) (x / 4)
  else if 0x10000000 ≤ x ∧ x < 0x10000000 + 8192 * 16 then
    match s.fch.fills[(x - 0x10000000) / 16]? with
    | some f =>
      let w := x % 16 / 4
      if w = 0 then f.folio % 2 ^ 32
      else if w = 1 then packed [(f.folio / 2 ^ 32 % 512, 0), (1, 9), (f.way.getD 0 % 16, 10)]
      else if w = 2 then f.reqs.length
      else 0
    | none => 0
  else 0

/-- STK indirect space: the last STATUS payload of a sled (R151). -/
def State.stkInd (s : State) (x : Nat) : Nat :=
  if x < 0x400 then
    let l := s.link (x / 0x40)
    match x % 0x40 / 4 with
    | 0 => l.uid % 2 ^ 32
    | 1 => l.uid / 2 ^ 32
    | 2 => l.shelves
    | 3 => packed [(l.maxOut, 0), (l.sealRate, 16)]
    | 4 => l.sledSt
    | 6 => l.mediaErr % 2 ^ 32
    | 7 => l.mediaErr / 2 ^ 32
    | _ => 0
  else 0

/-- LPR indirect space. -/
def State.lprInd (s : State) (x : Nat) : Nat :=
  if x < 0x800 then
    let e := Tab.get (fun _ => ({} : Erasure)) s.lpr.erasure (x / 4)
    packed [(e.dev, 0), (flags [e.erased, e.critical], 5)]
  else if 0x10000 ≤ x ∧ x < 0x10000 + 16 * 32 * 20 * 4 then Tab.get (fun _ => 0) s.lpr.corr ((x - 0x10000) / 4)
  else if 0x20000 ≤ x ∧ x < 0x22000 then
    let r := Tab.get (fun _ => ({} : Remap)) s.lpr.remap ((x - 0x20000) / 8)
    if x % 8 / 4 = 0 then r.l % 2 ^ 32
    else packed [(r.l / 2 ^ 32 % 2, 0), (r.spare, 1), (flags [r.valid, r.persisted], 8)]
  else if 0x30000 ≤ x ∧ x < 0x30200 then
    let n := (x - 0x30000) / 8
    let k := s.lpr.ring.length
    match (upTo k).find? (fun i => (s.lpr.ringAt - k + i) % 64 == n) with
    | some i =>
      let e := s.lpr.ring.getD i (0, false)
      if x % 8 / 4 = 0 then e.1 % 2 ^ 32 else packed [(e.1 / 2 ^ 32 % 32, 0), (b2n e.2, 5)]
    | none => 0
  else if 0x40000 ≤ x ∧ x < 0x40088 then
    let w := (x - 0x40000) / 4
    if w < 32 then wordN s.lpr.rawData.toNat w else wordN s.lpr.rawTag.toNat (w - 32)
  else 0

/-- The raw buffer (R207). -/
def rawBuffer (x : Nat) : Bool := decide (0x40000 ≤ x ∧ x < 0x40088)

/-- Writes a word of the raw buffer. -/
def State.rawWord (s : State) (x v : Nat) : State :=
  let w := (x - 0x40000) / 4
  if w < 32 then
    { s with lpr := { s.lpr with rawData := BitVec.ofNat 1024 (setBits s.lpr.rawData.toNat (32 * w + 31) (32 * w) v) } }
  else
    let k := w - 32
    { s with lpr := { s.lpr with rawTag := BitVec.ofNat 64 (setBits s.lpr.rawTag.toNat (32 * k + 31) (32 * k) v) } }

/-- Words 5 to 127 of a queue-pair context, internal (R464). -/
def qpInner (x : Nat) : Bool := decide (x < 0x40000000) && decide (20 ≤ x % 0x200)

/-- Words of a queue-pair context; what the internal ones hold is not the manual's to say. -/
def State.qpWord (s : State) (q w : Nat) : Nat :=
  let c := Tab.get (fun _ => ({} : Qp)) s.nre.qps q
  match w with
  | 0 => packed [(c.st, 0), (flags [s.nre.cards.any (fun e => e.1 == q), c.stall, c.circ], 2)]
  | 1 => c.epsn
  | 2 => c.dest
  | 3 => packed [(c.host, 0), (c.pmtu, 12)]
  | 4 => c.msn
  | _ => (Config.recordWord 1 w [q, c.st, c.epsn, c.dest, c.host, c.pmtu, c.msn]).toNat

/-- NRE indirect space. -/
def State.nreInd (s : State) (x : Nat) : Nat :=
  if x < 0x40000000 then s.qpWord (x / 0x200) (x % 0x200 / 4)
  else if x < 0x40000000 + 4096 * 0x20 then
    let v := Tab.get (fun _ => 0) s.nre.hosts ((x - 0x40000000) / 0x20)
    let w := x % 0x20 / 4
    if v = 0 then 0 else if w < 4 then wordN (v - 1) w else if w = 4 then 1 else 0
  else if 0x50000000 ≤ x ∧ x < 0x50000800 then
    let a := Tab.get (fun _ => ({} : NetAddr)) s.nre.addrs ((x - 0x50000000) / 0x20)
    let w := x % 0x20 / 4
    if w < 4 then wordN a.addr w else if w = 4 then flags [a.valid, a.floating] else if w = 5 then a.mask else 0
  else if 0x60000000 ≤ x ∧ x < 0x60001000 then
    wordN (Tab.get (fun _ => (0 : BitVec 128)) s.nre.ring ((x - 0x60000000) / 16)).toNat (x % 16 / 4)
  else 0

/-- The reader reaches the async event record at an address (R292). -/
def State.ringRead (s : State) (x : Nat) : State :=
  if 0x60000000 ≤ x ∧ x < 0x60001000 then
    let n := (x - 0x60000000) / 16
    match (upTo (s.nre.ringAt - s.nre.ringSeen)).find? (fun i => (s.nre.ringSeen + i) % 256 == n) with
    | some i => { s with nre := { s.nre with ringSeen := s.nre.ringSeen + i + 1 } }
    | none => s
  else s

/-- TWN indirect space. -/
def State.twnInd (s : State) (x : Nat) : Nat :=
  if x < 0x40000000 then bitsWhere 32 (fun i => s.twn.chmap.contains (x / 4 * 32 + i))
  else if x < 0x40000040 then
    let b := s.rgc.witnesses.getD (x % 0x40 / 0x20) []
    let w := x % 0x20 / 4
    if w < 4 then wordAt b w else if w = 4 then b2n (b.any (· != 0)) else 0
  else if 0x50000000 ≤ x ∧ x < 0x50000020 then s.twn.lastHello.getD (x % 0x20 / 4) 0 % 2 ^ 32
  else 0

/-- CIR indirect space. -/
def State.cirInd (s : State) (x : Nat) : Nat :=
  if x < 0x2000 then
    let c := Tab.get (fun _ => ({} : CirStream)) s.cir.streams (x / 0x20)
    match x % 0x20 / 4 with
    | 0 => packed [(c.st, 0), (flags [c.late, c.rep], 3), (c.sched, 5), (c.tenant, 13)]
    | 1 => packed [(c.host, 0), (c.depth, 12), (c.ahead, 19)]
    | 2 => packed [(c.rate, 0), (c.dscp, 12)]
    | 3 => c.entry
    | 4 => c.sendN % 2 ^ 32
    | 5 => c.sendN / 2 ^ 32
    | 6 => c.freed % 2 ^ 32
    | _ => c.freed / 2 ^ 32
  else if 0x10000000 ≤ x ∧ x < 0x10000000 + 256 * 4096 * 16 then
    let k := (x - 0x10000000) / 16
    let y := Tab.get (fun _ => ({} : Sched)) s.cir.scheds (k / 4096)
    match y.entries[k % 4096]? with
    | some e => wordN (packed [(e.1, 0), (e.2.1, 64), (e.2.2, 101)]) (x % 16 / 4)
    | none => 0
  else if 0x20000000 ≤ x ∧ x < 0x20000800 then
    let n := (x - 0x20000000) / 8
    let y := Tab.get (fun _ => ({} : Sched)) s.cir.scheds n
    if x % 8 / 4 = 0 then packed [(y.entries.length, 0), (y.tenant, 13), (b2n y.valid, 25)] else s.schedUsers n
  else 0

/-- BPM indirect space. -/
def State.bpmInd (s : State) (x : Nat) : Nat :=
  if x < ownerCount * 0x20 then
    let w := x % 0x20 / 4
    if w < 4 then s.ownerMin (x / 0x20) w else s.inUse (x / 0x20) (w - 4)
  else 0

/-- PWR indirect space: reading word 0 of a meter latches its word 1 (R391). -/
def State.pwrInd (s : State) (x : Nat) : State × Nat :=
  if x < 0x8000 then
    if x % 8 / 4 = 0 then
      let v := Tab.get (fun _ => 0) s.pwr.meter (x / 8)
      ({ s with pwr := { s.pwr with latch := v / 2 ^ 32 % 2 ^ 32 } }, v % 2 ^ 32)
    else (s, s.pwr.latch)
  else if 0x10000 ≤ x ∧ x < 0x1001C then (s, (Config.energyCoef ((x - 0x10000) / 4)).toNat)
  else if 0x20000 ≤ x ∧ x < 0x20040 then (s, (Config.railPair ((x - 0x20000) / 8) (x % 8 / 4)).toNat)
  else (s, 0)

/-- DFT indirect space. -/
def State.dftInd (s : State) (x : Nat) : Nat :=
  if x < 130 * 16 then
    let c := Tab.get (fun _ => ({} : DftCopy)) s.dft.copies (x / 16)
    match x % 16 / 4 with
    | 0 => c.errs
    | 1 => c.bits % 2 ^ 32
    | 2 => c.bits / 2 ^ 32
    | _ => c.losses
  else if 0x1000 ≤ x ∧ x < 0x1000 + 80 * 4 then Tab.get (fun _ => 0) s.dft.dq ((x - 0x1000) / 4)
  else 0

/-- POL_INV of a lane: what its link found at training (R211). -/
def State.lanePol (s : State) (n : Nat) : Bool :=
  if n < 64 then bitOf (s.tvl_ (2 * (n / 4) + (if (s.tvl_ (2 * (n / 4))).split then n % 4 / 2 else 0))).pol
      (if (s.tvl_ (2 * (n / 4))).split then n % 2 else n % 4)
  else if 96 ≤ n ∧ n < 112 then bitOf (s.tvl_ twinLk).pol (n - 96)
  else false

/-- LANE space (R503): the levels on a lane and its eye are not the manual's to say, nor what training sets. -/
def State.laneInd (s : State) (x : Nat) : State × Nat :=
  let n := x / 0x40
  if n ≥ 130 then (s, 0)
  else
    let p := Tab.get (fun _ => ((none, none) : Option Nat × Option Nat)) s.dft.phy n
    let f := (Config.freeWord s.freeCtr).toNat
    match x % 0x40 / 4 with
    | 0 => (s.tickFree, packed [(f % 8, 0), (flags [s.lanePol n, (s.lane n).test], 3)])
    | 1 => match p.1 with
      | some v => (s, v)
      | none => ((s.tickFree).setPhy n (some (f % 2 ^ 24)) p.2, f % 2 ^ 24)
    | 2 => match p.2 with
      | some v => (s, v)
      | none => ((s.tickFree).setPhy n p.1 (some (f % 2 ^ 16)), f % 2 ^ 16)
    | 3 => (s.tickFree, f % 2 ^ 16)
    | _ => (s, 0)

/-- The word at an address of an indirect space, with the effect of reading it. `a` is the IADDR register. -/
def State.indAt (s : State) (a x : Nat) : State × Nat :=
  if a = rTQM_IADDR then (s, s.tqmInd x)
  else if a = rEPO_IADDR then (s, s.epoInd x)
  else if a = rRSV_IADDR then (s, s.rsvInd x)
  else if a = rFCH_IADDR then (s, s.fchInd x)
  else if a = rSTK_IADDR then (s, s.stkInd x)
  else if a = rLPR_IADDR then (s, s.lprInd x)
  else if a = rNRE_IADDR then (s.ringRead x, s.nreInd x)
  else if a = rTWN_IADDR then (s, s.twnInd x)
  else if a = rCIR_IADDR then (s, s.cirInd x)
  else if a = rBPM_IADDR then (s, s.bpmInd x)
  else if a = rPWR_IADDR then s.pwrInd x
  else if a = rRGC_IADDR then (s, if x < 64 then wordAt s.rgc.header (x / 4) else 0)
  else if a = rDFT_IADDR then (s, s.dftInd x)
  else if a = rLANE_IADDR then s.laneInd x
  else (s, (((s.ch (winOf a - 0x10)).results ++ (s.ch (winOf a - 0x10)).results2).getD (x / 4) 0).toNat)

/-- IDATA moves the path's own IADDR on by 4, whatever the access came to (R499). -/
def State.iaddrNext (s : State) (a path : Nat) : State := s.setIaddr a path (s.iaddrOf a path + 4)

/-- A read of IDATA: `a` is its IADDR register. Below Open the raw buffer and the internal words of a context read 0 on the host's
and JTAG's paths (R464). -/
def State.indRead (s : State) (a path : Nat) : State × Nat :=
  let x := s.iaddrOf a path / 4 * 4
  let shut := path != 1 && s.sec.level != 2
  let s1 := s.iaddrNext a path
  if shut ∧ ((a = rLPR_IADDR ∧ rawBuffer x) ∨ (a = rNRE_IADDR ∧ qpInner x)) then (s1.secDenied, 0)
  else
    let r := s1.indAt a x
    (r.1, r.2 % 2 ^ 32)

/-- A write of IDATA: only the raw buffer, and at Open the lane settings, take one (R500, R503). -/
def State.indWrite (s : State) (a path v : Nat) : State :=
  let x := s.iaddrOf a path / 4 * 4
  let shut := path != 1 && s.sec.level != 2
  let s1 := s.iaddrNext a path
  if a = rLPR_IADDR ∧ rawBuffer x then (if shut then s1.secDenied else s1.rawWord x v)
  else if a = rLANE_IADDR ∧ x / 0x40 < 130 ∧ (x % 0x40 = 4 ∨ x % 0x40 = 8) then
    if s.sec.level ≠ 2 then s1.secDenied
    else
      let p := Tab.get (fun _ => ((none, none) : Option Nat × Option Nat)) s.dft.phy (x / 0x40)
      if x % 0x40 = 4 then s1.setPhy (x / 0x40) (some (v % 2 ^ 24)) p.2 else s1.setPhy (x / 0x40) p.1 (some (v % 2 ^ 16))
  else s1

end Sys2Proof.Machine
end

