-- ==== Sys2Proof/Machine/IntRows.lean ====
section
/-! DEFINITION. The commands of INT (R359 to R369): claims, completions, software sets, masks, MSI-X. -/

namespace Sys2Proof.Machine

/-- A completion (R367): the source ends being active at the target, or the completion is a stray. -/
def State.complete (s : State) (t n : Nat) : State :=
  if (s.src n).active = some t then s.srcDone n
  else
    let s1 := s.bump rINT_CNT_STRAY
    if s1.flag fINT_CTRL_MODE then s1.raise 0x07C else s1

/-- EVENT_DONE (R241, R252, R361): completes the source at the port target of the link, as a write of INT_COMPLETE. A
malformed one, or one on a link told HOLDER = 0, is discarded and counted (R234, R238). -/
def execEventDone (lk : Nat) (hdr : BitVec 128) (s : State) : Host.Outcome State Fault Refusal :=
  finish (if lk ≥ 32 ∨ ((s.tvl_ lk).st ≠ 4 ∧ !s.tvBuffered lk hdr) then s
    else
      let fmt := tvShape hdr 3 1 false 0x70 && zeroBits hdr 127 28
      let drop := (rTVL_CNT_DISCARD + 0x100000 * (lk / 2) + 0x80 * (lk % 2))
      if !fmt ∨ !(s.tvl_ lk).holderSaid then ((s.tvLeave lk hdr).bump drop)
      else (s.tvLeave lk hdr).complete (5 + lk / 2) (hTag hdr))

/-- The value INT_CLAIM returns (R366). -/
def claimWord (r : Option (Nat × Nat × Nat)) (signalled : Bool) : Nat :=
  match r with
  | some (n, c, p) => n + c * 2 ^ 12 + p * 2 ^ 24
  | none => if signalled then 0xFFF else 0

/-- A read of INT_CLAIM (R366): targets 5 to 20 read 0. -/
def State.claimRead (s : State) (t : Nat) : State × Nat :=
  if t ≥ 5 then (s, 0)
  else
    let sig := (s.tgt t).signalled
    let (s1, r) := s.claim t
    ((if r.isNone ∧ sig then s1.bump rINT_CNT_SPURIOUS else s1), claimWord r sig)

/-- INT_CLAIM. -/
def execIntClaim (t : Nat) (s : State) : Host.Outcome State Fault Refusal :=
  let p := s.claimRead t
  finish (p.1.emit (.readData "INT_CLAIM" p.2))

/-- INT_COMPLETE. -/
def State.completeAt (s : State) (t n : Nat) : State :=
  if t < 21 then s.complete t n else s

/-- IntComplete. -/
def execIntComplete (t n : Nat) (s : State) : Host.Outcome State Fault Refusal := finish (s.completeAt t n)

/-- A write of INT_SWSET (R363): a Level source's software flag, a Count source's counter. -/
def State.swset (s : State) (n : Nat) : State :=
  if !srcSettable n then s
  else if levelClass n then s.setSrc n { s.src n with sw := true }
  else s.raise n

/-- INT_SWSET. -/
def execIntSwset (n : Nat) (s : State) : Host.Outcome State Fault Refusal := finish (s.swset n)

/-- A write of INT_SRC or INT_SRC_TGT (R363, R369): source 0x000 has none. -/
def State.srcWrite (s : State) (n : Nat) (tgtSet : Bool) (value : Nat) : State :=
  if n = 0 ∨ n > 0x480 then s
  else if tgtSet then s.setFld (fINT_SRC_TGT_TGT_EN.plus (8 * n)) value
  else s.setReg (rINT_SRC + 8 * n) (BitVec.ofNat 32 (value % 512))

/-- INT_SRC_WRITE. -/
def execIntSrcWrite (n : Nat) (tgtSet : Bool) (value : Nat) (s : State) : Host.Outcome State Fault Refusal :=
  finish (s.srcWrite n tgtSet value)

/-- A vector's mask bit is written (R362): a message held in the pending-bit array is sent when it is unmasked and
MSI-X is enabled. -/
def State.vecWrite (s : State) (t : Nat) (mask : Bool) : State :=
  let g := s.tgt t
  if !mask ∧ g.pba ∧ s.int.msixEn then
    (s.setTgt t { g with vecMask := mask, pba := false, signalled := true }).emit (.msix (t - 1))
  else s.setTgt t { g with vecMask := mask }

/-- MSIX_CONTROL_WRITE: the endpoint's MSI-X enable and the two vectors' mask bits (R362, R492). -/
def execMsixControlWrite (enable mask0 mask1 : Bool) (s : State) : Host.Outcome State Fault Refusal :=
  finish ((({ s with int := { s.int with msixEn := enable } }).vecWrite 1 mask0).vecWrite 2 mask1)

end Sys2Proof.Machine
end

