-- ==== Sys2Proof/Machine/RegWrite.lean ====
section
/-! DEFINITION. Accesses to the register map (R418, R493 to R501): which bits a write changes, what it sets going, what a read
answers and does. Paths: 0 management endpoint, 1 registrar, 2 JTAG DBG_ACCESS; SBT uses 3. -/

namespace Sys2Proof.Machine

/-! ### SNAP (R501) -/

/-- The counters that the model does not keep, since it leaves out the scheduling they count: what DMC shows of them is free. -/
def dmcFree : List Nat := [rDMC_CNT_READ, rDMC_CNT_WRITE, rDMC_CNT_ROWHIT, rDMC_CNT_STARVE]

/-- Copies the live counters of a window. -/
def State.copyCounts (s : State) (w : Nat) : State :=
  let live := s.cnt.filter (fun e => winOf e.1 == w)
  { s with sh := live.foldl (fun t e => Tab.set (fun _ => (0 : W32)) t e.1 e.2) (Tab.drop (fun k => winOf k == w) s.sh) }

/-- Sets an SH copy. -/
def State.setCopy (s : State) (a : Nat) (v : W32) : State := { s with sh := Tab.set (fun _ => (0 : W32)) s.sh a v }

/-- SNAP of the block in a window, with the side effects its chapter gives (R292, R486). -/
def State.snap (s : State) (w : Nat) : State :=
  let s1 := s.copyCounts w
  if 0x10 ≤ w ∧ w < 0x20 then
    dmcFree.foldl (fun s a => (s.setCopy (a + 0x100000 * (w - 0x10)) (Config.freeWord s.freeCtr)).tickFree) s1
  else if w = 0x31 then { s1 with nre := { s1.nre with ovf := false } }
  else if w = 9 then s1.dftSnap
  else s1

/-! ### Domains that are off (R498) -/

/-- Domains of the block in a window, any one of which carries out its commands; none listed is on whenever the core is. -/
def cmdDomains (w : Nat) (scrub : Bool) : List Nat :=
  if w = 0x0D then (upTo 8).map (64 + ·)
  else if w = 0x0F then (upTo 4).map (44 + ·)
  else if 0x10 ≤ w ∧ w < 0x20 then [w - 0x10]
  else if w = 0x20 then (if scrub then [91] else [])
  else if 0x21 ≤ w ∧ w < 0x31 then [16 + (w - 0x21)]
  else if w = 0x31 then (upTo 16).map (48 + ·)
  else if 0x32 ≤ w ∧ w < 0x3A then [32 + (w - 0x32)]
  else if w = 0x3A then [88]
  else if w = 0x3B then (upTo 4).map (80 + ·)
  else if w = 0x0B then (upTo 4).map (84 + ·)
  else if w = 0x0A then (upTo 8).map (72 + ·)
  else []

/-- The domain of a command is off in Trimmed or Quiesced. -/
def State.cmdOff (s : State) (w : Nat) (scrub : Bool) : Bool :=
  (s.pwr.st == .trimmed || s.pwr.st == .quiesced) && !(cmdDomains w scrub).isEmpty && !(cmdDomains w scrub).any s.domainOn

/-- Runs an SC command, or ignores and counts it while its domain is off. -/
def State.cmd (s : State) (w : Nat) (scrub go : Bool) (f : State → State) : State :=
  if !go then s else if s.cmdOff w scrub then s.bumpFld fTOP_CNT_ACCESS_OFF else f s

/-! ### RW fields (R418, R190) -/

/-- A timing register of a DMC, and whether it is one of the active set. -/
def State.timActive (s : State) (a : Nat) : Bool :=
  let w := winOf a
  let o := a % 0x10000
  decide (0x10 ≤ w ∧ w < 0x20)
    && ((decide (0x100 ≤ o ∧ o ≤ 0x110) && !(s.ch (w - 0x10)).tset) || (decide (0x120 ≤ o ∧ o ≤ 0x130) && (s.ch (w - 0x10)).tset))

/-- Bits of a register that the management host may not change: Image fields that are not live, outside SUP. -/
def RegDef.locked (d : RegDef) : Nat := if winOf d.addr = 1 then 0 else d.img - (d.img &&& d.live)

/-- What the locked bits of a register hold: SEC_SEED reads 0 and holds the seed that a provisioning image wrote (R461). -/
def State.lockedHolds (s : State) (d : RegDef) (a : Nat) : Nat :=
  if seedReg d.addr then
    packed ((upTo 4).map (fun k => ((s.sec.seed.getD []).getD (a - rSEC_SEED0 + k) 0, 8 * k)))
  else s.regValue a &&& d.locked

/-- The RW bits of a register take what a write carries. -/
def State.writeFields (s : State) (path : Nat) (d : RegDef) (a v : Nat) : State :=
  let may := if path = 1 ∨ path = 2 then d.rw else d.rw - (d.rw &&& d.locked)
  let mask := if s.timActive a then 0 else may &&& rwHeld d
  let old := (s.reg a).toNat
  let lower := if d.addr = rRSV_HARD_CAP then min old v else v
  let s1 := if mask = 0 then s else s.setReg a (BitVec.ofNat 32 ((old - (old &&& mask)) + (lower &&& mask)))
  if (path = 0 ∨ path = 3) ∧ d.locked ≠ 0 ∧ v &&& d.locked ≠ s.lockedHolds d a then (s1.bump rRGC_CNT_LOCKED).raise 0x049 else s1

/-! ### What a live field sets going -/

/-- Sub-ports whose PORT_EN a write cleared go down (R265). -/
def State.portsOff (s : State) (m old : Nat) : State :=
  (upTo 4).foldl (fun s k =>
    let now := s.fld (fETH_CTRL_PORT_EN.plus (0x100000 * m))
    if bitOf (old / 4) k ∧ !bitOf now k then s.ethDown (4 * m + k) 3 else s) s

/-- The fields that act when they are written: TVL_CTRL.ENABLE (R231), ETH_CTRL.PORT_EN, FCH_CTRL.MODE (R141), PWR_CTRL.TRIM_EN
(R386), SBB_CH_CFG.EN (R478), EPO and CIR settings that let waiting work go on. -/
def State.fieldActs (s : State) (d : RegDef) (a v old : Nat) : State :=
  let (i, _) := d.inst a
  if d.addr = rTVL_CTRL then
    (if s.flag (fTVL_CTRL_ENABLE.plus (0x100000 * i)) then s else s.tvlDisable i)
  else if d.addr = rETH_CTRL then s.portsOff i old
  else if d.addr = rFCH_CTRL then (if v % 4 = 1 then s.modeWrite true else if v % 4 = 0 then s.modeWrite false else s)
  else if d.addr = rPWR_CTRL then (if s.flag fPWR_CTRL_TRIM_EN then s else s.trimExit)
  else if d.addr = rSBB_CH_CFG then s.sbSync
  else if d.addr = rEPO_CTRL ∨ d.addr = rEPO_LAG_LIMIT then s.stir
  else if d.addr = rCIR_CTRL then s.cir.streams.foldl (fun s e => s.cirAfter e.1) s
  else s

/-! ### Commands -/

/-- The blocks' SNAP bits: bit 0 of each CMD register. -/
def snapReg (b : Nat) : Bool :=
  [rTQM_CMD, rEPO_CMD, rRSV_CMD, rFCH_CMD, rSTK_CMD, rDMC_CMD, rLPR_CMD, rTVL_CMD, rNRE_CMD, rETH_CMD, rCIR_CMD, rTWN_CMD, rBPM_CMD,
    rINT_CMD, rSUP_CMD, rPWR_CMD, rCRU_CMD, rRGC_MB_CMD, rEFL_CMD, rSEC_CMD, rSBB_CMD, rDFT_CMD, rTOP_CMD].contains b

/-- SEC's path numbers: 1 is JTAG, 0 the others. -/
def secPath (path : Nat) : Nat := if path = 2 then 1 else 0

/-- SC and WO actions of SUP, CRU, RGC, INT, SEC and DFT, whose domains R498 does not turn off under them. -/
def State.writeActs (s : State) (path : Nat) (d : RegDef) (a v : Nat) : State :=
  let b := d.addr
  let (_, j) := d.inst a
  if b = rINT_SWSET then s.swset (v % 4096)
  else if b = rINT_COMPLETE then s.completeAt j (v % 4096)
  else if b = rSUP_VBTN then (if v % 4 = 0 then s else s.press (v % 4))
  else if b = rSUP_MARGIN then (if bitOf v 7 then s.marginGo (bitsOf v 4 0) (bitsOf v 6 5) else s)
  else if b = rCRU_WDT_FEED then s.wdtFeed path v
  else if b = rCRU_BRST then (if bitOf v 31 then s.brstGo (v % 64) else s)
  else if b = rRGC_MB_DOORBELL then s.doorbell (v % 16)
  else if b = rRGC_MB_CMD then (if bitOf v 1 then s.ackRestart else s)
  else if b = rSEC_UNLOCK then
    let s1 := if bitOf v 8 then s.unlockChallenge (secPath path) (v % 4) else s
    let s2 := if bitOf v 9 then s1.unlockSubmit (secPath path) else s1
    if bitOf v 10 then s2.unlockRelock else s2
  else if rSEC_RESP0 ≤ b ∧ b ≤ rSEC_RESP3 then
    { s with sec := { s.sec with
      resp := (upTo 4).foldl (fun t k => Tab.set (fun _ => 0) t (b - rSEC_RESP0 + k) (bitsOf v (8 * k + 7) (8 * k))) s.sec.resp } }
  else if b = rSEC_PROVISION then (if bitOf v 0 then s.provCommit else s)
  else if b = rDFT_LANE_CTRL then
    let s1 := s.laneWrite path v
    if bitOf v 8 then s1.laneInject else s1
  else if b = rDFT_CMD then (if bitOf v 1 then s.dftClr else s)
  else if b = rDFT_DRAM_CTRL then (if bitOf v 6 then s.dramTest (v % 16) (bitsOf v 5 4) else s)
  else if b = rLPR_RAW_CMD then
    let s1 := if bitOf v 0 then s.rawReadCmd path else s
    if bitOf v 1 then s1.rawWriteCmd path else s1
  else if b = rLPR_INJ_CTRL then (if bitOf v 31 then s.injectArm path else s)
  else s

/-- SC actions of the blocks whose domains may be off (R498). -/
def State.blockCmds (s : State) (d : RegDef) (a v : Nat) : State :=
  let b := d.addr
  let w := winOf a
  let (i, _) := d.inst a
  let s1 := if snapReg b then s.cmd w false (bitOf v 0) (State.snap · w) else s
  if b = rTQM_CMD then s1.cmd w false (bitOf v 1) (State.clrTen · (bitsOf v 27 16))
  else if b = rSTK_CMD then s1.cmd w false (bitOf v 1) (State.stkRetrain · (bitsOf v 19 16))
  else if b = rDMC_CMD then
    (s1.cmd w false (bitOf v 1) (State.fchg · i)).cmd w false (bitOf v 2) (State.retrainNow · i)
  else if b = rLPR_CMD then (s1.cmd w false (bitOf v 1) State.lprBist).cmd w true (bitOf v 2) State.scrubNow
  else if b = rTVL_CMD then s1.cmd w false (bitOf v 1) (State.tvlRetrain · i (bitsOf v 2 2))
  else s1

/-- A write of mailbox bytes 0 to 239: ignored while the slot is QUEUED or RUNNING (R420). -/
def State.slotPut (s : State) (a v : Nat) : State :=
  let n := (a - 0x701000) / 256
  let i := a % 256 / 4
  let x := s.slot n
  if i ≥ 60 ∨ x.st = 1 ∨ x.st = 2 then s
  else s.setSlot n { x with words := Tab.set (fun _ => (0 : W32)) x.words i (BitVec.ofNat 32 v) }

/-! ### Accesses -/

/-- A write of one register word from a path that may reach it (R493 to R498). -/
def State.writeReg (s : State) (path addr v : Nat) : State :=
  let a := canon addr
  if unmapped addr then s.countUnmapped
  else if slotReg a then s.slotPut a v
  else if iaddrReg a then s.setIaddr a path v
  else if idataReg a then s.indWrite (a - 4) path v
  else match regDefAt a with
    | none => s
    | some d =>
      if rawReg a ∧ !s.rawOpen path then s.secDenied
      else if a = rINT_SRC ∨ a = rINT_SRC_TGT then s
      else
        let old := (s.reg a).toNat
        (((s.writeFields path d a v).fieldActs d a v old).writeActs path d a v).blockCmds d a v

/-- A read of one register word with its side effects (R496, R497). -/
def State.readReg (s : State) (path addr : Nat) : State × Nat :=
  let a := canon addr
  if unmapped addr then (s.countUnmapped, 0)
  else if slotReg a then (s, s.slotWord_ a)
  else if iaddrReg a then (s, s.iaddrOf a path)
  else if idataReg a then s.indRead (a - 4) path
  else if dbkWinReg a then
    let i := (a - rDBK_WIN) / 4
    let slot := s.fld fDBK_CURSOR_SLOT
    let (s1, v) := s.dbkWin slot i
    (if i = 15 ∧ s1.flag fDBK_CTRL_AUTO then s1.setFld fDBK_CURSOR_SLOT ((slot + 1) % 32768) else s1, v.toNat)
  else if a = rDBK_SEQ_LO then
    ({ s with dbk := { s.dbk with seqHi := s.dbk.seq / 2 ^ 32 % 65536 } }, s.dbk.seq % 2 ^ 32)
  else match regDefAt a with
    | none => (s, 0)
    | some d =>
      if rawReg a ∧ !s.rawOpen path then (s.secDenied, 0)
      else if d.addr = rINT_CLAIM then s.claimRead (d.inst a).2
      else (s, s.regValue a)

end Sys2Proof.Machine
end

