-- ==== Sys2Proof/Machine/RegRows.lean ====
section
/-! DEFINITION. The commands of the register map (R418, R464, R465, R493 to R501). -/

namespace Sys2Proof.Machine

/-- A register of SEC, which JTAG reaches at every level (R464). -/
def secReg (a : Nat) : Bool := winOf a == 5 && decide (a % 0x10000 < 0x1000)

/-- What DBG_ACCESS may do at the debug level (R464); the levels rise, so each keeps what the one below allows. -/
def State.dbgMay (s : State) (write : Bool) (a : Nat) : Bool := secReg a || (s.sec.level == 1 && !write) || s.sec.level == 2

/-- A read that Observe answers 0 without an effect (R465): the meter latch is what reading word 0 of a meter sets. -/
def State.dbgQuiet (s : State) (a : Nat) : Bool :=
  s.sec.level == 1 && readEffect a && (a != rPWR_IDATA || (decide (s.iaddrOf rPWR_IADDR 2 < 0x8000) && s.iaddrOf rPWR_IADDR 2 % 8 / 4 == 0))

/-- DBG_ACCESS acts: the core and the debug domain are on and no vault runs (R469). -/
def State.dbgOn (s : State) : Bool := s.regsOpen 1

/-- A read by DBG_ACCESS. -/
def State.dbgRead (s : State) (addr : Nat) : State × Nat :=
  let a := canon addr
  if !s.dbgOn then (s, 0)
  else if !s.dbgMay false a then (s.secDenied, 0)
  else if s.dbgQuiet a then (if a = rPWR_IDATA then s.iaddrNext rPWR_IADDR 2 else s, 0)
  else s.readReg 2 addr

/-- A write by DBG_ACCESS. -/
def State.dbgWrite (s : State) (addr v : Nat) : State :=
  if !s.dbgOn then s
  else if !s.dbgMay true (canon addr) then s.secDenied
  else s.writeReg 2 addr v

/-- A write from a path: 0 management endpoint, 1 registrar, others JTAG. -/
def State.pathWrite (s : State) (path addr v : Nat) : State :=
  if path = 0 then (if s.regsOpen 0 then s.writeReg 0 addr v else s)
  else if path = 1 then (if s.coreRuns then s.writeReg 1 addr v else s)
  else s.dbgWrite addr v

/-- A read from a path. -/
def State.pathRead (s : State) (path addr : Nat) : State × Nat :=
  if path = 0 then (if s.regsOpen 0 then s.readReg 0 addr else (s, 0))
  else if path = 1 then (if s.coreRuns then s.readReg 1 addr else (s, 0))
  else s.dbgRead addr

/-- Who an answer goes to. -/
def pathName (path : Nat) : String := if path = 0 then "host" else if path = 1 then "registrar" else "JTAG"

/-- A read from a path, answered to it. -/
def State.pathGet (s : State) (path addr : Nat) : State :=
  let r := s.pathRead path addr
  r.1.emit (.readData (pathName path) r.2)

/-- REGISTER_WRITE: a PCI Express write that does not cover the doubleword is ignored and counted (R494). -/
def execRegisterWrite (path be addr value : Nat) (s : State) : Host.Outcome State Fault Refusal :=
  finish (if path = 0 ∧ be % 16 ≠ 15 then (if s.regsOpen 0 then s.bumpFld fTOP_CNT_ACCESS_NARROW else s)
    else s.pathWrite path addr (value % 2 ^ 32))

/-- UNMAPPED_ACCESS: an access in one of the windows 0x3D to 0x3F (R493). -/
def execUnmappedAccess (path window offset : Nat) (write : Bool) (s : State) : Host.Outcome State Fault Refusal :=
  let addr := (0x3D + window % 3) * 0x100000 + offset % 0x100000
  finish (if write then s.pathWrite path addr 0 else s.pathGet path addr)

/-- IDATA_ACCESS: a read or write of the IDATA beside an IADDR register (R499). -/
def execIdataAccess (path iaddr : Nat) (write : Bool) (value : Nat) (s : State) : Host.Outcome State Fault Refusal :=
  finish (if !iaddrReg (canon iaddr) then s
    else if write then s.pathWrite path (iaddr + 4) (value % 2 ^ 32)
    else s.pathGet path (iaddr + 4))

/-- Offset of the CMD register that holds a block's SNAP bit. -/
def snapOff (w : Nat) : Nat :=
  if w = 0x0C then 0x70 else if 0x32 ≤ w ∧ w < 0x3B then 0x40 else if w = 0x0A then 0x80 else if w = 7 then 0x28
  else if w = 5 then 0x60 else 0x30

/-- COUNTER_SNAP: a write of 1 to the SNAP bit of the block in a window (R501); the other bits of its CMD register are written 0. -/
def execCounterSnap (path window : Nat) (s : State) : Host.Outcome State Fault Refusal :=
  finish (if window < 0x3C then s.pathWrite path (window * 0x100000 + snapOff window) 1 else s)

end Sys2Proof.Machine
end

