-- ==== Sys2Proof/Machine/DftRows.lean ====
section
/-! DEFINITION. The commands of link test, the DRAM bus test, boundary scan and the JTAG port (R464, R483 to R490). -/

namespace Sys2Proof.Machine

/-- DFT answers a path: JTAG under its own rule, the others while the registers answer. -/
def State.dftOpen (s : State) (path : Nat) : Bool :=
  if path = 0 then s.regsOpen 0 else if path = 1 then s.coreRuns else s.dbgOn && s.sec.level == 2

/-- A command of DFT from a path; one from JTAG below Open is refused (R465). -/
def State.dftCmd (s : State) (path : Nat) (f : State → State) : State :=
  if s.dftOpen path then f s
  else if 2 ≤ path ∧ s.dbgOn then s.secDenied
  else s

/-- LANE_TEST_SET: GEN, CHK and LOOP of the lane that DFT_LSEL selects. -/
def execLaneTestSet (path value : Nat) (s : State) : Host.Outcome State Fault Refusal :=
  finish (s.dftCmd path (State.laneWrite · (min path 2) value))

/-- LANE_INJECT. -/
def execLaneInject (path : Nat) (s : State) : Host.Outcome State Fault Refusal := finish (s.dftCmd path State.laneInject)

/-- DFT_CLR. -/
def execDftClr (path : Nat) (s : State) : Host.Outcome State Fault Refusal := finish (s.dftCmd path State.dftClr)

/-- DRAM_BUS_TEST: CH and MODE, then GO. -/
def execDramBusTest (path ch mode : Nat) (s : State) : Host.Outcome State Fault Refusal :=
  finish (s.dftCmd path (fun s =>
    ((s.setFld fDFT_DRAM_CTRL_CH ch).setFld fDFT_DRAM_CTRL_MODE mode).dramTest (ch % 16) (mode % 4)))

/-- DRAM_BUS_TEST_DONE: what the test counted (R489): errors of each DQ lane for the data test, parity alerts missed and false for the
address test. The channel goes back to self-refresh. -/
def execDramBusTestDone (missed falseAlerts : Nat) (errs : List Nat) (s : State) : Host.Outcome State Fault Refusal :=
  finish (match s.dft.run with
    | none => s
    | some (ch, mode) =>
      let d : DftSt := { s.dft with run := none, done := true }
      let d2 : DftSt :=
        if mode = 1 then
          { d with dq := (upTo 80).foldl (fun t q => Tab.set (fun _ => 0) t q (min (2 ^ 32 - 1) (errs.getD q 0))) [] }
        else { d with missed := min 65535 missed, false_ := min 65535 falseAlerts }
      let s1 : State := { s with dft := d2 }
      if (s1.ch ch).st = 2 ∧ s1.pwr.st = .quiesced then s1.setCh ch { s1.ch ch with st := 3 } else s1)

/-- JTAG_INSTRUCTION: the instruction is loaded, and acts as R464 and R469 let it. -/
def execJtagInstruction (op : JtagOp) (s : State) : Host.Outcome State Fault Refusal :=
  let s1 : State := { s with dft := { s.dft with jtag := op } }
  let act := s.jtagActs op
  finish (s1.emit (.jtag act.name (if act = .idcode then idcode else 0)))

/-- DBG_ACCESS: a 32-bit access to the management window through JTAG. -/
def execDbgAccess (write : Bool) (addr value : Nat) (s : State) : Host.Outcome State Fault Refusal :=
  let s1 : State := { s with dft := { s.dft with jtag := .dbgAccess } }
  finish (if write then s1.dbgWrite (addr % 2 ^ 26) (value % 2 ^ 32) else s1.pathGet 2 (addr % 2 ^ 26))

/-- CHECKER_LOCK: 256 bits without an error, true or inverted (R486). -/
def execCheckerLock (lane : Nat) (inverted : Bool) (s : State) : Host.Outcome State Fault Refusal :=
  let l := s.lane lane
  finish (if lane < 130 ∧ l.chk ≠ 0 ∧ !l.lock ∧ bitOf s.cru.refOk (laneGroup lane) then
      s.setLane lane { l with lock := true, inverted := inverted }
    else s)

/-- CHECKER_LOCK_LOSS: 64 errors within 1,024 bits (R486), after the bits and errors counted since the lock. -/
def execCheckerLockLoss (lane bits errs : Nat) (s : State) : Host.Outcome State Fault Refusal :=
  let l := s.lane lane
  finish (if lane < 130 ∧ l.lock then
      s.setLane lane { l with
        lock := false
        bits := (l.bits + bits) % 2 ^ 64
        errs := satAdd 4294967295 l.errs errs
        losses := satInc 65535 l.losses }
    else s)

end Sys2Proof.Machine
end

