-- ==== Sys2Proof/Machine/SbbRows.lean ====
section
/-! DEFINITION. The commands of the sideband bus: transactions of the controllers, the idle check, attention requests, and the target
port SBT (R471 to R481). -/

namespace Sys2Proof.Machine

/-! ### Controllers -/

/-- SB_TRANSACTION: it runs when the bus is idle and nothing waits before it, waits while the channel checks or is busy, and ends
at once on a STUCK or a disabled channel (R478, R479). -/
def execSbTransaction (ch addr : Nat) (bytes : List Byte) (lost : Nat) (ack pecOk hang : Bool) (s : State) :
    Host.Outcome State Fault Refusal :=
  let t : SbTx := { addr := addr % 128, bytes := bytes, lost := lost, ack := ack, pecOk := pecOk, hang := hang }
  let c := s.sbCh ch
  finish (if ch ≥ 4 ∨ !s.coreRuns then s
    else if c.st = 0 then s.sbEnd ch .aborted 0
    else if c.st = 5 then s.sbEnd ch .stuck 5
    else (s.setSbCh ch { c with queue := c.queue ++ [t] }).sbPump ch (c.queue.length + 1))

/-- SB_IDLE_CHECK: the check of a channel that is enabled, was reset or timed out (R478): the levels found, and what SDA reads
at the pulses of a recovery. -/
def execSbIdleCheck (ch : Nat) (scl sda : Bool) (readings : List Bool) (s : State) : Host.Outcome State Fault Refusal :=
  finish (if ch < 4 ∧ s.coreRuns ∧ (s.sbCh ch).st = 1 then s.sbCheck ch scl sda readings else s)

/-- SB_STUCK_RETRY: a STUCK channel checks again after 1 s. -/
def execSbStuckRetry (ch : Nat) (scl sda : Bool) (readings : List Bool) (s : State) : Host.Outcome State Fault Refusal :=
  finish (if ch < 4 ∧ s.coreRuns ∧ (s.sbCh ch).st = 5 then s.sbCheck ch scl sda readings else s)

/-- One read of the Alert Response Address that a target answers. -/
def State.sbAttend (s : State) (ch a : Nat) : State :=
  let s1 := (s.emit (.sb ch 0x0C [])).setSbCh ch { s.sbCh ch with lastAttn := a % 128 }
  s1.raise (sbSrc ch 3)

/-- SB_ATTENTION: SDA held low on an idle bus that the MK1 has to itself (R477); `addrs` are the addresses that answer, in order. The
read that no target answers ends the request. -/
def execSbAttention (ch : Nat) (addrs : List Nat) (s : State) : Host.Outcome State Fault Refusal :=
  let on := s.flag (fSBB_CH_CFG_SOLE.plus (sbOff ch)) && s.flag (fSBB_CH_CFG_ATTN_EN.plus (sbOff ch))
  finish (if ch < 4 ∧ s.coreRuns ∧ on ∧ (s.sbCh ch).st = 2 then
      let got := addrs.take 8
      let s1 := got.foldl (fun s a => s.sbAttend ch a) (s.bumpFld (fSBB_CH_CNT_ARB_ATTN.plus (sbOff ch)))
      if addrs.length < 8 then s1.emit (.sb ch 0x0C []) else s1
    else s)

/-- SB_TIMEOUT: a target held SCL low for 25 ms (R474); the idle check follows (R478). -/
def execSbTimeout (ch : Nat) (s : State) : Host.Outcome State Fault Refusal :=
  finish (if ch < 4 ∧ (s.sbCh ch).st = 3 then s.sbEnd ch .timeout 1 else s)

/-! ### The target port -/

/-- SBT acknowledges its address while VDD_AON is up and no Pin reset is held (R19). DESIGN CHOICE (log 95): R19 also says
that it does not acknowledge in reset, and the chapter counts a Cold reset sequence that runs before the registrar has started
as in reset; the model takes R19's first sentence for that time and acknowledges. -/
def State.sbtOn (s : State) : Bool := s.sup.aon && !s.cru.pinHeld && !s.cru.xtalHeld

/-- What an SBT access through WDATA may write (R481). -/
def sbtMayWrite (a v : Nat) : Bool :=
  a == rSUP_VBTN || (decide (0x701E00 ≤ a ∧ a < 0x702000) && decide (a % 256 < 240)) || (a == rRGC_MB_DOORBELL && decide (14 ≤ v % 16))

/-- What it may not read (R481). -/
def sbtNoRead (a : Nat) : Bool :=
  ((decide (rINT_CLAIM ≤ a ∧ a < rINT_CLAIM + 0x10 * 21)) && a % 0x10 == rINT_CLAIM % 0x10) || idataReg a || a == rDBK_SEQ_LO
    || a == rDBK_WIN + 60

/-- The register at WADDR can be reached: while the core is off or held in reset only SUP and CRU can (R481). -/
def State.sbtReach (s : State) (addr : Nat) : Bool := s.coreRuns || winOf addr == 1 || winOf addr == 2

/-- A WDATA access is refused. -/
def State.sbtRefuse (s : State) : State :=
  ({ s with sbb := { s.sbb with wstat := 1, fetched := 0 } }.bump rSBB_TGT_CNT_REFUSED).raise 0x3B1

/-- A read of 0x18 fetches the register at WADDR. -/
def State.sbtFetch (s : State) : State :=
  let x := s.sbb.waddr
  let s1 := s.bumpFld fSBB_TGT_CNT_ACCESS
  if !s1.sbtReach x then { s1 with sbb := { s1.sbb with wstat := 2, fetched := 0 } }
  else if sbtNoRead (canon x) then s1.sbtRefuse
  else
    let r := s1.readReg 3 x
    { r.1 with sbb := { r.1.sbb with wstat := 0, fetched := r.2 } }

/-- A write of 0x1B writes the holding register and this byte to WADDR. -/
def State.sbtStore (s : State) (b : Nat) : State :=
  let x := s.sbb.waddr
  let v := s.sbb.hold + b * 2 ^ 24
  let s1 := s.bumpFld fSBB_TGT_CNT_ACCESS
  if !s1.sbtReach x then { s1 with sbb := { s1.sbb with wstat := 2 } }
  else if !sbtMayWrite (canon x) v then s1.sbtRefuse
  else
    let s2 := s1.writeReg 3 x v
    { s2 with sbb := { s2.sbb with wstat := 0 } }

/-- WADDR moves on after an access of 0x1B while AUTO is set. -/
def State.sbtAuto (s : State) : State :=
  if s.sbb.auto then { s with sbb := { s.sbb with waddr := (s.sbb.waddr + 4) % 2 ^ 26 } } else s

/-- Sets byte `k` of WADDR: 26 bits, a multiple of 4. -/
def State.sbtAddr (s : State) (k b : Nat) : State :=
  { s with sbb := { s.sbb with waddr := setBits s.sbb.waddr (8 * k + 7) (8 * k) b % 2 ^ 26 / 4 * 4 } }

/-- A byte written at the pointer (R480). -/
def State.sbtPut (s : State) (b : Nat) : State :=
  let p := s.sbb.ptr
  let s1 :=
    if 0x10 ≤ p ∧ p ≤ 0x13 then s.sbtAddr (p - 0x10) b
    else if p = 0x14 then { s with sbb := { s.sbb with auto := bitOf b 0 } }
    else if 0x18 ≤ p ∧ p ≤ 0x1A then
      { s with sbb := { s.sbb with hold := setBits s.sbb.hold (8 * (p - 0x18) + 7) (8 * (p - 0x18)) b } }
    else if p = 0x1B then (s.sbtStore b).sbtAuto
    else s
  { s1 with sbb := { s1.sbb with ptr := (p + 1) % 256 } }

/-- STATE of the target port. -/
def State.sbtState (s : State) : Nat :=
  packed [(s.stateCode, 0), (flags [s.cru.alive, !s.cru.fatal.isEmpty, s.sup.supplyBad], 3)]

/-- The byte that a read finds at the pointer, with the fetch that a read of 0x18 makes. -/
def State.sbtByte (s : State) : State × Nat :=
  let p := s.sbb.ptr
  if p = 0 then (s, 1)
  else if p = 1 then (s, s.sbtState)
  else if 4 ≤ p ∧ p ≤ 0x0B then (s, bitsOf s.sec.fuse.uid.toNat (8 * (p - 4) + 7) (8 * (p - 4)))
  else if 0x10 ≤ p ∧ p ≤ 0x13 then (s, bitsOf s.sbb.waddr (8 * (p - 0x10) + 7) (8 * (p - 0x10)))
  else if p = 0x14 then (s, b2n s.sbb.auto)
  else if p = 0x18 then
    let s1 := s.sbtFetch
    (s1, s1.sbb.fetched % 256)
  else if p = 0x19 ∨ p = 0x1A then (s, bitsOf s.sbb.fetched (8 * (p - 0x18) + 7) (8 * (p - 0x18)))
  else if p = 0x1B then (s.sbtAuto, bitsOf s.sbb.fetched 31 24)
  else if p = 0x1C then (s, s.sbb.wstat)
  else (s, 0)

/-- Reads bytes from the pointer on. -/
def State.sbtGet (s : State) : Nat → State
  | 0 => s
  | n + 1 =>
    let r := s.sbtByte
    let s1 := r.1.emit (.readData "SBT" r.2)
    ({ s1 with sbb := { s1.sbb with ptr := (s1.sbb.ptr + 1) % 256 } }).sbtGet n

/-- SBT_WRITE: the first byte sets the pointer, each further byte writes at it (R480). -/
def execSbtWrite (bytes : List Byte) (s : State) : Host.Outcome State Fault Refusal :=
  finish (match bytes with
    | [] => s
    | p :: rest =>
      if !s.sbtOn then s
      else rest.foldl (fun s b => s.sbtPut b.toNat) { s with sbb := { s.sbb with ptr := p.toNat } })

/-- SBT_READ: bytes from the pointer (R480). -/
def execSbtRead (n : Nat) (s : State) : Host.Outcome State Fault Refusal :=
  finish (if s.sbtOn then s.sbtGet n else s)

/-- SBT_SCL_TIMEOUT: the pointer and the byte state are dropped (R480). -/
def execSbtSclTimeout (s : State) : Host.Outcome State Fault Refusal :=
  finish (if s.sbtOn then
      (({ s with sbb := { s.sbb with ptr := 0, hold := 0 } }).bumpFld fSBB_TGT_CNT_DROPPED).raise 0x3B0
    else s)

end Sys2Proof.Machine
end

