-- ==== Sys2Proof/Machine/Tvedfy.lean ====
section
/-! DEFINITION. The Tvedfy messages (R237 to R258): one meaning per message. -/

namespace Sys2Proof.Machine

/-! ### Loads and writes -/

/-- LOAD: DATA of LEN bytes, or the first failure (R246). -/
def execLoad (lk : Nat) (hdr : BitVec 128) (s : State) : Host.Outcome State Fault Refusal :=
  let fmt := tvShape hdr 0 1 false 0x10 && zeroBits hdr 31 29 && zeroBits hdr 127 104
  match s.tvGate lk hdr fmt with
  | .no s1 => finish s1
  | .ended s1 => finish s1
  | .go s1 src desk =>
    if !desk then finish (s1.answer src (.retry 0x4))
    else match s1.mapCheck lk (hMap hdr) (·.r) (hOffset hdr) (hLen hdr) with
      | .error e => finish (s1.tvDeny src e)
      | .ok (lpa, owner) =>
        finish (s1.runLoad { src := src, lpa := lpa, len := hLen hdr, owner := owner, ctx := lk, map := hMap hdr, order := s1.epo.arrivals })

/-- A write message on its stream (R63, R246, R248); `align` is the reason it is refused for its alignment or mask. -/
def State.tvWriteMsg (s : State) (lk : Nat) (hdr : BitVec 128) (fmt : Bool) (need : MapEnt → Bool) (align : Option Nat)
    (size : Nat) (op : Nat → WOp) : State :=
  match s.tvGate lk hdr fmt with
  | .no s1 => s1
  | .ended s1 => s1
  | .go s1 src desk =>
    if !s1.flag fEPO_CTRL_ENABLE then s1.answer src (.poison rsACCESS)
    else match s1.tvStream lk (hStream hdr) with
    | none => s1.answer src (.poison rsSTREAM)
    | some i =>
      let chk : Except Nat WriteReq :=
        match align with
        | some e => .error e
        | none => match s1.mapCheck lk (hMap hdr) need (hOffset hdr) size with
          | .error e => .error e
          | .ok (lpa, owner) =>
            .ok { src := src, op := op (lpa % 128), line := lpa / 128, ssn := hSsn hdr, owner := owner
                  host := (s1.ctx lk).host, ctx := lk, map := hMap hdr, order := s1.epo.arrivals }
      s1.tvWrite lk hdr i (hSsn hdr) src desk chk

/-- OFFSET of a store is a multiple of 128 (R242). -/
def lineAlign (hdr : BitVec 128) : Option Nat := if hOffset hdr % 128 = 0 then none else some rsALIGN

/-- STORE_FULL. -/
def execStoreFull (lk : Nat) (hdr : BitVec 128) (data : Line) (s : State) : Host.Outcome State Fault Refusal :=
  finish (s.tvWriteMsg lk hdr (tvShape hdr 2 9 false 0x20 && zeroBits hdr 31 29 && zeroBits hdr 127 125) (·.w)
    (lineAlign hdr) 128 (fun _ => .full data))

/-- STORE_MASKED: a mask of all ones is a full-line store (R60). One of all zeros is answered POISON, reason FORMAT, which like
every refusal of a write that passed R238 uses the SSN (R242, R249; DEDUCED, log 115). -/
def execStoreMasked (lk : Nat) (hdr : BitVec 128) (mask : BitVec 128) (data : Line) (s : State) :
    Host.Outcome State Fault Refusal :=
  finish (s.tvWriteMsg lk hdr (tvShape hdr 2 10 false 0x21 && zeroBits hdr 31 29 && zeroBits hdr 127 125) (·.w)
    (if mask = 0 then some rsFORMAT else lineAlign hdr) 128 (fun _ => if mask = BitVec.allOnes 128 then .full data else .masked mask data))

/-- ATOMIC: AOP 5 to 7 and reserved operand bytes are FORMAT errors; alignment is that of R243. -/
def execAtomic (lk : Nat) (hdr s1 s2 : BitVec 128) (s : State) : Host.Outcome State Fault Refusal :=
  let aop := hAop hdr
  let slots := if aop = 1 then 3 else 2
  let fmt := tvShape hdr 0 slots true 0x30 && zeroBits hdr 31 29 && decide (aop ≤ 4)
    && (!(aop == 2 || aop == 3) || zeroBits s1 127 64)
  finish (s.tvWriteMsg lk hdr fmt (·.a) (if hOffset hdr % aopSize aop = 0 then none else some rsALIGN) (aopSize aop) (fun off => .atomic aop off s1 s2))

/-! ### ABANDON (R257) -/

/-- ABANDON, either KIND: UNKNOWN_OUTCOME at once. KIND 0 applies R248 to its SSN as a write that changes nothing. -/
def State.tvAbandon (s : State) (lk : Nat) (hdr : BitVec 128) (kind : Nat) : State :=
  let fmt := tvShape hdr 0 1 false 0x31 && zeroBits hdr 31 28 && zeroBits hdr 127 64 && (kind == 0 || zeroBits hdr 63 48)
  if bitsOf hdr.toNat 35 32 ≠ kind then s
  else match s.tvGate lk hdr fmt with
    | .no s1 => s1
    | .ended s1 => s1
    | .go s1 src _ =>
      let ssn := bitsOf hdr.toNat 63 48
      let s2 := match (if kind = 0 then s1.tvStream lk (bitsOf hdr.toNat 47 36) else none) with
        | some i =>
          if ssnJudge ssn (s1.stream i).lastSsn = SsnDec.new then
            (s1.setStream i { s1.stream i with lastSsn := ssn }).mirror_ (.ssn i ssn)
          else s1
        | none => s1
      s2.answer src .unknown

/-- ABANDON of an atomic. -/
def execAbandonAtomic (lk : Nat) (hdr : BitVec 128) (s : State) : Host.Outcome State Fault Refusal :=
  finish (s.tvAbandon lk hdr 0)

/-- ABANDON of a close. -/
def execAbandonClose (lk : Nat) (hdr : BitVec 128) (s : State) : Host.Outcome State Fault Refusal :=
  finish (s.tvAbandon lk hdr 1)

/-! ### EPOCH (R65, R67, R86) -/

/-- The reserved bits of an EPOCH message of each EOP (R240); MODE is one in a CLOSE without SETMODE (DEDUCED, log 123). -/
def epochFormat (hdr : BitVec 128) : Bool :=
  let e := hEop hdr
  tvShape hdr 0 1 false 0x40 && zeroBits hdr 31 29 && decide (e ≤ 5)
    && (e == 3 || zeroBits hdr 43 32)
    && (e == 3 || (e == 4 && zeroBits hdr 96 61) || (e != 4 && zeroBits hdr 96 44))
    && (e == 0 || e == 1 || !hdr.getLsbD 113) && (e == 1 || zeroBits hdr 115 114)
    && (e == 1 || e == 2 || zeroBits hdr 127 116) && (e != 1 || hdr.getLsbD 114 || !hdr.getLsbD 113)

/-- The common path of an EPOCH message of one EOP: its stream, and EPO_CTRL.ENABLE (R531). -/
def State.tvEpoch (s : State) (lk : Nat) (hdr : BitVec 128) (eop : Nat) (body : State → Src → Nat → State) : State :=
  if hEop hdr ≠ eop then s
  else match s.tvGate lk hdr (epochFormat hdr) with
    | .no s1 => s1
    | .ended s1 => s1
    | .go s1 src desk =>
      if !s1.flag fEPO_CTRL_ENABLE then s1.answer src (.poison rsACCESS)
      else if !desk then s1.answer src (.retry 0x4)
      else match s1.tvStream lk (hStream hdr) with
        | none => s1.answer src (.poison rsSTREAM)
        | some i => body s1 src i

/-- EPOCH OPEN (R65). DESIGN CHOICE (log 102): on a CLOSING stream, of which R65's table has no such row, it is answered as on an
OPEN one. -/
def execEpochOpen (lk : Nat) (hdr : BitVec 128) (s : State) : Host.Outcome State Fault Refusal :=
  finish (s.tvEpoch lk hdr 0 (fun s1 src i =>
    let r := s1.stream i
    let ans (s : State) (st : Nat) : State :=
      s.answer src (.ack false false false st (s.stream i).epoch (s.stream i).lastSsn (s.stream i).mode 0)
    match r.st with
    | .idle =>
      if r.report.isSome then s1.answer src (.status 9)
      else
        let s2 := s1.openEpoch i (hdr.getLsbD 113) (s1.ctx lk).host (hStream hdr) (s1.ctx lk).tenant
        ans (s2.mirror_ (.epoch i 0 0 (hdr.getLsbD 113) false false (s2.stream i).epoch)) 0
    | .opened => ans s1 4
    | .closing => ans s1 4
    | .reported => s1.answer src (.status 9)))

/-- EPOCH CLOSE (R65, R67, R247): judged in the stream's order. -/
def execEpochClose (lk : Nat) (hdr : BitVec 128) (s : State) : Host.Outcome State Fault Refusal :=
  finish (s.tvEpoch lk hdr 1 (fun s1 src i =>
    s1.closeArrive i src (hEpoch hdr) (hdr.getLsbD 114) (hdr.getLsbD 113) (hdr.getLsbD 115)))

/-- The commit point of a close (R67): every write is mirrored and the digests compare. -/
def execEpochCommit (stream : Nat) (s : State) : Host.Outcome State Fault Refusal :=
  finish (if s.closeReady stream then s.commitClose stream s.holder false else s)

/-- EPOCH QUERY_STATE (R86). -/
def execEpochQueryState (lk : Nat) (hdr : BitVec 128) (s : State) : Host.Outcome State Fault Refusal :=
  finish (s.tvEpoch lk hdr 2 (fun s1 src i => s1.answer src (.status ((s1.stream i).query (hEpoch hdr)))))

/-- EPOCH QUERY_LINE (R86). -/
def execEpochQueryLine (lk : Nat) (hdr : BitVec 128) (s : State) : Host.Outcome State Fault Refusal :=
  finish (s.tvEpoch lk hdr 3 (fun s1 src i =>
    match s1.mapCheck lk (hMap hdr) (fun _ => true) (hOffset hdr) 1 with
    | .error e => s1.tvDeny src e
    | .ok (lpa, _) => s1.queryAsk src i (lpa / 128) lk (hMap hdr)))

/-- EPOCH QUERY_REPORT (R86): OFFSET[16:0] is the record index. -/
def execEpochQueryReport (lk : Nat) (hdr : BitVec 128) (s : State) : Host.Outcome State Fault Refusal :=
  finish (s.tvEpoch lk hdr 4 (fun s1 src i => s1.answer src (s1.reportRead i (bitsOf hdr.toNat 60 44))))

/-- EPOCH RELEASE (R86). -/
def execEpochRelease (lk : Nat) (hdr : BitVec 128) (s : State) : Host.Outcome State Fault Refusal :=
  finish (s.tvEpoch lk hdr 5 (fun s1 src i =>
    match (s1.stream i).report with
    | none => s1.answer src (.status 0xC)
    | some rep =>
      if rep.building then s1.answer src (.status 0xA)
      else ((s1.releaseReport i).mirror_ (.epoch i 2 0 false false false rep.epoch)).answer src .ok))

/-- A report finishes building (R82, R253): lines that are not in the reading room are filled from the sleds first, and the
report goes on building until their data, or their fills' failure, is there. REPORT_READY goes to the context that owns the
stream. -/
def execReportBuilt (stream : Nat) (s : State) : Host.Outcome State Fault Refusal :=
  let r := s.stream stream
  finish (match r.report with
    | some rep =>
      if !rep.building then s
      else if !(s.reportNeeds rep).isEmpty then
        (s.reportNeeds rep).foldl (fun s f => s.verdictFill f (.report stream f)) s
      else
        let s1 := s.buildReport stream
        if stream < 65536 then
          let port := stream / 4096
          let lk := 2 * port + (if s1.split (2 * port) ∧ stream % 4096 ≥ 2048 then 1 else 0)
          if s1.tvServes lk ∧ (s1.tvl_ lk).holderSaid then s1.tvSend lk (.event 0 1 0 (stream % 4096) rep.epoch false) else s1
        else s1
    | none => s)

/-! ### MAP and PLACE -/

/-- MAP OPEN (R31, R32, R255). -/
def execMapOpen (lk : Nat) (hdr : BitVec 128) (s : State) : Host.Outcome State Fault Refusal :=
  let fmt := tvShape hdr 0 1 false 0x50 && zeroBits hdr 31 29 && decide (bitsOf hdr.toNat 35 32 ≤ 1) && zeroBits hdr 47 36
    && zeroBits hdr 127 115
  if bitsOf hdr.toNat 35 32 = 1 then finish s
  else match s.tvGate lk hdr fmt with
    | .no s1 => finish s1
    | .ended s1 => finish s1
    | .go s1 src desk =>
      if !desk then finish (s1.answer src (.retry 0x4))
      else
        let h := bitsOf hdr.toNat 95 48
        let (s2, st, m) := s1.openMap lk h (hdr.getLsbD 96) (hdr.getLsbD 97) (hdr.getLsbD 98) (bitsOf hdr.toNat 114 99)
        let svc := Svc.mapOpen lk h (hdr.getLsbD 96) (hdr.getLsbD 97) (hdr.getLsbD 98) (bitsOf hdr.toNat 114 99)
        if st = 0 then
          let s3 := if s2.tqm.maps.length > s1.tqm.maps.length then s2.mirror_ (.service svc 0 0) else s2
          finish ((s3.bumpFld fTQM_CNT_MAP_OPEN).answer src (.ack false false false 0 0 0 false m))
        else finish (((s2.bumpFld fTQM_CNT_MAP_REFUSED).raise 0x152).answer src (.status st))

/-- MAP CLOSE (R34): an unused index is POISON ACCESS, unless RESENT. -/
def execMapClose (lk : Nat) (hdr : BitVec 128) (s : State) : Host.Outcome State Fault Refusal :=
  let fmt := tvShape hdr 0 1 false 0x50 && zeroBits hdr 31 29 && decide (bitsOf hdr.toNat 35 32 ≤ 1) && zeroBits hdr 127 48
  if bitsOf hdr.toNat 35 32 ≠ 1 then finish s
  else match s.tvGate lk hdr fmt with
    | .no s1 => finish s1
    | .ended s1 => finish s1
    | .go s1 src desk =>
      let m := bitsOf hdr.toNat 47 36
      if !desk then finish (s1.answer src (.retry 0x4))
      else if (s1.mapEnt lk m).valid then finish ((s1.mirror_ (.service (.mapClose lk m) 0 0)).closeMap lk m src)
      else if hResent hdr then finish (s1.answer src .ok)
      else finish (s1.tvDeny src rsACCESS)

/-- The accesses through a closing map have completed (R34). -/
def execMapCloseComplete (ctx map : Nat) (s : State) : Host.Outcome State Fault Refusal :=
  finish (if (s.mapEnt ctx map).closing.isSome ∧ !s.mapBusy ctx map then s.closeMapNow ctx map else s)

/-- PLACE (R40, R41): what the host may ask depends on PLACE_HOST and PIN_HOST. -/
def execPlace (lk : Nat) (hdr : BitVec 128) (s : State) : Host.Outcome State Fault Refusal :=
  let fmt := tvShape hdr 0 1 false 0x58 && zeroBits hdr 31 29 && zeroBits hdr 96 44 && zeroBits hdr 127 99
  match s.tvGate lk hdr fmt with
  | .no s1 => finish s1
  | .ended s1 => finish s1
  | .go s1 src desk =>
    if !desk then finish (s1.answer src (.retry 0x4))
    else
      let e := s1.mapEnt lk (hMap hdr)
      match (if e.valid ∧ e.w then s1.liveObj e.handle else none) with
      | none => finish (s1.tvDeny src rsACCESS)
      | some o =>
        let c := hPlace hdr
        let allowed := if o.cls = 2 ∨ c = 2 then s1.flag fTQM_CTRL_PIN_HOST else s1.flag fTQM_CTRL_PLACE_HOST
        if c = 3 ∨ o.cls = 3 then finish (s1.answer src (.status 2))
        else if o.cls = c then finish (s1.answer src .ok)
        else if !allowed then finish (s1.answer src (.status 2))
        else match s1.placeObj e.handle c with
          | (s2, 0, 0) => finish ((s2.mirror_ (.service (.place lk (hMap hdr) c) 0 0)).answer src .ok)
          | (s2, 0, q) => finish (s2.answer src (.quota q))
          | (s2, st, _) => finish (s2.answer src (.status st))

/-! ### MAINT (R138, R140, R246) -/

/-- Folios of a maintenance request: the one that holds OFFSET, or every one the range touches. -/
def maintFolios (lpa len : Nat) : List Nat := if len = 0 then [lpa / 4096] else foliosOf lpa len

/-- MAINT CLEAN, FLUSH, INVALIDATE and PROMOTE (R138): rights, range, then each folio in ascending order. STREAM and SSN, which
ZERO alone uses (R242), are reserved in them (R240; DEDUCED, log 123). -/
def State.tvMaint (s : State) (lk : Nat) (hdr slot1 : BitVec 128) (mop : Nat) : State :=
  let fmt := tvShape hdr 0 2 false 0x60 && zeroBits hdr 31 29 && zeroBits hdr 127 100 && decide (hMop hdr ≤ 4)
    && zeroBits slot1 127 60 && !slot1.getLsbD 31 && (hMop hdr == 4 || zeroBits slot1 59 32)
  if hMop hdr ≠ mop ∧ hMop hdr ≤ 4 then s
  else match s.tvGate lk hdr fmt with
    | .no s1 => s1
    | .ended s1 => s1
    | .go s1 src desk =>
      let len := bitsOf slot1.toNat 30 0
      if !desk then s1.answer src (.retry 0x4)
      else if len > 2 ^ 30 then s1.tvDeny src rsRANGE
      else
        let need (e : MapEnt) : Bool := if mop = 0 ∨ mop = 3 then e.r else e.w && s1.flag fTQM_CTRL_PLACE_HOST
        match s1.mapCheck lk (hMap hdr) need (hOffset hdr) (max 1 len) with
        | .error e => s1.tvDeny src e
        | .ok (lpa, _) =>
          let fs := maintFolios lpa len
          let (s2, g) := s1.openGrp src fs.length
          s2.maintAsk (fs.map (fun f => { src := .grp g, mop := mop, folio := f, ctx := lk, map := hMap hdr, order := s1.epo.arrivals }))

/-- MAINT CLEAN. -/
def execMaintClean (lk : Nat) (hdr slot1 : BitVec 128) (s : State) : Host.Outcome State Fault Refusal :=
  finish (s.tvMaint lk hdr slot1 0)
/-- MAINT FLUSH. -/
def execMaintFlush (lk : Nat) (hdr slot1 : BitVec 128) (s : State) : Host.Outcome State Fault Refusal :=
  finish (s.tvMaint lk hdr slot1 1)
/-- MAINT INVALIDATE. -/
def execMaintInvalidate (lk : Nat) (hdr slot1 : BitVec 128) (s : State) : Host.Outcome State Fault Refusal :=
  finish (s.tvMaint lk hdr slot1 2)
/-- MAINT PROMOTE. -/
def execMaintPromote (lk : Nat) (hdr slot1 : BitVec 128) (s : State) : Host.Outcome State Fault Refusal :=
  finish (s.tvMaint lk hdr slot1 3)

/-- MAINT ZERO (R54, R138, R140, R242): a write of each folio of the range, under one SSN, answered when every part
meets R55. -/
def execMaintZero (lk : Nat) (hdr slot1 : BitVec 128) (s : State) : Host.Outcome State Fault Refusal :=
  let fmt := tvShape hdr 0 2 false 0x60 && zeroBits hdr 31 29 && zeroBits hdr 127 100 && decide (hMop hdr ≤ 4)
    && zeroBits slot1 127 60 && !slot1.getLsbD 31 && (hMop hdr == 4 || zeroBits slot1 59 32)
  if hMop hdr ≠ 4 ∧ hMop hdr ≤ 4 then finish s
  else match s.tvGate lk hdr fmt with
    | .no s1 => finish s1
    | .ended s1 => finish s1
    | .go s1 src desk =>
      let len := bitsOf slot1.toNat 30 0
      let ssn := bitsOf slot1.toNat 59 44
      if !s1.flag fEPO_CTRL_ENABLE then finish (s1.answer src (.poison rsACCESS))
      else match s1.tvStream lk (bitsOf slot1.toNat 43 32) with
      | none => finish (s1.answer src (.poison rsSTREAM))
      | some i =>
        let chk : Except Nat (Nat × Nat) :=
          if len > 2 ^ 30 then .error rsRANGE
          else if len ≠ 0 ∧ (len % 4096 ≠ 0 ∨ hOffset hdr % 4096 ≠ 0) then .error rsALIGN
          else s1.mapCheck lk (hMap hdr) (·.w) (hOffset hdr) (max 1 len)
        match chk with
        | .error e => finish (s1.tvWrite lk hdr i ssn src desk (.error e))
        | .ok (lpa, owner) =>
          let fs := maintFolios lpa len
          let w (f : Nat) (src : Src) : WriteReq :=
            { src := src, op := .zero, line := f * 32, ssn := ssn, owner := owner, host := (s1.ctx lk).host, ctx := lk, map := hMap hdr
              order := s1.epo.arrivals }
          match fs with
          | [f] => finish (s1.tvWrite lk hdr i ssn src desk (.ok (w f src)))
          | _ =>
            if ssnJudge ssn (s1.stream i).lastSsn ≠ .new ∨ !desk then
              finish (s1.tvWrite lk hdr i ssn src desk (.error rsRANGE))
            else if s1.soloHolds (s1.stream i) then
              finish (((s1.setStream i { s1.stream i with lastSsn := ssn }).mirror_ (.ssn i ssn)).answer src (.retry 0x0))
            else
              let (s2, g) := s1.openGrp src fs.length
              let s3 := s2.setStream i { s2.stream i with
                lastSsn := ssn
                queue := (s2.stream i).queue ++ fs.map (fun f => SItem.write (w f (.grp g))) }
              finish ((if (s3.stream i).st = .closing then s3.bumpBy rEPO_CNT_HELD fs.length else s3).pumpAll i)

end Sys2Proof.Machine
end

