-- ==== Sys2Proof/Machine/Dispatch.lean ====
section
/-! DEFINITION. One arm per command: each calls its own meaning. -/

namespace Sys2Proof.Machine

def exec (i : Instr) (s : State) : Host.Outcome State Fault Refusal :=
  match i with
  | .coldReset => Sys2Proof.Machine.execColdReset s
  | .vddAonLoss => Sys2Proof.Machine.execVddAonLoss s
  | .resetNAssert => Sys2Proof.Machine.execResetNAssert s
  | .resetNRelease => Sys2Proof.Machine.execResetNRelease s
  | .startUp dimm => Sys2Proof.Machine.execStartUp dimm s
  | .startStepDone cause rep => Sys2Proof.Machine.execStartStepDone cause rep s
  | .watchdogExpiry => Sys2Proof.Machine.execWatchdogExpiry s
  | .cruWdtFeed path value => Sys2Proof.Machine.execCruWdtFeed path value s
  | .blockReset block => Sys2Proof.Machine.execBlockReset block s
  | .refClockLost group => Sys2Proof.Machine.execRefClockLost group s
  | .refClockRegained group => Sys2Proof.Machine.execRefClockRegained group s
  | .dmcPllUnlock ch => Sys2Proof.Machine.execDmcPllUnlock ch s
  | .dmcPllRelock ch => Sys2Proof.Machine.execDmcPllRelock ch s
  | .dmcPllRelockTimeout ch => Sys2Proof.Machine.execDmcPllRelockTimeout ch s
  | .corePllUnlock pll => Sys2Proof.Machine.execCorePllUnlock pll s
  | .xtalStopped => Sys2Proof.Machine.execXtalStopped s
  | .xtalRestored => Sys2Proof.Machine.execXtalRestored s
  | .onRequest => Sys2Proof.Machine.execOnRequest s
  | .offRequest => Sys2Proof.Machine.execOffRequest s
  | .railEnableTick rail => Sys2Proof.Machine.execRailEnableTick rail s
  | .railPgRise rail => Sys2Proof.Machine.execRailPgRise rail s
  | .railPgTimeout rail => Sys2Proof.Machine.execRailPgTimeout rail s
  | .railPgDrop rail => Sys2Proof.Machine.execRailPgDrop rail s
  | .railDisableTick rail => Sys2Proof.Machine.execRailDisableTick rail s
  | .dischargeTimeout rail => Sys2Proof.Machine.execDischargeTimeout rail s
  | .offWaitExpiry => Sys2Proof.Machine.execOffWaitExpiry s
  | .vaultRestartTimer => Sys2Proof.Machine.execVaultRestartTimer s
  | .buttonShortPress => Sys2Proof.Machine.execButtonShortPress s
  | .buttonLongPress => Sys2Proof.Machine.execButtonLongPress s
  | .buttonVeryLongPress => Sys2Proof.Machine.execButtonVeryLongPress s
  | .vbtnShort => Sys2Proof.Machine.execVbtnShort s
  | .vbtnLong => Sys2Proof.Machine.execVbtnLong s
  | .vbtnVeryLong => Sys2Proof.Machine.execVbtnVeryLong s
  | .monitorSample ch value => Sys2Proof.Machine.execMonitorSample ch value s
  | .monitorRefCheck ch dev => Sys2Proof.Machine.execMonitorRefCheck ch dev s
  | .marginGo rail dir => Sys2Proof.Machine.execMarginGo rail dir s
  | .domainPgFail domain => Sys2Proof.Machine.execDomainPgFail domain s
  | .pwrStateService slot => Sys2Proof.Machine.execPwrStateService slot s
  | .pwrStateQuiesce slot => Sys2Proof.Machine.execPwrStateQuiesce slot s
  | .pwrStateStandby slot => Sys2Proof.Machine.execPwrStateStandby slot s
  | .pwrStateOff slot => Sys2Proof.Machine.execPwrStateOff slot s
  | .trimWindow bytes => Sys2Proof.Machine.execTrimWindow bytes s
  | .trimFchgTick => Sys2Proof.Machine.execTrimFchgTick s
  | .energyReconcile mj => Sys2Proof.Machine.execEnergyReconcile mj s
  | .energyCheckpoint => Sys2Proof.Machine.execEnergyCheckpoint s
  | .holdupAlert lowNs => Sys2Proof.Machine.execHoldupAlert lowNs s
  | .vaultEntryTimeout => Sys2Proof.Machine.execVaultEntryTimeout s
  | .vaultFinish => Sys2Proof.Machine.execVaultFinish s
  | .governorSample => Sys2Proof.Machine.execGovernorSample s
  | .budgetWaitRelease stream => Sys2Proof.Machine.execBudgetWaitRelease stream s
  | .vaultAccept slot => Sys2Proof.Machine.execVaultAccept slot s
  | .load lk hdr => Sys2Proof.Machine.execLoad lk hdr s
  | .storeFull lk hdr data => Sys2Proof.Machine.execStoreFull lk hdr data s
  | .storeMasked lk hdr mask data => Sys2Proof.Machine.execStoreMasked lk hdr mask data s
  | .atomic lk hdr s1 s2 => Sys2Proof.Machine.execAtomic lk hdr s1 s2 s
  | .abandonAtomic lk hdr => Sys2Proof.Machine.execAbandonAtomic lk hdr s
  | .abandonClose lk hdr => Sys2Proof.Machine.execAbandonClose lk hdr s
  | .epochOpen lk hdr => Sys2Proof.Machine.execEpochOpen lk hdr s
  | .epochClose lk hdr => Sys2Proof.Machine.execEpochClose lk hdr s
  | .epochCommit stream => Sys2Proof.Machine.execEpochCommit stream s
  | .epochQueryState lk hdr => Sys2Proof.Machine.execEpochQueryState lk hdr s
  | .epochQueryLine lk hdr => Sys2Proof.Machine.execEpochQueryLine lk hdr s
  | .epochQueryReport lk hdr => Sys2Proof.Machine.execEpochQueryReport lk hdr s
  | .epochRelease lk hdr => Sys2Proof.Machine.execEpochRelease lk hdr s
  | .reportBuilt stream => Sys2Proof.Machine.execReportBuilt stream s
  | .mapOpen lk hdr => Sys2Proof.Machine.execMapOpen lk hdr s
  | .mapClose lk hdr => Sys2Proof.Machine.execMapClose lk hdr s
  | .mapCloseComplete ctx map => Sys2Proof.Machine.execMapCloseComplete ctx map s
  | .place lk hdr => Sys2Proof.Machine.execPlace lk hdr s
  | .pinPromotionRetry folio => Sys2Proof.Machine.execPinPromotionRetry folio s
  | .maintClean lk hdr slot1 => Sys2Proof.Machine.execMaintClean lk hdr slot1 s
  | .maintFlush lk hdr slot1 => Sys2Proof.Machine.execMaintFlush lk hdr slot1 s
  | .maintInvalidate lk hdr slot1 => Sys2Proof.Machine.execMaintInvalidate lk hdr slot1 s
  | .maintPromote lk hdr slot1 => Sys2Proof.Machine.execMaintPromote lk hdr slot1 s
  | .maintZero lk hdr slot1 => Sys2Proof.Machine.execMaintZero lk hdr slot1 s
  | .eventDone lk hdr => Sys2Proof.Machine.execEventDone lk hdr s
  | .tenantSet slot => Sys2Proof.Machine.execTenantSet slot s
  | .portBind slot => Sys2Proof.Machine.execPortBind slot s
  | .objCreate slot => Sys2Proof.Machine.execObjCreate slot s
  | .objResize slot => Sys2Proof.Machine.execObjResize slot s
  | .objPlace slot => Sys2Proof.Machine.execObjPlace slot s
  | .objDelete slot => Sys2Proof.Machine.execObjDelete slot s
  | .grantSet slot => Sys2Proof.Machine.execGrantSet slot s
  | .grantClear slot => Sys2Proof.Machine.execGrantClear slot s
  | .windowSet slot => Sys2Proof.Machine.execWindowSet slot s
  | .windowClear slot => Sys2Proof.Machine.execWindowClear slot s
  | .windowClearComplete n => Sys2Proof.Machine.execWindowClearComplete n s
  | .netHostSet slot => Sys2Proof.Machine.execNetHostSet slot s
  | .streamAbort slot => Sys2Proof.Machine.execStreamAbort slot s
  | .epochReportRead slot => Sys2Proof.Machine.execEpochReportRead slot s
  | .epochReportRelease slot => Sys2Proof.Machine.execEpochReportRelease slot s
  | .folioMaint slot => Sys2Proof.Machine.execFolioMaint slot s
  | .clrTen ten => Sys2Proof.Machine.execClrTen ten s
  | .fillInstall folio => Sys2Proof.Machine.execFillInstall folio s
  | .reshelveSelect folio => Sys2Proof.Machine.execReshelveSelect folio s
  | .evbSend tile => Sys2Proof.Machine.execEvbSend tile s
  | .victimWaitRelease stream => Sys2Proof.Machine.execVictimWaitRelease stream s
  | .hazardWaitRelease => Sys2Proof.Machine.execHazardWaitRelease s
  | .sweepVisit => Sys2Proof.Machine.execSweepVisit s
  | .fchDisable => Sys2Proof.Machine.execFchDisable s
  | .fchEnable => Sys2Proof.Machine.execFchEnable s
  | .fchModeTransitionDone => Sys2Proof.Machine.execFchModeTransitionDone s
  | .stkTrainAttempt link => Sys2Proof.Machine.execStkTrainAttempt link s
  | .stkLinkTrained link => Sys2Proof.Machine.execStkLinkTrained link s
  | .cellReceive link hdr body => Sys2Proof.Machine.execCellReceive link hdr body s
  | .cellReplayTimeout link => Sys2Proof.Machine.execCellReplayTimeout link s
  | .tileReadResponse link tag status trimmed bad recs => Sys2Proof.Machine.execTileReadResponse link tag status trimmed bad recs s
  | .tileWriteResponse link tag status => Sys2Proof.Machine.execTileWriteResponse link tag status s
  | .tileTrimResponse link tag status => Sys2Proof.Machine.execTileTrimResponse link tag status s
  | .shelfSealResponse link tag status => Sys2Proof.Machine.execShelfSealResponse link tag status s
  | .statusResponse link tag status payload => Sys2Proof.Machine.execStatusResponse link tag status payload s
  | .vaultBeginResponse link tag status => Sys2Proof.Machine.execVaultBeginResponse link tag status s
  | .vaultBeginRetry link => Sys2Proof.Machine.execVaultBeginRetry link s
  | .heartbeat link count => Sys2Proof.Machine.execHeartbeat link count s
  | .stkRequestTimeout link tag => Sys2Proof.Machine.execStkRequestTimeout link tag s
  | .stkLinkLost link => Sys2Proof.Machine.execStkLinkLost link s
  | .stkRetrain link => Sys2Proof.Machine.execStkRetrain link s
  | .sledAdopt slot => Sys2Proof.Machine.execSledAdopt slot s
  | .refreshDue ch => Sys2Proof.Machine.execRefreshDue ch s
  | .tempPollMr4 ch temps => Sys2Proof.Machine.execTempPollMr4 ch temps s
  | .tempPollSpd ch temps => Sys2Proof.Machine.execTempPollSpd ch temps s
  | .parityAlert ch replay => Sys2Proof.Machine.execParityAlert ch replay s
  | .parityAlertTimeout ch => Sys2Proof.Machine.execParityAlertTimeout ch s
  | .retrainPause ch rank lane margin => Sys2Proof.Machine.execRetrainPause ch rank lane margin s
  | .retrainNow ch => Sys2Proof.Machine.execRetrainNow ch s
  | .fchg ch => Sys2Proof.Machine.execFchg ch s
  | .fchgComplete ch good => Sys2Proof.Machine.execFchgComplete ch good s
  | .scrubLine ch => Sys2Proof.Machine.execScrubLine ch s
  | .remapPersist ch entry => Sys2Proof.Machine.execRemapPersist ch entry s
  | .scrubNow => Sys2Proof.Machine.execScrubNow s
  | .lprBist => Sys2Proof.Machine.execLprBist s
  | .rawRead path => Sys2Proof.Machine.execRawRead path s
  | .rawWrite path => Sys2Proof.Machine.execRawWrite path s
  | .injectArm path => Sys2Proof.Machine.execInjectArm path s
  | .deviceDead slot => Sys2Proof.Machine.execDeviceDead slot s
  | .lineRemap slot => Sys2Proof.Machine.execLineRemap slot s
  | .tvlTrainAttempt lk => Sys2Proof.Machine.execTvlTrainAttempt lk s
  | .equalisationDone lk pol => Sys2Proof.Machine.execEqualisationDone lk pol s
  | .eqTimeout lk => Sys2Proof.Machine.execEqTimeout lk s
  | .alignDone lk reversed => Sys2Proof.Machine.execAlignDone lk reversed s
  | .alignTimeout lk => Sys2Proof.Machine.execAlignTimeout lk s
  | .configFlit lk block => Sys2Proof.Machine.execConfigFlit lk block s
  | .configTimeout lk => Sys2Proof.Machine.execConfigTimeout lk s
  | .flitReceive lk hdr slots crc bad fixed => Sys2Proof.Machine.execFlitReceive lk hdr slots crc bad fixed s
  | .replayTimeout lk => Sys2Proof.Machine.execReplayTimeout lk s
  | .flitLossTimeout lk => Sys2Proof.Machine.execFlitLossTimeout lk s
  | .recoveryRegained lk ackseq => Sys2Proof.Machine.execRecoveryRegained lk ackseq s
  | .recoveryTimeout lk => Sys2Proof.Machine.execRecoveryTimeout lk s
  | .partnerLoss lk => Sys2Proof.Machine.execPartnerLoss lk s
  | .lostIdleDone lk => Sys2Proof.Machine.execLostIdleDone lk s
  | .tvlDisable port => Sys2Proof.Machine.execTvlDisable port s
  | .tvlRetrain port half => Sys2Proof.Machine.execTvlRetrain port half s
  | .ethFrameReceive port len fcsOk pcp dscp kind fixed bad => Sys2Proof.Machine.execEthFrameReceive port len fcsOk pcp dscp kind fixed bad s
  | .pfcFrame port quanta => Sys2Proof.Machine.execPfcFrame port quanta s
  | .pfcPauseExpiry port prio => Sys2Proof.Machine.execPfcPauseExpiry port prio s
  | .pfcWatchdogTrigger port prio => Sys2Proof.Machine.execPfcWatchdogTrigger port prio s
  | .pfcWatchdogRecover port prio => Sys2Proof.Machine.execPfcWatchdogRecover port prio s
  | .ethPortUp port => Sys2Proof.Machine.execEthPortUp port s
  | .ethPortDown port cause => Sys2Proof.Machine.execEthPortDown port cause s
  | .arpRequest port target => Sys2Proof.Machine.execArpRequest port target s
  | .neighborSolicit port target => Sys2Proof.Machine.execNeighborSolicit port target s
  | .icmpEcho port dst => Sys2Proof.Machine.execIcmpEcho port dst s
  | .gratuitousArpTimer => Sys2Proof.Machine.execGratuitousArpTimer s
  | .cmReq port dst src comm qpn psn0 sid mtu rc => Sys2Proof.Machine.execCmReq port dst src comm qpn psn0 sid mtu rc s
  | .cmRtu port dst q => Sys2Proof.Machine.execCmRtu port dst q s
  | .cmRtsTimeout q => Sys2Proof.Machine.execCmRtsTimeout q s
  | .cmDreq port dst q => Sys2Proof.Machine.execCmDreq port dst q s
  | .cmRej port dst q => Sys2Proof.Machine.execCmRej port dst q s
  | .rdmaWriteFirst port p => Sys2Proof.Machine.execRdmaWriteFirst port p s
  | .rdmaWriteMiddle port p => Sys2Proof.Machine.execRdmaWriteMiddle port p s
  | .rdmaWriteLast port p => Sys2Proof.Machine.execRdmaWriteLast port p s
  | .rdmaWriteLastImm port p => Sys2Proof.Machine.execRdmaWriteLastImm port p s
  | .rdmaWriteOnly port p => Sys2Proof.Machine.execRdmaWriteOnly port p s
  | .rdmaWriteOnlyImm port p => Sys2Proof.Machine.execRdmaWriteOnlyImm port p s
  | .rdmaReadRequest port p => Sys2Proof.Machine.execRdmaReadRequest port p s
  | .cmpSwap port p => Sys2Proof.Machine.execCmpSwap port p s
  | .fetchAdd port p => Sys2Proof.Machine.execFetchAdd port p s
  | .roceCmdClose port p => Sys2Proof.Machine.execRoceCmdClose port p s
  | .roceCmdQueryState port p => Sys2Proof.Machine.execRoceCmdQueryState port p s
  | .roceCmdQueryLine port p => Sys2Proof.Machine.execRoceCmdQueryLine port p s
  | .roceCmdQueryReport port p => Sys2Proof.Machine.execRoceCmdQueryReport port p s
  | .roceCmdRelease port p => Sys2Proof.Machine.execRoceCmdRelease port p s
  | .roceCmdNop port p => Sys2Proof.Machine.execRoceCmdNop port p s
  | .contextFetchDone q => Sys2Proof.Machine.execContextFetchDone q s
  | .qpStallRelease q => Sys2Proof.Machine.execQpStallRelease q s
  | .qpErrorFreeTimeout q => Sys2Proof.Machine.execQpErrorFreeTimeout q s
  | .cnpReceived port dst qpn => Sys2Proof.Machine.execCnpReceived port dst qpn s
  | .cirSchedLoad slot => Sys2Proof.Machine.execCirSchedLoad slot s
  | .cirSchedUnload slot => Sys2Proof.Machine.execCirSchedUnload slot s
  | .cirStreamSet slot => Sys2Proof.Machine.execCirStreamSet slot s
  | .cirStreamRetarget slot => Sys2Proof.Machine.execCirStreamRetarget slot s
  | .cirStreamStart slot => Sys2Proof.Machine.execCirStreamStart slot s
  | .cirStreamStop slot => Sys2Proof.Machine.execCirStreamStop slot s
  | .cirConsumerReq port dst src comm qpn sid mtu stream slots va rkey rc => Sys2Proof.Machine.execCirConsumerReq port dst src comm qpn sid mtu stream slots va rkey rc s
  | .tileFetchDone stream => Sys2Proof.Machine.execTileFetchDone stream s
  | .cirTileSend stream => Sys2Proof.Machine.execCirTileSend stream s
  | .cirTileAck stream psn => Sys2Proof.Machine.execCirTileAck stream psn s
  | .freedPoll stream => Sys2Proof.Machine.execFreedPoll stream s
  | .freedReadResponse stream value => Sys2Proof.Machine.execFreedReadResponse stream value s
  | .tickKeepalive stream => Sys2Proof.Machine.execTickKeepalive stream s
  | .lateWaitTimeout stream => Sys2Proof.Machine.execLateWaitTimeout stream s
  | .completionAck stream => Sys2Proof.Machine.execCompletionAck stream s
  | .cirQpError stream => Sys2Proof.Machine.execCirQpError stream s
  | .cirRateRecover stream => Sys2Proof.Machine.execCirRateRecover stream s
  | .twinLinkLost => Sys2Proof.Machine.execTwinLinkLost s
  | .wFull stream line ssn kind result data => Sys2Proof.Machine.execWFull stream line ssn kind result data s
  | .wMasked stream line ssn mask data => Sys2Proof.Machine.execWMasked stream line ssn mask data s
  | .wAtomic stream line ssn aop off a b => Sys2Proof.Machine.execWAtomic stream line ssn aop off a b s
  | .wZero stream line ssn => Sys2Proof.Machine.execWZero stream line ssn s
  | .twinEpochFrame stream eop cause mode fin setMode epoch => Sys2Proof.Machine.execTwinEpochFrame stream eop cause mode fin setMode epoch s
  | .twinSsnFrame stream ssn => Sys2Proof.Machine.execTwinSsnFrame stream ssn s
  | .twinServiceFrame svc result => Sys2Proof.Machine.execTwinServiceFrame svc result s
  | .twinFillFrame folio => Sys2Proof.Machine.execTwinFillFrame folio s
  | .rsLine line tag data => Sys2Proof.Machine.execRsLine line tag data s
  | .rsTrim tile => Sys2Proof.Machine.execRsTrim tile s
  | .rsState item => Sys2Proof.Machine.execRsState item s
  | .rsRegion region => Sys2Proof.Machine.execRsRegion region s
  | .rsEnd => Sys2Proof.Machine.execRsEnd s
  | .resyncRegionCopy => Sys2Proof.Machine.execResyncRegionCopy s
  | .applied mseq => Sys2Proof.Machine.execApplied mseq s
  | .result mseq casOk old => Sys2Proof.Machine.execResult mseq casOk old s
  | .digest stream epoch skipped crc mseq => Sys2Proof.Machine.execDigest stream epoch skipped crc mseq s
  | .digestTimeout stream => Sys2Proof.Machine.execDigestTimeout stream s
  | .twinStatus free stage mseq => Sys2Proof.Machine.execTwinStatus free stage mseq s
  | .statusTimer => Sys2Proof.Machine.execStatusTimer s
  | .fault cause mseq => Sys2Proof.Machine.execFault cause mseq s
  | .diverge regions => Sys2Proof.Machine.execDiverge regions s
  | .appliedStall => Sys2Proof.Machine.execAppliedStall s
  | .leaseTimer => Sys2Proof.Machine.execLeaseTimer s
  | .lease gen renew mseq => Sys2Proof.Machine.execLease gen renew mseq s
  | .leaseAck gen renew => Sys2Proof.Machine.execLeaseAck gen renew s
  | .leaseDrop gen mseq reason => Sys2Proof.Machine.execLeaseDrop gen mseq reason s
  | .leaseLapse => Sys2Proof.Machine.execLeaseLapse s
  | .leaseViewExpiry => Sys2Proof.Machine.execLeaseViewExpiry s
  | .fence gen reason => Sys2Proof.Machine.execFence gen reason s
  | .hello gen wasHolder stateOk vaultOk role diverge => Sys2Proof.Machine.execHello gen wasHolder stateOk vaultOk role diverge s
  | .join gen accept reason => Sys2Proof.Machine.execJoin gen accept reason s
  | .hbPulseOut => Sys2Proof.Machine.execHbPulseOut s
  | .hbPulseIn ns => Sys2Proof.Machine.execHbPulseIn ns s
  | .hbAbsent => Sys2Proof.Machine.execHbAbsent s
  | .claimTimer => Sys2Proof.Machine.execClaimTimer s
  | .bootTimeout => Sys2Proof.Machine.execBootTimeout s
  | .witnessRenewTimer => Sys2Proof.Machine.execWitnessRenewTimer s
  | .witnessRetry => Sys2Proof.Machine.execWitnessRetry s
  | .witnessGrant msg => Sys2Proof.Machine.execWitnessGrant msg s
  | .witnessDenyHeld msg => Sys2Proof.Machine.execWitnessDenyHeld msg s
  | .witnessDenyStale msg => Sys2Proof.Machine.execWitnessDenyStale msg s
  | .twinJoin slot => Sys2Proof.Machine.execTwinJoin slot s
  | .twinHandover slot => Sys2Proof.Machine.execTwinHandover slot s
  | .twinTakeover slot => Sys2Proof.Machine.execTwinTakeover slot s
  | .twinFence slot => Sys2Proof.Machine.execTwinFence slot s
  | .bufferAlloc owner pool n upsize lossless tenant => Sys2Proof.Machine.execBufferAlloc owner pool n upsize lossless tenant s
  | .bufferReturn ptr owner => Sys2Proof.Machine.execBufferReturn ptr owner s
  | .bufferWaitRetry k => Sys2Proof.Machine.execBufferWaitRetry k s
  | .intClaim t => Sys2Proof.Machine.execIntClaim t s
  | .intComplete t n => Sys2Proof.Machine.execIntComplete t n s
  | .intSwset n => Sys2Proof.Machine.execIntSwset n s
  | .intSrcWrite n tgtSet value => Sys2Proof.Machine.execIntSrcWrite n tgtSet value s
  | .mbDoorbell slot => Sys2Proof.Machine.execMbDoorbell slot s
  | .serviceComplete slot => Sys2Proof.Machine.execServiceComplete slot s
  | .ackRestart => Sys2Proof.Machine.execAckRestart s
  | .imageWrite slot => Sys2Proof.Machine.execImageWrite slot s
  | .imageVerify slot => Sys2Proof.Machine.execImageVerify slot s
  | .imageReload slot => Sys2Proof.Machine.execImageReload slot s
  | .imageFloor slot => Sys2Proof.Machine.execImageFloor slot s
  | .fwWrite slot => Sys2Proof.Machine.execFwWrite slot s
  | .fwActivate slot => Sys2Proof.Machine.execFwActivate slot s
  | .fwConfirmTimer => Sys2Proof.Machine.execFwConfirmTimer s
  | .registerWrite path be addr value => Sys2Proof.Machine.execRegisterWrite path be addr value s
  | .unmappedAccess path window offset write => Sys2Proof.Machine.execUnmappedAccess path window offset write s
  | .idataAccess path iaddr write value => Sys2Proof.Machine.execIdataAccess path iaddr write value s
  | .counterSnap path window => Sys2Proof.Machine.execCounterSnap path window s
  | .flashRead addr n => Sys2Proof.Machine.execFlashRead addr n s
  | .flashProgram addr data => Sys2Proof.Machine.execFlashProgram addr data s
  | .flashErase addr => Sys2Proof.Machine.execFlashErase addr s
  | .flashEraseDone bank good => Sys2Proof.Machine.execFlashEraseDone bank good s
  | .flashEraseResume => Sys2Proof.Machine.execFlashEraseResume s
  | .daybookRecord code words => Sys2Proof.Machine.execDaybookRecord code words s
  | .daybookProgram => Sys2Proof.Machine.execDaybookProgram s
  | .hoursCheckpoint => Sys2Proof.Machine.execHoursCheckpoint s
  | .dbkWin15Read => Sys2Proof.Machine.execDbkWin15Read s
  | .dbkSeqLoRead => Sys2Proof.Machine.execDbkSeqLoRead s
  | .unlockChallenge path purpose => Sys2Proof.Machine.execUnlockChallenge path purpose s
  | .unlockSubmit path => Sys2Proof.Machine.execUnlockSubmit path s
  | .unlockRelock path => Sys2Proof.Machine.execUnlockRelock path s
  | .challengeExpiry => Sys2Proof.Machine.execChallengeExpiry s
  | .provisionCommit => Sys2Proof.Machine.execProvisionCommit s
  | .fuseBurnDone good => Sys2Proof.Machine.execFuseBurnDone good s
  | .kceRequest who slot use msg mac => Sys2Proof.Machine.execKceRequest who slot use msg mac s
  | .kceRequestDone => Sys2Proof.Machine.execKceRequestDone s
  | .sbTransaction ch addr bytes lost ack pecOk hang => Sys2Proof.Machine.execSbTransaction ch addr bytes lost ack pecOk hang s
  | .sbIdleCheck ch scl sda readings => Sys2Proof.Machine.execSbIdleCheck ch scl sda readings s
  | .sbStuckRetry ch scl sda readings => Sys2Proof.Machine.execSbStuckRetry ch scl sda readings s
  | .sbAttention ch addrs => Sys2Proof.Machine.execSbAttention ch addrs s
  | .sbTimeout ch => Sys2Proof.Machine.execSbTimeout ch s
  | .sbtWrite bytes => Sys2Proof.Machine.execSbtWrite bytes s
  | .sbtRead n => Sys2Proof.Machine.execSbtRead n s
  | .sbtSclTimeout => Sys2Proof.Machine.execSbtSclTimeout s
  | .laneTestSet path value => Sys2Proof.Machine.execLaneTestSet path value s
  | .laneInject path => Sys2Proof.Machine.execLaneInject path s
  | .dftClr path => Sys2Proof.Machine.execDftClr path s
  | .dramBusTest path ch mode => Sys2Proof.Machine.execDramBusTest path ch mode s
  | .dramBusTestDone missed falseAlerts errs => Sys2Proof.Machine.execDramBusTestDone missed falseAlerts errs s
  | .jtagInstruction op => Sys2Proof.Machine.execJtagInstruction op s
  | .dbgAccess write addr value => Sys2Proof.Machine.execDbgAccess write addr value s
  | .alertNHigh ch => Sys2Proof.Machine.execAlertNHigh ch s
  | .railPgFall rail => Sys2Proof.Machine.execRailPgFall rail s
  | .checkerLock lane inverted => Sys2Proof.Machine.execCheckerLock lane inverted s
  | .checkerLockLoss lane bits errs => Sys2Proof.Machine.execCheckerLockLoss lane bits errs s
  | .lprBistDone good pair vector => Sys2Proof.Machine.execLprBistDone good pair vector s
  | .flashProgramDone bank good => Sys2Proof.Machine.execFlashProgramDone bank good s
  | .msixControlWrite enable mask0 mask1 => Sys2Proof.Machine.execMsixControlWrite enable mask0 mask1 s
  | .cmMra port dst q => Sys2Proof.Machine.execCmMra port dst q s
  | .cirNak stream psn syn => Sys2Proof.Machine.execCirNak stream psn syn s
  | .cirRnrRetry stream => Sys2Proof.Machine.execCirRnrRetry stream s
  | .cirAckTimeout stream => Sys2Proof.Machine.execCirAckTimeout stream s

end Sys2Proof.Machine
end

