-- ==== Sys2Proof/Machine/Step.lean ====
section
/-! DEFINITION. One step: the command at the front of the queue, or a tick of the model's clock when none waits. -/

namespace Sys2Proof.Machine

/-- What a step does when no command waits (DESIGN CHOICE, log 1): a microsecond passes, with what comes about in it. -/
def idle (s : State) : State := clockTick s

/-- Takes the front command with the rest of the queue, or idles. -/
def step (s : State) : Host.Outcome State Fault Refusal :=
  match s.pending with
  | [] => .next (idle s)
  | c :: rest => exec c { s with pending := rest }

/-- Puts the command a word spells at the front of the queue: the table gives no bits, so no word spells one. -/
def State.withFetchWord (s : State) (nbits w : Nat) : State :=
  match decodeTableWord nbits w with
  | some c => { s with pending := c :: s.pending }
  | none => s

end Sys2Proof.Machine
end

