-- ==== Sys2Proof/Safety.lean ====
section
/-! DEFINITION. What statements about every command are said in: the part of the state that data traffic never writes,
and the canonical form of the addressed stores. -/

namespace Sys2Proof.Machine

/-- The state that neither data traffic nor the services of the mailbox write, besides the queue and the clock: register
settings and SNAP copies (R418), indirect addresses, DRAM controllers, supervisor (R369), security (R464), identity,
the sideband bus (chapter 21) and test (chapter 22). -/
structure Held where
  pending : List Instr
  timeUs : Nat
  regs : Tab W32
  sh : Tab W32
  iaddr : Tab W32
  dmc : DmcSt
  sup : SupSt
  sec : SecSt
  top : TopSt
  sbb : SbbSt
  dft : DftSt

/-- That part of a state. -/
def State.held (s : State) : Held :=
  ⟨s.pending, s.timeUs, s.regs, s.sh, s.iaddr, s.dmc, s.sup, s.sec, s.top, s.sbb, s.dft⟩

/-- The addressed stores outside the register file: DRAM lines, spare lines among them, and flash code words. -/
structure Stores where
  dram : Tab DLine
  flash : Tab FWord

/-- The stores of a state. -/
def State.stores (s : State) : Stores := ⟨s.lpr.dram, s.efl.words⟩

/-- Each store lists rising addresses, and nothing equal to what an unlisted address reads as. -/
def Stores.wf (m : Stores) : Bool :=
  Tab.wf (fun _ => {}) m.dram && Tab.wf (fun _ => .erased) m.flash

/-- The canonical form of the stores, the register file, the SNAP copies and the indirect addresses. -/
def Canon (s : State) : Prop :=
  s.stores.wf = true ∧ Tab.wf regReset s.regs = true ∧ Tab.wf (fun _ => (0 : W32)) s.sh = true
    ∧ Tab.wf (fun _ => (0 : W32)) s.iaddr = true

/-- Slot `n` taken off the doorbell order and RUNNING (R420). -/
def State.slotRunning (s : State) (n : Nat) : State :=
  ({ s with rgc := { s.rgc with queue := s.rgc.queue.erase n } }).setSlot n { s.slot n with st := 2, out := none }

/-- It is slot `n`'s turn (R420), it holds service `code` in good form (R422), and the service may run (R416, R419,
R421). -/
def State.turn (s : State) (n code : Nat) : Prop :=
  n < 16 ∧ s.mailServes = true ∧ s.isNext n = true ∧ (s.slot n).svc = code ∧ (s.slot n).formatOk = true
    ∧ (s.slotRunning n).mayServe n = true

/-- The own effect of command `c` takes `s` to `t`: exec answers `t` settled, that is, with what waited and may now go on
(answers, the twin's frames, roles, credits, pauses, interrupt lines) brought up to date. -/
def Does (c : Instr) (s t : State) : Prop := exec c s = .next (settle t)

/-! ### Who writes the held part -/

/-- The commands that may write the held part: resets, clocks, rails and power states, DRAM channel commands, lane trainings,
register accesses, unlocks and the key engine, the sideband bus, DFT. Every other command leaves it as it is. -/
def writesHeld : Instr → Bool
  | .coldReset | .vddAonLoss | .resetNAssert | .startUp _ | .startStepDone _ _ | .watchdogExpiry | .blockReset _
  | .refClockLost _ | .corePllUnlock _ | .xtalStopped | .onRequest | .offRequest | .railEnableTick _ | .railPgRise _
  | .railPgTimeout _ | .railPgDrop _ | .railDisableTick _ | .dischargeTimeout _ | .offWaitExpiry | .vaultRestartTimer
  | .buttonShortPress | .buttonLongPress | .buttonVeryLongPress | .vbtnShort | .vbtnLong | .vbtnVeryLong
  | .monitorSample _ _ | .monitorRefCheck _ _ | .marginGo _ _ | .pwrStateService _ | .pwrStateQuiesce _
  | .pwrStateStandby _ | .pwrStateOff _ | .trimFchgTick | .holdupAlert _ | .vaultFinish | .stkLinkTrained _
  | .tempPollMr4 _ _ | .tempPollSpd _ _ | .parityAlert _ _ | .parityAlertTimeout _ | .retrainPause _ _ _ _
  | .retrainNow _ | .fchg _ | .fchgComplete _ _ | .equalisationDone _ _ | .tvlDisable _ | .tvlRetrain _ _
  | .ethPortUp _ | .intSrcWrite _ _ _ | .imageVerify _ | .imageReload _ | .fwActivate _ | .registerWrite _ _ _ _
  | .unmappedAccess _ _ _ _ | .idataAccess _ _ _ _ | .counterSnap _ _ | .dbkWin15Read | .unlockChallenge _ _
  | .unlockSubmit _ | .unlockRelock _ | .challengeExpiry | .provisionCommit | .fuseBurnDone _ | .kceRequest _ _ _ _ _
  | .kceRequestDone | .sbTransaction _ _ _ _ _ _ _ | .sbIdleCheck _ _ _ _ | .sbStuckRetry _ _ _ _ | .sbAttention _ _
  | .sbTimeout _ | .sbtWrite _ | .sbtRead _ | .sbtSclTimeout | .laneTestSet _ _ | .dftClr _ | .dramBusTest _ _ _
  | .dramBusTestDone _ _ _ | .jtagInstruction _ | .dbgAccess _ _ _ | .alertNHigh _ | .railPgFall _ | .checkerLock _ _
  | .checkerLockLoss _ _ _ => true
  | _ => false

/-! ### The words of the statements by family -/

/-- The format of a folio-maintenance message (R71, R217). -/
def maintFormat (hdr slot1 : BitVec 128) : Bool :=
  tvShape hdr 0 2 false 0x60 && zeroBits hdr 31 29 && zeroBits hdr 127 100 && decide (hMop hdr ≤ 4) && zeroBits slot1 127 60
    && !slot1.getLsbD 31 && (hMop hdr == 4 || zeroBits slot1 59 32)

/-- Maintenance of every folio of a range, in ascending order, answered once all are done (R140). -/
def State.maintAll (s : State) (src : Src) (lk mop lpa len : Nat) (hdr : BitVec 128) : State :=
  (s.openGrp src (maintFolios lpa len).length).1.maintAsk ((maintFolios lpa len).map (fun f =>
    { src := .grp s.tqm.nextGrp, mop := mop, folio := f, ctx := lk, map := hMap hdr, order := s.epo.arrivals }))

/-- A message of EPOCH operation `eop` passes the link's gate as `u`, with `src` to be answered, and names stream `i` (R217,
R65). -/
def EpochTurn (s : State) (lk eop : Nat) (hdr : BitVec 128) (u : State) (src : Src) (i : Nat) : Prop :=
  hEop hdr = eop ∧ s.tvGate lk hdr (epochFormat hdr) = .go u src true ∧ u.flag fEPO_CTRL_ENABLE = true
    ∧ u.tvStream lk (hStream hdr) = some i

/-- The format of a MAP OPEN (R217). -/
def mapOpenFormat (hdr : BitVec 128) : Bool :=
  tvShape hdr 0 1 false 0x50 && zeroBits hdr 31 29 && decide (bitsOf hdr.toNat 35 32 ≤ 1) && zeroBits hdr 47 36
    && zeroBits hdr 127 115

/-- The format of a MAP CLOSE (R217). -/
def mapCloseFormat (hdr : BitVec 128) : Bool :=
  tvShape hdr 0 1 false 0x50 && zeroBits hdr 31 29 && decide (bitsOf hdr.toNat 35 32 ≤ 1) && zeroBits hdr 127 48

/-- The format of a PLACE (R217). -/
def placeFormat (hdr : BitVec 128) : Bool :=
  tvShape hdr 0 1 false 0x58 && zeroBits hdr 31 29 && zeroBits hdr 96 44 && zeroBits hdr 127 99

/-- The rows that ring a kind-M service of the mailbox, with the SVC code of R423. -/
def mailM : List (Nat × (Nat → Instr)) := [
  (0x01, .tenantSet), (0x02, .portBind), (0x03, .objCreate), (0x04, .objResize), (0x05, .objPlace), (0x06, .objDelete),
  (0x07, .grantSet), (0x08, .grantClear), (0x09, .windowSet), (0x0A, .windowClear), (0x0B, .netHostSet),
  (0x11, .epochReportRelease), (0x12, .streamAbort), (0x20, .cirSchedLoad), (0x21, .cirSchedUnload), (0x22, .cirStreamSet),
  (0x23, .cirStreamRetarget), (0x24, .cirStreamStart), (0x25, .cirStreamStop)]

/-- A packet of opcode `op` for client queue pair `q` is accepted at port `e` (R267, R280), is not damaged and not marked CE,
is addressed to the unit, and its context is at hand in RTS with nothing in front of it (R284, R285); `u` is the state then, with
the packet counted and charged, `w` the packet with its buffer. -/
def Delivered (s : State) (e op : Nat) (p : RPkt) (q : Nat) (w : QWait) (u : State) : Prop :=
  s.nreServes e = true ∧ q < 1048576 ∧ p.qpn = 0x100000 + q ∧ p.icrcBad = false ∧ p.ce = false ∧
  w = { port := e, mark := w.mark, buf := w.buf, op := op, pkt := p } ∧
  ∃ v r a, s.takeFrame e (p.payload.length + 62) (some 0) = (v, some (w.mark, w.buf)) ∧
    r = (v.bump rNRE_CNT_RX_PKT).spend (v.stream (qpStream q)).tenant 5 1 ∧
    r.addrOn e p.dst = some a ∧ (a.floating = false ∨ r.floatsHere = true) ∧ (r.qp q).circ = false ∧ (r.qp q).st = 2 ∧
    r.carded q = true ∧ u = (r.card q).1 ∧ (u.qp q).waiting = [] ∧ u.qpBusy q op = false ∧ (u.qp q).st = 2 ∧
    (u.qp q).out.all (fun o => match o.kind with | .nak .. => false | _ => true) = true

/-- The packet is the next one (R281); `u` is the state with what R281 and R290 hold of it ended. -/
def Expected (s : State) (e op : Nat) (p : RPkt) (q : Nat) (w : QWait) (u : State) : Prop :=
  ∃ v, Delivered s e op p q w v ∧ (v.qp q).epsn = p.psn ∧ u = v.setQp q { v.qp q with seqAt := none, rnr := none }

/-- A write or an ATOMIC of `tenant` goes on without waiting: its buffer is charged (R353), the solo rule does not hold it, and
the reading room is not in use, so its folios need not be brought in (R286). -/
def Goes (u : State) (q : Nat) (w : QWait) (tenant : Nat) (v : State) : Prop :=
  u.chargeBuf w.buf tenant = some v ∧ (v.stream (qpStream q)).mode = false ∧ v.fch.mode ≠ 1

/-- The queue pair's state after a READ that is not a duplicate (R281, R282). -/
def qpAfterRead (x : Qp) (p : RPkt) : Qp :=
  { x with
    epsn := (x.epsn + max 1 (ceilDiv p.len (mtuBytes x.pmtu))) % 2 ^ 24
    msn := (x.msn + 1) % 2 ^ 24
    recs := keepRecs (x.recs ++ [(p.psn, none)])
    stall := false
    rnr := none
    seqAt := none }

/-- The queue pair's state after an ATOMIC that is not a duplicate (R281, R282). -/
def qpAfterAtomic (x : Qp) (p : RPkt) : Qp :=
  { x with
    epsn := (x.epsn + 1) % 2 ^ 24
    msn := (x.msn + 1) % 2 ^ 24
    recs := keepRecs (x.recs ++ [(p.psn, none)])
    stall := false
    rnr := none
    seqAt := none }

/-- A field of a 32-byte command. -/
def cmdField (p : RPkt) (a n : Nat) : Nat := leNat ((p.payload.drop a).take n)

/-- The state of the queue pair that a command leaves (R276, R281). -/
def qpAfterCmd (x : Qp) : Qp :=
  { x with
    epsn := (x.epsn + 1) % 2 ^ 24
    msn := (x.msn + 1) % 2 ^ 24
    stall := false
    rnr := none
    seqAt := none }

/-- A command is answered. -/
def State.cmdAnswer (s : State) (q : Nat) (w : QWait) (a : Ans) : State :=
  let r := s.qpPush q { psn := w.pkt.psn, kind := .cmd w.pkt.ackReq, port := w.port, mark := w.mark, buf := w.buf }
  r.1.qpAnswered q r.2 a

/-- The sequenced frame of the mirror stream that a command is (R321). -/
def mirrorOf : Instr → Option MFrame
  | .wFull stream line ssn kind result data => some (.wFull stream line ssn kind result data)
  | .wMasked stream line ssn mask data => some (.wMasked stream line ssn mask data)
  | .wAtomic stream line ssn aop off a b => some (.wAtomic stream line ssn aop off a b)
  | .wZero stream line ssn => some (.wZero stream line ssn)
  | .twinEpochFrame stream eop cause mode fin setMode epoch => some (.epoch stream eop cause mode fin setMode epoch)
  | .twinSsnFrame stream ssn => some (.ssn stream ssn)
  | .twinServiceFrame svc result => some (.service svc result 0)
  | .twinFillFrame folio => some (.fill folio)
  | .rsLine line tag data => some (.rsLine line tag data)
  | .rsTrim tile => some (.rsTrim tile)
  | .rsState item => some (.rsState item)
  | .rsRegion region => some (.rsRegion region)
  | .rsEnd => some .rsEnd
  | _ => none

/-- Words 0 to 7 of a HELLO as the indirect space shows them (R322). -/
def helloWords (gen : Nat) (wasHolder stateOk vaultOk : Bool) (role diverge : Nat) : List Nat :=
  words2 ((2 + 2 * 4 + 0xA4 * 2 ^ 8 + gen * 2 ^ 16 + b2n wasHolder * 2 ^ 48 + b2n stateOk * 2 ^ 49 + b2n vaultOk * 2 ^ 50
    + role * 2 ^ 51) % 2 ^ 64) ++ [0, 0] ++ words2 diverge ++ [0, 0]

/-- `s` with the HELLO just received kept for the indirect space. -/
def State.helloKept (s : State) (gen : Nat) (wasHolder stateOk vaultOk : Bool) (role diverge : Nat) : State :=
  { s with twn := { s.twn with lastHello := helloWords gen wasHolder stateOk vaultOk role diverge } }

end Sys2Proof.Machine
end

