-- ==== Sys2Proof/Certificates/Slice0/Obligations.lean ====
section
/-! DEFINITION. The statements for the provers. -/

open Sys2Proof Sys2Proof.Machine

/-- A step with a command at the front of the queue is exec of that command on the state with the rest of the queue. On an
empty queue a microsecond passes: the registrar repairs the shelf table, the DRAM channels issue what they have queued, each
millisecond the HEARTBEATs of the stack links go out, and an orderly off whose handover has ended goes on to its vault.
What an empty queue does is the model's choice (log entries 1, 106 and 111). -/
def Obligations.StepTakesTheFrontCommand : Prop :=
  (∀ (c : Instr) (q : List Instr) (s : State), step { s with pending := c :: q } = exec c { s with pending := q }) ∧
  (∀ s : State, s.pending = [] → s.sup.offAfter = false → s.shelfBad = false → s.lpr.wq = [] → s.lpr.retry = [] → s.dmc.chs = [] →
      (s.timeUs + 1) % 1000 ≠ 0 → step s = .next { s with timeUs := s.timeUs + 1 }) ∧
  (∀ s u v : State, s.pending = [] → u = ({ s with timeUs := s.timeUs + 1 }).shelfRepair.dmcTick →
      v = (if u.timeUs % 1000 = 0 then (u.stk.links.map (·.1)).foldl State.stkBeat u else u) →
      (v.sup.offAfter = false ∨ v.twn.handover ≠ none → step s = .next v) ∧
      (v.sup.offAfter = true → v.twn.handover = none → step s = .next (settle (v.vaultTo .off 4))))

/-- The state after a Cold reset before any image: the stores, register file, copies and indirect addresses in canonical
form, the queue empty, every register at its reset value, every counter 0, every mailbox slot FREE with RESTARTED set,
the unit UNPAIRED, the ports closed, FAULT_N released (R18), every stream IDLE with last epoch 0, every way INVALID, every link
DOWN, every rail off. That the flash is erased and that the unit is UNPAIRED before an image says otherwise are the
model's (log entries 7 and 5). -/
def Obligations.ResetState : Prop :=
  Canon State.reset ∧ State.reset.pending = [] ∧ (∀ a, State.reset.reg a = regReset a) ∧ (∀ a, State.reset.count a = 0) ∧
  (∀ n, (State.reset.slot n).st = 0) ∧ State.reset.rgc.restarted = true ∧ State.reset.twn.role = .unpaired ∧
  State.reset.ports = false ∧ State.reset.faultPin = .highZ ∧ (∀ i, (State.reset.stream i).st = .idle) ∧
  (∀ i, (State.reset.stream i).epoch = 0) ∧ (∀ k, (State.reset.way k).st = 0) ∧ (∀ lk, (State.reset.tvl_ lk).st = 0) ∧
  (∀ n, (State.reset.rail n).en = false) ∧ (∀ a, State.reset.fword a = .erased)

/-- The stores (DRAM lines, spare lines, flash code words), the register file, the SNAP copies and the indirect addresses
list rising addresses and nothing equal to what an unlisted address reads as; every step from any such state, by any
command or by the tick, leads to such a state. -/
def Obligations.EveryStepKeepsTheCanonicalForm : Prop :=
  ∀ s t : State, Canon s → step s = .next t → Canon t

/-- From every state in canonical form every command of the table answers a next state, never a fault or a refusal; that
state is in canonical form and its queue is the one exec was given. -/
def Obligations.EveryCommandAnswersANextState : Prop :=
  ∀ (c : Instr) (s : State), Canon s → ∃ t, exec c s = .next t ∧ Canon t ∧ t.pending = s.pending

/-- The 232 commands that writesHeld does not list (data traffic on the Tvedfy, RoCE, stack and twin links, circulation,
buffer pools, the mailbox and all its services but the power states and images, flash calls, the daybook) answer a
next state with the held part unchanged: the queue, the clock, register settings, SNAP copies, indirect addresses,
DRAM channels, supervisor, security, identity, sideband and test state. This is the frame of every statement about one
of them, from every state whose stores are in canonical form. -/
def Obligations.TrafficLeavesTheHeldPart : Prop :=
  ∀ (c : Instr) (s : State), writesHeld c = false → s.stores.wf = true →
    ∃ t, exec c s = .next t ∧ t.held = s.held ∧ t.stores.wf = true

/-- A line written while its channel serves and no injection is armed reads back as data and tag, whatever is remapped or
erased (R192, R200, R203); with no line remapped, a write leaves what every other line reads as; a failed channel's
lines and lines never written cannot be read (R181, R200). -/
def Obligations.LinesReadBack : Prop :=
  (∀ (s : State) (a : Nat) (d : Line) (t : Tag), a < deskKey * 32 → s.lpr.armed = false → s.chFailed (s.chanOf a) = false →
      (s.putLine a d t).peek a = .good d t []) ∧
  (∀ (s : State) (a b : Nat) (d : Line) (t : Tag), s.lpr.remap = [] → b ≠ a → (s.putLine a d t).peek b = s.peek b) ∧
  (∀ (s : State) (a : Nat), a < deskKey * 32 → s.chFailed (s.chanOf a) = true → s.peek a = .uncorrectable) ∧
  (∀ (s : State) (a : Nat), a < deskKey * 32 → s.lpr.remap = [] → s.dline a = {} → s.peek a = .uncorrectable)

/-- R221: the eighth replay in a row takes the link to RECOVERY; an earlier one leaves its state and is counted; an ACKSEQ
that advances starts the count again. -/
def Obligations.ReplayLimit : Prop :=
  (∀ (s : State) (lk : Nat), 7 ≤ (s.tvl_ lk).replays → ((s.tvReplay lk).tvl_ lk).st = 5) ∧
  (∀ (s : State) (lk : Nat), (s.tvl_ lk).replays < 7 → ((s.tvReplay lk).tvl_ lk).st = (s.tvl_ lk).st ∧
      ((s.tvReplay lk).tvl_ lk).replays = (s.tvl_ lk).replays + 1) ∧
  (∀ (s : State) (lk a : Nat), a < 4096 → (s.tvl_ lk).ackRx < 4096 → a ≠ (s.tvl_ lk).ackRx → (s.tvl_ lk).st = 4 →
      (a + 4096 - (s.tvl_ lk).ackRx) % 4096 ≤ ((s.tvl_ lk).fseq + 4096 - (s.tvl_ lk).ackRx) % 4096 →
      ((s.tvAck lk a).tvl_ lk).replays = 0 ∧ ((s.tvAck lk a).tvl_ lk).ackRx = a)

/-- R427: IMAGE_FLOOR raises RGC_IMAGE_FLOOR and writes it to the settings journal of the embedded flash; a floor below
the current one or above IMAGE_SEQ of the running image is answered DENIED and changes nothing else. -/
def Obligations.ImageFloor : Prop :=
  ∀ (s : State) (n f : Nat), s.turn n 0x43 → (s.slot n).arg 0 4 = f →
    (f < s.rgc.floor ∨ numAt s.rgc.header 12 4 < f → Does (.imageFloor n) s ((s.slotRunning n).svcOut n svcDENIED)) ∧
    (s.rgc.floor ≤ f → f ≤ numAt s.rgc.header 12 4 →
      Does (.imageFloor n) s ((({ s.slotRunning n with rgc := { (s.slotRunning n).rgc with floor := f } }).setting 0x0004 [f]).svcOut n
        svcOK))

/-- R420: a doorbell queues a FREE or DONE slot, whose DONE bit clears; writes to bytes 0 to 239 of a QUEUED or RUNNING
slot are ignored and they read back; a doorbell for one is ignored and counted; services of kinds M and L run one at a
time in doorbell order, read services in doorbell order among themselves; a finished slot becomes DONE, its DONE bit
is set and source 0x048 counts. An unknown SVC ends with UNSUPPORTED at SERVICE_COMPLETE, which the clause states as
the model's (log entry 21). -/
def Obligations.MailboxSlots : Prop :=
  (∀ (s : State) (n : Nat), n < 16 → (s.slot n).st = 0 ∨ (s.slot n).st = 3 →
      ∃ t, Does (.mbDoorbell n) s t ∧ (t.slot n).st = 1 ∧ (t.slot n).result = 0 ∧ (t.slot n).out = none ∧
        (t.slot n).words = (s.slot n).words ∧ t.rgc.queue = s.rgc.queue ++ [n] ∧ t.rgc.done = s.rgc.done.erase n ∧
        ∀ m, m ≠ n → t.slot m = s.slot m) ∧
  (∀ (s : State) (n : Nat), n < 16 → (s.slot n).st = 1 ∨ (s.slot n).st = 2 →
      Does (.mbDoorbell n) s (s.bumpFld fRGC_CNT_REJECT_DOORBELL)) ∧
  (∀ (s : State) (a v : Nat), (s.slot ((a - 0x701000) / 256)).st = 1 ∨ (s.slot ((a - 0x701000) / 256)).st = 2 →
      s.slotPut a v = s) ∧
  (∀ (s : State) (a v : Nat), a % 256 < 240 → (s.slot ((a - 0x701000) / 256)).st ≠ 1 → (s.slot ((a - 0x701000) / 256)).st ≠ 2 →
      s.slotPut a v = s.setSlot ((a - 0x701000) / 256) { s.slot ((a - 0x701000) / 256) with
        words := Tab.set (fun _ => (0 : W32)) (s.slot ((a - 0x701000) / 256)).words (a % 256 / 4) (BitVec.ofNat 32 v) }) ∧
  (∀ (s : State) (p a v : Nat), 0x701000 ≤ a → a < 0x702000 → a % 4 = 0 → s.writeReg p a v = s.slotPut a v ∧
      s.readReg p a = (s, s.slotWord_ a)) ∧
  (∀ (s : State) (a : Nat), a % 256 < 240 →
      s.slotWord_ a = (Tab.get (fun _ => (0 : W32)) (s.slot ((a - 0x701000) / 256)).words (a % 256 / 4)).toNat) ∧
  (∀ (s : State) (n : Nat), svcKind (s.slot n).svc ≠ 1 → s.isNext n = true →
      (s.rgc.queue.filter (fun k => !svcKind (s.slot k).svc == 1)).head? = some n ∧
      ∀ k < 16, (s.slot k).st = 2 → svcKind (s.slot k).svc = 1) ∧
  (∀ (s : State) (n : Nat), svcKind (s.slot n).svc = 1 → s.isNext n = true →
      (s.rgc.queue.filter (fun k => svcKind (s.slot k).svc == 1)).head? = some n) ∧
  (∀ (s : State) (n code : Nat) (f : MbSlot → State → State × Option SvcRes), s.isNext n = false → s.serve n code f = s) ∧
  (∀ (s : State) (n : Nat) (r : Nat × Nat × List Byte), n < 16 → (s.slot n).st = 2 → (s.slot n).out = some r →
      Does (.serviceComplete n) s (s.slotDone n r)) ∧
  (∀ (s : State) (n : Nat), n < 16 → (s.slot n).st = 1 → s.mailServes = true → s.isNext n = true → (s.slot n).unknown = true →
      Does (.serviceComplete n) s (s.slotDone n (7, 0, []))) ∧
  (∀ (s : State) (n : Nat) (r : Nat × Nat × List Byte), r.2.2.length ≤ 224 →
      ∃ u : State, s.slotDone n r = u.raise 0x048 ∧ (u.slot n).st = 3 ∧ (u.slot n).result = r.1 ∧ (u.slot n).reason = r.2.1 ∧
        (u.slot n).rlen = r.2.2.length ∧ n ∈ u.rgc.done ∧ ∀ m, m ≠ n → u.slot m = s.slot m)

/-- COLD_RESET resets everything and powers up when AUTO_ON is set (R396, R405); VDD_AON_LOSS releases every rail and
stops what runs (R379); RESET_N starts a Pin reset unless R398 ignores it; its release lets the start run (R397). -/
def Obligations.ResetCommands : Prop :=
  (∀ s : State, s.coldReset.readSupply.flag fSUP_CTRL_AUTO_ON = false →
      ∃ t, Does .coldReset s t ∧ t.pwr.st = .off ∧ t.sh = [] ∧ t.sup.seq = 0 ∧ t.sup.rails = [] ∧ t.ports = false
        ∧ t.fch.dir = [] ∧ t.epo.streams = [] ∧ t.sec.level = s.baseLevel) ∧
  (∀ s : State, s.coldReset.readSupply.flag fSUP_CTRL_AUTO_ON = true →
      Does .coldReset s s.coldReset.readSupply.onRequest) ∧
  (∀ s : State, ∃ t, Does .vddAonLoss s t ∧ t.sup.aon = false ∧ t.sup.rails = [] ∧ t.pwr.st = .off ∧ t.regs = []
        ∧ t.cnt = [] ∧ t.fch.dir = []) ∧
  (∀ s : State, s.sup.aon = true → s.cru.pinHeld = false → s.rsv.ph = .off → s.sup.seq = 2 →
      ∃ t, Does .resetNAssert s t ∧ t.cru.pinHeld = true ∧ t.cru.startDue = false ∧ t.cru.next = s.pinKind 1
        ∧ t.ports = false ∧ t.iaddr = [] ∧ t.sup = s.sup) ∧
  (∀ s : State, s.sup.aon = true → s.cru.pinHeld = false → s.rsv.ph ≠ .off ∨ s.sup.seq = 0 ∨ s.sup.seq = 3 ∨ s.sup.seq = 4 →
      Does .resetNAssert s ((s.bump rCRU_CNT_PIN_IGN).raise 0x045)) ∧
  (∀ s : State, s.cru.pinHeld = true →
      Does .resetNRelease s { s with cru := { s.cru with pinHeld := false, startDue := s.cru.startDue || decide (s.sup.seq = 2) } })

/-- A start begins at step 1 with its kind and what it keeps of DRAM (R402); a failed step ends it with record 0x473;
steps 2 and 11 leave what R402 says; the third watchdog expiry within 60 s halts the registrar (R401); the feed takes
0xFEED from the registrar alone; a Block reset of a block that has one is counted as done, another as refused (R400).
-/
def Obligations.StartAndWatchdog : Prop :=
  (∀ (s : State) (dimm : Bool), s.cru.startDue = true → s.cru.pinHeld = false → s.cru.xtalHeld = false → s.sup.seq = 2 →
      ∃ t, Does (.startUp dimm) s t ∧ t.cru.step = 1 ∧ t.cru.kind = s.cru.next ∧ t.cru.startDue = false ∧ t.cru.failed = false
        ∧ t.cru.next = 4 ∧ t.pwr.st = .starting
        ∧ t.cru.kept = (s.cru.next == 1 || s.cru.next == 2 || s.cru.next == 3 || (s.cru.next == 5 && dimm))) ∧
  (∀ (s : State) (cause : Nat) (r : StartRep), s.pwr.st = .starting → s.cru.failed = false → s.cru.pinHeld = false →
      s.cru.xtalHeld = false → cause ≠ 0 →
      Does (.startStepDone cause r) s
        (({ s with cru := { s.cru with failed := true }, ports := false }).note 0x473 [s.cru.step, cause])) ∧
  (∀ (s : State) (r : StartRep), s.pwr.st = .starting → s.cru.failed = false → s.cru.pinHeld = false →
      s.cru.xtalHeld = false → s.cru.step = 2 →
      ∃ t, Does (.startStepDone 0 r) s t ∧ t.cru.step = 3 ∧ t.cru.pllLock = 31 ∧ t.cru.fedAt = s.timeUs
        ∧ t.top.bootSel = s.top.bootPins ∧ t.top.vio33 = s.top.vioPin) ∧
  (∀ (s : State) (r : StartRep), s.pwr.st = .starting → s.cru.failed = false → s.cru.pinHeld = false →
      s.cru.xtalHeld = false → s.cru.step = 11 →
      ∃ t, Does (.startStepDone 0 r) s t ∧ t.pwr.st = .service ∧ t.cru.alive = true
        ∧ t.cru.startMs = (s.timeUs - s.dbk.startAt) / 1000 % 65536) ∧
  (∀ s : State, s.coreRuns = true → s.rgc.halted = false →
      2 ≤ (s.cru.expiries.filter (fun t => decide (s.timeUs < t + 60000000))).length →
      ∃ t, Does .watchdogExpiry s t ∧ t.rgc.halted = true ∧ 0 ∈ t.cru.fatal) ∧
  (∀ (s : State) (value : Nat), value % 65536 = 0xFEED →
      Does (.cruWdtFeed 1 value) s { s with cru := { s.cru with fedAt := s.timeUs } }) ∧
  (∀ (s : State) (path value : Nat), path ≠ 1 ∨ value % 65536 ≠ 0xFEED → Does (.cruWdtFeed path value) s s) ∧
  (∀ (s : State) (block : Nat), s.coreRuns = true → block ≤ 27 →
      Does (.blockReset block) s ((((s.setFld fCRU_BRST_BLOCK block).blockReset block).bumpFld fCRU_CNT_BRST_DONE).raise 0x042)) ∧
  (∀ (s : State) (block : Nat), s.coreRuns = true → 27 < block → block < 64 →
      Does (.blockReset block) s (((s.setFld fCRU_BRST_BLOCK block).bumpFld fCRU_CNT_BRST_REFUSED).raise 0x043))

/-- What the loss and return of reference clocks and PLL locks do (R395). -/
def Obligations.ClockEvents : Prop :=
  (∀ (s : State) (g : Nat), g < 4 → g ≠ 1 → bitOf s.cru.refOk g = true →
      Does (.refClockLost g) s
        ((((({ s with cru := { s.cru with refOk := s.cru.refOk - 2 ^ g } }).bump rCRU_CNT_REFLOSS).clockNote g false).unlockLanes g).emit
          (.lanesStop g))) ∧
  (∀ s : State, bitOf s.cru.refOk 1 = true → (∀ e < 32, (s.ethPort e).up = false) →
      Does (.refClockLost 1) s
        ((((({ s with cru := { s.cru with refOk := s.cru.refOk - 2 } }).bump rCRU_CNT_REFLOSS).clockNote 1 false).unlockLanes 1).emit
          (.lanesStop 1))) ∧
  (∀ (s : State) (g : Nat), g < 4 → bitOf s.cru.refOk g = false →
      Does (.refClockRegained g) s (({ s with cru := { s.cru with refOk := s.cru.refOk + 2 ^ g } }).clockNote g true)) ∧
  (∀ (s : State) (ch : Nat), ch < 16 → s.coreOn = true → s.cru.dmcPll.contains ch = false →
      Does (.dmcPllUnlock ch) s
        (((({ s with cru := { s.cru with dmcPll := s.cru.dmcPll ++ [ch], pllLock := setBits s.cru.pllLock 1 1 0 } }).bump
          rCRU_CNT_REFLOSS).clockNote (16 + ch) false).dram ch "stop" 0)) ∧
  (∀ (s : State) (ch : Nat), s.cru.dmcPll.contains ch = true →
      ∃ t, Does (.dmcPllRelock ch) s t ∧ t.cru.dmcPll = s.cru.dmcPll.filter (· != ch)
        ∧ (t.cru.dmcPll = [] → t.cru.pllLock = setBits s.cru.pllLock 1 1 1)
        ∧ t.out = s.out ++ [.dmc ch "R187 steps 5 to 7" (s.dmcSpeed ch)] ∧ t.dmc = s.dmc) ∧
  (∀ (s : State) (ch : Nat), s.cru.dmcPll.contains ch = true →
      ∃ t, Does (.dmcPllRelockTimeout ch) s t ∧ 1 ∈ t.cru.fatal ∧ t.faultLow = true) ∧
  (∀ (s : State) (pll : Nat), s.coreOn = true → pll < 5 → pll ≠ 1 → s.rsv.ph = .off →
      ∃ t, Does (.corePllUnlock pll) s t ∧ t.iaddr = [] ∧ t.ports = false ∧ t.cru.startDue = decide (s.sup.seq = 2)
        ∧ t.pwr.st = .starting) ∧
  (∀ (s : State) (pll : Nat), s.coreOn = true → pll < 5 → pll ≠ 1 → s.rsv.ph ≠ .off →
      ∃ t, Does (.corePllUnlock pll) s t ∧ 2 ∈ t.cru.fatal ∧ t.rsv = s.rsv ∧ t.regs = s.regs) ∧
  (∀ s : State, s.rsv.ph = .off → s.cru.xtalHeld = false → s.coreOn = true →
      ∃ t, Does .xtalStopped s t ∧ t.cru.xtalOk = false ∧ t.cru.xtalHeld = true ∧ t.iaddr = [] ∧ t.ports = false
        ∧ t.cru.startDue = false ∧ t.sup = s.sup) ∧
  (∀ s : State, s.cru.xtalHeld = true →
      Does .xtalRestored s { s with cru := { s.cru with
        xtalOk := true
        xtalHeld := false
        startDue := s.cru.startDue || decide (s.sup.seq = 2) } }) ∧
  (∀ s : State, s.cru.xtalHeld = false →
      Does .xtalRestored s { s with cru := { s.cru with xtalOk := true, xtalHeld := false } })

/-- The rail sequences of R372 to R375 and R379: a rail is enabled once what it depends on is good, becomes good, fails, is
disabled and discharges. -/
def Obligations.RailEvents : Prop :=
  (∀ (s : State) (n : Nat), s.sup.seq = 1 → s.isRail n = true → (s.rail n).st = 1 → s.depsGood n = true →
      Does (.railEnableTick n) s (s.setRail n { s.rail n with st := 2, en := true })) ∧
  (∀ (s : State) (n : Nat), s.isRail n = true → (s.rail n).st = 1 → s.depsGood n = false → Does (.railEnableTick n) s s) ∧
  (∀ (s : State) (n : Nat), s.isRail n = true → (s.rail n).st = 2 →
      Does (.railPgRise n) s (s.setRail n { s.rail n with pg := true, st := 3 }).upCheck) ∧
  (∀ (s : State) (n : Nat), s.isRail n = true → (s.rail n).en = false → (s.rail n).st = 4 →
      Does (.railPgFall n) s (s.setRail n { s.rail n with pg := false, st := 0 }).downCheck) ∧
  (∀ (s : State) (n : Nat), s.isRail n = true → (s.rail n).st = 2 → s.flag (fSUP_RAIL_CFG_FATAL.plus (16 * n)) = true →
      s.sup.seq ≠ 3 → s.rsv.ph = .off →
      ∃ t, Does (.railPgTimeout n) s t ∧ t.sup.railFail = true ∧ t.ports = false
        ∧ (t.sup.seq = 3 ∨ t.sup.seq = 4) ∧ t.sup.dest = .off) ∧
  (∀ (s : State) (n : Nat), s.isRail n = true → (s.rail n).st = 3 → (s.rail n).en = true →
      s.flag (fSUP_RAIL_CFG_FATAL.plus (16 * n)) = true → s.sup.seq ≠ 3 → s.rsv.ph = .off →
      ∃ t, Does (.railPgDrop n) s t ∧ t.sup.railFail = true ∧ t.ports = false
        ∧ (t.sup.seq = 3 ∨ t.sup.seq = 4) ∧ t.sup.dest = .off) ∧
  (∀ (s : State) (n : Nat), s.isRail n = true → s.flag (fSUP_RAIL_CFG_FATAL.plus (16 * n)) = true → s.sup.seq ≠ 3 →
      s.rsv.ph ≠ .off →
      (s.railFails n).sup.railFail = true ∧ (s.railFails n).sup.dest = .off ∧ (s.railFails n).sup.seq = s.sup.seq ∧
      (s.railFails n).rsv = s.rsv ∧ (s.railFails n).ports = s.ports) ∧
  (∀ (s : State) (n : Nat), s.isRail n = true → (s.rail n).en = true → s.sup.seq = 3 → (s.rail n).kept = false →
      Does (.railDisableTick n) s
        (s.setRail n { s.rail n with en := false, dropping := false, st := if (s.rail n).pg then 4 else 0 }).downCheck) ∧
  (∀ (s : State) (n : Nat), s.sup.seq = 3 → s.isRail n = true → (s.rail n).en = false → (s.rail n).pg = true →
      (s.rail n).st ≠ 6 →
      ∃ t, Does (.dischargeTimeout n) s t ∧ t.sup.dischFail = true)

/-- Requests for on and off (R376 to R378), and what the short, long and very long press do in each state (R380); a virtual press
is a press (R381). -/
def Obligations.PowerRequestsAndButtons : Prop :=
  (∀ s : State, s.sup.aon = true → s.sup.seq = 3 ∨ s.sup.seq = 4 →
      Does .onRequest s { s with sup := { s.sup with onLatched := true } }) ∧
  (∀ s : State, s.sup.aon = true → s.sup.seq = 0 → Does .onRequest s s.powerUp) ∧
  (∀ s : State, s.rsv.ph ≠ .off → Does .offRequest s s) ∧
  (∀ s : State, s.rsv.ph = .off → s.sup.seq = 1 ∨ s.sup.seq = 2 →
      ∃ t, Does .offRequest s t ∧ t.ports = false ∧ (t.sup.seq = 3 ∨ t.sup.seq = 4) ∧ t.sup.dest = .off ∧ t.iaddr = []) ∧
  (∀ s : State, s.sup.seq = 4 → s.sup.onLatched = false →
      Does .offWaitExpiry s { s with sup := { s.sup with seq := 0 } }) ∧
  (∀ s : State, s.sup.seq = 4 → s.sup.onLatched = true → s.sup.aon = true →
      Does .offWaitExpiry s ({ s with sup := { s.sup with seq := 0 } }).powerUp) ∧
  (∀ s : State, s.sup.vaultOff = true → s.flag fSUP_CTRL_RESTART = true → s.sup.aon = true → s.sup.seq = 0 →
      Does .vaultRestartTimer s s.powerUp) ∧
  (∀ s : State, s.sup.vaultOff = true → s.flag fSUP_CTRL_RESTART = false → Does .vaultRestartTimer s s) ∧
  (∀ s : State, s.sup.aon = true → s.rsv.ph = .off → s.sup.seq = 3 ∨ s.sup.seq = 4 →
      ∃ t, Does .buttonShortPress s t ∧ t.sup = { s.sup with onLatched := true }) ∧
  (∀ s : State, s.sup.aon = true → s.rsv.ph = .off → s.sup.seq = 2 →
      s.pwr.st = .service ∨ s.pwr.st = .trimmed ∨ s.pwr.st = .quiesced → s.rsv.overB = true ∨ s.rsv.monBad = true →
      Does .buttonLongPress s (((s.bumpFld fSUP_CNT_BTN_PRESSES).bumpFld fSUP_CNT_BTN_REFUSED).raise 0x006)) ∧
  (∀ s w : State, s.sup.aon = true → s.rsv.ph = .off → s.sup.seq = 2 →
      s.pwr.st = .service ∨ s.pwr.st = .trimmed ∨ s.pwr.st = .quiesced → s.rsv.overB = false → s.rsv.monBad = false →
      s.vaultMay = true → (s.bumpFld fSUP_CNT_BTN_PRESSES).pressed 2 3 = w →
      Does .buttonLongPress s (({ w with sup := { w.sup with dest := .off, offAfter := false } }).startVault 4) ∧
      Does .vbtnLong s (({ w with sup := { w.sup with dest := .off, offAfter := false } }).startVault 4)) ∧
  (∀ s : State, s.sup.aon = true → s.rsv.ph = .off → s.sup.seq = 2 →
      s.pwr.st = .service ∨ s.pwr.st = .trimmed ∨ s.pwr.st = .quiesced → s.rsv.overB = false → s.rsv.monBad = false →
      s.vaultMay = false →
      ∃ t, Does .buttonLongPress s t ∧ Does .vbtnLong s t ∧ t.ports = false ∧ (t.sup.seq = 3 ∨ t.sup.seq = 4) ∧ t.sup.dest = .off) ∧
  (∀ s : State, s.sup.aon = true → s.rsv.ph = .off → s.sup.seq = 3 ∨ s.sup.seq = 4 →
      ∃ t, Does .buttonLongPress s t ∧ Does .vbtnLong s t ∧ t.sup = { s.sup with onLatched := true }) ∧
  (∀ s : State, s.sup.aon = true → s.rsv.ph = .off → s.sup.seq = 2 →
      s.pwr.st = .service ∨ s.pwr.st = .trimmed ∨ s.pwr.st = .quiesced →
      ∃ t, Does .buttonVeryLongPress s t ∧ t.ports = false ∧ (t.sup.seq = 3 ∨ t.sup.seq = 4) ∧ t.sup.dest = .off) ∧
  (∀ s : State, s.rsv.ph ≠ .off → Does .buttonShortPress s (s.bumpFld fSUP_CNT_BTN_PRESSES)
      ∧ Does .buttonLongPress s (s.bumpFld fSUP_CNT_BTN_PRESSES) ∧ Does .buttonVeryLongPress s (s.bumpFld fSUP_CNT_BTN_PRESSES)) ∧
  (∀ s : State, exec .vbtnShort s = exec .buttonShortPress s ∧ exec .vbtnLong s = exec .buttonLongPress s
      ∧ exec .vbtnVeryLong s = exec .buttonVeryLongPress s)

/-- Samples raise the alarm after COUNT of them beyond the thresholds, with a snapshot (R382, R383); the reference check marks a
monitor faulty beyond 8 codes (R382); margining is one sideband write to the rail's converter (R384, the bytes are the
model's, log entry 18); a power domain that fails raises a fatal fault (R385). -/
def Obligations.MonitorsAndMargins : Prop :=
  (∀ (s : State) (ch v : Nat), ch < 32 → v < 4096 → s.sup.aon = true → s.fld (fSUP_MON_THR_LO.plus (16 * ch)) ≤ v →
      v ≤ s.fld (fSUP_MON_THR_HI.plus (16 * ch)) →
      Does (.monitorSample ch v) s (s.setMon ch { s.mon ch with value := v, run := 0, alarm := false })) ∧
  (∀ (s : State) (ch v : Nat), ch < 32 → v < 4096 → s.sup.aon = true → s.fld (fSUP_MON_THR_HI.plus (16 * ch)) < v →
      s.flag (fSUP_MON_CFG_ALARM_EN.plus (16 * ch)) = true → s.fld (fSUP_MON_CFG_COUNT.plus (16 * ch)) = (s.mon ch).run + 1 →
      (s.mon ch).alarm = false →
      Does (.monitorSample ch v) s
        ((s.setMon ch { s.mon ch with value := v, run := min ((s.mon ch).run + 1) 16, alarm := true }).raise 0x003).snapshot) ∧
  (∀ (s : State) (ch : Nat) (dev : Int), ch < 32 → s.sup.aon = true → (s.mon ch).faulty = false → dev < -8 ∨ 8 < dev →
      Does (.monitorRefCheck ch dev) s ((s.setMon ch { s.mon ch with faulty := true }).raise 0x004)) ∧
  (∀ (s : State) (ch : Nat) (dev : Int), ch < 32 → s.sup.aon = true → -8 ≤ dev → dev ≤ 8 →
      Does (.monitorRefCheck ch dev) s (s.setMon ch { s.mon ch with faulty := false })) ∧
  (∀ (s : State) (rail dir : Nat), rail < 24 → dir < 3 → s.flag fSUP_CTRL_MARGIN_EN = true → s.coreRuns = true →
      s.fld (fSUP_RAIL_CFG_PMBUS_ADDR.plus (16 * rail)) ≠ 0 →
      Does (.marginGo rail dir) s (((s.setFld fSUP_MARGIN_RAIL rail).setFld fSUP_MARGIN_DIR dir).emit
        (.sb 1 (s.fld (fSUP_RAIL_CFG_PMBUS_ADDR.plus (16 * rail))) [0x01, marginByte dir]))) ∧
  (∀ (s : State) (rail dir : Nat), s.flag fSUP_CTRL_MARGIN_EN = false →
      Does (.marginGo rail dir) s ((s.setFld fSUP_MARGIN_RAIL rail).setFld fSUP_MARGIN_DIR dir)) ∧
  (∀ (s : State) (d : Nat), d < 96 → s.coreOn = true →
      ∃ t, Does (.domainPgFail d) s t ∧ d ∈ t.pwr.failed ∧ 5 ∈ t.cru.fatal ∧ t.faultLow = true)

/-- What PWR_STATE does for each target and each state it is asked in (R386 to R389). -/
def Obligations.PowerStateServices : Prop :=
  (∀ (s : State) (n : Nat), s.turn n 0x34 → (s.slot n).arg 0 1 = 0 → s.pwrIdle = true → s.pwr.st = .trimmed →
      Does (.pwrStateService n) s ((((s.slotRunning n).setPwr .service 2).bumpFld fPWR_CNT_TRIM_EXIT).svcOut n svcOK)) ∧
  (∀ (s : State) (n : Nat), s.turn n 0x34 → (s.slot n).arg 0 1 = 0 → s.pwrIdle = true → s.pwr.st = .quiesced →
      ∃ t, Does (.pwrStateService n) s t ∧ t.pwr.st = .service) ∧
  (∀ (s : State) (n : Nat), s.turn n 0x34 → (s.slot n).arg 0 1 = 0 → s.pwrIdle = false →
      Does (.pwrStateService n) s ((s.slotRunning n).svcOut n svcBUSY)) ∧
  (∀ (s : State) (n : Nat), s.turn n 0x34 → (s.slot n).arg 0 1 = 1 → s.pwrIdle = true → s.twn.role.serving = true →
      Does (.pwrStateQuiesce n) s ((s.slotRunning n).svcOut n svcBUSY)) ∧
  (∀ (s : State) (n : Nat), s.turn n 0x34 → (s.slot n).arg 0 1 = 1 → s.pwrIdle = true → s.twn.role.serving = false →
      s.pwr.st ≠ .quiesced → ∃ t, Does (.pwrStateQuiesce n) s t ∧ t.pwr.st = .quiesced) ∧
  (∀ (s : State) (n : Nat), s.turn n 0x34 → (s.slot n).arg 0 1 = 2 → s.pwrIdle = true → s.pwr.st ≠ .quiesced →
      Does (.pwrStateStandby n) s ((s.slotRunning n).svcOut n svcDENIED)) ∧
  (∀ (s : State) (n : Nat), s.turn n 0x34 → (s.slot n).arg 0 1 = 2 → s.pwrIdle = true → s.pwr.st = .quiesced →
      s.rsv.armed = false → ∃ t, Does (.pwrStateStandby n) s t ∧ t.pwr.st = .standby ∧ t.ports = false
        ∧ t.sup.dest = .standby ∧ (t.sup.seq = 3 ∨ t.sup.seq = 4)) ∧
  (∀ (s : State) (n : Nat), s.turn n 0x34 → (s.slot n).arg 0 1 = 3 → s.pwrIdle = true → s.vaultMay = false →
      ∃ t, Does (.pwrStateOff n) s t ∧ t.pwr.st = .off ∧ t.ports = false ∧ t.sup.dest = .off
        ∧ (t.sup.seq = 3 ∨ t.sup.seq = 4)) ∧
  (∀ (s : State) (n : Nat), s.turn n 0x34 → (s.slot n).arg 0 1 = 3 → s.pwrIdle = true → s.vaultMay = true →
      ∃ t, Does (.pwrStateOff n) s t ∧ t.pwr.st = .vault ∧ t.cru.vaultAct = true ∧ t.sup.dest = .off)

/-- Trimmed is entered after TRIM_HOLD windows of little traffic and left after one busy window (R386, R387); slow DRAM frequency
one channel at a time; the energy meters are scaled to what was measured, K within 128 to 512 (R390, R391); the checkpoint
goes to the settings journal. -/
def Obligations.TrimAndEnergy : Prop :=
  (∀ (s : State) (b : Nat), s.pwr.st = .service → s.flag fPWR_CTRL_TRIM_EN = true →
      b * 256000 < s.trafficAt (s.fld fPWR_TRIM_ENTER) → s.pwr.lowRun + 1 < s.fld fPWR_TRIM_HOLD →
      Does (.trimWindow b) s { s with pwr := { s.pwr with lowRun := s.pwr.lowRun + 1 } }) ∧
  (∀ (s : State) (b : Nat), s.pwr.st = .service → s.flag fPWR_CTRL_TRIM_EN = true →
      b * 256000 < s.trafficAt (s.fld fPWR_TRIM_ENTER) → s.fld fPWR_TRIM_HOLD ≤ s.pwr.lowRun + 1 →
      Does (.trimWindow b) s
        ((({ s with pwr := { s.pwr with lowRun := 0 } }).setPwr .trimmed 1).bumpFld fPWR_CNT_TRIM_ENTER)) ∧
  (∀ (s : State) (b : Nat), s.pwr.st = .service → s.trafficAt (s.fld fPWR_TRIM_ENTER) ≤ b * 256000 →
      Does (.trimWindow b) s { s with pwr := { s.pwr with lowRun := 0 } }) ∧
  (∀ (s : State) (b : Nat), s.pwr.st = .trimmed → s.trafficAt (s.fld fPWR_TRIM_EXIT) < b * 256000 →
      Does (.trimWindow b) s ((s.setPwr .service 1).bumpFld fPWR_CNT_TRIM_EXIT)) ∧
  (∀ (s : State) (c : Nat), s.pwr.st = .trimmed → s.flag fPWR_CTRL_FCHG_EN = true → s.speedable = true →
      s.dmc.pop.find? (fun c => !s.pwr.slowed.contains c && (s.ch c).st == 2 && s.dmcSpeed c == 12800) = some c →
      (upTo 16).any (fun c => (s.ch c).st == 4) = false →
      Does .trimFchgTick s (({ s with pwr := { s.pwr with slowed := s.pwr.slowed ++ [c] } }).pwrFchg c)) ∧
  (∀ s : State, s.pwr.st = .trimmed → s.flag fPWR_CTRL_FCHG_EN = false → Does .trimFchgTick s s) ∧
  (∀ s : State, (upTo 16).any (fun c => (s.ch c).st == 4) = true → Does .trimFchgTick s s) ∧
  (∀ (s : State) (mj : Nat), s.coreRuns = true → s.pairBad = false →
      ∃ t, Does (.energyReconcile mj) s t ∧ t.pwr.raw = [] ∧ t.pwr.pChip = mj / 1000 ∧ 128 ≤ t.pwr.k ∧ t.pwr.k ≤ 512
        ∧ t.pwr.ckpt = s.pwr.ckpt) ∧
  (∀ s : State, s.coreRuns = true → s.efl.ready = true →
      Does .energyCheckpoint s (({ s with pwr := { s.pwr with ckpt := s.pwr.meter } }).setting 0x0100 (meterWords s.pwr.meter)))

/-- A vault starts on an alert of 2 µs or more in the states that allow one (R102), and is ignored on an image without a bank
(R108; that only a running image ignores it is the model's, log entry 109); its phases (R103 to R105); a good governor sample
(R95); writes that waited run when they may (R100, R124); VAULT_ACCEPT (R107). -/
def Obligations.VaultCommands : Prop :=
  (∀ (s : State) (ns : Nat), ns < 2000 → Does (.holdupAlert ns) s s) ∧
  (∀ (s : State) (ns : Nat), 2000 ≤ ns → s.rsv.ph = .off → s.sup.seq = 2 → s.vaultMay = true →
      s.flag fRSV_CTRL_BANK_PRESENT = true →
      ∃ t, Does (.holdupAlert ns) s t ∧ t.pwr.st = .vault ∧ t.cru.vaultAct = true ∧ t.ports = false ∧ t.sup.dest = .off) ∧
  (∀ (s : State) (ns : Nat), s.bankless = true → Does (.holdupAlert ns) s s) ∧
  (∀ (s : State) (ns : Nat), 2000 ≤ ns → s.rsv.ph = .off → s.sup.seq = 2 → s.vaultMay = false → s.bankless = false →
      Does (.holdupAlert ns) s (s.note 0x4A3 [s.pwr.st.code])) ∧
  (∀ s : State, s.rsv.ph = .entry → Does .vaultEntryTimeout s s.vaultWrite.vaultGo) ∧
  (∀ s : State, s.vaultOver = true →
      ∃ t, Does .vaultFinish s t ∧ t.rsv.ph = .off ∧ t.cru.vaultAct = false ∧ t.ports = false ∧ t.sup.dest = s.sup.dest
        ∧ (t.sup.seq = 3 ∨ t.sup.seq = 4)) ∧
  (∀ s : State, s.vaultOver = false → Does .vaultFinish s s) ∧
  (∀ s : State, s.coreOn = true → s.ainOk (s.fld fRSV_BANK_CFG_V_CH) = true → s.ainOk (s.fld fRSV_DRAW_CFG_V_CH) = true →
      s.ainOk (s.fld fRSV_DRAW_CFG_I_CH) = true →
      ∃ t, Does .governorSample s t ∧ t.rsv.badBank = 0 ∧ t.rsv.badV = 0 ∧ t.rsv.badI = 0
        ∧ t.rsv.goodRun = s.rsv.goodRun + 1 ∧ s.fld fRSV_DRAW_MIN_W ≤ t.rsv.pNow) ∧
  (∀ (s u : State) (i : Nat) (w : WriteReq), (s.stream i).queue = [.write w] → (s.stream i).st = .opened →
      s.tryWrite i w [] = .gone u → Does (.budgetWaitRelease i) s u ∧ Does (.victimWaitRelease i) s u) ∧
  (∀ (s u : State) (i : Nat) (w : WriteReq), (s.stream i).queue = [.write w] → (s.stream i).st = .opened →
      s.tryWrite i w [] = .waits u → Does (.budgetWaitRelease i) s u ∧ Does (.victimWaitRelease i) s u) ∧
  (∀ (s u : State) (n : Nat), s.turn n 0x30 → s.rsv.lastIncomplete = true →
      u = (if s.rsv.loadDue = true then (s.slotRunning n).uncleanStreams else s.slotRunning n) →
      Does (.vaultAccept n) s ((({ u with rsv := { u.rsv with loadDue := false } }).awaitEnd).svcOut n svcOK)) ∧
  (∀ (s : State) (n : Nat), s.turn n 0x30 → s.rsv.lastIncomplete = false →
      Does (.vaultAccept n) s ((s.slotRunning n).svcOut n svcDENIED))

/-- A load whose folios can be read answers the bytes; one that the map does not allow answers poison with the reason; a store or
atomic takes its place in its stream's order with the write that its header gives, or with the reason for which it is refused
(R28, R33, R60, R237 to R245, R248, R531). -/
def Obligations.TvedfyAccesses : Prop :=
  (∀ (s u x v : State) (lk lpa owner : Nat) (hdr : BitVec 128) (src : Src) (b : List Byte),
      s.tvGate lk hdr (tvShape hdr 0 1 false 0x10 && zeroBits hdr 31 29 && zeroBits hdr 127 104) = .go u src true →
      u.mapCheck lk (hMap hdr) (·.r) (hOffset hdr) (hLen hdr) = .ok (lpa, owner) →
      u.loadBehind
        { src := src, lpa := lpa, len := hLen hdr, owner := owner, ctx := lk, map := hMap hdr, order := u.epo.arrivals } = false →
      (foliosOf lpa (hLen hdr)).any u.hazFull = false → x = (foliosOf lpa (hLen hdr)).foldl State.lookup u →
      (∀ f ∈ foliosOf lpa (hLen hdr), x.readable f = true) → (∀ a t, src ≠ .cir a t) →
      ((foliosOf lpa (hLen hdr)).foldl (fun x f => match x.findWay f with | some k => x.access k false | none => x.fillTouch f)
          x).readLines
        ((lpa + (hLen hdr - 1)) / 128 - lpa / 128 + 1) (lpa / 128) = (v, .ok b) →
      Does (.load lk hdr) s ((v.spend owner 0 ((lpa + (hLen hdr - 1)) / 128 - lpa / 128 + 1)).answer src
        (.data ((b.drop (lpa % 128)).take (hLen hdr)) false false))) ∧
  (∀ (s u : State) (lk e : Nat) (hdr : BitVec 128) (src : Src),
      s.tvGate lk hdr (tvShape hdr 0 1 false 0x10 && zeroBits hdr 31 29 && zeroBits hdr 127 104) = .go u src true →
      u.mapCheck lk (hMap hdr) (·.r) (hOffset hdr) (hLen hdr) = .error e →
      Does (.load lk hdr) s (((u.bump rTQM_CNT_DENY).raise 0x153).answer src (.poison e))) ∧
  (∀ (s u : State) (lk i lpa owner : Nat) (hdr : BitVec 128) (data : Line) (src : Src) (desk : Bool),
      s.tvGate lk hdr (tvShape hdr 2 9 false 0x20 && zeroBits hdr 31 29 && zeroBits hdr 127 125) = .go u src desk →
      u.flag fEPO_CTRL_ENABLE = true → u.tvStream lk (hStream hdr) = some i → hOffset hdr % 128 = 0 →
      u.mapCheck lk (hMap hdr) (·.w) (hOffset hdr) 128 = .ok (lpa, owner) →
      Does (.storeFull lk hdr data) s (u.tvWrite lk hdr i (hSsn hdr) src desk (.ok
        { src := src, op := .full data, line := lpa / 128, ssn := hSsn hdr, owner := owner, host := (u.ctx lk).host, ctx := lk,
          map := hMap hdr, order := u.epo.arrivals }))) ∧
  (∀ (s u : State) (lk i : Nat) (hdr : BitVec 128) (data : Line) (src : Src) (desk : Bool),
      s.tvGate lk hdr (tvShape hdr 2 9 false 0x20 && zeroBits hdr 31 29 && zeroBits hdr 127 125) = .go u src desk →
      u.flag fEPO_CTRL_ENABLE = true → u.tvStream lk (hStream hdr) = some i → hOffset hdr % 128 ≠ 0 →
      Does (.storeFull lk hdr data) s (u.tvWrite lk hdr i (hSsn hdr) src desk (.error rsALIGN))) ∧
  (∀ (s u : State) (lk i lpa owner : Nat) (hdr mask : BitVec 128) (data : Line) (src : Src) (desk : Bool),
      s.tvGate lk hdr (tvShape hdr 2 10 false 0x21 && zeroBits hdr 31 29 && zeroBits hdr 127 125 && mask != 0) = .go u src desk →
      u.flag fEPO_CTRL_ENABLE = true → u.tvStream lk (hStream hdr) = some i → hOffset hdr % 128 = 0 →
      u.mapCheck lk (hMap hdr) (·.w) (hOffset hdr) 128 = .ok (lpa, owner) →
      Does (.storeMasked lk hdr mask data) s (u.tvWrite lk hdr i (hSsn hdr) src desk (.ok
        { src := src, op := if mask = BitVec.allOnes 128 then .full data else .masked mask data, line := lpa / 128
          ssn := hSsn hdr, owner := owner, host := (u.ctx lk).host, ctx := lk, map := hMap hdr, order := u.epo.arrivals }))) ∧
  (∀ (s u : State) (lk i lpa owner : Nat) (hdr a b : BitVec 128) (src : Src) (desk : Bool), hAop hdr ≤ 4 →
      s.tvGate lk hdr (tvShape hdr 0 (if hAop hdr = 1 then 3 else 2) true 0x30 && zeroBits hdr 31 29 && decide (hAop hdr ≤ 4)
        && (!(hAop hdr == 2 || hAop hdr == 3) || zeroBits a 127 64)) = .go u src desk →
      u.flag fEPO_CTRL_ENABLE = true → u.tvStream lk (hStream hdr) = some i → hOffset hdr % aopSize (hAop hdr) = 0 →
      u.mapCheck lk (hMap hdr) (·.a) (hOffset hdr) (aopSize (hAop hdr)) = .ok (lpa, owner) →
      Does (.atomic lk hdr a b) s (u.tvWrite lk hdr i (hSsn hdr) src desk (.ok
        { src := src, op := .atomic (hAop hdr) (lpa % 128) a b, line := lpa / 128, ssn := hSsn hdr, owner := owner
          host := (u.ctx lk).host, ctx := lk, map := hMap hdr, order := u.epo.arrivals })))

/-- A write whose SSN leaves a gap is refused with SEQUENCE; one that the desk cannot hold is answered RETRY with its SSN used;
the next one is tried at once on an open epoch with nothing in front of it; an SSN is new exactly when it follows the last one
(R248, R249). -/
def Obligations.WritesTakeTheirOrder : Prop :=
  (∀ (s : State) (lk i ssn : Nat) (h : BitVec 128) (src : Src) (desk : Bool) (chk : Except Nat WriteReq),
      s.flag fEPO_CTRL_ENABLE = true → ssnJudge ssn (s.stream i).lastSsn = .gap →
      s.tvWrite lk h i ssn src desk chk = s.answer src (.poison rsSEQUENCE)) ∧
  (∀ (s : State) (lk i ssn : Nat) (h : BitVec 128) (src : Src) (chk : Except Nat WriteReq),
      s.flag fEPO_CTRL_ENABLE = true → ssnJudge ssn (s.stream i).lastSsn = .new →
      s.tvWrite lk h i ssn src false chk
        = ((s.setStream i { s.stream i with lastSsn := ssn }).mirror_ (.ssn i ssn)).answer src (.retry 0x4)) ∧
  (∀ (s v : State) (lk i ssn : Nat) (h : BitVec 128) (src : Src) (w : WriteReq), lk < 32 → s.flag fEPO_CTRL_ENABLE = true →
      ssnJudge ssn (s.stream i).lastSsn = .new → (s.stream i).mode = false → (s.stream i).st = .opened →
      (s.stream i).queue = [] →
      (s.setStream i { s.stream i with lastSsn := ssn, queue := [.write w] }).tryWrite i w [] = .gone v →
      s.tvWrite lk h i ssn src true (.ok w) = v) ∧
  (∀ (a b : Nat), a < 65536 → b < 65536 → (ssnJudge a b = .new ↔ a = (b + 1) % 65536))

/-- An abandoned atomic uses its SSN if that is the next one and is answered UNKNOWN_OUTCOME, as is an abandoned close (R246,
R257); EVENT_DONE completes a source that is active at the target of the link's port (R241, R367). -/
def Obligations.AbandonAndEvents : Prop :=
  (∀ (s u : State) (lk i : Nat) (hdr : BitVec 128) (src : Src) (desk : Bool), bitsOf hdr.toNat 35 32 = 0 →
      s.tvGate lk hdr (tvShape hdr 0 1 false 0x31 && zeroBits hdr 31 28 && zeroBits hdr 127 64 && true) = .go u src desk →
      u.tvStream lk (bitsOf hdr.toNat 47 36) = some i → ssnJudge (bitsOf hdr.toNat 63 48) (u.stream i).lastSsn = .new →
      Does (.abandonAtomic lk hdr) s
        (((u.setStream i { u.stream i with lastSsn := bitsOf hdr.toNat 63 48 }).mirror_ (.ssn i (bitsOf hdr.toNat 63 48))).answer
          src .unknown)) ∧
  (∀ (s u : State) (lk i : Nat) (hdr : BitVec 128) (src : Src) (desk : Bool), bitsOf hdr.toNat 35 32 = 0 →
      s.tvGate lk hdr (tvShape hdr 0 1 false 0x31 && zeroBits hdr 31 28 && zeroBits hdr 127 64 && true) = .go u src desk →
      u.tvStream lk (bitsOf hdr.toNat 47 36) = some i → ssnJudge (bitsOf hdr.toNat 63 48) (u.stream i).lastSsn ≠ .new →
      Does (.abandonAtomic lk hdr) s (u.answer src .unknown)) ∧
  (∀ (s u : State) (lk : Nat) (hdr : BitVec 128) (src : Src) (desk : Bool), bitsOf hdr.toNat 35 32 = 1 →
      s.tvGate lk hdr (tvShape hdr 0 1 false 0x31 && zeroBits hdr 31 28 && zeroBits hdr 127 64 && zeroBits hdr 63 48)
        = .go u src desk →
      Does (.abandonClose lk hdr) s (u.answer src .unknown)) ∧
  (∀ (s : State) (lk : Nat) (hdr : BitVec 128), lk < 32 → (s.tvl_ lk).st = 4 → (s.tvl_ lk).holderSaid = true →
      (tvShape hdr 3 1 false 0x70 && zeroBits hdr 127 28) = true → ((s.tvLeave lk hdr).src (hTag hdr)).active = some (5 + lk / 2) →
      Does (.eventDone lk hdr) s ((s.tvLeave lk hdr).srcDone (hTag hdr))) ∧
  (∀ (s : State) (lk : Nat) (hdr : BitVec 128), lk < 32 → (s.tvl_ lk).st = 4 →
      (tvShape hdr 3 1 false 0x70 && zeroBits hdr 127 28) = false ∨ (s.tvl_ lk).holderSaid = false →
      Does (.eventDone lk hdr) s ((s.tvLeave lk hdr).bump (rTVL_CNT_DISCARD + 0x100000 * (lk / 2) + 0x80 * (lk % 2))))

/-- Maintenance of a range runs on every folio of it; FLUSH and INVALIDATE need PLACE_HOST and are otherwise refused; ZERO is a
write of one aligned folio on a stream (R138, R140, R240). -/
def Obligations.TvedfyMaintenance : Prop :=
  (∀ (s u : State) (lk lpa owner : Nat) (hdr slot1 : BitVec 128) (src : Src), hMop hdr = 0 →
      s.tvGate lk hdr (maintFormat hdr slot1) = .go u src true → bitsOf slot1.toNat 30 0 ≤ 2 ^ 30 →
      u.mapCheck lk (hMap hdr) (·.r) (hOffset hdr) (max 1 (bitsOf slot1.toNat 30 0)) = .ok (lpa, owner) →
      Does (.maintClean lk hdr slot1) s (u.maintAll src lk 0 lpa (bitsOf slot1.toNat 30 0) hdr)) ∧
  (∀ (s u : State) (lk lpa owner : Nat) (hdr slot1 : BitVec 128) (src : Src), hMop hdr = 3 →
      s.tvGate lk hdr (maintFormat hdr slot1) = .go u src true → bitsOf slot1.toNat 30 0 ≤ 2 ^ 30 →
      u.mapCheck lk (hMap hdr) (·.r) (hOffset hdr) (max 1 (bitsOf slot1.toNat 30 0)) = .ok (lpa, owner) →
      Does (.maintPromote lk hdr slot1) s (u.maintAll src lk 3 lpa (bitsOf slot1.toNat 30 0) hdr)) ∧
  (∀ (s u : State) (lk lpa owner : Nat) (hdr slot1 : BitVec 128) (src : Src), hMop hdr = 1 →
      s.tvGate lk hdr (maintFormat hdr slot1) = .go u src true → bitsOf slot1.toNat 30 0 ≤ 2 ^ 30 →
      u.flag fTQM_CTRL_PLACE_HOST = true →
      u.mapCheck lk (hMap hdr) (·.w) (hOffset hdr) (max 1 (bitsOf slot1.toNat 30 0)) = .ok (lpa, owner) →
      Does (.maintFlush lk hdr slot1) s (u.maintAll src lk 1 lpa (bitsOf slot1.toNat 30 0) hdr)) ∧
  (∀ (s u : State) (lk lpa owner : Nat) (hdr slot1 : BitVec 128) (src : Src), hMop hdr = 2 →
      s.tvGate lk hdr (maintFormat hdr slot1) = .go u src true → bitsOf slot1.toNat 30 0 ≤ 2 ^ 30 →
      u.flag fTQM_CTRL_PLACE_HOST = true →
      u.mapCheck lk (hMap hdr) (·.w) (hOffset hdr) (max 1 (bitsOf slot1.toNat 30 0)) = .ok (lpa, owner) →
      Does (.maintInvalidate lk hdr slot1) s (u.maintAll src lk 2 lpa (bitsOf slot1.toNat 30 0) hdr)) ∧
  (∀ (s u : State) (lk : Nat) (hdr slot1 : BitVec 128) (src : Src), hMop hdr = 1 →
      s.tvGate lk hdr (maintFormat hdr slot1) = .go u src true → bitsOf slot1.toNat 30 0 ≤ 2 ^ 30 →
      u.flag fTQM_CTRL_PLACE_HOST = false →
      Does (.maintFlush lk hdr slot1) s (((u.bump rTQM_CNT_DENY).raise 0x153).answer src (.poison rsACCESS))) ∧
  (∀ (s u : State) (lk : Nat) (hdr slot1 : BitVec 128) (src : Src), hMop hdr = 2 →
      s.tvGate lk hdr (maintFormat hdr slot1) = .go u src true → bitsOf slot1.toNat 30 0 ≤ 2 ^ 30 →
      u.flag fTQM_CTRL_PLACE_HOST = false →
      Does (.maintInvalidate lk hdr slot1) s (((u.bump rTQM_CNT_DENY).raise 0x153).answer src (.poison rsACCESS))) ∧
  (∀ (s u : State) (lk i lpa owner : Nat) (hdr slot1 : BitVec 128) (src : Src), hMop hdr = 4 →
      s.tvGate lk hdr (maintFormat hdr slot1) = .go u src true → u.flag fEPO_CTRL_ENABLE = true →
      u.tvStream lk (bitsOf slot1.toNat 43 32) = some i → bitsOf slot1.toNat 30 0 = 4096 → hOffset hdr % 4096 = 0 →
      u.mapCheck lk (hMap hdr) (·.w) (hOffset hdr) 4096 = .ok (lpa, owner) → lpa % 4096 = 0 →
      Does (.maintZero lk hdr slot1) s (u.tvWrite lk hdr i (bitsOf slot1.toNat 59 44) src true (.ok
        { src := src, op := .zero, line := lpa / 4096 * 32, ssn := bitsOf slot1.toNat 59 44, owner := owner
          host := (u.ctx lk).host, ctx := lk, map := hMap hdr, order := u.epo.arrivals })))

/-- OPEN starts the next epoch of an IDLE stream and answers its epoch and last SSN; on one that is open or closing it is answered
OPEN (for a closing one that is the model's, log entry 102); CLOSE of the current epoch takes the stream to CLOSING; the
commit of a FINAL close leaves it IDLE (R65 to R70, R247). -/
def Obligations.EpochOpenAndClose : Prop :=
  (∀ (s u : State) (lk i : Nat) (hdr : BitVec 128) (src : Src), EpochTurn s lk 0 hdr u src i → (u.stream i).st = .idle →
      (u.stream i).report = none →
      ∃ v w : State, v = u.openEpoch i (hdr.getLsbD 113) (u.ctx lk).host (hStream hdr) (u.ctx lk).tenant
        ∧ w = v.mirror_ (.epoch i 0 0 (hdr.getLsbD 113) false false (v.stream i).epoch)
        ∧ Does (.epochOpen lk hdr) s (w.answer src (.ack false false false 0 (w.stream i).epoch (w.stream i).lastSsn
          (w.stream i).mode 0))) ∧
  (∀ (s u : State) (lk i : Nat) (hdr : BitVec 128) (src : Src), EpochTurn s lk 0 hdr u src i →
      (u.stream i).st = .opened ∨ (u.stream i).st = .closing →
      Does (.epochOpen lk hdr) s (u.answer src (.ack false false false 4 (u.stream i).epoch (u.stream i).lastSsn
        (u.stream i).mode 0))) ∧
  (∀ (u : State) (i : Nat) (m : Bool) (w f t : Nat),
      ((u.openEpoch i m w f t).stream i).st = .opened ∧ ((u.openEpoch i m w f t).stream i).epoch = ((u.stream i).epoch + 1) % 4096
        ∧ ((u.openEpoch i m w f t).stream i).entries = [] ∧ ((u.openEpoch i m w f t).stream i).mode = m
        ∧ ((u.openEpoch i m w f t).stream i).lastSsn = (u.stream i).lastSsn) ∧
  (∀ (s u : State) (lk i : Nat) (hdr : BitVec 128) (src : Src), EpochTurn s lk 1 hdr u src i → (u.stream i).st = .opened →
      (u.stream i).queue = [] → epochDiff (u.stream i).epoch (hEpoch hdr) = 0 →
      ∃ (t : State) (m : Option Nat), Does (.epochClose lk hdr) s t ∧ (t.stream i).st = .closing ∧ (t.stream i).queue = []
        ∧ (t.stream i).epoch = (u.stream i).epoch ∧ (t.stream i).close = some
          { src := src, setMode := hdr.getLsbD 114, mode := hdr.getLsbD 113, fin := hdr.getLsbD 115, mseq := m
            digestOk := m.isNone }) ∧
  (∀ (s : State) (i : Nat) (c : CloseSt), s.closeReady i = true → (s.stream i).st = .closing → (s.stream i).close = some c →
      (s.stream i).queue = [] → c.fin = true → Tab.wf (fun _ => s.epo.blank) s.epo.streams = true →
      ∃ t : State, Does (.epochCommit i) s t ∧ (t.stream i).st = .idle ∧ (t.stream i).epoch = (s.stream i).epoch
        ∧ (t.stream i).segs = []) ∧
  (∀ (s : State) (i : Nat), s.closeReady i = false → Does (.epochCommit i) s s)

/-- The queries answer what R82 to R88 say; RELEASE gives a report back; a RoCE stream's report is complete when it has been
built. -/
def Obligations.EpochQueries : Prop :=
  (∀ (s u : State) (lk i : Nat) (hdr : BitVec 128) (src : Src), EpochTurn s lk 2 hdr u src i →
      Does (.epochQueryState lk hdr) s (u.answer src (.status ((u.stream i).query (hEpoch hdr))))) ∧
  (∀ (s u : State) (lk i lpa owner : Nat) (hdr : BitVec 128) (src : Src), EpochTurn s lk 3 hdr u src i →
      u.mapCheck lk (hMap hdr) (fun _ => true) (hOffset hdr) 1 = .ok (lpa, owner) →
      ((u.stream i).live && (u.stream i).entries.any (fun e => entNames e (lpa / 128)) && u.verdictFills (lpa / 128 / 32)) = false →
      Does (.epochQueryLine lk hdr) s (u.answer src (u.queryLine i (lpa / 128)))) ∧
  (∀ (s u : State) (lk i lpa owner : Nat) (hdr : BitVec 128) (src : Src), EpochTurn s lk 3 hdr u src i →
      u.mapCheck lk (hMap hdr) (fun _ => true) (hOffset hdr) 1 = .ok (lpa, owner) →
      ((u.stream i).live && (u.stream i).entries.any (fun e => entNames e (lpa / 128)) && u.verdictFills (lpa / 128 / 32)) = true →
      Does (.epochQueryLine lk hdr) s (u.verdictFill (lpa / 128 / 32) (.query src i (lpa / 128) lk (hMap hdr)))) ∧
  (∀ (s u : State) (lk i : Nat) (hdr : BitVec 128) (src : Src), EpochTurn s lk 4 hdr u src i → (u.stream i).report = none →
      Does (.epochQueryReport lk hdr) s (u.answer src (.status 0xC))) ∧
  (∀ (s u : State) (lk i : Nat) (hdr : BitVec 128) (src : Src) (r : Report), EpochTurn s lk 4 hdr u src i →
      (u.stream i).report = some r → r.building = false →
      ((r.records i (u.stream i).writer (u.stream i).field).drop (bitsOf hdr.toNat 60 44)).take 14 ≠ [] →
      Does (.epochQueryReport lk hdr) s (u.answer src (.data
        ((((r.records i (u.stream i).writer (u.stream i).field).drop (bitsOf hdr.toNat 60 44)).take 14).flatMap
          (fun x => leBytes 16 x.toNat)) false false))) ∧
  (∀ (s u : State) (lk i : Nat) (hdr : BitVec 128) (src : Src) (r : Report), EpochTurn s lk 5 hdr u src i →
      (u.stream i).report = some r → r.building = false →
      Does (.epochRelease lk hdr) s
        (((u.releaseReport i).mirror_ (.epoch i 2 0 false false false r.epoch)).answer src .ok)) ∧
  (∀ (s u : State) (lk i : Nat) (hdr : BitVec 128) (src : Src), EpochTurn s lk 5 hdr u src i → (u.stream i).report = none →
      Does (.epochRelease lk hdr) s (u.answer src (.status 0xC))) ∧
  (∀ (s : State) (i : Nat) (r : Report), 65536 ≤ i → (s.stream i).report = some r → r.building = true → s.reportNeeds r = [] →
      Does (.reportBuilt i) s (s.setStream i { s.stream i with
        report := some { r with building := false, entries := r.entries.map (s.verdictOf (s.stream i) r.entries), reads := [] } })) ∧
  (∀ (s : State) (i : Nat) (r : Report), (s.stream i).report = some r → r.building = true → s.reportNeeds r ≠ [] →
      Does (.reportBuilt i) s ((s.reportNeeds r).foldl (fun s f => s.verdictFill f (.report i f)) s))

/-- A map is opened on a live object with rights the tenant has, at the lowest free number; it is closed when nothing of it runs;
PLACE changes a class where PLACE_HOST lets it; a promotion starts a fill where a victim and a hazard entry are free (R31 to
R34, R40, R127, R129). -/
def Obligations.MapsAndPlacement : Prop :=
  (∀ (s u : State) (lk m : Nat) (hdr : BitVec 128) (src : Src), bitsOf hdr.toNat 35 32 ≠ 1 →
      s.tvGate lk hdr (mapOpenFormat hdr) = .go u src true →
      u.openMap lk (bitsOf hdr.toNat 95 48) (hdr.getLsbD 96) (hdr.getLsbD 97) (hdr.getLsbD 98) (bitsOf hdr.toNat 114 99) = (u, 0, m) →
      Does (.mapOpen lk hdr) s ((u.bumpFld fTQM_CNT_MAP_OPEN).answer src (.ack false false false 0 0 0 false m))) ∧
  (∀ (s u v : State) (lk m : Nat) (hdr : BitVec 128) (src : Src), bitsOf hdr.toNat 35 32 ≠ 1 →
      s.tvGate lk hdr (mapOpenFormat hdr) = .go u src true →
      u.openMap lk (bitsOf hdr.toNat 95 48) (hdr.getLsbD 96) (hdr.getLsbD 97) (hdr.getLsbD 98) (bitsOf hdr.toNat 114 99) = (v, 0, m) →
      u.tqm.maps.length < v.tqm.maps.length →
      Does (.mapOpen lk hdr) s (((v.mirror_ (.service (.mapOpen lk (bitsOf hdr.toNat 95 48) (hdr.getLsbD 96) (hdr.getLsbD 97)
        (hdr.getLsbD 98) (bitsOf hdr.toNat 114 99)) 0 0)).bumpFld fTQM_CNT_MAP_OPEN).answer src
          (.ack false false false 0 0 0 false m))) ∧
  (∀ (s u v : State) (lk m st : Nat) (hdr : BitVec 128) (src : Src), bitsOf hdr.toNat 35 32 ≠ 1 → st ≠ 0 →
      s.tvGate lk hdr (mapOpenFormat hdr) = .go u src true →
      u.openMap lk (bitsOf hdr.toNat 95 48) (hdr.getLsbD 96) (hdr.getLsbD 97) (hdr.getLsbD 98) (bitsOf hdr.toNat 114 99) = (v, st, m) →
      Does (.mapOpen lk hdr) s (((v.bumpFld fTQM_CNT_MAP_REFUSED).raise 0x152).answer src (.status st))) ∧
  (∀ (u : State) (c h cookie : Nat) (r w a : Bool), u.liveObj h = none → u.openMap c h r w a cookie = (u, 1, 0)) ∧
  (∀ (u : State) (c h cookie : Nat) (o : Obj), u.liveObj h = some o → u.rightsOf (u.ctx c).tenant h = (true, true, true) →
      u.tqm.maps = [] → u.openMap c h true true true cookie
        = (u.setMap c 0 { valid := true, handle := h, r := true, w := true, a := true, cookie := cookie }, 0, 0)) ∧
  (∀ (s u : State) (lk : Nat) (hdr : BitVec 128) (src : Src), bitsOf hdr.toNat 35 32 = 1 →
      s.tvGate lk hdr (mapCloseFormat hdr) = .go u src true → (u.mapEnt lk (bitsOf hdr.toNat 47 36)).valid = true →
      Does (.mapClose lk hdr) s
        ((u.mirror_ (.service (.mapClose lk (bitsOf hdr.toNat 47 36)) 0 0)).closeMap lk (bitsOf hdr.toNat 47 36) src)) ∧
  (∀ (s : State) (c m : Nat) (src : Src), (s.mapEnt c m).closing = some src → s.mapBusy c m = false →
      Does (.mapCloseComplete c m) s (((s.setMap c m {}).answer src .ok).bindNow c)) ∧
  (∀ (s : State) (c m : Nat), s.mapBusy c m = true → Does (.mapCloseComplete c m) s s) ∧
  (∀ (s u : State) (lk : Nat) (hdr : BitVec 128) (src : Src) (o : Obj), s.tvGate lk hdr (placeFormat hdr) = .go u src true →
      (u.mapEnt lk (hMap hdr)).valid = true → (u.mapEnt lk (hMap hdr)).w = true →
      u.liveObj (u.mapEnt lk (hMap hdr)).handle = some o → o.cls = hPlace hdr → o.cls ≠ 3 →
      Does (.place lk hdr) s (u.answer src .ok)) ∧
  (∀ (s u v : State) (lk : Nat) (hdr : BitVec 128) (src : Src) (o : Obj), s.tvGate lk hdr (placeFormat hdr) = .go u src true →
      (u.mapEnt lk (hMap hdr)).valid = true → (u.mapEnt lk (hMap hdr)).w = true →
      u.liveObj (u.mapEnt lk (hMap hdr)).handle = some o → o.cls = 0 → hPlace hdr = 1 → u.flag fTQM_CTRL_PLACE_HOST = true →
      u.placeObj (u.mapEnt lk (hMap hdr)).handle 1 = (v, 0, 0) →
      Does (.place lk hdr) s ((v.mirror_ (.service (.place lk (hMap hdr) 1) 0 0)).answer src .ok)) ∧
  (∀ (s u : State) (lk : Nat) (hdr : BitVec 128) (src : Src) (o : Obj), s.tvGate lk hdr (placeFormat hdr) = .go u src true →
      (u.mapEnt lk (hMap hdr)).valid = true → (u.mapEnt lk (hMap hdr)).w = true →
      u.liveObj (u.mapEnt lk (hMap hdr)).handle = some o → o.cls = 0 → hPlace hdr = 1 → u.flag fTQM_CTRL_PLACE_HOST = false →
      Does (.place lk hdr) s (u.answer src (.status 2))) ∧
  (∀ (s u : State) (f : Nat), s.promotable f = true → (s.objOfShelf (shelfOf f)).cls = 2 → u = s.lookup f →
      (u.victim f (s.objOfShelf (shelfOf f)).tenant false).isSome = true → u.hazFull f = false →
      Does (.pinPromotionRetry f) s (u.startFill f (s.objOfShelf (shelfOf f)).tenant none true true false false)) ∧
  (∀ (s : State) (f : Nat), s.promotable f = false → Does (.pinPromotionRetry f) s s)

/-- TENANT_SET, PORT_BIND, OBJ_CREATE, OBJ_RESIZE, OBJ_PLACE, OBJ_DELETE, GRANT_SET, GRANT_CLEAR, WINDOW_SET,
WINDOW_CLEAR, NET_HOST_SET, REPORT_RELEASE, STREAM_ABORT, SCHED_LOAD, SCHED_UNLOAD, CIR_STREAM_SET,
CIR_STREAM_RETARGET, CIR_STREAM_START and CIR_STREAM_STOP: one that ends OK enters the mirror stream (R421) and its
result is kept for SERVICE_COMPLETE; another result goes to the slot alone; a body of the wrong form is answered
FORMAT (R422). -/
def Obligations.MailboxServices : Prop :=
  (∀ p ∈ mailM, ∀ (s u : State) (n : Nat) (v : Svc) (r : SvcRes), s.turn n p.1 → (s.slot n).req = some v →
      (s.slotRunning n).svcWaits v = false → (s.slotRunning n).runSvc v (.svc n) = (u, some r) → r.code = 0 →
      Does (p.2 n) s ((u.mirror_ (.service v 0 (s.slot n).token)).svcOut n r)) ∧
  (∀ p ∈ mailM, p.1 ≠ 0x20 → ∀ (s u : State) (n : Nat) (v : Svc) (r : SvcRes), s.turn n p.1 → (s.slot n).req = some v →
      (s.slotRunning n).svcWaits v = false → (s.slotRunning n).runSvc v (.svc n) = (u, some r) → r.code ≠ 0 →
      Does (p.2 n) s (u.svcOut n r)) ∧
  (∀ p ∈ mailM, ∀ (s : State) (n : Nat), s.turn n p.1 → (s.slot n).req = none →
      Does (p.2 n) s ((s.slotRunning n).svcOut n svcFORMAT))

/-- What each of them writes in the tenant, context, grant and host tables (R23, R29, R42, R47, R269), and that CLR_TEN clears one
tenant's refusals (R43). -/
def Obligations.TenantAndGrantServices : Prop :=
  (∀ (s : State) (n t evt a b c d e f : Nat) (susp : Bool), s.turn n 0x01 →
      (s.slot n).req = some (.tenantSet t evt a b c d e f susp) → 0 < t → t < 0xFFF → evt < 192 →
      Does (.tenantSet n) s (((((s.slotRunning n).metaTouch (metaTenants + t / 32)).setTenant t { Tab.get (fun _ => {}) s.tqm.tenants t with
        valid := true
        suspend := susp
        evt := evt
        pinLim := a % 2 ^ 32
        cacheLim := b % 2 ^ 32
        stkLim := c % 2 ^ 32
        deskLim := d % 2 ^ 32
        accLim := e % 2 ^ 16
        cirLim := f % 2 ^ 12 }).mirror_ (.service (.tenantSet t evt a b c d e f susp) 0 (s.slot n).token)).svcOut n svcOK)) ∧
  (∀ (s : State) (n evt a b c d e f : Nat) (susp : Bool), s.turn n 0x01 →
      (s.slot n).req = some (.tenantSet 0 evt a b c d e f susp) →
      Does (.tenantSet n) s ((s.slotRunning n).svcOut n svcDENIED)) ∧
  (∀ (s : State) (n c h t : Nat), s.turn n 0x02 → (s.slot n).req = some (.portBind c h t) → c < 32 →
      (s.ctx c).host ≠ h ∨ (s.ctx c).tenant ≠ t → t ≠ 0 → h ≠ 0 → h < 0xFFF → s.tenantOk t = true →
      s.tqm.maps.any (fun e => e.1 / 4096 == c) = false →
      Does (.portBind n) s ((((s.slotRunning n).setCtx c { host := h, tenant := t }).mirror_ (.service (.portBind c h t) 0 (s.slot n).token)).svcOut
        n svcOK)) ∧
  (∀ (s : State) (n h g : Nat) (r w a : Bool), s.turn n 0x07 → (s.slot n).req = some (.grantSet h g r w a) →
      (s.liveObj h).isSome = true → g = 0xFFF ∨ s.tenantOk g = true → s.tqm.grants = [] →
      Does (.grantSet n) s ((((s.slotRunning n).setGrant 0
        { valid := true, handle := h, grantee := g, r := r, w := w, a := a }).mirror_ (.service (.grantSet h g r w a) 0 (s.slot n).token)).svcOut
          n { words := [0] })) ∧
  (∀ (s : State) (n k : Nat), s.turn n 0x08 → (s.slot n).req = some (.grantClear k) → (s.grant k).valid = true →
      Does (.grantClear n) s ((((s.slotRunning n).setGrant k {}).mirror_ (.service (.grantClear k) 0 (s.slot n).token)).svcOut n svcOK)) ∧
  (∀ (s : State) (n k h a1 a2 : Nat) (ok : Bool), s.turn n 0x0B → (s.slot n).req = some (.netHostSet k h a1 a2 ok) → 0 < k →
      k < 0xFFF →
      Does (.netHostSet n) s ((({ s.slotRunning n with nre := { s.nre with
        hosts := Tab.set (fun _ => 0) s.nre.hosts k (if ok then a1 + a2 * 2 ^ 64 + 1 else 0) } }).mirror_
          (.service (.netHostSet k h a1 a2 ok) 0 (s.slot n).token)).svcOut n svcOK)) ∧
  (∀ (s : State) (ten : Nat), 0 < ten → ten < 0xFFF →
      Does (.clrTen ten) s (s.setTenant ten { Tab.get (fun _ => {}) s.tqm.tenants ten with refusals := 0 })) ∧
  (∀ s : State, Does (.clrTen 0) s s ∧ Does (.clrTen 0xFFF) s s)

/-- The refusals, the wait for the partner's free count (R327), the resize that takes no shelf, a placement in the class the
object has, the delete of an object that a map or window names (R25, R38, R40, R46, R529). -/
def Obligations.ObjectServices : Prop :=
  (∀ (s : State) (n t len c : Nat), s.turn n 0x03 → (s.slot n).req = some (.objCreate t len c) → s.allocWait c = false →
      s.tenantOk t = false ∨ t = 0 ∨ len = 0 ∨ 3 < c →
      Does (.objCreate n) s ((s.slotRunning n).svcOut n svcDENIED)) ∧
  (∀ (s u : State) (n t len c : Nat) (r : SvcRes), s.turn n 0x03 → (s.slot n).req = some (.objCreate t len c) →
      s.allocWait c = false → (s.slotRunning n).doObjCreate t len c (some n) = (u, some r) → r.code = 0 →
      Does (.objCreate n) s ((u.mirror_ (.service (.objCreate t len c) 0 (s.slot n).token)).svcOut n r)) ∧
  (∀ (s : State) (n t len c : Nat), s.turn n 0x03 → (s.slot n).req = some (.objCreate t len c) → s.allocWait c = true →
      Does (.objCreate n) s { s.slotRunning n with tqm := { s.tqm with
        allocWaits := s.tqm.allocWaits ++ [(n, .objCreate t len c)] } }) ∧
  (∀ (s : State) (n h len : Nat), s.turn n 0x04 → (s.slot n).req = some (.objResize h len) → s.liveObj h = none →
      Does (.objResize n) s ((s.slotRunning n).svcOut n svcNOOBJ)) ∧
  (∀ (s : State) (n h len : Nat) (o : Obj), s.turn n 0x04 → (s.slot n).req = some (.objResize h len) →
      s.liveObj h = some o → o.pinLeft = 0 → o.cls = 0 → o.len ≤ len → 0 < len → len ≤ 8388607 * 2 ^ 30 →
      shelvesFor len = shelvesFor o.len →
      ∃ t, Does (.objResize n) s t ∧ (t.obj (hSlot h)) = { o with len := len, poison := false }) ∧
  (∀ (s : State) (n h c : Nat) (o : Obj), s.turn n 0x05 → (s.slot n).req = some (.objPlace h c) → s.liveObj h = some o →
      o.cls = c → c < 3 →
      Does (.objPlace n) s (((s.slotRunning n).mirror_ (.service (.objPlace h c) 0 (s.slot n).token)).svcOut n svcOK)) ∧
  (∀ (s : State) (n h : Nat) (o : Obj), s.turn n 0x06 → (s.slot n).req = some (.objDelete h) → s.liveObj h = some o →
      s.named h = true → Does (.objDelete n) s ((s.slotRunning n).svcOut n svcBUSY)) ∧
  (∀ (s u : State) (n h : Nat), s.turn n 0x06 → (s.slot n).req = some (.objDelete h) →
      (s.slotRunning n).doObjDelete h = (u, svcOK) →
      Does (.objDelete n) s ((u.mirror_ (.service (.objDelete h) 0 (s.slot n).token)).svcOut n svcOK))

/-- A window is set with its tag kept and answers its R_Key; it is cleared when nothing of it runs, with the next tag (R35, R37);
STREAM_ABORT ends an epoch; reports are read and released; FOLIO_MAINT runs on an object's folios (R70, R81, R86, R87, R138,
R140). -/
def Obligations.WindowAndStreamServices : Prop :=
  (∀ (s : State) (n k t host h off len base : Nat) (r w a : Bool), s.turn n 0x09 →
      (s.slot n).req = some (.windowSet k t host h off len base r w a) → k < 1048576 → s.tenantOk t = true →
      t ≠ 0 → host ≠ 0 → (s.liveObj h).isSome = true → (s.window k).valid = false → (s.window k).clearing = none →
      Does (.windowSet n) s ((((s.slotRunning n).setWindow k { s.window k with
        valid := true
        tenant := t
        host := host
        handle := h
        off := off
        len := len
        base := base
        r := r
        w := w
        a := a }).mirror_ (.service (.windowSet k t host h off len base r w a) 0 (s.slot n).token)).svcOut n
          { words := [k * 4096 + (s.window k).tag] })) ∧
  (∀ (s : State) (n k t host h off len base : Nat) (r w a : Bool), s.turn n 0x09 →
      (s.slot n).req = some (.windowSet k t host h off len base r w a) →
      1048576 ≤ k ∨ s.tenantOk t = false ∨ t = 0 ∨ host = 0 → Does (.windowSet n) s ((s.slotRunning n).svcOut n svcDENIED)) ∧
  (∀ (s : State) (n k : Nat), s.turn n 0x0A → (s.slot n).req = some (.windowClear k) → (s.window k).valid = false →
      Does (.windowClear n) s ((s.slotRunning n).svcOut n svcDENIED)) ∧
  (∀ (s : State) (n k : Nat), s.turn n 0x0A → (s.slot n).req = some (.windowClear k) → k < 1048576 →
      (s.window k).valid = true → s.winBusy k = true →
      Does (.windowClear n) s (((s.slotRunning n).setWindow k { tag := ((s.window k).tag + 1) % 4096, clearing := some n }).mirror_
        (.service (.windowClear k) 0 (s.slot n).token))) ∧
  (∀ (s : State) (n k : Nat), s.turn n 0x0A → (s.slot n).req = some (.windowClear k) → k < 1048576 →
      (s.window k).valid = true → s.winBusy k = false →
      Does (.windowClear n) s (((((s.slotRunning n).setWindow k
        { tag := ((s.window k).tag + 1) % 4096, clearing := some n }).setWindow k { tag := ((s.window k).tag + 1) % 4096 }).mirror_
          (.service (.windowClear k) 0 (s.slot n).token)).svcOut n { words := [k * 4096 + ((s.window k).tag + 1) % 4096] })) ∧
  (∀ (s : State) (k slot : Nat), (s.window k).clearing = some slot → s.winBusy k = false →
      Does (.windowClearComplete k) s ((s.setWindow k { s.window k with clearing := none }).svcOut slot
        { words := [k * 4096 + (s.window k).tag] })) ∧
  (∀ (s : State) (k slot : Nat), (s.window k).clearing = some slot → s.winBusy k = true → Does (.windowClearComplete k) s s) ∧
  (∀ (s : State) (n i : Nat), s.turn n 0x12 → (s.slot n).req = some (.streamAbort i) → (s.stream i).live = true →
      Does (.streamAbort n) s ((((s.slotRunning n).endEpoch i 4 true).mirror_ (.service (.streamAbort i) 0 (s.slot n).token)).svcOut n svcOK)) ∧
  (∀ (s : State) (n i : Nat), s.turn n 0x12 → (s.slot n).req = some (.streamAbort i) → (s.stream i).live = false →
      Does (.streamAbort n) s (((s.slotRunning n).mirror_ (.service (.streamAbort i) 0 (s.slot n).token)).svcOut n svcOK)) ∧
  (∀ (s : State) (n : Nat), s.turn n 0x10 → (s.stream ((s.slot n).arg 0 4)).report = none →
      Does (.epochReportRead n) s ((s.slotRunning n).svcOut n svcNOREPORT)) ∧
  (∀ (s : State) (n : Nat) (l : List Byte) (c d : Bool), s.turn n 0x10 →
      s.reportRead ((s.slot n).arg 0 4) ((s.slot n).arg 4 4) = .data l c d →
      Does (.epochReportRead n) s ((s.slotRunning n).setSlot n { (s.slotRunning n).slot n with out := some (0, 0, l) })) ∧
  (∀ (s : State) (n i : Nat) (rep : Report), s.turn n 0x11 → (s.slot n).req = some (.reportRelease i) →
      (s.stream i).report = some rep → rep.building = false →
      Does (.epochReportRelease n) s
        ((((s.slotRunning n).releaseReport i).mirror_ (.service (.reportRelease i) 0 (s.slot n).token)).svcOut n svcOK)) ∧
  (∀ (s : State) (n i : Nat), s.turn n 0x11 → (s.slot n).req = some (.reportRelease i) → (s.stream i).report = none →
      Does (.epochReportRelease n) s ((s.slotRunning n).svcOut n svcNOREPORT)) ∧
  (∀ (s : State) (n h off len mop : Nat), s.turn n 0x13 → (s.slot n).req = some (.folioMaint h off len mop) → mop ≤ 4 →
      s.liveObj h = none → Does (.folioMaint n) s ((s.slotRunning n).svcOut n svcNOOBJ)) ∧
  (∀ (s : State) (n h off mop lpa : Nat) (o : Obj), s.turn n 0x13 → (s.slot n).req = some (.folioMaint h off 0 mop) → mop < 4 →
      s.liveObj h = some o → s.translate h off 1 = .ok lpa →
      Does (.folioMaint n) s ((((s.slotRunning n).openGrp (.svc n) 1).1).maintAsk
        [{ src := .grp s.tqm.nextGrp, mop := mop, folio := lpa / 4096 }]))

/-- A whole folio in its desk buffer is installed in a free way and what waited for it runs; a dirty folio goes to an eviction
buffer of 32 lines, then to its shelf; what waited for a hazard entry runs (R99, R124 to R136). -/
def Obligations.FillsAndEvictions : Prop :=
  (∀ (s : State) (f : Nat), s.fillOf f = none → Does (.fillInstall f) s s) ∧
  (∀ (s : State) (f k : Nat) (x : Fill) (l : List (Line × Tag)), s.fillOf f = some x → x.way = some k → x.zero = false →
      x.desk = some l → s.wayFree k = true →
      Does (.fillInstall f) s (((s.installLines x k l).dropFill f).runReqs x.reqs)) ∧
  (∀ (s : State) (f k : Nat) (x : Fill), s.fillOf f = some x → x.way = some k → x.zero = false → x.desk = none →
      Does (.fillInstall f) s s) ∧
  (∀ (s : State) (f k : Nat), s.sledFirst (s.sledLink f) = true → shelfOf f ≠ 0 → s.findWay f = some k → k < deskKey →
      s.lostShelf f = false → (s.way k).st = 2 → s.fch.evb.length < 4096 → Does (.reshelveSelect f) s (s.evbTake k 3)) ∧
  (∀ (s : State) (f k : Nat), s.findWay f = some k → s.fch.evb.length = 4096 → Does (.reshelveSelect f) s s) ∧
  (∀ (s : State) (f : Nat), s.sledFirst (s.sledLink f) = false → Does (.reshelveSelect f) s s) ∧
  (∀ (s : State) (k st : Nat), ∃ ls, ls.length = 32 ∧ (s.evbTake k st).fch.evb = s.fch.evb ++ [{
      folio := (s.way k).folio
      way := k
      lines := ls
      behind := (s.twn.sent.filter (fun x => x.lines.any (fun l => l / 32 == (s.way k).folio))).map (·.mseq) }]) ∧
  (∀ (s : State) (tile n sh : Nat) (e : Evb), s.fch.evb = [e] → e.folio / 16 = tile → e.sent = false → s.solo = true →
      s.sledOf e.folio = some (n, sh) → s.stkReady n = true → shelfOf e.folio ≠ 0 →
      ∃ t, Does (.evbSend tile) s t ∧ t.fch.evb = [{ e with sent := true }]) ∧
  (∀ (s : State) (tile : Nat), s.fch.evb = [] → Does (.evbSend tile) s s) ∧
  (∀ (s : State) (q : FReq) (rest : List FReq), s.fch.waits = q :: rest → s.hazUsed < 8192 →
      Does .hazardWaitRelease s (({ s with fch := { s.fch with waits := rest } }).runReq q)) ∧
  (∀ s : State, 8192 ≤ s.hazUsed → Does .hazardWaitRelease s s)

/-- The sweep visits the next set; DISABLE is refused while a live object is uncatalogued, else it cleans everything; ENABLE and
DISABLE during a change are kept for its end; the end of a change writes record 0x3D1 (R123, R141 to R143). -/
def Obligations.ReadingRoomModes : Prop :=
  (∀ s : State, s.flag fFCH_CTRL_SWEEP_EN = true → s.fch.mode = 1 ∨ s.fch.mode = 2 → 0 < s.fch.sets →
      s.fch.tagc.contains s.fch.sweepAt = true → Tab.wf (fun _ => ({} : Way)) s.fch.dir = true →
      ∃ t, Does .sweepVisit s t ∧ t.fch.sweepAt = (s.fch.sweepAt + 1) % s.fch.sets ∧ t.epo = s.epo ∧
        ∀ i < 16, (s.way (s.fch.sweepAt * 16 + i)).st ≠ 0 →
          t.way (s.fch.sweepAt * 16 + i)
            = { s.way (s.fch.sweepAt * 16 + i) with age := (s.way (s.fch.sweepAt * 16 + i)).age - 1 }) ∧
  (∀ s : State, s.flag fFCH_CTRL_SWEEP_EN = false → Does .sweepVisit s s) ∧
  (∀ s : State, s.fch.mode = 1 → (s.tqm.objs.any (fun e => e.2.live && e.2.cls == 3)) = true →
      Does .fchDisable s (({ s with fch := { s.fch with refused := true } }).raise 0x143)) ∧
  (∀ s : State, s.fch.mode = 1 → (s.tqm.objs.any (fun e => e.2.live && e.2.cls == 3)) = false →
      Does .fchDisable s
        (({ s with fch := { s.fch with refused := false, mode := 2, since := s.timeUs, cleaned := 0 } }).cleanAll)) ∧
  (∀ s : State, s.fch.mode = 0 → Does .fchDisable s { s with fch := { s.fch with refused := false } }) ∧
  (∀ s : State, s.fch.mode = 0 → Does .fchEnable s ({ s with fch := { s.fch with
      refused := false
      mode := 3
      since := s.timeUs
      cleaned := 0 } }).dirClear) ∧
  (∀ s : State, s.dirClear.fch.dir = s.fch.dir.filter (fun e => decide (deskKey ≤ e.1)) ∧ s.dirClear.fch.pinRsv = [] ∧
      s.dirClear.fch.held = true ∧ s.dirClear.fch.ages = [] ∧ s.dirClear.fch.mode = s.fch.mode) ∧
  (∀ s : State, s.fch.mode = 1 → Does .fchEnable s { s with fch := { s.fch with refused := false } }) ∧
  (∀ s : State, 2 ≤ s.fch.mode →
      Does .fchEnable s { s with fch := { s.fch with refused := false, latched := some true } } ∧
      Does .fchDisable s { s with fch := { s.fch with refused := false, latched := some false } }) ∧
  (∀ s : State, s.fch.mode = 3 → s.pwr.st ≠ .starting → s.walkObjs.fch.latched = none →
      ∃ t, Does .fchModeTransitionDone s t ∧ t.fch.mode = 1 ∧ t.dbk = ((({ s.walkObjs with fch := { s.walkObjs.fch with
        mode := 1, latched := none } }).note 0x3D1 [0, 1, s.walkObjs.fch.cleaned, (s.walkObjs.timeUs - s.walkObjs.fch.since) / 1000]).dbk)) ∧
  (∀ s : State, s.fch.mode < 2 → Does .fchModeTransitionDone s s)

/-- Training, cells in and out of order, replay, heartbeats, loss, retraining and adoption of a stack link (R145 to R163). -/
def Obligations.StackLinkEvents : Prop :=
  (∀ (s : State) (n : Nat), s.stkLive n = true → (s.link n).trained = false →
      ((s.link n).st = 0 ∨ (s.link n).st = 1 →
        Does (.stkTrainAttempt n) s ((s.setLink n { s.link n with st := 1 }).emit (.stkTrain n))) ∧
      ((s.link n).st = 3 → Does (.stkTrainAttempt n) s ((s.setLink n { s.link n with st := 3 }).emit (.stkTrain n)))) ∧
  (∀ (s : State) (n : Nat), s.stkLive n = true → bitOf s.cru.refOk 3 = true → (s.link n).trained = false →
      (s.link n).st = 1 ∨ (s.link n).st = 3 →
      Does (.stkLinkTrained n) s (((s.setLink n { s.link n with
        trained := true
        txSeq := 0
        rxAck := 0
        rxSeq := 0
        nak := false
        kept := []
        rx := []
        hb := 0
        hbOut := 0
        line := [] }).laneTrained (112 + n) 1).stkSend n { op := 5 })) ∧
  (∀ (s : State) (n : Nat) (hdr : BitVec 64) (body : List Byte), n < 16 → (s.link n).carries = true → body.length ≠ 1024 →
      Does (.cellReceive n hdr body) s ((s.setLink n { s.link n with nak := true }).stkIdle n)) ∧
  (∀ (s u : State) (n : Nat) (hdr : BitVec 64) (body : List Byte), n < 16 → (s.link n).carries = true → body.length = 1024 →
      (crc32 (leBytes 4 (hdr.toNat % 2 ^ 32) ++ body)).toNat = hdr.toNat / 2 ^ 32 → bitsOf hdr.toNat 13 12 = 1 →
      bitsOf hdr.toNat 11 0 = ((s.link n).rxSeq + 1) % 4096 → hdr.getLsbD 28 = false →
      u = s.setLink n { s.link n with rxSeq := ((s.link n).rxSeq + 1) % 4096, rxAck := bitsOf hdr.toNat 27 16 } →
      Does (.cellReceive n hdr body) s (((u.stkIdle n).stkBody n (hdr.getLsbD 14) body).stkPump n)) ∧
  (∀ (s : State) (n : Nat), n < 16 → (s.link n).carries = true → (s.link n).rxAck ≠ (s.link n).txSeq →
      Does (.cellReplayTimeout n) s ((((s.link n).due.foldl (fun s c => s.stkCell n c.1 c.2.1 c.2.2) s).bumpFld
        (fSTK_LINK_CNT_ERR_REPLAY.plus (0x20 * n))).raise (0x180 + 8 * n + 5))) ∧
  (∀ (s : State) (n c : Nat), n < 16 → (s.link n).carries = true →
      Does (.heartbeat n c) s (s.setLink n { s.link n with hb := c % 2 ^ 32 })) ∧
  (∀ (s : State) (n : Nat), n < 16 → (s.link n).carries = true → Does (.stkLinkLost n) s (s.stkLose n 3).vaultGo) ∧
  (∀ (s : State) (n : Nat), (s.link n).carries = false → Does (.stkLinkLost n) s s) ∧
  (∀ (s : State) (n : Nat), s.stkLive n = true → (s.link n).st = 2 →
      Does (.stkRetrain n) s (((s.stkLose n 3).vaultGo).emit (.stkTrain n))) ∧
  (∀ (s : State) (n : Nat), s.stkLive n = true → (s.link n).st = 0 ∨ (s.link n).st = 1 →
      Does (.stkRetrain n) s ((s.setLink n { s.link n with
        st := 1
        trained := false
        out := []
        kept := []
        rx := []
        wait := (s.link n).wait.filter (fun r => r.op == 3) }).emit (.stkTrain n))) ∧
  (∀ (s : State) (m n : Nat), s.turn m 0x31 → (s.slot m).arg 0 1 = n → n ≥ 16 ∨ (s.link n).st ≠ 4 →
      Does (.sledAdopt m) s ((s.slotRunning m).svcOut m svcDENIED)) ∧
  (∀ (s : State) (m n : Nat), s.turn m 0x31 → (s.slot m).arg 0 1 = n → n < 16 → (s.link n).st = 4 →
      (∀ e ∈ s.tqm.shelves, ¬ (e.2.st = 3 ∧ e.2.sled = n)) → s.twn.diverge = [] →
      Does (.sledAdopt m) s (((s.slotRunning m).stkAdopt n).svcOut m svcOK))

/-- TILE_READ, TILE_WRITE, TILE_TRIM, SHELF_SEAL, STATUS and VAULT_BEGIN responses do what R150 to R163 say for each
STATUS, once the response's cells are acknowledged; a response to nothing outstanding is dropped; a request that times
out is sent again. -/
def Obligations.StackResponses : Prop :=
  (∀ (s : State) (n tag st tr bad : Nat) (recs : List (List (Line × Tag))), s.stkFind n tag 1 = none →
      Does (.tileReadResponse n tag st tr bad recs) s s) ∧
  (∀ (s u : State) (n tag tr bad k : Nat) (recs : List (List (Line × Tag))) (r : StkReq), s.stkFind n tag 1 = some r → k < 16 →
      r.mask = 2 ^ k → u = s.stkHeard n r →
      Does (.tileReadResponse n tag 0 tr bad recs) s
        (((((u.setLink n { u.link n with rtts := ((u.timeUs - r.since) :: (u.link n).rtts).take 64 }).stkDrop n r.tag).bump
          (rSTK_LINK_CNT_READ + 0x20 * n)).folioRead n r tr bad recs k).stkPump n)) ∧
  (∀ (s u : State) (n tag tr bad : Nat) (recs : List (List (Line × Tag))) (r : StkReq), s.stkFind n tag 1 = some r →
      u = s.stkHeard n r →
      Does (.tileReadResponse n tag 4 tr bad recs) s (u.stkRetry n r) ∧
      Does (.tileReadResponse n tag 2 tr bad recs) s (u.stkRange n)) ∧
  (∀ (s u : State) (n tag : Nat) (r : StkReq), s.stkFind n tag 2 = some r → u = s.stkHeard n r → u.rsv.ph = .off →
      r.ltile < vaultTile →
      Does (.tileWriteResponse n tag 0) s
        ((((u.stkDrop n r.tag).bump (rSTK_LINK_CNT_WRITE + 0x20 * n)).tileWritten r).stkPump n).vaultGo) ∧
  (∀ (s u : State) (n tag : Nat) (r : StkReq), s.stkFind n tag 3 = some r → r.arg ≠ 16384 → u = s.stkHeard n r →
      Does (.tileTrimResponse n tag 0) s ((u.stkDrop n r.tag).stkPump n)) ∧
  (∀ (s u : State) (n tag : Nat) (r : StkReq), s.stkFind n tag 4 = some r → u = s.stkHeard n r →
      Does (.shelfSealResponse n tag 0) s
        ((({ u.stkDrop n r.tag with rsv := { u.rsv with sealed := u.rsv.sealed ||| 2 ^ n } }).setLink n
          { (u.stkDrop n r.tag).link n with st := 5 })).vaultGo) ∧
  (∀ (s u : State) (n tag : Nat) (b : List Byte) (r : StkReq), s.stkFind n tag 5 = some r → u = s.stkHeard n r →
      u.beforeStep8 = true → u.rsv.ph = .off →
      Does (.statusResponse n tag 0 b) s (((u.stkDrop n r.tag).setLink n { (u.stkDrop n r.tag).link n with
        uid := leNat (b.take 8)
        shelves := leNat ((b.drop 8).take 4)
        maxOut := leNat ((b.drop 12).take 2)
        sealRate := leNat ((b.drop 14).take 2)
        sledSt := leNat ((b.drop 16).take 1)
        mediaErr := leNat ((b.drop 24).take 8) }).stkPump n)) ∧
  (∀ (s u : State) (n tag : Nat) (r : StkReq), s.stkFind n tag 6 = some r → u = s.stkHeard n r → u.rsv.ph = .entry →
      Does (.vaultBeginResponse n tag 0) s
        ({ u.stkDrop n r.tag with rsv := { u.rsv with
          ready := u.rsv.ready ||| 2 ^ n
          failed := u.rsv.failed &&& (65535 - 2 ^ n) } }).vaultGo) ∧
  (∀ (s u : State) (n tag : Nat) (r : StkReq), s.stkFind n tag 6 = some r → u = s.stkHeard n r → u.rsv.ph = .entry →
      Does (.vaultBeginResponse n tag 4) s
        ((u.stkDrop n r.tag).setLink n { (u.stkDrop n r.tag).link n with vbAgain := true }).vaultGo) ∧
  (∀ (s : State) (n : Nat), n < 16 → (s.link n).vbAgain = true → s.rsv.ph = .entry →
      Does (.vaultBeginRetry n) s ((s.setLink n { s.link n with vbAgain := false }).vaultBegin n)) ∧
  (∀ (s : State) (n tag : Nat) (r : StkReq), (s.link n).out.find? (fun r => r.tag == tag) = some r → r.op ≠ 6 →
      Does (.stkRequestTimeout n tag) s (((s.raise (0x180 + 8 * n + 4)).stkRetry n r).vaultGo)) ∧
  (∀ (s : State) (n tag : Nat) (r : StkReq), (s.link n).out.find? (fun r => r.tag == tag) = some r → r.op = 6 →
      Does (.stkRequestTimeout n tag) s s)

/-- Refresh, temperature, command parity, retraining and frequency change of a DRAM channel (R176 to R188); no poll
touches another channel. -/
def Obligations.ChannelEvents : Prop :=
  (∀ (s : State) (c : Nat), s.issues c = true →
      Does (.refreshDue c) s ((upTo (2 ^ (s.ch c).rankBits)).foldl (fun s r => s.dram c "REFab" r) s)) ∧
  (∀ (s : State) (c : Nat), (s.ch c).st = 2 → (s.ch c).alert = true → Does (.refreshDue c) s s) ∧
  (∀ (s : State) (c : Nat) (temps : List Nat), (s.ch c).st = 2 →
      ∃ t, Does (.tempPollMr4 c temps) s t ∧ (∀ d, d ≠ c → t.ch d = s.ch d) ∧
        t = (s.setCh c { s.ch c with
          mr4 := (upTo temps.length).foldl (fun t i => Tab.set (fun _ => 0) t i (temps.getD i 0)) (s.ch c).mr4 }).judgeTemp c) ∧
  (∀ (s : State) (c : Nat) (temps : List Nat), (s.ch c).st ≠ 0 → (s.ch c).st ≠ 5 →
      ∃ t, Does (.tempPollSpd c temps) s t ∧ (∀ d, d ≠ c → t.ch d = s.ch d) ∧
        t = (s.setCh c { s.ch c with
          hub := (upTo temps.length).foldl (fun t i => Tab.set (fun _ => 0) t i (temps.getD i 0)) (s.ch c).hub }).judgeTemp c) ∧
  (∀ (s : State) (c : Nat), (s.ch c).st = 2 → (s.ch c).replaying = false →
      Does (.parityAlert c false) s ((s.setCh c { s.ch c with alert := true, alerts := 1, replaying := false }).bumpFld
        (fDMC_CNT_CAPAR_ALERTS.plus (dmcOff c)))) ∧
  (∀ (s u : State) (c : Nat), (s.ch c).st = 2 → (s.ch c).replaying = true → u = s.replayDone c →
      Does (.parityAlert c false) s ((u.setCh c { u.ch c with alert := true, alerts := 1, replaying := false }).bumpFld
        (fDMC_CNT_CAPAR_ALERTS.plus (dmcOff c)))) ∧
  (∀ (s : State) (c : Nat), (s.ch c).st = 2 → (s.ch c).alerts ≥ 2 →
      Does (.parityAlert c true) s ((((s.setCh c { s.ch c with
        alert := true
        alerts := (s.ch c).alerts + 1
        replaying := false }).bumpFld (fDMC_CNT_CAPAR_ALERTS.plus (dmcOff c))).failChannel c 1))) ∧
  (∀ (s : State) (c : Nat), (s.ch c).alert = true → Does (.parityAlertTimeout c) s (s.failChannel c 1)) ∧
  (∀ (s : State) (c : Nat), (s.ch c).alert = true →
      Does (.alertNHigh c) s ((Tab.get (fun _ => []) s.lpr.retry c).foldl (fun s e => s.reissue c e)
        ((upTo (2 ^ (s.ch c).rankBits)).foldl (fun s r => s.emit (.dmc c "PREab" r))
          ((s.setCh c { s.ch c with alert := false, replaying := true }).emit (.dmc c "RCD clear" 0))))) ∧
  (∀ (s u : State) (c rank lane margin : Nat), (s.ch c).st = 2 → (s.ch c).retrainNow = true →
      s.fld (fDMC_RETRAIN_MARGIN_MIN.plus (dmcOff c)) ≤ margin →
      u = (s.dramRanks c "MRR oscillator").emit (.dmc c "re-centre" 0) →
      Does (.retrainPause c rank lane margin) s (u.setCh c { u.ch c with retrainNow := false, lowMargins := 0 })) ∧
  (∀ (s u : State) (c rank lane margin : Nat), (s.ch c).st = 2 → (s.ch c).retrainNow = true → (s.ch c).lowMargins = 2 →
      margin < s.fld (fDMC_RETRAIN_MARGIN_MIN.plus (dmcOff c)) →
      u = (s.dramRanks c "MRR oscillator").emit (.dmc c "re-centre" 0) →
      Does (.retrainPause c rank lane margin) s (((u.setCh c { u.ch c with retrainNow := false, lowMargins := 3 }).raise
        (0x080 + 8 * c + 2)).note 0x3B2 [c, rank, lane, margin])) ∧
  (∀ (s : State) (c : Nat), (s.ch c).st = 2 → Does (.retrainNow c) s (s.setCh c { s.ch c with retrainNow := true })) ∧
  (∀ (s : State) (c : Nat), s.speedable = false → Does (.fchg c) s (s.raise (0x080 + 8 * c + 7))) ∧
  (∀ (s : State) (c : Nat), s.speedable = true → (s.ch c).st = 2 →
      Does (.fchg c) s ((((((s.setCh c { s.ch c with st := 4 }).dramRanks c "PREab").dramRanks c "SRE").dram c "clock stop" 0).dram c
        "RCW speed" (b2n (!(s.ch c).tset))).dram c "PLL" (b2n (!(s.ch c).tset)))) ∧
  (∀ (s u : State) (c : Nat), (s.ch c).st = 4 → (s.ch c).alert = false →
      u = ((s.dram c "delays" (b2n (!(s.ch c).tset))).dramRanks c "SRX").dramRanks c "REFab" →
      Does (.fchgComplete c true) s ((u.setCh c { u.ch c with st := 2, tset := !(s.ch c).tset }).raise (0x080 + 8 * c + 7)) ∧
      Does (.fchgComplete c false) s (s.failChannel c 3)) ∧
  (∀ (s : State) (c : Nat) (good : Bool), (s.ch c).alert = true → Does (.fchgComplete c good) s s)

/-- The scrub and its passes, remap entries made persistent, self-test, the raw window and injection at the debug level
that allows them, and the two services (R196 to R207, R464); a service whose operands name nothing is answered DENIED,
which is the model's (log entry 33). -/
def Obligations.ReliabilityCommands : Prop :=
  (∀ (s : State) (c : Nat), s.flag fLPR_CTRL_SCRUB_EN = true → (s.ch c).st = 2 → s.rsv.ph = .off → s.chLines ≠ 0 →
      Tab.get (fun _ => 0) s.lpr.scrubAt c + 1 ≥ s.chLines →
      Does (.scrubLine c) s ((s.scrubOne c (s.lineOf c (Tab.get (fun _ => 0) s.lpr.scrubAt c))).passEnd c)) ∧
  (∀ (s : State) (c : Nat), s.flag fLPR_CTRL_SCRUB_EN = false → Does (.scrubLine c) s s) ∧
  (∀ (s : State) (c e : Nat), (s.remapEnt c e).valid = true → (s.remapEnt c e).persisted = false →
      Does (.remapPersist c e) s ((s.setRemap c e { s.remapEnt c e with persisted := true }).setting (0x0020 + c)
        ((s.setRemap c e { s.remapEnt c e with persisted := true }).remapWords c))) ∧
  (∀ (s : State), s.cipherOn = true → Does .scrubNow s (s.dmc.pop.foldl (fun s c => s.passEnd c) s)) ∧
  (∀ (s : State), s.dmc.pop.any (fun c => (s.ch c).st == 2) = false →
      Does .lprBist s { s with lpr := { s.lpr with bistRun := true, bistDone := false } }) ∧
  (∀ (s : State), s.dmc.pop.any (fun c => (s.ch c).st == 2) = true → Does .lprBist s s) ∧
  (∀ (s : State) (pair vector : Nat), s.lpr.bistRun = true →
      Does (.lprBistDone true pair vector) s { s with lpr := { s.lpr with bistRun := false, bistDone := true } } ∧
      Does (.lprBistDone false pair vector) s
        ((({ s with lpr := { s.lpr with bistRun := false, bistDone := true, bistFail := true, ready := false } }).note 0x3C4
          [pair, vector]).fatal 4)) ∧
  (∀ (s : State), s.sec.level ≠ 2 →
      Does (.rawRead 0) s s.secDenied ∧ Does (.rawWrite 2) s s.secDenied ∧ Does (.injectArm 0) s s.secDenied) ∧
  (∀ (s : State) (p : Nat), s.rawOpen p = true → s.rawReach = true →
      Does (.rawRead p) s s.rawRead ∧
      Does (.rawWrite p) s { s.putLine s.rawLine s.lpr.rawData s.lpr.rawTag with
        lpr := { (s.putLine s.rawLine s.lpr.rawData s.lpr.rawTag).lpr with rawResult := 0 } }) ∧
  (∀ (s : State) (p : Nat), s.rawOpen p = true → Does (.injectArm p) s { s with lpr := { s.lpr with armed := true } }) ∧
  (∀ (s : State) (n : Nat), s.turn n 0x32 →
      s.dmc.pop.contains ((s.slot n).arg 0 1) = true → (s.slot n).arg 1 1 < 2 ^ (s.ch ((s.slot n).arg 0 1)).rankBits →
      (s.slot n).arg 2 1 < 20 →
      Does (.deviceDead n) s (((s.slotRunning n).declareDead ((s.slot n).arg 0 1) ((s.slot n).arg 1 1) ((s.slot n).arg 2 1)).svcOut n svcOK)) ∧
  (∀ (s : State) (n : Nat), s.turn n 0x32 → (s.slot n).arg 2 1 ≥ 20 →
      Does (.deviceDead n) s ((s.slotRunning n).svcOut n svcDENIED)) ∧
  (∀ (s v : State) (n c l e sp : Nat) (d : Line) (g : Tag), s.turn n 0x33 → (s.slot n).zero 1 3 = true → (s.slot n).arg 0 1 = c →
      (s.slot n).arg 4 5 = l → l < 2 ^ 33 → s.dmc.pop.contains c = true → s.remapFull c = false → s.remapOf c l = none →
      (upTo 64).find? (fun e => !(s.remapEnt c e).valid) = some e → (upTo 128).find? (s.spareFits c l) = some sp →
      (s.slotRunning n).copyLine (s.lineOf c l) = (v, d, g) →
      Does (.lineRemap n) s ((((((v.accept (v.spareAddr c sp) { written := true, data := d, tag := g }).setRemap c e
        { l := l, spare := sp, valid := true, persisted := false }).bump rLPR_CNT_REMAP).raise 0x106).note 0x3C2
          ([c] ++ words2 l ++ [sp])).svcOut n svcOK)) ∧
  (∀ (s : State) (n c l : Nat), s.turn n 0x33 → (s.slot n).zero 1 3 = true → (s.slot n).arg 0 1 = c → (s.slot n).arg 4 5 = l →
      l < 2 ^ 33 → s.dmc.pop.contains c = true → s.remapFull c = true →
      Does (.lineRemap n) s ((s.slotRunning n).svcOut n svcDENIED)) ∧
  (∀ (s : State) (n : Nat), s.turn n 0x33 → (s.slot n).zero 1 3 = true → (s.slot n).arg 4 5 < 2 ^ 33 →
      s.dmc.pop.contains ((s.slot n).arg 0 1) = false →
      Does (.lineRemap n) s ((s.slotRunning n).svcOut n svcDENIED)) ∧
  (∀ (s : State) (n : Nat), s.turn n 0x33 → (s.slot n).arg 4 5 ≥ 2 ^ 33 →
      Does (.lineRemap n) s ((s.slotRunning n).svcOut n svcFORMAT))

/-- A link trains from DOWN through EQ, ALIGN and CONFIG to ACTIVE, or fails with record 0x3F0; a CONFIG from another
adapter is recorded (R209 to R228). -/
def Obligations.TvedfyTraining : Prop :=
  (∀ (s : State) (lk : Nat), lk < 32 → s.ports = true → bitOf s.cru.refOk 0 = true → s.tvOn (lk / 2) = true → (s.tvl_ lk).st = 0 →
      s.tvExists lk = true →
      Does (.tvlTrainAttempt lk) s ((s.setTvl lk { s.tvl_ lk with
        st := 1
        split := s.flag (fTVL_CTRL_SPLIT.plus (tvPort lk))
        pol := 0
        reversed := false }).emit (.tvLink lk "train" 0))) ∧
  (∀ (s : State), s.twnOn = true → bitOf s.cru.refOk 2 = true → (s.tvl_ twinLk).st = 0 →
      Does (.tvlTrainAttempt twinLk) s ((s.setTvl twinLk { s.tvl_ twinLk with
        st := 1
        split := false
        pol := 0
        reversed := false }).emit (.tvLink twinLk "train" 0))) ∧
  (∀ (s : State) (lk : Nat), (s.tvl_ lk).st ≠ 0 → Does (.tvlTrainAttempt lk) s s) ∧
  (∀ (s : State) (lk pol : Nat), lk < 32 → (s.tvl_ lk).st = 1 →
      Does (.equalisationDone lk pol) s (((s.laneTrained (2 * lk) (if (s.tvl_ lk).split then 2 else 4)).setTvl lk
        { s.tvl_ lk with st := 2, pol := pol % 16 }).fecStart lk)) ∧
  (∀ (s : State) (lk : Nat), (s.tvl_ lk).st = 1 → Does (.eqTimeout lk) s (s.tvFail lk 1)) ∧
  (∀ (s : State) (lk : Nat) (rev : Bool), (s.tvl_ lk).st = 2 →
      Does (.alignDone lk rev) s ((s.setTvl lk { s.tvl_ lk with st := 3, reversed := rev }).tvConfigOut lk false)) ∧
  (∀ (s : State) (lk : Nat), (s.tvl_ lk).st = 2 → Does (.alignTimeout lk) s (s.tvFail lk 2)) ∧
  (∀ (s : State) (lk : Nat), (s.tvl_ lk).st = 3 → Does (.configTimeout lk) s (s.tvFail lk 3)) ∧
  (∀ (s : State) (lk : Nat) (b : List Byte), lk < 32 → (s.tvl_ lk).st = 3 → tvConfigOk (s.tvl_ lk) lk b = false →
      Does (.configFlit lk b) s (s.tvFail lk 3)) ∧
  (∀ (s : State) (lk : Nat) (b : List Byte), lk < 32 → (s.tvl_ lk).st = 3 → tvConfigOk (s.tvl_ lk) lk b = true →
      (s.tvl_ lk).uid = 0 ∨ (s.tvl_ lk).uid = blkNat b 4 8 → bitOf (blkNat b 1 1) 3 = true →
      Does (.configFlit lk b) s (((s.setTvl lk { s.tvl_ lk with
        uid := blkNat b 4 8
        peerRs := blkNat b 14 2
        peerEv := blkNat b 18 2 }).tvConfigOut lk true).tvActive lk)) ∧
  (∀ (s : State) (lk : Nat) (b : List Byte), lk < 32 → (s.tvl_ lk).st = 3 → tvConfigOk (s.tvl_ lk) lk b = true →
      (s.tvl_ lk).uid ≠ 0 → (s.tvl_ lk).uid ≠ blkNat b 4 8 → bitOf (blkNat b 1 1) 3 = false →
      Does (.configFlit lk b) s ((((s.raise (tvSrc lk 7)).note 0x3F2 ([lk / 2, lk % 2] ++ words2 (blkNat b 4 8) ++
        words2 (s.tvl_ lk).uid)).setTvl lk { s.tvl_ lk with
          uid := blkNat b 4 8
          peerRs := blkNat b 14 2
          peerEv := blkNat b 18 2 }).tvConfigOut lk true))

/-- A flit with a bad CRC or uncorrectable FEC is counted and answered NAK; an intact one frees replay entries, gives
credits and is accepted in sequence; replay, recovery, loss and retraining do what R214 to R231 say; a link that is
lost keeps its whole messages and drops the rest. -/
def Obligations.TvedfyLinkEvents : Prop :=
  (∀ (s : State) (lk : Nat) (hdr : BitVec 64) (slots : List (BitVec 128)) (crc : BitVec 64), lk < 32 → (s.tvl_ lk).st = 4 →
      digestOut (crc64 digestInit (flitBytes hdr slots)) ≠ crc →
      Does (.flitReceive lk hdr slots crc false 0) s (((s.bumpBy (rTVL_CNT_FEC_CORR + tvOff lk) 0).bump (rTVL_CNT_CRC + tvOff lk)).tvNak lk)) ∧
  (∀ (s : State) (lk : Nat) (hdr : BitVec 64) (slots : List (BitVec 128)) (crc : BitVec 64) (n : Nat), lk < 32 → (s.tvl_ lk).st = 4 →
      Does (.flitReceive lk hdr slots crc true n) s ((((((s.bumpBy (rTVL_CNT_FEC_CORR + tvOff lk) n).bump
        (rTVL_CNT_FEC_UNCORR + tvOff lk)).raise (tvSrc lk 6))).bump (rTVL_CNT_CRC + tvOff lk)).tvNak lk)) ∧
  (∀ (s u : State) (lk : Nat) (hdr : BitVec 64) (slots : List (BitVec 128)) (n : Nat), lk < 32 → (s.tvl_ lk).st = 4 →
      bitsOf hdr.toNat 1 0 = 0 → hdr.getLsbD 26 = false →
      u = (s.bumpBy (rTVL_CNT_FEC_CORR + tvOff lk) n).tvAck lk (bitsOf hdr.toNat 25 14) →
      Does (.flitReceive lk hdr slots (digestOut (crc64 digestInit (flitBytes hdr slots))) false n) s
        ((u.setTvl lk (tvCredit (u.tvl_ lk) (bitsOf hdr.toNat 29 28) (bitsOf hdr.toNat 41 30))).tvPump lk)) ∧
  (∀ (s u v : State) (lk : Nat) (hdr : BitVec 64) (slots : List (BitVec 128)) (n : Nat), lk < 32 → (s.tvl_ lk).st = 4 →
      bitsOf hdr.toNat 1 0 = 1 → hdr.getLsbD 26 = false →
      u = (s.bumpBy (rTVL_CNT_FEC_CORR + tvOff lk) n).tvAck lk (bitsOf hdr.toNat 25 14) →
      v = u.setTvl lk (tvCredit (u.tvl_ lk) (bitsOf hdr.toNat 29 28) (bitsOf hdr.toNat 41 30)) →
      bitsOf hdr.toNat 13 2 = ((v.tvl_ lk).ackTx + 1) % 4096 → ((v.tvAccept lk hdr slots).tvl_ lk).st = 4 →
      Does (.flitReceive lk hdr slots (digestOut (crc64 digestInit (flitBytes hdr slots))) false n) s
        ((v.tvAccept lk hdr slots).tvPump lk)) ∧
  (∀ (s : State) (hdr : BitVec 64) (slots : List (BitVec 128)) (n : Nat), (s.tvl_ twinLk).st = 4 →
      (bitsOf hdr.toNat 1 0 ≠ 3 → Does (.flitReceive twinLk hdr slots (digestOut (crc64 digestInit (flitBytes hdr slots))) false n) s
        (s.twinFlit hdr slots)) ∧
      ∀ crc : BitVec 64, Does (.flitReceive twinLk hdr slots crc true n) s (s.tvNak twinLk)) ∧
  (∀ (s : State) (lk : Nat), (s.tvl_ lk).st = 4 → (s.tvl_ lk).ackRx ≠ (s.tvl_ lk).fseq →
      Does (.replayTimeout lk) s (s.tvReplay lk)) ∧
  (∀ (s : State) (lk : Nat), (s.tvl_ lk).ackRx = (s.tvl_ lk).fseq → Does (.replayTimeout lk) s s) ∧
  (∀ (s : State) (lk : Nat), (s.tvl_ lk).st = 4 → Does (.flitLossTimeout lk) s (s.tvRecover lk)) ∧
  (∀ (s : State) (lk a : Nat), lk ≠ twinLk → (s.tvl_ lk).st = 5 → a < 4096 → (s.tvl_ lk).ackRx = (s.tvl_ lk).fseq → (s.tvl_ lk).fseq < 4096 →
      Does (.recoveryRegained lk a) s ((s.setTvl lk { s.tvl_ lk with st := 4, replays := 0 }).tvPump lk)) ∧
  (∀ (s : State) (lk : Nat), (s.tvl_ lk).st = 5 →
      Does (.recoveryTimeout lk) s (s.tvLose lk 5) ∧ Does (.partnerLoss lk) s (s.tvLose lk 0)) ∧
  (∀ (s : State) (lk : Nat), (s.tvl_ lk).st = 6 → Does (.lostIdleDone lk) s (s.setTvl lk { s.tvl_ lk with st := 0 })) ∧
  (∀ (s : State) (p : Nat), p < 16 →
      Does (.tvlDisable p) s (((s.setFld (fTVL_CTRL_ENABLE.plus (0x100000 * p)) 0).tvStop (2 * p) (Config.itemCode 0x3F0 3 0)).tvStop
        (2 * p + 1) (Config.itemCode 0x3F0 3 0))) ∧
  (∀ (s : State) (p h : Nat), p < 16 → h < 2 → (s.tvl_ (2 * p + h)).st = 4 →
      Does (.tvlRetrain p h) s ((s.setFld (fTVL_CMD_HALF.plus (0x100000 * p)) h).tvLose (2 * p + h) (Config.itemCode 0x3F0 3 1))) ∧
  (∀ (s : State) (lk cause : Nat), lk < 32 → Canon s →
      ((s.tvLose lk cause).tvl_ lk).st = 6 ∧ ((s.tvLose lk cause).tvl_ lk).txq = [] ∧ ((s.tvLose lk cause).tvl_ lk).part = [] ∧
      ((s.tvLose lk cause).tvl_ lk).credRs = 0 ∧ ((s.tvLose lk cause).tvl_ lk).credEv = 0 ∧
      ((s.tvLose lk cause).tvl_ lk).buf = (s.tvl_ lk).buf)

/-- A frame is counted, dropped or buffered under its priority (R260 to R262); pause and its watchdog (R263, R264); ports up and
down (R260, R293); requests are answered for the addresses the unit holds (R261, R262, R267, R268). -/
def Obligations.EthernetFrames : Prop :=
  (∀ (s : State) (e len : Nat) (ok : Bool) (a b : Option Nat) (k : FrameKind) (x y : Nat), (s.ethPort e).up = false →
      Does (.ethFrameReceive e len ok a b k x y) s s) ∧
  (∀ (s : State) (e len : Nat) (a b : Option Nat) (k : FrameKind), (s.ethPort e).up = true →
      ∃ t, Does (.ethFrameReceive e len false a b k 0 0) s t ∧
        t = (((((s.bumpBy (rETH_P_FEC_CORR + ethSub e) 0).bumpBy (rETH_P_FEC_UNCORR + ethSub e) 0).raiseN (ethSrc e 4) 0).bump
          (rETH_P_RX + ethSub e)).bump (rETH_P_FCS + ethSub e)).raise (ethSrc e 5)) ∧
  (∀ (s u : State) (e len : Nat) (a b : Option Nat) (k : FrameKind) (x y : Nat), (s.ethPort e).up = true →
      u = (((s.bumpBy (rETH_P_FEC_CORR + ethSub e) x).bumpBy (rETH_P_FEC_UNCORR + ethSub e) y).raiseN (ethSrc e 4) y).bump
        (rETH_P_RX + ethSub e) →
      ((len < 64 ∨ len > 9216) → Does (.ethFrameReceive e len true a b k x y) s (u.ethDrop e)) ∧
      (64 ≤ len → len ≤ 9216 → len ≤ u.fld (fETH_MAXFRAME_BYTES.plus (ethOff e)) →
        Does (.ethFrameReceive e len true a b .pause x y) s (u.bump (rETH_P_PAUSE_IGN + ethSub e)) ∧
        Does (.ethFrameReceive e len true a b .unsupported x y) s (u.ethDrop e) ∧
        ∀ v p, u.ethBuffer e (u.frameMark e a b).prio len = (v, some p) →
          Does (.ethFrameReceive e len true a b .supported x y) s
            (v.setEthPort e { v.ethPort e with frames := (v.ethPort e).frames ++ [(u.frameMark e a b, p)] }))) ∧
  (∀ (s u v : State) (e prio q : Nat), (s.ethPort e).up = true → u = s.bumpFld (fETH_P_PFC_RX.plus (ethSub e)) → prio < 8 → q ≠ 0 →
      bitOf (u.fld (fETH_PFC_RX_EN.plus (ethOff e))) prio = true → (u.ethPort e).wd.contains prio = false →
      (u.ethPort e).paused.contains prio = false →
      v = u.setEthPort e { u.ethPort e with paused := (u.ethPort e).paused ++ [prio] } →
      Does (.pfcFrame e [(prio, q)]) s (v.ethResume e [])) ∧
  (∀ (s : State) (e prio : Nat), (s.ethPort e).paused.contains prio = true →
      Does (.pfcPauseExpiry e prio) s (s.ethResume e [prio])) ∧
  (∀ (s u : State) (e : Nat) (prios : List Nat), (s.ethPort e).held = [] →
      u = s.setEthPort e { s.ethPort e with paused := (s.ethPort e).paused.filter (fun x => !prios.contains x) } →
      s.ethResume e prios = u.setEthPort e { u.ethPort e with sent := [] }) ∧
  (∀ (s : State) (e prio : Nat), (s.ethPort e).paused.contains prio = true → s.fld (fETH_PFC_WD_MS.plus (ethOff e)) ≠ 0 →
      Does (.pfcWatchdogTrigger e prio) s ((((s.setEthPort e { s.ethPort e with
        paused := (s.ethPort e).paused.filter (· != prio)
        held := (s.ethPort e).held.filter (fun h => h.1 != prio)
        wd := (s.ethPort e).wd ++ [prio] }).bumpBy (rETH_P_DROP + ethSub e)
          ((s.ethPort e).held.filter (fun h => h.1 == prio)).length).raise (ethSrc e 6)).note 0x412 [e, prio])) ∧
  (∀ (s : State) (e prio : Nat), s.fld (fETH_PFC_WD_MS.plus (ethOff e)) = 0 → Does (.pfcWatchdogTrigger e prio) s s) ∧
  (∀ (s : State) (e prio : Nat),
      Does (.pfcWatchdogRecover e prio) s (s.setEthPort e { s.ethPort e with wd := (s.ethPort e).wd.filter (· != prio) })) ∧
  (∀ (s u : State) (e : Nat), s.ethEnabled e = true → s.ports = true → bitOf s.cru.refOk 1 = true → (s.ethPort e).up = false →
      u = (s.laneTrained (64 + e) (modeLanes (s.ethMode e) (e % 4))).setEthPort e { up := true } →
      Does (.ethPortUp e) s (({ u with eth := { u.eth with
        modes := Tab.set (fun _ => 0) u.eth.modes (e / 4) (s.ethMode e) } }).async 1 e 0 0xFFF 0 false)) ∧
  (∀ (s : State) (e : Nat), (upTo 4).any (fun k => (s.ethPort (e / 4 * 4 + k)).up) = false →
      s.ethMode e = s.fld (fETH_CTRL_MODE.plus (ethOff e))) ∧
  (∀ (s : State) (e cause : Nat), (s.ethPort e).up = true → (s.ethPort e).frames = [] →
      Does (.ethPortDown e cause) s (((s.setEthPort e {}).note 0x410 [e, Config.itemCode 0x410 1 0, cause]).async 2 e 0 0xFFF 0 false)) ∧
  (∀ (s u : State) (e a b : Nat) (m : Mark), (s.ethPort e).up = true → u.answersFor e a = true →
      (s.takeFrame e 64 none = (u, some (m, b)) →
        Does (.arpRequest e a) s ((u.ethSend e m (.eth e "ARP" a)).bpmReturn b (0x20 + e))) ∧
      (s.takeFrame e 64 (some 0) = (u, some (m, b)) →
        Does (.neighborSolicit e a) s ((u.ethSend e m (.eth e "NA" a)).bpmReturn b (0x20 + e)) ∧
        Does (.icmpEcho e a) s ((u.ethSend e m (.eth e "echo" a)).bpmReturn b (0x20 + e)))) ∧
  (∀ (s u : State) (e a b : Nat) (m : Mark), (s.ethPort e).up = true → u.answersFor e a = false →
      (s.takeFrame e 64 none = (u, some (m, b)) → Does (.arpRequest e a) s (u.bpmReturn b (0x20 + e))) ∧
      (s.takeFrame e 64 (some 0) = (u, some (m, b)) →
        Does (.neighborSolicit e a) s (u.bpmReturn b (0x20 + e)) ∧ Does (.icmpEcho e a) s (u.bpmReturn b (0x20 + e)))) ∧
  (∀ (s : State), s.ports = true → s.floatsHere = true → Does .gratuitousArpTimer s s.announce)

/-- Connections are accepted and refused with the reasons of R269 to R272, enter RTS, end and time out; the card index and the
stalled packets (R284 to R288); a CNP cuts a circulation stream's rate (R309); a consumer connects to an ARMED stream (R301).
-/
def Obligations.Connections : Prop :=
  (∀ (s u : State) (e dst : Nat), s.cmArrive e dst = (u, none) → ∀ (src comm qpn psn0 sid mtu q : Nat) (rc : Bool),
      Does (.cmReq e dst src comm qpn psn0 sid mtu rc) s u ∧ Does (.cmRtu e dst q) s u ∧ Does (.cmDreq e dst q) s u ∧
      Does (.cmRej e dst q) s u ∧ Does (.cmMra e dst q) s u ∧ Does (.cnpReceived e dst q) s u) ∧
  (∀ (s u : State) (e dst src comm qpn psn0 sid mtu : Nat) (m : Mark) (rc : Bool), s.cmArrive e dst = (u, some m) →
      u.hostOf src = none → Does (.cmReq e dst src comm qpn psn0 sid mtu rc) s (u.cmReject e m comm 28)) ∧
  (∀ (s u : State) (e dst src comm qpn psn0 sid mtu h : Nat) (m : Mark), s.cmArrive e dst = (u, some m) → u.hostOf src = some h →
      sid = u.fld fNRE_SID_LO_V + u.fld fNRE_SID_HI_V * 2 ^ 32 → u.pickQp h = none →
      Does (.cmReq e dst src comm qpn psn0 sid mtu true) s (u.cmReject e m comm 1)) ∧
  (∀ (s u v : State) (e dst src comm qpn psn0 sid mtu h q : Nat) (m : Mark), s.cmArrive e dst = (u, some m) → u.hostOf src = some h →
      sid = u.fld fNRE_SID_LO_V + u.fld fNRE_SID_HI_V * 2 ^ 32 → u.pickQp h = some q →
      v = ((u.setQp q {
        st := 1
        epsn := psn0 % 2 ^ 24
        dest := qpn
        host := h
        pmtu := min mtu (min 2 (u.fld fNRE_MTU_MAX))
        mode := u.flag fEPO_CTRL_ROCE_MODE }).card q).1 →
      Does (.cmReq e dst src comm qpn psn0 sid mtu true) s (v.ethSend e m (.cmRep comm (0x100000 + q)
        ((u.count rNRE_CNT_RX_PKT).toNat % 2 ^ 24) (min mtu (min 2 (u.fld fNRE_MTU_MAX))) 16 0
          (leBytes 2 (((v.stream (qpStream q)).epoch + 1) % 4096) ++ leBytes 1 (b2n (u.flag fEPO_CTRL_ROCE_MODE)) ++ leBytes 5 0)))) ∧
  (∀ (s u : State) (e dst q : Nat) (m : Mark), s.cmArrive e dst = (u, some m) → u.connecting q = true →
      Does (.cmRtu e dst q) s (u.enterRts q) ∧ Does (.cmRej e dst q) s (u.freeQp q)) ∧
  (∀ (s u : State) (e dst q : Nat) (m : Mark), s.cmArrive e dst = (u, some m) → u.connecting q = false →
      Does (.cmRtu e dst q) s u ∧ Does (.cmRej e dst q) s u) ∧
  (∀ (s : State) (q : Nat), s.connecting q = true → Does (.cmRtsTimeout q) s (s.freeQp q)) ∧
  (∀ (s u : State) (e dst q : Nat) (m : Mark), s.cmArrive e dst = (u, some m) → (u.qp q).circ = false →
      ((u.qp q).st = 0 → Does (.cmDreq e dst q) s (u.bump rNRE_CNT_UNKNOWN_QP)) ∧
      ((u.qp q).st ≠ 0 → Does (.cmDreq e dst q) s ((u.endQp q).ethSend e m (.cm "DREP" (0x100000 + q) 0 0)))) ∧
  (∀ (s u : State) (e dst q : Nat) (m : Mark), s.cmArrive e dst = (u, some m) → (u.qp q).circ = true → (u.qp q).st = 2 →
      Does (.cmDreq e dst q) s ((u.cirError (q - 1048576)).ethSend e m (.cm "DREP" (0x100000 + q) 0 0))) ∧
  (∀ (s u : State) (e dst q : Nat) (m : Mark), s.cmArrive e dst = (u, some m) → Does (.cmMra e dst q) s u) ∧
  (∀ (s u : State) (q : Nat), s.nre.fetching.contains q = true → s.card q = (u, true) → (u.qp q).waiting = [] →
      Does (.contextFetchDone q) s { u with nre := { u.nre with fetching := u.nre.fetching.filter (· != q) } }) ∧
  (∀ (s : State) (q : Nat), (s.qp q).waiting ≠ [] → Does (.qpStallRelease q) s (s.missPump q (s.qp q).waiting.length)) ∧
  (∀ (s : State) (q : Nat), (s.qp q).st = 3 → (s.qp q).circ = false → Does (.qpErrorFreeTimeout q) s (s.freeQp q)) ∧
  (∀ (s u : State) (e dst qpn : Nat) (m : Mark), s.cmArrive e dst = (u, some m) → qpn < 0x200000 →
      Does (.cnpReceived e dst qpn) s (u.bumpFld fNRE_CNT_CNP_RX)) ∧
  (∀ (s u v : State) (e dst i c : Nat) (m : Mark), s.cmArrive e dst = (u, some m) → i < 256 →
      v = u.bumpFld fNRE_CNT_CNP_RX → (v.cs i).conn = true → (v.cs i).cur = some c →
      Does (.cnpReceived e dst (0x200000 + i)) s
        (v.setCs i { v.cs i with cur := some (max 10 (c * (256 - v.fld fCIR_CNP_CUT) / 256)) }).tickFree) ∧
  (∀ (s u : State) (e dst src comm qpn sid mtu i n va rkey : Nat) (m : Mark) (rc : Bool), s.cmArrive e dst = (u, some m) →
      n < 2 ∨ 65536 < n → Does (.cirConsumerReq e dst src comm qpn sid mtu i n va rkey rc) s (u.cmReject e m comm 28)) ∧
  (∀ (s u v : State) (e dst src comm qpn sid mtu i n va rkey p psn : Nat) (m : Mark), s.cmArrive e dst = (u, some m) → 2 ≤ n →
      n ≤ 65536 → i < 256 →
      sid = u.fld fCIR_SID_LO_V + u.fld fCIR_SID_HI_V * 2 ^ 32 → (u.cs i).st = 1 → u.hostOf src = some (u.cs i).host →
      p = min mtu (min 2 (u.fld fNRE_MTU_MAX)) → psn = (u.count rNRE_CNT_RX_PKT).toNat % 2 ^ 24 →
      v = (((u.setQp (cirQ i) { st := 2, circ := true, epsn := psn, dest := qpn, host := (u.cs i).host, pmtu := p }).card
        (cirQ i)).1).ethSend e m (.cmRep comm (0x100000 + cirQ i) psn p 0 16 []) →
      Does (.cirConsumerReq e dst src comm qpn sid mtu i n va rkey true) s ((v.setCs i { (u.cs i).rearm with
        conn := true
        port := e
        slots := n
        va := va
        rkey := rkey
        psn := psn }).cirStart i true))

/-- A write packet that is next in its order runs at the address its window gives, or goes on where its message stands; one that
the window refuses is answered with a NAK; one ahead of its turn with a sequence NAK, one that repeats with an
acknowledgement; with EPO_CTRL.ENABLE 0 it is refused (R36, R273, R274, R280 to R283, R531). -/
def Obligations.RoceWrites : Prop :=
  (∀ (s u v : State) (e : Nat) (p : RPkt) (q : Nat) (w : QWait) (lpa owner win tenant : Nat), Expected s e 0x06 p q w u → u.flag fEPO_CTRL_ENABLE = true →
      (u.qp q).wr = none → p.payload.length = mtuBytes (u.qp q).pmtu → p.len > mtuBytes (u.qp q).pmtu → p.len ≤ 2 ^ 31 →
      u.winCheck (u.qp q).host p.rkey p.va p.len (·.2.1) = .ok (lpa, owner, win, tenant) → Goes u q w tenant v →
      Does (.rdmaWriteFirst e p) s (v.qpWrite q w lpa owner win tenant false p.len)) ∧
  (∀ (s u v : State) (e : Nat) (p : RPkt) (q : Nat) (w : QWait) (lpa left owner win : Nat), Expected s e 0x07 p q w u → u.flag fEPO_CTRL_ENABLE = true →
      (u.qp q).wr = some (lpa, left, owner, win) → p.payload.length = mtuBytes (u.qp q).pmtu → left > mtuBytes (u.qp q).pmtu →
      Goes u q w (u.window win).tenant v →
      Does (.rdmaWriteMiddle e p) s (v.qpWrite q w lpa owner win (u.window win).tenant false left)) ∧
  (∀ (s u v : State) (e : Nat) (p : RPkt) (q : Nat) (w : QWait) (lpa left owner win : Nat), Expected s e 0x08 p q w u → u.flag fEPO_CTRL_ENABLE = true →
      (u.qp q).wr = some (lpa, left, owner, win) → p.payload.length = left → left ≤ mtuBytes (u.qp q).pmtu →
      Goes u q w (u.window win).tenant v →
      Does (.rdmaWriteLast e p) s (v.qpWrite q w lpa owner win (u.window win).tenant true left)) ∧
  (∀ (s u v : State) (e : Nat) (p : RPkt) (q : Nat) (w : QWait) (lpa left owner win : Nat), Expected s e 0x09 p q w u → u.flag fEPO_CTRL_ENABLE = true →
      (u.qp q).wr = some (lpa, left, owner, win) → p.payload.length = left → left ≤ mtuBytes (u.qp q).pmtu →
      Goes u q w (u.window win).tenant v →
      Does (.rdmaWriteLastImm e p) s ((v.setQp q { v.qp q with imm := p.imm % 2 ^ 32 }).qpWrite q w lpa owner win
        (u.window win).tenant true left)) ∧
  (∀ (s u v : State) (e : Nat) (p : RPkt) (q : Nat) (w : QWait) (lpa owner win tenant : Nat), Expected s e 0x0A p q w u → u.flag fEPO_CTRL_ENABLE = true →
      (u.qp q).wr = none → p.payload.length = p.len → p.len ≤ mtuBytes (u.qp q).pmtu → p.len ≠ 0 →
      u.winCheck (u.qp q).host p.rkey p.va p.len (·.2.1) = .ok (lpa, owner, win, tenant) → Goes u q w tenant v →
      Does (.rdmaWriteOnly e p) s (v.qpWrite q w lpa owner win tenant true p.len)) ∧
  (∀ (s u v : State) (e : Nat) (p : RPkt) (q : Nat) (w : QWait) (lpa owner win tenant : Nat), Expected s e 0x0B p q w u → u.flag fEPO_CTRL_ENABLE = true →
      (u.qp q).wr = none → p.payload.length = p.len → p.len ≤ mtuBytes (u.qp q).pmtu → p.len ≠ 0 →
      u.winCheck (u.qp q).host p.rkey p.va p.len (·.2.1) = .ok (lpa, owner, win, tenant) → Goes u q w tenant v →
      Does (.rdmaWriteOnlyImm e p) s ((v.setQp q { v.qp q with imm := p.imm % 2 ^ 32 }).qpWrite q w lpa owner win tenant true p.len)) ∧
  (∀ (s u : State) (e : Nat) (p : RPkt) (q : Nat) (w : QWait), Expected s e 0x0A p q w u → u.flag fEPO_CTRL_ENABLE = true → (u.qp q).wr = none → p.payload = [] →
      p.len = 0 → Does (.rdmaWriteOnly e p) s (u.qpWrite q w 0 0 0 0 true 0)) ∧
  (∀ (s u : State) (e : Nat) (p : RPkt) (q : Nat) (w : QWait) (r : Nat), Expected s e 0x0A p q w u → u.flag fEPO_CTRL_ENABLE = true →
      (u.qp q).wr = none → p.payload.length = p.len → p.len ≤ mtuBytes (u.qp q).pmtu → p.len ≠ 0 →
      u.winCheck (u.qp q).host p.rkey p.va p.len (·.2.1) = .error r →
      Does (.rdmaWriteOnly e p) s (u.winDeny.qpNak q w (nakOf r) r)) ∧
  (∀ (s u : State) (e : Nat) (p : RPkt) (q : Nat) (w : QWait), Expected s e 0x0A p q w u → u.flag fEPO_CTRL_ENABLE = false →
      (u.qp q).wr = none → p.payload.length = p.len → p.len ≤ mtuBytes (u.qp q).pmtu →
      Does (.rdmaWriteOnly e p) s (u.qpNak q w 0x62 rsACCESS)) ∧
  (∀ (s u : State) (e : Nat) (p : RPkt) (q : Nat) (w : QWait), Delivered s e 0x0A p q w u →
      0 < (p.psn + 2 ^ 24 - (u.qp q).epsn) % 2 ^ 24 → (p.psn + 2 ^ 24 - (u.qp q).epsn) % 2 ^ 24 < 2 ^ 23 → (u.qp q).rnr = none →
      (u.qp q).seqAt = none →
      Does (.rdmaWriteOnly e p) s (((u.setQp q { u.qp q with seqAt := some u.timeUs }).bump rNRE_CNT_SEQ_NAK).qpSay q w .seqNak none
        (u.qp q).epsn)) ∧
  (∀ (s u : State) (e : Nat) (p : RPkt) (q : Nat) (w : QWait), Delivered s e 0x0A p q w u →
      2 ^ 23 ≤ (p.psn + 2 ^ 24 - (u.qp q).epsn) % 2 ^ 24 →
      Does (.rdmaWriteOnly e p) s ((((u.bump rNRE_CNT_DUP).bump rEPO_CNT_DUP).raise 0x175).qpSay q w (.ack true) (some .ok) p.psn))

/-- A READ of R_Key 0 answers the status block; another runs as a load; CmpSwap and FetchAdd run as an atomic on the stream; a
misaligned one is refused; a repeated atomic answers its old value again (R36, R243, R275, R278, R282, R531). -/
def Obligations.RoceReadsAndAtomics : Prop :=
  (∀ (s u : State) (e : Nat) (p : RPkt) (q : Nat) (w : QWait), Expected s e 0x0C p q w u → (u.qp q).wr = none → p.rkey = 0 →
      p.va + p.len ≤ 256 →
      Does (.rdmaReadRequest e p) s ((u.setQp q (qpAfterRead (u.qp q) p)).qpSay q w .read
        (some (.data (((u.statusBlock q).drop p.va).take p.len) false false)) p.psn)) ∧
  (∀ (s u : State) (e : Nat) (p : RPkt) (q : Nat) (w : QWait), Expected s e 0x0C p q w u → (u.qp q).wr = none → p.rkey = 0 →
      256 < p.va + p.len → p.len ≤ 2 ^ 31 →
      Does (.rdmaReadRequest e p) s (u.winDeny.qpNak q w 0x62 rsACCESS)) ∧
  (∀ (s u v t : State) (e : Nat) (p : RPkt) (q : Nat) (w : QWait) (lpa owner win tenant id : Nat), Expected s e 0x0C p q w u →
      (u.qp q).wr = none → p.rkey ≠ 0 → p.len ≠ 0 → p.len ≤ 2 ^ 31 →
      u.winCheck (u.qp q).host p.rkey p.va p.len (·.1) = .ok (lpa, owner, win, tenant) →
      u.chargeBuf w.buf tenant = some v → v.fch.mode ≠ 1 →
      (v.setQp q (qpAfterRead (v.qp q) p)).qpPush q
        { psn := p.psn, kind := .read, port := w.port, mark := w.mark, buf := w.buf } = (t, id) →
      Does (.rdmaReadRequest e p) s (t.runLoad
        { src := .roce q id, lpa := lpa, len := p.len, owner := owner, ctx := 64 + q, win := win })) ∧
  (∀ (s u v t : State) (e : Nat) (p : RPkt) (q : Nat) (w : QWait) (lpa owner win tenant id : Nat), Expected s e 0x13 p q w u → u.flag fEPO_CTRL_ENABLE = true →
      (u.qp q).wr = none → u.winCheck (u.qp q).host p.rkey p.va 8 (·.2.2) = .ok (lpa, owner, win, tenant) → lpa % 8 = 0 →
      Goes u q w tenant v → (v.setQp q (qpAfterAtomic (v.qp q) p)).qpPush q
        { psn := p.psn, kind := .atomic, port := w.port, mark := w.mark, buf := w.buf } = (t, id) →
      Does (.cmpSwap e p) s (t.qpQueue q tenant [{
        src := .roce q id
        op := .atomic 0 (lpa % 128) (BitVec.ofNat 128 (p.cmp % 2 ^ 64 + p.swp % 2 ^ 64 * 2 ^ 64)) 0
        line := lpa / 128
        owner := owner
        host := (v.qp q).host
        ctx := 64 + q
        win := win }])) ∧
  (∀ (s u v t : State) (e : Nat) (p : RPkt) (q : Nat) (w : QWait) (lpa owner win tenant id : Nat), Expected s e 0x14 p q w u → u.flag fEPO_CTRL_ENABLE = true →
      (u.qp q).wr = none → u.winCheck (u.qp q).host p.rkey p.va 8 (·.2.2) = .ok (lpa, owner, win, tenant) → lpa % 8 = 0 →
      Goes u q w tenant v → (v.setQp q (qpAfterAtomic (v.qp q) p)).qpPush q
        { psn := p.psn, kind := .atomic, port := w.port, mark := w.mark, buf := w.buf } = (t, id) →
      Does (.fetchAdd e p) s (t.qpQueue q tenant [{
        src := .roce q id
        op := .atomic 2 (lpa % 128) (BitVec.ofNat 128 (p.swp % 2 ^ 64)) 0
        line := lpa / 128
        owner := owner
        host := (v.qp q).host
        ctx := 64 + q
        win := win }])) ∧
  (∀ (s u : State) (e : Nat) (p : RPkt) (q : Nat) (w : QWait) (lpa owner win tenant : Nat), Expected s e 0x14 p q w u → u.flag fEPO_CTRL_ENABLE = true →
      (u.qp q).wr = none → u.winCheck (u.qp q).host p.rkey p.va 8 (·.2.2) = .ok (lpa, owner, win, tenant) → lpa % 8 ≠ 0 →
      Does (.fetchAdd e p) s (u.winDeny.qpNak q w 0x61 rsALIGN)) ∧
  (∀ (s u : State) (e : Nat) (p : RPkt) (q : Nat) (w : QWait) (b : List Byte) (k : Nat), Delivered s e 0x13 p q w u →
      2 ^ 23 ≤ (p.psn + 2 ^ 24 - (u.qp q).epsn) % 2 ^ 24 →
      (u.qp q).recs.find? (fun e => e.1 == p.psn) = some (k, some b) →
      Does (.cmpSwap e p) s ((u.bump rNRE_CNT_DUP).qpSay q w .atomic (some (.data b false false)) p.psn))

/-- Each command of 32 bytes that is next in its order is answered as R276 to R279 say; a payload of another length is refused;
with EPO_CTRL.ENABLE 0 each is refused (R531). -/
def Obligations.RoceCommands : Prop :=
  (∀ (s u : State) (e : Nat) (p : RPkt) (q : Nat) (w : QWait), Expected s e 0x04 p q w u → (u.qp q).wr = none → p.payload.length ≠ 32 →
      Does (.roceCmdClose e p) s (u.qpNak q w 0x61 rsFORMAT) ∧ Does (.roceCmdNop e p) s (u.qpNak q w 0x61 rsFORMAT)) ∧
  (∀ (s u v : State) (e : Nat) (p : RPkt) (q : Nat) (w : QWait) (id : Nat), Expected s e 0x04 p q w u → u.flag fEPO_CTRL_ENABLE = true → (u.qp q).wr = none →
      p.payload.length = 32 → cmdField p 0 1 = 1 →
      (u.setQp q (qpAfterCmd (u.qp q))).qpPush q
        { psn := p.psn, kind := .cmd p.ackReq, port := w.port, mark := w.mark, buf := w.buf } = (v, id) →
      Does (.roceCmdClose e p) s (v.closeArrive (qpStream q) (.roce q id) (cmdField p 2 2 % 4096) (bitOf (cmdField p 1 1) 0)
        (bitOf (cmdField p 1 1) 1) false)) ∧
  (∀ (s u v : State) (e : Nat) (p : RPkt) (q : Nat) (w : QWait) (j : Nat), Expected s e 0x04 p q w u → u.flag fEPO_CTRL_ENABLE = true → (u.qp q).wr = none →
      p.payload.length = 32 → cmdField p 0 1 = 2 → v = u.setQp q (qpAfterCmd (u.qp q)) → v.cmdStream q (cmdField p 4 3) = some j →
      Does (.roceCmdQueryState e p) s (v.cmdAnswer q w (.status ((v.stream j).query (cmdField p 2 2 % 4096))))) ∧
  (∀ (s u v : State) (e : Nat) (p : RPkt) (q : Nat) (w : QWait) (j : Nat), Expected s e 0x04 p q w u → u.flag fEPO_CTRL_ENABLE = true → (u.qp q).wr = none →
      p.payload.length = 32 → v = u.setQp q (qpAfterCmd (u.qp q)) → v.cmdStream q (cmdField p 4 3) = some j →
      (cmdField p 0 1 = 4 → Does (.roceCmdQueryReport e p) s (v.cmdAnswer q w (v.reportRead j (cmdField p 20 4 % 2 ^ 17)))) ∧
      (cmdField p 0 1 = 5 → ∀ rep, (v.stream j).report = some rep → rep.building = false →
        Does (.roceCmdRelease e p) s (((v.releaseReport j).mirror_ (.epoch j 2 0 false false false rep.epoch)).cmdAnswer q w .ok))) ∧
  (∀ (s u v : State) (e : Nat) (p : RPkt) (q : Nat) (w : QWait), Expected s e 0x04 p q w u → u.flag fEPO_CTRL_ENABLE = true → (u.qp q).wr = none →
      p.payload.length = 32 → v = u.setQp q (qpAfterCmd (u.qp q)) → v.cmdStream q (cmdField p 4 3) = none →
      (cmdField p 0 1 = 2 → Does (.roceCmdQueryState e p) s (v.cmdAnswer q w (.status 0xC))) ∧
      (cmdField p 0 1 = 4 → Does (.roceCmdQueryReport e p) s (v.cmdAnswer q w (.status 0xC))) ∧
      (cmdField p 0 1 = 5 → Does (.roceCmdRelease e p) s (v.cmdAnswer q w (.status 0xC)))) ∧
  (∀ (s u v t : State) (e : Nat) (p : RPkt) (q : Nat) (w : QWait) (lpa owner win tenant id : Nat), Expected s e 0x04 p q w u → u.flag fEPO_CTRL_ENABLE = true →
      (u.qp q).wr = none → p.payload.length = 32 → cmdField p 0 1 = 3 → v = u.setQp q (qpAfterCmd (u.qp q)) →
      v.winCheck (u.qp q).host (cmdField p 16 4) (cmdField p 8 8) 1 (·.1) = .ok (lpa, owner, win, tenant) →
      v.qpPush q { psn := p.psn, kind := .cmd p.ackReq, port := w.port, mark := w.mark, buf := w.buf } = (t, id) →
      Does (.roceCmdQueryLine e p) s (t.queryAsk (.roce q id) (qpStream q) (lpa / 128) (64 + q) 4096)) ∧
  (∀ (s u : State) (e : Nat) (p : RPkt) (q : Nat) (w : QWait), Expected s e 0x04 p q w u → u.flag fEPO_CTRL_ENABLE = false →
      (u.qp q).wr = none → p.payload.length = 32 → cmdField p 0 1 = 6 →
      Does (.roceCmdNop e p) s (u.qpNak q w 0x62 rsACCESS)) ∧
  (∀ (s u : State) (e : Nat) (p : RPkt) (q : Nat) (w : QWait), Expected s e 0x04 p q w u → u.flag fEPO_CTRL_ENABLE = true → (u.qp q).wr = none →
      p.payload.length = 32 → cmdField p 0 1 = 6 →
      Does (.roceCmdNop e p) s ((u.setQp q (qpAfterCmd (u.qp q))).cmdAnswer q w .ok))

/-- Tiles are fetched, sent in order while the ring has room, acknowledged and counted; a tile that is not ready is LATE;
FREED, TICK, completion, retries and rate recovery (R302 to R311). -/
def Obligations.CirculationEngine : Prop :=
  (∀ (s : State) (i : Nat) (t : CirTile), (s.cs i).tiles.find? (fun t => !t.whole && decide (t.parts.length = 16)) = some t →
      Does (.tileFetchDone i) s (s.setCs i { s.cs i with
        tiles := (s.cs i).tiles.map (fun u => if u.n = t.n then { u with whole := true } else u) })) ∧
  (∀ (s u : State) (i m : Nat) (t : CirTile), (s.cs i).st = 2 → (s.cs i).limit = none → (s.cs i).rnr = none →
      s.cirOn i = true → (s.cs i).sendN - (s.cs i).freed < (s.cs i).slots →
      (s.cs i).tiles.find? (fun t => t.n == (s.cs i).sendN && t.whole) = some t → m = 65536 / mtuBytes (s.qp (cirQ i)).pmtu →
      u = (s.spend (s.cs i).tenant 6 1).setCs i { s.cs i with
        sendN := (s.cs i).sendN + 1
        late := (s.cs i).tileLate
        tileLate := false
        lateLong := false
        entry := t.entry } →
      Does (.cirTileSend i) s ((u.cirPut i m (.tile (s.cs i).sendN)
        (fun p => .rdmaWrite (cirQ i) p m ((s.cs i).va + 4096 + (s.cs i).sendN % (s.cs i).slots * 65536) (s.cs i).rkey none
          t.bytes)).cirRun i)) ∧
  (∀ (s : State) (i : Nat), (s.cs i).st = 2 → (s.cs i).limit = none → (s.cs i).rnr = none →
      s.cirOn i = true → (s.cs i).sendN - (s.cs i).freed < (s.cs i).slots →
      (s.cs i).tiles.find? (fun t => t.n == (s.cs i).sendN && t.whole) = none → (s.cs i).tileLate = false →
      Does (.cirTileSend i) s ((s.setCs i { s.cs i with
        late := true
        tileLate := true
        lateBatch := true
        lateLong := false }).bump rCIR_CNT_LATE)) ∧
  (∀ (s : State) (i : Nat), (s.cs i).sendN - (s.cs i).freed ≥ (s.cs i).slots → Does (.cirTileSend i) s s) ∧
  (∀ (s : State) (i psn : Nat), (s.cs i).conn = true →
      Does (.cirTileAck i psn) s (((s.bump rNRE_CNT_RX_PKT).cirAck i (s.cs i).out.length psn).cirAfter i)) ∧
  (∀ (s : State) (i : Nat), (s.cs i).st = 2 → s.cirOn i = true → (s.cs i).slots ≤ (s.cs i).sendN - (s.cs i).freed →
      (s.cs i).out.any (fun m => m.what == .freed) = false → (s.cs i).pollAt = none →
      Does (.freedPoll i) s ((s.setCs i { s.cs i with pollAt := some s.timeUs }).cirPut i 1 .freed
        (fun p => .rdmaRead (cirQ i) p (s.cs i).va (s.cs i).rkey 8))) ∧
  (∀ (s : State) (i t : Nat), (s.cs i).pollAt = some t → s.timeUs < t + max 1 (s.fld fCIR_POLL_US) → Does (.freedPoll i) s s) ∧
  (∀ (s u v : State) (i value : Nat) (m : CirMsg), (s.cs i).out.find? (fun m => m.what == .freed) = some m →
      u = (s.bump rNRE_CNT_RX_PKT).cirAck i (s.cs i).out.length m.psn → v = u.setCs i { u.cs i with freed := value % 2 ^ 64 } →
      Does (.freedReadResponse i value) s
        ((if (v.cs i).sendN - (v.cs i).freed ≥ (v.cs i).slots then v.bump rCIR_CNT_RING_FULL else v).cirAfter i)) ∧
  (∀ (s : State) (i : Nat), (s.cs i).conn = true → s.cirOn i = true → (s.cs i).out = [] →
      Does (.tickKeepalive i) s ((s.setCs i { s.cs i with tick := ((s.cs i).tick + 1) % 2 ^ 64 }).cirPut i 1 .tick
        (fun p => .rdmaWrite (cirQ i) p 1 ((s.cs i).va + 16) (s.cs i).rkey none (leBytes 8 ((s.cs i).tick + 1))))) ∧
  (∀ (s : State) (i : Nat), (s.cs i).tileLate = true → (s.cs i).lateLong = false →
      Does (.lateWaitTimeout i) s (((s.setCs i { s.cs i with
        lateLong := true
        lateWaits := satInc 4095 (s.cs i).lateWaits }).bump rCIR_CNT_LATE_EVT).raise 0x341)) ∧
  (∀ (s : State) (i : Nat), (s.cs i).st = 3 → (s.cs i).out.any (fun m => m.what == .completion) = true →
      Does (.completionAck i) s ((s.bump rNRE_CNT_RX_PKT).cirComplete i)) ∧
  (∀ (s : State) (i : Nat), (s.cs i).conn = true → Does (.cirQpError i) s (s.cirError i)) ∧
  (∀ (s : State) (i c : Nat), (s.cs i).cur = some c →
      Does (.cirRateRecover i) s (s.setCs i { s.cs i with
        cur := some (if (s.cs i).rate = 0 then c + 10 else min (s.cs i).rate (c + 10)) })) ∧
  (∀ (s u : State) (i psn syn : Nat), (s.cs i).conn = true →
      u = (s.bump rNRE_CNT_RX_PKT).cirAck i (s.cs i).out.length ((psn + 2 ^ 24 - 1) % 2 ^ 24) →
      (syn / 32 = 1 → Does (.cirNak i psn syn) s (u.setCs i { u.cs i with rnr := some psn })) ∧
      (syn = 0x60 → (u.cs i).tries ≠ 0 →
        Does (.cirNak i psn syn) s ((u.setCs i { u.cs i with tries := (u.cs i).tries - 1 }).cirResend i psn)) ∧
      (syn = 0x60 → (u.cs i).tries = 0 → Does (.cirNak i psn syn) s (u.cirError i)) ∧
      (syn / 32 ≠ 1 → syn ≠ 0x60 → Does (.cirNak i psn syn) s (u.cirError i))) ∧
  (∀ (s : State) (i psn : Nat), (s.cs i).rnr = some psn →
      Does (.cirRnrRetry i) s ((s.setCs i { s.cs i with rnr := none }).cirResend i psn)) ∧
  (∀ (s : State) (i : Nat) (m : CirMsg) (l : List CirMsg), (s.cs i).out = m :: l → (s.cs i).tries ≠ 0 →
      Does (.cirAckTimeout i) s ((s.setCs i { s.cs i with tries := (s.cs i).tries - 1 }).cirResend i m.psn)) ∧
  (∀ (s : State) (i : Nat) (m : CirMsg) (l : List CirMsg), (s.cs i).out = m :: l → (s.cs i).tries = 0 →
      Does (.cirAckTimeout i) s (s.cirError i)) ∧
  (∀ (s : State) (i : Nat), (s.cs i).out = [] → Does (.cirAckTimeout i) s s)

/-- W_FULL, W_MASKED, W_ATOMIC, W_ZERO, EPOCH, SSN, SERVICE, FILL, RS_LINE, RS_TRIM, RS_STATE, RS_REGION and RS_END: a
standby takes each in order; at the active each is a protocol error that loses the twin link; elsewhere it is dropped
(R218, R321 to R324). The last clauses say what applying SSN, RS_REGION and RS_END does. -/
def Obligations.MirrorFrames : Prop :=
  (∀ (c : Instr) (f : MFrame) (s : State), mirrorOf c = some f → s.twn.role = .inStep ∨ s.twn.role = .catchingUp →
      s.twn.linkUp = true → Does c s { s with twn := { s.twn with rxq := s.twn.rxq ++ [f] } }) ∧
  (∀ (c : Instr) (f : MFrame) (s : State), mirrorOf c = some f → s.twn.role = .active → s.twn.linkUp = true →
      Does c s ((s.setTvl 32 { s.tvl_ 32 with st := 6 }).twinDown)) ∧
  (∀ (c : Instr) (f : MFrame) (s : State), mirrorOf c = some f → s.twn.role ≠ .active → s.twn.linkUp = false → Does c s s) ∧
  (∀ (s : State) (m i n : Nat), s.applyFrame m (.ssn i n) = .applied (s.setStream i { s.stream i with lastSsn := n })) ∧
  (∀ (s : State) (m r : Nat), s.applyFrame m (.rsRegion r) =
      .applied { s with twn := { s.twn with diverge := s.twn.diverge.filter (· != r) } }) ∧
  (∀ (s : State) (m : Nat), s.cru.awaitAccept = false → s.applyFrame m .rsEnd =
      .applied (({ s with twn := { s.twn with role := .inStep, diverge := [] } }).raise 0x30A))

/-- What the Return frames do at the active: coverage and the acknowledgements it releases, results and digests compared,
the standby fenced on a mismatch, a stall or a fault (R322, R326 to R330, R342, R343). -/
def Obligations.ReturnFrames : Prop :=
  (∀ (s u : State) (m : Nat), s.twn.role = .active → s.twn.partner ≠ .lost →
      (s.twn.sent.filter (fun f => decide ((m + 2 ^ 48 - f.mseq % 2 ^ 48) % 2 ^ 48 < 2 ^ 47))) ≠ [] →
      u = { s with twn := { s.twn with
        sent := s.twn.sent.filter (fun f => !decide ((m + 2 ^ 48 - f.mseq % 2 ^ 48) % 2 ^ 48 < 2 ^ 47))
        appliedAt := s.timeUs } } →
      Does (.applied m) s
        ((((s.twn.sent.filter (fun f => decide ((m + 2 ^ 48 - f.mseq % 2 ^ 48) % 2 ^ 48 < 2 ^ 47))).flatMap (·.lines)).foldl
          State.unpend u).releaseAll)) ∧
  (∀ (s u : State) (m old : Nat) (ok : Bool) (a : AtomWait), s.twn.role = .active → s.twn.partner ≠ .lost →
      s.twn.atoms.find? (fun a => a.mseq == m) = some a →
      u = { s with twn := { s.twn with atoms := s.twn.atoms.filter (fun b => b.mseq != m) } } →
      (leNat a.old = old → a.casOk = ok →
        Does (.result m ok old) s ((u.setStream a.stream { u.stream a.stream with
          acks := (u.stream a.stream).acks.map (fun (w : AckWait) =>
            if w.mseq == some m then { w with needResult := false } else w) }).releaseAcks a.stream)) ∧
      (leNat a.old ≠ old ∨ a.casOk ≠ ok →
        Does (.result m ok old) s ((((u.bumpFld fTWN_CNT_MISMATCH_RESULT).raise 0x304).note 0x433
          ([a.stream, (u.stream a.stream).epoch] ++ words2 (leNat a.old % 2 ^ 64) ++ words2 (old % 2 ^ 64))).fenceOut 2))) ∧
  (∀ (s : State) (i : Nat) (crc : BitVec 64) (m : Nat) (c : CloseSt), s.twn.role = .active → s.twn.partner ≠ .lost →
      (s.stream i).st = .closing → (s.stream i).close = some c → c.mseq = some m →
      Does (.digest i (s.stream i).epoch true crc m) s
        ((s.setStream i { s.stream i with close := some { c with digestOk := true } }).bump rTWN_CNT_DIGEST_SKIP) ∧
      (crc = digestOut (s.stream i).digest →
        Does (.digest i (s.stream i).epoch false crc m) s
          ((s.setStream i { s.stream i with close := some { c with digestOk := true } }).bump rTWN_CNT_DIGEST)) ∧
      (crc ≠ digestOut (s.stream i).digest →
        Does (.digest i (s.stream i).epoch false crc m) s
          (((s.bump rTWN_CNT_DIGEST).bumpFld fTWN_CNT_MISMATCH_DIGEST).digestFail i 0 crc))) ∧
  (∀ (s : State) (i m : Nat) (c : CloseSt), s.twn.role = .active → s.twn.partner ≠ .lost → s.twn.linkUp = true →
      (s.stream i).st = .closing → (s.stream i).close = some c → c.mseq = some m → c.digestOk = false →
      Does (.digestTimeout i) s (s.digestFail i 1 0)) ∧
  (∀ (s : State) (free stage m : Nat), s.twn.role = .active → s.twn.partner ≠ .lost → s.twn.status = none → stage ≤ 7 →
      Does (.twinStatus free stage m) s
        ({ s with twn := { s.twn with
          status := some (free, m)
          allocs := s.twn.allocs.filter (fun a => decide (m < a.1)) } }).runAllocWaits) ∧
  (∀ (s : State), s.twn.role = .inStep → s.twn.linkUp = true →
      Does .statusTimer s (s.twinOut (.status s.freeTotal s.rsv.stage s.lastMseq))) ∧
  (∀ (s : State) (m : Nat), s.twn.role = .active → m < 2 ^ 48 →
      (s.twn.partner = .inStep → Does (.fault 1 m) s (s.fenceOut 3)) ∧
      (s.twn.partner = .catching →
        Does (.fault 1 m) s (s.twinOut (.join s.twn.gen false 1)).standbyLost ∧ Does (.fault 2 m) s (s.fenceOut 3))) ∧
  (∀ (s : State) (r : List Nat), s.twn.role = .active → Does (.diverge r) s (r.foldl (fun s r => s.mark (r % 2 ^ 33)) s)) ∧
  (∀ (s : State), s.twn.role = .active → s.twn.partner ≠ .lost → s.twn.sent ≠ [] → Does .appliedStall s (s.fenceOut 4)) ∧
  (∀ (s : State), s.twn.linkUp = true → Does .twinLinkLost s ((s.setTvl 32 { s.tvl_ 32 with st := 6 }).twinDown)) ∧
  (∀ (s : State), s.twn.linkUp = false → Does .twinLinkLost s s) ∧
  (∀ (s : State), s.twn.role = .active → s.twn.partner = .catching → s.twn.copying = none → Does .resyncRegionCopy s s.copyStart) ∧
  (∀ (s : State) (m : Nat), s.twn.role = .active → s.twn.partner = .lost → Does (.applied m) s s)

/-- The lease is sent every 2 ms and lasts 10 s from the sending that was acknowledged; the standby's view lasts 10.1 s; a
drop, a lapse, a view that ends under a grant, and a fence (R331, R332, R339, R340). -/
def Obligations.Leases : Prop :=
  (∀ (s : State), s.twn.role = .active → s.twn.linkUp = true →
      Does .leaseTimer s (({ s with twn := { s.twn with
        renew := (s.twn.renew + 1) % 2 ^ 32
        leases := s.twn.leases ++ [((s.twn.renew + 1) % 2 ^ 32, s.timeUs)] } }).twinOut
          (.lease s.twn.gen ((s.twn.renew + 1) % 2 ^ 32) s.lastMseq))) ∧
  (∀ (s : State) (g r m : Nat), s.twn.linkUp = true → m < 2 ^ 48 →
      (s.twn.role = .inStep → Does (.lease g r m) s (({ s with twn := { s.twn with
        viewUntil := s.timeUs + 10100
        renew := r } }).twinOut (.leaseAck g r))) ∧
      (s.twn.role = .catchingUp ∨ s.twn.role = .claiming → Does (.lease g r m) s { s with twn := { s.twn with
        viewUntil := s.timeUs + 10100
        renew := r } })) ∧
  (∀ (s : State) (r a : Nat), s.twn.role = .active → s.twn.leases.find? (fun l => l.1 == r) = some (r, a) →
      Does (.leaseAck s.twn.gen r) s { s with twn := { s.twn with
        leases := s.twn.leases.filter (fun x => x.1 != r)
        leaseUntil := max s.twn.leaseUntil (a + 10000) } }) ∧
  (∀ (s : State) (g r : Nat), g ≠ s.twn.gen → Does (.leaseAck g r) s s) ∧
  (∀ (s : State) (g m : Nat), s.twn.role = .inStep →
      Does (.leaseDrop g m 2) s (({ s with twn := { s.twn with dropAt := some m, gen := max s.twn.gen g } }).metaTouch metaRest)) ∧
  (∀ (s : State), s.twn.role = .active →
      (s.mayAct = false → Does .leaseLapse s (s.demote .detached)) ∧ (s.mayAct = true → Does .leaseLapse s s)) ∧
  (∀ (s : State) (g : Nat), s.twn.role = .claiming → s.twn.grantHeld = g + 1 →
      Does .leaseViewExpiry s (({ s with twn := { s.twn with viewUntil := 0 } }).gain g 0)) ∧
  (∀ (s : State), s.twn.role ≠ .claiming → Does .leaseViewExpiry s { s with twn := { s.twn with viewUntil := 0 } }) ∧
  (∀ (s : State) (g r : Nat), s.twn.role = .inStep ∨ s.twn.role = .catchingUp → g < 2 ^ 32 →
      Does (.fence g r) s ((s.raise 0x309).note 0x432 ([r] ++ words2 s.lastMseq)).fenced)

/-- Pulses are classed by width (R334); a standby that hears none claims or detaches (R316); a JOIN that accepts clears
the client tables and starts the catch-up (R343); a HELLO is answered by role and rank (R336, R341). The REASON of a
JOIN that refuses is the model's (log entry 39). -/
def Obligations.HellosAndPulses : Prop :=
  (∀ (s : State) (g : Nat) (r : Nat), s.twn.role = .detached → s.twn.linkUp = true →
      Does (.join g true r) s (({ s with
        epo := { s.epo with streams := [], used := [], loads := [], behind := [] }
        tqm := { s.tqm with windows := [] }
        nre := { s.nre with hosts := [] }
        twn := { s.twn with
          role := .catchingUp
          gen := g
          mseq := 0
          rxq := []
          rxBusy := false
          rxWant := none
          wreq := none
          grantHeld := 0
          handed := false
          wasHolder := false
          joinAt := s.timeUs } }).metaTouch metaRest)) ∧
  (∀ (s : State) (g r : Nat), s.twn.role = .active → Does (.join g true r) s s) ∧
  (∀ (s : State) (g : Nat), s.twn.role = .catchingUp → Does (.join g false 1) s s.detach) ∧
  (∀ (s : State), s.pwr.st = .service → s.twn.role ≠ .unpaired → Does .hbPulseOut s (s.emit (.pulse s.twn.role.pulse))) ∧
  (∀ (s : State), s.twn.role = .unpaired → Does .hbPulseOut s s) ∧
  (∀ (s : State) (ns : Nat), (ns < 500 ∨ (1500 < ns ∧ ns < 2500) ∨ (3500 < ns ∧ ns < 4500) ∨ (5500 < ns ∧ ns < 6500) ∨ 7500 < ns) →
      Does (.hbPulseIn ns) s (s.bump rTWN_CNT_HB_BAD)) ∧
  (∀ (s : State) (ns : Nat), 500 ≤ ns → ns ≤ 1500 → s.twn.linkUp = true →
      Does (.hbPulseIn ns) s { s with twn := { s.twn with hbIn := 1, hbAt := s.timeUs, pulses := 0 } }) ∧
  (∀ (s : State) (ns : Nat), 6500 ≤ ns → ns ≤ 7500 → s.twn.linkUp = false → s.twn.role = .active →
      Does (.hbPulseIn ns) s { s with twn := { s.twn with hbIn := 4, hbAt := s.timeUs, pulses := min 2 (s.twn.pulses + 1) } }) ∧
  (∀ (s : State) (ns : Nat), 2500 ≤ ns → ns ≤ 3500 → s.twn.linkUp = false → s.twn.role = .inStep → s.twn.pulses = 1 →
      s.twn.gaining = none →
      Does (.hbPulseIn ns) s ({ s with twn := { s.twn with hbIn := 2, hbAt := s.timeUs, pulses := 2 } }).detach) ∧
  (∀ (s : State), s.twn.role ≠ .inStep → Does .hbAbsent s { s with twn := { s.twn with hbIn := 0 } }) ∧
  (∀ (s : State), s.twn.role = .inStep → s.twn.linkUp = false → s.twn.gaining = none → s.witness = true →
      s.flag fTWN_CTRL_AUTO_CLAIM = true →
      Does .hbAbsent s { s with twn := { s.twn with hbIn := 0, role := .claiming, claimWhy := 0 } }) ∧
  (∀ (s : State), s.twn.role = .inStep → s.twn.linkUp = false → s.twn.gaining = none →
      s.witness = false ∨ s.flag fTWN_CTRL_AUTO_CLAIM = false →
      Does .hbAbsent s ({ s with twn := { s.twn with hbIn := 0 } }).detach) ∧
  (∀ (s : State) (g role d : Nat) (wh so vo : Bool), s.twn.role = .active → role ≠ 2 → s.twn.partner = .lost →
      s.twn.handover = none →
      Does (.hello g wh so vo role d) s ((s.helloKept g wh so vo role d).acceptJoin g so)) ∧
  (∀ (s : State) (g role d : Nat) (wh so vo : Bool), s.twn.role = .active → role ≠ 2 → s.twn.partner ≠ .lost →
      Does (.hello g wh so vo role d) s ((s.helloKept g wh so vo role d).twinOut (.join s.twn.gen false 3))) ∧
  (∀ (s : State) (g d : Nat) (wh so vo : Bool), s.twn.role = .starting →
      Does (.hello g wh so vo 2 d) s (s.helloKept g wh so vo 2 d).hello) ∧
  (∀ (s : State) (g d : Nat) (wh so vo : Bool), s.twn.role = .starting → s.ranksFirst g wh so vo = true → s.twn.stateOk = true →
      (s.witness = false → Does (.hello g wh so vo 1 d) s ((s.helloKept g wh so vo 1 d).gain s.twn.gen 2)) ∧
      (s.witness = true → Does (.hello g wh so vo 1 d) s { s.helloKept g wh so vo 1 d with
        twn := { (s.helloKept g wh so vo 1 d).twn with role := .claiming, claimWhy := 2, viewUntil := 0 } })) ∧
  (∀ (s : State) (g d : Nat) (wh so vo : Bool), s.twn.role = .starting → s.ranksFirst g wh so vo = false →
      Does (.hello g wh so vo 1 d) s (s.helloKept g wh so vo 1 d)) ∧
  (∀ (s : State) (g d : Nat) (wh so vo : Bool), s.twn.role = .detached → s.flag fTWN_CTRL_AUTO_JOIN = true →
      Does (.hello g wh so vo 2 d) s (s.helloKept g wh so vo 2 d).hello) ∧
  (∀ (s : State) (g d : Nat) (wh so vo : Bool), s.twn.role = .detached →
      Does (.hello g wh so vo 3 d) s ((s.helloKept g wh so vo 3 d).twinOut (.join s.twn.gen false 2)))

/-- When the witness is asked, and what each accepted or dropped answer does (R316, R331, R335, R345). -/
def Obligations.WitnessTraffic : Prop :=
  (∀ (s : State), s.twn.role = .claiming → s.twn.wreq = none → s.twn.grantHeld = 0 → Does .claimTimer s (s.witnessAsk 1)) ∧
  (∀ (s : State), s.twn.role ≠ .claiming → Does .claimTimer s s) ∧
  (∀ (s : State), s.twn.role = .starting → s.witness = true →
      Does .bootTimeout s { s with twn := { s.twn with role := .claiming, claimWhy := 2, viewUntil := 0 } }) ∧
  (∀ (s : State), s.witness = false → Does .bootTimeout s s) ∧
  (∀ (s : State), s.twn.role = .active → s.witness = true → s.twn.linkUp = false → s.twn.wreq = none →
      Does .witnessRenewTimer s (s.witnessAsk 2)) ∧
  (∀ (s : State), s.twn.linkUp = true → Does .witnessRenewTimer s s) ∧
  (∀ (s : State) (w : WReq), s.twn.wreq = some w →
      Does .witnessRetry s (({ s with twn := { s.twn with
        witnessOk := s.twn.witnessOk && decide (w.tries + 1 < 3) } }).witnessMail { w with tries := w.tries + 1 })) ∧
  (∀ (s u : State) (msg : List Byte), s.witnessTake 0x81 msg = (u, none) → Does (.witnessGrant msg) s u) ∧
  (∀ (s u : State) (msg : List Byte), s.witnessTake 0x82 msg = (u, none) → Does (.witnessDenyHeld msg) s u) ∧
  (∀ (s u : State) (msg : List Byte), s.witnessTake 0x83 msg = (u, none) → Does (.witnessDenyStale msg) s u) ∧
  (∀ (s u : State) (msg : List Byte) (w : WReq) (a g : Nat), s.witnessTake 0x81 msg = (u, some (w, a, g)) → w.type = 2 →
      Does (.witnessGrant msg) s { u with twn := { u.twn with renewUntil := max u.twn.renewUntil (a + 10000) } }) ∧
  (∀ (s u : State) (msg : List Byte) (w : WReq) (a g : Nat), s.witnessTake 0x81 msg = (u, some (w, a, g)) → w.type = 1 →
      u.twn.role = .claiming → u.twn.takeover = none → u.twn.claimWhy = 0 →
      (u.twn.viewUntil ≤ u.timeUs → Does (.witnessGrant msg) s
        (({ u with twn := { u.twn with renewUntil := max u.twn.renewUntil (a + 10000) } }).gain g 0)) ∧
      (u.timeUs < u.twn.viewUntil → Does (.witnessGrant msg) s
        { u with twn := { u.twn with renewUntil := max u.twn.renewUntil (a + 10000), grantHeld := g + 1 } })) ∧
  (∀ (s u : State) (msg : List Byte) (w : WReq) (a g : Nat), s.witnessTake 0x82 msg = (u, some (w, a, g)) → w.type = 3 →
      Does (.witnessDenyHeld msg) s (u.denied 0x82 g)) ∧
  (∀ (s u : State) (msg : List Byte) (w : WReq) (a g : Nat), s.witnessTake 0x83 msg = (u, some (w, a, g)) → w.type = 3 →
      Does (.witnessDenyStale msg) s (u.denied 0x83 g)) ∧
  (∀ (s u : State) (msg : List Byte) (w : WReq) (a g : Nat), w.type = 2 → (u.denied 0x82 g).twn.role = .active →
      (u.denied 0x83 g).twn.role = .active →
      (s.witnessTake 0x82 msg = (u, some (w, a, g)) → Does (.witnessDenyHeld msg) s ((u.denied 0x82 g).demote .detached)) ∧
      (s.witnessTake 0x83 msg = (u, some (w, a, g)) → Does (.witnessDenyStale msg) s ((u.denied 0x83 g).demote .detached)))

/-- What each service does in the roles that allow it, and its answer in the others (R316, R337, R338, R340). -/
def Obligations.TwinServices : Prop :=
  (∀ (s : State) (n : Nat), s.turn n 0x38 → s.twn.role = .detached → s.twnBusy = false →
      Does (.twinJoin n) s ((s.slotRunning n).hello.svcOut n svcOK)) ∧
  (∀ (s : State) (n : Nat), s.turn n 0x38 → s.twn.role = .catchingUp → Does (.twinJoin n) s ((s.slotRunning n).svcOut n svcBUSY)) ∧
  (∀ (s : State) (n : Nat), s.turn n 0x38 → s.twn.role = .active → Does (.twinJoin n) s ((s.slotRunning n).svcOut n svcDENIED)) ∧
  (∀ (s : State) (n : Nat), s.turn n 0x39 → s.twn.role = .active → s.twn.partner = .inStep → s.twnBusy = false →
      Does (.twinHandover n) s ((s.slotRunning n).handoverStart 1 (some n))) ∧
  (∀ (s : State) (n : Nat), s.turn n 0x39 → s.twn.role ≠ .active → Does (.twinHandover n) s ((s.slotRunning n).svcOut n svcDENIED)) ∧
  (∀ (s : State) (n : Nat), s.turn n 0x3A → s.twn.role = .inStep → s.twnBusy = false → s.witness = false →
      Does (.twinTakeover n) s (((s.slotRunning n).gain s.twn.gen 3).svcOut n svcOK)) ∧
  (∀ (s : State) (n : Nat), s.turn n 0x3A → s.twn.role = .detached → s.twnBusy = false → s.witness = true →
      Does (.twinTakeover n) s { s.slotRunning n with twn := { s.twn with
        takeover := some { slot := n, force := bitOf (s.slot n).flags 0, inStep := false, old := .detached }
        role := .claiming
        wreq := none
        grantHeld := 0 } }) ∧
  (∀ (s : State) (n : Nat), s.turn n 0x3A → s.twn.role = .unpaired → Does (.twinTakeover n) s ((s.slotRunning n).svcOut n svcDENIED)) ∧
  (∀ (s : State) (n : Nat), s.turn n 0x3B → s.twn.role ≠ .unpaired → s.twn.gaining = none →
      Does (.twinFence n) s ((((s.slotRunning n).note 0x432 ([5] ++ words2 (s.slotRunning n).lastMseq)).fenced).svcOut n svcOK)) ∧
  (∀ (s : State) (n : Nat), s.turn n 0x3B → s.twn.role = .unpaired → Does (.twinFence n) s ((s.slotRunning n).svcOut n svcDENIED))

/-- Buffers are granted by the rule of R350, wait or are returned, a bad return is latched (R354); a claim answers the
most urgent source with its count, a completion ends it or counts as a stray, software sets sources, MSI-X masks and
held messages (R359 to R369). -/
def Obligations.BuffersAndInterrupts : Prop :=
  (∀ (s : State) (o p n : Nat) (up ll : Bool) (t : Option Nat), bufferAsk o p n = false → Does (.bufferAlloc o p n up ll t) s s) ∧
  (∀ (s u : State) (o p n : Nat) (up ll : Bool) (t : Option Nat) (l : List Nat), bufferAsk o p n = true → ownerFree o = true →
      s.bpmAlloc o p n up ll none = (u, some l) → Does (.bufferAlloc o p n up ll t) s u) ∧
  (∀ (s u : State) (o p n : Nat) (up ll : Bool) (t : Option Nat) (l : List Nat), bufferAsk o p n = true → ownerFree o = false →
      s.bpmAlloc o p n up ll t = (u, some l) → Does (.bufferAlloc o p n up ll t) s (u.bufferCharge o l t)) ∧
  (∀ (s u : State) (o p n : Nat) (up ll : Bool) (t : Option Nat), bufferAsk o p n = true → ownerFree o = false →
      s.bpmAlloc o p n up ll t = (u, none) → o < 0x20 ∨ 0x40 ≤ o →
      Does (.bufferAlloc o p n up ll t) s (({ u with bpm := { u.bpm with
        waits := u.bpm.waits ++ [(o, p, n, up, (t.map (· + 1)).getD 0)] } }).bump rBPM_CNT_WAIT)) ∧
  (∀ (s : State) (o p n : Nat), s.grantRule o p n false = 1 →
      s.bpmAlloc o p n false false none = ((s.grantBufs o p n false none).1, some (s.grantBufs o p n false none).2)) ∧
  (∀ (s : State) (ptr o p k : Nat), s.ptrFind ptr = .ok (p, k) → (Tab.get (fun _ => ({} : Buf)) s.bpm.bufs k).tenant = 0 →
      Does (.bufferReturn ptr o) s { s with bpm := { s.bpm with bufs := Tab.set (fun _ => {}) s.bpm.bufs k {} } }) ∧
  (∀ (s : State) (ptr o c : Nat), s.ptrFind ptr = .error c → s.bpm.badSec ≠ s.timeUs / 1000000 + 1 →
      ∃ t, Does (.bufferReturn ptr o) s t ∧ t.bpm.bufs = s.bpm.bufs ∧ t.bpm.badPtr = ptr % 2 ^ 27 ∧ t.bpm.badCause = c ∧
        t.bpm.badOwner = o ∧ t.bpm.badSec = s.timeUs / 1000000 + 1) ∧
  (∀ (s : State) (k : Nat), s.bpm.waits.length ≤ k → Does (.bufferWaitRetry k) s s) ∧
  (∀ (s u : State) (k o p n : Nat) (up : Bool) (l : List Nat), s.bpm.waits[k]? = some (o, p, n, up, 0) →
      s.bpmAlloc o p n up false none = (u, some l) →
      Does (.bufferWaitRetry k) s { u with bpm := { u.bpm with waits := u.bpm.waits.eraseIdx k } }) ∧
  (∀ (s : State) (t : Nat), t < 5 → s.deliverable t = none → (s.tgt t).signalled = false →
      Does (.intClaim t) s ((s.setTgt t { s.tgt t with signalled := false }).emit (.readData "INT_CLAIM" 0))) ∧
  (∀ (s : State) (t : Nat), t < 5 → s.deliverable t = none → (s.tgt t).signalled = true →
      Does (.intClaim t) s (((s.setTgt t { s.tgt t with signalled := false }).bump rINT_CNT_SPURIOUS).emit (.readData "INT_CLAIM" 0xFFF))) ∧
  (∀ (s : State) (t n : Nat), t < 5 → s.deliverable t = some n → levelClass n = false →
      Does (.intClaim t) s ((((s.setTgt t { s.tgt t with signalled := false }).setSrc n { s.src n with
        cnt := 0
        sw := false
        active := some t
        offered := none }).bump rINT_CNT_OFFER).emit
          (.readData "INT_CLAIM" (n + (s.src n).cnt * 2 ^ 12 + s.srcPrio n * 2 ^ 24)))) ∧
  (∀ (s : State) (t : Nat), 5 ≤ t → Does (.intClaim t) s (s.emit (.readData "INT_CLAIM" 0))) ∧
  (∀ (s : State) (t n : Nat), t < 21 → (s.src n).active = some t → Does (.intComplete t n) s (s.srcDone n)) ∧
  (∀ (s : State) (t n : Nat), t < 21 → (s.src n).active ≠ some t → (s.bump rINT_CNT_STRAY).flag fINT_CTRL_MODE = false →
      Does (.intComplete t n) s (s.bump rINT_CNT_STRAY)) ∧
  (∀ (s : State) (n : Nat), srcSettable n = true →
      (levelClass n = true → Does (.intSwset n) s (s.setSrc n { s.src n with sw := true })) ∧
      (levelClass n = false → Does (.intSwset n) s (s.raise n))) ∧
  (∀ (s : State) (n : Nat), srcSettable n = false → Does (.intSwset n) s s) ∧
  (∀ (s : State) (n v : Nat), 0 < n → n ≤ 0x480 →
      Does (.intSrcWrite n false v) s (s.setReg (rINT_SRC + 8 * n) (BitVec.ofNat 32 (v % 512))) ∧
      Does (.intSrcWrite n true v) s (s.setFld (fINT_SRC_TGT_TGT_EN.plus (8 * n)) v)) ∧
  (∀ (s : State) (v : Nat) (b : Bool), Does (.intSrcWrite 0 b v) s s) ∧
  (∀ (s : State) (en a b : Bool),
      Does (.msixControlWrite en a b) s ((({ s with int := { s.int with msixEn := en } }).vecWrite 1 a).vecWrite 2 b)) ∧
  (∀ (s : State) (k : Nat), k = 1 ∨ k = 2 → s.int.msixEn = true → (s.tgt k).pba = true →
      s.vecWrite k false = (s.setTgt k { s.tgt k with vecMask := false, pba := false, signalled := true }).emit (.msix (k - 1)))

/-- Images and firmware are written, checked, reloaded and activated, or refused (R399, R424 to R430). A good copy that
IMAGE_VERIFY checks is known as good, and its header is programmed if it was being loaded (R415, R426); IMAGE_RELOAD rewrites
every image field, or nothing where a start-only setting differs. A chunk outside the copy is answered BUSY, which is the
model's (log entry 73). -/
def Obligations.ImageServices : Prop :=
  (∀ (s : State) (n : Nat), s.turn n 0x40 → (s.slot n).arg 0 1 > 1 →
      Does (.imageWrite n) s ((s.slotRunning n).svcOut n svcFORMAT)) ∧
  (∀ (s : State) (n c : Nat), s.turn n 0x40 → (s.slot n).arg 0 1 = c → c ≤ 1 → (s.slot n).arg 8 2 ≠ 0 → (s.slot n).arg 8 2 ≤ 192 →
      (s.slot n).zero 1 3 = true → (s.slot n).zero 10 6 = true →
      (s.rgc.good.contains (1 - c) = false →
        Does (.imageWrite n) s ((s.slotRunning n).svcOut n svcBUSY)) ∧
      (s.rgc.good.contains (1 - c) = true → (s.slot n).arg 4 4 + (s.slot n).arg 8 2 ≤ 0x800000 → (s.slot n).first = true →
        Does (.imageWrite n) s ((((s.slotRunning n).cfgErase c).imagePut c ((s.slot n).arg 4 4)
          ((s.slot n).bytes 32 ((s.slot n).arg 8 2)) { which := c, next := 0, head := List.replicate 64 0xFF }).svcOut n svcOK))) ∧
  (∀ (s u : State) (n c : Nat) (k : Checked), s.turn n 0x41 → (s.slot n).arg 0 1 = c → c ≤ 1 →
      (s.slotRunning n).checkCopy c (((s.slotRunning n).load c).elim ((s.slotRunning n).cfgBytes c 0 64) (·.head))
        (s.slotRunning n).checkLife false = (u, k) → k.cause ≠ 0 →
      Does (.imageVerify n) s ((u.rejectCopy c k.cause).svcOut n { code := 1, reason := k.cause })) ∧
  (∀ (s u : State) (n c : Nat) (h : List Byte) (k : Checked), s.turn n 0x41 → (s.slot n).arg 0 1 = c → c ≤ 1 →
      h = ((s.slotRunning n).load c).elim ((s.slotRunning n).cfgBytes c 0 64) (·.head) →
      (s.slotRunning n).checkCopy c h (s.slotRunning n).checkLife false = (u, k) → k.cause = 0 →
      ∃ t : State, Does (.imageVerify n) s (t.svcOut n { words := [numAt h 12 4] }) ∧ t.rgc.good.contains c = true ∧
        (c = 0 → t.rgc.sealA = false) ∧ (c = 1 → t.rgc.sealB = false ∧ t.rgc.verifiedB = true) ∧
        ((u.load c).isSome = true → t.rgc.cfg = (u.cfgPut c 0 h).rgc.cfg ∧
          t.rgc.loading = Tab.set (fun _ => none) u.rgc.loading c none)) ∧
  (∀ (s : State) (n : Nat), s.turn n 0x42 → (s.slot n).arg 0 1 ≤ 1 → s.pwr.st ≠ .quiesced →
      Does (.imageReload n) s ((s.slotRunning n).svcOut n svcBUSY)) ∧
  (∀ (s u : State) (n c : Nat) (k : Checked), s.turn n 0x42 → (s.slot n).arg 0 1 = c → c ≤ 1 → s.pwr.st = .quiesced →
      (s.slotRunning n).checkCopy c ((s.slotRunning n).cfgBytes c 0 64) (s.slotRunning n).lifecycle false = (u, k) → k.cause ≠ 0 →
      Does (.imageReload n) s ((u.note 0x475 [1]).svcOut n { code := 1, reason := k.cause })) ∧
  (∀ (s u v : State) (n c : Nat) (k : Checked), s.turn n 0x42 → (s.slot n).arg 0 1 = c → c ≤ 1 → s.pwr.st = .quiesced →
      (s.slotRunning n).checkCopy c ((s.slotRunning n).cfgBytes c 0 64) (s.slotRunning n).lifecycle false = (u, k) → k.cause = 0 →
      u.applyImage c k true = v → v.startOnly = u.startOnly → sectValue k.sects 1 = some u.sup.supply →
      Does (.imageReload n) s
        (((({ v with sec := { v.sec with level := v.baseLevel } }).modeWrite
          (({ v with sec := { v.sec with level := v.baseLevel } }).fld ⟨rFCH_CTRL, 1, 0⟩ == 1)).note 0x475 [0]).svcOut n svcOK)) ∧
  (∀ (s u : State) (n c : Nat) (k : Checked), s.turn n 0x42 → (s.slot n).arg 0 1 = c → c ≤ 1 → s.pwr.st = .quiesced →
      (s.slotRunning n).checkCopy c ((s.slotRunning n).cfgBytes c 0 64) (s.slotRunning n).lifecycle false = (u, k) → k.cause = 0 →
      (u.applyImage c k true).startOnly ≠ u.startOnly ∨ sectValue k.sects 1 ≠ some u.sup.supply →
      Does (.imageReload n) s ((u.note 0x475 [2]).svcOut n { code := 1, reason := 10 })) ∧
  (∀ (s : State) (n : Nat), s.turn n 0x48 → (s.slot n).zero 0 4 = true → (s.slot n).zero 10 6 = true →
      0 < (s.slot n).arg 8 2 → (s.slot n).arg 8 2 ≤ 192 →
      ((s.slot n).arg 4 4 + (s.slot n).arg 8 2 ≤ 0x400000 → (s.slot n).first = true →
        Does (.fwWrite n) s ((((s.slotRunning n).fwErase (1 - s.efl.ptrBank)).fwPut (1 - s.efl.ptrBank) ((s.slot n).arg 4 4) 0
          ((s.slot n).bytes 32 ((s.slot n).arg 8 2))).svcOut n svcOK)) ∧
      ((s.slot n).arg 4 4 + (s.slot n).arg 8 2 > 0x400000 → Does (.fwWrite n) s ((s.slotRunning n).svcOut n svcBUSY))) ∧
  (∀ (s u : State) (n c v : Nat), s.turn n 0x49 → (s.slotRunning n).fwCheck (1 - s.efl.ptrBank) = (u, c, v) → c ≠ 0 →
      Does (.fwActivate n) s (u.svcOut n { code := 1, reason := c })) ∧
  (∀ (s u : State) (n v : Nat), s.turn n 0x49 → (s.slotRunning n).fwCheck (1 - s.efl.ptrBank) = (u, 0, v) →
      ∃ t : State, Does (.fwActivate n) s (t.registrarRestart.note 0x478 [s.rgc.fwVer, v, 0]) ∧
        t.rgc.fallback = some (s.efl.ptrBank, s.rgc.fwVer)) ∧
  (∀ (s : State), s.rgc.ready = true → s.rgc.confirmed = false →
      (∀ b v, s.rgc.fallback = some (b, v) → Does .fwConfirmTimer s
        (({ s with rgc := { s.rgc with confirmed := true, fallback := none } }).note 0x478 [v, s.rgc.fwVer, 1])) ∧
      (s.rgc.fallback = none → Does .fwConfirmTimer s { s with rgc := { s.rgc with confirmed := true, fallback := none } })) ∧
  (∀ (s : State), s.rgc.ready = false ∨ s.rgc.confirmed = true → Does .fwConfirmTimer s s) ∧
  (∀ s : State, Does .ackRestart s { s with rgc := { s.rgc with restarted := false } })

/-- A narrow write is ignored and counted, a whole one reaches the register from a path that may reach it; unassigned
windows read 0 and are counted; IDATA stands beside its IADDR (R464, R465, R493, R494, R499). -/
def Obligations.RegisterAccesses : Prop :=
  (∀ (s : State) (be a v : Nat), be % 16 ≠ 15 → s.regsOpen 0 = true →
      Does (.registerWrite 0 be a v) s (s.bumpFld fTOP_CNT_ACCESS_NARROW)) ∧
  (∀ (s : State) (p be a v : Nat), p < 2 → s.regsOpen 0 = true → s.coreRuns = true → (p = 0 → be % 16 = 15) →
      Does (.registerWrite p be a v) s (s.writeReg p a (v % 2 ^ 32))) ∧
  (∀ (s : State) (be a v : Nat), s.regsOpen 1 = true → s.sec.level = 2 →
      Does (.registerWrite 2 be a v) s (s.writeReg 2 a (v % 2 ^ 32)) ∧ Does (.dbgAccess true a v)
        s (({ s with dft := { s.dft with jtag := .dbgAccess } }).writeReg 2 (a % 2 ^ 26) (v % 2 ^ 32))) ∧
  (∀ (s : State) (be a v : Nat), s.regsOpen 1 = true → s.sec.level = 0 → secReg (canon a) = false →
      Does (.registerWrite 2 be a v) s s.secDenied) ∧
  (∀ (s : State) (p be a v : Nat), s.coreRuns = false → Does (.registerWrite p be a v) s s) ∧
  (∀ (s : State) (w o : Nat), s.regsOpen 0 = true →
      Does (.unmappedAccess 0 w o true) s (s.bumpFld fTOP_CNT_ACCESS_UNMAPPED) ∧
      Does (.unmappedAccess 0 w o false) s ((s.bumpFld fTOP_CNT_ACCESS_UNMAPPED).emit (.readData "host" 0))) ∧
  (∀ (s : State) (p a v : Nat) (w : Bool), iaddrReg (canon a) = false → Does (.idataAccess p a w v) s s) ∧
  (∀ (s : State) (a v : Nat), iaddrReg (canon a) = true → s.regsOpen 0 = true →
      Does (.idataAccess 0 a true v) s (s.writeReg 0 (a + 4) (v % 2 ^ 32)) ∧
      Does (.idataAccess 0 a false v) s ((s.readReg 0 (a + 4)).1.emit (.readData "host" (s.readReg 0 (a + 4)).2))) ∧
  (∀ (s : State) (w : Nat), w < 0x3C → s.coreRuns = true → Does (.counterSnap 1 w) s (s.writeReg 1 (w * 0x100000 + snapOff w) 1)) ∧
  (∀ (s : State) (w : Nat), 0x3C ≤ w → Does (.counterSnap 0 w) s s)

/-- A write of 1 to a block's SNAP bit copies its live counters; the copies of other windows, the counters and the
register file stay (R501). -/
def Obligations.SnapCopiesCounters : Prop :=
  (∀ (s : State), s.writeReg 1 0xC00070 1 = s.snap 0x0C) ∧
  (∀ (s : State) (w a : Nat), (w < 0x10 ∨ 0x20 ≤ w) → w ≠ 9 → winOf a = w → Tab.wf (fun _ => (0 : W32)) s.sh = true →
      Tab.wf (fun _ => (0 : W32)) s.cnt = true →
      Tab.get (fun _ => (0 : W32)) (s.snap w).sh a = Tab.get (fun _ => (0 : W32)) s.cnt a) ∧
  (∀ (s : State) (w a : Nat), (w < 0x10 ∨ 0x20 ≤ w) → w ≠ 9 → winOf a ≠ w →
      Tab.get (fun _ => (0 : W32)) (s.snap w).sh a = Tab.get (fun _ => (0 : W32)) s.sh a) ∧
  (∀ (s : State) (w : Nat), (s.snap w).cnt = s.cnt ∧ (s.snap w).regs = s.regs)

/-- The ROM's flash calls: their refusals, what they start, what their ends leave, good and bad (R432 to R438). -/
def Obligations.FlashCalls : Prop :=
  (∀ (s : State) (a n : Nat), a % 16 ≠ 0 ∨ a + 16 * n > 0x1800000 → Does (.flashRead a n) s (s.emit (.flash 7 []))) ∧
  (∀ (s : State) (a : Nat), a % 16 = 0 → a + 16 ≤ 0x1800000 → s.efl.op0 = .none → s.efl.op1 = .none → s.efl.susp = none →
      s.efl.suspect = [] → Tab.get (fun _ => .erased) s.efl.words (a / 16) = .erased →
      Does (.flashRead a 1) s (s.emit (.flash 0 [BitVec.allOnes 128]))) ∧
  (∀ (s : State) (a : Nat) (d : BitVec 128), a % 16 ≠ 0 ∨ a ≥ 0x1800000 → Does (.flashProgram a d) s (s.emit (.flash 7 []))) ∧
  (∀ (s : State) (a : Nat) (d : BitVec 128), a % 16 = 0 → a < 0x1800000 → flashOwn (a / 4096) = true →
      Does (.flashProgram a d) s (s.emit (.flash 6 []))) ∧
  (∀ (s : State) (a : Nat) (d : BitVec 128), a % 16 = 0 → a < 0x1800000 → flashOwn (a / 4096) = false → s.efl.op0 = .none →
      s.efl.op1 = .none → s.efl.suspect = [] → Tab.get (fun _ => .erased) s.efl.words (a / 16) = .erased →
      Does (.flashProgram a d) s ((s.setFop (wordBank (a / 16)) (.program (a / 16) d)).feed)) ∧
  (∀ (s : State) (a : Nat), a % 4096 ≠ 0 ∨ a ≥ 0x1800000 → Does (.flashErase a) s (s.emit (.flash 7 []))) ∧
  (∀ (s : State) (a : Nat), a % 4096 = 0 → a < 0x1800000 → flashOwn (a / 4096) = false → s.erasing = false →
      s.programming (wordBank (a / 4096 * 256)) = false → Does (.flashErase a) s (s.startErase (a / 4096))) ∧
  (∀ (s : State) (b w : Nat) (d : BitVec 128), s.fop b = .program w d →
      Does (.flashProgramDone b true) s ((((s.setFop b .none).progWord w d).romAnswer 0 []).flashRelease) ∧
      Does (.flashProgramDone b false) s ((((((s.setFop b .none).setFword w .torn).raise 0x053).note 0x483 [w / 256, 0]).romAnswer 5
        []).flashRelease)) ∧
  (∀ (s u : State) (b sec : Nat), s.fop b = .erase sec →
      u = (((s.setFop b .none).clearSector sec).bump rEFL_CNT_ERASE).journal sec 2 →
      Does (.flashEraseDone b true) s
        ((({ u with efl := { u.efl with suspect := u.efl.suspect.filter (· != sec) } }).romAnswer 0 []).flashRelease.daybookErase)) ∧
  (∀ (s : State) (b sec : Nat), s.fop b = .erase sec →
      Does (.flashEraseDone b false) s
        (((((((List.range 256).foldl (fun s i => s.setFword (sec * 256 + i) .torn) (s.setFop b .none)).raise 0x053).note 0x483
          [sec, 1])).romAnswer 5 []).flashRelease.daybookErase)) ∧
  (∀ (s : State) (b : Nat) (g : Bool), s.fop b = .none → Does (.flashEraseDone b g) s s ∧ Does (.flashProgramDone b g) s s) ∧
  (∀ (s u : State) (sec : Nat), s.efl.susp = some sec → s.fop (wordBank (sec * 256)) = .none →
      u = s.setFop (wordBank (sec * 256)) (.erase sec) →
      Does .flashEraseResume s ({ u with efl := { u.efl with susp := none, holdTill := s.timeUs + 500 } }).feed) ∧
  (∀ (s : State), s.efl.susp = none → Does .flashEraseResume s s)

/-- Records wait in a queue of 64 and are dropped and counted when it is full; one is programmed with its SEQ at both
ends; hours, the window and the SEQ latch (R443 to R450). -/
def Obligations.Daybook : Prop :=
  (∀ (s : State) (code : Nat) (l : List Nat), s.dbk.queue.length < 64 →
      Does (.daybookRecord code l) s { s with dbk := { s.dbk with queue := s.dbk.queue ++ [{
        code := code
        hours := s.dbk.hours
        uptime := (s.timeUs - s.dbk.startAt) / 1000
        cycles := s.dbk.cycles
        words := (l.map (· % 2 ^ 32)).take 8 }] } }) ∧
  (∀ (s : State) (code : Nat) (l : List Nat), 64 ≤ s.dbk.queue.length →
      ∃ t, Does (.daybookRecord code l) s t ∧ t.dbk.queue = s.dbk.queue ∧ t.dbk.dropped = s.dbk.dropped + 1 ∧
        t.dbk.firstDropped = (if s.dbk.dropped = 0 then code else s.dbk.firstDropped)) ∧
  (∀ (s u : State) (r : DRec) (l : List DRec), s.dbk.queue = r :: l → s.efl.ready = true → s.efl.op0 = .none → s.efl.op1 = .none →
      s.efl.susp = none → s.efl.suspect = [] → s.dbk.eraseNext = none → s.dbk.dropped = 0 → s.slotErasing s.dbk.head = false →
      u = s.progWords (slotWord s.dbk.head)
        ((List.range 4).map (fun i => wordOf (((recordBytes s.dbk.seq r).drop (16 * i)).take 16))) →
      Does .daybookProgram s ((({ u with dbk := { u.dbk with
        queue := l
        dropped := 0
        firstDropped := 0
        head := (s.dbk.head + 1) % 32768
        seq := (u.dbk.seq + 1) % 2 ^ 48
        eraseNext := if (s.dbk.head + 1) % 32768 % 64 = 0 then some (slotSector ((s.dbk.head + 1) % 32768)) else none } }.bump
          rDBK_CNT_WRITTEN).raise 0x058).daybookErase)) ∧
  (∀ (s : State), s.dbk.queue = [] → Does .daybookProgram s s) ∧
  (∀ (s : State), Does .hoursCheckpoint s (({ s with dbk := { s.dbk with hours := (s.dbk.hours + 10) % 2 ^ 32 } }).setting 0x0002
      [(s.dbk.hours + 10) % 2 ^ 32])) ∧
  (∀ (s u : State) (v : W32), s.dbkWin (s.fld fDBK_CURSOR_SLOT) 15 = (u, v) →
      (u.flag fDBK_CTRL_AUTO = true → Does .dbkWin15Read s
        ((u.setFld fDBK_CURSOR_SLOT ((s.fld fDBK_CURSOR_SLOT + 1) % 32768)).emit (.readData "DBK_WIN15" v.toNat))) ∧
      (u.flag fDBK_CTRL_AUTO = false → Does .dbkWin15Read s (u.emit (.readData "DBK_WIN15" v.toNat)))) ∧
  (∀ (s : State), Does .dbkSeqLoRead s (({ s with dbk := { s.dbk with seqHi := s.dbk.seq / 2 ^ 32 % 65536 } }).emit
      (.readData "DBK_SEQ_LO" (s.dbk.seq % 2 ^ 32)))) ∧
  (∀ (seq : Nat) (r : DRec), (recordBytes seq r).length = 64 ∧ (recordBytes seq r).drop 62 = [0x5A#8, 0xDB#8] ∧
      (recordBytes seq r).take 6 = leBytes 6 seq ∧ ((recordBytes seq r).drop 56).take 6 = leBytes 6 seq)

/-- Challenges are formed or refused, checked within 10 s by one request of KCE, counted as failures with a lockout at the
fourth; RELOCK; provisioning checks its conditions in order and burns a row (R461, R466 to R468). -/
def Obligations.UnlockAndProvisioning : Prop :=
  (∀ (s : State) (p k : Nat), s.regsOpen p = true → s.chalRefused (k % 4) = true → (s.setFld fSEC_UNLOCK_PURPOSE (k % 4)).chalRefused
      (k % 4) = true → Does (.unlockChallenge p k) s (s.setFld fSEC_UNLOCK_PURPOSE (k % 4))) ∧
  (∀ (s u : State) (p k : Nat), s.regsOpen p = true → u = s.setFld fSEC_UNLOCK_PURPOSE (k % 4) → u.chalRefused (k % 4) = false →
      Does (.unlockChallenge p k) s { u with sec := { u.sec with
        issued := u.sec.issued + 1
        chal := some (u.challenge (u.sec.issued + 1) (k % 4), k % 4, p, u.timeUs)
        chalRegs := u.challenge (u.sec.issued + 1) (k % 4) } }) ∧
  (∀ (s : State) (n k : Nat), (s.challenge n k).length = 16) ∧
  (∀ (s : State) (p : Nat), s.regsOpen p = true → s.sec.chal = none → Does (.unlockSubmit p) s (s.unlockFail p)) ∧
  (∀ (s : State) (p : Nat) (b : List Nat) (k q a : Nat), s.regsOpen p = true → s.sec.chal = some (b, k, q, a) →
      a + 10000000 ≤ s.timeUs →
      Does (.unlockSubmit p) s (State.unlockFail { s with sec := { s.sec with chal := none } } p)) ∧
  (∀ (s u : State) (p : Nat) (b : List Nat) (k q a : Nat), s.regsOpen p = true → s.sec.chal = some (b, k, q, a) →
      s.timeUs < a + 10000000 → s.cipherOn = true →
      u = { s with sec := { s.sec with chal := none, submitted := some (k, p) } } →
      Does (.unlockSubmit p) s (u.kceSubmit
        { who := 2, slot := 4, use := 1, urgent := true, msg := b.map (BitVec.ofNat 8 ·), mac := s.respBytes })) ∧
  (∀ (s : State) (p : Nat), (s.unlockFail p).sec.failures = s.sec.failures + 1 ∧
      ((s.unlockFail p).sec.lockout = true ↔ s.sec.lockout = true ∨ s.sec.failures ≥ 3)) ∧
  (∀ (s : State) (p : Nat), s.regsOpen p = true →
      Does (.unlockRelock p) s { s with sec := { s.sec with level := s.baseLevel } }) ∧
  (∀ (s : State) (p k : Nat), s.coreRuns = false →
      Does (.unlockChallenge p k) s s ∧ Does (.unlockSubmit p) s s ∧ Does (.unlockRelock p) s s ∧ Does .provisionCommit s s) ∧
  (∀ (s : State), Does .challengeExpiry s { s with sec := { s.sec with chal := none } }) ∧
  (∀ (s : State), s.regsOpen 0 = true → s.sec.burning = none → s.lifecycle ≠ 0 → Does .provisionCommit s (s.provEnd 1)) ∧
  (∀ (s : State), s.regsOpen 0 = true → s.sec.burning = none → s.lifecycle = 0 → s.sec.seed = none ∨ s.rgc.verifiedB = false →
      Does .provisionCommit s (s.provEnd 2)) ∧
  (∀ (s u : State) (v row : Nat), s.regsOpen 0 = true → s.sec.burning = none → s.lifecycle = 0 → s.sec.seed ≠ none →
      s.rgc.verifiedB = true → s.fwCheck (1 - s.efl.ptrBank) = (u, 0, v) → u.sec.fuse.freeRow = some row →
      Does .provisionCommit s { u with sec := { u.sec with burning := some row, provResult := 0 } }) ∧
  (∀ (s : State), s.sec.burning = none → Does (.fuseBurnDone true) s s) ∧
  (∀ (s u : State) (row : Nat), s.sec.burning = some row →
      u = { s with sec := { s.sec with burning := none, fuse := s.sec.fuse.burnRow row (s.sec.seed.getD []) false } } →
      Does (.fuseBurnDone false) s ((u.provEnd 4).note 0x494 [row, 4])) ∧
  (∀ (s u v : State) (row : Nat), s.sec.burning = some row →
      u = { s with sec := { s.sec with
        burning := none
        fuse := { s.sec.fuse.burnRow row (s.sec.seed.getD []) true with owned := some row } } } →
      v = ((u.cfgErase 0).note 0x490 (words2 (s.sec.fuse.burnRow row (s.sec.seed.getD []) true).uid.toNat ++ [row])).powerDown .off 9 →
      Does (.fuseBurnDone true) s { v with sup := { v.sup with onLatched := true } })

/-- Requests queue up to 64, an URGENT one suspends a NORMAL one, results and counts (R455 to R459). -/
def Obligations.KeyEngine : Prop :=
  (∀ (s : State) (w slot use : Nat) (msg mac : List Byte), s.coreRuns = false ∨ 1 < w ∨ 31 < slot ∨ 2 < use →
      Does (.kceRequest w slot use msg mac) s s) ∧
  (∀ (s : State) (slot use : Nat) (msg mac : List Byte), s.coreRuns = true → s.cipherOn = false → slot ≤ 31 → use ≤ 2 →
      msg.length ≤ 0x1000000 →
      Does (.kceRequest 0 slot use msg mac) s { s with sec := { s.sec with kLast := (0, 4, []) } }) ∧
  (∀ (s : State) (slot use : Nat) (msg mac : List Byte), s.coreRuns = true → s.cipherOn = true → slot ≤ 31 → use ≤ 2 →
      msg.length ≤ 0x1000000 →
      Does (.kceRequest 0 slot use msg mac) s (s.kceSubmit { who := 0, slot := slot, use := use, urgent := false, msg := msg, mac := mac })) ∧
  (∀ (s : State) (q : KReq), 64 ≤ s.sec.kQueue.length →
      s.kceSubmit q = { s with sec := { s.sec with kWait := s.sec.kWait ++ [q] } }) ∧
  (∀ (s : State) (q : KReq), s.sec.kQueue = [] → s.sec.kRun = none → s.sec.kSusp = none → s.sec.kWait = [] →
      s.kceSubmit q = { s with sec := { s.sec with kRun := some { q with key := some (s.key q.slot) } } }) ∧
  (∀ (s : State) (q r : KReq), s.sec.kQueue = [] → s.sec.kRun = some r → s.sec.kWait = [] → q.urgent = true → r.urgent = false →
      ((s.kceSubmit q).sec.kSusp = some r ∧ (s.kceSubmit q).sec.kRun = some { q with key := some (s.key q.slot) })) ∧
  (∀ (s : State), s.sec.kRun = none → Does .kceRequestDone s s) ∧
  (∀ (s u : State) (q : KReq) (r : Nat) (mac : List Byte), s.sec.kRun = some q → q.who ≠ 2 →
      kceResult (q.key.getD {}) q.use q.msg q.mac = (r, mac) →
      u = { s with sec := { s.sec with kRun := none, kLast := (q.who, r, mac) } } →
      Does .kceRequestDone s (u.kceCount r).kceStart) ∧
  (∀ (k : Key) (use : Nat) (msg mac : List Byte), k.bytes = [] → kceResult k use msg mac = (2, [])) ∧
  (∀ (k : Key) (msg mac : List Byte), k.bytes ≠ [] → k.verify = true →
      ((kceResult k 1 msg mac).1 = 0 ↔ cmac k.bytes (natsOf msg) = natsOf mac) ∧
      ((kceResult k 1 msg mac).1 = 0 ∨ (kceResult k 1 msg mac).1 = 1)) ∧
  (∀ (k : Key) (msg mac : List Byte), k.bytes ≠ [] → k.macOut = false → (kceResult k 2 msg mac).1 = 3)

/-- Transactions by channel state and by what the bus does, the idle check and recovery, attention, the target port (R475
to R481). -/
def Obligations.SidebandBus : Prop :=
  (∀ (s : State) (c a l : Nat) (b : List Byte) (ack pec hang : Bool), c < 4 → s.coreRuns = true → (s.sbCh c).st = 0 →
      Does (.sbTransaction c a b l ack pec hang) s (s.setSbCh c { s.sbCh c with st := 0, run := none, last := some .aborted })) ∧
  (∀ (s : State) (c a l : Nat) (b : List Byte) (ack pec hang : Bool), c < 4 → s.coreRuns = true → (s.sbCh c).st = 5 →
      Does (.sbTransaction c a b l ack pec hang) s (s.setSbCh c { s.sbCh c with st := 5, run := none, last := some .stuck })) ∧
  (∀ (s : State) (c a l : Nat) (b : List Byte) (ack pec hang : Bool), c < 4 → s.coreRuns = true → (s.sbCh c).st = 3 →
      Does (.sbTransaction c a b l ack pec hang) s (s.setSbCh c { s.sbCh c with
        queue := (s.sbCh c).queue ++ [{ addr := a % 128, bytes := b, lost := l, ack := ack, pecOk := pec, hang := hang }] })) ∧
  (∀ (s u : State) (c : Nat) (x : SbTx), x.lost = 0 → x.hang = false → x.pecOk = true →
      u = ((s.bumpFldN (fSBB_CH_CNT_ARB_LOST.plus (sbOff c)) 0).raiseN (sbSrc c 2) 0).emit (.sb c x.addr x.bytes) →
      (x.ack = false → s.sbRun c x = u.sbEnd c .nack 2) ∧ (x.ack = true → s.sbRun c x = u.sbEnd c .ok 2)) ∧
  (∀ (s : State) (c : Nat) (r : List Bool), c < 4 → s.coreRuns = true →
      ((s.sbCh c).st = 1 → (s.sbCh c).queue = [] →
        Does (.sbIdleCheck c true true r) s (s.setSbCh c { s.sbCh c with st := 2, scl := true, sda := true })) ∧
      ((s.sbCh c).st = 5 → (s.sbCh c).queue = [] →
        Does (.sbStuckRetry c true true r) s (s.setSbCh c { s.sbCh c with st := 2, scl := true, sda := true })) ∧
      ((s.sbCh c).st = 1 → Does (.sbIdleCheck c false false r) s (s.sbStuck c false false 0)) ∧
      ((s.sbCh c).st = 2 → Does (.sbIdleCheck c true true r) s s ∧ Does (.sbStuckRetry c true true r) s s)) ∧
  (∀ (s : State) (c : Nat), c < 4 → s.coreRuns = true → (s.sbCh c).st = 2 → s.flag (fSBB_CH_CFG_SOLE.plus (sbOff c)) = true →
      s.flag (fSBB_CH_CFG_ATTN_EN.plus (sbOff c)) = true →
      Does (.sbAttention c []) s ((s.bumpFld (fSBB_CH_CNT_ARB_ATTN.plus (sbOff c))).emit (.sb c 0x0C [])) ∧
      ∀ a, Does (.sbAttention c [a]) s (((s.bumpFld (fSBB_CH_CNT_ARB_ATTN.plus (sbOff c))).sbAttend c a).emit (.sb c 0x0C []))) ∧
  (∀ (s : State) (c : Nat) (l : List Nat), s.flag (fSBB_CH_CFG_SOLE.plus (sbOff c)) = false → Does (.sbAttention c l) s s) ∧
  (∀ (s : State) (c : Nat), c < 4 → (s.sbCh c).st = 3 → Does (.sbTimeout c) s (s.sbEnd c .timeout 1)) ∧
  (∀ (s : State) (c : Nat), (s.sbCh c).st ≠ 3 → Does (.sbTimeout c) s s) ∧
  (∀ (s : State) (p b : Byte), s.sbtOn = true →
      Does (.sbtWrite [p]) s { s with sbb := { s.sbb with ptr := p.toNat } } ∧
      Does (.sbtWrite [p, b]) s (State.sbtPut { s with sbb := { s.sbb with ptr := p.toNat } } b.toNat)) ∧
  (∀ (s : State) (l : List Byte) (n : Nat), s.sbtOn = false → Does (.sbtWrite l) s s ∧ Does (.sbtRead n) s s ∧ Does .sbtSclTimeout s s) ∧
  (∀ (s u : State), s.sbtOn = true → u = (s.sbtByte.1).emit (.readData "SBT" s.sbtByte.2) →
      Does (.sbtRead 1) s { u with sbb := { u.sbb with ptr := (u.sbb.ptr + 1) % 256 } }) ∧
  (∀ (s : State), s.sbtOn = true →
      Does .sbtSclTimeout s ((({ s with sbb := { s.sbb with ptr := 0, hold := 0 } }).bumpFld fSBB_TGT_CNT_DROPPED).raise 0x3B0))

/-- Lane tests from the paths that may run them, the DRAM bus test in Quiesced, JTAG instructions, the debug access by
level, checker locks and counts (R464, R465, R469, R484 to R489). -/
def Obligations.LaneAndBusTests : Prop :=
  (∀ (s : State) (v : Nat), s.regsOpen 0 = true →
      Does (.laneTestSet 0 v) s (s.laneWrite 0 v) ∧ Does (.laneInject 0) s s.laneInject ∧ Does (.dftClr 0) s s.dftClr) ∧
  (∀ (s : State) (v : Nat), s.dbgOn = true → s.sec.level ≠ 2 →
      Does (.laneTestSet 2 v) s s.secDenied ∧ Does (.laneInject 2) s s.secDenied ∧ Does (.dftClr 2) s s.secDenied ∧
      Does (.dramBusTest 2 0 1) s s.secDenied) ∧
  (∀ (s : State) (p v : Nat), s.laneFree p s.lsel = true → (s.lane s.lsel).chk = 0 →
      s.laneSet p v = s.setLane s.lsel { s.lane s.lsel with
        gen := bitsOf v 2 0
        chk := bitsOf v 5 3
        loop := bitsOf v 7 6
        refused := false
        lock := (s.lane s.lsel).lock && bitsOf v 5 3 == 0 }) ∧
  (∀ (s u : State) (c : Nat), s.coreRuns = true → u = (s.setFld fDFT_DRAM_CTRL_CH c).setFld fDFT_DRAM_CTRL_MODE 1 → c < 16 →
      u.pwr.st = .quiesced → u.dft.run = none → (u.ch c).st = 3 →
      Does (.dramBusTest 1 c 1) s { (u.setCh c { u.ch c with st := 2 }).dram c "bus test" 1 with
        dft := { ((u.setCh c { u.ch c with st := 2 }).dram c "bus test" 1).dft with run := some (c, 1), done := false } }) ∧
  (∀ (s : State) (m f : Nat) (e : List Nat), s.dft.run = none → Does (.dramBusTestDone m f e) s s) ∧
  (∀ (s : State) (m f c : Nat) (e : List Nat), s.dft.run = some (c, 2) → (s.ch c).st ≠ 2 →
      Does (.dramBusTestDone m f e) s { s with dft := { s.dft with
        run := none
        done := true
        missed := min 65535 m
        false_ := min 65535 f } }) ∧
  (∀ (s : State), Does (.jtagInstruction .idcode) s (State.emit { s with dft := { s.dft with jtag := .idcode } } (.jtag JtagOp.idcode.name idcode))) ∧
  (∀ (s : State), Does (.jtagInstruction .bypass) s (State.emit { s with dft := { s.dft with jtag := .bypass } } (.jtag JtagOp.bypass.name 0))) ∧
  (∀ (s : State) (a v : Nat), State.dbgOn { s with dft := { s.dft with jtag := .dbgAccess } } = false →
      Does (.dbgAccess true a v) s { s with dft := { s.dft with jtag := .dbgAccess } } ∧
      Does (.dbgAccess false a v) s (State.emit { s with dft := { s.dft with jtag := .dbgAccess } } (.readData "JTAG" 0))) ∧
  (∀ (s u : State) (a v : Nat), u = { s with dft := { s.dft with jtag := .dbgAccess } } → u.dbgOn = true → u.sec.level = 2 →
      Does (.dbgAccess true a v) s (u.writeReg 2 (a % 2 ^ 26) (v % 2 ^ 32))) ∧
  (∀ (s : State) (n : Nat) (inv : Bool), n < 130 → (s.lane n).chk ≠ 0 → (s.lane n).lock = false →
      bitOf s.cru.refOk (laneGroup n) = true →
      Does (.checkerLock n inv) s (s.setLane n { s.lane n with lock := true, inverted := inv })) ∧
  (∀ (s : State) (n : Nat) (inv : Bool), (s.lane n).chk = 0 → Does (.checkerLock n inv) s s) ∧
  (∀ (s : State) (n b e : Nat), n < 130 → (s.lane n).lock = true →
      Does (.checkerLockLoss n b e) s (s.setLane n { s.lane n with
        lock := false
        bits := ((s.lane n).bits + b) % 2 ^ 64
        errs := satAdd 4294967295 (s.lane n).errs e
        losses := satInc 65535 (s.lane n).losses })) ∧
  (∀ (s : State) (n : Nat), Tab.wf (fun _ => ({} : DftLane)) s.dft.lanes = true → (s.dftClr.lane n).errs = 0 ∧ (s.dftClr.lane n).bits = 0 ∧ (s.dftClr.lane n).losses = 0 ∧
      (s.dftClr.lane n).gen = (s.lane n).gen ∧ (s.dftClr.lane n).chk = (s.lane n).chk) ∧
  (∀ (s : State) (p v : Nat), ((s.laneSet p v).lane s.lsel).gen = (s.lane s.lsel).gen → s.laneWrite p v = s.laneSet p v) ∧
  (∀ (s u : State) (p v : Nat), s.laneSet p v = u → (u.lane s.lsel).gen ≠ (s.lane s.lsel).gen → (u.lane s.lsel).gen = 7 →
      u.laneSends s.lsel = true → s.lsel < 128 → s.laneWrite p v = (u.emit (.lane s.lsel (pam4 u.userBits))).tickFree)
end

