-- ==== Sys2Proof/Laws/Tab.lean ====
section
/-! SUPPORT. The laws of the sparse tables: a read after a write, and the canonical form that every write keeps. -/

namespace Sys2Proof.Machine

variable {α : Type}

theorem Tab.get_put_same (d : Nat → α) (t : Tab α) (k : Nat) (v : α) : Tab.get d (Tab.put t k v) k = v := by
  induction t with
  | nil => simp [Tab.put, Tab.get]
  | cons e t ih =>
    obtain ⟨j, w⟩ := e
    simp only [Tab.put]
    split
    · simp [Tab.get]
    · split
      · simp [Tab.get]
      · simp only [Tab.get]
        rw [if_neg (by omega), ih]

theorem Tab.get_put_other (d : Nat → α) (t : Tab α) (k i : Nat) (v : α) (h : i ≠ k) :
    Tab.get d (Tab.put t k v) i = Tab.get d t i := by
  induction t with
  | nil => simp [Tab.put, Tab.get, h.symm]
  | cons e t ih =>
    obtain ⟨j, w⟩ := e
    simp only [Tab.put]
    split
    · simp [Tab.get, h.symm]
    · split
      · subst_vars
        simp [Tab.get, h.symm]
      · simp only [Tab.get, ih]

theorem Tab.get_del_other (d : Nat → α) (t : Tab α) (k i : Nat) (h : i ≠ k) :
    Tab.get d (Tab.del t k) i = Tab.get d t i := by
  induction t with
  | nil => rfl
  | cons e t ih =>
    obtain ⟨j, w⟩ := e
    simp only [Tab.del]
    split
    · subst_vars
      simp [Tab.get, h.symm]
    · simp only [Tab.get, ih]

theorem Tab.above_le {t : Tab α} {i j : Nat} (h : Tab.above (some j) t = true) (hij : i ≤ j) :
    Tab.above (some i) t = true := by
  cases t with
  | nil => rfl
  | cons e t =>
    obtain ⟨k, w⟩ := e
    simp only [Tab.above, decide_eq_true_eq] at *
    omega

theorem Tab.above_put {t : Tab α} {j k : Nat} {v : α} (h : Tab.above (some j) t = true) (hk : j < k) :
    Tab.above (some j) (Tab.put t k v) = true := by
  cases t with
  | nil => simpa [Tab.put, Tab.above] using hk
  | cons e t =>
    obtain ⟨i, w⟩ := e
    simp only [Tab.above, decide_eq_true_eq] at h
    simp only [Tab.put]
    split
    · simpa [Tab.above] using hk
    · split
      · simpa [Tab.above] using hk
      · simpa [Tab.above] using h

variable [DecidableEq α]

/-- A table whose head is (j, w) is canonical exactly when the rest is, stands above j, and w is worth listing. -/
theorem Tab.wf_cons {d : Nat → α} {j : Nat} {w : α} {t : Tab α} :
    Tab.wf d ((j, w) :: t) = true ↔ Tab.above (some j) t = true ∧ w ≠ d j ∧ Tab.wf d t = true := by
  simp [Tab.wf, and_assoc]

theorem Tab.get_of_above {d : Nat → α} {t : Tab α} {k : Nat} (hw : Tab.wf d t = true) (h : Tab.above (some k) t = true) :
    Tab.get d t k = d k := by
  induction t with
  | nil => rfl
  | cons e t ih =>
    obtain ⟨j, w⟩ := e
    obtain ⟨ha, _, ht⟩ := Tab.wf_cons.mp hw
    simp only [Tab.above, decide_eq_true_eq] at h
    simp only [Tab.get]
    rw [if_neg (by omega)]
    exact ih ht (Tab.above_le ha (by omega))

theorem Tab.get_del_same {d : Nat → α} {t : Tab α} {k : Nat} (hw : Tab.wf d t = true) :
    Tab.get d (Tab.del t k) k = d k := by
  induction t with
  | nil => rfl
  | cons e t ih =>
    obtain ⟨j, w⟩ := e
    obtain ⟨ha, _, ht⟩ := Tab.wf_cons.mp hw
    simp only [Tab.del]
    split
    · subst_vars
      exact Tab.get_of_above ht ha
    · rename_i hne
      simp only [Tab.get]
      rw [if_neg hne]
      exact ih ht

theorem Tab.above_del {d : Nat → α} {t : Tab α} {j k : Nat} (hw : Tab.wf d t = true) (h : Tab.above (some j) t = true) :
    Tab.above (some j) (Tab.del t k) = true := by
  cases t with
  | nil => rfl
  | cons e t =>
    obtain ⟨i, w⟩ := e
    have ha := (Tab.wf_cons.mp hw).1
    have hji : j < i := by simpa [Tab.above] using h
    simp only [Tab.del]
    split
    · exact Tab.above_le ha (Nat.le_of_lt hji)
    · simpa [Tab.above] using hji

theorem Tab.wf_put {d : Nat → α} {t : Tab α} {k : Nat} {v : α} (hw : Tab.wf d t = true) (hv : v ≠ d k) :
    Tab.wf d (Tab.put t k v) = true := by
  induction t with
  | nil => simp [Tab.put, Tab.wf, Tab.above, hv]
  | cons e t ih =>
    obtain ⟨j, w⟩ := e
    obtain ⟨ha, hjw, ht⟩ := Tab.wf_cons.mp hw
    simp only [Tab.put]
    split
    · rename_i hkj
      exact Tab.wf_cons.mpr ⟨by simpa [Tab.above] using hkj, hv, hw⟩
    · split
      · subst_vars
        exact Tab.wf_cons.mpr ⟨ha, hv, ht⟩
      · exact Tab.wf_cons.mpr ⟨Tab.above_put ha (by omega), hjw, ih ht⟩

theorem Tab.wf_del {d : Nat → α} {t : Tab α} {k : Nat} (hw : Tab.wf d t = true) : Tab.wf d (Tab.del t k) = true := by
  induction t with
  | nil => rfl
  | cons e t ih =>
    obtain ⟨j, w⟩ := e
    obtain ⟨ha, hjw, ht⟩ := Tab.wf_cons.mp hw
    simp only [Tab.del]
    split
    · exact ht
    · exact Tab.wf_cons.mpr ⟨Tab.above_del ht ha, hjw, ih ht⟩

/-- The one write of every sparse table keeps the canonical form. -/
theorem Tab.wf_set {d : Nat → α} {t : Tab α} {k : Nat} {v : α} (hw : Tab.wf d t = true) :
    Tab.wf d (Tab.set d t k v) = true := by
  simp only [Tab.set]
  split
  · exact Tab.wf_del hw
  · exact Tab.wf_put hw ‹_›

/-- A read after a write to the same key gives the value written. -/
theorem Tab.get_set_same {d : Nat → α} {t : Tab α} {k : Nat} {v : α} (hw : Tab.wf d t = true) :
    Tab.get d (Tab.set d t k v) k = v := by
  simp only [Tab.set]
  split
  · subst_vars
    exact Tab.get_del_same hw
  · exact Tab.get_put_same d t k v

/-- A write leaves every other key alone. -/
theorem Tab.get_set_other (d : Nat → α) (t : Tab α) {k i : Nat} {v : α} (h : i ≠ k) :
    Tab.get d (Tab.set d t k v) i = Tab.get d t i := by
  simp only [Tab.set]
  split
  · exact Tab.get_del_other d t k i h
  · exact Tab.get_put_other d t k i v h

theorem Tab.above_filter {d : Nat → α} {t : Tab α} {j : Nat} (p : Nat × α → Bool) (hw : Tab.wf d t = true)
    (h : Tab.above (some j) t = true) : Tab.above (some j) (t.filter p) = true := by
  induction t with
  | nil => rfl
  | cons e t ih =>
    obtain ⟨i, w⟩ := e
    obtain ⟨ha, _, ht⟩ := Tab.wf_cons.mp hw
    have hji : j < i := by simpa [Tab.above] using h
    simp only [List.filter_cons]
    split
    · simpa [Tab.above] using hji
    · exact ih ht (Tab.above_le ha (Nat.le_of_lt hji))

/-- Keeping some of the entries keeps the canonical form. -/
theorem Tab.wf_filter {d : Nat → α} {t : Tab α} (p : Nat × α → Bool) (hw : Tab.wf d t = true) :
    Tab.wf d (t.filter p) = true := by
  induction t with
  | nil => rfl
  | cons e t ih =>
    obtain ⟨j, w⟩ := e
    obtain ⟨ha, hjw, ht⟩ := Tab.wf_cons.mp hw
    simp only [List.filter_cons]
    split
    · exact Tab.wf_cons.mpr ⟨Tab.above_filter p ht ha, hjw, ih ht⟩
    · exact ih ht

/-- Removing keys keeps the canonical form. -/
theorem Tab.wf_drop {d : Nat → α} {t : Tab α} (p : Nat → Bool) (hw : Tab.wf d t = true) :
    Tab.wf d (Tab.drop p t) = true := Tab.wf_filter _ hw

/-- Writing a list of keys one by one keeps the canonical form. -/
theorem Tab.wf_foldl {β : Type} {d : Nat → α} (f : Tab α → β → Tab α)
    (h : ∀ t e, Tab.wf d t = true → Tab.wf d (f t e) = true) (l : List β) {t : Tab α} (hw : Tab.wf d t = true) :
    Tab.wf d (l.foldl f t) = true := by
  induction l generalizing t with
  | nil => exact hw
  | cons e l ih => exact ih (h t e hw)

theorem Tab.wf_update {d : Nat → α} (f : α → α) {t : Tab α} (hw : Tab.wf d t = true) :
    Tab.wf d (Tab.update d f t) = true :=
  Tab.wf_foldl _ (fun _ _ h => Tab.wf_set h) t hw

end Sys2Proof.Machine
end

