-- ==== Sys2Proof/Laws/Keeps.lean ====
section
/-! SUPPORT. Keeping the held part and the canonical stores: how an update of the rest of the state, a choice and a fold
do it. The lemma of an operation `f` is `f_keeps`. -/

namespace Sys2Proof.Machine

/-- The held part is K, and the addressed stores are canonical. -/
def Keeps (K : Held) (s : State) : Prop := s.held = K ∧ s.stores.wf = true

variable {K : Held} {s : State}

theorem keeps_mk
    {pending out timeUs freeCtr regs cnt sh iaddr done int tqm epo fch rsv lpr stk twn bpm dmc dbk tvl eth nre cir sup
      pwr cru rgc efl sec top sbb dft ports} :
    Keeps K (State.mk pending out timeUs freeCtr regs cnt sh iaddr done int tqm epo fch rsv lpr stk twn bpm dmc dbk tvl
        eth nre cir sup pwr cru rgc efl sec top sbb dft ports)
      = (Held.mk pending timeUs regs sh iaddr dmc sup sec top sbb dft = K
        ∧ Stores.wf ⟨lpr.dram, efl.words⟩ = true) := rfl

theorem keeps_fold :
    (Held.mk s.pending s.timeUs s.regs s.sh s.iaddr s.dmc s.sup s.sec s.top s.sbb s.dft = K
      ∧ Stores.wf ⟨s.lpr.dram, s.efl.words⟩ = true) = Keeps K s := rfl

/-! An update of one block that is not held. -/

theorem out_keeps {a} (hs : Keeps K s) : Keeps K { s with out := a } := by
  simp only [keeps_mk, keeps_fold]
  exact hs

theorem freeCtr_keeps {a} (hs : Keeps K s) : Keeps K { s with freeCtr := a } := by
  simp only [keeps_mk, keeps_fold]
  exact hs

theorem cnt_keeps {a} (hs : Keeps K s) : Keeps K { s with cnt := a } := by
  simp only [keeps_mk, keeps_fold]
  exact hs

theorem doneList_keeps {a} (hs : Keeps K s) : Keeps K { s with done := a } := by
  simp only [keeps_mk, keeps_fold]
  exact hs

theorem int_keeps {a} (hs : Keeps K s) : Keeps K { s with int := a } := by
  simp only [keeps_mk, keeps_fold]
  exact hs

theorem tqm_keeps {a} (hs : Keeps K s) : Keeps K { s with tqm := a } := by
  simp only [keeps_mk, keeps_fold]
  exact hs

theorem epo_keeps {a} (hs : Keeps K s) : Keeps K { s with epo := a } := by
  simp only [keeps_mk, keeps_fold]
  exact hs

theorem fch_keeps {a} (hs : Keeps K s) : Keeps K { s with fch := a } := by
  simp only [keeps_mk, keeps_fold]
  exact hs

theorem rsv_keeps {a} (hs : Keeps K s) : Keeps K { s with rsv := a } := by
  simp only [keeps_mk, keeps_fold]
  exact hs

theorem stk_keeps {a} (hs : Keeps K s) : Keeps K { s with stk := a } := by
  simp only [keeps_mk, keeps_fold]
  exact hs

theorem twn_keeps {a} (hs : Keeps K s) : Keeps K { s with twn := a } := by
  simp only [keeps_mk, keeps_fold]
  exact hs

theorem bpm_keeps {a} (hs : Keeps K s) : Keeps K { s with bpm := a } := by
  simp only [keeps_mk, keeps_fold]
  exact hs

theorem dbk_keeps {a} (hs : Keeps K s) : Keeps K { s with dbk := a } := by
  simp only [keeps_mk, keeps_fold]
  exact hs

theorem tvl_keeps {a} (hs : Keeps K s) : Keeps K { s with tvl := a } := by
  simp only [keeps_mk, keeps_fold]
  exact hs

theorem eth_keeps {a} (hs : Keeps K s) : Keeps K { s with eth := a } := by
  simp only [keeps_mk, keeps_fold]
  exact hs

theorem nre_keeps {a} (hs : Keeps K s) : Keeps K { s with nre := a } := by
  simp only [keeps_mk, keeps_fold]
  exact hs

theorem cir_keeps {a} (hs : Keeps K s) : Keeps K { s with cir := a } := by
  simp only [keeps_mk, keeps_fold]
  exact hs

theorem pwr_keeps {a} (hs : Keeps K s) : Keeps K { s with pwr := a } := by
  simp only [keeps_mk, keeps_fold]
  exact hs

theorem cru_keeps {a} (hs : Keeps K s) : Keeps K { s with cru := a } := by
  simp only [keeps_mk, keeps_fold]
  exact hs

theorem rgc_keeps {a} (hs : Keeps K s) : Keeps K { s with rgc := a } := by
  simp only [keeps_mk, keeps_fold]
  exact hs

theorem ports_keeps {a} (hs : Keeps K s) : Keeps K { s with ports := a } := by
  simp only [keeps_mk, keeps_fold]
  exact hs

theorem lpr_keeps {a : LprSt} (hs : Keeps K s) (hd : a.dram = s.lpr.dram) :
    Keeps K { s with lpr := a } := by
  simp only [keeps_mk, hd, keeps_fold]
  exact hs

theorem efl_keeps {a : EflSt} (hs : Keeps K s) (hw : a.words = s.efl.words) : Keeps K { s with efl := a } := by
  simp only [keeps_mk, hw, keeps_fold]
  exact hs

theorem ite_keeps {c : Prop} [Decidable c] {a b : State} (ha : Keeps K a) (hb : Keeps K b) :
    Keeps K (if c then a else b) := by
  split
  · exact ha
  · exact hb

theorem elim_keeps {α : Type} {o : Option α} {f : α → State} (hs : Keeps K s) (hf : ∀ x, Keeps K (f x)) :
    Keeps K (o.elim s f) := by
  cases o with
  | none => exact hs
  | some x => exact hf x

/-- Dropping lines from DRAM keeps its canonical form. -/
theorem dramFilter_keeps {p : Nat × DLine → Bool} (hs : Keeps K s) :
    Keeps K { s with lpr := { s.lpr with dram := s.lpr.dram.filter p } } := by
  obtain ⟨hk, hm⟩ := hs
  simp only [Stores.wf, State.stores, Bool.and_eq_true] at hm
  refine ⟨hk, ?_⟩
  simp only [Stores.wf, State.stores, Bool.and_eq_true]
  exact ⟨Tab.wf_filter p hm.1, hm.2⟩

theorem foldl_keeps {α : Type} {f : State → α → State} {l : List α} (hf : ∀ s e, Keeps K s → Keeps K (f s e))
    (hs : Keeps K s) : Keeps K (l.foldl f s) := by
  induction l generalizing s with
  | nil => exact hs
  | cons a t ih => exact ih (hf s a hs)

theorem foldl_pair_keeps {α β : Type} {f : State × β → α → State × β} {l : List α} {p : State × β}
    (hf : ∀ p e, Keeps K p.1 → Keeps K (f p e).1) (hp : Keeps K p.1) : Keeps K (l.foldl f p).1 := by
  induction l generalizing p with
  | nil => exact hp
  | cons a t ih => exact ih (hf p a hp)

theorem foldl_opt_keeps {α : Type} {f : Option State → α → Option State}
    (hf : ∀ o e, (∀ r, o = some r → Keeps K r) → ∀ r, f o e = some r → Keeps K r) (l : List α) (o : Option State)
    (ho : ∀ r, o = some r → Keeps K r) : ∀ r, l.foldl f o = some r → Keeps K r := by
  induction l generalizing o with
  | nil => exact ho
  | cons a t ih => exact ih _ (hf o a ho)

theorem fst_keeps {α : Type} {p : State × α} {a : State} {b : α} (h : p = (a, b)) (hp : Keeps K p.1) : Keeps K a := by
  subst h
  exact hp

/-- The state a result carries. -/
def WDone.st : WDone → State
  | .gone s => s
  | .waits s => s

/-- The state a result carries. -/
def QStep.st : QStep → State
  | .done s => s
  | .wait s => s

/-- The state a result carries. -/
def QPage.st : QPage → State
  | .go s => s
  | .stall s => s
  | .bounce s _ => s
  | .quota s => s

/-- The state a result carries. -/
def RxDone.st : RxDone → State
  | .applied s => s
  | .busy s => s
  | .wait s => s

/-- The state a result carries. -/
def TvGate.st : TvGate → State
  | .no s => s
  | .ended s => s
  | .go s _ _ => s

theorem gone_keeps {r : WDone} (h : r = .gone s) (hr : Keeps K r.st) : Keeps K s := by
  subst h
  exact hr

theorem waits_keeps {r : WDone} (h : r = .waits s) (hr : Keeps K r.st) : Keeps K s := by
  subst h
  exact hr

theorem done_keeps {r : QStep} (h : r = .done s) (hr : Keeps K r.st) : Keeps K s := by
  subst h
  exact hr

theorem wait_keeps {r : QStep} (h : r = .wait s) (hr : Keeps K r.st) : Keeps K s := by
  subst h
  exact hr

theorem pageGo_keeps {r : QPage} (h : r = .go s) (hr : Keeps K r.st) : Keeps K s := by
  subst h
  exact hr

theorem pageStall_keeps {r : QPage} (h : r = .stall s) (hr : Keeps K r.st) : Keeps K s := by
  subst h
  exact hr

theorem pageBounce_keeps {r : QPage} {x} (h : r = .bounce s x) (hr : Keeps K r.st) : Keeps K s := by
  subst h
  exact hr

theorem pageQuota_keeps {r : QPage} (h : r = .quota s) (hr : Keeps K r.st) : Keeps K s := by
  subst h
  exact hr

theorem applied_keeps {r : RxDone} (h : r = .applied s) (hr : Keeps K r.st) : Keeps K s := by
  subst h
  exact hr

theorem busy_keeps {r : RxDone} (h : r = .busy s) (hr : Keeps K r.st) : Keeps K s := by
  subst h
  exact hr

theorem rxWait_keeps {r : RxDone} (h : r = .wait s) (hr : Keeps K r.st) : Keeps K s := by
  subst h
  exact hr

theorem no_keeps {r : TvGate} (h : r = .no s) (hr : Keeps K r.st) : Keeps K s := by
  subst h
  exact hr

theorem ended_keeps {r : TvGate} (h : r = .ended s) (hr : Keeps K r.st) : Keeps K s := by
  subst h
  exact hr

theorem go_keeps {r : TvGate} {x y} (h : r = .go s x y) (hr : Keeps K r.st) : Keeps K s := by
  subst h
  exact hr

theorem st_gone : (WDone.gone s).st = s := rfl
theorem st_waits : (WDone.waits s).st = s := rfl
theorem st_done : (QStep.done s).st = s := rfl
theorem st_wait : (QStep.wait s).st = s := rfl
theorem st_pageGo : (QPage.go s).st = s := rfl
theorem st_pageStall : (QPage.stall s).st = s := rfl
theorem st_pageBounce {x} : (QPage.bounce s x).st = s := rfl
theorem st_pageQuota : (QPage.quota s).st = s := rfl
theorem st_applied : (RxDone.applied s).st = s := rfl
theorem st_busy : (RxDone.busy s).st = s := rfl
theorem st_rxWait : (RxDone.wait s).st = s := rfl
theorem st_no : (TvGate.no s).st = s := rfl
theorem st_ended : (TvGate.ended s).st = s := rfl
theorem st_go {x y} : (TvGate.go s x y).st = s := rfl

end Sys2Proof.Machine
end

