-- ==== Sys2Proof/Laws/KeepsOps.lean ====
section
/-! SUPPORT. What every shared operation of the data path and of the management services keeps: the held part of the
state and the canonical stores. -/

namespace Sys2Proof.Machine

variable {K : Held}

theorem State.setCount_keeps {s : State} {a : Nat} {v : W32} (hs : Keeps K s) :
    Keeps K (State.setCount s a v) := by
  unfold State.setCount
  repeat' first | with_reducible assumption | simp only [keeps_mk, keeps_fold]

theorem State.bumpBy_keeps {s : State} {a n : Nat} (hs : Keeps K s) :
    Keeps K (State.bumpBy s a n) := by
  unfold State.bumpBy
  repeat' first | with_reducible assumption | with_reducible refine State.setCount_keeps ?_

theorem State.bump_keeps {s : State} {a : Nat} (hs : Keeps K s) :
    Keeps K (State.bump s a) := by
  unfold State.bump
  repeat' first | with_reducible assumption | with_reducible refine State.bumpBy_keeps ?_

theorem State.bumpFld_keeps {s : State} {f : Fld} (hs : Keeps K s) :
    Keeps K (State.bumpFld s f) := by
  unfold State.bumpFld
  repeat' first | with_reducible assumption | with_reducible refine State.setCount_keeps ?_

theorem State.emit_keeps {s : State} {e : Emit} (hs : Keeps K s) :
    Keeps K (State.emit s e) := by
  unfold State.emit
  repeat' first | with_reducible assumption | simp only [keeps_mk, keeps_fold]

theorem State.tickFree_keeps {s : State} (hs : Keeps K s) :
    Keeps K (State.tickFree s) := by
  unfold State.tickFree
  repeat' first | with_reducible assumption | simp only [keeps_mk, keeps_fold]

theorem State.setSrc_keeps {s : State} {n : Nat} {r : IntSrc} (hs : Keeps K s) :
    Keeps K (State.setSrc s n r) := by
  unfold State.setSrc
  repeat' first | with_reducible assumption | simp only [keeps_mk, keeps_fold]

theorem State.raise0_keeps {s : State} {n : Nat} (hs : Keeps K s) :
    Keeps K (State.raise0 s n) := by
  unfold State.raise0
  repeat' first | with_reducible assumption | with_reducible refine State.setSrc_keeps ?_

theorem State.raise_keeps {s : State} {n : Nat} (hs : Keeps K s) :
    Keeps K (State.raise s n) := by
  unfold State.raise
  repeat' first
    | with_reducible assumption
    | with_reducible refine State.raise0_keeps ?_
    | with_reducible refine State.bump_keeps ?_
    | with_reducible refine ite_keeps ?_ ?_

theorem State.raiseN_keeps {s : State} {n k : Nat} (hs : Keeps K s) :
    Keeps K (s.raiseN n k) := by
  induction k generalizing s with
  | zero => exact hs
  | succ k ih => exact ih (State.raise_keeps hs)

theorem State.spend_keeps {s : State} {tenant kind n : Nat} (hs : Keeps K s) :
    Keeps K (State.spend s tenant kind n) := by
  unfold State.spend
  repeat' first | with_reducible assumption | simp only [keeps_mk, keeps_fold]

theorem State.note_keeps {s : State} {code : Nat} {words : List Nat} (hs : Keeps K s) :
    Keeps K (State.note s code words) := by
  unfold State.note
  repeat' first
    | with_reducible assumption
    | with_reducible refine State.raise_keeps ?_
    | with_reducible refine State.bump_keeps ?_
    | with_reducible refine ite_keeps ?_ ?_
    | simp only [keeps_mk, keeps_fold]

theorem State.setTenant_keeps {s : State} {t : Nat} {r : Tenant} (hs : Keeps K s) :
    Keeps K (State.setTenant s t r) := by
  unfold State.setTenant
  repeat' first | with_reducible assumption | with_reducible refine ite_keeps ?_ ?_ | simp only [keeps_mk, keeps_fold]

theorem State.metaTouch_keeps {s : State} {f : Nat} (hs : Keeps K s) :
    Keeps K (State.metaTouch s f) := by
  unfold State.metaTouch
  repeat' first | with_reducible assumption | simp only [keeps_mk, keeps_fold]

theorem State.setObj_keeps {s : State} {slot : Nat} {o : Obj} (hs : Keeps K s) :
    Keeps K (State.setObj s slot o) := by
  unfold State.setObj
  repeat' first | with_reducible assumption | simp only [keeps_mk, keeps_fold]

theorem State.setGrant_keeps {s : State} {n : Nat} {g : Grant} (hs : Keeps K s) :
    Keeps K (State.setGrant s n g) := by
  unfold State.setGrant
  repeat' first
    | with_reducible assumption
    | with_reducible refine State.metaTouch_keeps ?_
    | simp only [keeps_mk, keeps_fold]

theorem State.setWindow_keeps {s : State} {n : Nat} {w : Window} (hs : Keeps K s) :
    Keeps K (State.setWindow s n w) := by
  unfold State.setWindow
  repeat' first | with_reducible assumption | simp only [keeps_mk, keeps_fold]

theorem State.setMap_keeps {s : State} {c m : Nat} {e : MapEnt} (hs : Keeps K s) :
    Keeps K (State.setMap s c m e) := by
  unfold State.setMap
  repeat' first
    | with_reducible assumption
    | with_reducible refine State.metaTouch_keeps ?_
    | simp only [keeps_mk, keeps_fold]

theorem State.setCtx_keeps {s : State} {c : Nat} {x : Ctx} (hs : Keeps K s) :
    Keeps K (State.setCtx s c x) := by
  unfold State.setCtx
  repeat' first | with_reducible assumption | simp only [keeps_mk, keeps_fold]

theorem State.setShelf_keeps {s : State} {n : Nat} {h : Shelf} (hs : Keeps K s) :
    Keeps K (State.setShelf s n h) := by
  unfold State.setShelf
  repeat' first
    | with_reducible assumption
    | with_reducible refine State.metaTouch_keeps ?_
    | simp only [keeps_mk, keeps_fold]

theorem State.setGrp_keeps {s : State} {n : Nat} {g : Grp} (hs : Keeps K s) :
    Keeps K (State.setGrp s n g) := by
  unfold State.setGrp
  repeat' first | with_reducible assumption | simp only [keeps_mk, keeps_fold]

theorem State.setStream_keeps {s : State} {i : Nat} {r : Stream} (hs : Keeps K s) :
    Keeps K (State.setStream s i r) := by
  unfold State.setStream
  repeat' first | with_reducible assumption | simp only [keeps_mk, keeps_fold]

theorem State.putWay_keeps {s : State} {k : Nat} {w : Way} (hs : Keeps K s) :
    Keeps K (State.putWay s k w) := by
  unfold State.putWay
  repeat' first | with_reducible assumption | simp only [keeps_mk, keeps_fold]

theorem State.putPinRsv_keeps {s : State} {set n : Nat} (hs : Keeps K s) :
    Keeps K (State.putPinRsv s set n) := by
  unfold State.putPinRsv
  repeat' first | with_reducible assumption | simp only [keeps_mk, keeps_fold]

theorem State.setLink_keeps {s : State} {n : Nat} {l : StkLink} (hs : Keeps K s) :
    Keeps K (State.setLink s n l) := by
  unfold State.setLink
  repeat' first | with_reducible assumption | simp only [keeps_mk, keeps_fold]

theorem State.refuse_keeps {s : State} {t reason : Nat} (hs : Keeps K s) :
    Keeps K (State.refuse s t reason) := by
  unfold State.refuse
  repeat' first
    | with_reducible assumption
    | with_reducible refine State.setTenant_keeps ?_
    | with_reducible refine State.raise_keeps ?_
    | with_reducible refine State.bump_keeps ?_
    | with_reducible refine ite_keeps ?_ ?_

theorem State.mapStreams_keeps {s : State} {f : Nat → Stream → Stream} (hs : Keeps K s) :
    Keeps K (State.mapStreams s f) := by
  unfold State.mapStreams
  repeat' first
    | with_reducible assumption
    | with_reducible refine State.setStream_keeps ?_
    | with_reducible refine foldl_keeps ?_ ?_
    | intro q_ _ h_

theorem State.setFword_keeps {s : State} {w : Nat} {x : FWord} (hs : Keeps K s) : Keeps K (s.setFword w x) := by
  obtain ⟨hk, hm⟩ := hs
  simp only [Stores.wf, State.stores, Bool.and_eq_true] at hm
  refine ⟨hk, ?_⟩
  simp only [Stores.wf, State.stores, State.setFword, Bool.and_eq_true]
  exact ⟨hm.1, Tab.wf_set hm.2⟩

theorem State.setFop_keeps {s : State} {b : Nat} {o : FlashOp} (hs : Keeps K s) :
    Keeps K (State.setFop s b o) := by
  unfold State.setFop
  repeat' first | with_reducible assumption | with_reducible refine ite_keeps ?_ ?_ | simp only [keeps_mk, keeps_fold]

theorem State.readFword_keeps {s : State} {w : Nat} (hs : Keeps K s) :
    Keeps K (State.readFword s w).1 := by
  unfold State.readFword
  repeat' first
    | with_reducible assumption
    | with_reducible refine State.tickFree_keeps ?_
    | dsimp only
    | split

theorem State.romRead_keeps {s : State} {w : Nat} (hs : Keeps K s) :
    Keeps K (State.romRead s w).1 := by
  unfold State.romRead
  repeat' first
    | with_reducible assumption
    | with_reducible refine State.readFword_keeps ?_
    | with_reducible refine State.note_keeps ?_
    | with_reducible refine State.raise_keeps ?_
    | with_reducible refine State.bumpFld_keeps ?_
    | dsimp only
    | split

theorem State.feed_keeps {s : State} (hs : Keeps K s) :
    Keeps K (State.feed s) := by
  unfold State.feed
  repeat' first | with_reducible assumption | simp only [keeps_mk, keeps_fold]

theorem State.suspend_keeps {s : State} {b : Nat} (hs : Keeps K s) :
    Keeps K (State.suspend s b) := by
  unfold State.suspend
  repeat' first
    | with_reducible assumption
    | with_reducible refine State.setFop_keeps ?_
    | with_reducible refine State.bump_keeps ?_
    | simp only [keeps_mk, keeps_fold]
    | split

theorem State.progWord_keeps {s : State} {w : Nat} {d : BitVec 128} (hs : Keeps K s) :
    Keeps K (State.progWord s w d) := by
  unfold State.progWord
  repeat' first
    | with_reducible assumption
    | with_reducible refine State.feed_keeps ?_
    | with_reducible refine State.suspend_keeps ?_
    | with_reducible refine State.setFword_keeps ?_
    | with_reducible refine State.bump_keeps ?_

theorem State.progWords_keeps {s : State} {w : Nat} {l : List (BitVec 128)} (hs : Keeps K s) :
    Keeps K (s.progWords w l) := by
  induction l generalizing s w with
  | nil => exact hs
  | cons d t ih => exact ih (State.progWord_keeps hs)

theorem State.clearSector_keeps {s : State} {sec : Nat} (hs : Keeps K s) : Keeps K (s.clearSector sec) := by
  obtain ⟨hk, hm⟩ := hs
  simp only [Stores.wf, State.stores, Bool.and_eq_true] at hm
  refine ⟨hk, ?_⟩
  simp only [Stores.wf, State.stores, State.clearSector, Bool.and_eq_true]
  exact ⟨hm.1, Tab.wf_drop _ hm.2⟩

theorem State.jPut_keeps {s : State} {sec op : Nat} (hs : Keeps K s) :
    Keeps K (State.jPut s sec op) := by
  unfold State.jPut
  repeat' first
    | with_reducible assumption
    | with_reducible refine State.progWord_keeps ?_
    | simp only [keeps_mk, keeps_fold]

theorem State.journal_keeps {s : State} {sec op : Nat} (hs : Keeps K s) :
    Keeps K (State.journal s sec op) := by
  unfold State.journal
  repeat' first
    | with_reducible assumption
    | with_reducible refine State.jPut_keeps ?_
    | with_reducible refine State.clearSector_keeps ?_
    | with_reducible refine State.bump_keeps ?_
    | with_reducible refine ite_keeps ?_ ?_
    | with_reducible refine foldl_keeps ?_ ?_
    | simp only [keeps_mk, keeps_fold]
    | intro q_ _ h_

theorem State.pointTo_keeps {s : State} {bank version : Nat} (hs : Keeps K s) :
    Keeps K (State.pointTo s bank version) := by
  unfold State.pointTo
  repeat' first
    | with_reducible assumption
    | with_reducible refine State.journal_keeps ?_
    | with_reducible refine State.clearSector_keeps ?_
    | with_reducible refine State.progWord_keeps ?_
    | with_reducible refine State.bump_keeps ?_
    | with_reducible refine ite_keeps ?_ ?_
    | simp only [keeps_mk, keeps_fold]

theorem State.putSetting_keeps {s : State} {key version : Nat} {vals : List Nat} (hs : Keeps K s) :
    Keeps K (State.putSetting s key version vals) := by
  unfold State.putSetting
  repeat' first
    | with_reducible assumption
    | with_reducible refine State.progWords_keeps ?_
    | simp only [keeps_mk, keeps_fold]

theorem State.setting_keeps {s : State} {key : Nat} {vals : List Nat} (hs : Keeps K s) :
    Keeps K (State.setting s key vals) := by
  unfold State.setting
  repeat' first
    | with_reducible assumption
    | with_reducible refine State.putSetting_keeps ?_
    | with_reducible refine State.journal_keeps ?_
    | with_reducible refine State.clearSector_keeps ?_
    | with_reducible refine State.progWord_keeps ?_
    | with_reducible refine State.bump_keeps ?_
    | with_reducible refine ite_keeps ?_ ?_
    | with_reducible refine foldl_keeps ?_ ?_
    | simp only [keeps_mk, keeps_fold]
    | intro q_ _ h_

theorem State.dbkWin_keeps {s : State} {slot i : Nat} (hs : Keeps K s) :
    Keeps K (State.dbkWin s slot i).1 := by
  unfold State.dbkWin
  repeat' first
    | with_reducible assumption
    | with_reducible refine State.readFword_keeps ?_
    | dsimp only
    | split

theorem State.setDline_keeps {s : State} {a : Nat} {l : DLine} (hs : Keeps K s) : Keeps K (s.setDline a l) := by
  obtain ⟨hk, hm⟩ := hs
  simp only [Stores.wf, State.stores, Bool.and_eq_true] at hm
  refine ⟨hk, ?_⟩
  simp only [Stores.wf, State.stores, State.setDline, Bool.and_eq_true]
  exact ⟨Tab.wf_set hm.1, hm.2⟩

theorem State.setRemap_keeps {s : State} {c e : Nat} {r : Remap} (hs : Keeps K s) :
    Keeps K (State.setRemap s c e r) := by
  unfold State.setRemap
  repeat' first | with_reducible assumption | simp only [keeps_mk, keeps_fold]

theorem State.setErasure_keeps {s : State} {c r : Nat} {e : Erasure} (hs : Keeps K s) :
    Keeps K (State.setErasure s c r e) := by
  unfold State.setErasure
  repeat' first | with_reducible assumption | simp only [keeps_mk, keeps_fold]

theorem State.retryPut_keeps {s : State} {c : Nat} {what : String} {v : Nat} (hs : Keeps K s) :
    Keeps K (State.retryPut s c what v) := by
  unfold State.retryPut
  repeat' first | with_reducible assumption | simp only [keeps_mk, keeps_fold]

theorem State.dmcIssue_keeps {s : State} {p : Nat → Bool} (hs : Keeps K s) :
    Keeps K (State.dmcIssue s p) := by
  unfold State.dmcIssue
  repeat' first
    | with_reducible assumption
    | with_reducible refine State.retryPut_keeps ?_
    | with_reducible refine foldl_keeps ?_ ?_
    | simp only [keeps_mk, keeps_fold]
    | intro q_ _ h_

theorem State.accept_keeps {s : State} {a : Nat} {l : DLine} (hs : Keeps K s) :
    Keeps K (State.accept s a l) := by
  unfold State.accept
  repeat' first
    | with_reducible assumption
    | with_reducible refine State.dmcIssue_keeps ?_
    | with_reducible refine State.setDline_keeps ?_
    | with_reducible refine ite_keeps ?_ ?_
    | simp only [keeps_mk, keeps_fold]

theorem State.dmcRead_keeps {s : State} {a0 : Nat} (hs : Keeps K s) :
    Keeps K (State.dmcRead s a0) := by
  unfold State.dmcRead
  repeat' first
    | with_reducible assumption
    | with_reducible refine State.retryPut_keeps ?_
    | with_reducible refine State.raise_keeps ?_
    | with_reducible refine State.bump_keeps ?_
    | with_reducible refine ite_keeps ?_ ?_
    | simp only [keeps_mk, keeps_fold]

theorem State.putLine_keeps {s : State} {a : Nat} {d : Line} {t : Tag} (hs : Keeps K s) :
    Keeps K (State.putLine s a d t) := by
  unfold State.putLine
  repeat' first
    | with_reducible assumption
    | with_reducible refine State.accept_keeps ?_
    | with_reducible refine State.setDline_keeps ?_
    | with_reducible refine State.raise_keeps ?_
    | with_reducible refine ite_keeps ?_ ?_
    | simp only [keeps_mk, keeps_fold]
    | split

theorem State.dirPut_keeps {s : State} {set a : Nat} (hs : Keeps K s) :
    Keeps K (State.dirPut s set a) := by
  unfold State.dirPut
  repeat' first
    | with_reducible assumption
    | with_reducible refine State.putLine_keeps ?_
    | with_reducible refine State.accept_keeps ?_
    | with_reducible refine ite_keeps ?_ ?_

theorem State.dirWrite_keeps {s : State} {set : Nat} (hs : Keeps K s) : Keeps K (s.dirWrite set) := by
  unfold State.dirWrite
  split
  · exact State.dirPut_keeps (State.dirPut_keeps (fch_keeps hs))
  · exact hs

theorem State.setWay_keeps {s : State} {k : Nat} {w : Way} (hs : Keeps K s) :
    Keeps K (State.setWay s k w) := by
  unfold State.setWay
  repeat' first
    | with_reducible assumption
    | with_reducible refine State.dirWrite_keeps ?_
    | with_reducible refine State.putWay_keeps ?_
    | with_reducible refine ite_keeps ?_ ?_

theorem State.setPinRsv_keeps {s : State} {set n : Nat} (hs : Keeps K s) :
    Keeps K (State.setPinRsv s set n) := by
  unfold State.setPinRsv
  repeat' first
    | with_reducible assumption
    | with_reducible refine State.dirWrite_keeps ?_
    | with_reducible refine State.putPinRsv_keeps ?_
    | with_reducible refine ite_keeps ?_ ?_

theorem State.dirFresh_keeps {s : State} (hs : Keeps K s) : Keeps K s.dirFresh := by
  unfold State.dirFresh
  exact dramFilter_keeps (fch_keeps hs)

theorem State.storeErasure_keeps {s : State} {c r : Nat} {e : Erasure} (hs : Keeps K s) :
    Keeps K (State.storeErasure s c r e) := by
  unfold State.storeErasure
  repeat' first
    | with_reducible assumption
    | with_reducible refine State.setErasure_keeps ?_
    | with_reducible refine State.setting_keeps ?_

theorem State.declareDead_keeps {s : State} {c r dev : Nat} (hs : Keeps K s) :
    Keeps K (State.declareDead s c r dev) := by
  unfold State.declareDead
  repeat' first
    | with_reducible assumption
    | with_reducible refine State.storeErasure_keeps ?_
    | with_reducible refine State.note_keeps ?_
    | with_reducible refine ite_keeps ?_ ?_

theorem State.countCorr_keeps {s : State} {a dev : Nat} (hs : Keeps K s) :
    Keeps K (State.countCorr s a dev) := by
  unfold State.countCorr
  repeat' first
    | with_reducible assumption
    | with_reducible refine State.declareDead_keeps ?_
    | with_reducible refine ite_keeps ?_ ?_
    | simp only [keeps_mk, keeps_fold]

theorem State.countFixed_keeps {s : State} {a : Nat} {fx : List (Nat × Nat)} (hs : Keeps K s) :
    Keeps K (State.countFixed s a fx) := by
  unfold State.countFixed
  repeat' first
    | with_reducible assumption
    | with_reducible refine State.countCorr_keeps ?_
    | with_reducible refine State.raise_keeps ?_
    | with_reducible refine State.bump_keeps ?_
    | with_reducible refine foldl_keeps ?_ ?_
    | intro q_ _ h_

theorem State.ringLog_keeps {s : State} {a : Nat} {scrub : Bool} (hs : Keeps K s) :
    Keeps K (State.ringLog s a scrub) := by
  unfold State.ringLog
  repeat' first | with_reducible assumption | simp only [keeps_mk, keeps_fold]

theorem State.demand_keeps {s0 : State} {a : Nat} (hs : Keeps K s0) :
    Keeps K (State.demand s0 a).1 := by
  unfold State.demand
  repeat' first
    | with_reducible assumption
    | with_reducible refine State.ringLog_keeps ?_
    | with_reducible refine State.countFixed_keeps ?_
    | with_reducible refine State.dmcRead_keeps ?_
    | with_reducible refine State.note_keeps ?_
    | with_reducible refine State.raise_keeps ?_
    | with_reducible refine State.bump_keeps ?_
    | dsimp only
    | split

theorem State.copyLine_keeps {s0 : State} {a : Nat} (hs : Keeps K s0) :
    Keeps K (State.copyLine s0 a).1 := by
  unfold State.copyLine
  repeat' first
    | with_reducible assumption
    | with_reducible refine State.countFixed_keeps ?_
    | with_reducible refine State.dmcRead_keeps ?_
    | dsimp only
    | split

theorem State.copyWay_keeps {s : State} {k : Nat} (hs : Keeps K s) :
    Keeps K (State.copyWay s k).1 := by
  unfold State.copyWay
  repeat' first
    | with_reducible assumption
    | with_reducible refine State.copyLine_keeps ?_
    | with_reducible refine foldl_pair_keeps ?_ ?_
    | dsimp only
    | intro q_ _ h_

theorem State.setLineState_keeps {s : State} {a st : Nat} (hs : Keeps K s) :
    Keeps K (State.setLineState s a st) := by
  unfold State.setLineState
  repeat' first
    | with_reducible assumption
    | with_reducible refine State.countFixed_keeps ?_
    | with_reducible refine State.putLine_keeps ?_
    | with_reducible refine State.dmcRead_keeps ?_
    | with_reducible refine State.setDline_keeps ?_
    | with_reducible refine State.bump_keeps ?_
    | with_reducible refine ite_keeps ?_ ?_
    | dsimp only
    | split

theorem State.setWayStates_keeps {s : State} {k : Nat} {p : Nat → Bool} {st : Nat} (hs : Keeps K s) :
    Keeps K (State.setWayStates s k p st) := by
  unfold State.setWayStates
  repeat' first
    | with_reducible assumption
    | with_reducible refine State.setLineState_keeps ?_
    | with_reducible refine ite_keeps ?_ ?_
    | with_reducible refine foldl_keeps ?_ ?_
    | intro q_ _ h_
    | split

theorem State.stkFec_keeps {s : State} {n : Nat} {bits : List Bool} (hs : Keeps K s) :
    Keeps K (State.stkFec s n bits) := by
  unfold State.stkFec
  repeat' first
    | with_reducible assumption
    | with_reducible refine State.setLink_keeps ?_
    | with_reducible refine State.emit_keeps ?_

theorem State.cellOut_keeps {s : State} {n : Nat} {hdr : BitVec 64} {body : List Byte} (hs : Keeps K s) :
    Keeps K (State.cellOut s n hdr body) := by
  unfold State.cellOut
  repeat' first
    | with_reducible assumption
    | with_reducible refine State.stkFec_keeps ?_
    | with_reducible refine State.emit_keeps ?_

theorem State.stkIdle_keeps {s : State} {n : Nat} (hs : Keeps K s) :
    Keeps K (State.stkIdle s n) := by
  unfold State.stkIdle
  repeat' first
    | with_reducible assumption
    | with_reducible refine State.setLink_keeps ?_
    | with_reducible refine State.cellOut_keeps ?_

theorem State.stkCell_keeps {s : State} {n seq : Nat} {r : StkReq} {k : Nat} (hs : Keeps K s) :
    Keeps K (State.stkCell s n seq r k) := by
  unfold State.stkCell
  repeat' first
    | with_reducible assumption
    | with_reducible refine State.setLink_keeps ?_
    | with_reducible refine State.cellOut_keeps ?_

theorem State.stkCells_keeps {s : State} {n : Nat} {r : StkReq} (hs : Keeps K s) :
    Keeps K (State.stkCells s n r) := by
  unfold State.stkCells
  repeat' first
    | with_reducible assumption
    | with_reducible refine State.stkCell_keeps ?_
    | with_reducible refine State.setLink_keeps ?_
    | with_reducible refine foldl_keeps ?_ ?_
    | intro q_ _ h_

theorem State.setTvl_keeps {s : State} {lk : Nat} {l : TvLink} (hs : Keeps K s) :
    Keeps K (State.setTvl s lk l) := by
  unfold State.setTvl
  repeat' first | with_reducible assumption | simp only [keeps_mk, keeps_fold]

theorem State.fecPut_keeps {s : State} {lk : Nat} {bits : List Bool} (hs : Keeps K s) :
    Keeps K (State.fecPut s lk bits) := by
  unfold State.fecPut
  repeat' first
    | with_reducible assumption
    | with_reducible refine State.setTvl_keeps ?_
    | with_reducible refine State.emit_keeps ?_
    | with_reducible refine ite_keeps ?_ ?_

theorem State.putFlit_keeps {s : State} {lk : Nat} {f : Flit} {nak : Bool} (hs : Keeps K s) :
    Keeps K (State.putFlit s lk f nak) := by
  unfold State.putFlit
  repeat' first
    | with_reducible assumption
    | with_reducible refine State.fecPut_keeps ?_
    | with_reducible refine State.setTvl_keeps ?_
    | with_reducible refine State.emit_keeps ?_

theorem State.idleFlit_keeps {s : State} {lk : Nat} {nak : Bool} (hs : Keeps K s) :
    Keeps K (State.idleFlit s lk nak) := by
  unfold State.idleFlit
  repeat' first | with_reducible assumption | with_reducible refine State.putFlit_keeps ?_

theorem State.configFlit_keeps {s : State} {lk : Nat} {slots : List (BitVec 128)} (hs : Keeps K s) :
    Keeps K (State.configFlit s lk slots) := by
  unfold State.configFlit
  repeat' first | with_reducible assumption | with_reducible refine State.putFlit_keeps ?_

theorem State.sendFlit_keeps {s : State} {lk ty first : Nat} {slots : List (BitVec 128)} (hs : Keeps K s) :
    Keeps K (State.sendFlit s lk ty first slots) := by
  unfold State.sendFlit
  repeat' first
    | with_reducible assumption
    | with_reducible refine State.putFlit_keeps ?_
    | with_reducible refine State.setTvl_keeps ?_
    | with_reducible refine State.bump_keeps ?_
    | with_reducible refine ite_keeps ?_ ?_

theorem State.resend_keeps {s : State} {lk : Nat} (hs : Keeps K s) :
    Keeps K (State.resend s lk) := by
  unfold State.resend
  repeat' first
    | with_reducible assumption
    | with_reducible refine State.putFlit_keeps ?_
    | with_reducible refine foldl_keeps ?_ ?_
    | intro q_ _ h_

theorem State.fecStart_keeps {s : State} {lk : Nat} (hs : Keeps K s) :
    Keeps K (State.fecStart s lk) := by
  unfold State.fecStart
  repeat' first
    | with_reducible assumption
    | with_reducible refine State.idleFlit_keeps ?_
    | with_reducible refine State.setTvl_keeps ?_
    | with_reducible refine State.tickFree_keeps ?_

theorem State.twinWait_keeps {s : State} {m : TwinMsg} (hs : Keeps K s) :
    Keeps K (State.twinWait s m) := by
  unfold State.twinWait
  repeat' first | with_reducible assumption | simp only [keeps_mk, keeps_fold]

theorem State.twinOut_keeps {s : State} {f : UFrame} (hs : Keeps K s) :
    Keeps K (State.twinOut s f) := by
  unfold State.twinOut
  repeat' first
    | with_reducible assumption
    | with_reducible refine State.twinWait_keeps ?_
    | with_reducible refine State.emit_keeps ?_

theorem State.twinPut_keeps {s : State} {m : TwinMsg} (hs : Keeps K s) :
    Keeps K (State.twinPut s m) := by
  unfold State.twinPut
  repeat' first
    | with_reducible assumption
    | with_reducible refine State.twinWait_keeps ?_
    | with_reducible refine State.sendFlit_keeps ?_
    | with_reducible refine State.setTvl_keeps ?_
    | with_reducible refine ite_keeps ?_ ?_

theorem State.twinPump_keeps {s : State} (hs : Keeps K s) :
    Keeps K (State.twinPump s) := by
  unfold State.twinPump
  repeat' first
    | with_reducible assumption
    | with_reducible refine State.twinPut_keeps ?_
    | with_reducible refine foldl_keeps ?_ ?_
    | simp only [keeps_mk, keeps_fold]
    | intro q_ _ h_

theorem State.grantBufs_keeps {s : State} {o p n : Nat} {hdrm : Bool} {tenant : Option Nat} (hs : Keeps K s) :
    Keeps K (State.grantBufs s o p n hdrm tenant).1 := by
  unfold State.grantBufs
  repeat' first
    | with_reducible assumption
    | with_reducible refine State.raise_keeps ?_
    | with_reducible refine State.bumpBy_keeps ?_
    | with_reducible refine ite_keeps ?_ ?_
    | simp only [keeps_mk, keeps_fold]

theorem State.bpmAlloc_keeps {s : State} {o p n : Nat} {upsize lossless : Bool} {tenant : Option Nat}
    (hs : Keeps K s) : Keeps K (s.bpmAlloc o p n upsize lossless tenant).1 := by
  unfold State.bpmAlloc
  extract_lets try1
  have ht : ∀ s p, Keeps K s → Keeps K (try1 s p).1 := by
    intro s p hs
    simp only [try1]
    split
    · exact hs
    · exact State.grantBufs_keeps hs
  clear_value try1
  have h0 := ht s p hs
  split
  · exact fst_keeps ‹_› h0
  · have h1 := fst_keeps ‹_› h0
    split
    · exact h1
    · refine foldl_pair_keeps ?_ h1
      intro a q ha
      split
      · exact ha
      · exact ht _ _ (State.raise_keeps (State.bump_keeps ha))

theorem State.deskRelease_keeps {s : State} {t n : Nat} (hs : Keeps K s) :
    Keeps K (State.deskRelease s t n) := by
  unfold State.deskRelease
  repeat' first | with_reducible assumption | with_reducible refine State.setTenant_keeps ?_

theorem State.bpmReturn_keeps {s : State} {ptr owner : Nat} (hs : Keeps K s) :
    Keeps K (State.bpmReturn s ptr owner) := by
  unfold State.bpmReturn
  repeat' first
    | with_reducible assumption
    | with_reducible refine State.deskRelease_keeps ?_
    | with_reducible refine State.note_keeps ?_
    | with_reducible refine State.raise_keeps ?_
    | with_reducible refine State.bump_keeps ?_
    | with_reducible refine ite_keeps ?_ ?_
    | simp only [keeps_mk, keeps_fold]
    | split

theorem State.deskCharge_keeps {s : State} {t n : Nat} {r : State} (hs : Keeps K s)
    (h : s.deskCharge t n = some r) : Keeps K r := by
  unfold State.deskCharge at h
  extract_lets at h
  split at h
  · cases h
  · cases h
    exact State.setTenant_keeps hs

theorem State.tvSend_keeps {s : State} {lk : Nat} {r : TvResp} (hs : Keeps K s) :
    Keeps K (State.tvSend s lk r) := by
  unfold State.tvSend
  repeat' first
    | with_reducible assumption
    | with_reducible refine State.sendFlit_keeps ?_
    | with_reducible refine State.setTvl_keeps ?_
    | with_reducible refine State.emit_keeps ?_
    | with_reducible refine ite_keeps ?_ ?_

theorem State.tvPump_keeps {s : State} {lk : Nat} (hs : Keeps K s) :
    Keeps K (State.tvPump s lk) := by
  unfold State.tvPump
  repeat' first
    | with_reducible assumption
    | with_reducible refine State.tvSend_keeps ?_
    | with_reducible refine State.setTvl_keeps ?_
    | with_reducible refine foldl_keeps ?_ ?_
    | intro q_ _ h_

theorem State.answer1_keeps {s : State} {src : Src} {a : Ans} (hs : Keeps K s) :
    Keeps K (State.answer1 s src a) := by
  unfold State.answer1
  repeat' first
    | with_reducible assumption
    | with_reducible refine State.tvSend_keeps ?_
    | with_reducible refine State.bpmReturn_keeps ?_
    | with_reducible refine ite_keeps ?_ ?_
    | simp only [keeps_mk, keeps_fold]
    | split

theorem State.answerAt_keeps {s : State} {src : Src} {f : Nat} {a : Ans} (hs : Keeps K s) :
    Keeps K (State.answerAt s src f a) := by
  unfold State.answerAt
  repeat' first
    | with_reducible assumption
    | with_reducible refine State.answer1_keeps ?_
    | with_reducible refine State.setGrp_keeps ?_
    | with_reducible refine ite_keeps ?_ ?_
    | dsimp only
    | split

theorem State.answer_keeps {s : State} {src : Src} {a : Ans} (hs : Keeps K s) :
    Keeps K (State.answer s src a) := by
  unfold State.answer
  repeat' first | with_reducible assumption | with_reducible refine State.answerAt_keeps ?_

theorem State.openGrp_keeps {s : State} {src : Src} {n : Nat} (hs : Keeps K s) :
    Keeps K (State.openGrp s src n).1 := by
  unfold State.openGrp
  repeat' first
    | with_reducible assumption
    | with_reducible refine State.setGrp_keeps ?_
    | simp only [keeps_mk, keeps_fold]

theorem State.stkTry_keeps {s : State} {n : Nat} {r : StkReq} (hs : Keeps K s) :
    Keeps K (State.stkTry s n r).1 := by
  unfold State.stkTry
  repeat' first
    | with_reducible assumption
    | with_reducible refine State.stkCells_keeps ?_
    | with_reducible refine State.setLink_keeps ?_
    | dsimp only
    | split

theorem State.stkPump_keeps {s : State} {n : Nat} (hs : Keeps K s) :
    Keeps K (State.stkPump s n) := by
  unfold State.stkPump
  repeat' first
    | with_reducible assumption
    | with_reducible refine State.stkTry_keeps ?_
    | with_reducible refine State.setLink_keeps ?_
    | with_reducible refine ite_keeps ?_ ?_
    | with_reducible refine foldl_keeps ?_ ?_
    | dsimp only
    | intro q_ _ h_

theorem State.stkSend_keeps {s : State} {n : Nat} {r : StkReq} (hs : Keeps K s) :
    Keeps K (State.stkSend s n r) := by
  unfold State.stkSend
  repeat' first
    | with_reducible assumption
    | with_reducible refine State.stkPump_keeps ?_
    | with_reducible refine State.setLink_keeps ?_

theorem State.putFill_keeps {s : State} {f : Fill} (hs : Keeps K s) :
    Keeps K (State.putFill s f) := by
  unfold State.putFill
  repeat' first | with_reducible assumption | with_reducible refine ite_keeps ?_ ?_ | simp only [keeps_mk, keeps_fold]

theorem State.dropFill_keeps {s : State} {folio : Nat} (hs : Keeps K s) :
    Keeps K (State.dropFill s folio) := by
  unfold State.dropFill
  repeat' first | with_reducible assumption | simp only [keeps_mk, keeps_fold]

theorem State.evbPut_keeps {s : State} {folio k : Nat} {lines : List (Line × Tag)} (hs : Keeps K s) :
    Keeps K (State.evbPut s folio k lines) := by
  unfold State.evbPut
  repeat' first | with_reducible assumption | simp only [keeps_mk, keeps_fold]

theorem State.evbTake_keeps {s : State} {k st : Nat} (hs : Keeps K s) :
    Keeps K (State.evbTake s k st) := by
  unfold State.evbTake
  repeat' first
    | with_reducible assumption
    | with_reducible refine State.evbPut_keeps ?_
    | with_reducible refine State.copyWay_keeps ?_
    | with_reducible refine State.setWay_keeps ?_

theorem State.takeVictim_keeps {s : State} {k : Nat} (hs : Keeps K s) :
    Keeps K (State.takeVictim s k) := by
  unfold State.takeVictim
  repeat' first
    | with_reducible assumption
    | with_reducible refine State.evbTake_keeps ?_
    | with_reducible refine State.setWay_keeps ?_
    | with_reducible refine ite_keeps ?_ ?_

theorem State.uncharge_keeps {s : State} {w : Way} (hs : Keeps K s) :
    Keeps K (State.uncharge s w) := by
  unfold State.uncharge
  repeat' first
    | with_reducible assumption
    | with_reducible refine State.setTenant_keeps ?_
    | with_reducible refine ite_keeps ?_ ?_

theorem State.chargeCache_keeps {s : State} {t : Nat} (hs : Keeps K s) :
    Keeps K (State.chargeCache s t) := by
  unfold State.chargeCache
  repeat' first | with_reducible assumption | with_reducible refine State.setTenant_keeps ?_

theorem State.refund_keeps {s : State} {f : Fill} (hs : Keeps K s) :
    Keeps K (State.refund s f) := by
  unfold State.refund
  repeat' first
    | with_reducible assumption
    | with_reducible refine State.setTenant_keeps ?_
    | with_reducible refine ite_keeps ?_ ?_

theorem State.specGo_keeps {s : State} (hs : Keeps K s) :
    Keeps K (State.specGo s).1 := by
  unfold State.specGo
  repeat' first | with_reducible assumption | simp only [keeps_mk, keeps_fold] | split

theorem State.sendRead_keeps {s : State} {folio : Nat} {demand : Bool} (hs : Keeps K s) :
    Keeps K (State.sendRead s folio demand) := by
  unfold State.sendRead
  repeat' first
    | with_reducible assumption
    | with_reducible refine State.specGo_keeps ?_
    | with_reducible refine State.stkSend_keeps ?_
    | dsimp only
    | (extract_lets +onlyGivenNames x_; skip)
    | split

theorem State.tagBack_keeps {s : State} (hs : Keeps K s) : Keeps K (State.tagBack s) := by
  unfold State.tagBack
  simp only [keeps_mk, keeps_fold]
  refine foldl_keeps ?_ hs
  intro q_ _ h_
  split
  · exact State.dirWrite_keeps h_
  · exact h_

theorem State.tagTouch_keeps {s : State} {set : Nat} (hs : Keeps K s) :
    Keeps K (State.tagTouch s set) := by
  unfold State.tagTouch
  repeat' first
    | with_reducible assumption
    | with_reducible refine State.dirWrite_keeps ?_
    | with_reducible refine State.bump_keeps ?_
    | with_reducible refine ite_keeps ?_ ?_
    | simp only [keeps_mk, keeps_fold]
    | split

theorem State.bindWay_keeps {s : State} {f0 : Fill} {forLoad : Bool} (hs : Keeps K s) :
    Keeps K (State.bindWay s f0 forLoad) := by
  unfold State.bindWay
  repeat' first
    | with_reducible assumption
    | with_reducible refine State.refund_keeps ?_
    | with_reducible refine State.chargeCache_keeps ?_
    | with_reducible refine State.takeVictim_keeps ?_
    | with_reducible refine State.putFill_keeps ?_
    | with_reducible refine State.raise_keeps ?_
    | with_reducible refine State.bump_keeps ?_
    | with_reducible refine ite_keeps ?_ ?_
    | dsimp only
    | split

theorem State.rebind_keeps {s : State} {f : Fill} (hs : Keeps K s) :
    Keeps K (State.rebind s f) := by
  unfold State.rebind
  repeat' first
    | with_reducible assumption
    | with_reducible refine State.bindWay_keeps ?_
    | with_reducible refine State.refund_keeps ?_
    | with_reducible refine State.dropFill_keeps ?_
    | with_reducible refine ite_keeps ?_ ?_
    | (extract_lets +onlyGivenNames x_; skip)
    | split

theorem State.dirRead_keeps {s : State} {set : Nat} (hs : Keeps K s) :
    Keeps K (State.dirRead s set) := by
  unfold State.dirRead
  repeat' first
    | with_reducible assumption
    | with_reducible refine State.rebind_keeps ?_
    | with_reducible refine State.tagTouch_keeps ?_
    | with_reducible refine State.uncharge_keeps ?_
    | with_reducible refine State.dirPut_keeps ?_
    | with_reducible refine State.dmcRead_keeps ?_
    | with_reducible refine State.putWay_keeps ?_
    | with_reducible refine State.note_keeps ?_
    | with_reducible refine State.bump_keeps ?_
    | with_reducible refine ite_keeps ?_ ?_
    | with_reducible refine foldl_keeps ?_ ?_
    | simp only [keeps_mk, keeps_fold]
    | intro q_ _ h_

theorem State.lookup_keeps {s : State} {folio : Nat} (hs : Keeps K s) :
    Keeps K (State.lookup s folio) := by
  unfold State.lookup
  repeat' first
    | with_reducible assumption
    | with_reducible refine State.dirRead_keeps ?_
    | with_reducible refine ite_keeps ?_ ?_

theorem State.rescue_keeps {s : State} {k : Nat} {write : Bool} (hs : Keeps K s) :
    Keeps K (State.rescue s k write) := by
  unfold State.rescue
  repeat' first
    | with_reducible assumption
    | with_reducible refine State.rebind_keeps ?_
    | with_reducible refine State.setWay_keeps ?_
    | with_reducible refine State.bump_keeps ?_
    | with_reducible refine ite_keeps ?_ ?_
    | simp only [keeps_mk, keeps_fold]
    | (extract_lets +onlyGivenNames x_; skip)
    | split

theorem State.access_keeps {s : State} {k : Nat} {write : Bool} (hs : Keeps K s) :
    Keeps K (State.access s k write) := by
  unfold State.access
  repeat' first
    | with_reducible assumption
    | with_reducible refine State.rescue_keeps ?_
    | with_reducible refine State.setWay_keeps ?_
    | with_reducible refine State.bump_keeps ?_
    | with_reducible refine ite_keeps ?_ ?_

theorem State.readLine_keeps {s : State} {line : Nat} (hs : Keeps K s) :
    Keeps K (State.readLine s line).1 := by
  unfold State.readLine
  repeat' first
    | with_reducible assumption
    | with_reducible refine State.demand_keeps ?_
    | with_reducible refine State.raise_keeps ?_
    | with_reducible refine fst_keeps ‹_› ?_
    | dsimp only
    | split

theorem State.readLines_keeps {s : State} {n line : Nat} (hs : Keeps K s) :
    Keeps K (s.readLines n line).1 := by
  induction n generalizing s line with
  | zero => exact hs
  | succ n ih =>
    unfold State.readLines
    have h0 := State.readLine_keeps (line := line) hs
    split
    · exact fst_keeps ‹_› h0
    · have h1 := fst_keeps ‹_› h0
      split
      · exact fst_keeps ‹_› (ih h1)
      · exact ih h1

theorem State.park_keeps {s : State} {folio : Nat} {r : FReq} (hs : Keeps K s) :
    Keeps K (State.park s folio r) := by
  unfold State.park
  repeat' first | with_reducible assumption | with_reducible refine State.putFill_keeps ?_ | split

theorem State.govern_keeps {s : State} (hs : Keeps K s) :
    Keeps K (State.govern s) := by
  unfold State.govern
  repeat' first
    | with_reducible assumption
    | with_reducible refine State.note_keeps ?_
    | with_reducible refine State.raise_keeps ?_
    | with_reducible refine ite_keeps ?_ ?_
    | simp only [keeps_mk, keeps_fold]

theorem State.mark_keeps {s : State} {region : Nat} (hs : Keeps K s) :
    Keeps K (State.mark s region) := by
  unfold State.mark
  repeat' first | with_reducible assumption | with_reducible refine ite_keeps ?_ ?_ | simp only [keeps_mk, keeps_fold]

theorem State.mirror_keeps {s : State} {f : MFrame} {lines : List Nat} (hs : Keeps K s) :
    Keeps K (State.mirror s f lines).1 := by
  unfold State.mirror
  repeat' first
    | with_reducible assumption
    | with_reducible refine State.mark_keeps ?_
    | with_reducible refine State.twinWait_keeps ?_
    | with_reducible refine State.emit_keeps ?_
    | with_reducible refine State.bump_keeps ?_
    | with_reducible refine foldl_keeps ?_ ?_
    | simp only [keeps_mk, keeps_fold]
    | intro q_ _ h_
    | split

theorem State.mirror__keeps {s : State} {f : MFrame} (hs : Keeps K s) :
    Keeps K (State.mirror_ s f) := by
  unfold State.mirror_
  repeat' first | with_reducible assumption | with_reducible refine State.mirror_keeps ?_

theorem State.takeSeg_keeps {s : State} {i : Nat} (hs : Keeps K s) :
    Keeps K (State.takeSeg s i) := by
  unfold State.takeSeg
  repeat' first
    | with_reducible assumption
    | with_reducible refine State.setStream_keeps ?_
    | with_reducible refine State.setTenant_keeps ?_
    | simp only [keeps_mk, keeps_fold]

theorem State.freeSegs_keeps {s : State} {tenant : Nat} {l : List Nat} (hs : Keeps K s) :
    Keeps K (State.freeSegs s tenant l) := by
  unfold State.freeSegs
  repeat' first
    | with_reducible assumption
    | with_reducible refine State.setTenant_keeps ?_
    | simp only [keeps_mk, keeps_fold]

theorem State.holdSegs_keeps {s : State} {tenant : Nat} {l : List Nat} (hs : Keeps K s) :
    Keeps K (State.holdSegs s tenant l) := by
  unfold State.holdSegs
  repeat' first
    | with_reducible assumption
    | with_reducible refine State.setTenant_keeps ?_
    | with_reducible refine ite_keeps ?_ ?_
    | simp only [keeps_mk, keeps_fold]

theorem State.sendAck_keeps {s : State} {a : AckWait} (hs : Keeps K s) :
    Keeps K (State.sendAck s a) := by
  unfold State.sendAck
  repeat' first
    | with_reducible assumption
    | with_reducible refine State.answer_keeps ?_
    | with_reducible refine ite_keeps ?_ ?_
    | simp only [keeps_mk, keeps_fold]
    | (extract_lets +onlyGivenNames x_; skip)
    | split

theorem State.releaseAcks_keeps {s : State} {i : Nat} (hs : Keeps K s) :
    Keeps K (s.releaseAcks i) := by
  unfold State.releaseAcks
  extract_lets r p
  split
  · exact hs
  · refine State.setStream_keeps (foldl_pair_keeps ?_ hs)
    intro p a hs
    beta_reduce
    split
    · exact State.sendAck_keeps hs
    · exact hs

theorem State.releaseAll_keeps {s : State} (hs : Keeps K s) :
    Keeps K (State.releaseAll s) := by
  unfold State.releaseAll
  repeat' first
    | with_reducible assumption
    | with_reducible refine State.releaseAcks_keeps ?_
    | with_reducible refine foldl_keeps ?_ ?_
    | intro q_ _ h_

theorem State.refuseWrite_keeps {s : State} {i : Nat} {r : WriteReq} {a : Ans} (hs : Keeps K s) :
    Keeps K (State.refuseWrite s i r a) := by
  unfold State.refuseWrite
  repeat' first
    | with_reducible assumption
    | with_reducible refine State.mirror__keeps ?_
    | with_reducible refine State.answer_keeps ?_
    | with_reducible refine ite_keeps ?_ ?_
    | (extract_lets +onlyGivenNames x_; skip)
    | split

theorem State.applyWrite_keeps {s : State} {i k : Nat} {r : WriteReq} (hs : Keeps K s) :
    Keeps K (s.applyWrite i k r) := by
  unfold State.applyWrite
  extract_lets +onlyGivenNames onStandby folio
  clear_value onStandby folio
  split
  rename_i x0 s0 rd hx0
  have h0 : Keeps K s0 := by
    refine fst_keeps hx0 ?_
    split
    · exact hs
    · split
      · exact State.readLine_keeps hs
      · exact hs
  clear hx0
  split
  · exact State.refuseWrite_keeps h0
  · split
    rename_i newLine old isWrite hx1
    clear hx1
    split
    · exact State.answer_keeps h0
    · split
      · exact State.refuseWrite_keeps (State.refuse_keeps h0)
      · rename_i dec hdec
        extract_lets +onlyGivenNames src1 s1
        have h1 : Keeps K s1 := by
          simp only [s1]
          split
          · exact State.takeSeg_keeps h0
          · exact State.bump_keeps (State.raise_keeps (State.setStream_keeps h0))
          · exact State.bump_keeps (State.raise_keeps (State.setStream_keeps h0))
          · exact h0
        clear_value s1
        extract_lets +onlyGivenNames st obj unb lst tag zeroOp
        clear_value zeroOp tag
        extract_lets +onlyGivenNames s2
        have h2 : Keeps K s2 := by
          simp only [s2]
          split
          · exact foldl_keeps (fun _ _ hs => State.putLine_keeps hs) h1
          · exact State.putLine_keeps h1
        clear_value s2
        extract_lets +onlyGivenNames w s3
        have h3 : Keeps K s3 := State.setWay_keeps h2
        clear_value s3
        extract_lets +onlyGivenNames kind st3 ent st4
        clear_value st4
        extract_lets +onlyGivenNames s4
        have h4 : Keeps K s4 := State.setStream_keeps h3
        clear_value s4
        extract_lets +onlyGivenNames s5
        have h5 : Keeps K s5 := by
          simp only [s5]
          split
          · exact h4
          · exact State.bump_keeps h4
        clear_value s5
        extract_lets +onlyGivenNames s6
        have h6 : Keeps K s6 := by
          simp only [s6]
          split
          · exact State.bump_keeps h5
          · exact h5
        clear_value s6
        extract_lets +onlyGivenNames lines s60 s7o isAtom
        have h60 : Keeps K s60 := State.spend_keeps h6
        clear_value s60 lines isAtom
        split
        · refine State.answer_keeps ?_
          simp only [s7o]
          split
          · split
            · exact State.emit_keeps h60
            · exact h60
          · exact h60
        · split
          rename_i s7 m hx7
          have h7 : Keeps K s7 := fst_keeps hx7 (State.mirror_keeps (State.spend_keeps h6))
          clear hx7
          extract_lets +onlyGivenNames sentAtom srcT s8
          have h8 : Keeps K s8 := by
            simp only [s8]
            split
            · simp only [keeps_mk, keeps_fold, h7]
            · exact h7
          clear_value s8
          extract_lets +onlyGivenNames through s81
          have h81 : Keeps K s81 := by
            simp only [s81]
            split
            · exact h8
            · exact State.raise_keeps (State.bump_keeps h8)
          clear_value s81
          extract_lets +onlyGivenNames s9
          have h9 : Keeps K s9 := by
            simp only [s9]
            split
            · exact State.evbTake_keeps h81
            · exact h81
          clear_value s9
          extract_lets +onlyGivenNames tw a
          exact State.releaseAcks_keeps (State.setStream_keeps h9)

theorem State.lostMiss_keeps {s : State} {folio : Nat} (hs : Keeps K s) :
    Keeps K (State.lostMiss s folio) := by
  unfold State.lostMiss
  repeat' first
    | with_reducible assumption
    | with_reducible refine State.note_keeps ?_
    | with_reducible refine State.raise_keeps ?_

theorem State.budgetWait_keeps {s : State} {i : Nat} {r : WriteReq} {rest : List SItem} (hs : Keeps K s) :
    Keeps K (State.budgetWait s i r rest) := by
  unfold State.budgetWait
  repeat' first
    | with_reducible assumption
    | with_reducible refine State.setStream_keeps ?_
    | with_reducible refine State.raise_keeps ?_
    | with_reducible refine State.bump_keeps ?_
    | with_reducible refine ite_keeps ?_ ?_

theorem State.victimWait_keeps {s : State} {i : Nat} {r : WriteReq} {rest : List SItem} (hs : Keeps K s) :
    Keeps K (State.victimWait s i r rest) := by
  unfold State.victimWait
  repeat' first
    | with_reducible assumption
    | with_reducible refine State.setStream_keeps ?_
    | with_reducible refine State.bump_keeps ?_
    | with_reducible refine ite_keeps ?_ ?_

theorem State.startFill_keeps {s : State} {folio tenant : Nat} {q : Option FReq} {spec pin zero cir : Bool}
    (hs : Keeps K s) :
    Keeps K (State.startFill s folio tenant q spec pin zero cir) := by
  unfold State.startFill
  repeat' first
    | with_reducible assumption
    | with_reducible refine State.bindWay_keeps ?_
    | with_reducible refine State.sendRead_keeps ?_
    | with_reducible refine State.putFill_keeps ?_
    | with_reducible refine State.bump_keeps ?_
    | with_reducible refine ite_keeps ?_ ?_
    | (extract_lets +onlyGivenNames x_; skip)
    | split

theorem State.startThrough_keeps {s : State} {folio tenant : Nat} {q : FReq} (hs : Keeps K s) :
    Keeps K (State.startThrough s folio tenant q) := by
  unfold State.startThrough
  repeat' first
    | with_reducible assumption
    | with_reducible refine State.sendRead_keeps ?_
    | with_reducible refine State.putFill_keeps ?_
    | simp only [keeps_mk, keeps_fold]

theorem State.installLines_keeps {s : State} {f : Fill} {k : Nat} {lines : List (Line × Tag)} (hs : Keeps K s) :
    Keeps K (State.installLines s f k lines) := by
  unfold State.installLines
  repeat' first
    | with_reducible assumption
    | with_reducible refine State.mirror__keeps ?_
    | with_reducible refine State.refund_keeps ?_
    | with_reducible refine State.chargeCache_keeps ?_
    | with_reducible refine State.uncharge_keeps ?_
    | with_reducible refine State.setPinRsv_keeps ?_
    | with_reducible refine State.setWay_keeps ?_
    | with_reducible refine State.putLine_keeps ?_
    | with_reducible refine State.setObj_keeps ?_
    | with_reducible refine State.spend_keeps ?_
    | with_reducible refine State.bumpFld_keeps ?_
    | with_reducible refine State.bump_keeps ?_
    | with_reducible refine ite_keeps ?_ ?_
    | with_reducible refine foldl_keeps ?_ ?_
    | simp only [keeps_mk, keeps_fold]
    | intro q_ _ h_

theorem State.zeroThrough_keeps {s : State} {folio owner : Nat} (hs : Keeps K s) :
    Keeps K (State.zeroThrough s folio owner) := by
  unfold State.zeroThrough
  repeat' first
    | with_reducible assumption
    | with_reducible refine State.installLines_keeps ?_
    | simp only [keeps_mk, keeps_fold]

theorem State.tryWrite_keeps {s0 : State} {i : Nat} {r : WriteReq} {rest : List SItem} (hs : Keeps K s0) :
    Keeps K (State.tryWrite s0 i r rest).st := by
  unfold State.tryWrite
  repeat' first
    | with_reducible assumption
    | with_reducible refine State.zeroThrough_keeps ?_
    | with_reducible refine State.installLines_keeps ?_
    | with_reducible refine State.startThrough_keeps ?_
    | with_reducible refine State.startFill_keeps ?_
    | with_reducible refine State.victimWait_keeps ?_
    | with_reducible refine State.budgetWait_keeps ?_
    | with_reducible refine State.lostMiss_keeps ?_
    | with_reducible refine State.applyWrite_keeps ?_
    | with_reducible refine State.refuseWrite_keeps ?_
    | with_reducible refine State.access_keeps ?_
    | with_reducible refine State.lookup_keeps ?_
    | with_reducible refine State.takeVictim_keeps ?_
    | with_reducible refine State.putFill_keeps ?_
    | with_reducible refine State.refuse_keeps ?_
    | with_reducible refine State.setStream_keeps ?_
    | with_reducible refine State.raise_keeps ?_
    | with_reducible refine State.bump_keeps ?_
    | with_reducible refine ite_keeps ?_ ?_
    | simp only [keeps_mk, keeps_fold]
    | simp only [st_gone, st_waits]
    | split

theorem State.closeMark_keeps {s : State} {i : Nat} (hs : Keeps K s) :
    Keeps K (State.closeMark s i) := by
  unfold State.closeMark
  repeat' first
    | with_reducible assumption
    | with_reducible refine State.setStream_keeps ?_
    | with_reducible refine ite_keeps ?_ ?_
    | (extract_lets +onlyGivenNames x_; skip)
    | split

theorem State.judgeClose_keeps {s : State} {i : Nat} {src : Src} {e : Nat} {setMode mode fin : Bool}
    {rest : List SItem} (hs : Keeps K s) :
    Keeps K (State.judgeClose s i src e setMode mode fin rest) := by
  unfold State.judgeClose
  repeat' first
    | with_reducible assumption
    | with_reducible refine State.mirror_keeps ?_
    | with_reducible refine State.answer_keeps ?_
    | with_reducible refine State.setStream_keeps ?_
    | with_reducible refine ite_keeps ?_ ?_

theorem State.pump_keeps {s : State} {i n : Nat} (hs : Keeps K s) :
    Keeps K (s.pump i n) := by
  induction n generalizing s with
  | zero => exact hs
  | succ n ih =>
    unfold State.pump
    extract_lets r held
    split
    · exact hs
    · split
      · exact hs
      · exact ih (State.releaseAcks_keeps (State.setStream_keeps hs))
    · split
      · exact hs
      · exact ih (State.judgeClose_keeps hs)
    · split
      · exact hs
      · split
        · split
          · exact ih (gone_keeps ‹_› (State.tryWrite_keeps hs))
          · exact waits_keeps ‹_› (State.tryWrite_keeps hs)
        · exact ih (State.refuseWrite_keeps (State.setStream_keeps hs))

theorem State.pumpAll_keeps {s : State} {i : Nat} (hs : Keeps K s) :
    Keeps K (State.pumpAll s i) := by
  unfold State.pumpAll
  repeat' first | with_reducible assumption | with_reducible refine State.pump_keeps ?_

theorem State.verdictFill_keeps {s : State} {f : Nat} {q : FReq} (hs : Keeps K s) :
    Keeps K (State.verdictFill s f q) := by
  unfold State.verdictFill
  repeat' first
    | with_reducible assumption
    | with_reducible refine State.startFill_keeps ?_
    | with_reducible refine State.park_keeps ?_
    | with_reducible refine State.sendRead_keeps ?_
    | with_reducible refine State.putFill_keeps ?_
    | with_reducible refine State.raise_keeps ?_
    | with_reducible refine ite_keeps ?_ ?_
    | simp only [keeps_mk, keeps_fold]
    | split

theorem State.queryAsk_keeps {s : State} {src : Src} {i line ctx map : Nat} (hs : Keeps K s) :
    Keeps K (State.queryAsk s src i line ctx map) := by
  unfold State.queryAsk
  repeat' first
    | with_reducible assumption
    | with_reducible refine State.verdictFill_keeps ?_
    | with_reducible refine State.answer_keeps ?_
    | with_reducible refine ite_keeps ?_ ?_

theorem State.reportTake_keeps {s : State} {i folio : Nat} {ok : Bool} (hs : Keeps K s) :
    Keeps K (State.reportTake s i folio ok) := by
  unfold State.reportTake
  repeat' first
    | with_reducible assumption
    | with_reducible refine State.setStream_keeps ?_
    | with_reducible refine ite_keeps ?_ ?_
    | dsimp only
    | split

theorem State.fillTouch_keeps {s : State} {folio : Nat} (hs : Keeps K s) :
    Keeps K (State.fillTouch s folio) := by
  unfold State.fillTouch
  repeat' first | with_reducible assumption | with_reducible refine State.putFill_keeps ?_ | split

theorem State.runLoad_keeps {s0 : State} {l : LoadReq} (hs : Keeps K s0) :
    Keeps K (State.runLoad s0 l) := by
  unfold State.runLoad
  repeat' first
    | with_reducible assumption
    | with_reducible refine State.fillTouch_keeps ?_
    | with_reducible refine State.startFill_keeps ?_
    | with_reducible refine State.lostMiss_keeps ?_
    | with_reducible refine State.park_keeps ?_
    | with_reducible refine State.readLines_keeps ?_
    | with_reducible refine State.access_keeps ?_
    | with_reducible refine State.lookup_keeps ?_
    | with_reducible refine State.sendRead_keeps ?_
    | with_reducible refine State.putFill_keeps ?_
    | with_reducible refine State.answer_keeps ?_
    | with_reducible refine State.spend_keeps ?_
    | with_reducible refine State.raise_keeps ?_
    | with_reducible refine ite_keeps ?_ ?_
    | with_reducible refine foldl_keeps ?_ ?_
    | with_reducible refine fst_keeps ‹_› ?_
    | simp only [keeps_mk, keeps_fold]
    | intro q_ _ h_
    | split

theorem State.retryLoads_keeps {s : State} (hs : Keeps K s) :
    Keeps K (State.retryLoads s) := by
  unfold State.retryLoads
  repeat' first
    | with_reducible assumption
    | with_reducible refine State.runLoad_keeps ?_
    | with_reducible refine foldl_keeps ?_ ?_
    | simp only [keeps_mk, keeps_fold]
    | intro q_ _ h_

theorem State.maintDone_keeps {s : State} {m : MaintReq} {status : Nat} (hs : Keeps K s) :
    Keeps K (State.maintDone s m status) := by
  unfold State.maintDone
  repeat' first
    | with_reducible assumption
    | with_reducible refine State.answerAt_keeps ?_
    | with_reducible refine State.bump_keeps ?_
    | simp only [keeps_mk, keeps_fold]

theorem State.maintWait_keeps {s : State} {m : MaintReq} (hs : Keeps K s) :
    Keeps K (State.maintWait s m) := by
  unfold State.maintWait
  repeat' first | with_reducible assumption | simp only [keeps_mk, keeps_fold]

theorem State.reshelve_keeps {s : State} {k : Nat} (hs : Keeps K s) :
    Keeps K (State.reshelve s k) := by
  unfold State.reshelve
  repeat' first
    | with_reducible assumption
    | with_reducible refine State.evbTake_keeps ?_
    | with_reducible refine ite_keeps ?_ ?_

theorem State.invalidateWay_keeps {s : State} {k : Nat} (hs : Keeps K s) :
    Keeps K (State.invalidateWay s k) := by
  unfold State.invalidateWay
  repeat' first
    | with_reducible assumption
    | with_reducible refine State.uncharge_keeps ?_
    | with_reducible refine State.setWay_keeps ?_

theorem State.zeroWay_keeps {s : State} {k : Nat} {m : MaintReq} (hs : Keeps K s) :
    Keeps K (State.zeroWay s k m) := by
  unfold State.zeroWay
  repeat' first
    | with_reducible assumption
    | with_reducible refine State.reshelve_keeps ?_
    | with_reducible refine State.maintDone_keeps ?_
    | with_reducible refine State.mark_keeps ?_
    | with_reducible refine State.rescue_keeps ?_
    | with_reducible refine State.answerAt_keeps ?_
    | with_reducible refine State.setWay_keeps ?_
    | with_reducible refine State.putLine_keeps ?_
    | with_reducible refine State.bump_keeps ?_
    | with_reducible refine ite_keeps ?_ ?_
    | with_reducible refine foldl_keeps ?_ ?_
    | simp only [keeps_mk, keeps_fold]
    | intro q_ _ h_

theorem State.runMaint_keeps {s0 : State} {m : MaintReq} (hs : Keeps K s0) :
    Keeps K (State.runMaint s0 m) := by
  unfold State.runMaint
  repeat' first
    | with_reducible assumption
    | with_reducible refine State.zeroWay_keeps ?_
    | with_reducible refine State.invalidateWay_keeps ?_
    | with_reducible refine State.reshelve_keeps ?_
    | with_reducible refine State.maintWait_keeps ?_
    | with_reducible refine State.maintDone_keeps ?_
    | with_reducible refine State.zeroThrough_keeps ?_
    | with_reducible refine State.startFill_keeps ?_
    | with_reducible refine State.lostMiss_keeps ?_
    | with_reducible refine State.park_keeps ?_
    | with_reducible refine State.rescue_keeps ?_
    | with_reducible refine State.lookup_keeps ?_
    | with_reducible refine State.putFill_keeps ?_
    | with_reducible refine State.answerAt_keeps ?_
    | with_reducible refine State.setWay_keeps ?_
    | with_reducible refine State.refuse_keeps ?_
    | with_reducible refine State.raise_keeps ?_
    | with_reducible refine State.bump_keeps ?_
    | with_reducible refine ite_keeps ?_ ?_
    | simp only [keeps_mk, keeps_fold]
    | split

theorem State.maintAck_keeps {s : State} {folio : Nat} (hs : Keeps K s) :
    Keeps K (State.maintAck s folio) := by
  unfold State.maintAck
  repeat' first
    | with_reducible assumption
    | with_reducible refine State.invalidateWay_keeps ?_
    | with_reducible refine State.reshelve_keeps ?_
    | with_reducible refine State.maintWait_keeps ?_
    | with_reducible refine State.maintDone_keeps ?_
    | with_reducible refine ite_keeps ?_ ?_
    | with_reducible refine foldl_keeps ?_ ?_
    | simp only [keeps_mk, keeps_fold]
    | intro q_ _ h_
    | split

theorem State.runReq_keeps {s : State} {q : FReq} (hs : Keeps K s) :
    Keeps K (State.runReq s q) := by
  unfold State.runReq
  repeat' first
    | with_reducible assumption
    | with_reducible refine State.runMaint_keeps ?_
    | with_reducible refine State.runLoad_keeps ?_
    | with_reducible refine State.reportTake_keeps ?_
    | with_reducible refine State.pumpAll_keeps ?_
    | with_reducible refine State.answer_keeps ?_
    | split

theorem State.runReqs_keeps {s : State} {l : List FReq} (hs : Keeps K s) :
    Keeps K (State.runReqs s l) := by
  unfold State.runReqs
  repeat' first
    | with_reducible assumption
    | with_reducible refine State.runReq_keeps ?_
    | with_reducible refine foldl_keeps ?_ ?_
    | intro q_ _ h_

theorem State.fillArrive_keeps {s : State} {f : Fill} {lines : List (Line × Tag)} (hs : Keeps K s) :
    Keeps K (State.fillArrive s f lines) := by
  unfold State.fillArrive
  repeat' first
    | with_reducible assumption
    | with_reducible refine State.runReqs_keeps ?_
    | with_reducible refine State.dropFill_keeps ?_
    | with_reducible refine State.putFill_keeps ?_
    | with_reducible refine ite_keeps ?_ ?_

theorem State.unbind_keeps {s : State} {k : Nat} (hs : Keeps K s) :
    Keeps K (State.unbind s k) := by
  unfold State.unbind
  repeat' first
    | with_reducible assumption
    | with_reducible refine State.setWay_keeps ?_
    | with_reducible refine ite_keeps ?_ ?_
    | simp only [keeps_mk, keeps_fold]
    | split

theorem State.failReq_keeps {s : State} {reason : Nat} {q : FReq} (hs : Keeps K s) :
    Keeps K (State.failReq s reason q) := by
  unfold State.failReq
  repeat' first
    | with_reducible assumption
    | with_reducible refine State.maintDone_keeps ?_
    | with_reducible refine State.reportTake_keeps ?_
    | with_reducible refine State.pumpAll_keeps ?_
    | with_reducible refine State.refuseWrite_keeps ?_
    | with_reducible refine State.answer_keeps ?_
    | with_reducible refine State.answerAt_keeps ?_
    | with_reducible refine State.setStream_keeps ?_
    | with_reducible refine State.bump_keeps ?_
    | with_reducible refine ite_keeps ?_ ?_
    | dsimp only
    | split

theorem State.fillFail_keeps {s : State} {folio reason link bad : Nat} (hs : Keeps K s) :
    Keeps K (State.fillFail s folio reason link bad) := by
  unfold State.fillFail
  repeat' first
    | with_reducible assumption
    | with_reducible refine State.failReq_keeps ?_
    | with_reducible refine State.unbind_keeps ?_
    | with_reducible refine State.runReqs_keeps ?_
    | with_reducible refine State.refund_keeps ?_
    | with_reducible refine State.dropFill_keeps ?_
    | with_reducible refine State.note_keeps ?_
    | with_reducible refine State.raise_keeps ?_
    | with_reducible refine ite_keeps ?_ ?_
    | with_reducible refine foldl_keeps ?_ ?_
    | simp only [keeps_mk, keeps_fold]
    | intro q_ _ h_
    | (extract_lets +onlyGivenNames x_; skip)
    | split

theorem State.zeroStops_keeps {s : State} {f : Fill} {g : ZeroGate} (hs : Keeps K s) :
    Keeps K (State.zeroStops s f g) := by
  unfold State.zeroStops
  repeat' first
    | with_reducible assumption
    | with_reducible refine State.unbind_keeps ?_
    | with_reducible refine State.runReqs_keeps ?_
    | with_reducible refine State.pumpAll_keeps ?_
    | with_reducible refine State.budgetWait_keeps ?_
    | with_reducible refine State.refuseWrite_keeps ?_
    | with_reducible refine State.refund_keeps ?_
    | with_reducible refine State.dropFill_keeps ?_
    | with_reducible refine State.refuse_keeps ?_
    | with_reducible refine State.setStream_keeps ?_
    | with_reducible refine ite_keeps ?_ ?_
    | dsimp only
    | (extract_lets +onlyGivenNames x_; skip)
    | split

theorem State.install_keeps {s : State} {folio : Nat} (hs : Keeps K s) :
    Keeps K (State.install s folio) := by
  unfold State.install
  repeat' first
    | with_reducible assumption
    | with_reducible refine State.zeroStops_keeps ?_
    | with_reducible refine State.runReqs_keeps ?_
    | with_reducible refine State.installLines_keeps ?_
    | with_reducible refine State.bindWay_keeps ?_
    | with_reducible refine State.dropFill_keeps ?_
    | with_reducible refine ite_keeps ?_ ?_
    | dsimp only
    | split

theorem State.neighbour_keeps {s0 : State} {folio : Nat} {lines : List (Line × Tag)} (hs : Keeps K s0) :
    Keeps K (State.neighbour s0 folio lines) := by
  unfold State.neighbour
  repeat' first
    | with_reducible assumption
    | with_reducible refine State.installLines_keeps ?_
    | with_reducible refine State.lookup_keeps ?_
    | with_reducible refine State.takeVictim_keeps ?_
    | with_reducible refine ite_keeps ?_ ?_
    | dsimp only
    | split

theorem State.twAcked_keeps {s : State} {folio : Nat} (hs : Keeps K s) :
    Keeps K (State.twAcked s folio) := by
  unfold State.twAcked
  repeat' first
    | with_reducible assumption
    | with_reducible refine State.releaseAcks_keeps ?_
    | with_reducible refine State.setStream_keeps ?_
    | with_reducible refine ite_keeps ?_ ?_
    | with_reducible refine foldl_keeps ?_ ?_
    | dsimp only
    | intro q_ _ h_

theorem State.dropDesk_keeps {s : State} {k : Nat} (hs : Keeps K s) :
    Keeps K (State.dropDesk s k) := by
  unfold State.dropDesk
  repeat' first
    | with_reducible assumption
    | with_reducible refine State.setWay_keeps ?_
    | with_reducible refine State.setDline_keeps ?_
    | with_reducible refine foldl_keeps ?_ ?_
    | intro q_ _ h_

theorem State.folioWritten_keeps {s : State} {folio : Nat} (hs : Keeps K s) :
    Keeps K (State.folioWritten s folio) := by
  unfold State.folioWritten
  repeat' first
    | with_reducible assumption
    | with_reducible refine State.dropDesk_keeps ?_
    | with_reducible refine State.twAcked_keeps ?_
    | with_reducible refine State.maintAck_keeps ?_
    | with_reducible refine State.reshelve_keeps ?_
    | with_reducible refine State.setWayStates_keeps ?_
    | with_reducible refine State.setWay_keeps ?_
    | with_reducible refine State.spend_keeps ?_
    | with_reducible refine ite_keeps ?_ ?_
    | simp only [keeps_mk, keeps_fold]
    | split

theorem State.metaTake_keeps {s : State} {f : Nat} (hs : Keeps K s) :
    Keeps K (State.metaTake s f) := by
  unfold State.metaTake
  repeat' first
    | with_reducible assumption
    | with_reducible refine State.evbPut_keeps ?_
    | with_reducible refine ite_keeps ?_ ?_
    | simp only [keeps_mk, keeps_fold]

theorem State.evbSend_keeps {s : State} {tile : Nat} (hs : Keeps K s) :
    Keeps K (State.evbSend s tile) := by
  unfold State.evbSend
  repeat' first
    | with_reducible assumption
    | with_reducible refine State.stkSend_keeps ?_
    | with_reducible refine ite_keeps ?_ ?_
    | simp only [keeps_mk, keeps_fold]
    | split

theorem State.tileWritten_keeps {s : State} {r : StkReq} (hs : Keeps K s) :
    Keeps K (State.tileWritten s r) := by
  unfold State.tileWritten
  repeat' first
    | with_reducible assumption
    | with_reducible refine State.folioWritten_keeps ?_
    | with_reducible refine ite_keeps ?_ ?_
    | with_reducible refine foldl_keeps ?_ ?_
    | intro q_ _ h_

theorem State.maintRun_keeps {n : Nat} {s : State} (hs : Keeps K s) : Keeps K (State.maintRun n s) := by
  induction n generalizing s with
  | zero => exact hs
  | succ n ih =>
    unfold State.maintRun
    split
    · exact hs
    · exact ih (State.runMaint_keeps (by simp only [keeps_mk, keeps_fold]; exact hs))

theorem State.maintAsk_keeps {s : State} {l : List MaintReq} (hs : Keeps K s) :
    Keeps K (State.maintAsk s l) := by
  unfold State.maintAsk
  repeat' first
    | with_reducible assumption
    | with_reducible refine State.maintRun_keeps ?_
    | simp only [keeps_mk, keeps_fold]

theorem State.throughRun_keeps {s : State} (hs : Keeps K s) :
    Keeps K (State.throughRun s) := by
  unfold State.throughRun
  repeat' first
    | with_reducible assumption
    | with_reducible refine State.reshelve_keeps ?_
    | with_reducible refine foldl_keeps ?_ ?_
    | intro q_ _ h_
    | split

theorem State.orderRun_keeps {s : State} (hs : Keeps K s) :
    Keeps K (State.orderRun s) := by
  unfold State.orderRun
  repeat' first
    | with_reducible assumption
    | with_reducible refine State.retryLoads_keeps ?_
    | with_reducible refine State.pumpAll_keeps ?_
    | with_reducible refine ite_keeps ?_ ?_
    | with_reducible refine foldl_keeps ?_ ?_
    | simp only [keeps_mk, keeps_fold]
    | intro q_ _ h_

theorem State.fchRun_keeps {s : State} (hs : Keeps K s) :
    Keeps K (State.fchRun s) := by
  unfold State.fchRun
  repeat' first
    | with_reducible assumption
    | with_reducible refine State.orderRun_keeps ?_
    | with_reducible refine State.throughRun_keeps ?_
    | with_reducible refine State.maintRun_keeps ?_

theorem State.stir_keeps {s : State} (hs : Keeps K s) :
    Keeps K (State.stir s) := by
  unfold State.stir
  repeat' first
    | with_reducible assumption
    | with_reducible refine State.retryLoads_keeps ?_
    | with_reducible refine State.pumpAll_keeps ?_
    | with_reducible refine State.releaseAcks_keeps ?_
    | with_reducible refine foldl_keeps ?_ ?_
    | intro q_ _ h_

theorem State.openEpoch_keeps {s : State} {i : Nat} {mode : Bool} {writer field tenant : Nat} (hs : Keeps K s) :
    Keeps K (State.openEpoch s i mode writer field tenant) := by
  unfold State.openEpoch
  repeat' first
    | with_reducible assumption
    | with_reducible refine State.setStream_keeps ?_
    | with_reducible refine State.raise_keeps ?_
    | with_reducible refine ite_keeps ?_ ?_
    | with_reducible refine foldl_keeps ?_ ?_
    | dsimp only
    | intro q_ _ h_

theorem State.commitClose_keeps {s : State} {i : Nat} {answer : Bool} {unknown : Bool} (hs : Keeps K s) :
    Keeps K (State.commitClose s i answer unknown) := by
  unfold State.commitClose
  repeat' first
    | with_reducible assumption
    | with_reducible refine State.pumpAll_keeps ?_
    | with_reducible refine State.closeMark_keeps ?_
    | with_reducible refine State.freeSegs_keeps ?_
    | with_reducible refine State.answer_keeps ?_
    | with_reducible refine State.setStream_keeps ?_
    | with_reducible refine State.bump_keeps ?_
    | with_reducible refine ite_keeps ?_ ?_
    | dsimp only
    | split

theorem State.closeArrive_keeps {s : State} {i : Nat} {src : Src} {e : Nat} {setMode mode fin : Bool}
    (hs : Keeps K s) :
    Keeps K (State.closeArrive s i src e setMode mode fin) := by
  unfold State.closeArrive
  repeat' first
    | with_reducible assumption
    | with_reducible refine State.pumpAll_keeps ?_
    | with_reducible refine State.closeMark_keeps ?_
    | with_reducible refine State.setStream_keeps ?_

theorem State.endEpoch_keeps {s : State} {i cause : Nat} {answers : Bool} (hs : Keeps K s) :
    Keeps K (State.endEpoch s i cause answers) := by
  unfold State.endEpoch
  repeat' first
    | with_reducible assumption
    | with_reducible refine State.refuseWrite_keeps ?_
    | with_reducible refine State.answer_keeps ?_
    | with_reducible refine State.setStream_keeps ?_
    | with_reducible refine ite_keeps ?_ ?_
    | with_reducible refine foldl_keeps ?_ ?_
    | intro q_ _ h_
    | (extract_lets +onlyGivenNames x_; skip)
    | split

theorem State.buildReport_keeps {s : State} {i : Nat} (hs : Keeps K s) :
    Keeps K (State.buildReport s i) := by
  unfold State.buildReport
  repeat' first
    | with_reducible assumption
    | with_reducible refine State.setStream_keeps ?_
    | with_reducible refine ite_keeps ?_ ?_
    | dsimp only
    | split

theorem State.releaseReport_keeps {s : State} {i : Nat} (hs : Keeps K s) :
    Keeps K (State.releaseReport s i) := by
  unfold State.releaseReport
  repeat' first
    | with_reducible assumption
    | with_reducible refine State.freeSegs_keeps ?_
    | with_reducible refine State.setStream_keeps ?_
    | dsimp only
    | split

theorem State.doTenantSet_keeps {s : State} {t evt pin cache stk desk acc cir : Nat} {susp : Bool} (hs : Keeps K s) :
    Keeps K (State.doTenantSet s t evt pin cache stk desk acc cir susp).1 := by
  unfold State.doTenantSet
  repeat' first
    | with_reducible assumption
    | with_reducible refine State.metaTouch_keeps ?_
    | with_reducible refine State.setTenant_keeps ?_
    | dsimp only
    | split

theorem State.closeCtx_keeps {s : State} {c : Nat} (hs : Keeps K s) :
    Keeps K (State.closeCtx s c).1 := by
  unfold State.closeCtx
  repeat' first
    | with_reducible assumption
    | with_reducible refine State.setMap_keeps ?_
    | with_reducible refine ite_keeps ?_ ?_
    | with_reducible refine foldl_keeps ?_ ?_
    | dsimp only
    | intro q_ _ h_

theorem State.bindNow_keeps {s : State} {c : Nat} (hs : Keeps K s) :
    Keeps K (State.bindNow s c) := by
  unfold State.bindNow
  repeat' first
    | with_reducible assumption
    | with_reducible refine State.closeCtx_keeps ?_
    | with_reducible refine State.answer_keeps ?_
    | with_reducible refine State.setCtx_keeps ?_
    | with_reducible refine ite_keeps ?_ ?_
    | with_reducible refine foldl_keeps ?_ ?_
    | with_reducible refine fst_keeps ‹_› ?_
    | simp only [keeps_mk, keeps_fold]
    | intro q_ _ h_
    | split

theorem State.closeMapNow_keeps {s : State} {c m : Nat} (hs : Keeps K s) :
    Keeps K (State.closeMapNow s c m) := by
  unfold State.closeMapNow
  repeat' first
    | with_reducible assumption
    | with_reducible refine State.bindNow_keeps ?_
    | with_reducible refine State.answer_keeps ?_
    | with_reducible refine State.setMap_keeps ?_
    | (extract_lets +onlyGivenNames x_; skip)
    | split

theorem State.closeMap_keeps {s : State} {c m : Nat} {src : Src} (hs : Keeps K s) :
    Keeps K (State.closeMap s c m src) := by
  unfold State.closeMap
  repeat' first
    | with_reducible assumption
    | with_reducible refine State.closeMapNow_keeps ?_
    | with_reducible refine State.setMap_keeps ?_
    | with_reducible refine ite_keeps ?_ ?_

theorem State.openMap_keeps {s : State} {c h : Nat} {r w a : Bool} {cookie : Nat} (hs : Keeps K s) :
    Keeps K (State.openMap s c h r w a cookie).1 := by
  unfold State.openMap
  repeat' first
    | with_reducible assumption
    | with_reducible refine State.setMap_keeps ?_
    | dsimp only
    | split

theorem State.doPortBind_keeps {s : State} {c host tenant : Nat} {src : Src} (hs : Keeps K s) :
    Keeps K (State.doPortBind s c host tenant src).1 := by
  unfold State.doPortBind
  repeat' first
    | with_reducible assumption
    | with_reducible refine State.closeCtx_keeps ?_
    | with_reducible refine State.setCtx_keeps ?_
    | with_reducible refine fst_keeps ‹_› ?_
    | simp only [keeps_mk, keeps_fold]
    | split

theorem State.doGrantSet_keeps {s : State} {h grantee : Nat} {r w a : Bool} (hs : Keeps K s) :
    Keeps K (State.doGrantSet s h grantee r w a).1 := by
  unfold State.doGrantSet
  repeat' first | with_reducible assumption | with_reducible refine State.setGrant_keeps ?_ | split

theorem State.doGrantClear_keeps {s : State} {n : Nat} (hs : Keeps K s) :
    Keeps K (State.doGrantClear s n).1 := by
  unfold State.doGrantClear
  repeat' first | with_reducible assumption | with_reducible refine State.setGrant_keeps ?_ | split

theorem State.doWindowSet_keeps {s : State} {n t host h off len base : Nat} {r w a : Bool} (hs : Keeps K s) :
    Keeps K (State.doWindowSet s n t host h off len base r w a).1 := by
  unfold State.doWindowSet
  repeat' first
    | with_reducible assumption
    | with_reducible refine State.setWindow_keeps ?_
    | dsimp only
    | split

theorem State.doWindowClear_keeps {s : State} {n : Nat} {slot : Option Nat} (hs : Keeps K s) :
    Keeps K (State.doWindowClear s n slot).1 := by
  unfold State.doWindowClear
  repeat' first
    | with_reducible assumption
    | with_reducible refine State.setWindow_keeps ?_
    | dsimp only
    | split

theorem State.ownShelf_keeps {s : State} {sh tenant object cls : Nat} (hs : Keeps K s) :
    Keeps K (State.ownShelf s sh tenant object cls) := by
  unfold State.ownShelf
  repeat' first
    | with_reducible assumption
    | with_reducible refine State.setShelf_keeps ?_
    | with_reducible refine ite_keeps ?_ ?_
    | dsimp only
    | split

theorem State.freeShelf_keeps {s : State} {sh tenant : Nat} (hs : Keeps K s) :
    Keeps K (State.freeShelf s sh tenant) := by
  unfold State.freeShelf
  repeat' first
    | with_reducible assumption
    | with_reducible refine State.stkSend_keeps ?_
    | with_reducible refine State.setLink_keeps ?_
    | with_reducible refine State.setShelf_keeps ?_
    | with_reducible refine State.setTenant_keeps ?_
    | with_reducible refine ite_keeps ?_ ?_

theorem State.pinWalk_keeps {s : State} {fs : List Nat} {r : State} (hs : Keeps K s)
    (h : s.pinWalk fs = some r) : Keeps K r := by
  unfold State.pinWalk at h
  split at h
  · cases h; exact hs
  · refine foldl_opt_keeps ?_ fs (some s) (fun _ hr => by cases hr; exact hs) r h
    intro o f ho r hr
    dsimp only at hr
    split at hr
    · cases hr
    · split at hr
      · cases hr
        exact State.setPinRsv_keeps (State.lookup_keeps (ho _ rfl))
      · cases hr

theorem ite_pinWalk_keeps {c : Prop} [Decidable c] {s : State} {fs : List Nat} {r : State} (hs : Keeps K s)
    (h : (if c then s.pinWalk fs else some s) = some r) : Keeps K r := by
  split at h
  · exact State.pinWalk_keeps hs h
  · cases h; exact hs

theorem State.pinResident_keeps {s : State} {fs : List Nat} (hs : Keeps K s) :
    Keeps K (s.pinResident fs).1 := by
  unfold State.pinResident
  refine foldl_pair_keeps ?_ hs
  intro p f hp
  dsimp only
  repeat' first
    | with_reducible assumption
    | with_reducible refine State.uncharge_keeps ?_
    | with_reducible refine State.setPinRsv_keeps ?_
    | with_reducible refine State.rescue_keeps ?_
    | with_reducible refine State.setWay_keeps ?_
    | with_reducible refine ite_keeps ?_ ?_
    | split

theorem State.unpin_keeps {s : State} {fs : List Nat} {tenant : Nat} (hs : Keeps K s) :
    Keeps K (State.unpin s fs tenant) := by
  unfold State.unpin
  repeat' first
    | with_reducible assumption
    | with_reducible refine State.chargeCache_keeps ?_
    | with_reducible refine State.setPinRsv_keeps ?_
    | with_reducible refine State.setWay_keeps ?_
    | with_reducible refine ite_keeps ?_ ?_
    | with_reducible refine foldl_keeps ?_ ?_
    | simp only [keeps_mk, keeps_fold]
    | intro q_ _ h_
    | split

theorem State.discard_keeps {s : State} {fs : List Nat} (hs : Keeps K s) :
    Keeps K (State.discard s fs) := by
  unfold State.discard
  repeat' first
    | with_reducible assumption
    | with_reducible refine State.unbind_keeps ?_
    | with_reducible refine State.runReqs_keeps ?_
    | with_reducible refine State.invalidateWay_keeps ?_
    | with_reducible refine State.refund_keeps ?_
    | with_reducible refine State.dropFill_keeps ?_
    | with_reducible refine ite_keeps ?_ ?_
    | with_reducible refine foldl_keeps ?_ ?_
    | simp only [keeps_mk, keeps_fold]
    | intro q_ _ h_
    | (extract_lets +onlyGivenNames x_; skip)
    | split

theorem State.svcRefuse_keeps {s : State} {t reason : Nat} (hs : Keeps K s) :
    Keeps K (State.svcRefuse s t reason).1 := by
  unfold State.svcRefuse
  repeat' first | with_reducible assumption | with_reducible refine State.refuse_keeps ?_

theorem State.noteAlloc_keeps {s : State} {a f : Nat} (hs : Keeps K s) :
    Keeps K (State.noteAlloc s a f) := by
  unfold State.noteAlloc
  repeat' first | with_reducible assumption | with_reducible refine ite_keeps ?_ ?_ | simp only [keeps_mk, keeps_fold]

theorem State.doObjCreate_keeps {s : State} {t len cls : Nat} {slot : Option Nat} (hs : Keeps K s) :
    Keeps K (State.doObjCreate s t len cls slot).1 := by
  unfold State.doObjCreate
  repeat' first
    | with_reducible assumption
    | with_reducible refine State.noteAlloc_keeps ?_
    | with_reducible refine State.svcRefuse_keeps ?_
    | with_reducible refine State.ownShelf_keeps ?_
    | with_reducible refine State.setObj_keeps ?_
    | with_reducible refine State.metaTouch_keeps ?_
    | with_reducible refine State.setTenant_keeps ?_
    | with_reducible refine State.raise_keeps ?_
    | with_reducible refine ite_pinWalk_keeps ?_ ‹_›
    | with_reducible refine foldl_keeps ?_ ?_
    | dsimp only
    | intro q_ _ h_
    | split

theorem State.doObjDelete_keeps {s : State} {h : Nat} (hs : Keeps K s) :
    Keeps K (State.doObjDelete s h).1 := by
  unfold State.doObjDelete
  repeat' first
    | with_reducible assumption
    | with_reducible refine State.noteAlloc_keeps ?_
    | with_reducible refine State.discard_keeps ?_
    | with_reducible refine State.unpin_keeps ?_
    | with_reducible refine State.freeShelf_keeps ?_
    | with_reducible refine State.setObj_keeps ?_
    | with_reducible refine State.metaTouch_keeps ?_
    | with_reducible refine State.setTenant_keeps ?_
    | with_reducible refine ite_keeps ?_ ?_
    | with_reducible refine foldl_keeps ?_ ?_
    | dsimp only
    | intro q_ _ h_
    | split

theorem State.doObjResize_keeps {s : State} {h len : Nat} (hs : Keeps K s) :
    Keeps K (State.doObjResize s h len).1 := by
  unfold State.doObjResize
  repeat' first
    | with_reducible assumption
    | with_reducible refine State.noteAlloc_keeps ?_
    | with_reducible refine State.discard_keeps ?_
    | with_reducible refine State.unpin_keeps ?_
    | with_reducible refine State.freeShelf_keeps ?_
    | with_reducible refine State.ownShelf_keeps ?_
    | with_reducible refine State.refuse_keeps ?_
    | with_reducible refine State.setObj_keeps ?_
    | with_reducible refine State.metaTouch_keeps ?_
    | with_reducible refine State.setTenant_keeps ?_
    | with_reducible refine State.raise_keeps ?_
    | with_reducible refine ite_pinWalk_keeps ?_ ‹_›
    | with_reducible refine ite_keeps ?_ ?_
    | with_reducible refine foldl_keeps ?_ ?_
    | simp only [keeps_mk, keeps_fold]
    | (intro q_ _ h_; beta_reduce)
    | split

theorem State.placeObj_keeps {s : State} {h cls : Nat} (hs : Keeps K s) :
    Keeps K (State.placeObj s h cls).1 := by
  unfold State.placeObj
  repeat' first
    | with_reducible assumption
    | with_reducible refine State.unpin_keeps ?_
    | with_reducible refine State.pinResident_keeps ?_
    | with_reducible refine State.refuse_keeps ?_
    | with_reducible refine State.setShelf_keeps ?_
    | with_reducible refine State.setObj_keeps ?_
    | with_reducible refine State.metaTouch_keeps ?_
    | with_reducible refine State.setTenant_keeps ?_
    | with_reducible refine State.raise_keeps ?_
    | with_reducible refine State.pinWalk_keeps ?_ ‹_›
    | with_reducible refine foldl_keeps ?_ ?_
    | dsimp only
    | intro q_ _ h_
    | split

theorem State.doObjPlace_keeps {s : State} {h cls : Nat} (hs : Keeps K s) :
    Keeps K (State.doObjPlace s h cls).1 := by
  unfold State.doObjPlace
  repeat' first
    | with_reducible assumption
    | with_reducible refine State.placeObj_keeps ?_
    | with_reducible refine fst_keeps ‹_› ?_
    | split

theorem State.tvLeave_keeps {s : State} {lk : Nat} {h : BitVec 128} (hs : Keeps K s) :
    Keeps K (State.tvLeave s lk h) := by
  unfold State.tvLeave
  repeat' first
    | with_reducible assumption
    | with_reducible refine State.setTvl_keeps ?_
    | dsimp only
    | split

theorem State.arrive_keeps {s : State} (hs : Keeps K s) :
    Keeps K (State.arrive s) := by
  unfold State.arrive
  repeat' first | with_reducible assumption | simp only [keeps_mk, keeps_fold]

theorem State.tvGate_keeps {s : State} {lk : Nat} {h : BitVec 128} {format : Bool} (hs : Keeps K s) :
    Keeps K (State.tvGate s lk h format).st := by
  unfold State.tvGate
  repeat' first
    | with_reducible assumption
    | with_reducible refine State.arrive_keeps ?_
    | with_reducible refine State.tvLeave_keeps ?_
    | with_reducible refine State.answer_keeps ?_
    | with_reducible refine State.bpmAlloc_keeps ?_
    | with_reducible refine State.refuse_keeps ?_
    | with_reducible refine State.bump_keeps ?_
    | with_reducible refine State.deskCharge_keeps ?_ ‹_›
    | with_reducible refine fst_keeps ‹_› ?_
    | simp only [keeps_mk, keeps_fold]
    | simp only [st_no, st_ended, st_go]
    | split

theorem State.tvDeny_keeps {s : State} {src : Src} {reason : Nat} (hs : Keeps K s) :
    Keeps K (State.tvDeny s src reason) := by
  unfold State.tvDeny
  repeat' first
    | with_reducible assumption
    | with_reducible refine State.answer_keeps ?_
    | with_reducible refine State.raise_keeps ?_
    | with_reducible refine State.bump_keeps ?_

theorem State.tvWrite_keeps {s : State} {lk : Nat} {_h : BitVec 128} {i ssn : Nat} {src : Src} {desk : Bool}
    {chk : Except Nat WriteReq} (hs : Keeps K s) :
    Keeps K (State.tvWrite s lk _h i ssn src desk chk) := by
  unfold State.tvWrite
  repeat' first
    | with_reducible assumption
    | with_reducible refine State.tvDeny_keeps ?_
    | with_reducible refine State.pumpAll_keeps ?_
    | with_reducible refine State.mirror__keeps ?_
    | with_reducible refine State.answer_keeps ?_
    | with_reducible refine State.setStream_keeps ?_
    | with_reducible refine State.raise_keeps ?_
    | with_reducible refine State.bump_keeps ?_
    | with_reducible refine ite_keeps ?_ ?_
    | dsimp only
    | (extract_lets +onlyGivenNames x_; skip)
    | split

theorem keep_keeps {s : State} (hs : Keeps K s) : ∃ u, keep s = .next u ∧ Keeps K u := ⟨s, rfl, hs⟩

theorem State.sayRole_keeps {s : State} {lk : Nat} (hs : Keeps K s) :
    Keeps K (State.sayRole s lk) := by
  unfold State.sayRole
  repeat' first
    | with_reducible assumption
    | with_reducible refine State.sendFlit_keeps ?_
    | with_reducible refine State.setTvl_keeps ?_
    | with_reducible refine State.emit_keeps ?_
    | with_reducible refine ite_keeps ?_ ?_

theorem State.sayRoles_keeps {s : State} (hs : Keeps K s) :
    Keeps K (State.sayRoles s) := by
  unfold State.sayRoles
  repeat' first
    | with_reducible assumption
    | with_reducible refine State.sayRole_keeps ?_
    | with_reducible refine ite_keeps ?_ ?_
    | with_reducible refine foldl_keeps ?_ ?_
    | simp only [keeps_mk, keeps_fold]
    | intro q_ _ h_

theorem State.kceCount_keeps {s : State} {r : Nat} (hs : Keeps K s) :
    Keeps K (State.kceCount s r) := by
  unfold State.kceCount
  repeat' first
    | with_reducible assumption
    | with_reducible refine State.raise_keeps ?_
    | with_reducible refine State.bumpFld_keeps ?_
    | with_reducible refine State.bump_keeps ?_
    | with_reducible refine ite_keeps ?_ ?_

theorem State.kceVerify_keeps {s : State} {k : Key} {msg mac : List Byte} (hs : Keeps K s) :
    Keeps K (State.kceVerify s k msg mac).1 := by
  unfold State.kceVerify
  repeat' first | with_reducible assumption | with_reducible refine State.kceCount_keeps ?_

theorem State.openPorts_keeps {s : State} (hs : Keeps K s) :
    Keeps K (State.openPorts s) := by
  unfold State.openPorts
  repeat' first | with_reducible assumption | simp only [keeps_mk, keeps_fold]

theorem State.awaitEnd_keeps {s : State} (hs : Keeps K s) :
    Keeps K (State.awaitEnd s) := by
  unfold State.awaitEnd
  repeat' first
    | with_reducible assumption
    | with_reducible refine State.openPorts_keeps ?_
    | simp only [keeps_mk, keeps_fold]

theorem State.secDenied_keeps {s : State} (hs : Keeps K s) :
    Keeps K (State.secDenied s) := by
  unfold State.secDenied
  repeat' first
    | with_reducible assumption
    | with_reducible refine State.raise_keeps ?_
    | with_reducible refine State.bump_keeps ?_

theorem State.snapshot_keeps {s : State} (hs : Keeps K s) :
    Keeps K (State.snapshot s) := by
  unfold State.snapshot
  repeat' first | with_reducible assumption | with_reducible refine State.note_keeps ?_

theorem State.fatal_keeps {s : State} {cause : Nat} (hs : Keeps K s) :
    Keeps K (State.fatal s cause) := by
  unfold State.fatal
  repeat' first
    | with_reducible assumption
    | with_reducible refine State.snapshot_keeps ?_
    | with_reducible refine ite_keeps ?_ ?_
    | simp only [keeps_mk, keeps_fold]

theorem State.setPwr_keeps {s : State} {st : PwrState} {cause : Nat} (hs : Keeps K s) :
    Keeps K (State.setPwr s st cause) := by
  unfold State.setPwr
  repeat' first
    | with_reducible assumption
    | with_reducible refine State.note_keeps ?_
    | with_reducible refine State.raise_keeps ?_
    | with_reducible refine ite_keeps ?_ ?_
    | simp only [keeps_mk, keeps_fold]

theorem State.releasePins_keeps {s : State} (hs : Keeps K s) :
    Keeps K (State.releasePins s) := by
  unfold State.releasePins
  repeat' first
    | with_reducible assumption
    | with_reducible refine State.emit_keeps ?_
    | with_reducible refine ite_keeps ?_ ?_
    | simp only [keeps_mk, keeps_fold]

theorem State.drivePins_keeps {s : State} (hs : Keeps K s) :
    Keeps K (State.drivePins s) := by
  unfold State.drivePins
  repeat' first | with_reducible assumption | simp only [keeps_mk, keeps_fold]

theorem State.setEthPort_keeps {s : State} {e : Nat} {p : EthPort} (hs : Keeps K s) :
    Keeps K (State.setEthPort s e p) := by
  unfold State.setEthPort
  repeat' first | with_reducible assumption | simp only [keeps_mk, keeps_fold]

theorem State.ethSend_keeps {s : State} {e : Nat} {m : Mark} {x : Emit} (hs : Keeps K s) :
    Keeps K (State.ethSend s e m x) := by
  unfold State.ethSend
  repeat' first
    | with_reducible assumption
    | with_reducible refine State.setEthPort_keeps ?_
    | with_reducible refine State.emit_keeps ?_
    | with_reducible refine State.bumpBy_keeps ?_
    | with_reducible refine ite_keeps ?_ ?_

theorem State.ethDrain_keeps {s : State} {e n : Nat} (hs : Keeps K s) : Keeps K (s.ethDrain e n) := by
  induction n generalizing s with
  | zero => exact hs
  | succ n ih =>
    unfold State.ethDrain
    split
    · exact State.setEthPort_keeps hs
    · extract_lets p
      split
      · exact hs
      · extract_lets sent
        exact ih (State.bumpBy_keeps (State.emit_keeps (State.setEthPort_keeps hs)))

theorem State.ethResume_keeps {s : State} {e : Nat} {prios : List Nat} (hs : Keeps K s) :
    Keeps K (State.ethResume s e prios) := by
  unfold State.ethResume
  repeat' first
    | with_reducible assumption
    | with_reducible refine State.ethDrain_keeps ?_
    | with_reducible refine State.setEthPort_keeps ?_

theorem State.ethDrop_keeps {s : State} {e : Nat} (hs : Keeps K s) :
    Keeps K (State.ethDrop s e) := by
  unfold State.ethDrop
  repeat' first | with_reducible assumption | with_reducible refine State.bump_keeps ?_

theorem State.ethBuffer_keeps {s : State} {e prio len : Nat} (hs : Keeps K s) :
    Keeps K (State.ethBuffer s e prio len).1 := by
  unfold State.ethBuffer
  repeat' first
    | with_reducible assumption
    | with_reducible refine State.ethDrop_keeps ?_
    | with_reducible refine State.bpmAlloc_keeps ?_
    | with_reducible refine State.raise_keeps ?_
    | with_reducible refine State.bump_keeps ?_
    | with_reducible refine ite_keeps ?_ ?_
    | with_reducible refine fst_keeps ‹_› ?_
    | dsimp only
    | split

theorem State.takeFrame_keeps {s : State} {e len : Nat} {dscp : Option Nat} (hs : Keeps K s) :
    Keeps K (State.takeFrame s e len dscp).1 := by
  unfold State.takeFrame
  repeat' first
    | with_reducible assumption
    | with_reducible refine State.ethBuffer_keeps ?_
    | with_reducible refine State.setEthPort_keeps ?_
    | with_reducible refine State.bump_keeps ?_
    | with_reducible refine fst_keeps ‹_› ?_
    | dsimp only
    | split

theorem State.announce_keeps {s : State} (hs : Keeps K s) :
    Keeps K (State.announce s) := by
  unfold State.announce
  repeat' first
    | with_reducible assumption
    | with_reducible refine State.ethSend_keeps ?_
    | with_reducible refine ite_keeps ?_ ?_
    | with_reducible refine foldl_keeps ?_ ?_
    | intro q_ _ h_

theorem State.setQp_keeps {s : State} {q : Nat} {x : Qp} (hs : Keeps K s) :
    Keeps K (State.setQp s q x) := by
  unfold State.setQp
  repeat' first | with_reducible assumption | simp only [keeps_mk, keeps_fold]

theorem State.card_keeps {s : State} {q : Nat} (hs : Keeps K s) :
    Keeps K (State.card s q).1 := by
  unfold State.card
  repeat' first | with_reducible assumption | simp only [keeps_mk, keeps_fold] | split

theorem State.dropReqs_keeps {s : State} {x : Qp} (hs : Keeps K s) :
    Keeps K (State.dropReqs s x) := by
  unfold State.dropReqs
  repeat' first
    | with_reducible assumption
    | with_reducible refine State.bpmReturn_keeps ?_
    | with_reducible refine ite_keeps ?_ ?_
    | with_reducible refine foldl_keeps ?_ ?_
    | intro q_ _ h_

theorem State.freeQp_keeps {s : State} {q : Nat} (hs : Keeps K s) :
    Keeps K (State.freeQp s q) := by
  unfold State.freeQp
  repeat' first
    | with_reducible assumption
    | with_reducible refine State.dropReqs_keeps ?_
    | with_reducible refine State.setQp_keeps ?_
    | simp only [keeps_mk, keeps_fold]

theorem State.async_keeps {s : State} {code port qpn host reason : Nat} {quota : Bool} (hs : Keeps K s) :
    Keeps K (s.async code port qpn host reason quota) := by
  unfold State.async
  split
  · exact hs
  · exact State.raise_keeps (nre_keeps hs)

theorem State.faultEpoch_keeps {s : State} {i cause : Nat} {answers : Bool} (hs : Keeps K s) :
    Keeps K (State.faultEpoch s i cause answers) := by
  unfold State.faultEpoch
  repeat' first
    | with_reducible assumption
    | with_reducible refine State.endEpoch_keeps ?_
    | with_reducible refine State.mirror__keeps ?_
    | with_reducible refine ite_keeps ?_ ?_

theorem State.roceSend_keeps {s : State} {q : Nat} {o : QOut} {op syn : Nat} {payload : List Byte} (hs : Keeps K s) :
    Keeps K (State.roceSend s q o op syn payload) := by
  unfold State.roceSend
  repeat' first
    | with_reducible assumption
    | with_reducible refine State.ethSend_keeps ?_
    | with_reducible refine State.spend_keeps ?_

theorem State.qpError_keeps {s : State} {q : Nat} {o : QOut} {syn reason : Nat} {quota : Bool} (hs : Keeps K s) :
    Keeps K (State.qpError s q o syn reason quota) := by
  unfold State.qpError
  repeat' first
    | with_reducible assumption
    | with_reducible refine State.roceSend_keeps ?_
    | with_reducible refine State.faultEpoch_keeps ?_
    | with_reducible refine State.async_keeps ?_
    | with_reducible refine State.dropReqs_keeps ?_
    | with_reducible refine State.setQp_keeps ?_
    | with_reducible refine State.raise_keeps ?_
    | with_reducible refine State.bump_keeps ?_

theorem State.readPackets_keeps {s : State} {q : Nat} {o : QOut} {size n : Nat} {l : List Byte} {first : Bool}
    (hs : Keeps K s) :
    Keeps K (s.readPackets q o size n l first) := by
  induction n generalizing s o l first with
  | zero => exact hs
  | succ n ih =>
    unfold State.readPackets
    extract_lets last op s1
    split
    · exact State.roceSend_keeps hs
    · exact ih (State.roceSend_keeps hs)

theorem State.qpReply_keeps {s : State} {q : Nat} {o : QOut} {a : Ans} (hs : Keeps K s) :
    Keeps K (State.qpReply s q o a) := by
  unfold State.qpReply
  repeat' first
    | with_reducible assumption
    | with_reducible refine State.readPackets_keeps ?_
    | with_reducible refine State.qpError_keeps ?_
    | with_reducible refine State.roceSend_keeps ?_
    | with_reducible refine State.setQp_keeps ?_
    | dsimp only
    | split

theorem State.qpFlush_keeps {s : State} {q n : Nat} (hs : Keeps K s) :
    Keeps K (s.qpFlush q n) := by
  induction n generalizing s with
  | zero => exact hs
  | succ n ih =>
    unfold State.qpFlush
    dsimp only
    split
    · exact hs
    · split
      · exact hs
      · refine ih ?_
        split
        · exact State.qpReply_keeps (State.setQp_keeps hs)
        · exact State.bpmReturn_keeps (State.qpReply_keeps (State.setQp_keeps hs))

theorem State.qpAnswered_keeps {s : State} {q id : Nat} {a : Ans} (hs : Keeps K s) :
    Keeps K (State.qpAnswered s q id a) := by
  unfold State.qpAnswered
  repeat' first
    | with_reducible assumption
    | with_reducible refine State.qpFlush_keeps ?_
    | with_reducible refine State.setQp_keeps ?_
    | with_reducible refine ite_keeps ?_ ?_

theorem State.qpPush_keeps {s : State} {q : Nat} {o : QOut} (hs : Keeps K s) :
    Keeps K (State.qpPush s q o).1 := by
  unfold State.qpPush
  repeat' first | with_reducible assumption | with_reducible refine State.setQp_keeps ?_

theorem State.winDeny_keeps {s : State} (hs : Keeps K s) :
    Keeps K (State.winDeny s) := by
  unfold State.winDeny
  repeat' first
    | with_reducible assumption
    | with_reducible refine State.raise_keeps ?_
    | with_reducible refine State.bump_keeps ?_

theorem State.setSched_keeps {s : State} {n : Nat} {x : Sched} (hs : Keeps K s) :
    Keeps K (State.setSched s n x) := by
  unfold State.setSched
  repeat' first
    | with_reducible assumption
    | with_reducible refine State.metaTouch_keeps ?_
    | simp only [keeps_mk, keeps_fold]

theorem State.setCs_keeps {s : State} {i : Nat} {x : CirStream} (hs : Keeps K s) :
    Keeps K (State.setCs s i x) := by
  unfold State.setCs
  repeat' first | with_reducible assumption | simp only [keeps_mk, keeps_fold]

theorem State.doSchedLoad_keeps {s : State} {n tenant index : Nat} {first last : Bool} {es : List (Nat × Nat × Nat)}
    (hs : Keeps K s) :
    Keeps K (State.doSchedLoad s n tenant index first last es).1 := by
  unfold State.doSchedLoad
  repeat' first
    | with_reducible assumption
    | with_reducible refine State.setSched_keeps ?_
    | with_reducible refine State.refuse_keeps ?_
    | with_reducible refine State.setTenant_keeps ?_
    | with_reducible refine ite_keeps ?_ ?_
    | simp only [keeps_mk, keeps_fold]
    | split

theorem State.doSchedUnload_keeps {s : State} {n : Nat} (hs : Keeps K s) :
    Keeps K (State.doSchedUnload s n).1 := by
  unfold State.doSchedUnload
  repeat' first
    | with_reducible assumption
    | with_reducible refine State.setSched_keeps ?_
    | with_reducible refine State.setTenant_keeps ?_
    | dsimp only
    | split

theorem State.doStreamSet_keeps {s : State} {i : Nat} {w : List Nat} (hs : Keeps K s) :
    Keeps K (State.doStreamSet s i w).1 := by
  unfold State.doStreamSet
  repeat' first
    | with_reducible assumption
    | with_reducible refine State.setCs_keeps ?_
    | with_reducible refine State.metaTouch_keeps ?_
    | dsimp only
    | split

theorem State.doStreamRetarget_keeps {s : State} {i n : Nat} (hs : Keeps K s) :
    Keeps K (State.doStreamRetarget s i n).1 := by
  unfold State.doStreamRetarget
  repeat' first
    | with_reducible assumption
    | with_reducible refine State.setCs_keeps ?_
    | with_reducible refine State.metaTouch_keeps ?_
    | dsimp only
    | split

theorem State.doStreamStart_keeps {s : State} {i : Nat} (hs : Keeps K s) :
    Keeps K (State.doStreamStart s i).1 := by
  unfold State.doStreamStart
  repeat' first
    | with_reducible assumption
    | with_reducible refine State.setCs_keeps ?_
    | with_reducible refine State.metaTouch_keeps ?_
    | dsimp only
    | split

theorem State.cirPut_keeps {s : State} {i pkts : Nat} {what : CirWhat} {mk : Nat → Emit} (hs : Keeps K s) :
    Keeps K (State.cirPut s i pkts what mk) := by
  unfold State.cirPut
  repeat' first
    | with_reducible assumption
    | with_reducible refine State.setCs_keeps ?_
    | with_reducible refine State.ethSend_keeps ?_
    | with_reducible refine State.spend_keeps ?_
    | with_reducible refine ite_keeps ?_ ?_

theorem State.cirResend_keeps {s : State} {i psn : Nat} (hs : Keeps K s) :
    Keeps K (State.cirResend s i psn) := by
  unfold State.cirResend
  repeat' first
    | with_reducible assumption
    | with_reducible refine State.ethSend_keeps ?_
    | with_reducible refine foldl_keeps ?_ ?_
    | intro q_ _ h_

theorem State.cirProduced_keeps {s : State} {i : Nat} (hs : Keeps K s) :
    Keeps K (State.cirProduced s i) := by
  unfold State.cirProduced
  repeat' first
    | with_reducible assumption
    | with_reducible refine State.cirPut_keeps ?_
    | with_reducible refine State.setCs_keeps ?_
    | with_reducible refine ite_keeps ?_ ?_

theorem State.cirDrain_keeps {s : State} {i : Nat} (hs : Keeps K s) :
    Keeps K (State.cirDrain s i) := by
  unfold State.cirDrain
  repeat' first
    | with_reducible assumption
    | with_reducible refine State.cirProduced_keeps ?_
    | with_reducible refine State.cirPut_keeps ?_
    | with_reducible refine State.setCs_keeps ?_
    | with_reducible refine State.note_keeps ?_
    | with_reducible refine State.raise_keeps ?_
    | with_reducible refine State.bump_keeps ?_
    | with_reducible refine ite_keeps ?_ ?_
    | dsimp only
    | split

theorem State.promoteTile_keeps {s : State} {tile : Nat} (hs : Keeps K s) :
    Keeps K (State.promoteTile s tile) := by
  unfold State.promoteTile
  repeat' first
    | with_reducible assumption
    | with_reducible refine State.startFill_keeps ?_
    | with_reducible refine State.lookup_keeps ?_
    | with_reducible refine State.putFill_keeps ?_
    | with_reducible refine ite_keeps ?_ ?_
    | with_reducible refine foldl_keeps ?_ ?_
    | dsimp only
    | intro q_ _ h_
    | (extract_lets +onlyGivenNames x_; skip)
    | split

theorem State.cirAhead_keeps {s : State} {i n : Nat} (hs : Keeps K s) :
    Keeps K (s.cirAhead i n) := by
  induction n generalizing s with
  | zero => exact hs
  | succ n ih =>
    unfold State.cirAhead
    extract_lets x es s1
    split
    · exact hs
    · refine ih (State.setCs_keeps ?_)
      exact elim_keeps hs (fun _ => State.promoteTile_keeps hs)

theorem State.cirFolio_keeps {s : State} {i n k folio owner : Nat} (hs : Keeps K s) :
    Keeps K (State.cirFolio s i n k folio owner) := by
  unfold State.cirFolio
  repeat' first
    | with_reducible assumption
    | with_reducible refine State.runLoad_keeps ?_
    | with_reducible refine State.park_keeps ?_
    | with_reducible refine State.sendRead_keeps ?_
    | with_reducible refine State.putFill_keeps ?_
    | with_reducible refine State.raise_keeps ?_
    | with_reducible refine State.bump_keeps ?_
    | with_reducible refine ite_keeps ?_ ?_
    | simp only [keeps_mk, keeps_fold]
    | split

theorem State.cirEnd_keeps {s : State} {i n status entry : Nat} (hs : Keeps K s) :
    Keeps K (State.cirEnd s i n status entry) := by
  unfold State.cirEnd
  repeat' first
    | with_reducible assumption
    | with_reducible refine State.setCs_keeps ?_
    | with_reducible refine ite_keeps ?_ ?_

theorem State.cirFetch_keeps {s : State} {i n : Nat} (hs : Keeps K s) :
    Keeps K (s.cirFetch i n) := by
  induction n generalizing s with
  | zero => exact hs
  | succ n ih =>
    unfold State.cirFetch
    extract_lets x es e bad wait
    split
    · exact hs
    · split
      · exact State.cirEnd_keeps hs
      · have hw : ∀ q, Keeps K q → Keeps K (wait q) := fun q hs => State.setCs_keeps hs
        clear_value wait
        split
        · exact State.cirEnd_keeps hs
        · split
          · have h1 := fst_keeps ‹_› (State.bpmAlloc_keeps hs)
            split
            · extract_lets src2 s2
              have h2 : Keeps K s2 := bpm_keeps h1
              clear_value s2
              refine hw _ ?_
              split
              · exact h2
              · exact State.refuse_keeps h2
            · have h2 := State.deskCharge_keeps h1 ‹_›
              extract_lets o tile t s3 s4
              refine ih (foldl_keeps (fun _ _ hs => State.cirFolio_keeps hs) ?_)
              exact State.setCs_keeps h2
          · split
            · exact hw _ hs
            · exact hw _ (State.bump_keeps (fst_keeps ‹_› (State.bpmAlloc_keeps hs)))

theorem State.cirRun_keeps {s : State} {i : Nat} (hs : Keeps K s) :
    Keeps K (State.cirRun s i) := by
  unfold State.cirRun
  repeat' first
    | with_reducible assumption
    | with_reducible refine State.cirFetch_keeps ?_
    | with_reducible refine State.cirAhead_keeps ?_
    | with_reducible refine State.cirDrain_keeps ?_

theorem State.cirPart_keeps {s : State} {i k : Nat} {a : Ans} (hs : Keeps K s) :
    Keeps K (State.cirPart s i k a) := by
  unfold State.cirPart
  repeat' first
    | with_reducible assumption
    | with_reducible refine State.cirEnd_keeps ?_
    | with_reducible refine State.cirDrain_keeps ?_
    | with_reducible refine State.setCs_keeps ?_
    | dsimp only
    | split

theorem State.cirGive_keeps {s : State} {i : Nat} {l : List CirTile} (hs : Keeps K s) :
    Keeps K (State.cirGive s i l) := by
  unfold State.cirGive
  repeat' first
    | with_reducible assumption
    | with_reducible refine State.bpmReturn_keeps ?_
    | with_reducible refine foldl_keeps ?_ ?_
    | intro q_ _ h_

theorem State.cirStart_keeps {s : State} {i : Nat} {restarted : Bool} (hs : Keeps K s) :
    Keeps K (State.cirStart s i restarted) := by
  unfold State.cirStart
  repeat' first
    | with_reducible assumption
    | with_reducible refine State.cirRun_keeps ?_
    | with_reducible refine State.setCs_keeps ?_

theorem State.cirLose_keeps {s : State} {i : Nat} (hs : Keeps K s) :
    Keeps K (State.cirLose s i) := by
  unfold State.cirLose
  repeat' first
    | with_reducible assumption
    | with_reducible refine State.cirGive_keeps ?_
    | with_reducible refine State.setCs_keeps ?_
    | with_reducible refine State.freeQp_keeps ?_
    | with_reducible refine State.bump_keeps ?_
    | with_reducible refine ite_keeps ?_ ?_

theorem State.cirError_keeps {s : State} {i : Nat} (hs : Keeps K s) :
    Keeps K (State.cirError s i) := by
  unfold State.cirError
  repeat' first
    | with_reducible assumption
    | with_reducible refine State.cirLose_keeps ?_
    | with_reducible refine State.setCs_keeps ?_
    | with_reducible refine State.freeQp_keeps ?_
    | with_reducible refine State.raise_keeps ?_
    | with_reducible refine ite_keeps ?_ ?_

theorem State.cirRearmAll_keeps {s : State} (hs : Keeps K s) :
    Keeps K s.cirRearmAll.1 := by
  unfold State.cirRearmAll
  refine foldl_pair_keeps ?_ hs
  intro p e hs
  beta_reduce
  split
  · exact hs
  · exact State.cirLose_keeps hs

theorem State.doStreamStop_keeps {s : State} {i : Nat} (hs : Keeps K s) :
    Keeps K (State.doStreamStop s i).1 := by
  unfold State.doStreamStop
  repeat' first
    | with_reducible assumption
    | with_reducible refine State.cirEnd_keeps ?_
    | with_reducible refine State.cirDrain_keeps ?_
    | with_reducible refine State.setCs_keeps ?_
    | dsimp only
    | split

theorem State.cirAck_keeps {s : State} {i n psn : Nat} (hs : Keeps K s) :
    Keeps K (s.cirAck i n psn) := by
  induction n generalizing s with
  | zero => exact hs
  | succ n ih =>
    unfold State.cirAck
    extract_lets x
    split
    · exact hs
    · extract_lets covered s1 s2
      split
      · exact hs
      · refine ih ?_
        have h1 : Keeps K s1 := State.setCs_keeps hs
        clear_value s1
        simp only [s2]
        split
        · exact State.setCs_keeps (State.cirGive_keeps (State.bump_keeps h1))
        · exact h1

theorem State.cirAfter_keeps {s : State} {i : Nat} (hs : Keeps K s) :
    Keeps K (State.cirAfter s i) := by
  unfold State.cirAfter
  repeat' first
    | with_reducible assumption
    | with_reducible refine State.cirRun_keeps ?_
    | with_reducible refine State.cirDrain_keeps ?_
    | with_reducible refine State.cirProduced_keeps ?_

theorem State.cirComplete_keeps {s : State} {i : Nat} (hs : Keeps K s) :
    Keeps K (State.cirComplete s i) := by
  unfold State.cirComplete
  repeat' first
    | with_reducible assumption
    | with_reducible refine State.cirStart_keeps ?_
    | with_reducible refine State.cirGive_keeps ?_
    | with_reducible refine State.setCs_keeps ?_
    | with_reducible refine State.raise_keeps ?_
    | with_reducible refine State.bump_keeps ?_
    | with_reducible refine ite_keeps ?_ ?_

theorem State.doNetHostSet_keeps {s : State} {n addr : Nat} {valid : Bool} (hs : Keeps K s) :
    Keeps K (State.doNetHostSet s n addr valid).1 := by
  unfold State.doNetHostSet
  repeat' first | with_reducible assumption | simp only [keeps_mk, keeps_fold] | split

theorem State.doStreamAbort_keeps {s : State} {i : Nat} (hs : Keeps K s) :
    Keeps K (State.doStreamAbort s i).1 := by
  unfold State.doStreamAbort
  repeat' first | with_reducible assumption | with_reducible refine State.endEpoch_keeps ?_ | split

theorem State.doReportRelease_keeps {s : State} {i : Nat} (hs : Keeps K s) :
    Keeps K (State.doReportRelease s i).1 := by
  unfold State.doReportRelease
  repeat' first | with_reducible assumption | with_reducible refine State.releaseReport_keeps ?_ | split

theorem State.doFolioMaint_keeps {s : State} {h off len mop : Nat} {src : Src} (hs : Keeps K s) :
    Keeps K (State.doFolioMaint s h off len mop src).1 := by
  unfold State.doFolioMaint
  repeat' first
    | with_reducible assumption
    | with_reducible refine State.maintAsk_keeps ?_
    | with_reducible refine State.openGrp_keeps ?_
    | dsimp only
    | split

theorem State.runSvc_keeps {s : State} {v : Svc} {src : Src} (hs : Keeps K s) :
    Keeps K (State.runSvc s v src).1 := by
  unfold State.runSvc
  repeat' first
    | with_reducible assumption
    | with_reducible refine State.doFolioMaint_keeps ?_
    | with_reducible refine State.doReportRelease_keeps ?_
    | with_reducible refine State.doStreamAbort_keeps ?_
    | with_reducible refine State.doNetHostSet_keeps ?_
    | with_reducible refine State.doStreamStop_keeps ?_
    | with_reducible refine State.doStreamStart_keeps ?_
    | with_reducible refine State.doStreamRetarget_keeps ?_
    | with_reducible refine State.doStreamSet_keeps ?_
    | with_reducible refine State.doSchedUnload_keeps ?_
    | with_reducible refine State.doSchedLoad_keeps ?_
    | with_reducible refine State.doObjPlace_keeps ?_
    | with_reducible refine State.placeObj_keeps ?_
    | with_reducible refine State.doObjResize_keeps ?_
    | with_reducible refine State.doObjDelete_keeps ?_
    | with_reducible refine State.doObjCreate_keeps ?_
    | with_reducible refine State.doWindowClear_keeps ?_
    | with_reducible refine State.doWindowSet_keeps ?_
    | with_reducible refine State.doGrantClear_keeps ?_
    | with_reducible refine State.doGrantSet_keeps ?_
    | with_reducible refine State.doPortBind_keeps ?_
    | with_reducible refine State.openMap_keeps ?_
    | with_reducible refine State.closeMap_keeps ?_
    | with_reducible refine State.doTenantSet_keeps ?_
    | dsimp only
    | split

theorem State.setSlot_keeps {s : State} {n : Nat} {x : MbSlot} (hs : Keeps K s) :
    Keeps K (State.setSlot s n x) := by
  unfold State.setSlot
  repeat' first | with_reducible assumption | simp only [keeps_mk, keeps_fold]

theorem State.doSvc_keeps {s : State} {v : Svc} {slot : Nat} (hs : Keeps K s) :
    Keeps K (State.doSvc s v slot).1 := by
  unfold State.doSvc
  repeat' first
    | with_reducible assumption
    | with_reducible refine State.runSvc_keeps ?_
    | with_reducible refine State.mirror__keeps ?_
    | with_reducible refine ite_keeps ?_ ?_
    | with_reducible refine fst_keeps ‹_› ?_
    | simp only [keeps_mk, keeps_fold]
    | split

theorem State.svcOut_keeps {s : State} {slot : Nat} {r : SvcRes} (hs : Keeps K s) :
    Keeps K (State.svcOut s slot r) := by
  unfold State.svcOut
  repeat' first
    | with_reducible assumption
    | with_reducible refine State.setSlot_keeps ?_
    | with_reducible refine ite_keeps ?_ ?_

theorem State.svcEnd_keeps {s : State} {slot code : Nat} {ws : List Nat} (hs : Keeps K s) :
    Keeps K (State.svcEnd s slot code ws) := by
  unfold State.svcEnd
  repeat' first
    | with_reducible assumption
    | with_reducible refine State.svcOut_keeps ?_
    | with_reducible refine State.mirror__keeps ?_
    | with_reducible refine ite_keeps ?_ ?_

theorem State.runAllocWaits_keeps {s : State} (hs : Keeps K s) :
    Keeps K (State.runAllocWaits s) := by
  unfold State.runAllocWaits
  repeat' first
    | with_reducible assumption
    | with_reducible refine State.svcOut_keeps ?_
    | with_reducible refine State.doSvc_keeps ?_
    | with_reducible refine foldl_keeps ?_ ?_
    | with_reducible refine fst_keeps ‹_› ?_
    | simp only [keeps_mk, keeps_fold]
    | intro q_ _ h_
    | split

theorem State.setRole_keeps {s : State} {r : Role} (hs : Keeps K s) :
    Keeps K (State.setRole s r) := by
  unfold State.setRole
  repeat' first | with_reducible assumption | simp only [keeps_mk, keeps_fold]

theorem State.hello_keeps {s : State} (hs : Keeps K s) :
    Keeps K (State.hello s) := by
  unfold State.hello
  repeat' first
    | with_reducible assumption
    | with_reducible refine State.twinOut_keeps ?_
    | with_reducible refine ite_keeps ?_ ?_
    | with_reducible refine foldl_keeps ?_ ?_
    | intro q_ _ h_

theorem State.handoverOff_keeps {s : State} (hs : Keeps K s) :
    Keeps K (State.handoverOff s) := by
  unfold State.handoverOff
  repeat' first
    | with_reducible assumption
    | with_reducible refine State.svcOut_keeps ?_
    | simp only [keeps_mk, keeps_fold]
    | split

theorem State.standbyLost_keeps {s : State} (hs : Keeps K s) :
    Keeps K (State.standbyLost s) := by
  unfold State.standbyLost
  repeat' first
    | with_reducible assumption
    | with_reducible refine State.handoverOff_keeps ?_
    | with_reducible refine State.runAllocWaits_keeps ?_
    | with_reducible refine State.releaseAll_keeps ?_
    | with_reducible refine State.mark_keeps ?_
    | with_reducible refine ite_keeps ?_ ?_
    | with_reducible refine foldl_keeps ?_ ?_
    | simp only [keeps_mk, keeps_fold]
    | intro q_ _ h_

theorem State.fenceOut_keeps {s : State} {reason : Nat} (hs : Keeps K s) :
    Keeps K (State.fenceOut s reason) := by
  unfold State.fenceOut
  repeat' first
    | with_reducible assumption
    | with_reducible refine State.standbyLost_keeps ?_
    | with_reducible refine State.twinOut_keeps ?_
    | with_reducible refine State.note_keeps ?_
    | with_reducible refine State.raise_keeps ?_
    | simp only [keeps_mk, keeps_fold]

theorem State.freeOwners_keeps {s : State} {p : Nat → Bool} (hs : Keeps K s) :
    Keeps K (State.freeOwners s p) := by
  unfold State.freeOwners
  repeat' first
    | with_reducible assumption
    | with_reducible refine State.deskRelease_keeps ?_
    | with_reducible refine ite_keeps ?_ ?_
    | with_reducible refine foldl_keeps ?_ ?_
    | simp only [keeps_mk, keeps_fold]
    | intro q_ _ h_

theorem State.dropClients_keeps {s : State} (hs : Keeps K s) :
    Keeps K (State.dropClients s) := by
  unfold State.dropClients
  repeat' first
    | with_reducible assumption
    | with_reducible refine State.freeOwners_keeps ?_
    | with_reducible refine State.mapStreams_keeps ?_
    | simp only [keeps_mk, keeps_fold]

theorem State.giveUp_keeps {s : State} {r : Role} {reason : Nat} (hs : Keeps K s) :
    Keeps K (State.giveUp s r reason) := by
  unfold State.giveUp
  repeat' first
    | with_reducible assumption
    | with_reducible refine State.cirRearmAll_keeps ?_
    | with_reducible refine State.sayRoles_keeps ?_
    | with_reducible refine State.note_keeps ?_
    | with_reducible refine State.raise_keeps ?_
    | simp only [keeps_mk, keeps_fold]

theorem State.demote_keeps {s : State} {r : Role} (hs : Keeps K s) :
    Keeps K (State.demote s r) := by
  unfold State.demote
  repeat' first
    | with_reducible assumption
    | with_reducible refine State.giveUp_keeps ?_
    | with_reducible refine State.dropClients_keeps ?_
    | with_reducible refine State.handoverOff_keeps ?_
    | with_reducible refine State.setRole_keeps ?_
    | with_reducible refine ite_keeps ?_ ?_

theorem State.witnessMail_keeps {s : State} {w : WReq} (hs : Keeps K s) :
    Keeps K (State.witnessMail s w) := by
  unfold State.witnessMail
  repeat' first
    | with_reducible assumption
    | with_reducible refine State.kceCount_keeps ?_
    | with_reducible refine State.emit_keeps ?_
    | with_reducible refine ite_keeps ?_ ?_
    | simp only [keeps_mk, keeps_fold]

theorem State.witnessAsk_keeps {s : State} {type : Nat} (hs : Keeps K s) :
    Keeps K (State.witnessAsk s type) := by
  unfold State.witnessAsk
  repeat' first | with_reducible assumption | with_reducible refine State.witnessMail_keeps ?_

theorem State.flushRoce_keeps {s : State} (hs : Keeps K s) :
    Keeps K s.flushRoce.1 := by
  unfold State.flushRoce
  refine foldl_pair_keeps ?_ hs
  intro p e hs
  extract_lets r s1
  split
  · exact hs
  · split
    · exact State.faultEpoch_keeps hs
    · exact State.faultEpoch_keeps hs

theorem State.gainNow_keeps {s : State} {gen cause : Nat} (hs : Keeps K s) :
    Keeps K (s.gainNow gen cause) := by
  unfold State.gainNow
  extract_lets +onlyGivenNames src0 s0
  have h0 : Keeps K s0 := by simp only [s0, keeps_mk, keeps_fold]; exact hs
  clear_value s0
  extract_lets +onlyGivenNames s1
  have h1 : Keeps K s1 := foldl_keeps (fun _ _ hs => State.commitClose_keeps hs) (State.metaTouch_keeps h0)
  clear_value s1
  split
  have h2 := fst_keeps ‹_› (State.flushRoce_keeps h1)
  extract_lets +onlyGivenNames src3 s3
  have h3 : Keeps K s3 := by simp only [s3, keeps_mk, keeps_fold]; exact h2
  clear_value s3
  split
  have h4 := fst_keeps ‹_› (State.cirRearmAll_keeps h3)
  extract_lets +onlyGivenNames s5
  have h5 : Keeps K s5 := State.note_keeps (State.note_keeps (State.async_keeps h4))
  clear_value s5
  extract_lets +onlyGivenNames s6
  have h6 : Keeps K s6 := State.note_keeps (State.bump_keeps (State.raise_keeps h5))
  clear_value s6
  extract_lets +onlyGivenNames s6r
  have h6r : Keeps K s6r := State.sayRoles_keeps h6
  clear_value s6r
  extract_lets +onlyGivenNames src7 s7
  have h7 : Keeps K s7 := State.announce_keeps (by simp only [keeps_mk, keeps_fold]; exact h6r)
  clear_value s7
  refine State.hello_keeps ?_
  split
  · simp only [keeps_mk, keeps_fold]
    exact State.svcOut_keeps h7
  · exact h7

theorem State.sbFault_keeps {s : State} {cause : Nat} (hs : Keeps K s) :
    Keeps K (State.sbFault s cause) := by
  unfold State.sbFault
  repeat' first | with_reducible assumption | with_reducible refine State.twinOut_keeps ?_

theorem State.tellFault_keeps {s : State} {cause : Nat} (hs : Keeps K s) :
    Keeps K (State.tellFault s cause) := by
  unfold State.tellFault
  repeat' first
    | with_reducible assumption
    | with_reducible refine State.sbFault_keeps ?_
    | with_reducible refine ite_keeps ?_ ?_

theorem State.sbCommit_keeps {s : State} {i : Nat} (hs : Keeps K s) :
    Keeps K (State.sbCommit s i) := by
  unfold State.sbCommit
  repeat' first | with_reducible assumption | with_reducible refine State.commitClose_keeps ?_ | split

theorem State.sbWrite_keeps {s : State} {m i line ssn : Nat} {op : WOp} {kind : Option Nat} (hs : Keeps K s) :
    Keeps K (State.sbWrite s m i line ssn op kind).st := by
  unfold State.sbWrite
  repeat' first
    | with_reducible assumption
    | with_reducible refine State.sbCommit_keeps ?_
    | with_reducible refine State.pumpAll_keeps ?_
    | with_reducible refine State.setStream_keeps ?_
    | dsimp only
    | simp only [st_busy]

theorem State.sbEpoch_keeps {s : State} {m i eop cause : Nat} {mode fin setMode : Bool} {epoch : Nat}
    (hs : Keeps K s) :
    Keeps K (State.sbEpoch s m i eop cause mode fin setMode epoch) := by
  unfold State.sbEpoch
  repeat' first
    | with_reducible assumption
    | with_reducible refine State.sbCommit_keeps ?_
    | with_reducible refine State.releaseReport_keeps ?_
    | with_reducible refine State.buildReport_keeps ?_
    | with_reducible refine State.endEpoch_keeps ?_
    | with_reducible refine State.openEpoch_keeps ?_
    | with_reducible refine State.twinOut_keeps ?_
    | with_reducible refine State.setStream_keeps ?_
    | with_reducible refine State.tickFree_keeps ?_
    | with_reducible refine ite_keeps ?_ ?_
    | dsimp only
    | split

theorem State.sbFill_keeps {s0 : State} {f : Nat} (hs : Keeps K s0) :
    Keeps K (State.sbFill s0 f) := by
  unfold State.sbFill
  repeat' first
    | with_reducible assumption
    | with_reducible refine State.startFill_keeps ?_
    | with_reducible refine State.lookup_keeps ?_
    | with_reducible refine State.putFill_keeps ?_
    | with_reducible refine State.setWay_keeps ?_
    | with_reducible refine ite_keeps ?_ ?_
    | dsimp only
    | (extract_lets +onlyGivenNames x_; skip)
    | split

theorem State.sbLine_keeps {s0 : State} {line : Nat} {tag : Tag} {data : Line} (hs : Keeps K s0) :
    Keeps K (State.sbLine s0 line tag data).st := by
  unfold State.sbLine
  repeat' first
    | with_reducible assumption
    | with_reducible refine State.startFill_keeps ?_
    | with_reducible refine State.rescue_keeps ?_
    | with_reducible refine State.lookup_keeps ?_
    | with_reducible refine State.setWay_keeps ?_
    | with_reducible refine State.putLine_keeps ?_
    | with_reducible refine State.spend_keeps ?_
    | dsimp only
    | simp only [st_applied, st_rxWait]
    | split

theorem State.sbTrim_keeps {s : State} {tile : Nat} (hs : Keeps K s) :
    Keeps K (State.sbTrim s tile) := by
  unfold State.sbTrim
  repeat' first
    | with_reducible assumption
    | with_reducible refine State.discard_keeps ?_
    | with_reducible refine State.stkSend_keeps ?_
    | dsimp only
    | split

theorem State.sbState_keeps {s : State} {it : RsItem} (hs : Keeps K s) :
    Keeps K (State.sbState s it) := by
  unfold State.sbState
  repeat' first
    | with_reducible assumption
    | with_reducible refine State.sbFault_keeps ?_
    | with_reducible refine State.setCs_keeps ?_
    | with_reducible refine State.freeShelf_keeps ?_
    | with_reducible refine State.ownShelf_keeps ?_
    | with_reducible refine State.holdSegs_keeps ?_
    | with_reducible refine State.freeSegs_keeps ?_
    | with_reducible refine State.setStream_keeps ?_
    | with_reducible refine State.setShelf_keeps ?_
    | with_reducible refine State.setWindow_keeps ?_
    | with_reducible refine ite_keeps ?_ ?_
    | simp only [keeps_mk, keeps_fold]
    | split

theorem State.applyFrame_keeps {s : State} {m : Nat} {f : MFrame} (hs : Keeps K s) :
    Keeps K (State.applyFrame s m f).st := by
  unfold State.applyFrame
  repeat' first
    | with_reducible assumption
    | with_reducible refine State.sbState_keeps ?_
    | with_reducible refine State.sbTrim_keeps ?_
    | with_reducible refine State.sbLine_keeps ?_
    | with_reducible refine State.sbFill_keeps ?_
    | with_reducible refine State.sbEpoch_keeps ?_
    | with_reducible refine State.sbWrite_keeps ?_
    | with_reducible refine State.sbFault_keeps ?_
    | with_reducible refine State.runSvc_keeps ?_
    | with_reducible refine State.awaitEnd_keeps ?_
    | with_reducible refine State.setStream_keeps ?_
    | with_reducible refine State.raise_keeps ?_
    | with_reducible refine ite_keeps ?_ ?_
    | with_reducible refine fst_keeps ‹_› ?_
    | simp only [keeps_mk, keeps_fold]
    | simp only [st_applied, st_busy]
    | split

theorem State.rxNext_keeps {s : State} (hs : Keeps K s) :
    Keeps K (State.rxNext s) := by
  unfold State.rxNext
  repeat' first
    | with_reducible assumption
    | with_reducible refine State.bump_keeps ?_
    | simp only [keeps_mk, keeps_fold]

theorem State.rxAnswered_keeps {s r : State} (hs : Keeps K s) (h : s.rxAnswered = some r) : Keeps K r := by
  unfold State.rxAnswered at h
  split at h
  · cases h
  · extract_lets s1 at h
    cases h
    have h1 : Keeps K s1 := by simp only [s1, keeps_mk, keeps_fold]; exact hs
    clear_value s1
    split
    · split
      · exact h1
      · exact State.sbFault_keeps h1
    · exact h1

theorem State.rxRun_keeps {s : State} {n : Nat} (hs : Keeps K s) :
    Keeps K (s.rxRun n) := by
  induction n generalizing s with
  | zero => exact hs
  | succ n ih =>
    unfold State.rxRun
    split
    · split
      · exact hs
      · exact ih (State.rxNext_keeps (State.rxAnswered_keeps hs ‹_›))
    · split
      · exact hs
      · split
        · exact hs
        · split
          · exact ih (State.rxNext_keeps (applied_keeps ‹_› (State.applyFrame_keeps hs)))
          · exact rxWait_keeps ‹_› (State.applyFrame_keeps hs)
          · refine ih ?_
            simp only [keeps_mk, keeps_fold]
            exact busy_keeps ‹_› (State.applyFrame_keeps hs)

theorem State.dropCheck_keeps {s : State} (hs : Keeps K s) :
    Keeps K (State.dropCheck s) := by
  unfold State.dropCheck
  repeat' first
    | with_reducible assumption
    | with_reducible refine ite_keeps ?_ ?_
    | simp only [keeps_mk, keeps_fold]
    | split

theorem State.rxPump_keeps {s : State} (hs : Keeps K s) :
    Keeps K (State.rxPump s) := by
  unfold State.rxPump
  repeat' first
    | with_reducible assumption
    | with_reducible refine State.dropCheck_keeps ?_
    | with_reducible refine State.rxRun_keeps ?_
    | with_reducible refine State.gainNow_keeps ?_
    | with_reducible refine State.twinOut_keeps ?_
    | with_reducible refine ite_keeps ?_ ?_
    | dsimp only
    | split

theorem State.gain_keeps {s : State} {gen cause : Nat} (hs : Keeps K s) :
    Keeps K (State.gain s gen cause) := by
  unfold State.gain
  repeat' first
    | with_reducible assumption
    | with_reducible refine State.rxPump_keeps ?_
    | simp only [keeps_mk, keeps_fold]

theorem State.detach_keeps {s : State} (hs : Keeps K s) :
    Keeps K (State.detach s) := by
  unfold State.detach
  repeat' first | with_reducible assumption | simp only [keeps_mk, keeps_fold]

theorem State.fenced_keeps {s : State} (hs : Keeps K s) :
    Keeps K (State.fenced s) := by
  unfold State.fenced
  repeat' first
    | with_reducible assumption
    | with_reducible refine State.demote_keeps ?_
    | simp only [keeps_mk, keeps_fold]

theorem State.handoverRun_keeps {s : State} (hs : Keeps K s) :
    Keeps K (State.handoverRun s) := by
  unfold State.handoverRun
  repeat' first
    | with_reducible assumption
    | with_reducible refine State.witnessAsk_keeps ?_
    | with_reducible refine State.giveUp_keeps ?_
    | with_reducible refine State.svcOut_keeps ?_
    | with_reducible refine State.twinOut_keeps ?_
    | with_reducible refine ite_keeps ?_ ?_
    | dsimp only
    | (extract_lets +onlyGivenNames x_; skip)
    | split

theorem State.handoverStart_keeps {s : State} {reason : Nat} {slot : Option Nat} (hs : Keeps K s) :
    Keeps K (State.handoverStart s reason slot) := by
  unfold State.handoverStart
  repeat' first | with_reducible assumption | simp only [keeps_mk, keeps_fold]

theorem State.sendTables_keeps {s : State} (hs : Keeps K s) :
    Keeps K (State.sendTables s) := by
  unfold State.sendTables
  repeat' first
    | with_reducible assumption
    | with_reducible refine State.mirror__keeps ?_
    | with_reducible refine foldl_keeps ?_ ?_
    | dsimp only
    | intro q_ _ h_

theorem State.acceptJoin_keeps {s : State} {gen : Nat} {stateOk : Bool} (hs : Keeps K s) :
    Keeps K (State.acceptJoin s gen stateOk) := by
  unfold State.acceptJoin
  repeat' first
    | with_reducible assumption
    | with_reducible refine State.sendTables_keeps ?_
    | with_reducible refine State.twinOut_keeps ?_
    | simp only [keeps_mk, keeps_fold]

theorem State.copyEnd_keeps {s : State} (hs : Keeps K s) :
    Keeps K (State.copyEnd s) := by
  unfold State.copyEnd
  repeat' first
    | with_reducible assumption
    | with_reducible refine State.mirror__keeps ?_
    | with_reducible refine State.note_keeps ?_
    | with_reducible refine State.raise_keeps ?_
    | with_reducible refine ite_keeps ?_ ?_
    | simp only [keeps_mk, keeps_fold]
    | split

theorem State.copyLines_keeps {s : State} {f : Nat} {l : List (Line × Tag)} (hs : Keeps K s) :
    Keeps K (State.copyLines s f l) := by
  unfold State.copyLines
  repeat' first
    | with_reducible assumption
    | with_reducible refine State.mirror__keeps ?_
    | with_reducible refine foldl_keeps ?_ ?_
    | dsimp only
    | intro q_ _ h_

theorem State.copyArrive_keeps {s : State} {f : Nat} {data : Option (List (Line × Tag))} {trimmedTile : Bool}
    (hs : Keeps K s) :
    Keeps K (State.copyArrive s f data trimmedTile) := by
  unfold State.copyArrive
  repeat' first
    | with_reducible assumption
    | with_reducible refine State.copyLines_keeps ?_
    | with_reducible refine State.copyEnd_keeps ?_
    | with_reducible refine State.mirror__keeps ?_
    | with_reducible refine ite_keeps ?_ ?_
    | simp only [keeps_mk, keeps_fold]
    | split

theorem State.copyStart_keeps {s : State} (hs : Keeps K s) :
    Keeps K (State.copyStart s) := by
  unfold State.copyStart
  repeat' first
    | with_reducible assumption
    | with_reducible refine State.copyLines_keeps ?_
    | with_reducible refine State.copyEnd_keeps ?_
    | with_reducible refine State.stkSend_keeps ?_
    | with_reducible refine State.copyWay_keeps ?_
    | with_reducible refine ite_keeps ?_ ?_
    | with_reducible refine foldl_keeps ?_ ?_
    | simp only [keeps_mk, keeps_fold]
    | intro q_ _ h_
    | split

theorem State.twinDown_keeps {s : State} (hs : Keeps K s) :
    Keeps K (State.twinDown s) := by
  unfold State.twinDown
  repeat' first
    | with_reducible assumption
    | with_reducible refine State.detach_keeps ?_
    | with_reducible refine State.standbyLost_keeps ?_
    | with_reducible refine ite_keeps ?_ ?_
    | simp only [keeps_mk, keeps_fold]

theorem State.claimEnd_keeps {s : State} (hs : Keeps K s) :
    Keeps K (State.claimEnd s) := by
  unfold State.claimEnd
  repeat' first
    | with_reducible assumption
    | with_reducible refine State.detach_keeps ?_
    | simp only [keeps_mk, keeps_fold]

theorem State.twinUp_keeps {s : State} (hs : Keeps K s) :
    Keeps K (State.twinUp s) := by
  unfold State.twinUp
  repeat' first
    | with_reducible assumption
    | with_reducible refine State.claimEnd_keeps ?_
    | with_reducible refine State.detach_keeps ?_
    | with_reducible refine State.hello_keeps ?_
    | with_reducible refine ite_keeps ?_ ?_
    | simp only [keeps_mk, keeps_fold]
    | split

theorem State.setTgt_keeps {s : State} {t : Nat} {x : IntTgt} (hs : Keeps K s) :
    Keeps K (State.setTgt s t x) := by
  unfold State.setTgt
  repeat' first | with_reducible assumption | simp only [keeps_mk, keeps_fold]

theorem State.srcDone_keeps {s : State} {n : Nat} (hs : Keeps K s) :
    Keeps K (State.srcDone s n) := by
  unfold State.srcDone
  repeat' first
    | with_reducible assumption
    | with_reducible refine State.setTgt_keeps ?_
    | with_reducible refine State.setSrc_keeps ?_
    | with_reducible refine ite_keeps ?_ ?_
    | dsimp only
    | split

theorem State.reoffer_keeps {s : State} {n : Nat} (hs : Keeps K s) :
    Keeps K (State.reoffer s n) := by
  unfold State.reoffer
  repeat' first
    | with_reducible assumption
    | with_reducible refine State.setSrc_keeps ?_
    | with_reducible refine ite_keeps ?_ ?_
    | (extract_lets +onlyGivenNames x_; skip)
    | split

theorem State.dropTargets_keeps {s : State} (hs : Keeps K s) :
    Keeps K (State.dropTargets s) := by
  unfold State.dropTargets
  repeat' first
    | with_reducible assumption
    | with_reducible refine State.srcDone_keeps ?_
    | with_reducible refine ite_keeps ?_ ?_
    | with_reducible refine foldl_keeps ?_ ?_
    | intro q_ _ h_
    | split

theorem State.offers_keeps {s : State} (hs : Keeps K s) :
    Keeps K (State.offers s) := by
  unfold State.offers
  repeat' first
    | with_reducible assumption
    | with_reducible refine State.dropTargets_keeps ?_
    | with_reducible refine State.reoffer_keeps ?_
    | with_reducible refine ite_keeps ?_ ?_
    | with_reducible refine foldl_keeps ?_ ?_
    | intro q_ _ h_

theorem State.claim_keeps {s : State} {t : Nat} (hs : Keeps K s) :
    Keeps K (State.claim s t).1 := by
  unfold State.claim
  repeat' first
    | with_reducible assumption
    | with_reducible refine State.setTgt_keeps ?_
    | with_reducible refine State.setSrc_keeps ?_
    | with_reducible refine State.bump_keeps ?_
    | dsimp only
    | split

theorem State.sendEvents_keeps {s : State} {t n : Nat} (hs : Keeps K s) :
    Keeps K (s.sendEvents t n) := by
  induction n generalizing s with
  | zero => exact hs
  | succ n ih =>
    unfold State.sendEvents
    extract_lets lk l ev
    split
    · exact hs
    · split
      · have h1 := fst_keeps ‹_› (State.claim_keeps hs)
        exact ih (State.tvSend_keeps (State.setTgt_keeps h1))
      · exact fst_keeps ‹_› (State.claim_keeps hs)

theorem State.signal_keeps {s : State} {t : Nat} (hs : Keeps K s) :
    Keeps K (State.signal s t) := by
  unfold State.signal
  repeat' first
    | with_reducible assumption
    | with_reducible refine State.setTgt_keeps ?_
    | with_reducible refine State.emit_keeps ?_
    | with_reducible refine ite_keeps ?_ ?_
    | simp only [keeps_mk, keeps_fold]

theorem State.interrupts_keeps {s : State} (hs : Keeps K s) :
    Keeps K (State.interrupts s) := by
  unfold State.interrupts
  repeat' first
    | with_reducible assumption
    | with_reducible refine State.signal_keeps ?_
    | with_reducible refine State.sendEvents_keeps ?_
    | with_reducible refine State.offers_keeps ?_
    | with_reducible refine ite_keeps ?_ ?_
    | with_reducible refine foldl_keeps ?_ ?_
    | intro q_ _ h_

theorem State.handOver_keeps {s : State} {src : Src} {a : Ans} (hs : Keeps K s) :
    Keeps K (State.handOver s src a) := by
  unfold State.handOver
  repeat' first
    | with_reducible assumption
    | with_reducible refine State.svcEnd_keeps ?_
    | with_reducible refine State.cirPart_keeps ?_
    | with_reducible refine State.qpAnswered_keeps ?_
    | simp only [keeps_mk, keeps_fold]
    | split

theorem State.handAll_keeps {n : Nat} {s : State} (hs : Keeps K s) :
    Keeps K (State.handAll n s) := by
  induction n generalizing s with
  | zero => exact hs
  | succ n ih =>
    unfold State.handAll
    split
    · exact hs
    · refine ih (foldl_keeps (fun _ _ hs => State.handOver_keeps hs) ?_)
      simp only [keeps_mk, keeps_fold]; exact hs

theorem State.pinAnswers_keeps {s : State} (hs : Keeps K s) :
    Keeps K (State.pinAnswers s) := by
  unfold State.pinAnswers
  repeat' first
    | with_reducible assumption
    | with_reducible refine State.svcOut_keeps ?_
    | with_reducible refine State.setObj_keeps ?_
    | with_reducible refine ite_keeps ?_ ?_
    | with_reducible refine foldl_keeps ?_ ?_
    | dsimp only
    | intro q_ _ h_
    | split

theorem State.tellHolders_keeps {s : State} {r : TvResp} (hs : Keeps K s) :
    Keeps K (State.tellHolders s r) := by
  unfold State.tellHolders
  repeat' first
    | with_reducible assumption
    | with_reducible refine State.tvSend_keeps ?_
    | with_reducible refine ite_keeps ?_ ?_
    | with_reducible refine foldl_keeps ?_ ?_
    | intro q_ _ h_

theorem State.tellSolo_keeps {s : State} (hs : Keeps K s) :
    Keeps K (State.tellSolo s) := by
  unfold State.tellSolo
  repeat' first
    | with_reducible assumption
    | with_reducible refine State.tellHolders_keeps ?_
    | with_reducible refine ite_keeps ?_ ?_
    | simp only [keeps_mk, keeps_fold]

theorem State.unhold_keeps {s : State} {lk : Nat} (hs : Keeps K s) :
    Keeps K (State.unhold s lk) := by
  unfold State.unhold
  repeat' first
    | with_reducible assumption
    | with_reducible refine State.setTvl_keeps ?_
    | with_reducible refine ite_keeps ?_ ?_

theorem State.linksRun_keeps {s : State} (hs : Keeps K s) :
    Keeps K (State.linksRun s) := by
  unfold State.linksRun
  repeat' first
    | with_reducible assumption
    | with_reducible refine State.unhold_keeps ?_
    | with_reducible refine State.tvPump_keeps ?_
    | with_reducible refine ite_keeps ?_ ?_
    | with_reducible refine foldl_keeps ?_ ?_
    | intro q_ _ h_

theorem State.pfcSend_keeps {s : State} {e : Nat} {what : String} {prios : Nat} (hs : Keeps K s) :
    Keeps K (State.pfcSend s e what prios) := by
  unfold State.pfcSend
  repeat' first
    | with_reducible assumption
    | with_reducible refine State.emit_keeps ?_
    | with_reducible refine State.bumpFld_keeps ?_
    | with_reducible refine State.bump_keeps ?_

theorem State.pfcSome_keeps {s : State} {e : Nat} {what : String} {prios : Nat} (hs : Keeps K s) :
    Keeps K (State.pfcSome s e what prios) := by
  unfold State.pfcSome
  repeat' first
    | with_reducible assumption
    | with_reducible refine State.pfcSend_keeps ?_
    | with_reducible refine ite_keeps ?_ ?_

theorem State.portPause_keeps {s : State} {e : Nat} (hs : Keeps K s) :
    Keeps K (State.portPause s e) := by
  unfold State.portPause
  repeat' first
    | with_reducible assumption
    | with_reducible refine State.pfcSome_keeps ?_
    | with_reducible refine State.pfcSend_keeps ?_
    | with_reducible refine ite_keeps ?_ ?_
    | simp only [keeps_mk, keeps_fold]

theorem State.stagePort_keeps {s : State} {e : Nat} (hs : Keeps K s) :
    Keeps K (State.stagePort s e) := by
  unfold State.stagePort
  repeat' first
    | with_reducible assumption
    | with_reducible refine State.pfcSome_keeps ?_
    | with_reducible refine ite_keeps ?_ ?_
    | simp only [keeps_mk, keeps_fold]

theorem State.stagePause_keeps {s : State} (hs : Keeps K s) :
    Keeps K (State.stagePause s) := by
  unfold State.stagePause
  repeat' first
    | with_reducible assumption
    | with_reducible refine State.stagePort_keeps ?_
    | with_reducible refine foldl_keeps ?_ ?_
    | intro q_ _ h_

theorem State.tellFatal_keeps {s : State} (hs : Keeps K s) :
    Keeps K (State.tellFatal s) := by
  unfold State.tellFatal
  repeat' first
    | with_reducible assumption
    | with_reducible refine State.handoverStart_keeps ?_
    | with_reducible refine State.async_keeps ?_
    | with_reducible refine ite_keeps ?_ ?_
    | simp only [keeps_mk, keeps_fold]

theorem settle_keeps {s : State} (hs : Keeps K s) :
    Keeps K (settle s) := by
  unfold settle
  repeat' first
    | with_reducible assumption
    | with_reducible refine State.tellFatal_keeps ?_
    | with_reducible refine State.stagePause_keeps ?_
    | with_reducible refine State.portPause_keeps ?_
    | with_reducible refine State.linksRun_keeps ?_
    | with_reducible refine State.tellSolo_keeps ?_
    | with_reducible refine State.pinAnswers_keeps ?_
    | with_reducible refine State.handAll_keeps ?_
    | with_reducible refine State.interrupts_keeps ?_
    | with_reducible refine State.handoverRun_keeps ?_
    | with_reducible refine State.rxPump_keeps ?_
    | with_reducible refine State.sayRoles_keeps ?_
    | with_reducible refine State.fchRun_keeps ?_
    | with_reducible refine State.govern_keeps ?_
    | with_reducible refine State.twinPump_keeps ?_
    | with_reducible refine foldl_keeps ?_ ?_
    | intro q_ _ h_

theorem finish_keeps {s : State} (hs : Keeps K s) : ∃ u, finish s = .next u ∧ Keeps K u :=
  ⟨settle s, rfl, settle_keeps hs⟩

theorem State.bufferCharge_keeps {s : State} {o : Nat} {ps : List Nat} {tenant : Option Nat} (hs : Keeps K s) :
    Keeps K (State.bufferCharge s o ps tenant) := by
  unfold State.bufferCharge
  repeat' first
    | with_reducible assumption
    | with_reducible refine State.refuse_keeps ?_
    | with_reducible refine State.deskCharge_keeps ?_ ‹_›
    | with_reducible refine foldl_keeps ?_ ?_
    | simp only [keeps_mk, keeps_fold]
    | intro q_ _ h_
    | split

theorem State.bufferFail_keeps {s : State} {o p n : Nat} {up lossless : Bool} {tenant : Option Nat} (hs : Keeps K s) :
    Keeps K (State.bufferFail s o p n up lossless tenant) := by
  unfold State.bufferFail
  repeat' first
    | with_reducible assumption
    | with_reducible refine State.ethDrop_keeps ?_
    | with_reducible refine State.raise_keeps ?_
    | with_reducible refine State.bump_keeps ?_
    | with_reducible refine ite_keeps ?_ ?_
    | simp only [keeps_mk, keeps_fold]

theorem State.giveBuf_keeps {s : State} {e buf : Nat} (hs : Keeps K s) :
    Keeps K (State.giveBuf s e buf) := by
  unfold State.giveBuf
  repeat' first
    | with_reducible assumption
    | with_reducible refine State.bpmReturn_keeps ?_
    | with_reducible refine ite_keeps ?_ ?_

theorem State.chargeBuf_keeps {s : State} {buf t : Nat} {r : State} (hs : Keeps K s)
    (h : s.chargeBuf buf t = some r) : Keeps K r := by
  unfold State.chargeBuf at h
  split at h
  · cases h; exact hs
  · split at h
    · cases h; exact hs
    · extract_lets at h
      split at h
      · cases h; exact hs
      · obtain ⟨a, ha, rfl⟩ := Option.map_eq_some_iff.mp h
        simp only [keeps_mk, keeps_fold]
        exact State.deskCharge_keeps hs ha

theorem State.qpSay_keeps {s : State} {q : Nat} {w : QWait} {k : QKind} {a : Option Ans} {psn : Nat}
    (hs : Keeps K s) :
    Keeps K (State.qpSay s q w k a psn) := by
  unfold State.qpSay
  repeat' first
    | with_reducible assumption
    | with_reducible refine State.qpPush_keeps ?_
    | with_reducible refine State.qpFlush_keeps ?_

theorem State.qpNak_keeps {s : State} {q : Nat} {w : QWait} {syn reason : Nat} (hs : Keeps K s) :
    Keeps K (State.qpNak s q w syn reason) := by
  unfold State.qpNak
  repeat' first | with_reducible assumption | with_reducible refine State.qpSay_keeps ?_

theorem State.qpRnr_keeps {s : State} {q : Nat} {w : QWait} {code : Nat} (hs : Keeps K s) :
    Keeps K (State.qpRnr s q w code) := by
  unfold State.qpRnr
  repeat' first
    | with_reducible assumption
    | with_reducible refine State.qpSay_keeps ?_
    | with_reducible refine State.setQp_keeps ?_

theorem State.demandFills_keeps {s : State} {fs : List Nat} {owner : Nat} (hs : Keeps K s) :
    Keeps K (State.demandFills s fs owner) := by
  unfold State.demandFills
  repeat' first
    | with_reducible assumption
    | with_reducible refine State.startFill_keeps ?_
    | with_reducible refine ite_keeps ?_ ?_
    | with_reducible refine foldl_keeps ?_ ?_
    | intro q_ _ h_

theorem State.qpPage_keeps {s : State} {q : Nat} {fs : List Nat} {owner : Nat} {load : Bool} (hs : Keeps K s) :
    Keeps K (s.qpPage q fs owner load).st := by
  unfold State.qpPage
  extract_lets +onlyGivenNames absent0 absent
  split
  · exact hs
  · split
    · exact State.refuse_keeps hs
    split
    · split
      · exact hs
      · exact hs
    · extract_lets +onlyGivenNames s1
      have h1 : Keeps K s1 := State.tickFree_keeps (State.demandFills_keeps hs)
      clear_value s1
      extract_lets +onlyGivenNames us
      split
      · exact State.bump_keeps h1
      · exact State.raise_keeps (State.bump_keeps h1)

theorem State.qpAdmit_keeps {s : State} {q : Nat} {w : QWait} {tenant owner : Nat} {fs : List Nat} {write : Bool}
    {run : State → State} (hs : Keeps K s) (hf : ∀ s, Keeps K s → Keeps K (run s)) :
    Keeps K (s.qpAdmit q w tenant owner fs write run).st := by
  unfold State.qpAdmit
  split
  · exact State.qpRnr_keeps (State.refuse_keeps hs)
  · have h1 := State.chargeBuf_keeps hs ‹_›
    split
    · exact State.qpRnr_keeps h1
    · split
      · exact hf _ (pageGo_keeps ‹_› (State.qpPage_keeps h1))
      · exact pageStall_keeps ‹_› (State.qpPage_keeps h1)
      · exact State.qpRnr_keeps (pageBounce_keeps ‹_› (State.qpPage_keeps h1))
      · exact State.qpSay_keeps (pageQuota_keeps ‹_› (State.qpPage_keeps h1))

theorem State.qpQueue_keeps {s : State} {q tenant : Nat} {l : List WriteReq} (hs : Keeps K s) :
    Keeps K (State.qpQueue s q tenant l) := by
  unfold State.qpQueue
  repeat' first
    | with_reducible assumption
    | with_reducible refine State.pumpAll_keeps ?_
    | with_reducible refine State.setStream_keeps ?_
    | with_reducible refine State.bumpBy_keeps ?_
    | with_reducible refine ite_keeps ?_ ?_

theorem State.qpWrite_keeps {s : State} {q : Nat} {w : QWait} {lpa owner win tenant : Nat} {last : Bool}
    {left : Nat} (hs : Keeps K s) :
    Keeps K (State.qpWrite s q w lpa owner win tenant last left) := by
  unfold State.qpWrite
  repeat' first
    | with_reducible assumption
    | with_reducible refine State.qpQueue_keeps ?_
    | with_reducible refine State.qpSay_keeps ?_
    | with_reducible refine State.qpPush_keeps ?_
    | with_reducible refine State.setQp_keeps ?_
    | with_reducible refine State.openGrp_keeps ?_
    | with_reducible refine ite_keeps ?_ ?_

theorem State.qpWritePkt_keeps {s : State} {q : Nat} {w : QWait} (hs : Keeps K s) :
    Keeps K (State.qpWritePkt s q w).st := by
  unfold State.qpWritePkt
  repeat' first
    | with_reducible assumption
    | with_reducible refine State.qpWrite_keeps ?_
    | with_reducible refine State.qpAdmit_keeps ?_ ?_
    | with_reducible refine State.qpNak_keeps ?_
    | with_reducible refine State.winDeny_keeps ?_
    | with_reducible refine State.setQp_keeps ?_
    | with_reducible refine ite_keeps ?_ ?_
    | dsimp only
    | simp only [st_done]
    | intro q_ h_
    | split

theorem State.qpRead_keeps {s : State} {q : Nat} {w : QWait} {again : Bool} (hs : Keeps K s) :
    Keeps K (State.qpRead s q w again).st := by
  unfold State.qpRead
  repeat' first
    | with_reducible assumption
    | with_reducible refine State.qpAdmit_keeps ?_ ?_
    | with_reducible refine State.qpNak_keeps ?_
    | with_reducible refine State.qpSay_keeps ?_
    | with_reducible refine State.winDeny_keeps ?_
    | with_reducible refine State.qpPush_keeps ?_
    | with_reducible refine State.setQp_keeps ?_
    | with_reducible refine State.runLoad_keeps ?_
    | dsimp only
    | simp only [st_done]
    | intro q_ h_
    | split

theorem State.qpAtomic_keeps {s : State} {q : Nat} {w : QWait} (hs : Keeps K s) :
    Keeps K (State.qpAtomic s q w).st := by
  unfold State.qpAtomic
  repeat' first
    | with_reducible assumption
    | with_reducible refine State.qpQueue_keeps ?_
    | with_reducible refine State.qpAdmit_keeps ?_ ?_
    | with_reducible refine State.qpNak_keeps ?_
    | with_reducible refine State.winDeny_keeps ?_
    | with_reducible refine State.qpPush_keeps ?_
    | with_reducible refine State.setQp_keeps ?_
    | dsimp only
    | simp only [st_done]
    | intro q_ h_
    | split

theorem State.qpCommand_keeps {s : State} {q : Nat} {w : QWait} (hs : Keeps K s) :
    Keeps K (State.qpCommand s q w) := by
  unfold State.qpCommand
  repeat' first
    | with_reducible assumption
    | with_reducible refine State.qpNak_keeps ?_
    | with_reducible refine State.winDeny_keeps ?_
    | with_reducible refine State.qpPush_keeps ?_
    | with_reducible refine State.qpAnswered_keeps ?_
    | with_reducible refine State.setQp_keeps ?_
    | with_reducible refine State.releaseReport_keeps ?_
    | with_reducible refine State.closeArrive_keeps ?_
    | with_reducible refine State.queryAsk_keeps ?_
    | with_reducible refine State.mirror__keeps ?_
    | with_reducible refine ite_keeps ?_ ?_
    | dsimp only
    | split

theorem State.qpNew_keeps {s : State} {q : Nat} {w : QWait} (hs : Keeps K s) :
    Keeps K (State.qpNew s q w).st := by
  unfold State.qpNew
  repeat' first
    | with_reducible assumption
    | with_reducible refine State.qpCommand_keeps ?_
    | with_reducible refine State.qpAtomic_keeps ?_
    | with_reducible refine State.qpRead_keeps ?_
    | with_reducible refine State.qpWritePkt_keeps ?_
    | with_reducible refine State.qpNak_keeps ?_
    | simp only [st_done]
    | split

theorem State.qpDup_keeps {s : State} {q : Nat} {w : QWait} (hs : Keeps K s) :
    Keeps K (State.qpDup s q w).st := by
  unfold State.qpDup
  repeat' first
    | with_reducible assumption
    | with_reducible refine State.qpRead_keeps ?_
    | with_reducible refine State.qpNak_keeps ?_
    | with_reducible refine State.qpSay_keeps ?_
    | with_reducible refine State.giveBuf_keeps ?_
    | with_reducible refine State.raise_keeps ?_
    | with_reducible refine State.bump_keeps ?_
    | dsimp only
    | simp only [st_done]
    | split

theorem State.qpRun_keeps {s : State} {q : Nat} {w : QWait} (hs : Keeps K s) :
    Keeps K (State.qpRun s q w).st := by
  unfold State.qpRun
  repeat' first
    | with_reducible assumption
    | with_reducible refine State.qpDup_keeps ?_
    | with_reducible refine State.qpNew_keeps ?_
    | with_reducible refine State.qpSay_keeps ?_
    | with_reducible refine State.giveBuf_keeps ?_
    | with_reducible refine State.setQp_keeps ?_
    | with_reducible refine State.bump_keeps ?_
    | dsimp only
    | simp only [st_done]
    | split

theorem State.missPump_keeps {s : State} {q n : Nat} (hs : Keeps K s) :
    Keeps K (s.missPump q n) := by
  induction n generalizing s with
  | zero => exact hs
  | succ n ih =>
    unfold State.missPump
    extract_lets x
    split
    · exact hs
    · split
      · exact hs
      · split
        · exact ih (done_keeps ‹_› (State.qpRun_keeps (State.setQp_keeps hs)))
        · exact State.setQp_keeps (wait_keeps ‹_› (State.qpRun_keeps (State.setQp_keeps hs)))

theorem State.missAdd_keeps {s : State} {q : Nat} {w : QWait} {front : Bool} (hs : Keeps K s) :
    Keeps K (State.missAdd s q w front) := by
  unfold State.missAdd
  repeat' first
    | with_reducible assumption
    | with_reducible refine State.giveBuf_keeps ?_
    | with_reducible refine State.setQp_keeps ?_
    | with_reducible refine State.raise_keeps ?_
    | with_reducible refine State.bump_keeps ?_
    | with_reducible refine ite_keeps ?_ ?_

theorem State.cnp_keeps {s : State} {q e : Nat} (hs : Keeps K s) :
    Keeps K (State.cnp s q e) := by
  unfold State.cnp
  repeat' first
    | with_reducible assumption
    | with_reducible refine State.setQp_keeps ?_
    | with_reducible refine State.ethSend_keeps ?_
    | with_reducible refine State.bumpFld_keeps ?_
    | with_reducible refine ite_keeps ?_ ?_

theorem State.enterRts_keeps {s : State} {q : Nat} (hs : Keeps K s) :
    Keeps K (State.enterRts s q) := by
  unfold State.enterRts
  repeat' first
    | with_reducible assumption
    | with_reducible refine State.setQp_keeps ?_
    | with_reducible refine State.openEpoch_keeps ?_
    | with_reducible refine State.mirror__keeps ?_

theorem State.qpSayRaw_keeps {s : State} {q e : Nat} {m : Mark} {psn : Nat} (hs : Keeps K s) :
    Keeps K (State.qpSayRaw s q e m psn) := by
  unfold State.qpSayRaw
  repeat' first
    | with_reducible assumption
    | with_reducible refine State.ethSend_keeps ?_
    | with_reducible refine State.spend_keeps ?_

theorem State.roceArrive_keeps {s : State} {e op : Nat} {p : RPkt} (hs : Keeps K s) :
    Keeps K (s.roceArrive e op p) := by
  unfold State.roceArrive
  split
  · exact hs
  · split
    · exact fst_keeps ‹_› (State.takeFrame_keeps hs)
    · have h1 := fst_keeps ‹_› (State.takeFrame_keeps hs)
      extract_lets +onlyGivenNames drop s2
      have hd : ∀ s, Keeps K s → Keeps K (drop s) := fun _ hs => State.giveBuf_keeps hs
      have h2 : Keeps K s2 := State.spend_keeps (State.bump_keeps h1)
      clear_value drop s2
      split
      · exact hd _ (State.raise_keeps (State.bump_keeps h2))
      · split
        · exact hd _ h2
        · extract_lets +onlyGivenNames q x
          clear_value q x
          split
          · exact hd _ (State.cirError_keeps (State.qpSayRaw_keeps h2))
          · split
            · exact hd _ (State.bump_keeps h2)
            · split
              · exact hd _ h2
              · extract_lets +onlyGivenNames s3
                have h3 : Keeps K s3 := by
                  simp only [s3]
                  split
                  · exact State.async_keeps (State.enterRts_keeps h2)
                  · exact h2
                clear_value s3
                extract_lets +onlyGivenNames s4
                have h4 : Keeps K s4 := by
                  simp only [s4]
                  split
                  · exact State.cnp_keeps h3
                  · exact h3
                clear_value s4
                extract_lets +onlyGivenNames w
                clear_value w
                split
                · refine State.missAdd_keeps ?_
                  split
                  · exact h4
                  · refine State.bump_keeps ?_
                    simp only [keeps_mk, keeps_fold]; exact h4
                · extract_lets +onlyGivenNames s5
                  have h5 : Keeps K s5 := State.card_keeps h4
                  clear_value s5
                  split
                  · exact State.missAdd_keeps h5
                  · split
                    · exact done_keeps ‹_› (State.qpRun_keeps h5)
                    · exact State.missAdd_keeps (wait_keeps ‹_› (State.qpRun_keeps h5))

theorem State.ethDown_keeps {s : State} {port cause : Nat} (hs : Keeps K s) :
    Keeps K (State.ethDown s port cause) := by
  unfold State.ethDown
  repeat' first
    | with_reducible assumption
    | with_reducible refine State.async_keeps ?_
    | with_reducible refine State.setEthPort_keeps ?_
    | with_reducible refine State.bpmReturn_keeps ?_
    | with_reducible refine State.note_keeps ?_
    | with_reducible refine ite_keeps ?_ ?_
    | with_reducible refine foldl_keeps ?_ ?_
    | intro q_ _ h_

theorem State.netAnswer_keeps {s : State} {port addr : Nat} {what : String} {dscp : Option Nat} (hs : Keeps K s) :
    Keeps K (State.netAnswer s port addr what dscp) := by
  unfold State.netAnswer
  repeat' first
    | with_reducible assumption
    | with_reducible refine State.takeFrame_keeps ?_
    | with_reducible refine State.ethSend_keeps ?_
    | with_reducible refine State.bpmReturn_keeps ?_
    | with_reducible refine ite_keeps ?_ ?_
    | with_reducible refine fst_keeps ‹_› ?_
    | split

theorem State.cmArrive_keeps {s : State} {port dst : Nat} (hs : Keeps K s) :
    Keeps K (State.cmArrive s port dst).1 := by
  unfold State.cmArrive
  repeat' first
    | with_reducible assumption
    | with_reducible refine State.takeFrame_keeps ?_
    | with_reducible refine State.bpmReturn_keeps ?_
    | with_reducible refine State.bump_keeps ?_
    | with_reducible refine fst_keeps ‹_› ?_
    | dsimp only
    | split

theorem State.cmReject_keeps {s : State} {port : Nat} {m : Mark} {comm reason : Nat} (hs : Keeps K s) :
    Keeps K (State.cmReject s port m comm reason) := by
  unfold State.cmReject
  repeat' first
    | with_reducible assumption
    | with_reducible refine State.ethSend_keeps ?_
    | with_reducible refine State.raise_keeps ?_

theorem State.endQp_keeps {s : State} {q : Nat} (hs : Keeps K s) :
    Keeps K (State.endQp s q) := by
  unfold State.endQp
  repeat' first
    | with_reducible assumption
    | with_reducible refine State.faultEpoch_keeps ?_
    | with_reducible refine State.freeQp_keeps ?_

theorem State.roceCommand_keeps {s : State} {port : Nat} {p : RPkt} {op : Nat} (hs : Keeps K s) :
    Keeps K (State.roceCommand s port p op) := by
  unfold State.roceCommand
  repeat' first
    | with_reducible assumption
    | with_reducible refine State.roceArrive_keeps ?_
    | with_reducible refine ite_keeps ?_ ?_

theorem State.tvOnly_keeps {s : State} {lk : Nat} {f : State → State} (hs : Keeps K s)
    (hf : ∀ s, Keeps K s → Keeps K (f s)) :
    Keeps K (s.tvOnly lk f) := by
  unfold State.tvOnly
  split
  · exact hs
  · exact hf s hs

theorem State.tvNote_keeps {s : State} {lk cause : Nat} (hs : Keeps K s) :
    Keeps K (State.tvNote s lk cause) := by
  unfold State.tvNote
  repeat' first
    | with_reducible assumption
    | with_reducible refine State.tvOnly_keeps ?_ ?_
    | with_reducible refine State.note_keeps ?_
    | intro q_ h_

theorem State.tvFail_keeps {s : State} {lk cause : Nat} (hs : Keeps K s) :
    Keeps K (State.tvFail s lk cause) := by
  unfold State.tvFail
  repeat' first
    | with_reducible assumption
    | with_reducible refine State.tvNote_keeps ?_
    | with_reducible refine State.setTvl_keeps ?_

theorem State.tvLose_keeps {s : State} {lk cause : Nat} (hs : Keeps K s) :
    Keeps K (State.tvLose s lk cause) := by
  unfold State.tvLose
  repeat' first
    | with_reducible assumption
    | with_reducible refine State.tvNote_keeps ?_
    | with_reducible refine State.twinDown_keeps ?_
    | with_reducible refine State.setTvl_keeps ?_
    | with_reducible refine State.raise_keeps ?_
    | with_reducible refine State.emit_keeps ?_
    | with_reducible refine State.bumpFld_keeps ?_
    | with_reducible refine ite_keeps ?_ ?_

theorem State.tvRecover_keeps {s : State} {lk : Nat} (hs : Keeps K s) :
    Keeps K (State.tvRecover s lk) := by
  unfold State.tvRecover
  repeat' first
    | with_reducible assumption
    | with_reducible refine State.tvOnly_keeps ?_ ?_
    | with_reducible refine State.idleFlit_keeps ?_
    | with_reducible refine State.setTvl_keeps ?_
    | with_reducible refine State.raise_keeps ?_
    | with_reducible refine State.bumpFld_keeps ?_
    | intro q_ h_

theorem State.tvConfigOut_keeps {s : State} {lk : Nat} {ack : Bool} (hs : Keeps K s) :
    Keeps K (State.tvConfigOut s lk ack) := by
  unfold State.tvConfigOut
  repeat' first
    | with_reducible assumption
    | with_reducible refine State.configFlit_keeps ?_
    | with_reducible refine foldl_keeps ?_ ?_
    | intro q_ _ h_

theorem State.tvActive_keeps {s : State} {lk : Nat} (hs : Keeps K s) :
    Keeps K (State.tvActive s lk) := by
  unfold State.tvActive
  repeat' first | with_reducible assumption | with_reducible refine State.setTvl_keeps ?_

theorem State.twinActive_keeps {s : State} (hs : Keeps K s) :
    Keeps K (State.twinActive s) := by
  unfold State.twinActive
  repeat' first
    | with_reducible assumption
    | with_reducible refine State.twinUp_keeps ?_
    | with_reducible refine State.setTvl_keeps ?_

theorem State.tvReplay_keeps {s : State} {lk : Nat} (hs : Keeps K s) :
    Keeps K (State.tvReplay s lk) := by
  unfold State.tvReplay
  repeat' first
    | with_reducible assumption
    | with_reducible refine State.tvRecover_keeps ?_
    | with_reducible refine State.tvOnly_keeps ?_ ?_
    | with_reducible refine State.resend_keeps ?_
    | with_reducible refine State.setTvl_keeps ?_
    | with_reducible refine State.raise_keeps ?_
    | with_reducible refine State.bump_keeps ?_
    | with_reducible refine ite_keeps ?_ ?_
    | intro q_ h_

theorem State.tvAck_keeps {s : State} {lk a : Nat} (hs : Keeps K s) :
    Keeps K (State.tvAck s lk a) := by
  unfold State.tvAck
  repeat' first
    | with_reducible assumption
    | with_reducible refine State.setTvl_keeps ?_
    | with_reducible refine ite_keeps ?_ ?_

theorem State.tvNak_keeps {s : State} {lk : Nat} (hs : Keeps K s) :
    Keeps K (State.tvNak s lk) := by
  unfold State.tvNak
  repeat' first
    | with_reducible assumption
    | with_reducible refine State.idleFlit_keeps ?_
    | with_reducible refine State.setTvl_keeps ?_
    | with_reducible refine ite_keeps ?_ ?_
    | dsimp only
    | split

theorem State.tvProtocol_keeps {s : State} {lk : Nat} (hs : Keeps K s) :
    Keeps K (State.tvProtocol s lk) := by
  unfold State.tvProtocol
  repeat' first
    | with_reducible assumption
    | with_reducible refine State.tvLose_keeps ?_
    | with_reducible refine State.tvOnly_keeps ?_ ?_
    | with_reducible refine State.raise_keeps ?_
    | intro q_ h_

theorem State.twinParse_keeps {s : State} {firstSlot : Nat} {slots : List (BitVec 128)} (hs : Keeps K s) :
    Keeps K (State.twinParse s firstSlot slots).1 := by
  unfold State.twinParse
  repeat' first | with_reducible assumption | with_reducible refine State.setTvl_keeps ?_

theorem State.twinAccept_keeps {s : State} {hdr : BitVec 64} {slots : List (BitVec 128)} (hs : Keeps K s) :
    Keeps K (State.twinAccept s hdr slots) := by
  unfold State.twinAccept
  repeat' first
    | with_reducible assumption
    | with_reducible refine State.twinParse_keeps ?_
    | with_reducible refine State.tvProtocol_keeps ?_
    | with_reducible refine State.setTvl_keeps ?_
    | with_reducible refine ite_keeps ?_ ?_

theorem State.twinFlit_keeps {s : State} {hdr : BitVec 64} {slots : List (BitVec 128)} (hs : Keeps K s) :
    Keeps K (State.twinFlit s hdr slots) := by
  unfold State.twinFlit
  repeat' first
    | with_reducible assumption
    | with_reducible refine State.twinAccept_keeps ?_
    | with_reducible refine State.tvNak_keeps ?_
    | with_reducible refine State.tvAck_keeps ?_
    | with_reducible refine State.tvReplay_keeps ?_
    | with_reducible refine State.setTvl_keeps ?_
    | with_reducible refine ite_keeps ?_ ?_

theorem State.tvAccept_keeps {s : State} {lk : Nat} {hdr : BitVec 64} {slots : List (BitVec 128)} (hs : Keeps K s) :
    Keeps K (State.tvAccept s lk hdr slots) := by
  unfold State.tvAccept
  repeat' first
    | with_reducible assumption
    | with_reducible refine State.tvProtocol_keeps ?_
    | with_reducible refine State.setTvl_keeps ?_
    | with_reducible refine State.bump_keeps ?_
    | with_reducible refine State.bumpBy_keeps ?_
    | with_reducible refine ite_keeps ?_ ?_

theorem State.tvStop_keeps {s : State} {lk cause : Nat} (hs : Keeps K s) :
    Keeps K (State.tvStop s lk cause) := by
  unfold State.tvStop
  repeat' first
    | with_reducible assumption
    | with_reducible refine State.tvLose_keeps ?_
    | with_reducible refine State.setTvl_keeps ?_
    | with_reducible refine State.emit_keeps ?_
    | with_reducible refine ite_keeps ?_ ?_

theorem State.twinProtocol_keeps {s : State} (hs : Keeps K s) :
    Keeps K (State.twinProtocol s) := by
  unfold State.twinProtocol
  repeat' first
    | with_reducible assumption
    | with_reducible refine State.twinDown_keeps ?_
    | with_reducible refine State.setTvl_keeps ?_
    | with_reducible refine ite_keeps ?_ ?_

theorem State.rxFrame_keeps {s : State} {f : MFrame} (hs : Keeps K s) :
    Keeps K (State.rxFrame s f) := by
  unfold State.rxFrame
  repeat' first
    | with_reducible assumption
    | with_reducible refine State.twinProtocol_keeps ?_
    | with_reducible refine ite_keeps ?_ ?_
    | simp only [keeps_mk, keeps_fold]

theorem State.returnFrame_keeps {s : State} {f : State → State} (hs : Keeps K s) (hf : ∀ s, Keeps K s → Keeps K
    (f s)) :
    Keeps K (s.returnFrame f) := by
  unfold State.returnFrame
  split
  · split
    · exact hs
    · exact hf s hs
  · split
    · exact State.twinProtocol_keeps hs
    · exact hs

theorem State.unpend_keeps {s : State} {line : Nat} (hs : Keeps K s) :
    Keeps K (State.unpend s line) := by
  unfold State.unpend
  repeat' first
    | with_reducible assumption
    | with_reducible refine State.setLineState_keeps ?_
    | with_reducible refine ite_keeps ?_ ?_
    | dsimp only
    | split

theorem State.digestFail_keeps {s : State} {i reason : Nat} {partner : BitVec 64} (hs : Keeps K s) :
    Keeps K (s.digestFail i reason partner) := by
  unfold State.digestFail
  extract_lets +onlyGivenNames r own s1 s2
  have h2 : Keeps K s2 := State.fenceOut_keeps (State.note_keeps (State.raise_keeps hs))
  clear_value s2
  split
  · exact State.commitClose_keeps h2
  · split
    · split
      · exact State.qpError_keeps h2
      · exact h2
    · exact State.faultEpoch_keeps h2

theorem State.witnessTake_keeps {s : State} {type : Nat} {msg : List Byte} (hs : Keeps K s) :
    Keeps K (State.witnessTake s type msg).1 := by
  unfold State.witnessTake
  repeat' first
    | with_reducible assumption
    | with_reducible refine State.kceVerify_keeps ?_
    | with_reducible refine State.bumpFld_keeps ?_
    | with_reducible refine ite_keeps ?_ ?_
    | simp only [keeps_mk, keeps_fold]
    | split

theorem State.takeoverFail_keeps {s : State} {k : TakeSt} (hs : Keeps K s) :
    Keeps K (State.takeoverFail s k) := by
  unfold State.takeoverFail
  repeat' first
    | with_reducible assumption
    | with_reducible refine State.svcOut_keeps ?_
    | simp only [keeps_mk, keeps_fold]

theorem State.denied_keeps {s : State} {type gen : Nat} (hs : Keeps K s) :
    Keeps K (State.denied s type gen) := by
  unfold State.denied
  repeat' first
    | with_reducible assumption
    | with_reducible refine State.note_keeps ?_
    | with_reducible refine State.raise_keeps ?_

theorem State.doTwinJoin_keeps {s : State} (hs : Keeps K s) :
    Keeps K (State.doTwinJoin s).1 := by
  unfold State.doTwinJoin
  repeat' first | with_reducible assumption | with_reducible refine State.hello_keeps ?_ | split

theorem State.doTwinHandover_keeps {s : State} {slot : Nat} (hs : Keeps K s) :
    Keeps K (State.doTwinHandover s slot).1 := by
  unfold State.doTwinHandover
  repeat' first | with_reducible assumption | with_reducible refine State.handoverStart_keeps ?_ | split

theorem State.doTwinTakeover_keeps {s : State} {slot : Nat} {force : Bool} (hs : Keeps K s) :
    Keeps K (State.doTwinTakeover s slot force).1 := by
  unfold State.doTwinTakeover
  repeat' first
    | with_reducible assumption
    | with_reducible refine State.gain_keeps ?_
    | simp only [keeps_mk, keeps_fold]
    | split

theorem State.doTwinFence_keeps {s : State} (hs : Keeps K s) :
    Keeps K (State.doTwinFence s).1 := by
  unfold State.doTwinFence
  repeat' first
    | with_reducible assumption
    | with_reducible refine State.fenced_keeps ?_
    | with_reducible refine State.note_keeps ?_
    | split

theorem State.serve_keeps {s : State} {n code : Nat} {run : MbSlot → State → State × Option SvcRes} (hs : Keeps K s)
    (hr : ∀ x s, Keeps K s → Keeps K (run x s).1) :
    Keeps K (s.serve n code run) := by
  unfold State.serve
  extract_lets x _ s1
  have h1 : Keeps K s1 := State.setSlot_keeps (by simp only [keeps_mk, keeps_fold]; exact hs)
  clear_value s1
  split
  · exact hs
  · split
    · exact State.svcOut_keeps h1
    · split
      · exact State.svcOut_keeps h1
      · split
        · exact State.svcOut_keeps (fst_keeps ‹_› (hr _ _ h1))
        · exact fst_keeps ‹_› (hr _ _ h1)

theorem State.serveM_keeps {s : State} {n code : Nat} (hs : Keeps K s) :
    Keeps K (s.serveM n code) := by
  unfold State.serveM
  refine State.serve_keeps hs ?_
  intro x s hs
  beta_reduce
  split
  · exact State.doSvc_keeps hs
  · exact hs

theorem State.slotDone_keeps {s : State} {n : Nat} {r : Nat × Nat × List Byte} (hs : Keeps K s) :
    Keeps K (State.slotDone s n r) := by
  unfold State.slotDone
  repeat' first
    | with_reducible assumption
    | with_reducible refine State.setSlot_keeps ?_
    | with_reducible refine State.raise_keeps ?_
    | with_reducible refine State.bump_keeps ?_
    | simp only [keeps_mk, keeps_fold]

theorem State.doorbell_keeps {s : State} {slot : Nat} (hs : Keeps K s) :
    Keeps K (State.doorbell s slot) := by
  unfold State.doorbell
  repeat' first
    | with_reducible assumption
    | with_reducible refine State.setSlot_keeps ?_
    | with_reducible refine State.bumpFld_keeps ?_
    | with_reducible refine ite_keeps ?_ ?_
    | simp only [keeps_mk, keeps_fold]

theorem State.ackRestart_keeps {s : State} (hs : Keeps K s) :
    Keeps K (State.ackRestart s) := by
  unfold State.ackRestart
  repeat' first | with_reducible assumption | simp only [keeps_mk, keeps_fold]

theorem State.dram_keeps {s : State} {c : Nat} {what : String} {v : Nat} (hs : Keeps K s) :
    Keeps K (State.dram s c what v) := by
  unfold State.dram
  repeat' first
    | with_reducible assumption
    | with_reducible refine State.retryPut_keeps ?_
    | with_reducible refine State.emit_keeps ?_

theorem State.dramRanks_keeps {s : State} {c : Nat} {what : String} (hs : Keeps K s) :
    Keeps K (State.dramRanks s c what) := by
  unfold State.dramRanks
  repeat' first
    | with_reducible assumption
    | with_reducible refine State.dram_keeps ?_
    | with_reducible refine foldl_keeps ?_ ?_
    | intro q_ _ h_

theorem State.reissue_keeps {s : State} {c : Nat} {e : String × Nat} (hs : Keeps K s) :
    Keeps K (State.reissue s c e) := by
  unfold State.reissue
  repeat' first
    | with_reducible assumption
    | with_reducible refine State.emit_keeps ?_
    | with_reducible refine ite_keeps ?_ ?_

theorem State.doDeviceDead_keeps {s : State} {c r dev : Nat} (hs : Keeps K s) :
    Keeps K (State.doDeviceDead s c r dev).1 := by
  unfold State.doDeviceDead
  repeat' first | with_reducible assumption | with_reducible refine State.declareDead_keeps ?_ | split

theorem State.remapLine_keeps {s : State} {c l : Nat} (hs : Keeps K s) :
    Keeps K (State.remapLine s c l).1 := by
  unfold State.remapLine
  repeat' first
    | with_reducible assumption
    | with_reducible refine State.copyLine_keeps ?_
    | with_reducible refine State.accept_keeps ?_
    | with_reducible refine State.setRemap_keeps ?_
    | with_reducible refine State.note_keeps ?_
    | with_reducible refine State.raise_keeps ?_
    | with_reducible refine State.bump_keeps ?_
    | dsimp only
    | split

theorem State.doLineRemap_keeps {s : State} {c l : Nat} (hs : Keeps K s) :
    Keeps K (State.doLineRemap s c l).1 := by
  unfold State.doLineRemap
  repeat' first | with_reducible assumption | with_reducible refine State.remapLine_keeps ?_ | split

theorem State.passEnd_keeps {s : State} {c : Nat} (hs : Keeps K s) :
    Keeps K (State.passEnd s c) := by
  unfold State.passEnd
  repeat' first
    | with_reducible assumption
    | with_reducible refine State.raise_keeps ?_
    | simp only [keeps_mk, keeps_fold]

theorem State.scrubOne_keeps {s : State} {c a : Nat} (hs : Keeps K s) :
    Keeps K (State.scrubOne s c a) := by
  unfold State.scrubOne
  repeat' first
    | with_reducible assumption
    | with_reducible refine State.remapLine_keeps ?_
    | with_reducible refine State.dirRead_keeps ?_
    | with_reducible refine State.ringLog_keeps ?_
    | with_reducible refine State.countFixed_keeps ?_
    | with_reducible refine State.putLine_keeps ?_
    | with_reducible refine State.dmcRead_keeps ?_
    | with_reducible refine State.note_keeps ?_
    | with_reducible refine State.raise_keeps ?_
    | with_reducible refine State.bump_keeps ?_
    | with_reducible refine ite_keeps ?_ ?_
    | simp only [keeps_mk, keeps_fold]
    | split

theorem State.scrubNow_keeps {s : State} (hs : Keeps K s) :
    Keeps K (State.scrubNow s) := by
  unfold State.scrubNow
  repeat' first
    | with_reducible assumption
    | with_reducible refine State.passEnd_keeps ?_
    | with_reducible refine ite_keeps ?_ ?_
    | with_reducible refine foldl_keeps ?_ ?_
    | intro q_ _ h_

theorem State.lprBist_keeps {s : State} (hs : Keeps K s) :
    Keeps K (State.lprBist s) := by
  unfold State.lprBist
  repeat' first | with_reducible assumption | with_reducible refine ite_keeps ?_ ?_ | simp only [keeps_mk, keeps_fold]

theorem State.bistEnd_keeps {s : State} {good : Bool} {pair vector : Nat} (hs : Keeps K s) :
    Keeps K (State.bistEnd s good pair vector) := by
  unfold State.bistEnd
  repeat' first
    | with_reducible assumption
    | with_reducible refine State.fatal_keeps ?_
    | with_reducible refine State.note_keeps ?_
    | with_reducible refine ite_keeps ?_ ?_
    | simp only [keeps_mk, keeps_fold]

theorem State.rawSet_keeps {s : State} {r : Nat} {d : Line} {t : Tag} (hs : Keeps K s) :
    Keeps K (State.rawSet s r d t) := by
  unfold State.rawSet
  repeat' first | with_reducible assumption | simp only [keeps_mk, keeps_fold]

theorem State.rawFind_keeps {s : State} {a : Nat} (hs : Keeps K s) :
    Keeps K (State.rawFind s a) := by
  unfold State.rawFind
  repeat' first
    | with_reducible assumption
    | with_reducible refine State.rawSet_keeps ?_
    | with_reducible refine State.countFixed_keeps ?_
    | with_reducible refine State.tickFree_keeps ?_
    | split

theorem State.rawRead_keeps {s : State} (hs : Keeps K s) :
    Keeps K (State.rawRead s) := by
  unfold State.rawRead
  repeat' first
    | with_reducible assumption
    | with_reducible refine State.rawFind_keeps ?_
    | with_reducible refine State.dmcRead_keeps ?_

theorem State.rawReadCmd_keeps {s : State} {path : Nat} (hs : Keeps K s) :
    Keeps K (State.rawReadCmd s path) := by
  unfold State.rawReadCmd
  repeat' first
    | with_reducible assumption
    | with_reducible refine State.rawRead_keeps ?_
    | with_reducible refine State.secDenied_keeps ?_
    | with_reducible refine ite_keeps ?_ ?_

theorem rawResult_keeps {s : State} {n : Nat} (hs : Keeps K s) :
    Keeps K { s with lpr := { s.lpr with rawResult := n } } := by
  simp only [keeps_mk, keeps_fold]
  exact hs

theorem State.rawWriteCmd_keeps {s : State} {path : Nat} (hs : Keeps K s) : Keeps K (s.rawWriteCmd path) := by
  unfold State.rawWriteCmd
  split
  · exact State.secDenied_keeps hs
  · split
    · exact hs
    · exact rawResult_keeps (State.putLine_keeps hs)

theorem State.injectArm_keeps {s : State} {path : Nat} (hs : Keeps K s) :
    Keeps K (State.injectArm s path) := by
  unfold State.injectArm
  repeat' first
    | with_reducible assumption
    | with_reducible refine State.secDenied_keeps ?_
    | with_reducible refine ite_keeps ?_ ?_
    | simp only [keeps_mk, keeps_fold]

theorem State.clrTen_keeps {s : State} {ten : Nat} (hs : Keeps K s) :
    Keeps K (State.clrTen s ten) := by
  unfold State.clrTen
  repeat' first
    | with_reducible assumption
    | with_reducible refine State.setTenant_keeps ?_
    | with_reducible refine ite_keeps ?_ ?_

theorem State.promote_keeps {s0 : State} {folio : Nat} (hs : Keeps K s0) :
    Keeps K (State.promote s0 folio) := by
  unfold State.promote
  repeat' first
    | with_reducible assumption
    | with_reducible refine State.startFill_keeps ?_
    | with_reducible refine State.lookup_keeps ?_
    | with_reducible refine State.bindWay_keeps ?_
    | with_reducible refine State.putFill_keeps ?_
    | with_reducible refine State.bump_keeps ?_
    | with_reducible refine ite_keeps ?_ ?_
    | dsimp only
    | split

theorem State.cleanAll_keeps {s : State} (hs : Keeps K s) :
    Keeps K (State.cleanAll s) := by
  unfold State.cleanAll
  repeat' first
    | with_reducible assumption
    | with_reducible refine State.reshelve_keeps ?_
    | with_reducible refine ite_keeps ?_ ?_
    | with_reducible refine foldl_keeps ?_ ?_
    | simp only [keeps_mk, keeps_fold]
    | intro q_ _ h_

theorem State.disableStart_keeps {s : State} (hs : Keeps K s) :
    Keeps K (State.disableStart s) := by
  unfold State.disableStart
  repeat' first
    | with_reducible assumption
    | with_reducible refine State.cleanAll_keeps ?_
    | with_reducible refine State.raise_keeps ?_
    | with_reducible refine ite_keeps ?_ ?_
    | simp only [keeps_mk, keeps_fold]

theorem State.dirClear_keeps {s : State} (hs : Keeps K s) :
    Keeps K (State.dirClear s) := by
  unfold State.dirClear
  repeat' first
    | with_reducible assumption
    | with_reducible refine State.dirFresh_keeps ?_
    | simp only [keeps_mk, keeps_fold]

theorem State.enableStart_keeps {s : State} (hs : Keeps K s) :
    Keeps K (State.enableStart s) := by
  unfold State.enableStart
  repeat' first
    | with_reducible assumption
    | with_reducible refine State.dirClear_keeps ?_
    | simp only [keeps_mk, keeps_fold]

theorem State.modeWrite_keeps {s : State} {on : Bool} (hs : Keeps K s) :
    Keeps K (State.modeWrite s on) := by
  unfold State.modeWrite
  repeat' first
    | with_reducible assumption
    | with_reducible refine State.enableStart_keeps ?_
    | with_reducible refine State.disableStart_keeps ?_
    | with_reducible refine ite_keeps ?_ ?_
    | simp only [keeps_mk, keeps_fold]

theorem State.walkObjs_keeps {s : State} (hs : Keeps K s) :
    Keeps K (State.walkObjs s) := by
  unfold State.walkObjs
  repeat' first
    | with_reducible assumption
    | with_reducible refine State.setPinRsv_keeps ?_
    | with_reducible refine State.setObj_keeps ?_
    | with_reducible refine State.raise_keeps ?_
    | with_reducible refine ite_keeps ?_ ?_
    | with_reducible refine foldl_keeps ?_ ?_
    | simp only [keeps_mk, keeps_fold]
    | intro q_ _ h_

theorem State.modeEnd_keeps {s : State} {old new : Nat} (hs : Keeps K s) :
    Keeps K (State.modeEnd s old new) := by
  unfold State.modeEnd
  repeat' first
    | with_reducible assumption
    | with_reducible refine State.enableStart_keeps ?_
    | with_reducible refine State.disableStart_keeps ?_
    | with_reducible refine State.note_keeps ?_
    | with_reducible refine State.raise_keeps ?_
    | with_reducible refine ite_keeps ?_ ?_
    | simp only [keeps_mk, keeps_fold]
    | split

theorem State.setBudget_keeps {s : State} {total per : Nat} (hs : Keeps K s) :
    Keeps K (State.setBudget s total per) := by
  unfold State.setBudget
  repeat' first | with_reducible assumption | simp only [keeps_mk, keeps_fold]

theorem State.budgetForm_keeps {s : State} (hs : Keeps K s) :
    Keeps K (State.budgetForm s) := by
  unfold State.budgetForm
  repeat' first
    | with_reducible assumption
    | with_reducible refine State.setBudget_keeps ?_
    | with_reducible refine ite_keeps ?_ ?_

theorem State.stkDrop_keeps {s : State} {n tag : Nat} (hs : Keeps K s) :
    Keeps K (State.stkDrop s n tag) := by
  unfold State.stkDrop
  repeat' first | with_reducible assumption | with_reducible refine State.setLink_keeps ?_

theorem State.stkHeard_keeps {s : State} {n : Nat} {r : StkReq} (hs : Keeps K s) :
    Keeps K (State.stkHeard s n r) := by
  unfold State.stkHeard
  repeat' first
    | with_reducible assumption
    | with_reducible refine State.setLink_keeps ?_
    | with_reducible refine ite_keeps ?_ ?_

theorem State.stkQueue_keeps {s : State} {n : Nat} {r : StkReq} (hs : Keeps K s) :
    Keeps K (State.stkQueue s n r) := by
  unfold State.stkQueue
  repeat' first | with_reducible assumption | with_reducible refine State.setLink_keeps ?_

theorem State.readFail_keeps {s : State} {n : Nat} {r : StkReq} {reason : Nat} (hs : Keeps K s) :
    Keeps K (State.readFail s n r reason) := by
  unfold State.readFail
  repeat' first
    | with_reducible assumption
    | with_reducible refine State.copyArrive_keeps ?_
    | with_reducible refine State.fillFail_keeps ?_
    | with_reducible refine foldl_keeps ?_ ?_
    | intro q_ _ h_

theorem State.evbDrop_keeps {s : State} {folio : Nat} (hs : Keeps K s) :
    Keeps K (State.evbDrop s folio) := by
  unfold State.evbDrop
  repeat' first
    | with_reducible assumption
    | with_reducible refine State.rebind_keeps ?_
    | with_reducible refine State.setWay_keeps ?_
    | with_reducible refine ite_keeps ?_ ?_
    | simp only [keeps_mk, keeps_fold]
    | (extract_lets +onlyGivenNames x_; skip)
    | split

theorem State.writeLost_keeps {s : State} {n : Nat} {r : StkReq} (hs : Keeps K s) :
    Keeps K (State.writeLost s n r) := by
  unfold State.writeLost
  repeat' first
    | with_reducible assumption
    | with_reducible refine State.evbDrop_keeps ?_
    | with_reducible refine State.tileWritten_keeps ?_
    | with_reducible refine ite_keeps ?_ ?_
    | with_reducible refine foldl_keeps ?_ ?_
    | intro q_ _ h_

theorem State.stkLose_keeps {s : State} {n st : Nat} (hs : Keeps K s) :
    Keeps K (State.stkLose s n st) := by
  unfold State.stkLose
  repeat' first
    | with_reducible assumption
    | with_reducible refine State.writeLost_keeps ?_
    | with_reducible refine State.evbDrop_keeps ?_
    | with_reducible refine State.readFail_keeps ?_
    | with_reducible refine State.budgetForm_keeps ?_
    | with_reducible refine State.tellFault_keeps ?_
    | with_reducible refine State.setLink_keeps ?_
    | with_reducible refine State.setShelf_keeps ?_
    | with_reducible refine State.note_keeps ?_
    | with_reducible refine ite_keeps ?_ ?_
    | with_reducible refine foldl_keeps ?_ ?_
    | simp only [keeps_mk, keeps_fold]
    | intro q_ _ h_

theorem State.stkRange_keeps {s : State} {n : Nat} (hs : Keeps K s) :
    Keeps K (State.stkRange s n) := by
  unfold State.stkRange
  repeat' first
    | with_reducible assumption
    | with_reducible refine State.stkLose_keeps ?_
    | with_reducible refine State.note_keeps ?_

theorem State.trimNext_keeps {s : State} {n : Nat} (hs : Keeps K s) :
    Keeps K (State.trimNext s n) := by
  unfold State.trimNext
  repeat' first
    | with_reducible assumption
    | with_reducible refine State.stkSend_keeps ?_
    | with_reducible refine State.stkPump_keeps ?_
    | with_reducible refine State.setLink_keeps ?_
    | with_reducible refine ite_keeps ?_ ?_
    | dsimp only
    | split

theorem State.stkAdopt_keeps {s : State} {n : Nat} (hs : Keeps K s) :
    Keeps K (State.stkAdopt s n) := by
  unfold State.stkAdopt
  repeat' first
    | with_reducible assumption
    | with_reducible refine State.trimNext_keeps ?_
    | with_reducible refine State.budgetForm_keeps ?_
    | with_reducible refine State.setLink_keeps ?_
    | with_reducible refine State.metaTouch_keeps ?_

theorem State.stkReturn_keeps {s : State} {n : Nat} (hs : Keeps K s) :
    Keeps K (State.stkReturn s n) := by
  unfold State.stkReturn
  repeat' first
    | with_reducible assumption
    | with_reducible refine State.trimNext_keeps ?_
    | with_reducible refine State.stkQueue_keeps ?_
    | with_reducible refine State.budgetForm_keeps ?_
    | with_reducible refine State.stkPump_keeps ?_
    | with_reducible refine State.setLink_keeps ?_
    | with_reducible refine State.setShelf_keeps ?_
    | with_reducible refine State.note_keeps ?_
    | with_reducible refine ite_keeps ?_ ?_
    | with_reducible refine foldl_keeps ?_ ?_
    | simp only [keeps_mk, keeps_fold]
    | intro q_ _ h_

theorem State.stkForeign_keeps {s : State} {n : Nat} (hs : Keeps K s) :
    Keeps K (State.stkForeign s n) := by
  unfold State.stkForeign
  repeat' first
    | with_reducible assumption
    | with_reducible refine State.setLink_keeps ?_
    | with_reducible refine State.note_keeps ?_

theorem State.stkJudge_keeps {s : State} {n : Nat} (hs : Keeps K s) :
    Keeps K (State.stkJudge s n) := by
  unfold State.stkJudge
  repeat' first
    | with_reducible assumption
    | with_reducible refine State.stkForeign_keeps ?_
    | with_reducible refine State.stkReturn_keeps ?_
    | with_reducible refine ite_keeps ?_ ?_

theorem State.stkRetry_keeps {s : State} {n : Nat} {r : StkReq} (hs : Keeps K s) :
    Keeps K (State.stkRetry s n r) := by
  unfold State.stkRetry
  repeat' first
    | with_reducible assumption
    | with_reducible refine State.stkLose_keeps ?_
    | with_reducible refine State.readFail_keeps ?_
    | with_reducible refine State.stkDrop_keeps ?_
    | with_reducible refine State.stkPump_keeps ?_
    | with_reducible refine State.setLink_keeps ?_
    | with_reducible refine State.raise_keeps ?_
    | with_reducible refine State.bumpFld_keeps ?_
    | with_reducible refine ite_keeps ?_ ?_

theorem State.stkReplay_keeps {s : State} {n : Nat} (hs : Keeps K s) :
    Keeps K (State.stkReplay s n) := by
  unfold State.stkReplay
  repeat' first
    | with_reducible assumption
    | with_reducible refine State.stkCell_keeps ?_
    | with_reducible refine State.raise_keeps ?_
    | with_reducible refine State.bumpFld_keeps ?_
    | with_reducible refine foldl_keeps ?_ ?_
    | intro q_ _ h_

theorem State.quietLinks_keeps {s : State} (hs : Keeps K s) :
    Keeps K (State.quietLinks s) := by
  unfold State.quietLinks
  repeat' first
    | with_reducible assumption
    | with_reducible refine State.setTvl_keeps ?_
    | with_reducible refine State.emit_keeps ?_
    | with_reducible refine ite_keeps ?_ ?_
    | with_reducible refine foldl_keeps ?_ ?_
    | dsimp only
    | intro q_ _ h_

theorem State.ethIdle_keeps {s : State} (hs : Keeps K s) :
    Keeps K (State.ethIdle s) := by
  unfold State.ethIdle
  repeat' first | with_reducible assumption | simp only [keeps_mk, keeps_fold]

theorem State.twinIdle_keeps {s : State} (hs : Keeps K s) :
    Keeps K (State.twinIdle s) := by
  unfold State.twinIdle
  repeat' first
    | with_reducible assumption
    | with_reducible refine State.setTvl_keeps ?_
    | simp only [keeps_mk, keeps_fold]

theorem State.vaultTwin_keeps {s : State} (hs : Keeps K s) :
    Keeps K (State.vaultTwin s) := by
  unfold State.vaultTwin
  repeat' first
    | with_reducible assumption
    | with_reducible refine State.twinIdle_keeps ?_
    | with_reducible refine State.tellFault_keeps ?_
    | with_reducible refine State.giveUp_keeps ?_
    | with_reducible refine State.handoverOff_keeps ?_
    | with_reducible refine State.cirRearmAll_keeps ?_
    | with_reducible refine State.twinPump_keeps ?_
    | with_reducible refine State.twinOut_keeps ?_
    | with_reducible refine ite_keeps ?_ ?_

theorem State.vaultBegin_keeps {s : State} {n : Nat} (hs : Keeps K s) :
    Keeps K (State.vaultBegin s n) := by
  unfold State.vaultBegin
  repeat' first
    | with_reducible assumption
    | with_reducible refine State.stkQueue_keeps ?_
    | with_reducible refine State.stkPump_keeps ?_

theorem State.vaultWrite_keeps {s : State} (hs : Keeps K s) :
    Keeps K (State.vaultWrite s) := by
  unfold State.vaultWrite
  repeat' first
    | with_reducible assumption
    | with_reducible refine State.stkQueue_keeps ?_
    | with_reducible refine State.stkPump_keeps ?_
    | with_reducible refine ite_keeps ?_ ?_
    | with_reducible refine foldl_keeps ?_ ?_
    | simp only [keeps_mk, keeps_fold]
    | intro q_ _ h_

theorem State.vaultFolios_keeps {s : State} (hs : Keeps K s) :
    Keeps K (State.vaultFolios s) := by
  unfold State.vaultFolios
  repeat' first
    | with_reducible assumption
    | with_reducible refine State.evbSend_keeps ?_
    | with_reducible refine State.metaTake_keeps ?_
    | with_reducible refine State.evbTake_keeps ?_
    | with_reducible refine foldl_keeps ?_ ?_
    | intro q_ _ h_

theorem State.vaultStep_keeps {n : Nat} {s : State} (hs : Keeps K s) :
    Keeps K (State.vaultStep n s) := by
  induction n generalizing s with
  | zero => exact hs
  | succ n ih =>
    unfold State.vaultStep
    split
    · split
      · exact ih (State.vaultWrite_keeps hs)
      · exact hs
    · split
      · exact hs
      · dsimp only
        split
        · exact State.vaultFolios_keeps hs
        · refine ih (foldl_keeps (fun _ _ hs => State.stkPump_keeps (State.stkQueue_keeps hs)) ?_)
          simp only [keeps_mk, keeps_fold]; exact State.vaultFolios_keeps hs
    · split
      · dsimp only
        refine foldl_keeps (fun _ _ hs => State.stkPump_keeps (State.stkQueue_keeps hs)) ?_
        simp only [keeps_mk, keeps_fold]; exact hs
      · exact hs
    · exact hs

theorem State.vaultGo_keeps {s : State} (hs : Keeps K s) :
    Keeps K (State.vaultGo s) := by
  unfold State.vaultGo
  repeat' first
    | with_reducible assumption
    | with_reducible refine State.vaultStep_keeps ?_
    | with_reducible refine ite_keeps ?_ ?_

theorem State.governorSample_keeps {s : State} (hs : Keeps K s) :
    Keeps K s.governorSample := by
  unfold State.governorSample
  lift_lets
  extract_lets +onlyGivenNames r vc dv di okB okV okI vb vf e pw badB badV badI good bad s1
  have h1 : Keeps K s1 := by simp only [s1, keeps_mk, keeps_fold]; exact hs
  clear_value s1
  lift_lets
  extract_lets +onlyGivenNames h mean zero src s2
  have h2 : Keeps K s2 := by simp only [s2, keeps_mk, keeps_fold]; exact h1
  clear_value s2
  refine State.budgetForm_keeps ?_
  split
  · exact State.tickFree_keeps h2
  · exact h2

theorem State.uncleanStreams_keeps {s : State} (hs : Keeps K s) :
    Keeps K (State.uncleanStreams s) := by
  unfold State.uncleanStreams
  repeat' first
    | with_reducible assumption
    | with_reducible refine State.setStream_keeps ?_
    | with_reducible refine foldl_keeps ?_ ?_
    | simp only [keeps_mk, keeps_fold]
    | intro q_ _ h_

theorem State.doVaultAccept_keeps {s : State} (hs : Keeps K s) :
    Keeps K (State.doVaultAccept s).1 := by
  unfold State.doVaultAccept
  repeat' first
    | with_reducible assumption
    | with_reducible refine State.uncleanStreams_keeps ?_
    | with_reducible refine State.awaitEnd_keeps ?_
    | with_reducible refine ite_keeps ?_ ?_
    | simp only [keeps_mk, keeps_fold]
    | split

theorem State.romAnswer_keeps {s : State} {r : Nat} {data : List (BitVec 128)} (hs : Keeps K s) :
    Keeps K (State.romAnswer s r data) := by
  unfold State.romAnswer
  repeat' first | with_reducible assumption | with_reducible refine State.emit_keeps ?_

theorem State.startErase_keeps {s : State} {sec : Nat} (hs : Keeps K s) :
    Keeps K (State.startErase s sec) := by
  unfold State.startErase
  repeat' first
    | with_reducible assumption
    | with_reducible refine State.feed_keeps ?_
    | with_reducible refine State.journal_keeps ?_
    | with_reducible refine State.setFop_keeps ?_

theorem State.flashWait_keeps {s : State} {q : FlashReq} (hs : Keeps K s) :
    Keeps K (State.flashWait s q) := by
  unfold State.flashWait
  repeat' first | with_reducible assumption | simp only [keeps_mk, keeps_fold]

theorem State.romReads_keeps {s : State} {n w : Nat} (hs : Keeps K s) :
    Keeps K (s.romReads n w).1 := by
  induction n generalizing s w with
  | zero => exact hs
  | succ n ih => exact ih (State.romRead_keeps hs)

theorem State.flashRead_keeps {s : State} {w n : Nat} (hs : Keeps K s) :
    Keeps K (State.flashRead s w n) := by
  unfold State.flashRead
  repeat' first
    | with_reducible assumption
    | with_reducible refine State.romReads_keeps ?_
    | with_reducible refine State.flashWait_keeps ?_
    | with_reducible refine State.suspend_keeps ?_
    | with_reducible refine State.romAnswer_keeps ?_
    | with_reducible refine ite_keeps ?_ ?_

theorem State.flashProgram_keeps {s : State} {w : Nat} {d : BitVec 128} (hs : Keeps K s) :
    Keeps K (State.flashProgram s w d) := by
  unfold State.flashProgram
  repeat' first
    | with_reducible assumption
    | with_reducible refine State.flashWait_keeps ?_
    | with_reducible refine State.startErase_keeps ?_
    | with_reducible refine State.suspend_keeps ?_
    | with_reducible refine State.romAnswer_keeps ?_
    | with_reducible refine State.feed_keeps ?_
    | with_reducible refine State.romRead_keeps ?_
    | with_reducible refine State.setFop_keeps ?_
    | with_reducible refine State.note_keeps ?_
    | with_reducible refine State.raise_keeps ?_
    | with_reducible refine State.bump_keeps ?_
    | with_reducible refine ite_keeps ?_ ?_
    | dsimp only
    | split

theorem State.flashErase_keeps {s : State} {sec : Nat} (hs : Keeps K s) :
    Keeps K (State.flashErase s sec) := by
  unfold State.flashErase
  repeat' first
    | with_reducible assumption
    | with_reducible refine State.flashWait_keeps ?_
    | with_reducible refine State.startErase_keeps ?_
    | with_reducible refine ite_keeps ?_ ?_

theorem State.flashRelease_keeps {s : State} (hs : Keeps K s) :
    Keeps K (State.flashRelease s) := by
  unfold State.flashRelease
  repeat' first
    | with_reducible assumption
    | with_reducible refine State.flashErase_keeps ?_
    | with_reducible refine State.flashProgram_keeps ?_
    | with_reducible refine State.flashRead_keeps ?_
    | with_reducible refine foldl_keeps ?_ ?_
    | simp only [keeps_mk, keeps_fold]
    | intro q_ _ h_
    | split

theorem State.daybookErase_keeps {s : State} (hs : Keeps K s) :
    Keeps K (State.daybookErase s) := by
  unfold State.daybookErase
  repeat' first
    | with_reducible assumption
    | with_reducible refine State.startErase_keeps ?_
    | with_reducible refine ite_keeps ?_ ?_
    | simp only [keeps_mk, keeps_fold]
    | split

theorem State.bumpFldN_keeps {s : State} {f : Fld} {n : Nat} (hs : Keeps K s) : Keeps K (s.bumpFldN f n) := by
  induction n generalizing s with
  | zero => exact hs
  | succ n ih => exact ih (State.bumpFld_keeps hs)

theorem State.cfgPut_keeps {s : State} {c off : Nat} {l : List Byte} (hs : Keeps K s) :
    Keeps K (State.cfgPut s c off l) := by
  unfold State.cfgPut
  repeat' first
    | with_reducible assumption
    | with_reducible refine State.emit_keeps ?_
    | simp only [keeps_mk, keeps_fold]

theorem State.cfgErase_keeps {s : State} {c : Nat} (hs : Keeps K s) :
    Keeps K (State.cfgErase s c) := by
  unfold State.cfgErase
  repeat' first
    | with_reducible assumption
    | with_reducible refine State.emit_keeps ?_
    | simp only [keeps_mk, keeps_fold]

theorem State.setSealLatch_keeps {s : State} {c : Nat} {b : Bool} (hs : Keeps K s) :
    Keeps K (State.setSealLatch s c b) := by
  unfold State.setSealLatch
  repeat' first | with_reducible assumption | with_reducible refine ite_keeps ?_ ?_ | simp only [keeps_mk, keeps_fold]

theorem State.rejectCopy_keeps {s : State} {c cause : Nat} (hs : Keeps K s) :
    Keeps K (State.rejectCopy s c cause) := by
  unfold State.rejectCopy
  repeat' first
    | with_reducible assumption
    | with_reducible refine State.note_keeps ?_
    | with_reducible refine State.raise_keeps ?_
    | with_reducible refine State.bumpFld_keeps ?_
    | simp only [keeps_mk, keeps_fold]

theorem State.putPorts_keeps {s : State} {v : List Byte} (hs : Keeps K s) :
    Keeps K (State.putPorts s v) := by
  unfold State.putPorts
  repeat' first
    | with_reducible assumption
    | with_reducible refine State.closeMap_keeps ?_
    | with_reducible refine State.setCtx_keeps ?_
    | with_reducible refine ite_keeps ?_ ?_
    | with_reducible refine foldl_keeps ?_ ?_
    | dsimp only
    | intro q_ _ h_

theorem State.putNet_keeps {s : State} {v : List Byte} (hs : Keeps K s) :
    Keeps K (State.putNet s v) := by
  unfold State.putNet
  repeat' first
    | with_reducible assumption
    | with_reducible refine State.async_keeps ?_
    | with_reducible refine ite_keeps ?_ ?_
    | simp only [keeps_mk, keeps_fold]

theorem State.opTorn_keeps {s : State} {o : FlashOp} (hs : Keeps K s) : Keeps K (s.opTorn o) := by
  cases o with
  | none => exact hs
  | program w d => exact State.setFword_keeps hs
  | erase sec => exact foldl_keeps (fun _ _ h => State.setFword_keeps h) hs

theorem State.flashCut_keeps {s : State} (hs : Keeps K s) :
    Keeps K (State.flashCut s) := by
  unfold State.flashCut
  repeat' first
    | with_reducible assumption
    | with_reducible refine State.opTorn_keeps ?_
    | simp only [keeps_mk, keeps_fold]
    | split

theorem State.restartRgc_keeps {s : State} (hs : Keeps K s) : Keeps K s.restartRgc := by
  have h := State.flashCut_keeps hs
  exact ⟨h.1, h.2⟩

theorem State.folioRead_keeps {s : State} {n : Nat} {r : StkReq} {trimmed bad : Nat} {recs : List (List
    (Line × Tag))} {i : Nat} (hs : Keeps K s) :
    Keeps K (State.folioRead s n r trimmed bad recs i) := by
  unfold State.folioRead
  repeat' first
    | with_reducible assumption
    | with_reducible refine State.copyArrive_keeps ?_
    | with_reducible refine State.neighbour_keeps ?_
    | with_reducible refine State.fillFail_keeps ?_
    | with_reducible refine State.fillArrive_keeps ?_
    | with_reducible refine ite_keeps ?_ ?_
    | dsimp only
    | split

theorem State.readAnswer_keeps {s0 : State} {link : Nat} {r : StkReq} {status trimmed bad : Nat} {recs : List (List
    (Line × Tag))} (hs : Keeps K s0) :
    Keeps K (State.readAnswer s0 link r status trimmed bad recs) := by
  unfold State.readAnswer
  repeat' first
    | with_reducible assumption
    | with_reducible refine State.folioRead_keeps ?_
    | with_reducible refine State.stkRetry_keeps ?_
    | with_reducible refine State.stkRange_keeps ?_
    | with_reducible refine State.readFail_keeps ?_
    | with_reducible refine State.stkHeard_keeps ?_
    | with_reducible refine State.stkDrop_keeps ?_
    | with_reducible refine State.stkPump_keeps ?_
    | with_reducible refine State.setLink_keeps ?_
    | with_reducible refine State.bump_keeps ?_
    | with_reducible refine ite_keeps ?_ ?_
    | with_reducible refine foldl_keeps ?_ ?_
    | intro q_ _ h_

theorem State.vaultAcked_keeps {s : State} {r : StkReq} (hs : Keeps K s) :
    Keeps K (State.vaultAcked s r) := by
  unfold State.vaultAcked
  repeat' first | with_reducible assumption | with_reducible refine ite_keeps ?_ ?_ | simp only [keeps_mk, keeps_fold]

theorem State.writeAnswer_keeps {s0 : State} {link : Nat} {r : StkReq} {status : Nat} (hs : Keeps K s0) :
    Keeps K (State.writeAnswer s0 link r status) := by
  unfold State.writeAnswer
  repeat' first
    | with_reducible assumption
    | with_reducible refine State.vaultAcked_keeps ?_
    | with_reducible refine State.vaultGo_keeps ?_
    | with_reducible refine State.stkRetry_keeps ?_
    | with_reducible refine State.stkRange_keeps ?_
    | with_reducible refine State.stkLose_keeps ?_
    | with_reducible refine State.stkHeard_keeps ?_
    | with_reducible refine State.stkDrop_keeps ?_
    | with_reducible refine State.tileWritten_keeps ?_
    | with_reducible refine State.stkPump_keeps ?_
    | with_reducible refine State.bump_keeps ?_
    | with_reducible refine ite_keeps ?_ ?_
    | simp only [keeps_mk, keeps_fold]

theorem State.trimAnswer_keeps {s0 : State} {link : Nat} {r : StkReq} {status : Nat} (hs : Keeps K s0) :
    Keeps K (State.trimAnswer s0 link r status) := by
  unfold State.trimAnswer
  repeat' first
    | with_reducible assumption
    | with_reducible refine State.stkRetry_keeps ?_
    | with_reducible refine State.trimNext_keeps ?_
    | with_reducible refine State.stkRange_keeps ?_
    | with_reducible refine State.stkLose_keeps ?_
    | with_reducible refine State.stkHeard_keeps ?_
    | with_reducible refine State.stkDrop_keeps ?_
    | with_reducible refine State.stkPump_keeps ?_
    | with_reducible refine State.setLink_keeps ?_
    | with_reducible refine State.setTenant_keeps ?_
    | with_reducible refine ite_keeps ?_ ?_

theorem State.sealAnswer_keeps {s0 : State} {link : Nat} {r : StkReq} {status : Nat} (hs : Keeps K s0) :
    Keeps K (State.sealAnswer s0 link r status) := by
  unfold State.sealAnswer
  repeat' first
    | with_reducible assumption
    | with_reducible refine State.vaultGo_keeps ?_
    | with_reducible refine State.stkRetry_keeps ?_
    | with_reducible refine State.stkRange_keeps ?_
    | with_reducible refine State.stkLose_keeps ?_
    | with_reducible refine State.stkHeard_keeps ?_
    | with_reducible refine State.stkDrop_keeps ?_
    | with_reducible refine State.setLink_keeps ?_
    | with_reducible refine ite_keeps ?_ ?_
    | simp only [keeps_mk, keeps_fold]

theorem State.statusAnswer_keeps {s0 : State} {link : Nat} {r : StkReq} {status : Nat} {payload : List Byte}
    (hs : Keeps K s0) :
    Keeps K (State.statusAnswer s0 link r status payload) := by
  unfold State.statusAnswer
  repeat' first
    | with_reducible assumption
    | with_reducible refine State.vaultBegin_keeps ?_
    | with_reducible refine State.stkRetry_keeps ?_
    | with_reducible refine State.stkJudge_keeps ?_
    | with_reducible refine State.stkRange_keeps ?_
    | with_reducible refine State.stkLose_keeps ?_
    | with_reducible refine State.stkHeard_keeps ?_
    | with_reducible refine State.stkDrop_keeps ?_
    | with_reducible refine State.stkPump_keeps ?_
    | with_reducible refine State.setLink_keeps ?_
    | with_reducible refine ite_keeps ?_ ?_

theorem State.beginAnswer_keeps {s0 : State} {link : Nat} {r : StkReq} {status : Nat} (hs : Keeps K s0) :
    Keeps K (State.beginAnswer s0 link r status) := by
  unfold State.beginAnswer
  repeat' first
    | with_reducible assumption
    | with_reducible refine State.vaultGo_keeps ?_
    | with_reducible refine State.stkRange_keeps ?_
    | with_reducible refine State.stkHeard_keeps ?_
    | with_reducible refine State.stkDrop_keeps ?_
    | with_reducible refine State.setLink_keeps ?_
    | with_reducible refine ite_keeps ?_ ?_
    | simp only [keeps_mk, keeps_fold]

theorem State.beatIn_keeps {s : State} {link count : Nat} (hs : Keeps K s) :
    Keeps K (State.beatIn s link count) := by
  unfold State.beatIn
  repeat' first | with_reducible assumption | with_reducible refine State.setLink_keeps ?_

theorem State.stkMessage_keeps {s : State} {link : Nat} {m : List Byte} (hs : Keeps K s) :
    Keeps K (State.stkMessage s link m) := by
  unfold State.stkMessage
  repeat' first
    | with_reducible assumption
    | with_reducible refine State.beatIn_keeps ?_
    | with_reducible refine State.beginAnswer_keeps ?_
    | with_reducible refine State.statusAnswer_keeps ?_
    | with_reducible refine State.sealAnswer_keeps ?_
    | with_reducible refine State.trimAnswer_keeps ?_
    | with_reducible refine State.writeAnswer_keeps ?_
    | with_reducible refine State.readAnswer_keeps ?_
    | with_reducible refine ite_keeps ?_ ?_
    | (extract_lets +onlyGivenNames x_; skip)
    | split

theorem State.stkBody_keeps {s : State} {link : Nat} {first : Bool} {body : List Byte} (hs : Keeps K s) :
    Keeps K (State.stkBody s link first body) := by
  unfold State.stkBody
  repeat' first
    | with_reducible assumption
    | with_reducible refine State.stkMessage_keeps ?_
    | with_reducible refine State.setLink_keeps ?_
    | with_reducible refine ite_keeps ?_ ?_

theorem State.stkRetrain_keeps {s : State} {link : Nat} (hs : Keeps K s) :
    Keeps K (State.stkRetrain s link) := by
  unfold State.stkRetrain
  repeat' first
    | with_reducible assumption
    | with_reducible refine State.vaultGo_keeps ?_
    | with_reducible refine State.stkLose_keeps ?_
    | with_reducible refine State.setLink_keeps ?_
    | with_reducible refine State.emit_keeps ?_
    | with_reducible refine ite_keeps ?_ ?_

theorem State.doSledAdopt_keeps {s : State} {n : Nat} (hs : Keeps K s) :
    Keeps K (State.doSledAdopt s n).1 := by
  unfold State.doSledAdopt
  repeat' first
    | with_reducible assumption
    | with_reducible refine State.stkAdopt_keeps ?_
    | with_reducible refine State.setShelf_keeps ?_
    | with_reducible refine foldl_keeps ?_ ?_
    | simp only [keeps_mk, keeps_fold]
    | intro q_ _ h_
    | split

theorem State.fwCheck_keeps {s : State} {bank : Nat} (hs : Keeps K s) :
    Keeps K (State.fwCheck s bank).1 := by
  unfold State.fwCheck
  repeat' first
    | with_reducible assumption
    | with_reducible refine State.kceVerify_keeps ?_
    | simp only [keeps_mk, keeps_fold]
    | split

theorem State.runFw_keeps {s : State} {version : Nat} (hs : Keeps K s) :
    Keeps K (State.runFw s version) := by
  unfold State.runFw
  repeat' first | with_reducible assumption | simp only [keeps_mk, keeps_fold]

theorem State.bootFw_keeps {s : State} (hs : Keeps K s) :
    Keeps K (State.bootFw s).1 := by
  unfold State.bootFw
  repeat' first
    | with_reducible assumption
    | with_reducible refine State.runFw_keeps ?_
    | with_reducible refine State.fwCheck_keeps ?_
    | with_reducible refine State.pointTo_keeps ?_
    | with_reducible refine State.note_keeps ?_
    | dsimp only
    | split

theorem State.daybookStart_keeps {s : State} (hs : Keeps K s) :
    Keeps K (State.daybookStart s) := by
  unfold State.daybookStart
  repeat' first
    | with_reducible assumption
    | with_reducible refine State.tickFree_keeps ?_
    | simp only [keeps_mk, keeps_fold]
    | split

theorem State.startFail_keeps {s : State} {cause : Nat} (hs : Keeps K s) :
    Keeps K (State.startFail s cause) := by
  unfold State.startFail
  repeat' first
    | with_reducible assumption
    | with_reducible refine State.note_keeps ?_
    | simp only [keeps_mk, keeps_fold]

theorem State.stepNext_keeps {s : State} (hs : Keeps K s) :
    Keeps K (State.stepNext s) := by
  unfold State.stepNext
  repeat' first | with_reducible assumption | simp only [keeps_mk, keeps_fold]

theorem State.cycleUp_keeps {s : State} (hs : Keeps K s) :
    Keeps K (State.cycleUp s) := by
  unfold State.cycleUp
  repeat' first
    | with_reducible assumption
    | with_reducible refine State.setting_keeps ?_
    | simp only [keeps_mk, keeps_fold]

theorem State.markSuspects_keeps {s : State} (hs : Keeps K s) :
    Keeps K (State.markSuspects s) := by
  unfold State.markSuspects
  repeat' first
    | with_reducible assumption
    | with_reducible refine State.note_keeps ?_
    | with_reducible refine foldl_keeps ?_ ?_
    | simp only [keeps_mk, keeps_fold]
    | intro q_ _ h_

theorem State.channelNew_keeps {s : State} {c : Nat} (hs : Keeps K s) :
    Keeps K (State.channelNew s c) := by
  unfold State.channelNew
  repeat' first
    | with_reducible assumption
    | with_reducible refine State.setting_keeps ?_
    | simp only [keeps_mk, keeps_fold]

theorem State.trainRun_keeps {s : State} {c fails : Nat} (hs : Keeps K s) :
    Keeps K (State.trainRun s c fails) := by
  unfold State.trainRun
  repeat' first
    | with_reducible assumption
    | with_reducible refine State.emit_keeps ?_
    | with_reducible refine foldl_keeps ?_ ?_
    | intro q_ _ h_

theorem State.agesWrite_keeps {s : State} (hs : Keeps K s) : Keeps K s.agesWrite := by
  unfold State.agesWrite
  exact foldl_keeps (fun _ _ h => fch_keeps h) hs

theorem State.dirKept_keeps {s : State} (hs : Keeps K s) :
    Keeps K (State.dirKept s) := by
  unfold State.dirKept
  repeat' first
    | with_reducible assumption
    | with_reducible refine State.agesWrite_keeps ?_
    | with_reducible refine State.dirRead_keeps ?_
    | with_reducible refine State.chargeCache_keeps ?_
    | with_reducible refine State.dirFresh_keeps ?_
    | with_reducible refine State.putPinRsv_keeps ?_
    | with_reducible refine State.putWay_keeps ?_
    | with_reducible refine State.setObj_keeps ?_
    | with_reducible refine ite_keeps ?_ ?_
    | with_reducible refine foldl_keeps ?_ ?_
    | simp only [keeps_mk, keeps_fold]
    | intro q_ _ h_

theorem State.startStep7_keeps {s : State} (hs : Keeps K s) : Keeps K s.startStep7 := by
  unfold State.startStep7
  refine State.stepNext_keeps (ite_keeps ?_ ?_)
  · exact State.dirKept_keeps (fch_keeps hs)
  · have h := State.dirClear_keeps (fch_keeps (a := { s.fch with mode := 3, sets := s.setsFor, since := s.timeUs, cleaned := 0 }) hs)
    exact ⟨h.1, h.2⟩

theorem State.blankTables_keeps {s : State} (hs : Keeps K s) :
    Keeps K (State.blankTables s) := by
  unfold State.blankTables
  repeat' first | with_reducible assumption | simp only [keeps_mk, keeps_fold]

theorem State.metaEntry_keeps {s : State} (hs : Keeps K s) :
    Keeps K (State.metaEntry s) := by
  unfold State.metaEntry
  repeat' first
    | with_reducible assumption
    | with_reducible refine State.setShelf_keeps ?_
    | with_reducible refine State.setTenant_keeps ?_
    | with_reducible refine ite_keeps ?_ ?_

theorem State.metaReads_keeps {s : State} {r : StartRep} (hs : Keeps K s) :
    Keeps K (State.metaReads s r) := by
  unfold State.metaReads
  repeat' first
    | with_reducible assumption
    | with_reducible refine State.emit_keeps ?_
    | with_reducible refine ite_keeps ?_ ?_
    | with_reducible refine foldl_keeps ?_ ?_
    | intro q_ _ h_

theorem State.startStep8_keeps {s : State} {r : StartRep} (hs : Keeps K s) :
    Keeps K (State.startStep8 s r) := by
  unfold State.startStep8
  repeat' first
    | with_reducible assumption
    | with_reducible refine State.metaReads_keeps ?_
    | with_reducible refine State.metaEntry_keeps ?_
    | with_reducible refine State.blankTables_keeps ?_
    | with_reducible refine State.stepNext_keeps ?_
    | with_reducible refine State.stkJudge_keeps ?_
    | with_reducible refine State.stkAdopt_keeps ?_
    | with_reducible refine State.stkLose_keeps ?_
    | with_reducible refine ite_keeps ?_ ?_
    | with_reducible refine foldl_keeps ?_ ?_
    | simp only [keeps_mk, keeps_fold]
    | intro q_ _ h_

theorem State.endAll_keeps {s : State} {cause : Nat} (hs : Keeps K s) :
    Keeps K (State.endAll s cause) := by
  unfold State.endAll
  repeat' first
    | with_reducible assumption
    | with_reducible refine State.endEpoch_keeps ?_
    | with_reducible refine foldl_keeps ?_ ?_
    | intro q_ _ h_

theorem State.restoreStreams_keeps {s : State} (hs : Keeps K s) :
    Keeps K (State.restoreStreams s) := by
  unfold State.restoreStreams
  repeat' first
    | with_reducible assumption
    | with_reducible refine State.holdSegs_keeps ?_
    | with_reducible refine State.setStream_keeps ?_
    | with_reducible refine foldl_keeps ?_ ?_
    | simp only [keeps_mk, keeps_fold]
    | intro q_ _ h_

theorem State.mustAccept_keeps {s : State} {marked : List Nat} (hs : Keeps K s) :
    Keeps K (State.mustAccept s marked) := by
  unfold State.mustAccept
  repeat' first | with_reducible assumption | simp only [keeps_mk, keeps_fold]

theorem State.findStreams_keeps {s : State} {r : StartRep} (hs : Keeps K s) :
    Keeps K (State.findStreams s r) := by
  unfold State.findStreams
  repeat' first
    | with_reducible assumption
    | with_reducible refine State.mustAccept_keeps ?_
    | with_reducible refine State.restoreStreams_keeps ?_
    | with_reducible refine State.endAll_keeps ?_
    | with_reducible refine State.note_keeps ?_
    | with_reducible refine ite_keeps ?_ ?_
    | simp only [keeps_mk, keeps_fold]
    | split

theorem State.consume_keeps {s : State} {r : StartRep} (hs : Keeps K s) :
    Keeps K (State.consume s r) := by
  unfold State.consume
  repeat' first
    | with_reducible assumption
    | with_reducible refine State.setting_keeps ?_
    | simp only [keeps_mk, keeps_fold]
    | split

theorem State.bpmCheck_keeps {s : State} (hs : Keeps K s) :
    Keeps K (State.bpmCheck s) := by
  unfold State.bpmCheck
  repeat' first
    | with_reducible assumption
    | with_reducible refine State.note_keeps ?_
    | with_reducible refine ite_keeps ?_ ?_
    | simp only [keeps_mk, keeps_fold]

theorem State.startLatch_keeps {s : State} (hs : Keeps K s) :
    Keeps K (State.startLatch s) := by
  unfold State.startLatch
  repeat' first
    | with_reducible assumption
    | with_reducible refine State.enableStart_keeps ?_
    | with_reducible refine State.disableStart_keeps ?_
    | with_reducible refine ite_keeps ?_ ?_
    | simp only [keeps_mk, keeps_fold]
    | split

theorem State.startMode_keeps {s : State} {on : Bool} (hs : Keeps K s) :
    Keeps K (State.startMode s on) := by
  unfold State.startMode
  repeat' first
    | with_reducible assumption
    | with_reducible refine State.startLatch_keeps ?_
    | simp only [keeps_mk, keeps_fold]

theorem State.engines_keeps {s : State} (hs : Keeps K s) :
    Keeps K (State.engines s) := by
  unfold State.engines
  repeat' first
    | with_reducible assumption
    | with_reducible refine State.startMode_keeps ?_
    | with_reducible refine State.startLatch_keeps ?_
    | with_reducible refine State.bpmCheck_keeps ?_
    | with_reducible refine State.walkObjs_keeps ?_
    | with_reducible refine State.disableStart_keeps ?_
    | with_reducible refine ite_keeps ?_ ?_
    | simp only [keeps_mk, keeps_fold]

theorem State.keepStreams_keeps {s : State} {r : StartRep} (hs : Keeps K s) :
    Keeps K (State.keepStreams s r) := by
  unfold State.keepStreams
  repeat' first
    | with_reducible assumption
    | with_reducible refine State.endAll_keeps ?_
    | simp only [keeps_mk, keeps_fold]

theorem State.startStep9_keeps {s : State} {r : StartRep} (hs : Keeps K s) :
    Keeps K (State.startStep9 s r) := by
  unfold State.startStep9
  repeat' first
    | with_reducible assumption
    | with_reducible refine State.keepStreams_keeps ?_
    | with_reducible refine State.engines_keeps ?_
    | with_reducible refine State.consume_keeps ?_
    | with_reducible refine State.findStreams_keeps ?_
    | with_reducible refine State.stepNext_keeps ?_
    | with_reducible refine ite_keeps ?_ ?_
    | simp only [keeps_mk, keeps_fold]

theorem State.startStep10_keeps {s : State} (hs : Keeps K s) :
    Keeps K (State.startStep10 s) := by
  unfold State.startStep10
  repeat' first
    | with_reducible assumption
    | with_reducible refine State.stepNext_keeps ?_
    | with_reducible refine State.hello_keeps ?_
    | with_reducible refine State.setRole_keeps ?_
    | with_reducible refine State.openPorts_keeps ?_
    | with_reducible refine ite_keeps ?_ ?_

theorem State.setVcore_keeps {s : State} (hs : Keeps K s) :
    Keeps K (State.setVcore s) := by
  unfold State.setVcore
  repeat' first
    | with_reducible assumption
    | with_reducible refine State.tickFree_keeps ?_
    | with_reducible refine State.emit_keeps ?_

theorem State.pinIgnored_keeps {s : State} (hs : Keeps K s) :
    Keeps K (State.pinIgnored s) := by
  unfold State.pinIgnored
  repeat' first
    | with_reducible assumption
    | with_reducible refine State.raise_keeps ?_
    | with_reducible refine State.bump_keeps ?_

theorem State.pinRelease_keeps {s : State} (hs : Keeps K s) :
    Keeps K (State.pinRelease s) := by
  unfold State.pinRelease
  repeat' first | with_reducible assumption | simp only [keeps_mk, keeps_fold]

theorem State.target0Done_keeps {s : State} (hs : Keeps K s) :
    Keeps K (State.target0Done s) := by
  unfold State.target0Done
  repeat' first
    | with_reducible assumption
    | with_reducible refine State.srcDone_keeps ?_
    | with_reducible refine foldl_keeps ?_ ?_
    | intro q_ _ h_

theorem State.fallBack_keeps {s : State} (hs : Keeps K s) :
    Keeps K (State.fallBack s) := by
  unfold State.fallBack
  repeat' first
    | with_reducible assumption
    | with_reducible refine State.pointTo_keeps ?_
    | with_reducible refine State.note_keeps ?_
    | with_reducible refine State.raise_keeps ?_
    | simp only [keeps_mk, keeps_fold]
    | split

theorem State.wdtFeed_keeps {s : State} {path value : Nat} (hs : Keeps K s) :
    Keeps K (State.wdtFeed s path value) := by
  unfold State.wdtFeed
  repeat' first
    | with_reducible assumption
    | with_reducible refine State.feed_keeps ?_
    | with_reducible refine ite_keeps ?_ ?_

theorem State.blockSources_keeps {s : State} {first last : Nat} (hs : Keeps K s) :
    Keeps K (State.blockSources s first last) := by
  unfold State.blockSources
  repeat' first
    | with_reducible assumption
    | with_reducible refine State.setSrc_keeps ?_
    | with_reducible refine foldl_keeps ?_ ?_
    | dsimp only
    | intro q_ _ h_

theorem State.clockNote_keeps {s : State} {which : Nat} {regained : Bool} (hs : Keeps K s) :
    Keeps K (State.clockNote s which regained) := by
  unfold State.clockNote
  repeat' first | with_reducible assumption | with_reducible refine State.note_keeps ?_

theorem State.pressed_keeps {s : State} {kind action : Nat} (hs : Keeps K s) :
    Keeps K (State.pressed s kind action) := by
  unfold State.pressed
  repeat' first
    | with_reducible assumption
    | with_reducible refine State.snapshot_keeps ?_
    | with_reducible refine State.note_keeps ?_
    | with_reducible refine State.raise_keeps ?_

theorem State.qpsError_keeps {s : State} (hs : Keeps K s) :
    Keeps K (State.qpsError s) := by
  unfold State.qpsError
  repeat' first
    | with_reducible assumption
    | with_reducible refine State.faultEpoch_keeps ?_
    | with_reducible refine State.async_keeps ?_
    | with_reducible refine State.setQp_keeps ?_
    | with_reducible refine State.raise_keeps ?_
    | with_reducible refine State.bump_keeps ?_
    | with_reducible refine foldl_keeps ?_ ?_
    | dsimp only
    | intro q_ _ h_

theorem State.fillsEnd_keeps {s : State} (hs : Keeps K s) :
    Keeps K (State.fillsEnd s) := by
  unfold State.fillsEnd
  repeat' first
    | with_reducible assumption
    | with_reducible refine State.unbind_keeps ?_
    | with_reducible refine State.refund_keeps ?_
    | with_reducible refine State.dropFill_keeps ?_
    | with_reducible refine ite_keeps ?_ ?_
    | with_reducible refine foldl_keeps ?_ ?_
    | simp only [keeps_mk, keeps_fold]
    | intro q_ _ h_
    | (extract_lets +onlyGivenNames x_; skip)
    | split

theorem State.pwrService_keeps {s : State} {slot target : Nat} {run : State → State × Option SvcRes} (hs : Keeps K s)
    (hr : ∀ s, Keeps K s → Keeps K (run s).1) : Keeps K (s.pwrService slot target run) := by
  unfold State.pwrService
  split
  · exact hs
  · refine State.serve_keeps hs ?_
    intro x s hs
    beta_reduce
    split
    · exact hs
    · exact hr s hs

theorem State.checkpoint_keeps {s : State} (hs : Keeps K s) :
    Keeps K (State.checkpoint s) := by
  unfold State.checkpoint
  repeat' first
    | with_reducible assumption
    | with_reducible refine State.setting_keeps ?_
    | simp only [keeps_mk, keeps_fold]

theorem State.trimExit_keeps {s : State} (hs : Keeps K s) :
    Keeps K (State.trimExit s) := by
  unfold State.trimExit
  repeat' first
    | with_reducible assumption
    | with_reducible refine State.setPwr_keeps ?_
    | with_reducible refine State.bumpFld_keeps ?_
    | with_reducible refine ite_keeps ?_ ?_

theorem State.reconcile_keeps {s : State} {mj : Nat} (hs : Keeps K s) :
    Keeps K (State.reconcile s mj) := by
  unfold State.reconcile
  repeat' first
    | with_reducible assumption
    | with_reducible refine State.raise_keeps ?_
    | with_reducible refine State.tickFree_keeps ?_
    | with_reducible refine State.bump_keeps ?_
    | with_reducible refine ite_keeps ?_ ?_
    | simp only [keeps_mk, keeps_fold]

theorem State.setLoad_keeps {s : State} {c : Nat} {x : Option Loading} (hs : Keeps K s) :
    Keeps K (State.setLoad s c x) := by
  unfold State.setLoad
  repeat' first | with_reducible assumption | simp only [keeps_mk, keeps_fold]

theorem State.imagePut_keeps {s : State} {c off : Nat} {data : List Byte} {l : Loading} (hs : Keeps K s) :
    Keeps K (State.imagePut s c off data l) := by
  unfold State.imagePut
  repeat' first
    | with_reducible assumption
    | with_reducible refine State.setLoad_keeps ?_
    | with_reducible refine State.cfgPut_keeps ?_
    | with_reducible refine ite_keeps ?_ ?_

theorem State.doImageWrite_keeps {s : State} {x : MbSlot} (hs : Keeps K s) :
    Keeps K (State.doImageWrite s x).1 := by
  unfold State.doImageWrite
  repeat' first
    | with_reducible assumption
    | with_reducible refine State.imagePut_keeps ?_
    | with_reducible refine State.cfgErase_keeps ?_
    | dsimp only
    | split

theorem State.doImageFloor_keeps {s : State} {x : MbSlot} (hs : Keeps K s) :
    Keeps K (State.doImageFloor s x).1 := by
  unfold State.doImageFloor
  repeat' first
    | with_reducible assumption
    | with_reducible refine State.setting_keeps ?_
    | simp only [keeps_mk, keeps_fold]
    | split

theorem State.fwErase_keeps {s : State} {bank : Nat} (hs : Keeps K s) :
    Keeps K (State.fwErase s bank) := by
  unfold State.fwErase
  repeat' first
    | with_reducible assumption
    | with_reducible refine State.journal_keeps ?_
    | with_reducible refine State.clearSector_keeps ?_
    | with_reducible refine State.bump_keeps ?_
    | with_reducible refine foldl_keeps ?_ ?_
    | simp only [keeps_mk, keeps_fold]
    | intro q_ _ h_

theorem State.fwPut_keeps {s : State} {bank off next : Nat} {data : List Byte} (hs : Keeps K s) :
    Keeps K (State.fwPut s bank off next data) := by
  unfold State.fwPut
  repeat' first
    | with_reducible assumption
    | with_reducible refine State.progWord_keeps ?_
    | with_reducible refine State.setFword_keeps ?_
    | with_reducible refine ite_keeps ?_ ?_
    | with_reducible refine foldl_keeps ?_ ?_
    | simp only [keeps_mk, keeps_fold]
    | intro q_ _ h_

theorem State.doFwWrite_keeps {s : State} {x : MbSlot} (hs : Keeps K s) :
    Keeps K (State.doFwWrite s x).1 := by
  unfold State.doFwWrite
  repeat' first
    | with_reducible assumption
    | with_reducible refine State.fwPut_keeps ?_
    | with_reducible refine State.fwErase_keeps ?_
    | dsimp only
    | split

theorem State.laneSend_keeps {s : State} {n : Nat} {b : Bool} (hs : Keeps K s) : Keeps K (State.laneSend s n b) := by
  unfold State.laneSend
  repeat' first
    | with_reducible assumption
    | with_reducible refine State.tickFree_keeps ?_
    | with_reducible refine State.emit_keeps ?_
    | with_reducible refine ite_keeps ?_ ?_

theorem State.laneInject_keeps {s : State} (hs : Keeps K s) : Keeps K (State.laneInject s) := State.laneSend_keeps hs

theorem State.countUnmapped_keeps {s : State} (hs : Keeps K s) :
    Keeps K (State.countUnmapped s) := by
  unfold State.countUnmapped
  repeat' first | with_reducible assumption | with_reducible refine State.bumpFld_keeps ?_

theorem State.rawWord_keeps {s : State} {x v : Nat} (hs : Keeps K s) : Keeps K (s.rawWord x v) := by
  unfold State.rawWord
  exact ite_keeps (lpr_keeps hs rfl) (lpr_keeps hs rfl)

theorem State.ringRead_keeps {s : State} {x : Nat} (hs : Keeps K s) :
    Keeps K (State.ringRead s x) := by
  unfold State.ringRead
  repeat' first
    | with_reducible assumption
    | with_reducible refine ite_keeps ?_ ?_
    | simp only [keeps_mk, keeps_fold]
    | split

theorem State.pwrInd_keeps {s : State} {x : Nat} (hs : Keeps K s) :
    Keeps K (State.pwrInd s x).1 := by
  unfold State.pwrInd
  repeat' first | with_reducible assumption | simp only [keeps_mk, keeps_fold] | split

theorem State.complete_keeps {s : State} {t n : Nat} (hs : Keeps K s) :
    Keeps K (State.complete s t n) := by
  unfold State.complete
  repeat' first
    | with_reducible assumption
    | with_reducible refine State.srcDone_keeps ?_
    | with_reducible refine State.raise_keeps ?_
    | with_reducible refine State.bump_keeps ?_
    | with_reducible refine ite_keeps ?_ ?_

theorem State.claimRead_keeps {s : State} {t : Nat} (hs : Keeps K s) :
    Keeps K (State.claimRead s t).1 := by
  unfold State.claimRead
  repeat' first
    | with_reducible assumption
    | with_reducible refine State.claim_keeps ?_
    | with_reducible refine State.bump_keeps ?_
    | with_reducible refine ite_keeps ?_ ?_
    | dsimp only
    | split

theorem State.completeAt_keeps {s : State} {t n : Nat} (hs : Keeps K s) :
    Keeps K (State.completeAt s t n) := by
  unfold State.completeAt
  repeat' first
    | with_reducible assumption
    | with_reducible refine State.complete_keeps ?_
    | with_reducible refine ite_keeps ?_ ?_

theorem State.swset_keeps {s : State} {n : Nat} (hs : Keeps K s) :
    Keeps K (State.swset s n) := by
  unfold State.swset
  repeat' first
    | with_reducible assumption
    | with_reducible refine State.raise_keeps ?_
    | with_reducible refine State.setSrc_keeps ?_
    | with_reducible refine ite_keeps ?_ ?_

theorem State.vecWrite_keeps {s : State} {t : Nat} {mask : Bool} (hs : Keeps K s) :
    Keeps K (State.vecWrite s t mask) := by
  unfold State.vecWrite
  repeat' first
    | with_reducible assumption
    | with_reducible refine State.setTgt_keeps ?_
    | with_reducible refine State.emit_keeps ?_
    | with_reducible refine ite_keeps ?_ ?_

theorem State.cmd_keeps {s : State} {w : Nat} {scrub go : Bool} {f : State → State} (hs : Keeps K s)
    (hf : Keeps K s → Keeps K (f s)) :
    Keeps K (s.cmd w scrub go f) := by
  unfold State.cmd
  split
  · exact hs
  · split
    · exact State.bumpFld_keeps hs
    · exact hf hs

theorem State.portsOff_keeps {s : State} {m old : Nat} (hs : Keeps K s) :
    Keeps K (State.portsOff s m old) := by
  unfold State.portsOff
  repeat' first
    | with_reducible assumption
    | with_reducible refine State.ethDown_keeps ?_
    | with_reducible refine ite_keeps ?_ ?_
    | with_reducible refine foldl_keeps ?_ ?_
    | dsimp only
    | intro q_ _ h_

theorem State.slotPut_keeps {s : State} {a v : Nat} (hs : Keeps K s) :
    Keeps K (State.slotPut s a v) := by
  unfold State.slotPut
  repeat' first
    | with_reducible assumption
    | with_reducible refine State.setSlot_keeps ?_
    | with_reducible refine ite_keeps ?_ ?_

theorem State.dftCmd_keeps {s : State} {path : Nat} {f : State → State} (hs : Keeps K s)
    (hf : ∀ s, Keeps K s → Keeps K (f s)) :
    Keeps K (s.dftCmd path f) := by
  unfold State.dftCmd
  split
  · exact hf s hs
  · split
    · exact State.secDenied_keeps hs
    · exact hs

theorem State.tvWriteMsg_keeps {s : State} {lk : Nat} {hdr : BitVec 128} {fmt : Bool} {need : MapEnt → Bool}
    {align : Option Nat} {size : Nat} {op : Nat → WOp} (hs : Keeps K s) :
    Keeps K (State.tvWriteMsg s lk hdr fmt need align size op) := by
  unfold State.tvWriteMsg
  repeat' first
    | with_reducible assumption
    | with_reducible refine State.tvWrite_keeps ?_
    | with_reducible refine State.tvGate_keeps ?_
    | with_reducible refine State.answer_keeps ?_
    | with_reducible refine ite_keeps ?_ ?_
    | with_reducible refine no_keeps ‹_› ?_
    | with_reducible refine ended_keeps ‹_› ?_
    | with_reducible refine go_keeps ‹_› ?_
    | dsimp only
    | (extract_lets +onlyGivenNames x_; skip)
    | split

theorem State.tvAbandon_keeps {s : State} {lk : Nat} {hdr : BitVec 128} {kind : Nat} (hs : Keeps K s) :
    Keeps K (State.tvAbandon s lk hdr kind) := by
  unfold State.tvAbandon
  repeat' first
    | with_reducible assumption
    | with_reducible refine State.tvGate_keeps ?_
    | with_reducible refine State.mirror__keeps ?_
    | with_reducible refine State.answer_keeps ?_
    | with_reducible refine State.setStream_keeps ?_
    | with_reducible refine ite_keeps ?_ ?_
    | with_reducible refine no_keeps ‹_› ?_
    | with_reducible refine ended_keeps ‹_› ?_
    | with_reducible refine go_keeps ‹_› ?_
    | dsimp only
    | (extract_lets +onlyGivenNames x_; skip)
    | split

theorem State.tvEpoch_keeps {s : State} {lk : Nat} {hdr : BitVec 128} {eop : Nat} {body : State → Src → Nat → State}
    (hs : Keeps K s) (hb : ∀ s a b, Keeps K s → Keeps K (body s a b)) :
    Keeps K (s.tvEpoch lk hdr eop body) := by
  unfold State.tvEpoch
  split
  · exact hs
  · split
    · exact no_keeps ‹_› (State.tvGate_keeps hs)
    · exact ended_keeps ‹_› (State.tvGate_keeps hs)
    · have h1 := go_keeps ‹_› (State.tvGate_keeps hs)
      split
      · exact State.answer_keeps h1
      · split
        · exact State.answer_keeps h1
        · split
          · exact State.answer_keeps h1
          · exact hb _ _ _ h1

theorem State.tvMaint_keeps {s : State} {lk : Nat} {hdr slot1 : BitVec 128} {mop : Nat} (hs : Keeps K s) :
    Keeps K (State.tvMaint s lk hdr slot1 mop) := by
  unfold State.tvMaint
  repeat' first
    | with_reducible assumption
    | with_reducible refine State.tvDeny_keeps ?_
    | with_reducible refine State.tvGate_keeps ?_
    | with_reducible refine State.maintAsk_keeps ?_
    | with_reducible refine State.openGrp_keeps ?_
    | with_reducible refine State.answer_keeps ?_
    | with_reducible refine ite_keeps ?_ ?_
    | with_reducible refine no_keeps ‹_› ?_
    | with_reducible refine ended_keeps ‹_› ?_
    | with_reducible refine go_keeps ‹_› ?_
    | dsimp only
    | (extract_lets +onlyGivenNames x_; skip)
    | split

end Sys2Proof.Machine
end

