-- ==== Sys2Proof/Laws/KeepsRows.lean ====
section
/-! SUPPORT. Each of these commands answers a next state with the held part and the canonical stores kept. -/

namespace Sys2Proof.Machine

variable {K : Held}

theorem execBufferAlloc_keeps {owner pool n : Nat} {upsize lossless : Bool} {tenant : Option Nat} {s : State}
    (hs : Keeps K s) :
    ∃ u, execBufferAlloc owner pool n upsize lossless tenant s = .next u ∧ Keeps K u := by
  unfold execBufferAlloc
  repeat' first
    | with_reducible assumption
    | refine finish_keeps ?_
    | with_reducible refine State.bufferFail_keeps ?_
    | with_reducible refine State.bufferCharge_keeps ?_
    | with_reducible refine State.bpmAlloc_keeps ?_
    | with_reducible refine ite_keeps ?_ ?_
    | with_reducible refine fst_keeps ‹_› ?_
    | dsimp only
    | split

theorem execBufferReturn_keeps {ptr owner : Nat} {s : State} (hs : Keeps K s) :
    ∃ u, execBufferReturn ptr owner s = .next u ∧ Keeps K u := by
  unfold execBufferReturn
  repeat' first | with_reducible assumption | refine finish_keeps ?_ | with_reducible refine State.bpmReturn_keeps ?_

theorem execBufferWaitRetry_keeps {k : Nat} {s : State} (hs : Keeps K s) :
    ∃ u, execBufferWaitRetry k s = .next u ∧ Keeps K u := by
  unfold execBufferWaitRetry
  repeat' first
    | with_reducible assumption
    | refine finish_keeps ?_
    | with_reducible refine State.bufferCharge_keeps ?_
    | with_reducible refine State.bpmAlloc_keeps ?_
    | with_reducible refine fst_keeps ‹_› ?_
    | simp only [keeps_mk, keeps_fold]
    | split

theorem execEthFrameReceive_keeps {port len : Nat} {fcsOk : Bool} {pcp dscp : Option Nat} {kind : FrameKind}
    {fixed bad : Nat} {s : State} (hs : Keeps K s) :
    ∃ u, execEthFrameReceive port len fcsOk pcp dscp kind fixed bad s = .next u ∧ Keeps K u := by
  unfold execEthFrameReceive
  repeat' first
    | with_reducible assumption
    | refine finish_keeps ?_
    | with_reducible refine State.roceArrive_keeps ?_
    | with_reducible refine State.ethBuffer_keeps ?_
    | with_reducible refine State.ethDrop_keeps ?_
    | with_reducible refine State.setEthPort_keeps ?_
    | with_reducible refine State.raiseN_keeps ?_
    | with_reducible refine State.raise_keeps ?_
    | with_reducible refine State.bump_keeps ?_
    | with_reducible refine State.bumpBy_keeps ?_
    | with_reducible refine ite_keeps ?_ ?_
    | with_reducible refine fst_keeps ‹_› ?_
    | dsimp only
    | split

theorem execPfcFrame_keeps {port : Nat} {quanta : List (Nat × Nat)} {s : State} (hs : Keeps K s) :
    ∃ u, execPfcFrame port quanta s = .next u ∧ Keeps K u := by
  unfold execPfcFrame
  repeat' first
    | with_reducible assumption
    | refine finish_keeps ?_
    | with_reducible refine State.ethResume_keeps ?_
    | with_reducible refine State.setEthPort_keeps ?_
    | with_reducible refine State.bumpFld_keeps ?_
    | with_reducible refine ite_keeps ?_ ?_

theorem execPfcPauseExpiry_keeps {port prio : Nat} {s : State} (hs : Keeps K s) :
    ∃ u, execPfcPauseExpiry port prio s = .next u ∧ Keeps K u := by
  unfold execPfcPauseExpiry
  repeat' first
    | with_reducible assumption
    | refine finish_keeps ?_
    | with_reducible refine State.ethResume_keeps ?_
    | with_reducible refine ite_keeps ?_ ?_

theorem execPfcWatchdogTrigger_keeps {port prio : Nat} {s : State} (hs : Keeps K s) :
    ∃ u, execPfcWatchdogTrigger port prio s = .next u ∧ Keeps K u := by
  unfold execPfcWatchdogTrigger
  repeat' first
    | with_reducible assumption
    | refine finish_keeps ?_
    | with_reducible refine State.setEthPort_keeps ?_
    | with_reducible refine State.note_keeps ?_
    | with_reducible refine State.raise_keeps ?_
    | with_reducible refine State.bumpBy_keeps ?_
    | with_reducible refine ite_keeps ?_ ?_

theorem execPfcWatchdogRecover_keeps {port prio : Nat} {s : State} (hs : Keeps K s) :
    ∃ u, execPfcWatchdogRecover port prio s = .next u ∧ Keeps K u := by
  unfold execPfcWatchdogRecover
  repeat' first | with_reducible assumption | refine finish_keeps ?_ | with_reducible refine State.setEthPort_keeps ?_

theorem execEthPortDown_keeps {port cause : Nat} {s : State} (hs : Keeps K s) :
    ∃ u, execEthPortDown port cause s = .next u ∧ Keeps K u := by
  unfold execEthPortDown
  repeat' first | with_reducible assumption | refine finish_keeps ?_ | with_reducible refine State.ethDown_keeps ?_

theorem execArpRequest_keeps {port target : Nat} {s : State} (hs : Keeps K s) :
    ∃ u, execArpRequest port target s = .next u ∧ Keeps K u := by
  unfold execArpRequest
  repeat' first
    | with_reducible assumption
    | refine finish_keeps ?_
    | with_reducible refine State.netAnswer_keeps ?_
    | with_reducible refine ite_keeps ?_ ?_

theorem execNeighborSolicit_keeps {port target : Nat} {s : State} (hs : Keeps K s) :
    ∃ u, execNeighborSolicit port target s = .next u ∧ Keeps K u := by
  unfold execNeighborSolicit
  repeat' first
    | with_reducible assumption
    | refine finish_keeps ?_
    | with_reducible refine State.netAnswer_keeps ?_
    | with_reducible refine ite_keeps ?_ ?_

theorem execIcmpEcho_keeps {port dst : Nat} {s : State} (hs : Keeps K s) :
    ∃ u, execIcmpEcho port dst s = .next u ∧ Keeps K u := by
  unfold execIcmpEcho
  repeat' first
    | with_reducible assumption
    | refine finish_keeps ?_
    | with_reducible refine State.netAnswer_keeps ?_
    | with_reducible refine ite_keeps ?_ ?_

theorem execGratuitousArpTimer_keeps {s : State} (hs : Keeps K s) :
    ∃ u, execGratuitousArpTimer s = .next u ∧ Keeps K u := by
  unfold execGratuitousArpTimer
  repeat' first
    | with_reducible assumption
    | refine finish_keeps ?_
    | with_reducible refine State.announce_keeps ?_
    | with_reducible refine ite_keeps ?_ ?_

theorem execCmReq_keeps {port dst src comm qpn psn0 sid mtu : Nat} {rc : Bool} {s : State} (hs : Keeps K s) :
    ∃ u, execCmReq port dst src comm qpn psn0 sid mtu rc s = .next u ∧ Keeps K u := by
  unfold execCmReq
  repeat' first
    | with_reducible assumption
    | refine finish_keeps ?_
    | with_reducible refine State.cmReject_keeps ?_
    | with_reducible refine State.cmArrive_keeps ?_
    | with_reducible refine State.card_keeps ?_
    | with_reducible refine State.setQp_keeps ?_
    | with_reducible refine State.ethSend_keeps ?_
    | with_reducible refine ite_keeps ?_ ?_
    | with_reducible refine fst_keeps ‹_› ?_
    | dsimp only
    | (extract_lets +onlyGivenNames x_; skip)
    | split

theorem execCmRtu_keeps {port dst q : Nat} {s : State} (hs : Keeps K s) :
    ∃ u, execCmRtu port dst q s = .next u ∧ Keeps K u := by
  unfold execCmRtu
  repeat' first
    | with_reducible assumption
    | refine finish_keeps ?_
    | with_reducible refine State.cmArrive_keeps ?_
    | with_reducible refine State.enterRts_keeps ?_
    | with_reducible refine ite_keeps ?_ ?_
    | with_reducible refine fst_keeps ‹_› ?_
    | (extract_lets +onlyGivenNames x_; skip)
    | split

theorem execCmRtsTimeout_keeps {q : Nat} {s : State} (hs : Keeps K s) :
    ∃ u, execCmRtsTimeout q s = .next u ∧ Keeps K u := by
  unfold execCmRtsTimeout
  repeat' first
    | with_reducible assumption
    | refine finish_keeps ?_
    | with_reducible refine State.freeQp_keeps ?_
    | with_reducible refine ite_keeps ?_ ?_

theorem execCmDreq_keeps {port dst q : Nat} {s : State} (hs : Keeps K s) :
    ∃ u, execCmDreq port dst q s = .next u ∧ Keeps K u := by
  unfold execCmDreq
  repeat' first
    | with_reducible assumption
    | refine finish_keeps ?_
    | with_reducible refine State.endQp_keeps ?_
    | with_reducible refine State.cmArrive_keeps ?_
    | with_reducible refine State.cirError_keeps ?_
    | with_reducible refine State.ethSend_keeps ?_
    | with_reducible refine State.bump_keeps ?_
    | with_reducible refine ite_keeps ?_ ?_
    | with_reducible refine fst_keeps ‹_› ?_
    | (extract_lets +onlyGivenNames x_; skip)
    | split

theorem execCmRej_keeps {port dst q : Nat} {s : State} (hs : Keeps K s) :
    ∃ u, execCmRej port dst q s = .next u ∧ Keeps K u := by
  unfold execCmRej
  repeat' first
    | with_reducible assumption
    | refine finish_keeps ?_
    | with_reducible refine State.cmArrive_keeps ?_
    | with_reducible refine State.freeQp_keeps ?_
    | with_reducible refine ite_keeps ?_ ?_
    | with_reducible refine fst_keeps ‹_› ?_
    | (extract_lets +onlyGivenNames x_; skip)
    | split

theorem execCmMra_keeps {port dst q : Nat} {s : State} (hs : Keeps K s) :
    ∃ u, execCmMra port dst q s = .next u ∧ Keeps K u := by
  unfold execCmMra
  repeat' first | with_reducible assumption | refine finish_keeps ?_ | with_reducible refine State.cmArrive_keeps ?_

theorem execRdmaWriteFirst_keeps {port : Nat} {p : RPkt} {s : State} (hs : Keeps K s) :
    ∃ u, execRdmaWriteFirst port p s = .next u ∧ Keeps K u := by
  unfold execRdmaWriteFirst
  repeat' first | with_reducible assumption | refine finish_keeps ?_ | with_reducible refine State.roceArrive_keeps ?_

theorem execRdmaWriteMiddle_keeps {port : Nat} {p : RPkt} {s : State} (hs : Keeps K s) :
    ∃ u, execRdmaWriteMiddle port p s = .next u ∧ Keeps K u := by
  unfold execRdmaWriteMiddle
  repeat' first | with_reducible assumption | refine finish_keeps ?_ | with_reducible refine State.roceArrive_keeps ?_

theorem execRdmaWriteLast_keeps {port : Nat} {p : RPkt} {s : State} (hs : Keeps K s) :
    ∃ u, execRdmaWriteLast port p s = .next u ∧ Keeps K u := by
  unfold execRdmaWriteLast
  repeat' first | with_reducible assumption | refine finish_keeps ?_ | with_reducible refine State.roceArrive_keeps ?_

theorem execRdmaWriteLastImm_keeps {port : Nat} {p : RPkt} {s : State} (hs : Keeps K s) :
    ∃ u, execRdmaWriteLastImm port p s = .next u ∧ Keeps K u := by
  unfold execRdmaWriteLastImm
  repeat' first | with_reducible assumption | refine finish_keeps ?_ | with_reducible refine State.roceArrive_keeps ?_

theorem execRdmaWriteOnly_keeps {port : Nat} {p : RPkt} {s : State} (hs : Keeps K s) :
    ∃ u, execRdmaWriteOnly port p s = .next u ∧ Keeps K u := by
  unfold execRdmaWriteOnly
  repeat' first | with_reducible assumption | refine finish_keeps ?_ | with_reducible refine State.roceArrive_keeps ?_

theorem execRdmaWriteOnlyImm_keeps {port : Nat} {p : RPkt} {s : State} (hs : Keeps K s) :
    ∃ u, execRdmaWriteOnlyImm port p s = .next u ∧ Keeps K u := by
  unfold execRdmaWriteOnlyImm
  repeat' first | with_reducible assumption | refine finish_keeps ?_ | with_reducible refine State.roceArrive_keeps ?_

theorem execRdmaReadRequest_keeps {port : Nat} {p : RPkt} {s : State} (hs : Keeps K s) :
    ∃ u, execRdmaReadRequest port p s = .next u ∧ Keeps K u := by
  unfold execRdmaReadRequest
  repeat' first | with_reducible assumption | refine finish_keeps ?_ | with_reducible refine State.roceArrive_keeps ?_

theorem execCmpSwap_keeps {port : Nat} {p : RPkt} {s : State} (hs : Keeps K s) :
    ∃ u, execCmpSwap port p s = .next u ∧ Keeps K u := by
  unfold execCmpSwap
  repeat' first | with_reducible assumption | refine finish_keeps ?_ | with_reducible refine State.roceArrive_keeps ?_

theorem execFetchAdd_keeps {port : Nat} {p : RPkt} {s : State} (hs : Keeps K s) :
    ∃ u, execFetchAdd port p s = .next u ∧ Keeps K u := by
  unfold execFetchAdd
  repeat' first | with_reducible assumption | refine finish_keeps ?_ | with_reducible refine State.roceArrive_keeps ?_

theorem execRoceCmdClose_keeps {port : Nat} {p : RPkt} {s : State} (hs : Keeps K s) :
    ∃ u, execRoceCmdClose port p s = .next u ∧ Keeps K u := by
  unfold execRoceCmdClose
  repeat' first
    | with_reducible assumption
    | refine finish_keeps ?_
    | with_reducible refine State.roceCommand_keeps ?_

theorem execRoceCmdQueryState_keeps {port : Nat} {p : RPkt} {s : State} (hs : Keeps K s) :
    ∃ u, execRoceCmdQueryState port p s = .next u ∧ Keeps K u := by
  unfold execRoceCmdQueryState
  repeat' first
    | with_reducible assumption
    | refine finish_keeps ?_
    | with_reducible refine State.roceCommand_keeps ?_

theorem execRoceCmdQueryLine_keeps {port : Nat} {p : RPkt} {s : State} (hs : Keeps K s) :
    ∃ u, execRoceCmdQueryLine port p s = .next u ∧ Keeps K u := by
  unfold execRoceCmdQueryLine
  repeat' first
    | with_reducible assumption
    | refine finish_keeps ?_
    | with_reducible refine State.roceCommand_keeps ?_

theorem execRoceCmdQueryReport_keeps {port : Nat} {p : RPkt} {s : State} (hs : Keeps K s) :
    ∃ u, execRoceCmdQueryReport port p s = .next u ∧ Keeps K u := by
  unfold execRoceCmdQueryReport
  repeat' first
    | with_reducible assumption
    | refine finish_keeps ?_
    | with_reducible refine State.roceCommand_keeps ?_

theorem execRoceCmdRelease_keeps {port : Nat} {p : RPkt} {s : State} (hs : Keeps K s) :
    ∃ u, execRoceCmdRelease port p s = .next u ∧ Keeps K u := by
  unfold execRoceCmdRelease
  repeat' first
    | with_reducible assumption
    | refine finish_keeps ?_
    | with_reducible refine State.roceCommand_keeps ?_

theorem execRoceCmdNop_keeps {port : Nat} {p : RPkt} {s : State} (hs : Keeps K s) :
    ∃ u, execRoceCmdNop port p s = .next u ∧ Keeps K u := by
  unfold execRoceCmdNop
  repeat' first
    | with_reducible assumption
    | refine finish_keeps ?_
    | with_reducible refine State.roceCommand_keeps ?_

theorem execContextFetchDone_keeps {q : Nat} {s : State} (hs : Keeps K s) :
    ∃ u, execContextFetchDone q s = .next u ∧ Keeps K u := by
  unfold execContextFetchDone
  repeat' first
    | with_reducible assumption
    | refine finish_keeps ?_
    | with_reducible refine State.missPump_keeps ?_
    | with_reducible refine State.card_keeps ?_
    | with_reducible refine ite_keeps ?_ ?_
    | with_reducible refine fst_keeps ‹_› ?_
    | simp only [keeps_mk, keeps_fold]
    | split

theorem execQpStallRelease_keeps {q : Nat} {s : State} (hs : Keeps K s) :
    ∃ u, execQpStallRelease q s = .next u ∧ Keeps K u := by
  unfold execQpStallRelease
  repeat' first
    | with_reducible assumption
    | refine finish_keeps ?_
    | with_reducible refine State.missPump_keeps ?_
    | with_reducible refine ite_keeps ?_ ?_

theorem execQpErrorFreeTimeout_keeps {q : Nat} {s : State} (hs : Keeps K s) :
    ∃ u, execQpErrorFreeTimeout q s = .next u ∧ Keeps K u := by
  unfold execQpErrorFreeTimeout
  repeat' first
    | with_reducible assumption
    | refine finish_keeps ?_
    | with_reducible refine State.freeQp_keeps ?_
    | with_reducible refine ite_keeps ?_ ?_

theorem execCirConsumerReq_keeps {port dst src comm qpn sid mtu stream slots va rkey : Nat} {rc : Bool} {s : State}
    (hs : Keeps K s) :
    ∃ u, execCirConsumerReq port dst src comm qpn sid mtu stream slots va rkey rc s = .next u ∧ Keeps K u := by
  unfold execCirConsumerReq
  repeat' first
    | with_reducible assumption
    | refine finish_keeps ?_
    | with_reducible refine State.cmReject_keeps ?_
    | with_reducible refine State.cmArrive_keeps ?_
    | with_reducible refine State.cirStart_keeps ?_
    | with_reducible refine State.setCs_keeps ?_
    | with_reducible refine State.card_keeps ?_
    | with_reducible refine State.setQp_keeps ?_
    | with_reducible refine State.ethSend_keeps ?_
    | with_reducible refine ite_keeps ?_ ?_
    | with_reducible refine fst_keeps ‹_› ?_
    | dsimp only
    | split

theorem execTileFetchDone_keeps {stream : Nat} {s : State} (hs : Keeps K s) :
    ∃ u, execTileFetchDone stream s = .next u ∧ Keeps K u := by
  unfold execTileFetchDone
  repeat' first
    | with_reducible assumption
    | refine finish_keeps ?_
    | with_reducible refine State.setCs_keeps ?_
    | (extract_lets +onlyGivenNames x_; skip)
    | split

theorem execCirTileSend_keeps {stream : Nat} {s : State} (hs : Keeps K s) :
    ∃ u, execCirTileSend stream s = .next u ∧ Keeps K u := by
  unfold execCirTileSend
  repeat' first
    | with_reducible assumption
    | refine finish_keeps ?_
    | with_reducible refine State.cirRun_keeps ?_
    | with_reducible refine State.cirPut_keeps ?_
    | with_reducible refine State.setCs_keeps ?_
    | with_reducible refine State.spend_keeps ?_
    | with_reducible refine State.bump_keeps ?_
    | with_reducible refine ite_keeps ?_ ?_
    | dsimp only
    | split

theorem execCirTileAck_keeps {stream psn : Nat} {s : State} (hs : Keeps K s) :
    ∃ u, execCirTileAck stream psn s = .next u ∧ Keeps K u := by
  unfold execCirTileAck
  repeat' first
    | with_reducible assumption
    | refine finish_keeps ?_
    | with_reducible refine State.cirAfter_keeps ?_
    | with_reducible refine State.cirAck_keeps ?_
    | with_reducible refine State.bump_keeps ?_
    | with_reducible refine ite_keeps ?_ ?_

theorem execFreedPoll_keeps {stream : Nat} {s : State} (hs : Keeps K s) :
    ∃ u, execFreedPoll stream s = .next u ∧ Keeps K u := by
  unfold execFreedPoll
  repeat' first
    | with_reducible assumption
    | refine finish_keeps ?_
    | with_reducible refine State.cirPut_keeps ?_
    | with_reducible refine State.setCs_keeps ?_
    | with_reducible refine ite_keeps ?_ ?_

theorem execFreedReadResponse_keeps {stream value : Nat} {s : State} (hs : Keeps K s) :
    ∃ u, execFreedReadResponse stream value s = .next u ∧ Keeps K u := by
  unfold execFreedReadResponse
  repeat' first
    | with_reducible assumption
    | refine finish_keeps ?_
    | with_reducible refine State.cirAfter_keeps ?_
    | with_reducible refine State.cirAck_keeps ?_
    | with_reducible refine State.setCs_keeps ?_
    | with_reducible refine State.bump_keeps ?_
    | with_reducible refine ite_keeps ?_ ?_
    | dsimp only
    | split

theorem execTickKeepalive_keeps {stream : Nat} {s : State} (hs : Keeps K s) :
    ∃ u, execTickKeepalive stream s = .next u ∧ Keeps K u := by
  unfold execTickKeepalive
  repeat' first
    | with_reducible assumption
    | refine finish_keeps ?_
    | with_reducible refine State.cirPut_keeps ?_
    | with_reducible refine State.setCs_keeps ?_
    | with_reducible refine ite_keeps ?_ ?_

theorem execLateWaitTimeout_keeps {stream : Nat} {s : State} (hs : Keeps K s) :
    ∃ u, execLateWaitTimeout stream s = .next u ∧ Keeps K u := by
  unfold execLateWaitTimeout
  repeat' first
    | with_reducible assumption
    | refine finish_keeps ?_
    | with_reducible refine State.setCs_keeps ?_
    | with_reducible refine State.raise_keeps ?_
    | with_reducible refine State.bump_keeps ?_
    | with_reducible refine ite_keeps ?_ ?_

theorem execCompletionAck_keeps {stream : Nat} {s : State} (hs : Keeps K s) :
    ∃ u, execCompletionAck stream s = .next u ∧ Keeps K u := by
  unfold execCompletionAck
  repeat' first
    | with_reducible assumption
    | refine finish_keeps ?_
    | with_reducible refine State.cirComplete_keeps ?_
    | with_reducible refine State.bump_keeps ?_
    | with_reducible refine ite_keeps ?_ ?_

theorem execCirQpError_keeps {stream : Nat} {s : State} (hs : Keeps K s) :
    ∃ u, execCirQpError stream s = .next u ∧ Keeps K u := by
  unfold execCirQpError
  repeat' first
    | with_reducible assumption
    | refine finish_keeps ?_
    | with_reducible refine State.cirError_keeps ?_
    | with_reducible refine ite_keeps ?_ ?_

theorem execCirRateRecover_keeps {stream : Nat} {s : State} (hs : Keeps K s) :
    ∃ u, execCirRateRecover stream s = .next u ∧ Keeps K u := by
  unfold execCirRateRecover
  repeat' first
    | with_reducible assumption
    | refine finish_keeps ?_
    | with_reducible refine State.setCs_keeps ?_
    | (extract_lets +onlyGivenNames x_; skip)
    | split

theorem execCirNak_keeps {stream psn syn : Nat} {s : State} (hs : Keeps K s) :
    ∃ u, execCirNak stream psn syn s = .next u ∧ Keeps K u := by
  unfold execCirNak
  repeat' first
    | with_reducible assumption
    | refine finish_keeps ?_
    | with_reducible refine State.cirAck_keeps ?_
    | with_reducible refine State.cirError_keeps ?_
    | with_reducible refine State.cirResend_keeps ?_
    | with_reducible refine State.setCs_keeps ?_
    | with_reducible refine State.bump_keeps ?_
    | with_reducible refine ite_keeps ?_ ?_

theorem execCirRnrRetry_keeps {stream : Nat} {s : State} (hs : Keeps K s) :
    ∃ u, execCirRnrRetry stream s = .next u ∧ Keeps K u := by
  unfold execCirRnrRetry
  repeat' first
    | with_reducible assumption
    | refine finish_keeps ?_
    | with_reducible refine State.cirResend_keeps ?_
    | with_reducible refine State.setCs_keeps ?_
    | (extract_lets +onlyGivenNames x_; skip)
    | split

theorem execCirAckTimeout_keeps {stream : Nat} {s : State} (hs : Keeps K s) :
    ∃ u, execCirAckTimeout stream s = .next u ∧ Keeps K u := by
  unfold execCirAckTimeout
  repeat' first
    | with_reducible assumption
    | refine finish_keeps ?_
    | with_reducible refine State.cirError_keeps ?_
    | with_reducible refine State.cirResend_keeps ?_
    | with_reducible refine State.setCs_keeps ?_
    | with_reducible refine ite_keeps ?_ ?_
    | (extract_lets +onlyGivenNames x_; skip)
    | split

theorem execCnpReceived_keeps {port dst qpn : Nat} {s : State} (hs : Keeps K s) :
    ∃ u, execCnpReceived port dst qpn s = .next u ∧ Keeps K u := by
  unfold execCnpReceived
  repeat' first
    | with_reducible assumption
    | refine finish_keeps ?_
    | with_reducible refine State.cmArrive_keeps ?_
    | with_reducible refine State.setCs_keeps ?_
    | with_reducible refine State.tickFree_keeps ?_
    | with_reducible refine State.bumpFld_keeps ?_
    | with_reducible refine ite_keeps ?_ ?_
    | with_reducible refine fst_keeps ‹_› ?_
    | dsimp only
    | split

theorem execTvlTrainAttempt_keeps {lk : Nat} {s : State} (hs : Keeps K s) :
    ∃ u, execTvlTrainAttempt lk s = .next u ∧ Keeps K u := by
  unfold execTvlTrainAttempt
  repeat' first
    | with_reducible assumption
    | refine finish_keeps ?_
    | with_reducible refine State.setTvl_keeps ?_
    | with_reducible refine State.emit_keeps ?_
    | with_reducible refine ite_keeps ?_ ?_

theorem execEqTimeout_keeps {lk : Nat} {s : State} (hs : Keeps K s) :
    ∃ u, execEqTimeout lk s = .next u ∧ Keeps K u := by
  unfold execEqTimeout
  repeat' first
    | with_reducible assumption
    | refine finish_keeps ?_
    | with_reducible refine State.tvFail_keeps ?_
    | with_reducible refine ite_keeps ?_ ?_

theorem execAlignDone_keeps {lk : Nat} {reversed : Bool} {s : State} (hs : Keeps K s) :
    ∃ u, execAlignDone lk reversed s = .next u ∧ Keeps K u := by
  unfold execAlignDone
  repeat' first
    | with_reducible assumption
    | refine finish_keeps ?_
    | with_reducible refine State.tvConfigOut_keeps ?_
    | with_reducible refine State.setTvl_keeps ?_
    | with_reducible refine ite_keeps ?_ ?_

theorem execAlignTimeout_keeps {lk : Nat} {s : State} (hs : Keeps K s) :
    ∃ u, execAlignTimeout lk s = .next u ∧ Keeps K u := by
  unfold execAlignTimeout
  repeat' first
    | with_reducible assumption
    | refine finish_keeps ?_
    | with_reducible refine State.tvFail_keeps ?_
    | with_reducible refine ite_keeps ?_ ?_

theorem execConfigFlit_keeps {lk : Nat} {block : List Byte} {s : State} (hs : Keeps K s) :
    ∃ u, execConfigFlit lk block s = .next u ∧ Keeps K u := by
  unfold execConfigFlit
  repeat' first
    | with_reducible assumption
    | refine finish_keeps ?_
    | with_reducible refine State.twinActive_keeps ?_
    | with_reducible refine State.tvActive_keeps ?_
    | with_reducible refine State.tvConfigOut_keeps ?_
    | with_reducible refine State.tvFail_keeps ?_
    | with_reducible refine State.setTvl_keeps ?_
    | with_reducible refine State.note_keeps ?_
    | with_reducible refine State.raise_keeps ?_
    | with_reducible refine ite_keeps ?_ ?_

theorem execConfigTimeout_keeps {lk : Nat} {s : State} (hs : Keeps K s) :
    ∃ u, execConfigTimeout lk s = .next u ∧ Keeps K u := by
  unfold execConfigTimeout
  repeat' first
    | with_reducible assumption
    | refine finish_keeps ?_
    | with_reducible refine State.tvFail_keeps ?_
    | with_reducible refine ite_keeps ?_ ?_

theorem execFlitReceive_keeps {lk : Nat} {hdr : BitVec 64} {slots : List (BitVec 128)} {crc : BitVec 64}
    {bad : Bool} {fixed : Nat} {s : State} (hs : Keeps K s) :
    ∃ u, execFlitReceive lk hdr slots crc bad fixed s = .next u ∧ Keeps K u := by
  unfold execFlitReceive
  repeat' first
    | with_reducible assumption
    | refine finish_keeps ?_
    | with_reducible refine State.tvAccept_keeps ?_
    | with_reducible refine State.twinFlit_keeps ?_
    | with_reducible refine State.tvNak_keeps ?_
    | with_reducible refine State.tvAck_keeps ?_
    | with_reducible refine State.tvReplay_keeps ?_
    | with_reducible refine State.tvPump_keeps ?_
    | with_reducible refine State.setTvl_keeps ?_
    | with_reducible refine State.raise_keeps ?_
    | with_reducible refine State.bump_keeps ?_
    | with_reducible refine State.bumpBy_keeps ?_
    | with_reducible refine ite_keeps ?_ ?_

theorem execReplayTimeout_keeps {lk : Nat} {s : State} (hs : Keeps K s) :
    ∃ u, execReplayTimeout lk s = .next u ∧ Keeps K u := by
  unfold execReplayTimeout
  repeat' first
    | with_reducible assumption
    | refine finish_keeps ?_
    | with_reducible refine State.tvReplay_keeps ?_
    | with_reducible refine ite_keeps ?_ ?_

theorem execFlitLossTimeout_keeps {lk : Nat} {s : State} (hs : Keeps K s) :
    ∃ u, execFlitLossTimeout lk s = .next u ∧ Keeps K u := by
  unfold execFlitLossTimeout
  repeat' first
    | with_reducible assumption
    | refine finish_keeps ?_
    | with_reducible refine State.tvRecover_keeps ?_
    | with_reducible refine ite_keeps ?_ ?_

theorem execRecoveryRegained_keeps {lk ackseq : Nat} {s : State} (hs : Keeps K s) :
    ∃ u, execRecoveryRegained lk ackseq s = .next u ∧ Keeps K u := by
  unfold execRecoveryRegained
  repeat' first
    | with_reducible assumption
    | refine finish_keeps ?_
    | with_reducible refine State.tvAck_keeps ?_
    | with_reducible refine State.tvReplay_keeps ?_
    | with_reducible refine State.tvPump_keeps ?_
    | with_reducible refine State.setTvl_keeps ?_
    | with_reducible refine ite_keeps ?_ ?_

theorem execRecoveryTimeout_keeps {lk : Nat} {s : State} (hs : Keeps K s) :
    ∃ u, execRecoveryTimeout lk s = .next u ∧ Keeps K u := by
  unfold execRecoveryTimeout
  repeat' first
    | with_reducible assumption
    | refine finish_keeps ?_
    | with_reducible refine State.tvLose_keeps ?_
    | with_reducible refine ite_keeps ?_ ?_

theorem execPartnerLoss_keeps {lk : Nat} {s : State} (hs : Keeps K s) :
    ∃ u, execPartnerLoss lk s = .next u ∧ Keeps K u := by
  unfold execPartnerLoss
  repeat' first
    | with_reducible assumption
    | refine finish_keeps ?_
    | with_reducible refine State.tvLose_keeps ?_
    | with_reducible refine ite_keeps ?_ ?_

theorem execLostIdleDone_keeps {lk : Nat} {s : State} (hs : Keeps K s) :
    ∃ u, execLostIdleDone lk s = .next u ∧ Keeps K u := by
  unfold execLostIdleDone
  repeat' first
    | with_reducible assumption
    | refine finish_keeps ?_
    | with_reducible refine State.setTvl_keeps ?_
    | with_reducible refine ite_keeps ?_ ?_

theorem execTwinLinkLost_keeps {s : State} (hs : Keeps K s) :
    ∃ u, execTwinLinkLost s = .next u ∧ Keeps K u := by
  unfold execTwinLinkLost
  repeat' first
    | with_reducible assumption
    | refine finish_keeps ?_
    | with_reducible refine State.twinDown_keeps ?_
    | with_reducible refine State.setTvl_keeps ?_
    | with_reducible refine ite_keeps ?_ ?_

theorem execWFull_keeps {stream line ssn kind : Nat} {result : Bool} {data : Line} {s : State} (hs : Keeps K s) :
    ∃ u, execWFull stream line ssn kind result data s = .next u ∧ Keeps K u := by
  unfold execWFull
  repeat' first | with_reducible assumption | refine finish_keeps ?_ | with_reducible refine State.rxFrame_keeps ?_

theorem execWMasked_keeps {stream line ssn : Nat} {mask : BitVec 128} {data : Line} {s : State} (hs : Keeps K s) :
    ∃ u, execWMasked stream line ssn mask data s = .next u ∧ Keeps K u := by
  unfold execWMasked
  repeat' first | with_reducible assumption | refine finish_keeps ?_ | with_reducible refine State.rxFrame_keeps ?_

theorem execWAtomic_keeps {stream line ssn aop off : Nat} {a b : BitVec 128} {s : State} (hs : Keeps K s) :
    ∃ u, execWAtomic stream line ssn aop off a b s = .next u ∧ Keeps K u := by
  unfold execWAtomic
  repeat' first | with_reducible assumption | refine finish_keeps ?_ | with_reducible refine State.rxFrame_keeps ?_

theorem execWZero_keeps {stream line ssn : Nat} {s : State} (hs : Keeps K s) :
    ∃ u, execWZero stream line ssn s = .next u ∧ Keeps K u := by
  unfold execWZero
  repeat' first | with_reducible assumption | refine finish_keeps ?_ | with_reducible refine State.rxFrame_keeps ?_

theorem execTwinEpochFrame_keeps {stream eop cause : Nat} {mode fin setMode : Bool} {epoch : Nat} {s : State}
    (hs : Keeps K s) :
    ∃ u, execTwinEpochFrame stream eop cause mode fin setMode epoch s = .next u ∧ Keeps K u := by
  unfold execTwinEpochFrame
  repeat' first | with_reducible assumption | refine finish_keeps ?_ | with_reducible refine State.rxFrame_keeps ?_

theorem execTwinSsnFrame_keeps {stream ssn : Nat} {s : State} (hs : Keeps K s) :
    ∃ u, execTwinSsnFrame stream ssn s = .next u ∧ Keeps K u := by
  unfold execTwinSsnFrame
  repeat' first | with_reducible assumption | refine finish_keeps ?_ | with_reducible refine State.rxFrame_keeps ?_

theorem execTwinServiceFrame_keeps {svc : Svc} {result : Nat} {s : State} (hs : Keeps K s) :
    ∃ u, execTwinServiceFrame svc result s = .next u ∧ Keeps K u := by
  unfold execTwinServiceFrame
  repeat' first | with_reducible assumption | refine finish_keeps ?_ | with_reducible refine State.rxFrame_keeps ?_

theorem execTwinFillFrame_keeps {folio : Nat} {s : State} (hs : Keeps K s) :
    ∃ u, execTwinFillFrame folio s = .next u ∧ Keeps K u := by
  unfold execTwinFillFrame
  repeat' first | with_reducible assumption | refine finish_keeps ?_ | with_reducible refine State.rxFrame_keeps ?_

theorem execRsLine_keeps {line : Nat} {tag : Tag} {data : Line} {s : State} (hs : Keeps K s) :
    ∃ u, execRsLine line tag data s = .next u ∧ Keeps K u := by
  unfold execRsLine
  repeat' first | with_reducible assumption | refine finish_keeps ?_ | with_reducible refine State.rxFrame_keeps ?_

theorem execRsTrim_keeps {tile : Nat} {s : State} (hs : Keeps K s) :
    ∃ u, execRsTrim tile s = .next u ∧ Keeps K u := by
  unfold execRsTrim
  repeat' first | with_reducible assumption | refine finish_keeps ?_ | with_reducible refine State.rxFrame_keeps ?_

theorem execRsState_keeps {item : RsItem} {s : State} (hs : Keeps K s) :
    ∃ u, execRsState item s = .next u ∧ Keeps K u := by
  unfold execRsState
  repeat' first | with_reducible assumption | refine finish_keeps ?_ | with_reducible refine State.rxFrame_keeps ?_

theorem execRsRegion_keeps {region : Nat} {s : State} (hs : Keeps K s) :
    ∃ u, execRsRegion region s = .next u ∧ Keeps K u := by
  unfold execRsRegion
  repeat' first | with_reducible assumption | refine finish_keeps ?_ | with_reducible refine State.rxFrame_keeps ?_

theorem execRsEnd_keeps {s : State} (hs : Keeps K s) :
    ∃ u, execRsEnd s = .next u ∧ Keeps K u := by
  unfold execRsEnd
  repeat' first | with_reducible assumption | refine finish_keeps ?_ | with_reducible refine State.rxFrame_keeps ?_

theorem execResyncRegionCopy_keeps {s : State} (hs : Keeps K s) :
    ∃ u, execResyncRegionCopy s = .next u ∧ Keeps K u := by
  unfold execResyncRegionCopy
  repeat' first
    | with_reducible assumption
    | refine finish_keeps ?_
    | with_reducible refine State.copyStart_keeps ?_
    | with_reducible refine ite_keeps ?_ ?_

theorem execApplied_keeps {mseq : Nat} {s : State} (hs : Keeps K s) :
    ∃ u, execApplied mseq s = .next u ∧ Keeps K u := by
  unfold execApplied
  repeat' first
    | with_reducible assumption
    | refine finish_keeps ?_
    | with_reducible refine State.unpend_keeps ?_
    | with_reducible refine State.returnFrame_keeps ?_ ?_
    | with_reducible refine State.releaseAll_keeps ?_
    | with_reducible refine ite_keeps ?_ ?_
    | with_reducible refine foldl_keeps ?_ ?_
    | simp only [keeps_mk, keeps_fold]
    | intro q_ _ h_
    | intro q_ h_

theorem execResult_keeps {mseq : Nat} {casOk : Bool} {old : Nat} {s : State} (hs : Keeps K s) :
    ∃ u, execResult mseq casOk old s = .next u ∧ Keeps K u := by
  unfold execResult
  repeat' first
    | with_reducible assumption
    | refine finish_keeps ?_
    | with_reducible refine State.returnFrame_keeps ?_ ?_
    | with_reducible refine State.fenceOut_keeps ?_
    | with_reducible refine State.releaseAcks_keeps ?_
    | with_reducible refine State.setStream_keeps ?_
    | with_reducible refine State.note_keeps ?_
    | with_reducible refine State.raise_keeps ?_
    | with_reducible refine State.bumpFld_keeps ?_
    | with_reducible refine ite_keeps ?_ ?_
    | simp only [keeps_mk, keeps_fold]
    | intro q_ h_
    | split

theorem execDigest_keeps {stream epoch : Nat} {skipped : Bool} {crc : BitVec 64} {mseq : Nat} {s : State}
    (hs : Keeps K s) :
    ∃ u, execDigest stream epoch skipped crc mseq s = .next u ∧ Keeps K u := by
  unfold execDigest
  repeat' first
    | with_reducible assumption
    | refine finish_keeps ?_
    | with_reducible refine State.digestFail_keeps ?_
    | with_reducible refine State.returnFrame_keeps ?_ ?_
    | with_reducible refine State.setStream_keeps ?_
    | with_reducible refine State.bumpFld_keeps ?_
    | with_reducible refine State.bump_keeps ?_
    | with_reducible refine ite_keeps ?_ ?_
    | dsimp only
    | intro q_ h_
    | split

theorem execDigestTimeout_keeps {stream : Nat} {s : State} (hs : Keeps K s) :
    ∃ u, execDigestTimeout stream s = .next u ∧ Keeps K u := by
  unfold execDigestTimeout
  repeat' first
    | with_reducible assumption
    | refine finish_keeps ?_
    | with_reducible refine State.digestFail_keeps ?_
    | with_reducible refine ite_keeps ?_ ?_
    | (extract_lets +onlyGivenNames x_; skip)
    | split

theorem execTwinStatus_keeps {free stage mseq : Nat} {s : State} (hs : Keeps K s) :
    ∃ u, execTwinStatus free stage mseq s = .next u ∧ Keeps K u := by
  unfold execTwinStatus
  repeat' first
    | with_reducible assumption
    | refine finish_keeps ?_
    | with_reducible refine State.returnFrame_keeps ?_ ?_
    | with_reducible refine State.runAllocWaits_keeps ?_
    | with_reducible refine ite_keeps ?_ ?_
    | simp only [keeps_mk, keeps_fold]
    | intro q_ h_

theorem execStatusTimer_keeps {s : State} (hs : Keeps K s) :
    ∃ u, execStatusTimer s = .next u ∧ Keeps K u := by
  unfold execStatusTimer
  repeat' first
    | with_reducible assumption
    | refine finish_keeps ?_
    | with_reducible refine State.twinOut_keeps ?_
    | with_reducible refine ite_keeps ?_ ?_

theorem execFault_keeps {cause mseq : Nat} {s : State} (hs : Keeps K s) :
    ∃ u, execFault cause mseq s = .next u ∧ Keeps K u := by
  unfold execFault
  repeat' first
    | with_reducible assumption
    | refine finish_keeps ?_
    | with_reducible refine State.returnFrame_keeps ?_ ?_
    | with_reducible refine State.fenceOut_keeps ?_
    | with_reducible refine State.standbyLost_keeps ?_
    | with_reducible refine State.twinOut_keeps ?_
    | with_reducible refine ite_keeps ?_ ?_
    | intro q_ h_

theorem execDiverge_keeps {regions : List Nat} {s : State} (hs : Keeps K s) :
    ∃ u, execDiverge regions s = .next u ∧ Keeps K u := by
  unfold execDiverge
  repeat' first
    | with_reducible assumption
    | refine finish_keeps ?_
    | with_reducible refine State.twinProtocol_keeps ?_
    | with_reducible refine State.mark_keeps ?_
    | with_reducible refine ite_keeps ?_ ?_
    | with_reducible refine foldl_keeps ?_ ?_
    | intro q_ _ h_

theorem execAppliedStall_keeps {s : State} (hs : Keeps K s) :
    ∃ u, execAppliedStall s = .next u ∧ Keeps K u := by
  unfold execAppliedStall
  repeat' first
    | with_reducible assumption
    | refine finish_keeps ?_
    | with_reducible refine State.fenceOut_keeps ?_
    | with_reducible refine ite_keeps ?_ ?_

theorem execLeaseTimer_keeps {s : State} (hs : Keeps K s) :
    ∃ u, execLeaseTimer s = .next u ∧ Keeps K u := by
  unfold execLeaseTimer
  repeat' first
    | with_reducible assumption
    | refine finish_keeps ?_
    | with_reducible refine State.twinOut_keeps ?_
    | with_reducible refine ite_keeps ?_ ?_
    | simp only [keeps_mk, keeps_fold]

theorem execLease_keeps {gen renew mseq : Nat} {s : State} (hs : Keeps K s) :
    ∃ u, execLease gen renew mseq s = .next u ∧ Keeps K u := by
  unfold execLease
  repeat' first
    | with_reducible assumption
    | refine finish_keeps ?_
    | with_reducible refine State.twinOut_keeps ?_
    | with_reducible refine ite_keeps ?_ ?_
    | simp only [keeps_mk, keeps_fold]

theorem execLeaseAck_keeps {gen renew : Nat} {s : State} (hs : Keeps K s) :
    ∃ u, execLeaseAck gen renew s = .next u ∧ Keeps K u := by
  unfold execLeaseAck
  repeat' first
    | with_reducible assumption
    | refine finish_keeps ?_
    | with_reducible refine ite_keeps ?_ ?_
    | simp only [keeps_mk, keeps_fold]
    | split

theorem execLeaseDrop_keeps {gen mseq reason : Nat} {s : State} (hs : Keeps K s) :
    ∃ u, execLeaseDrop gen mseq reason s = .next u ∧ Keeps K u := by
  unfold execLeaseDrop
  repeat' first
    | with_reducible assumption
    | refine finish_keeps ?_
    | with_reducible refine State.metaTouch_keeps ?_
    | with_reducible refine ite_keeps ?_ ?_
    | simp only [keeps_mk, keeps_fold]

theorem execLeaseLapse_keeps {s : State} (hs : Keeps K s) :
    ∃ u, execLeaseLapse s = .next u ∧ Keeps K u := by
  unfold execLeaseLapse
  repeat' first
    | with_reducible assumption
    | refine finish_keeps ?_
    | with_reducible refine State.demote_keeps ?_
    | with_reducible refine ite_keeps ?_ ?_

theorem execLeaseViewExpiry_keeps {s : State} (hs : Keeps K s) :
    ∃ u, execLeaseViewExpiry s = .next u ∧ Keeps K u := by
  unfold execLeaseViewExpiry
  repeat' first
    | with_reducible assumption
    | refine finish_keeps ?_
    | with_reducible refine State.gain_keeps ?_
    | with_reducible refine ite_keeps ?_ ?_
    | simp only [keeps_mk, keeps_fold]

theorem execFence_keeps {gen reason : Nat} {s : State} (hs : Keeps K s) :
    ∃ u, execFence gen reason s = .next u ∧ Keeps K u := by
  unfold execFence
  repeat' first
    | with_reducible assumption
    | refine finish_keeps ?_
    | with_reducible refine State.fenced_keeps ?_
    | with_reducible refine State.note_keeps ?_
    | with_reducible refine State.raise_keeps ?_
    | with_reducible refine ite_keeps ?_ ?_

theorem execHello_keeps {gen : Nat} {wasHolder stateOk vaultOk : Bool} {role diverge : Nat} {s : State}
    (hs : Keeps K s) :
    ∃ u, execHello gen wasHolder stateOk vaultOk role diverge s = .next u ∧ Keeps K u := by
  unfold execHello
  repeat' first
    | with_reducible assumption
    | refine finish_keeps ?_
    | with_reducible refine State.acceptJoin_keeps ?_
    | with_reducible refine State.gain_keeps ?_
    | with_reducible refine State.hello_keeps ?_
    | with_reducible refine State.twinOut_keeps ?_
    | with_reducible refine ite_keeps ?_ ?_
    | simp only [keeps_mk, keeps_fold]
    | split

theorem execJoin_keeps {gen : Nat} {accept : Bool} {reason : Nat} {s : State} (hs : Keeps K s) :
    ∃ u, execJoin gen accept reason s = .next u ∧ Keeps K u := by
  unfold execJoin
  repeat' first
    | with_reducible assumption
    | refine finish_keeps ?_
    | with_reducible refine State.detach_keeps ?_
    | with_reducible refine State.metaTouch_keeps ?_
    | with_reducible refine ite_keeps ?_ ?_
    | simp only [keeps_mk, keeps_fold]

theorem execHbPulseOut_keeps {s : State} (hs : Keeps K s) :
    ∃ u, execHbPulseOut s = .next u ∧ Keeps K u := by
  unfold execHbPulseOut
  repeat' first
    | with_reducible assumption
    | refine finish_keeps ?_
    | with_reducible refine State.emit_keeps ?_
    | with_reducible refine ite_keeps ?_ ?_

theorem execHbPulseIn_keeps {ns : Nat} {s : State} (hs : Keeps K s) :
    ∃ u, execHbPulseIn ns s = .next u ∧ Keeps K u := by
  unfold execHbPulseIn
  repeat' first
    | with_reducible assumption
    | refine finish_keeps ?_
    | with_reducible refine State.detach_keeps ?_
    | with_reducible refine State.bump_keeps ?_
    | with_reducible refine ite_keeps ?_ ?_
    | simp only [keeps_mk, keeps_fold]

theorem execHbAbsent_keeps {s : State} (hs : Keeps K s) :
    ∃ u, execHbAbsent s = .next u ∧ Keeps K u := by
  unfold execHbAbsent
  repeat' first
    | with_reducible assumption
    | refine finish_keeps ?_
    | with_reducible refine State.detach_keeps ?_
    | with_reducible refine ite_keeps ?_ ?_
    | simp only [keeps_mk, keeps_fold]

theorem execClaimTimer_keeps {s : State} (hs : Keeps K s) :
    ∃ u, execClaimTimer s = .next u ∧ Keeps K u := by
  unfold execClaimTimer
  repeat' first
    | with_reducible assumption
    | refine finish_keeps ?_
    | with_reducible refine State.witnessAsk_keeps ?_
    | with_reducible refine ite_keeps ?_ ?_

theorem execBootTimeout_keeps {s : State} (hs : Keeps K s) :
    ∃ u, execBootTimeout s = .next u ∧ Keeps K u := by
  unfold execBootTimeout
  repeat' first
    | with_reducible assumption
    | refine finish_keeps ?_
    | with_reducible refine ite_keeps ?_ ?_
    | simp only [keeps_mk, keeps_fold]

theorem execWitnessRenewTimer_keeps {s : State} (hs : Keeps K s) :
    ∃ u, execWitnessRenewTimer s = .next u ∧ Keeps K u := by
  unfold execWitnessRenewTimer
  repeat' first
    | with_reducible assumption
    | refine finish_keeps ?_
    | with_reducible refine State.witnessAsk_keeps ?_
    | with_reducible refine ite_keeps ?_ ?_

theorem execWitnessRetry_keeps {s : State} (hs : Keeps K s) :
    ∃ u, execWitnessRetry s = .next u ∧ Keeps K u := by
  unfold execWitnessRetry
  repeat' first
    | with_reducible assumption
    | refine finish_keeps ?_
    | with_reducible refine State.witnessMail_keeps ?_
    | simp only [keeps_mk, keeps_fold]
    | split

theorem execWitnessGrant_keeps {msg : List Byte} {s : State} (hs : Keeps K s) :
    ∃ u, execWitnessGrant msg s = .next u ∧ Keeps K u := by
  unfold execWitnessGrant
  repeat' first
    | with_reducible assumption
    | refine finish_keeps ?_
    | with_reducible refine State.witnessTake_keeps ?_
    | with_reducible refine State.gain_keeps ?_
    | with_reducible refine ite_keeps ?_ ?_
    | with_reducible refine fst_keeps ‹_› ?_
    | simp only [keeps_mk, keeps_fold]
    | (extract_lets +onlyGivenNames x_; skip)
    | split

theorem execWitnessDenyHeld_keeps {msg : List Byte} {s : State} (hs : Keeps K s) :
    ∃ u, execWitnessDenyHeld msg s = .next u ∧ Keeps K u := by
  unfold execWitnessDenyHeld
  repeat' first
    | with_reducible assumption
    | refine finish_keeps ?_
    | with_reducible refine State.denied_keeps ?_
    | with_reducible refine State.takeoverFail_keeps ?_
    | with_reducible refine State.witnessTake_keeps ?_
    | with_reducible refine State.demote_keeps ?_
    | with_reducible refine ite_keeps ?_ ?_
    | with_reducible refine fst_keeps ‹_› ?_
    | dsimp only
    | (extract_lets +onlyGivenNames x_; skip)
    | split

theorem execWitnessDenyStale_keeps {msg : List Byte} {s : State} (hs : Keeps K s) :
    ∃ u, execWitnessDenyStale msg s = .next u ∧ Keeps K u := by
  unfold execWitnessDenyStale
  repeat' first
    | with_reducible assumption
    | refine finish_keeps ?_
    | with_reducible refine State.denied_keeps ?_
    | with_reducible refine State.takeoverFail_keeps ?_
    | with_reducible refine State.witnessTake_keeps ?_
    | with_reducible refine State.detach_keeps ?_
    | with_reducible refine State.witnessAsk_keeps ?_
    | with_reducible refine State.demote_keeps ?_
    | with_reducible refine State.hello_keeps ?_
    | with_reducible refine State.metaTouch_keeps ?_
    | with_reducible refine ite_keeps ?_ ?_
    | with_reducible refine fst_keeps ‹_› ?_
    | simp only [keeps_mk, keeps_fold]
    | (extract_lets +onlyGivenNames x_; skip)
    | split

theorem execServiceComplete_keeps {slot : Nat} {s : State} (hs : Keeps K s) :
    ∃ u, execServiceComplete slot s = .next u ∧ Keeps K u := by
  unfold execServiceComplete
  repeat' first
    | with_reducible assumption
    | refine finish_keeps ?_
    | with_reducible refine State.slotDone_keeps ?_
    | with_reducible refine ite_keeps ?_ ?_
    | (extract_lets +onlyGivenNames x_; skip)
    | split

theorem execMbDoorbell_keeps {slot : Nat} {s : State} (hs : Keeps K s) :
    ∃ u, execMbDoorbell slot s = .next u ∧ Keeps K u := by
  unfold execMbDoorbell
  repeat' first | with_reducible assumption | refine finish_keeps ?_ | with_reducible refine State.doorbell_keeps ?_

theorem execAckRestart_keeps {s : State} (hs : Keeps K s) :
    ∃ u, execAckRestart s = .next u ∧ Keeps K u := by
  unfold execAckRestart
  repeat' first | with_reducible assumption | refine finish_keeps ?_ | with_reducible refine State.ackRestart_keeps ?_

theorem execRefreshDue_keeps {ch : Nat} {s : State} (hs : Keeps K s) :
    ∃ u, execRefreshDue ch s = .next u ∧ Keeps K u := by
  unfold execRefreshDue
  repeat' first
    | with_reducible assumption
    | refine finish_keeps ?_
    | with_reducible refine State.dramRanks_keeps ?_
    | with_reducible refine ite_keeps ?_ ?_

theorem execRemapPersist_keeps {ch entry : Nat} {s : State} (hs : Keeps K s) :
    ∃ u, execRemapPersist ch entry s = .next u ∧ Keeps K u := by
  unfold execRemapPersist
  repeat' first
    | with_reducible assumption
    | refine finish_keeps ?_
    | with_reducible refine State.setRemap_keeps ?_
    | with_reducible refine State.setting_keeps ?_
    | with_reducible refine ite_keeps ?_ ?_

theorem execScrubLine_keeps {ch : Nat} {s : State} (hs : Keeps K s) :
    ∃ u, execScrubLine ch s = .next u ∧ Keeps K u := by
  unfold execScrubLine
  repeat' first
    | with_reducible assumption
    | refine finish_keeps ?_
    | with_reducible refine State.scrubOne_keeps ?_
    | with_reducible refine State.passEnd_keeps ?_
    | with_reducible refine ite_keeps ?_ ?_
    | simp only [keeps_mk, keeps_fold]

theorem execScrubNow_keeps {s : State} (hs : Keeps K s) :
    ∃ u, execScrubNow s = .next u ∧ Keeps K u := by
  unfold execScrubNow
  repeat' first | with_reducible assumption | refine finish_keeps ?_ | with_reducible refine State.scrubNow_keeps ?_

theorem execLprBist_keeps {s : State} (hs : Keeps K s) :
    ∃ u, execLprBist s = .next u ∧ Keeps K u := by
  unfold execLprBist
  repeat' first | with_reducible assumption | refine finish_keeps ?_ | with_reducible refine State.lprBist_keeps ?_

theorem execLprBistDone_keeps {good : Bool} {pair vector : Nat} {s : State} (hs : Keeps K s) :
    ∃ u, execLprBistDone good pair vector s = .next u ∧ Keeps K u := by
  unfold execLprBistDone
  repeat' first
    | with_reducible assumption
    | refine finish_keeps ?_
    | with_reducible refine State.bistEnd_keeps ?_
    | with_reducible refine ite_keeps ?_ ?_

theorem execRawRead_keeps {path : Nat} {s : State} (hs : Keeps K s) :
    ∃ u, execRawRead path s = .next u ∧ Keeps K u := by
  unfold execRawRead
  repeat' first | with_reducible assumption | refine finish_keeps ?_ | with_reducible refine State.rawReadCmd_keeps ?_

theorem execRawWrite_keeps {path : Nat} {s : State} (hs : Keeps K s) :
    ∃ u, execRawWrite path s = .next u ∧ Keeps K u := by
  unfold execRawWrite
  repeat' first
    | with_reducible assumption
    | refine finish_keeps ?_
    | with_reducible refine State.rawWriteCmd_keeps ?_

theorem execInjectArm_keeps {path : Nat} {s : State} (hs : Keeps K s) :
    ∃ u, execInjectArm path s = .next u ∧ Keeps K u := by
  unfold execInjectArm
  repeat' first | with_reducible assumption | refine finish_keeps ?_ | with_reducible refine State.injectArm_keeps ?_

theorem execTenantSet_keeps {slot : Nat} {s : State} (hs : Keeps K s) :
    ∃ u, execTenantSet slot s = .next u ∧ Keeps K u := by
  unfold execTenantSet
  repeat' first | with_reducible assumption | refine finish_keeps ?_ | with_reducible refine State.serveM_keeps ?_

theorem execPortBind_keeps {slot : Nat} {s : State} (hs : Keeps K s) :
    ∃ u, execPortBind slot s = .next u ∧ Keeps K u := by
  unfold execPortBind
  repeat' first | with_reducible assumption | refine finish_keeps ?_ | with_reducible refine State.serveM_keeps ?_

theorem execObjCreate_keeps {slot : Nat} {s : State} (hs : Keeps K s) :
    ∃ u, execObjCreate slot s = .next u ∧ Keeps K u := by
  unfold execObjCreate
  repeat' first | with_reducible assumption | refine finish_keeps ?_ | with_reducible refine State.serveM_keeps ?_

theorem execObjResize_keeps {slot : Nat} {s : State} (hs : Keeps K s) :
    ∃ u, execObjResize slot s = .next u ∧ Keeps K u := by
  unfold execObjResize
  repeat' first | with_reducible assumption | refine finish_keeps ?_ | with_reducible refine State.serveM_keeps ?_

theorem execObjPlace_keeps {slot : Nat} {s : State} (hs : Keeps K s) :
    ∃ u, execObjPlace slot s = .next u ∧ Keeps K u := by
  unfold execObjPlace
  repeat' first | with_reducible assumption | refine finish_keeps ?_ | with_reducible refine State.serveM_keeps ?_

theorem execObjDelete_keeps {slot : Nat} {s : State} (hs : Keeps K s) :
    ∃ u, execObjDelete slot s = .next u ∧ Keeps K u := by
  unfold execObjDelete
  repeat' first | with_reducible assumption | refine finish_keeps ?_ | with_reducible refine State.serveM_keeps ?_

theorem execGrantSet_keeps {slot : Nat} {s : State} (hs : Keeps K s) :
    ∃ u, execGrantSet slot s = .next u ∧ Keeps K u := by
  unfold execGrantSet
  repeat' first | with_reducible assumption | refine finish_keeps ?_ | with_reducible refine State.serveM_keeps ?_

theorem execGrantClear_keeps {slot : Nat} {s : State} (hs : Keeps K s) :
    ∃ u, execGrantClear slot s = .next u ∧ Keeps K u := by
  unfold execGrantClear
  repeat' first | with_reducible assumption | refine finish_keeps ?_ | with_reducible refine State.serveM_keeps ?_

theorem execWindowSet_keeps {slot : Nat} {s : State} (hs : Keeps K s) :
    ∃ u, execWindowSet slot s = .next u ∧ Keeps K u := by
  unfold execWindowSet
  repeat' first | with_reducible assumption | refine finish_keeps ?_ | with_reducible refine State.serveM_keeps ?_

theorem execWindowClear_keeps {slot : Nat} {s : State} (hs : Keeps K s) :
    ∃ u, execWindowClear slot s = .next u ∧ Keeps K u := by
  unfold execWindowClear
  repeat' first | with_reducible assumption | refine finish_keeps ?_ | with_reducible refine State.serveM_keeps ?_

theorem execNetHostSet_keeps {slot : Nat} {s : State} (hs : Keeps K s) :
    ∃ u, execNetHostSet slot s = .next u ∧ Keeps K u := by
  unfold execNetHostSet
  repeat' first | with_reducible assumption | refine finish_keeps ?_ | with_reducible refine State.serveM_keeps ?_

theorem execEpochReportRelease_keeps {slot : Nat} {s : State} (hs : Keeps K s) :
    ∃ u, execEpochReportRelease slot s = .next u ∧ Keeps K u := by
  unfold execEpochReportRelease
  repeat' first | with_reducible assumption | refine finish_keeps ?_ | with_reducible refine State.serveM_keeps ?_

theorem execStreamAbort_keeps {slot : Nat} {s : State} (hs : Keeps K s) :
    ∃ u, execStreamAbort slot s = .next u ∧ Keeps K u := by
  unfold execStreamAbort
  repeat' first | with_reducible assumption | refine finish_keeps ?_ | with_reducible refine State.serveM_keeps ?_

theorem execFolioMaint_keeps {slot : Nat} {s : State} (hs : Keeps K s) :
    ∃ u, execFolioMaint slot s = .next u ∧ Keeps K u := by
  unfold execFolioMaint
  repeat' first | with_reducible assumption | refine finish_keeps ?_ | with_reducible refine State.serveM_keeps ?_

theorem execCirSchedLoad_keeps {slot : Nat} {s : State} (hs : Keeps K s) :
    ∃ u, execCirSchedLoad slot s = .next u ∧ Keeps K u := by
  unfold execCirSchedLoad
  repeat' first | with_reducible assumption | refine finish_keeps ?_ | with_reducible refine State.serveM_keeps ?_

theorem execCirSchedUnload_keeps {slot : Nat} {s : State} (hs : Keeps K s) :
    ∃ u, execCirSchedUnload slot s = .next u ∧ Keeps K u := by
  unfold execCirSchedUnload
  repeat' first | with_reducible assumption | refine finish_keeps ?_ | with_reducible refine State.serveM_keeps ?_

theorem execCirStreamSet_keeps {slot : Nat} {s : State} (hs : Keeps K s) :
    ∃ u, execCirStreamSet slot s = .next u ∧ Keeps K u := by
  unfold execCirStreamSet
  repeat' first | with_reducible assumption | refine finish_keeps ?_ | with_reducible refine State.serveM_keeps ?_

theorem execCirStreamRetarget_keeps {slot : Nat} {s : State} (hs : Keeps K s) :
    ∃ u, execCirStreamRetarget slot s = .next u ∧ Keeps K u := by
  unfold execCirStreamRetarget
  repeat' first | with_reducible assumption | refine finish_keeps ?_ | with_reducible refine State.serveM_keeps ?_

theorem execCirStreamStart_keeps {slot : Nat} {s : State} (hs : Keeps K s) :
    ∃ u, execCirStreamStart slot s = .next u ∧ Keeps K u := by
  unfold execCirStreamStart
  repeat' first | with_reducible assumption | refine finish_keeps ?_ | with_reducible refine State.serveM_keeps ?_

theorem execCirStreamStop_keeps {slot : Nat} {s : State} (hs : Keeps K s) :
    ∃ u, execCirStreamStop slot s = .next u ∧ Keeps K u := by
  unfold execCirStreamStop
  repeat' first | with_reducible assumption | refine finish_keeps ?_ | with_reducible refine State.serveM_keeps ?_

theorem execEpochReportRead_keeps {slot : Nat} {s : State} (hs : Keeps K s) :
    ∃ u, execEpochReportRead slot s = .next u ∧ Keeps K u := by
  unfold execEpochReportRead
  repeat' first
    | with_reducible assumption
    | refine finish_keeps ?_
    | with_reducible refine State.serve_keeps ?_ ?_
    | with_reducible refine State.setSlot_keeps ?_
    | dsimp only
    | intro q_ _ h_
    | split

theorem execWindowClearComplete_keeps {n : Nat} {s : State} (hs : Keeps K s) :
    ∃ u, execWindowClearComplete n s = .next u ∧ Keeps K u := by
  unfold execWindowClearComplete
  repeat' first
    | with_reducible assumption
    | refine finish_keeps ?_
    | with_reducible refine State.svcOut_keeps ?_
    | with_reducible refine State.setWindow_keeps ?_
    | with_reducible refine ite_keeps ?_ ?_
    | (extract_lets +onlyGivenNames x_; skip)
    | split

theorem execClrTen_keeps {ten : Nat} {s : State} (hs : Keeps K s) :
    ∃ u, execClrTen ten s = .next u ∧ Keeps K u := by
  unfold execClrTen
  repeat' first | with_reducible assumption | refine finish_keeps ?_ | with_reducible refine State.clrTen_keeps ?_

theorem execDeviceDead_keeps {slot : Nat} {s : State} (hs : Keeps K s) :
    ∃ u, execDeviceDead slot s = .next u ∧ Keeps K u := by
  unfold execDeviceDead
  repeat' first
    | with_reducible assumption
    | refine finish_keeps ?_
    | with_reducible refine State.doDeviceDead_keeps ?_
    | with_reducible refine State.serve_keeps ?_ ?_
    | dsimp only
    | intro q_ _ h_

theorem execLineRemap_keeps {slot : Nat} {s : State} (hs : Keeps K s) :
    ∃ u, execLineRemap slot s = .next u ∧ Keeps K u := by
  unfold execLineRemap
  repeat' first
    | with_reducible assumption
    | refine finish_keeps ?_
    | with_reducible refine State.doLineRemap_keeps ?_
    | with_reducible refine State.serve_keeps ?_ ?_
    | dsimp only
    | intro q_ _ h_
    | split

theorem execTwinJoin_keeps {slot : Nat} {s : State} (hs : Keeps K s) :
    ∃ u, execTwinJoin slot s = .next u ∧ Keeps K u := by
  unfold execTwinJoin
  repeat' first
    | with_reducible assumption
    | refine finish_keeps ?_
    | with_reducible refine State.serve_keeps ?_ ?_
    | with_reducible refine State.doTwinJoin_keeps ?_
    | intro q_ _ h_

theorem execTwinHandover_keeps {slot : Nat} {s : State} (hs : Keeps K s) :
    ∃ u, execTwinHandover slot s = .next u ∧ Keeps K u := by
  unfold execTwinHandover
  repeat' first
    | with_reducible assumption
    | refine finish_keeps ?_
    | with_reducible refine State.serve_keeps ?_ ?_
    | with_reducible refine State.doTwinHandover_keeps ?_
    | intro q_ _ h_

theorem execTwinTakeover_keeps {slot : Nat} {s : State} (hs : Keeps K s) :
    ∃ u, execTwinTakeover slot s = .next u ∧ Keeps K u := by
  unfold execTwinTakeover
  repeat' first
    | with_reducible assumption
    | refine finish_keeps ?_
    | with_reducible refine State.serve_keeps ?_ ?_
    | with_reducible refine State.doTwinTakeover_keeps ?_
    | intro q_ _ h_

theorem execTwinFence_keeps {slot : Nat} {s : State} (hs : Keeps K s) :
    ∃ u, execTwinFence slot s = .next u ∧ Keeps K u := by
  unfold execTwinFence
  repeat' first
    | with_reducible assumption
    | refine finish_keeps ?_
    | with_reducible refine State.serve_keeps ?_ ?_
    | with_reducible refine State.doTwinFence_keeps ?_
    | intro q_ _ h_

theorem execPinPromotionRetry_keeps {folio : Nat} {s : State} (hs : Keeps K s) :
    ∃ u, execPinPromotionRetry folio s = .next u ∧ Keeps K u := by
  unfold execPinPromotionRetry
  repeat' first
    | with_reducible assumption
    | refine finish_keeps ?_
    | with_reducible refine State.promote_keeps ?_
    | with_reducible refine ite_keeps ?_ ?_

theorem execFillInstall_keeps {folio : Nat} {s : State} (hs : Keeps K s) :
    ∃ u, execFillInstall folio s = .next u ∧ Keeps K u := by
  unfold execFillInstall
  repeat' first | with_reducible assumption | refine finish_keeps ?_ | with_reducible refine State.install_keeps ?_

theorem execReshelveSelect_keeps {folio : Nat} {s : State} (hs : Keeps K s) :
    ∃ u, execReshelveSelect folio s = .next u ∧ Keeps K u := by
  unfold execReshelveSelect
  repeat' first
    | with_reducible assumption
    | refine finish_keeps ?_
    | with_reducible refine State.metaTake_keeps ?_
    | with_reducible refine State.reshelve_keeps ?_
    | with_reducible refine ite_keeps ?_ ?_
    | (extract_lets +onlyGivenNames x_; skip)
    | split

theorem execEvbSend_keeps {tile : Nat} {s : State} (hs : Keeps K s) :
    ∃ u, execEvbSend tile s = .next u ∧ Keeps K u := by
  unfold execEvbSend
  repeat' first | with_reducible assumption | refine finish_keeps ?_ | with_reducible refine State.evbSend_keeps ?_

theorem execVictimWaitRelease_keeps {stream : Nat} {s : State} (hs : Keeps K s) :
    ∃ u, execVictimWaitRelease stream s = .next u ∧ Keeps K u := by
  unfold execVictimWaitRelease
  repeat' first | with_reducible assumption | refine finish_keeps ?_ | with_reducible refine State.pumpAll_keeps ?_

theorem execHazardWaitRelease_keeps {s : State} (hs : Keeps K s) :
    ∃ u, execHazardWaitRelease s = .next u ∧ Keeps K u := by
  unfold execHazardWaitRelease
  repeat' first
    | with_reducible assumption
    | refine finish_keeps ?_
    | with_reducible refine State.runReq_keeps ?_
    | with_reducible refine ite_keeps ?_ ?_
    | simp only [keeps_mk, keeps_fold]
    | split

theorem execSweepVisit_keeps {s : State} (hs : Keeps K s) :
    ∃ u, execSweepVisit s = .next u ∧ Keeps K u := by
  unfold execSweepVisit
  repeat' first
    | with_reducible assumption
    | refine finish_keeps ?_
    | with_reducible refine State.dirRead_keeps ?_
    | with_reducible refine State.setWay_keeps ?_
    | with_reducible refine State.dirWrite_keeps ?_
    | with_reducible refine ite_keeps ?_ ?_
    | with_reducible refine foldl_keeps ?_ ?_
    | simp only [keeps_mk, keeps_fold]
    | intro q_ _ h_

theorem execFchDisable_keeps {s : State} (hs : Keeps K s) :
    ∃ u, execFchDisable s = .next u ∧ Keeps K u := by
  unfold execFchDisable
  repeat' first | with_reducible assumption | refine finish_keeps ?_ | with_reducible refine State.modeWrite_keeps ?_

theorem execFchEnable_keeps {s : State} (hs : Keeps K s) :
    ∃ u, execFchEnable s = .next u ∧ Keeps K u := by
  unfold execFchEnable
  repeat' first | with_reducible assumption | refine finish_keeps ?_ | with_reducible refine State.modeWrite_keeps ?_

theorem execFchModeTransitionDone_keeps {s : State} (hs : Keeps K s) :
    ∃ u, execFchModeTransitionDone s = .next u ∧ Keeps K u := by
  unfold execFchModeTransitionDone
  repeat' first
    | with_reducible assumption
    | refine finish_keeps ?_
    | with_reducible refine State.modeEnd_keeps ?_
    | with_reducible refine State.walkObjs_keeps ?_
    | with_reducible refine State.dirClear_keeps ?_
    | with_reducible refine State.cleanAll_keeps ?_
    | with_reducible refine State.uncharge_keeps ?_
    | with_reducible refine State.setObj_keeps ?_
    | with_reducible refine ite_keeps ?_ ?_
    | with_reducible refine foldl_keeps ?_ ?_
    | dsimp only
    | intro q_ _ h_

theorem execGovernorSample_keeps {s : State} (hs : Keeps K s) :
    ∃ u, execGovernorSample s = .next u ∧ Keeps K u := by
  unfold execGovernorSample
  repeat' first
    | with_reducible assumption
    | refine finish_keeps ?_
    | with_reducible refine State.governorSample_keeps ?_
    | with_reducible refine State.govern_keeps ?_
    | with_reducible refine State.bump_keeps ?_
    | with_reducible refine ite_keeps ?_ ?_

theorem execBudgetWaitRelease_keeps {stream : Nat} {s : State} (hs : Keeps K s) :
    ∃ u, execBudgetWaitRelease stream s = .next u ∧ Keeps K u := by
  unfold execBudgetWaitRelease
  repeat' first | with_reducible assumption | refine finish_keeps ?_ | with_reducible refine State.pumpAll_keeps ?_

theorem execVaultEntryTimeout_keeps {s : State} (hs : Keeps K s) :
    ∃ u, execVaultEntryTimeout s = .next u ∧ Keeps K u := by
  unfold execVaultEntryTimeout
  repeat' first
    | with_reducible assumption
    | refine finish_keeps ?_
    | with_reducible refine State.vaultGo_keeps ?_
    | with_reducible refine State.vaultWrite_keeps ?_
    | with_reducible refine ite_keeps ?_ ?_

theorem execVaultAccept_keeps {slot : Nat} {s : State} (hs : Keeps K s) :
    ∃ u, execVaultAccept slot s = .next u ∧ Keeps K u := by
  unfold execVaultAccept
  repeat' first
    | with_reducible assumption
    | refine finish_keeps ?_
    | with_reducible refine State.doVaultAccept_keeps ?_
    | with_reducible refine State.serve_keeps ?_ ?_
    | intro q_ _ h_

theorem execFlashRead_keeps {addr n : Nat} {s : State} (hs : Keeps K s) :
    ∃ u, execFlashRead addr n s = .next u ∧ Keeps K u := by
  unfold execFlashRead
  repeat' first
    | with_reducible assumption
    | refine finish_keeps ?_
    | with_reducible refine State.flashRead_keeps ?_
    | with_reducible refine State.romAnswer_keeps ?_
    | with_reducible refine ite_keeps ?_ ?_

theorem execFlashProgram_keeps {addr : Nat} {data : BitVec 128} {s : State} (hs : Keeps K s) :
    ∃ u, execFlashProgram addr data s = .next u ∧ Keeps K u := by
  unfold execFlashProgram
  repeat' first
    | with_reducible assumption
    | refine finish_keeps ?_
    | with_reducible refine State.flashProgram_keeps ?_
    | with_reducible refine State.romAnswer_keeps ?_
    | with_reducible refine ite_keeps ?_ ?_

theorem execFlashProgramDone_keeps {bank : Nat} {good : Bool} {s : State} (hs : Keeps K s) :
    ∃ u, execFlashProgramDone bank good s = .next u ∧ Keeps K u := by
  unfold execFlashProgramDone
  repeat' first
    | with_reducible assumption
    | refine finish_keeps ?_
    | with_reducible refine State.flashRelease_keeps ?_
    | with_reducible refine State.romAnswer_keeps ?_
    | with_reducible refine State.progWord_keeps ?_
    | with_reducible refine State.setFop_keeps ?_
    | with_reducible refine State.setFword_keeps ?_
    | with_reducible refine State.note_keeps ?_
    | with_reducible refine State.raise_keeps ?_
    | with_reducible refine ite_keeps ?_ ?_
    | dsimp only
    | split

theorem execFlashErase_keeps {addr : Nat} {s : State} (hs : Keeps K s) :
    ∃ u, execFlashErase addr s = .next u ∧ Keeps K u := by
  unfold execFlashErase
  repeat' first
    | with_reducible assumption
    | refine finish_keeps ?_
    | with_reducible refine State.flashErase_keeps ?_
    | with_reducible refine State.romAnswer_keeps ?_
    | with_reducible refine ite_keeps ?_ ?_

theorem execFlashEraseDone_keeps {bank : Nat} {good : Bool} {s : State} (hs : Keeps K s) :
    ∃ u, execFlashEraseDone bank good s = .next u ∧ Keeps K u := by
  unfold execFlashEraseDone
  repeat' first
    | with_reducible assumption
    | refine finish_keeps ?_
    | with_reducible refine State.daybookErase_keeps ?_
    | with_reducible refine State.flashRelease_keeps ?_
    | with_reducible refine State.romAnswer_keeps ?_
    | with_reducible refine State.journal_keeps ?_
    | with_reducible refine State.clearSector_keeps ?_
    | with_reducible refine State.setFop_keeps ?_
    | with_reducible refine State.setFword_keeps ?_
    | with_reducible refine State.note_keeps ?_
    | with_reducible refine State.raise_keeps ?_
    | with_reducible refine State.bump_keeps ?_
    | with_reducible refine ite_keeps ?_ ?_
    | with_reducible refine foldl_keeps ?_ ?_
    | simp only [keeps_mk, keeps_fold]
    | intro q_ _ h_
    | split

theorem execFlashEraseResume_keeps {s : State} (hs : Keeps K s) :
    ∃ u, execFlashEraseResume s = .next u ∧ Keeps K u := by
  unfold execFlashEraseResume
  repeat' first
    | with_reducible assumption
    | refine finish_keeps ?_
    | with_reducible refine State.feed_keeps ?_
    | with_reducible refine State.setFop_keeps ?_
    | simp only [keeps_mk, keeps_fold]
    | split

theorem execDaybookRecord_keeps {code : Nat} {words : List Nat} {s : State} (hs : Keeps K s) :
    ∃ u, execDaybookRecord code words s = .next u ∧ Keeps K u := by
  unfold execDaybookRecord
  repeat' first | with_reducible assumption | refine finish_keeps ?_ | with_reducible refine State.note_keeps ?_

theorem execDaybookProgram_keeps {s : State} (hs : Keeps K s) :
    ∃ u, execDaybookProgram s = .next u ∧ Keeps K u := by
  unfold execDaybookProgram
  repeat' first
    | with_reducible assumption
    | refine finish_keeps ?_
    | with_reducible refine State.daybookErase_keeps ?_
    | with_reducible refine State.startErase_keeps ?_
    | with_reducible refine State.suspend_keeps ?_
    | with_reducible refine State.progWords_keeps ?_
    | with_reducible refine State.raise_keeps ?_
    | with_reducible refine State.bump_keeps ?_
    | with_reducible refine ite_keeps ?_ ?_
    | simp only [keeps_mk, keeps_fold]
    | split

theorem execHoursCheckpoint_keeps {s : State} (hs : Keeps K s) :
    ∃ u, execHoursCheckpoint s = .next u ∧ Keeps K u := by
  unfold execHoursCheckpoint
  repeat' first
    | with_reducible assumption
    | refine finish_keeps ?_
    | with_reducible refine State.setting_keeps ?_
    | simp only [keeps_mk, keeps_fold]

theorem execDbkSeqLoRead_keeps {s : State} (hs : Keeps K s) :
    ∃ u, execDbkSeqLoRead s = .next u ∧ Keeps K u := by
  unfold execDbkSeqLoRead
  repeat' first
    | with_reducible assumption
    | refine finish_keeps ?_
    | with_reducible refine State.emit_keeps ?_
    | simp only [keeps_mk, keeps_fold]

theorem execStkTrainAttempt_keeps {link : Nat} {s : State} (hs : Keeps K s) :
    ∃ u, execStkTrainAttempt link s = .next u ∧ Keeps K u := by
  unfold execStkTrainAttempt
  repeat' first
    | with_reducible assumption
    | refine finish_keeps ?_
    | with_reducible refine State.setLink_keeps ?_
    | with_reducible refine State.emit_keeps ?_
    | with_reducible refine ite_keeps ?_ ?_

theorem execTileReadResponse_keeps {link tag status trimmed bad : Nat} {recs : List (List (Line × Tag))} {s : State}
    (hs : Keeps K s) :
    ∃ u, execTileReadResponse link tag status trimmed bad recs s = .next u ∧ Keeps K u := by
  unfold execTileReadResponse
  repeat' first
    | with_reducible assumption
    | refine finish_keeps ?_
    | with_reducible refine State.readAnswer_keeps ?_
    | with_reducible refine elim_keeps ?_ ?_
    | intro h_

theorem execTileWriteResponse_keeps {link tag status : Nat} {s : State} (hs : Keeps K s) :
    ∃ u, execTileWriteResponse link tag status s = .next u ∧ Keeps K u := by
  unfold execTileWriteResponse
  repeat' first
    | with_reducible assumption
    | refine finish_keeps ?_
    | with_reducible refine State.writeAnswer_keeps ?_
    | with_reducible refine elim_keeps ?_ ?_
    | intro h_

theorem execTileTrimResponse_keeps {link tag status : Nat} {s : State} (hs : Keeps K s) :
    ∃ u, execTileTrimResponse link tag status s = .next u ∧ Keeps K u := by
  unfold execTileTrimResponse
  repeat' first
    | with_reducible assumption
    | refine finish_keeps ?_
    | with_reducible refine State.trimAnswer_keeps ?_
    | with_reducible refine elim_keeps ?_ ?_
    | intro h_

theorem execShelfSealResponse_keeps {link tag status : Nat} {s : State} (hs : Keeps K s) :
    ∃ u, execShelfSealResponse link tag status s = .next u ∧ Keeps K u := by
  unfold execShelfSealResponse
  repeat' first
    | with_reducible assumption
    | refine finish_keeps ?_
    | with_reducible refine State.sealAnswer_keeps ?_
    | with_reducible refine elim_keeps ?_ ?_
    | intro h_

theorem execStatusResponse_keeps {link tag status : Nat} {payload : List Byte} {s : State} (hs : Keeps K s) :
    ∃ u, execStatusResponse link tag status payload s = .next u ∧ Keeps K u := by
  unfold execStatusResponse
  repeat' first
    | with_reducible assumption
    | refine finish_keeps ?_
    | with_reducible refine State.statusAnswer_keeps ?_
    | with_reducible refine elim_keeps ?_ ?_
    | intro h_

theorem execVaultBeginResponse_keeps {link tag status : Nat} {s : State} (hs : Keeps K s) :
    ∃ u, execVaultBeginResponse link tag status s = .next u ∧ Keeps K u := by
  unfold execVaultBeginResponse
  repeat' first
    | with_reducible assumption
    | refine finish_keeps ?_
    | with_reducible refine State.beginAnswer_keeps ?_
    | with_reducible refine elim_keeps ?_ ?_
    | intro h_

theorem execCellReceive_keeps {link : Nat} {hdr : BitVec 64} {body : List Byte} {s : State} (hs : Keeps K s) :
    ∃ u, execCellReceive link hdr body s = .next u ∧ Keeps K u := by
  unfold execCellReceive
  repeat' first
    | with_reducible assumption
    | refine finish_keeps ?_
    | with_reducible refine State.stkBody_keeps ?_
    | with_reducible refine State.stkReplay_keeps ?_
    | with_reducible refine State.stkPump_keeps ?_
    | with_reducible refine State.stkIdle_keeps ?_
    | with_reducible refine State.setLink_keeps ?_
    | with_reducible refine ite_keeps ?_ ?_

theorem execCellReplayTimeout_keeps {link : Nat} {s : State} (hs : Keeps K s) :
    ∃ u, execCellReplayTimeout link s = .next u ∧ Keeps K u := by
  unfold execCellReplayTimeout
  repeat' first
    | with_reducible assumption
    | refine finish_keeps ?_
    | with_reducible refine State.stkReplay_keeps ?_
    | with_reducible refine ite_keeps ?_ ?_

theorem execVaultBeginRetry_keeps {link : Nat} {s : State} (hs : Keeps K s) :
    ∃ u, execVaultBeginRetry link s = .next u ∧ Keeps K u := by
  unfold execVaultBeginRetry
  repeat' first
    | with_reducible assumption
    | refine finish_keeps ?_
    | with_reducible refine State.vaultBegin_keeps ?_
    | with_reducible refine State.setLink_keeps ?_
    | with_reducible refine ite_keeps ?_ ?_

theorem execHeartbeat_keeps {link count : Nat} {s : State} (hs : Keeps K s) :
    ∃ u, execHeartbeat link count s = .next u ∧ Keeps K u := by
  unfold execHeartbeat
  repeat' first
    | with_reducible assumption
    | refine finish_keeps ?_
    | with_reducible refine State.beatIn_keeps ?_
    | with_reducible refine ite_keeps ?_ ?_

theorem execStkRequestTimeout_keeps {link tag : Nat} {s : State} (hs : Keeps K s) :
    ∃ u, execStkRequestTimeout link tag s = .next u ∧ Keeps K u := by
  unfold execStkRequestTimeout
  repeat' first
    | with_reducible assumption
    | refine finish_keeps ?_
    | with_reducible refine State.vaultGo_keeps ?_
    | with_reducible refine State.stkRetry_keeps ?_
    | with_reducible refine State.raise_keeps ?_
    | with_reducible refine ite_keeps ?_ ?_
    | (extract_lets +onlyGivenNames x_; skip)
    | split

theorem execStkLinkLost_keeps {link : Nat} {s : State} (hs : Keeps K s) :
    ∃ u, execStkLinkLost link s = .next u ∧ Keeps K u := by
  unfold execStkLinkLost
  repeat' first
    | with_reducible assumption
    | refine finish_keeps ?_
    | with_reducible refine State.vaultGo_keeps ?_
    | with_reducible refine State.stkLose_keeps ?_
    | with_reducible refine ite_keeps ?_ ?_

theorem execStkRetrain_keeps {link : Nat} {s : State} (hs : Keeps K s) :
    ∃ u, execStkRetrain link s = .next u ∧ Keeps K u := by
  unfold execStkRetrain
  repeat' first | with_reducible assumption | refine finish_keeps ?_ | with_reducible refine State.stkRetrain_keeps ?_

theorem execSledAdopt_keeps {slot : Nat} {s : State} (hs : Keeps K s) :
    ∃ u, execSledAdopt slot s = .next u ∧ Keeps K u := by
  unfold execSledAdopt
  repeat' first
    | with_reducible assumption
    | refine finish_keeps ?_
    | with_reducible refine State.doSledAdopt_keeps ?_
    | with_reducible refine State.serve_keeps ?_ ?_
    | intro q_ _ h_

theorem execResetNRelease_keeps {s : State} (hs : Keeps K s) :
    ∃ u, execResetNRelease s = .next u ∧ Keeps K u := by
  unfold execResetNRelease
  repeat' first
    | with_reducible assumption
    | refine finish_keeps ?_
    | with_reducible refine State.pinRelease_keeps ?_
    | with_reducible refine ite_keeps ?_ ?_
    | simp only [keeps_mk, keeps_fold]

theorem execCruWdtFeed_keeps {path value : Nat} {s : State} (hs : Keeps K s) :
    ∃ u, execCruWdtFeed path value s = .next u ∧ Keeps K u := by
  unfold execCruWdtFeed
  repeat' first | with_reducible assumption | refine finish_keeps ?_ | with_reducible refine State.wdtFeed_keeps ?_

theorem execRefClockRegained_keeps {group : Nat} {s : State} (hs : Keeps K s) :
    ∃ u, execRefClockRegained group s = .next u ∧ Keeps K u := by
  unfold execRefClockRegained
  repeat' first
    | with_reducible assumption
    | refine finish_keeps ?_
    | with_reducible refine State.clockNote_keeps ?_
    | with_reducible refine ite_keeps ?_ ?_
    | simp only [keeps_mk, keeps_fold]

theorem execDmcPllUnlock_keeps {ch : Nat} {s : State} (hs : Keeps K s) :
    ∃ u, execDmcPllUnlock ch s = .next u ∧ Keeps K u := by
  unfold execDmcPllUnlock
  repeat' first
    | with_reducible assumption
    | refine finish_keeps ?_
    | with_reducible refine State.clockNote_keeps ?_
    | with_reducible refine State.dram_keeps ?_
    | with_reducible refine State.bump_keeps ?_
    | with_reducible refine ite_keeps ?_ ?_
    | simp only [keeps_mk, keeps_fold]

theorem execDmcPllRelock_keeps {ch : Nat} {s : State} (hs : Keeps K s) :
    ∃ u, execDmcPllRelock ch s = .next u ∧ Keeps K u := by
  unfold execDmcPllRelock
  repeat' first
    | with_reducible assumption
    | refine finish_keeps ?_
    | with_reducible refine State.clockNote_keeps ?_
    | with_reducible refine State.dram_keeps ?_
    | with_reducible refine State.raise_keeps ?_
    | with_reducible refine ite_keeps ?_ ?_
    | simp only [keeps_mk, keeps_fold]

theorem execDmcPllRelockTimeout_keeps {ch : Nat} {s : State} (hs : Keeps K s) :
    ∃ u, execDmcPllRelockTimeout ch s = .next u ∧ Keeps K u := by
  unfold execDmcPllRelockTimeout
  repeat' first
    | with_reducible assumption
    | refine finish_keeps ?_
    | with_reducible refine State.fatal_keeps ?_
    | with_reducible refine ite_keeps ?_ ?_

theorem execXtalRestored_keeps {s : State} (hs : Keeps K s) :
    ∃ u, execXtalRestored s = .next u ∧ Keeps K u := by
  unfold execXtalRestored
  repeat' first
    | with_reducible assumption
    | refine finish_keeps ?_
    | with_reducible refine State.pinRelease_keeps ?_
    | with_reducible refine ite_keeps ?_ ?_
    | simp only [keeps_mk, keeps_fold]

theorem execDomainPgFail_keeps {domain : Nat} {s : State} (hs : Keeps K s) :
    ∃ u, execDomainPgFail domain s = .next u ∧ Keeps K u := by
  unfold execDomainPgFail
  repeat' first
    | with_reducible assumption
    | refine finish_keeps ?_
    | with_reducible refine State.fatal_keeps ?_
    | with_reducible refine State.note_keeps ?_
    | with_reducible refine ite_keeps ?_ ?_
    | simp only [keeps_mk, keeps_fold]

theorem execTrimWindow_keeps {bytes : Nat} {s : State} (hs : Keeps K s) :
    ∃ u, execTrimWindow bytes s = .next u ∧ Keeps K u := by
  unfold execTrimWindow
  repeat' first
    | with_reducible assumption
    | refine finish_keeps ?_
    | with_reducible refine State.trimExit_keeps ?_
    | with_reducible refine State.setPwr_keeps ?_
    | with_reducible refine State.bumpFld_keeps ?_
    | with_reducible refine ite_keeps ?_ ?_
    | simp only [keeps_mk, keeps_fold]

theorem execEnergyReconcile_keeps {mj : Nat} {s : State} (hs : Keeps K s) :
    ∃ u, execEnergyReconcile mj s = .next u ∧ Keeps K u := by
  unfold execEnergyReconcile
  repeat' first
    | with_reducible assumption
    | refine finish_keeps ?_
    | with_reducible refine State.reconcile_keeps ?_
    | with_reducible refine ite_keeps ?_ ?_

theorem execEnergyCheckpoint_keeps {s : State} (hs : Keeps K s) :
    ∃ u, execEnergyCheckpoint s = .next u ∧ Keeps K u := by
  unfold execEnergyCheckpoint
  repeat' first
    | with_reducible assumption
    | refine finish_keeps ?_
    | with_reducible refine State.checkpoint_keeps ?_
    | with_reducible refine ite_keeps ?_ ?_

theorem execImageWrite_keeps {slot : Nat} {s : State} (hs : Keeps K s) :
    ∃ u, execImageWrite slot s = .next u ∧ Keeps K u := by
  unfold execImageWrite
  repeat' first
    | with_reducible assumption
    | refine finish_keeps ?_
    | with_reducible refine State.doImageWrite_keeps ?_
    | with_reducible refine State.serve_keeps ?_ ?_
    | intro q_ _ h_

theorem execImageFloor_keeps {slot : Nat} {s : State} (hs : Keeps K s) :
    ∃ u, execImageFloor slot s = .next u ∧ Keeps K u := by
  unfold execImageFloor
  repeat' first
    | with_reducible assumption
    | refine finish_keeps ?_
    | with_reducible refine State.doImageFloor_keeps ?_
    | with_reducible refine State.serve_keeps ?_ ?_
    | intro q_ _ h_

theorem execFwWrite_keeps {slot : Nat} {s : State} (hs : Keeps K s) :
    ∃ u, execFwWrite slot s = .next u ∧ Keeps K u := by
  unfold execFwWrite
  repeat' first
    | with_reducible assumption
    | refine finish_keeps ?_
    | with_reducible refine State.doFwWrite_keeps ?_
    | with_reducible refine State.serve_keeps ?_ ?_
    | intro q_ _ h_

theorem execFwConfirmTimer_keeps {s : State} (hs : Keeps K s) :
    ∃ u, execFwConfirmTimer s = .next u ∧ Keeps K u := by
  unfold execFwConfirmTimer
  repeat' first
    | with_reducible assumption
    | refine finish_keeps ?_
    | with_reducible refine State.note_keeps ?_
    | with_reducible refine ite_keeps ?_ ?_
    | simp only [keeps_mk, keeps_fold]
    | split

theorem execEventDone_keeps {lk : Nat} {hdr : BitVec 128} {s : State} (hs : Keeps K s) :
    ∃ u, execEventDone lk hdr s = .next u ∧ Keeps K u := by
  unfold execEventDone
  repeat' first
    | with_reducible assumption
    | refine finish_keeps ?_
    | with_reducible refine State.complete_keeps ?_
    | with_reducible refine State.tvLeave_keeps ?_
    | with_reducible refine State.bump_keeps ?_
    | with_reducible refine ite_keeps ?_ ?_

theorem execIntClaim_keeps {t : Nat} {s : State} (hs : Keeps K s) :
    ∃ u, execIntClaim t s = .next u ∧ Keeps K u := by
  unfold execIntClaim
  repeat' first
    | with_reducible assumption
    | refine finish_keeps ?_
    | with_reducible refine State.claimRead_keeps ?_
    | with_reducible refine State.emit_keeps ?_

theorem execIntComplete_keeps {t n : Nat} {s : State} (hs : Keeps K s) :
    ∃ u, execIntComplete t n s = .next u ∧ Keeps K u := by
  unfold execIntComplete
  repeat' first | with_reducible assumption | refine finish_keeps ?_ | with_reducible refine State.completeAt_keeps ?_

theorem execIntSwset_keeps {n : Nat} {s : State} (hs : Keeps K s) :
    ∃ u, execIntSwset n s = .next u ∧ Keeps K u := by
  unfold execIntSwset
  repeat' first | with_reducible assumption | refine finish_keeps ?_ | with_reducible refine State.swset_keeps ?_

theorem execMsixControlWrite_keeps {enable mask0 mask1 : Bool} {s : State} (hs : Keeps K s) :
    ∃ u, execMsixControlWrite enable mask0 mask1 s = .next u ∧ Keeps K u := by
  unfold execMsixControlWrite
  repeat' first
    | with_reducible assumption
    | refine finish_keeps ?_
    | with_reducible refine State.vecWrite_keeps ?_
    | simp only [keeps_mk, keeps_fold]

theorem execLaneInject_keeps {path : Nat} {s : State} (hs : Keeps K s) :
    ∃ u, execLaneInject path s = .next u ∧ Keeps K u := by
  unfold execLaneInject
  repeat' first
    | with_reducible assumption
    | refine finish_keeps ?_
    | with_reducible refine State.dftCmd_keeps ?_ ?_
    | with_reducible refine State.laneInject_keeps ?_
    | intro q_ h_

theorem execLoad_keeps {lk : Nat} {hdr : BitVec 128} {s : State} (hs : Keeps K s) :
    ∃ u, execLoad lk hdr s = .next u ∧ Keeps K u := by
  unfold execLoad
  repeat' first
    | with_reducible assumption
    | refine finish_keeps ?_
    | with_reducible refine State.tvDeny_keeps ?_
    | with_reducible refine State.tvGate_keeps ?_
    | with_reducible refine State.runLoad_keeps ?_
    | with_reducible refine State.answer_keeps ?_
    | with_reducible refine no_keeps ‹_› ?_
    | with_reducible refine ended_keeps ‹_› ?_
    | with_reducible refine go_keeps ‹_› ?_
    | dsimp only
    | split

theorem execStoreFull_keeps {lk : Nat} {hdr : BitVec 128} {data : Line} {s : State} (hs : Keeps K s) :
    ∃ u, execStoreFull lk hdr data s = .next u ∧ Keeps K u := by
  unfold execStoreFull
  repeat' first | with_reducible assumption | refine finish_keeps ?_ | with_reducible refine State.tvWriteMsg_keeps ?_

theorem execStoreMasked_keeps {lk : Nat} {hdr : BitVec 128} {mask : BitVec 128} {data : Line} {s : State}
    (hs : Keeps K s) :
    ∃ u, execStoreMasked lk hdr mask data s = .next u ∧ Keeps K u := by
  unfold execStoreMasked
  repeat' first | with_reducible assumption | refine finish_keeps ?_ | with_reducible refine State.tvWriteMsg_keeps ?_

theorem execAtomic_keeps {lk : Nat} {hdr s1 s2 : BitVec 128} {s : State} (hs : Keeps K s) :
    ∃ u, execAtomic lk hdr s1 s2 s = .next u ∧ Keeps K u := by
  unfold execAtomic
  repeat' first | with_reducible assumption | refine finish_keeps ?_ | with_reducible refine State.tvWriteMsg_keeps ?_

theorem execAbandonAtomic_keeps {lk : Nat} {hdr : BitVec 128} {s : State} (hs : Keeps K s) :
    ∃ u, execAbandonAtomic lk hdr s = .next u ∧ Keeps K u := by
  unfold execAbandonAtomic
  repeat' first | with_reducible assumption | refine finish_keeps ?_ | with_reducible refine State.tvAbandon_keeps ?_

theorem execAbandonClose_keeps {lk : Nat} {hdr : BitVec 128} {s : State} (hs : Keeps K s) :
    ∃ u, execAbandonClose lk hdr s = .next u ∧ Keeps K u := by
  unfold execAbandonClose
  repeat' first | with_reducible assumption | refine finish_keeps ?_ | with_reducible refine State.tvAbandon_keeps ?_

theorem execEpochOpen_keeps {lk : Nat} {hdr : BitVec 128} {s : State} (hs : Keeps K s) :
    ∃ u, execEpochOpen lk hdr s = .next u ∧ Keeps K u := by
  unfold execEpochOpen
  repeat' first
    | with_reducible assumption
    | refine finish_keeps ?_
    | with_reducible refine State.tvEpoch_keeps ?_ ?_
    | with_reducible refine State.openEpoch_keeps ?_
    | with_reducible refine State.mirror__keeps ?_
    | with_reducible refine State.answer_keeps ?_
    | with_reducible refine ite_keeps ?_ ?_
    | dsimp only
    | intro q_ _ _ h_
    | split

theorem execEpochClose_keeps {lk : Nat} {hdr : BitVec 128} {s : State} (hs : Keeps K s) :
    ∃ u, execEpochClose lk hdr s = .next u ∧ Keeps K u := by
  unfold execEpochClose
  repeat' first
    | with_reducible assumption
    | refine finish_keeps ?_
    | with_reducible refine State.tvEpoch_keeps ?_ ?_
    | with_reducible refine State.closeArrive_keeps ?_
    | intro q_ _ _ h_

theorem execEpochCommit_keeps {stream : Nat} {s : State} (hs : Keeps K s) :
    ∃ u, execEpochCommit stream s = .next u ∧ Keeps K u := by
  unfold execEpochCommit
  repeat' first
    | with_reducible assumption
    | refine finish_keeps ?_
    | with_reducible refine State.commitClose_keeps ?_
    | with_reducible refine ite_keeps ?_ ?_

theorem execEpochQueryState_keeps {lk : Nat} {hdr : BitVec 128} {s : State} (hs : Keeps K s) :
    ∃ u, execEpochQueryState lk hdr s = .next u ∧ Keeps K u := by
  unfold execEpochQueryState
  repeat' first
    | with_reducible assumption
    | refine finish_keeps ?_
    | with_reducible refine State.tvEpoch_keeps ?_ ?_
    | with_reducible refine State.answer_keeps ?_
    | intro q_ _ _ h_

theorem execEpochQueryLine_keeps {lk : Nat} {hdr : BitVec 128} {s : State} (hs : Keeps K s) :
    ∃ u, execEpochQueryLine lk hdr s = .next u ∧ Keeps K u := by
  unfold execEpochQueryLine
  repeat' first
    | with_reducible assumption
    | refine finish_keeps ?_
    | with_reducible refine State.tvEpoch_keeps ?_ ?_
    | with_reducible refine State.tvDeny_keeps ?_
    | with_reducible refine State.queryAsk_keeps ?_
    | intro q_ _ _ h_
    | split

theorem execEpochQueryReport_keeps {lk : Nat} {hdr : BitVec 128} {s : State} (hs : Keeps K s) :
    ∃ u, execEpochQueryReport lk hdr s = .next u ∧ Keeps K u := by
  unfold execEpochQueryReport
  repeat' first
    | with_reducible assumption
    | refine finish_keeps ?_
    | with_reducible refine State.tvEpoch_keeps ?_ ?_
    | with_reducible refine State.answer_keeps ?_
    | intro q_ _ _ h_

theorem execEpochRelease_keeps {lk : Nat} {hdr : BitVec 128} {s : State} (hs : Keeps K s) :
    ∃ u, execEpochRelease lk hdr s = .next u ∧ Keeps K u := by
  unfold execEpochRelease
  repeat' first
    | with_reducible assumption
    | refine finish_keeps ?_
    | with_reducible refine State.tvEpoch_keeps ?_ ?_
    | with_reducible refine State.releaseReport_keeps ?_
    | with_reducible refine State.mirror__keeps ?_
    | with_reducible refine State.answer_keeps ?_
    | with_reducible refine ite_keeps ?_ ?_
    | intro q_ _ _ h_
    | split

theorem execReportBuilt_keeps {stream : Nat} {s : State} (hs : Keeps K s) :
    ∃ u, execReportBuilt stream s = .next u ∧ Keeps K u := by
  unfold execReportBuilt
  repeat' first
    | with_reducible assumption
    | refine finish_keeps ?_
    | with_reducible refine State.buildReport_keeps ?_
    | with_reducible refine State.verdictFill_keeps ?_
    | with_reducible refine State.tvSend_keeps ?_
    | with_reducible refine ite_keeps ?_ ?_
    | with_reducible refine foldl_keeps ?_ ?_
    | dsimp only
    | intro q_ _ h_
    | split

theorem execMapOpen_keeps {lk : Nat} {hdr : BitVec 128} {s : State} (hs : Keeps K s) :
    ∃ u, execMapOpen lk hdr s = .next u ∧ Keeps K u := by
  unfold execMapOpen
  repeat' first
    | with_reducible assumption
    | refine finish_keeps ?_
    | with_reducible refine State.tvGate_keeps ?_
    | with_reducible refine State.openMap_keeps ?_
    | with_reducible refine State.mirror__keeps ?_
    | with_reducible refine State.answer_keeps ?_
    | with_reducible refine State.raise_keeps ?_
    | with_reducible refine State.bumpFld_keeps ?_
    | with_reducible refine ite_keeps ?_ ?_
    | with_reducible refine no_keeps ‹_› ?_
    | with_reducible refine ended_keeps ‹_› ?_
    | with_reducible refine go_keeps ‹_› ?_
    | dsimp only
    | split

theorem execMapClose_keeps {lk : Nat} {hdr : BitVec 128} {s : State} (hs : Keeps K s) :
    ∃ u, execMapClose lk hdr s = .next u ∧ Keeps K u := by
  unfold execMapClose
  repeat' first
    | with_reducible assumption
    | refine finish_keeps ?_
    | with_reducible refine State.tvDeny_keeps ?_
    | with_reducible refine State.tvGate_keeps ?_
    | with_reducible refine State.closeMap_keeps ?_
    | with_reducible refine State.mirror__keeps ?_
    | with_reducible refine State.answer_keeps ?_
    | with_reducible refine no_keeps ‹_› ?_
    | with_reducible refine ended_keeps ‹_› ?_
    | with_reducible refine go_keeps ‹_› ?_
    | dsimp only
    | split

theorem execMapCloseComplete_keeps {ctx map : Nat} {s : State} (hs : Keeps K s) :
    ∃ u, execMapCloseComplete ctx map s = .next u ∧ Keeps K u := by
  unfold execMapCloseComplete
  repeat' first
    | with_reducible assumption
    | refine finish_keeps ?_
    | with_reducible refine State.closeMapNow_keeps ?_
    | with_reducible refine ite_keeps ?_ ?_

theorem execPlace_keeps {lk : Nat} {hdr : BitVec 128} {s : State} (hs : Keeps K s) :
    ∃ u, execPlace lk hdr s = .next u ∧ Keeps K u := by
  unfold execPlace
  repeat' first
    | with_reducible assumption
    | refine finish_keeps ?_
    | with_reducible refine State.tvDeny_keeps ?_
    | with_reducible refine State.tvGate_keeps ?_
    | with_reducible refine State.placeObj_keeps ?_
    | with_reducible refine State.mirror__keeps ?_
    | with_reducible refine State.answer_keeps ?_
    | with_reducible refine fst_keeps ‹_› ?_
    | with_reducible refine no_keeps ‹_› ?_
    | with_reducible refine ended_keeps ‹_› ?_
    | with_reducible refine go_keeps ‹_› ?_
    | dsimp only
    | split

theorem execMaintClean_keeps {lk : Nat} {hdr slot1 : BitVec 128} {s : State} (hs : Keeps K s) :
    ∃ u, execMaintClean lk hdr slot1 s = .next u ∧ Keeps K u := by
  unfold execMaintClean
  repeat' first | with_reducible assumption | refine finish_keeps ?_ | with_reducible refine State.tvMaint_keeps ?_

theorem execMaintFlush_keeps {lk : Nat} {hdr slot1 : BitVec 128} {s : State} (hs : Keeps K s) :
    ∃ u, execMaintFlush lk hdr slot1 s = .next u ∧ Keeps K u := by
  unfold execMaintFlush
  repeat' first | with_reducible assumption | refine finish_keeps ?_ | with_reducible refine State.tvMaint_keeps ?_

theorem execMaintInvalidate_keeps {lk : Nat} {hdr slot1 : BitVec 128} {s : State} (hs : Keeps K s) :
    ∃ u, execMaintInvalidate lk hdr slot1 s = .next u ∧ Keeps K u := by
  unfold execMaintInvalidate
  repeat' first | with_reducible assumption | refine finish_keeps ?_ | with_reducible refine State.tvMaint_keeps ?_

theorem execMaintPromote_keeps {lk : Nat} {hdr slot1 : BitVec 128} {s : State} (hs : Keeps K s) :
    ∃ u, execMaintPromote lk hdr slot1 s = .next u ∧ Keeps K u := by
  unfold execMaintPromote
  repeat' first | with_reducible assumption | refine finish_keeps ?_ | with_reducible refine State.tvMaint_keeps ?_

theorem execMaintZero_keeps {lk : Nat} {hdr slot1 : BitVec 128} {s : State} (hs : Keeps K s) :
    ∃ u, execMaintZero lk hdr slot1 s = .next u ∧ Keeps K u := by
  unfold execMaintZero
  repeat' first
    | with_reducible assumption
    | refine finish_keeps ?_
    | with_reducible refine State.tvWrite_keeps ?_
    | with_reducible refine State.tvGate_keeps ?_
    | with_reducible refine State.pumpAll_keeps ?_
    | with_reducible refine State.mirror__keeps ?_
    | with_reducible refine State.openGrp_keeps ?_
    | with_reducible refine State.answer_keeps ?_
    | with_reducible refine State.setStream_keeps ?_
    | with_reducible refine State.bumpBy_keeps ?_
    | with_reducible refine ite_keeps ?_ ?_
    | with_reducible refine no_keeps ‹_› ?_
    | with_reducible refine ended_keeps ‹_› ?_
    | with_reducible refine go_keeps ‹_› ?_
    | dsimp only
    | split

end Sys2Proof.Machine
end

