-- ==== Sys2Proof/Laws/State.lean ====
section
/-! SUPPORT. What each update of the state leaves as it is, one fact per field; and what reading back gives. -/

namespace Sys2Proof.Machine

@[simp] theorem setReg_rest (s : State) (a : Nat) (v : W32) :
    (s.setReg a v).pending = s.pending ∧ (s.setReg a v).out = s.out ∧ (s.setReg a v).timeUs = s.timeUs ∧
    (s.setReg a v).freeCtr = s.freeCtr ∧ (s.setReg a v).cnt = s.cnt ∧ (s.setReg a v).sh = s.sh ∧
    (s.setReg a v).iaddr = s.iaddr ∧ (s.setReg a v).done = s.done ∧ (s.setReg a v).int = s.int ∧
    (s.setReg a v).tqm = s.tqm ∧ (s.setReg a v).epo = s.epo ∧ (s.setReg a v).fch = s.fch ∧
    (s.setReg a v).rsv = s.rsv ∧ (s.setReg a v).lpr = s.lpr ∧ (s.setReg a v).stk = s.stk ∧
    (s.setReg a v).twn = s.twn ∧ (s.setReg a v).bpm = s.bpm ∧ (s.setReg a v).dmc = s.dmc ∧
    (s.setReg a v).dbk = s.dbk ∧ (s.setReg a v).tvl = s.tvl ∧ (s.setReg a v).eth = s.eth ∧
    (s.setReg a v).nre = s.nre ∧ (s.setReg a v).cir = s.cir ∧ (s.setReg a v).sup = s.sup ∧
    (s.setReg a v).pwr = s.pwr ∧ (s.setReg a v).cru = s.cru ∧ (s.setReg a v).rgc = s.rgc ∧
    (s.setReg a v).efl = s.efl ∧ (s.setReg a v).sec = s.sec ∧ (s.setReg a v).top = s.top ∧
    (s.setReg a v).sbb = s.sbb ∧ (s.setReg a v).dft = s.dft ∧ (s.setReg a v).ports = s.ports :=
  ⟨rfl, rfl, rfl, rfl, rfl, rfl, rfl, rfl, rfl, rfl, rfl, rfl, rfl, rfl, rfl, rfl, rfl, rfl, rfl, rfl, rfl, rfl, rfl, rfl, rfl, rfl, rfl, rfl, rfl, rfl, rfl, rfl, rfl⟩

@[simp] theorem setFld_rest (s : State) (f : Fld) (v : Nat) :
    (s.setFld f v).pending = s.pending ∧ (s.setFld f v).out = s.out ∧ (s.setFld f v).timeUs = s.timeUs ∧
    (s.setFld f v).freeCtr = s.freeCtr ∧ (s.setFld f v).cnt = s.cnt ∧ (s.setFld f v).sh = s.sh ∧
    (s.setFld f v).iaddr = s.iaddr ∧ (s.setFld f v).done = s.done ∧ (s.setFld f v).int = s.int ∧
    (s.setFld f v).tqm = s.tqm ∧ (s.setFld f v).epo = s.epo ∧ (s.setFld f v).fch = s.fch ∧
    (s.setFld f v).rsv = s.rsv ∧ (s.setFld f v).lpr = s.lpr ∧ (s.setFld f v).stk = s.stk ∧
    (s.setFld f v).twn = s.twn ∧ (s.setFld f v).bpm = s.bpm ∧ (s.setFld f v).dmc = s.dmc ∧
    (s.setFld f v).dbk = s.dbk ∧ (s.setFld f v).tvl = s.tvl ∧ (s.setFld f v).eth = s.eth ∧
    (s.setFld f v).nre = s.nre ∧ (s.setFld f v).cir = s.cir ∧ (s.setFld f v).sup = s.sup ∧
    (s.setFld f v).pwr = s.pwr ∧ (s.setFld f v).cru = s.cru ∧ (s.setFld f v).rgc = s.rgc ∧
    (s.setFld f v).efl = s.efl ∧ (s.setFld f v).sec = s.sec ∧ (s.setFld f v).top = s.top ∧
    (s.setFld f v).sbb = s.sbb ∧ (s.setFld f v).dft = s.dft ∧ (s.setFld f v).ports = s.ports :=
  ⟨rfl, rfl, rfl, rfl, rfl, rfl, rfl, rfl, rfl, rfl, rfl, rfl, rfl, rfl, rfl, rfl, rfl, rfl, rfl, rfl, rfl, rfl, rfl, rfl, rfl, rfl, rfl, rfl, rfl, rfl, rfl, rfl, rfl⟩

@[simp] theorem setCount_rest (s : State) (a : Nat) (v : W32) :
    (s.setCount a v).pending = s.pending ∧ (s.setCount a v).out = s.out ∧ (s.setCount a v).timeUs = s.timeUs ∧
    (s.setCount a v).freeCtr = s.freeCtr ∧ (s.setCount a v).regs = s.regs ∧ (s.setCount a v).sh = s.sh ∧
    (s.setCount a v).iaddr = s.iaddr ∧ (s.setCount a v).done = s.done ∧ (s.setCount a v).int = s.int ∧
    (s.setCount a v).tqm = s.tqm ∧ (s.setCount a v).epo = s.epo ∧ (s.setCount a v).fch = s.fch ∧
    (s.setCount a v).rsv = s.rsv ∧ (s.setCount a v).lpr = s.lpr ∧ (s.setCount a v).stk = s.stk ∧
    (s.setCount a v).twn = s.twn ∧ (s.setCount a v).bpm = s.bpm ∧ (s.setCount a v).dmc = s.dmc ∧
    (s.setCount a v).dbk = s.dbk ∧ (s.setCount a v).tvl = s.tvl ∧ (s.setCount a v).eth = s.eth ∧
    (s.setCount a v).nre = s.nre ∧ (s.setCount a v).cir = s.cir ∧ (s.setCount a v).sup = s.sup ∧
    (s.setCount a v).pwr = s.pwr ∧ (s.setCount a v).cru = s.cru ∧ (s.setCount a v).rgc = s.rgc ∧
    (s.setCount a v).efl = s.efl ∧ (s.setCount a v).sec = s.sec ∧ (s.setCount a v).top = s.top ∧
    (s.setCount a v).sbb = s.sbb ∧ (s.setCount a v).dft = s.dft ∧ (s.setCount a v).ports = s.ports :=
  ⟨rfl, rfl, rfl, rfl, rfl, rfl, rfl, rfl, rfl, rfl, rfl, rfl, rfl, rfl, rfl, rfl, rfl, rfl, rfl, rfl, rfl, rfl, rfl, rfl, rfl, rfl, rfl, rfl, rfl, rfl, rfl, rfl, rfl⟩

@[simp] theorem bumpBy_rest (s : State) (a n : Nat) :
    (s.bumpBy a n).pending = s.pending ∧ (s.bumpBy a n).out = s.out ∧ (s.bumpBy a n).timeUs = s.timeUs ∧
    (s.bumpBy a n).freeCtr = s.freeCtr ∧ (s.bumpBy a n).regs = s.regs ∧ (s.bumpBy a n).sh = s.sh ∧
    (s.bumpBy a n).iaddr = s.iaddr ∧ (s.bumpBy a n).done = s.done ∧ (s.bumpBy a n).int = s.int ∧
    (s.bumpBy a n).tqm = s.tqm ∧ (s.bumpBy a n).epo = s.epo ∧ (s.bumpBy a n).fch = s.fch ∧
    (s.bumpBy a n).rsv = s.rsv ∧ (s.bumpBy a n).lpr = s.lpr ∧ (s.bumpBy a n).stk = s.stk ∧
    (s.bumpBy a n).twn = s.twn ∧ (s.bumpBy a n).bpm = s.bpm ∧ (s.bumpBy a n).dmc = s.dmc ∧
    (s.bumpBy a n).dbk = s.dbk ∧ (s.bumpBy a n).tvl = s.tvl ∧ (s.bumpBy a n).eth = s.eth ∧
    (s.bumpBy a n).nre = s.nre ∧ (s.bumpBy a n).cir = s.cir ∧ (s.bumpBy a n).sup = s.sup ∧
    (s.bumpBy a n).pwr = s.pwr ∧ (s.bumpBy a n).cru = s.cru ∧ (s.bumpBy a n).rgc = s.rgc ∧
    (s.bumpBy a n).efl = s.efl ∧ (s.bumpBy a n).sec = s.sec ∧ (s.bumpBy a n).top = s.top ∧
    (s.bumpBy a n).sbb = s.sbb ∧ (s.bumpBy a n).dft = s.dft ∧ (s.bumpBy a n).ports = s.ports :=
  ⟨rfl, rfl, rfl, rfl, rfl, rfl, rfl, rfl, rfl, rfl, rfl, rfl, rfl, rfl, rfl, rfl, rfl, rfl, rfl, rfl, rfl, rfl, rfl, rfl, rfl, rfl, rfl, rfl, rfl, rfl, rfl, rfl, rfl⟩

@[simp] theorem bump_rest (s : State) (a : Nat) :
    (s.bump a).pending = s.pending ∧ (s.bump a).out = s.out ∧ (s.bump a).timeUs = s.timeUs ∧
    (s.bump a).freeCtr = s.freeCtr ∧ (s.bump a).regs = s.regs ∧ (s.bump a).sh = s.sh ∧ (s.bump a).iaddr = s.iaddr ∧
    (s.bump a).done = s.done ∧ (s.bump a).int = s.int ∧ (s.bump a).tqm = s.tqm ∧ (s.bump a).epo = s.epo ∧
    (s.bump a).fch = s.fch ∧ (s.bump a).rsv = s.rsv ∧ (s.bump a).lpr = s.lpr ∧ (s.bump a).stk = s.stk ∧
    (s.bump a).twn = s.twn ∧ (s.bump a).bpm = s.bpm ∧ (s.bump a).dmc = s.dmc ∧ (s.bump a).dbk = s.dbk ∧
    (s.bump a).tvl = s.tvl ∧ (s.bump a).eth = s.eth ∧ (s.bump a).nre = s.nre ∧ (s.bump a).cir = s.cir ∧
    (s.bump a).sup = s.sup ∧ (s.bump a).pwr = s.pwr ∧ (s.bump a).cru = s.cru ∧ (s.bump a).rgc = s.rgc ∧
    (s.bump a).efl = s.efl ∧ (s.bump a).sec = s.sec ∧ (s.bump a).top = s.top ∧ (s.bump a).sbb = s.sbb ∧
    (s.bump a).dft = s.dft ∧ (s.bump a).ports = s.ports :=
  ⟨rfl, rfl, rfl, rfl, rfl, rfl, rfl, rfl, rfl, rfl, rfl, rfl, rfl, rfl, rfl, rfl, rfl, rfl, rfl, rfl, rfl, rfl, rfl, rfl, rfl, rfl, rfl, rfl, rfl, rfl, rfl, rfl, rfl⟩

@[simp] theorem bumpFld_rest (s : State) (f : Fld) :
    (s.bumpFld f).pending = s.pending ∧ (s.bumpFld f).out = s.out ∧ (s.bumpFld f).timeUs = s.timeUs ∧
    (s.bumpFld f).freeCtr = s.freeCtr ∧ (s.bumpFld f).regs = s.regs ∧ (s.bumpFld f).sh = s.sh ∧
    (s.bumpFld f).iaddr = s.iaddr ∧ (s.bumpFld f).done = s.done ∧ (s.bumpFld f).int = s.int ∧
    (s.bumpFld f).tqm = s.tqm ∧ (s.bumpFld f).epo = s.epo ∧ (s.bumpFld f).fch = s.fch ∧ (s.bumpFld f).rsv = s.rsv ∧
    (s.bumpFld f).lpr = s.lpr ∧ (s.bumpFld f).stk = s.stk ∧ (s.bumpFld f).twn = s.twn ∧ (s.bumpFld f).bpm = s.bpm ∧
    (s.bumpFld f).dmc = s.dmc ∧ (s.bumpFld f).dbk = s.dbk ∧ (s.bumpFld f).tvl = s.tvl ∧ (s.bumpFld f).eth = s.eth ∧
    (s.bumpFld f).nre = s.nre ∧ (s.bumpFld f).cir = s.cir ∧ (s.bumpFld f).sup = s.sup ∧ (s.bumpFld f).pwr = s.pwr ∧
    (s.bumpFld f).cru = s.cru ∧ (s.bumpFld f).rgc = s.rgc ∧ (s.bumpFld f).efl = s.efl ∧ (s.bumpFld f).sec = s.sec ∧
    (s.bumpFld f).top = s.top ∧ (s.bumpFld f).sbb = s.sbb ∧ (s.bumpFld f).dft = s.dft ∧
    (s.bumpFld f).ports = s.ports :=
  ⟨rfl, rfl, rfl, rfl, rfl, rfl, rfl, rfl, rfl, rfl, rfl, rfl, rfl, rfl, rfl, rfl, rfl, rfl, rfl, rfl, rfl, rfl, rfl, rfl, rfl, rfl, rfl, rfl, rfl, rfl, rfl, rfl, rfl⟩

@[simp] theorem emit_rest (s : State) (e : Emit) :
    (s.emit e).pending = s.pending ∧ (s.emit e).timeUs = s.timeUs ∧ (s.emit e).freeCtr = s.freeCtr ∧
    (s.emit e).regs = s.regs ∧ (s.emit e).cnt = s.cnt ∧ (s.emit e).sh = s.sh ∧ (s.emit e).iaddr = s.iaddr ∧
    (s.emit e).done = s.done ∧ (s.emit e).int = s.int ∧ (s.emit e).tqm = s.tqm ∧ (s.emit e).epo = s.epo ∧
    (s.emit e).fch = s.fch ∧ (s.emit e).rsv = s.rsv ∧ (s.emit e).lpr = s.lpr ∧ (s.emit e).stk = s.stk ∧
    (s.emit e).twn = s.twn ∧ (s.emit e).bpm = s.bpm ∧ (s.emit e).dmc = s.dmc ∧ (s.emit e).dbk = s.dbk ∧
    (s.emit e).tvl = s.tvl ∧ (s.emit e).eth = s.eth ∧ (s.emit e).nre = s.nre ∧ (s.emit e).cir = s.cir ∧
    (s.emit e).sup = s.sup ∧ (s.emit e).pwr = s.pwr ∧ (s.emit e).cru = s.cru ∧ (s.emit e).rgc = s.rgc ∧
    (s.emit e).efl = s.efl ∧ (s.emit e).sec = s.sec ∧ (s.emit e).top = s.top ∧ (s.emit e).sbb = s.sbb ∧
    (s.emit e).dft = s.dft ∧ (s.emit e).ports = s.ports :=
  ⟨rfl, rfl, rfl, rfl, rfl, rfl, rfl, rfl, rfl, rfl, rfl, rfl, rfl, rfl, rfl, rfl, rfl, rfl, rfl, rfl, rfl, rfl, rfl, rfl, rfl, rfl, rfl, rfl, rfl, rfl, rfl, rfl, rfl⟩

@[simp] theorem tickFree_rest (s : State) :
    (s.tickFree).pending = s.pending ∧ (s.tickFree).out = s.out ∧ (s.tickFree).timeUs = s.timeUs ∧
    (s.tickFree).regs = s.regs ∧ (s.tickFree).cnt = s.cnt ∧ (s.tickFree).sh = s.sh ∧ (s.tickFree).iaddr = s.iaddr ∧
    (s.tickFree).done = s.done ∧ (s.tickFree).int = s.int ∧ (s.tickFree).tqm = s.tqm ∧ (s.tickFree).epo = s.epo ∧
    (s.tickFree).fch = s.fch ∧ (s.tickFree).rsv = s.rsv ∧ (s.tickFree).lpr = s.lpr ∧ (s.tickFree).stk = s.stk ∧
    (s.tickFree).twn = s.twn ∧ (s.tickFree).bpm = s.bpm ∧ (s.tickFree).dmc = s.dmc ∧ (s.tickFree).dbk = s.dbk ∧
    (s.tickFree).tvl = s.tvl ∧ (s.tickFree).eth = s.eth ∧ (s.tickFree).nre = s.nre ∧ (s.tickFree).cir = s.cir ∧
    (s.tickFree).sup = s.sup ∧ (s.tickFree).pwr = s.pwr ∧ (s.tickFree).cru = s.cru ∧ (s.tickFree).rgc = s.rgc ∧
    (s.tickFree).efl = s.efl ∧ (s.tickFree).sec = s.sec ∧ (s.tickFree).top = s.top ∧ (s.tickFree).sbb = s.sbb ∧
    (s.tickFree).dft = s.dft ∧ (s.tickFree).ports = s.ports :=
  ⟨rfl, rfl, rfl, rfl, rfl, rfl, rfl, rfl, rfl, rfl, rfl, rfl, rfl, rfl, rfl, rfl, rfl, rfl, rfl, rfl, rfl, rfl, rfl, rfl, rfl, rfl, rfl, rfl, rfl, rfl, rfl, rfl, rfl⟩

@[simp] theorem setSrc_rest (s : State) (n : Nat) (r : IntSrc) :
    (s.setSrc n r).pending = s.pending ∧ (s.setSrc n r).out = s.out ∧ (s.setSrc n r).timeUs = s.timeUs ∧
    (s.setSrc n r).freeCtr = s.freeCtr ∧ (s.setSrc n r).regs = s.regs ∧ (s.setSrc n r).cnt = s.cnt ∧
    (s.setSrc n r).sh = s.sh ∧ (s.setSrc n r).iaddr = s.iaddr ∧ (s.setSrc n r).done = s.done ∧
    (s.setSrc n r).tqm = s.tqm ∧ (s.setSrc n r).epo = s.epo ∧ (s.setSrc n r).fch = s.fch ∧
    (s.setSrc n r).rsv = s.rsv ∧ (s.setSrc n r).lpr = s.lpr ∧ (s.setSrc n r).stk = s.stk ∧
    (s.setSrc n r).twn = s.twn ∧ (s.setSrc n r).bpm = s.bpm ∧ (s.setSrc n r).dmc = s.dmc ∧
    (s.setSrc n r).dbk = s.dbk ∧ (s.setSrc n r).tvl = s.tvl ∧ (s.setSrc n r).eth = s.eth ∧
    (s.setSrc n r).nre = s.nre ∧ (s.setSrc n r).cir = s.cir ∧ (s.setSrc n r).sup = s.sup ∧
    (s.setSrc n r).pwr = s.pwr ∧ (s.setSrc n r).cru = s.cru ∧ (s.setSrc n r).rgc = s.rgc ∧
    (s.setSrc n r).efl = s.efl ∧ (s.setSrc n r).sec = s.sec ∧ (s.setSrc n r).top = s.top ∧
    (s.setSrc n r).sbb = s.sbb ∧ (s.setSrc n r).dft = s.dft ∧ (s.setSrc n r).ports = s.ports :=
  ⟨rfl, rfl, rfl, rfl, rfl, rfl, rfl, rfl, rfl, rfl, rfl, rfl, rfl, rfl, rfl, rfl, rfl, rfl, rfl, rfl, rfl, rfl, rfl, rfl, rfl, rfl, rfl, rfl, rfl, rfl, rfl, rfl, rfl⟩

@[simp] theorem raise0_rest (s : State) (n : Nat) :
    (s.raise0 n).pending = s.pending ∧ (s.raise0 n).out = s.out ∧ (s.raise0 n).timeUs = s.timeUs ∧
    (s.raise0 n).freeCtr = s.freeCtr ∧ (s.raise0 n).regs = s.regs ∧ (s.raise0 n).cnt = s.cnt ∧
    (s.raise0 n).sh = s.sh ∧ (s.raise0 n).iaddr = s.iaddr ∧ (s.raise0 n).done = s.done ∧ (s.raise0 n).tqm = s.tqm ∧
    (s.raise0 n).epo = s.epo ∧ (s.raise0 n).fch = s.fch ∧ (s.raise0 n).rsv = s.rsv ∧ (s.raise0 n).lpr = s.lpr ∧
    (s.raise0 n).stk = s.stk ∧ (s.raise0 n).twn = s.twn ∧ (s.raise0 n).bpm = s.bpm ∧ (s.raise0 n).dmc = s.dmc ∧
    (s.raise0 n).dbk = s.dbk ∧ (s.raise0 n).tvl = s.tvl ∧ (s.raise0 n).eth = s.eth ∧ (s.raise0 n).nre = s.nre ∧
    (s.raise0 n).cir = s.cir ∧ (s.raise0 n).sup = s.sup ∧ (s.raise0 n).pwr = s.pwr ∧ (s.raise0 n).cru = s.cru ∧
    (s.raise0 n).rgc = s.rgc ∧ (s.raise0 n).efl = s.efl ∧ (s.raise0 n).sec = s.sec ∧ (s.raise0 n).top = s.top ∧
    (s.raise0 n).sbb = s.sbb ∧ (s.raise0 n).dft = s.dft ∧ (s.raise0 n).ports = s.ports :=
  ⟨rfl, rfl, rfl, rfl, rfl, rfl, rfl, rfl, rfl, rfl, rfl, rfl, rfl, rfl, rfl, rfl, rfl, rfl, rfl, rfl, rfl, rfl, rfl, rfl, rfl, rfl, rfl, rfl, rfl, rfl, rfl, rfl, rfl⟩

@[simp] theorem raise_rest (s : State) (n : Nat) :
    (s.raise n).pending = s.pending ∧ (s.raise n).out = s.out ∧ (s.raise n).timeUs = s.timeUs ∧
    (s.raise n).freeCtr = s.freeCtr ∧ (s.raise n).regs = s.regs ∧ (s.raise n).sh = s.sh ∧
    (s.raise n).iaddr = s.iaddr ∧ (s.raise n).done = s.done ∧ (s.raise n).tqm = s.tqm ∧ (s.raise n).epo = s.epo ∧
    (s.raise n).fch = s.fch ∧ (s.raise n).rsv = s.rsv ∧ (s.raise n).lpr = s.lpr ∧ (s.raise n).stk = s.stk ∧
    (s.raise n).twn = s.twn ∧ (s.raise n).bpm = s.bpm ∧ (s.raise n).dmc = s.dmc ∧ (s.raise n).dbk = s.dbk ∧
    (s.raise n).tvl = s.tvl ∧ (s.raise n).eth = s.eth ∧ (s.raise n).nre = s.nre ∧ (s.raise n).cir = s.cir ∧
    (s.raise n).sup = s.sup ∧ (s.raise n).pwr = s.pwr ∧ (s.raise n).cru = s.cru ∧ (s.raise n).rgc = s.rgc ∧
    (s.raise n).efl = s.efl ∧ (s.raise n).sec = s.sec ∧ (s.raise n).top = s.top ∧ (s.raise n).sbb = s.sbb ∧
    (s.raise n).dft = s.dft ∧ (s.raise n).ports = s.ports :=
  by
  unfold State.raise; dsimp only; repeat' split
  all_goals simp

@[simp] theorem spend_rest (s : State) (t k n : Nat) :
    (s.spend t k n).pending = s.pending ∧ (s.spend t k n).out = s.out ∧ (s.spend t k n).timeUs = s.timeUs ∧
    (s.spend t k n).freeCtr = s.freeCtr ∧ (s.spend t k n).regs = s.regs ∧ (s.spend t k n).cnt = s.cnt ∧
    (s.spend t k n).sh = s.sh ∧ (s.spend t k n).iaddr = s.iaddr ∧ (s.spend t k n).done = s.done ∧
    (s.spend t k n).int = s.int ∧ (s.spend t k n).tqm = s.tqm ∧ (s.spend t k n).epo = s.epo ∧
    (s.spend t k n).fch = s.fch ∧ (s.spend t k n).rsv = s.rsv ∧ (s.spend t k n).lpr = s.lpr ∧
    (s.spend t k n).stk = s.stk ∧ (s.spend t k n).twn = s.twn ∧ (s.spend t k n).bpm = s.bpm ∧
    (s.spend t k n).dmc = s.dmc ∧ (s.spend t k n).dbk = s.dbk ∧ (s.spend t k n).tvl = s.tvl ∧
    (s.spend t k n).eth = s.eth ∧ (s.spend t k n).nre = s.nre ∧ (s.spend t k n).cir = s.cir ∧
    (s.spend t k n).sup = s.sup ∧ (s.spend t k n).cru = s.cru ∧ (s.spend t k n).rgc = s.rgc ∧
    (s.spend t k n).efl = s.efl ∧ (s.spend t k n).sec = s.sec ∧ (s.spend t k n).top = s.top ∧
    (s.spend t k n).sbb = s.sbb ∧ (s.spend t k n).dft = s.dft ∧ (s.spend t k n).ports = s.ports :=
  ⟨rfl, rfl, rfl, rfl, rfl, rfl, rfl, rfl, rfl, rfl, rfl, rfl, rfl, rfl, rfl, rfl, rfl, rfl, rfl, rfl, rfl, rfl, rfl, rfl, rfl, rfl, rfl, rfl, rfl, rfl, rfl, rfl, rfl⟩

@[simp] theorem note_rest (s : State) (code : Nat) (ws : List Nat) :
    (s.note code ws).pending = s.pending ∧ (s.note code ws).out = s.out ∧ (s.note code ws).timeUs = s.timeUs ∧
    (s.note code ws).freeCtr = s.freeCtr ∧ (s.note code ws).regs = s.regs ∧ (s.note code ws).sh = s.sh ∧
    (s.note code ws).iaddr = s.iaddr ∧ (s.note code ws).done = s.done ∧ (s.note code ws).tqm = s.tqm ∧
    (s.note code ws).epo = s.epo ∧ (s.note code ws).fch = s.fch ∧ (s.note code ws).rsv = s.rsv ∧
    (s.note code ws).lpr = s.lpr ∧ (s.note code ws).stk = s.stk ∧ (s.note code ws).twn = s.twn ∧
    (s.note code ws).bpm = s.bpm ∧ (s.note code ws).dmc = s.dmc ∧ (s.note code ws).tvl = s.tvl ∧
    (s.note code ws).eth = s.eth ∧ (s.note code ws).nre = s.nre ∧ (s.note code ws).cir = s.cir ∧
    (s.note code ws).sup = s.sup ∧ (s.note code ws).pwr = s.pwr ∧ (s.note code ws).cru = s.cru ∧
    (s.note code ws).rgc = s.rgc ∧ (s.note code ws).efl = s.efl ∧ (s.note code ws).sec = s.sec ∧
    (s.note code ws).top = s.top ∧ (s.note code ws).sbb = s.sbb ∧ (s.note code ws).dft = s.dft ∧
    (s.note code ws).ports = s.ports :=
  by
  unfold State.note; dsimp only; split <;> simp

@[simp] theorem setTenant_rest (s : State) (t : Nat) (r : Tenant) :
    (s.setTenant t r).pending = s.pending ∧ (s.setTenant t r).out = s.out ∧ (s.setTenant t r).timeUs = s.timeUs ∧
    (s.setTenant t r).freeCtr = s.freeCtr ∧ (s.setTenant t r).regs = s.regs ∧ (s.setTenant t r).cnt = s.cnt ∧
    (s.setTenant t r).sh = s.sh ∧ (s.setTenant t r).iaddr = s.iaddr ∧ (s.setTenant t r).done = s.done ∧
    (s.setTenant t r).int = s.int ∧ (s.setTenant t r).epo = s.epo ∧ (s.setTenant t r).fch = s.fch ∧
    (s.setTenant t r).rsv = s.rsv ∧ (s.setTenant t r).lpr = s.lpr ∧ (s.setTenant t r).stk = s.stk ∧
    (s.setTenant t r).twn = s.twn ∧ (s.setTenant t r).bpm = s.bpm ∧ (s.setTenant t r).dmc = s.dmc ∧
    (s.setTenant t r).dbk = s.dbk ∧ (s.setTenant t r).tvl = s.tvl ∧ (s.setTenant t r).eth = s.eth ∧
    (s.setTenant t r).nre = s.nre ∧ (s.setTenant t r).cir = s.cir ∧ (s.setTenant t r).sup = s.sup ∧
    (s.setTenant t r).pwr = s.pwr ∧ (s.setTenant t r).cru = s.cru ∧ (s.setTenant t r).rgc = s.rgc ∧
    (s.setTenant t r).efl = s.efl ∧ (s.setTenant t r).sec = s.sec ∧ (s.setTenant t r).top = s.top ∧
    (s.setTenant t r).sbb = s.sbb ∧ (s.setTenant t r).dft = s.dft ∧ (s.setTenant t r).ports = s.ports :=
  by
  unfold State.setTenant; split <;> exact ⟨rfl, rfl, rfl, rfl, rfl, rfl, rfl, rfl, rfl, rfl, rfl, rfl, rfl, rfl, rfl, rfl, rfl, rfl, rfl, rfl, rfl, rfl, rfl, rfl, rfl, rfl, rfl, rfl, rfl, rfl, rfl, rfl, rfl⟩

@[simp] theorem setObj_rest (s : State) (n : Nat) (o : Obj) :
    (s.setObj n o).pending = s.pending ∧ (s.setObj n o).out = s.out ∧ (s.setObj n o).timeUs = s.timeUs ∧
    (s.setObj n o).freeCtr = s.freeCtr ∧ (s.setObj n o).regs = s.regs ∧ (s.setObj n o).cnt = s.cnt ∧
    (s.setObj n o).sh = s.sh ∧ (s.setObj n o).iaddr = s.iaddr ∧ (s.setObj n o).done = s.done ∧
    (s.setObj n o).int = s.int ∧ (s.setObj n o).epo = s.epo ∧ (s.setObj n o).fch = s.fch ∧
    (s.setObj n o).rsv = s.rsv ∧ (s.setObj n o).lpr = s.lpr ∧ (s.setObj n o).stk = s.stk ∧
    (s.setObj n o).twn = s.twn ∧ (s.setObj n o).bpm = s.bpm ∧ (s.setObj n o).dmc = s.dmc ∧
    (s.setObj n o).dbk = s.dbk ∧ (s.setObj n o).tvl = s.tvl ∧ (s.setObj n o).eth = s.eth ∧
    (s.setObj n o).nre = s.nre ∧ (s.setObj n o).cir = s.cir ∧ (s.setObj n o).sup = s.sup ∧
    (s.setObj n o).pwr = s.pwr ∧ (s.setObj n o).cru = s.cru ∧ (s.setObj n o).rgc = s.rgc ∧
    (s.setObj n o).efl = s.efl ∧ (s.setObj n o).sec = s.sec ∧ (s.setObj n o).top = s.top ∧
    (s.setObj n o).sbb = s.sbb ∧ (s.setObj n o).dft = s.dft ∧ (s.setObj n o).ports = s.ports :=
  ⟨rfl, rfl, rfl, rfl, rfl, rfl, rfl, rfl, rfl, rfl, rfl, rfl, rfl, rfl, rfl, rfl, rfl, rfl, rfl, rfl, rfl, rfl, rfl, rfl, rfl, rfl, rfl, rfl, rfl, rfl, rfl, rfl, rfl⟩

@[simp] theorem setGrant_rest (s : State) (n : Nat) (g : Grant) :
    (s.setGrant n g).pending = s.pending ∧ (s.setGrant n g).out = s.out ∧ (s.setGrant n g).timeUs = s.timeUs ∧
    (s.setGrant n g).freeCtr = s.freeCtr ∧ (s.setGrant n g).regs = s.regs ∧ (s.setGrant n g).cnt = s.cnt ∧
    (s.setGrant n g).sh = s.sh ∧ (s.setGrant n g).iaddr = s.iaddr ∧ (s.setGrant n g).done = s.done ∧
    (s.setGrant n g).int = s.int ∧ (s.setGrant n g).epo = s.epo ∧ (s.setGrant n g).rsv = s.rsv ∧ (s.setGrant n g).lpr = s.lpr ∧ (s.setGrant n g).stk = s.stk ∧
    (s.setGrant n g).twn = s.twn ∧ (s.setGrant n g).bpm = s.bpm ∧ (s.setGrant n g).dmc = s.dmc ∧
    (s.setGrant n g).dbk = s.dbk ∧ (s.setGrant n g).tvl = s.tvl ∧ (s.setGrant n g).eth = s.eth ∧
    (s.setGrant n g).nre = s.nre ∧ (s.setGrant n g).cir = s.cir ∧ (s.setGrant n g).sup = s.sup ∧
    (s.setGrant n g).pwr = s.pwr ∧ (s.setGrant n g).cru = s.cru ∧ (s.setGrant n g).rgc = s.rgc ∧
    (s.setGrant n g).efl = s.efl ∧ (s.setGrant n g).sec = s.sec ∧ (s.setGrant n g).top = s.top ∧
    (s.setGrant n g).sbb = s.sbb ∧ (s.setGrant n g).dft = s.dft ∧ (s.setGrant n g).ports = s.ports :=
  ⟨rfl, rfl, rfl, rfl, rfl, rfl, rfl, rfl, rfl, rfl, rfl, rfl, rfl, rfl, rfl, rfl, rfl, rfl, rfl, rfl, rfl, rfl, rfl, rfl, rfl, rfl, rfl, rfl, rfl, rfl, rfl, rfl⟩

@[simp] theorem setWindow_rest (s : State) (n : Nat) (w : Window) :
    (s.setWindow n w).pending = s.pending ∧ (s.setWindow n w).out = s.out ∧ (s.setWindow n w).timeUs = s.timeUs ∧
    (s.setWindow n w).freeCtr = s.freeCtr ∧ (s.setWindow n w).regs = s.regs ∧ (s.setWindow n w).cnt = s.cnt ∧
    (s.setWindow n w).sh = s.sh ∧ (s.setWindow n w).iaddr = s.iaddr ∧ (s.setWindow n w).done = s.done ∧
    (s.setWindow n w).int = s.int ∧ (s.setWindow n w).epo = s.epo ∧ (s.setWindow n w).fch = s.fch ∧
    (s.setWindow n w).rsv = s.rsv ∧ (s.setWindow n w).lpr = s.lpr ∧ (s.setWindow n w).stk = s.stk ∧
    (s.setWindow n w).twn = s.twn ∧ (s.setWindow n w).bpm = s.bpm ∧ (s.setWindow n w).dmc = s.dmc ∧
    (s.setWindow n w).dbk = s.dbk ∧ (s.setWindow n w).tvl = s.tvl ∧ (s.setWindow n w).eth = s.eth ∧
    (s.setWindow n w).nre = s.nre ∧ (s.setWindow n w).cir = s.cir ∧ (s.setWindow n w).sup = s.sup ∧
    (s.setWindow n w).pwr = s.pwr ∧ (s.setWindow n w).cru = s.cru ∧ (s.setWindow n w).rgc = s.rgc ∧
    (s.setWindow n w).efl = s.efl ∧ (s.setWindow n w).sec = s.sec ∧ (s.setWindow n w).top = s.top ∧
    (s.setWindow n w).sbb = s.sbb ∧ (s.setWindow n w).dft = s.dft ∧ (s.setWindow n w).ports = s.ports :=
  ⟨rfl, rfl, rfl, rfl, rfl, rfl, rfl, rfl, rfl, rfl, rfl, rfl, rfl, rfl, rfl, rfl, rfl, rfl, rfl, rfl, rfl, rfl, rfl, rfl, rfl, rfl, rfl, rfl, rfl, rfl, rfl, rfl, rfl⟩

@[simp] theorem setMap_rest (s : State) (c m : Nat) (e : MapEnt) :
    (s.setMap c m e).pending = s.pending ∧ (s.setMap c m e).out = s.out ∧ (s.setMap c m e).timeUs = s.timeUs ∧
    (s.setMap c m e).freeCtr = s.freeCtr ∧ (s.setMap c m e).regs = s.regs ∧ (s.setMap c m e).cnt = s.cnt ∧
    (s.setMap c m e).sh = s.sh ∧ (s.setMap c m e).iaddr = s.iaddr ∧ (s.setMap c m e).done = s.done ∧
    (s.setMap c m e).int = s.int ∧ (s.setMap c m e).epo = s.epo ∧ (s.setMap c m e).rsv = s.rsv ∧ (s.setMap c m e).lpr = s.lpr ∧ (s.setMap c m e).stk = s.stk ∧
    (s.setMap c m e).twn = s.twn ∧ (s.setMap c m e).bpm = s.bpm ∧ (s.setMap c m e).dmc = s.dmc ∧
    (s.setMap c m e).dbk = s.dbk ∧ (s.setMap c m e).tvl = s.tvl ∧ (s.setMap c m e).eth = s.eth ∧
    (s.setMap c m e).nre = s.nre ∧ (s.setMap c m e).cir = s.cir ∧ (s.setMap c m e).sup = s.sup ∧
    (s.setMap c m e).pwr = s.pwr ∧ (s.setMap c m e).cru = s.cru ∧ (s.setMap c m e).rgc = s.rgc ∧
    (s.setMap c m e).efl = s.efl ∧ (s.setMap c m e).sec = s.sec ∧ (s.setMap c m e).top = s.top ∧
    (s.setMap c m e).sbb = s.sbb ∧ (s.setMap c m e).dft = s.dft ∧ (s.setMap c m e).ports = s.ports :=
  ⟨rfl, rfl, rfl, rfl, rfl, rfl, rfl, rfl, rfl, rfl, rfl, rfl, rfl, rfl, rfl, rfl, rfl, rfl, rfl, rfl, rfl, rfl, rfl, rfl, rfl, rfl, rfl, rfl, rfl, rfl, rfl, rfl⟩

@[simp] theorem setCtx_rest (s : State) (c : Nat) (x : Ctx) :
    (s.setCtx c x).pending = s.pending ∧ (s.setCtx c x).out = s.out ∧ (s.setCtx c x).timeUs = s.timeUs ∧
    (s.setCtx c x).freeCtr = s.freeCtr ∧ (s.setCtx c x).regs = s.regs ∧ (s.setCtx c x).cnt = s.cnt ∧
    (s.setCtx c x).sh = s.sh ∧ (s.setCtx c x).iaddr = s.iaddr ∧ (s.setCtx c x).done = s.done ∧
    (s.setCtx c x).int = s.int ∧ (s.setCtx c x).epo = s.epo ∧ (s.setCtx c x).fch = s.fch ∧
    (s.setCtx c x).rsv = s.rsv ∧ (s.setCtx c x).lpr = s.lpr ∧ (s.setCtx c x).stk = s.stk ∧
    (s.setCtx c x).twn = s.twn ∧ (s.setCtx c x).bpm = s.bpm ∧ (s.setCtx c x).dmc = s.dmc ∧
    (s.setCtx c x).dbk = s.dbk ∧ (s.setCtx c x).tvl = s.tvl ∧ (s.setCtx c x).eth = s.eth ∧
    (s.setCtx c x).nre = s.nre ∧ (s.setCtx c x).cir = s.cir ∧ (s.setCtx c x).sup = s.sup ∧
    (s.setCtx c x).pwr = s.pwr ∧ (s.setCtx c x).cru = s.cru ∧ (s.setCtx c x).rgc = s.rgc ∧
    (s.setCtx c x).efl = s.efl ∧ (s.setCtx c x).sec = s.sec ∧ (s.setCtx c x).top = s.top ∧
    (s.setCtx c x).sbb = s.sbb ∧ (s.setCtx c x).dft = s.dft ∧ (s.setCtx c x).ports = s.ports :=
  ⟨rfl, rfl, rfl, rfl, rfl, rfl, rfl, rfl, rfl, rfl, rfl, rfl, rfl, rfl, rfl, rfl, rfl, rfl, rfl, rfl, rfl, rfl, rfl, rfl, rfl, rfl, rfl, rfl, rfl, rfl, rfl, rfl, rfl⟩

@[simp] theorem setShelf_rest (s : State) (n : Nat) (h : Shelf) :
    (s.setShelf n h).pending = s.pending ∧ (s.setShelf n h).out = s.out ∧ (s.setShelf n h).timeUs = s.timeUs ∧
    (s.setShelf n h).freeCtr = s.freeCtr ∧ (s.setShelf n h).regs = s.regs ∧ (s.setShelf n h).cnt = s.cnt ∧
    (s.setShelf n h).sh = s.sh ∧ (s.setShelf n h).iaddr = s.iaddr ∧ (s.setShelf n h).done = s.done ∧
    (s.setShelf n h).int = s.int ∧ (s.setShelf n h).epo = s.epo ∧ (s.setShelf n h).rsv = s.rsv ∧ (s.setShelf n h).lpr = s.lpr ∧ (s.setShelf n h).stk = s.stk ∧
    (s.setShelf n h).twn = s.twn ∧ (s.setShelf n h).bpm = s.bpm ∧ (s.setShelf n h).dmc = s.dmc ∧
    (s.setShelf n h).dbk = s.dbk ∧ (s.setShelf n h).tvl = s.tvl ∧ (s.setShelf n h).eth = s.eth ∧
    (s.setShelf n h).nre = s.nre ∧ (s.setShelf n h).cir = s.cir ∧ (s.setShelf n h).sup = s.sup ∧
    (s.setShelf n h).pwr = s.pwr ∧ (s.setShelf n h).cru = s.cru ∧ (s.setShelf n h).rgc = s.rgc ∧
    (s.setShelf n h).efl = s.efl ∧ (s.setShelf n h).sec = s.sec ∧ (s.setShelf n h).top = s.top ∧
    (s.setShelf n h).sbb = s.sbb ∧ (s.setShelf n h).dft = s.dft ∧ (s.setShelf n h).ports = s.ports :=
  ⟨rfl, rfl, rfl, rfl, rfl, rfl, rfl, rfl, rfl, rfl, rfl, rfl, rfl, rfl, rfl, rfl, rfl, rfl, rfl, rfl, rfl, rfl, rfl, rfl, rfl, rfl, rfl, rfl, rfl, rfl, rfl, rfl⟩

@[simp] theorem setGrp_rest (s : State) (n : Nat) (g : Grp) :
    (s.setGrp n g).pending = s.pending ∧ (s.setGrp n g).out = s.out ∧ (s.setGrp n g).timeUs = s.timeUs ∧
    (s.setGrp n g).freeCtr = s.freeCtr ∧ (s.setGrp n g).regs = s.regs ∧ (s.setGrp n g).cnt = s.cnt ∧
    (s.setGrp n g).sh = s.sh ∧ (s.setGrp n g).iaddr = s.iaddr ∧ (s.setGrp n g).done = s.done ∧
    (s.setGrp n g).int = s.int ∧ (s.setGrp n g).epo = s.epo ∧ (s.setGrp n g).fch = s.fch ∧
    (s.setGrp n g).rsv = s.rsv ∧ (s.setGrp n g).lpr = s.lpr ∧ (s.setGrp n g).stk = s.stk ∧
    (s.setGrp n g).twn = s.twn ∧ (s.setGrp n g).bpm = s.bpm ∧ (s.setGrp n g).dmc = s.dmc ∧
    (s.setGrp n g).dbk = s.dbk ∧ (s.setGrp n g).tvl = s.tvl ∧ (s.setGrp n g).eth = s.eth ∧
    (s.setGrp n g).nre = s.nre ∧ (s.setGrp n g).cir = s.cir ∧ (s.setGrp n g).sup = s.sup ∧
    (s.setGrp n g).pwr = s.pwr ∧ (s.setGrp n g).cru = s.cru ∧ (s.setGrp n g).rgc = s.rgc ∧
    (s.setGrp n g).efl = s.efl ∧ (s.setGrp n g).sec = s.sec ∧ (s.setGrp n g).top = s.top ∧
    (s.setGrp n g).sbb = s.sbb ∧ (s.setGrp n g).dft = s.dft ∧ (s.setGrp n g).ports = s.ports :=
  ⟨rfl, rfl, rfl, rfl, rfl, rfl, rfl, rfl, rfl, rfl, rfl, rfl, rfl, rfl, rfl, rfl, rfl, rfl, rfl, rfl, rfl, rfl, rfl, rfl, rfl, rfl, rfl, rfl, rfl, rfl, rfl, rfl, rfl⟩

@[simp] theorem setStream_rest (s : State) (i : Nat) (r : Stream) :
    (s.setStream i r).pending = s.pending ∧ (s.setStream i r).out = s.out ∧ (s.setStream i r).timeUs = s.timeUs ∧
    (s.setStream i r).freeCtr = s.freeCtr ∧ (s.setStream i r).regs = s.regs ∧ (s.setStream i r).cnt = s.cnt ∧
    (s.setStream i r).sh = s.sh ∧ (s.setStream i r).iaddr = s.iaddr ∧ (s.setStream i r).done = s.done ∧
    (s.setStream i r).int = s.int ∧ (s.setStream i r).tqm = s.tqm ∧ (s.setStream i r).fch = s.fch ∧
    (s.setStream i r).rsv = s.rsv ∧ (s.setStream i r).lpr = s.lpr ∧ (s.setStream i r).stk = s.stk ∧
    (s.setStream i r).twn = s.twn ∧ (s.setStream i r).bpm = s.bpm ∧ (s.setStream i r).dmc = s.dmc ∧
    (s.setStream i r).dbk = s.dbk ∧ (s.setStream i r).tvl = s.tvl ∧ (s.setStream i r).eth = s.eth ∧
    (s.setStream i r).nre = s.nre ∧ (s.setStream i r).cir = s.cir ∧ (s.setStream i r).sup = s.sup ∧
    (s.setStream i r).pwr = s.pwr ∧ (s.setStream i r).cru = s.cru ∧ (s.setStream i r).rgc = s.rgc ∧
    (s.setStream i r).efl = s.efl ∧ (s.setStream i r).sec = s.sec ∧ (s.setStream i r).top = s.top ∧
    (s.setStream i r).sbb = s.sbb ∧ (s.setStream i r).dft = s.dft ∧ (s.setStream i r).ports = s.ports :=
  ⟨rfl, rfl, rfl, rfl, rfl, rfl, rfl, rfl, rfl, rfl, rfl, rfl, rfl, rfl, rfl, rfl, rfl, rfl, rfl, rfl, rfl, rfl, rfl, rfl, rfl, rfl, rfl, rfl, rfl, rfl, rfl, rfl, rfl⟩

@[simp] theorem putWay_rest (s : State) (k : Nat) (w : Way) :
    (s.putWay k w).pending = s.pending ∧ (s.putWay k w).out = s.out ∧ (s.putWay k w).timeUs = s.timeUs ∧
    (s.putWay k w).freeCtr = s.freeCtr ∧ (s.putWay k w).regs = s.regs ∧ (s.putWay k w).cnt = s.cnt ∧
    (s.putWay k w).sh = s.sh ∧ (s.putWay k w).iaddr = s.iaddr ∧ (s.putWay k w).done = s.done ∧
    (s.putWay k w).int = s.int ∧ (s.putWay k w).tqm = s.tqm ∧ (s.putWay k w).epo = s.epo ∧
    (s.putWay k w).rsv = s.rsv ∧ (s.putWay k w).lpr = s.lpr ∧ (s.putWay k w).stk = s.stk ∧
    (s.putWay k w).twn = s.twn ∧ (s.putWay k w).bpm = s.bpm ∧ (s.putWay k w).dmc = s.dmc ∧
    (s.putWay k w).dbk = s.dbk ∧ (s.putWay k w).tvl = s.tvl ∧ (s.putWay k w).eth = s.eth ∧
    (s.putWay k w).nre = s.nre ∧ (s.putWay k w).cir = s.cir ∧ (s.putWay k w).sup = s.sup ∧
    (s.putWay k w).pwr = s.pwr ∧ (s.putWay k w).cru = s.cru ∧ (s.putWay k w).rgc = s.rgc ∧
    (s.putWay k w).efl = s.efl ∧ (s.putWay k w).sec = s.sec ∧ (s.putWay k w).top = s.top ∧
    (s.putWay k w).sbb = s.sbb ∧ (s.putWay k w).dft = s.dft ∧ (s.putWay k w).ports = s.ports :=
  ⟨rfl, rfl, rfl, rfl, rfl, rfl, rfl, rfl, rfl, rfl, rfl, rfl, rfl, rfl, rfl, rfl, rfl, rfl, rfl, rfl, rfl, rfl, rfl, rfl, rfl, rfl, rfl, rfl, rfl, rfl, rfl, rfl, rfl⟩

@[simp] theorem putPinRsv_rest (s : State) (k n : Nat) :
    (s.putPinRsv k n).pending = s.pending ∧ (s.putPinRsv k n).out = s.out ∧ (s.putPinRsv k n).timeUs = s.timeUs ∧
    (s.putPinRsv k n).freeCtr = s.freeCtr ∧ (s.putPinRsv k n).regs = s.regs ∧ (s.putPinRsv k n).cnt = s.cnt ∧
    (s.putPinRsv k n).sh = s.sh ∧ (s.putPinRsv k n).iaddr = s.iaddr ∧ (s.putPinRsv k n).done = s.done ∧
    (s.putPinRsv k n).int = s.int ∧ (s.putPinRsv k n).tqm = s.tqm ∧ (s.putPinRsv k n).epo = s.epo ∧
    (s.putPinRsv k n).rsv = s.rsv ∧ (s.putPinRsv k n).lpr = s.lpr ∧ (s.putPinRsv k n).stk = s.stk ∧
    (s.putPinRsv k n).twn = s.twn ∧ (s.putPinRsv k n).bpm = s.bpm ∧ (s.putPinRsv k n).dmc = s.dmc ∧
    (s.putPinRsv k n).dbk = s.dbk ∧ (s.putPinRsv k n).tvl = s.tvl ∧ (s.putPinRsv k n).eth = s.eth ∧
    (s.putPinRsv k n).nre = s.nre ∧ (s.putPinRsv k n).cir = s.cir ∧ (s.putPinRsv k n).sup = s.sup ∧
    (s.putPinRsv k n).pwr = s.pwr ∧ (s.putPinRsv k n).cru = s.cru ∧ (s.putPinRsv k n).rgc = s.rgc ∧
    (s.putPinRsv k n).efl = s.efl ∧ (s.putPinRsv k n).sec = s.sec ∧ (s.putPinRsv k n).top = s.top ∧
    (s.putPinRsv k n).sbb = s.sbb ∧ (s.putPinRsv k n).dft = s.dft ∧ (s.putPinRsv k n).ports = s.ports :=
  ⟨rfl, rfl, rfl, rfl, rfl, rfl, rfl, rfl, rfl, rfl, rfl, rfl, rfl, rfl, rfl, rfl, rfl, rfl, rfl, rfl, rfl, rfl, rfl, rfl, rfl, rfl, rfl, rfl, rfl, rfl, rfl, rfl, rfl⟩

@[simp] theorem metaTouch_rest (s : State) (f : Nat) :
    (s.metaTouch f).pending = s.pending ∧ (s.metaTouch f).out = s.out ∧ (s.metaTouch f).timeUs = s.timeUs ∧
    (s.metaTouch f).freeCtr = s.freeCtr ∧ (s.metaTouch f).regs = s.regs ∧ (s.metaTouch f).cnt = s.cnt ∧
    (s.metaTouch f).sh = s.sh ∧ (s.metaTouch f).iaddr = s.iaddr ∧ (s.metaTouch f).done = s.done ∧
    (s.metaTouch f).int = s.int ∧ (s.metaTouch f).tqm = s.tqm ∧ (s.metaTouch f).epo = s.epo ∧
    (s.metaTouch f).rsv = s.rsv ∧ (s.metaTouch f).lpr = s.lpr ∧ (s.metaTouch f).stk = s.stk ∧
    (s.metaTouch f).twn = s.twn ∧ (s.metaTouch f).bpm = s.bpm ∧ (s.metaTouch f).dmc = s.dmc ∧
    (s.metaTouch f).dbk = s.dbk ∧ (s.metaTouch f).tvl = s.tvl ∧ (s.metaTouch f).eth = s.eth ∧
    (s.metaTouch f).nre = s.nre ∧ (s.metaTouch f).cir = s.cir ∧ (s.metaTouch f).sup = s.sup ∧
    (s.metaTouch f).pwr = s.pwr ∧ (s.metaTouch f).cru = s.cru ∧ (s.metaTouch f).rgc = s.rgc ∧
    (s.metaTouch f).efl = s.efl ∧ (s.metaTouch f).sec = s.sec ∧ (s.metaTouch f).top = s.top ∧
    (s.metaTouch f).sbb = s.sbb ∧ (s.metaTouch f).dft = s.dft ∧ (s.metaTouch f).ports = s.ports :=
  ⟨rfl, rfl, rfl, rfl, rfl, rfl, rfl, rfl, rfl, rfl, rfl, rfl, rfl, rfl, rfl, rfl, rfl, rfl, rfl, rfl,
    rfl, rfl, rfl, rfl, rfl, rfl, rfl, rfl, rfl, rfl, rfl, rfl, rfl⟩

@[simp] theorem setSched_rest (s : State) (n : Nat) (x : Sched) :
    (s.setSched n x).pending = s.pending ∧ (s.setSched n x).out = s.out ∧ (s.setSched n x).timeUs = s.timeUs ∧
    (s.setSched n x).freeCtr = s.freeCtr ∧ (s.setSched n x).regs = s.regs ∧ (s.setSched n x).cnt = s.cnt ∧
    (s.setSched n x).sh = s.sh ∧ (s.setSched n x).iaddr = s.iaddr ∧ (s.setSched n x).done = s.done ∧
    (s.setSched n x).int = s.int ∧ (s.setSched n x).tqm = s.tqm ∧ (s.setSched n x).epo = s.epo ∧
    (s.setSched n x).rsv = s.rsv ∧ (s.setSched n x).lpr = s.lpr ∧ (s.setSched n x).stk = s.stk ∧
    (s.setSched n x).twn = s.twn ∧ (s.setSched n x).bpm = s.bpm ∧ (s.setSched n x).dmc = s.dmc ∧
    (s.setSched n x).dbk = s.dbk ∧ (s.setSched n x).tvl = s.tvl ∧ (s.setSched n x).eth = s.eth ∧
    (s.setSched n x).nre = s.nre ∧ (s.setSched n x).sup = s.sup ∧ (s.setSched n x).pwr = s.pwr ∧
    (s.setSched n x).cru = s.cru ∧ (s.setSched n x).rgc = s.rgc ∧ (s.setSched n x).efl = s.efl ∧
    (s.setSched n x).sec = s.sec ∧ (s.setSched n x).top = s.top ∧ (s.setSched n x).sbb = s.sbb ∧
    (s.setSched n x).dft = s.dft ∧ (s.setSched n x).ports = s.ports :=
  ⟨rfl, rfl, rfl, rfl, rfl, rfl, rfl, rfl, rfl, rfl, rfl, rfl, rfl, rfl, rfl, rfl, rfl, rfl, rfl, rfl,
    rfl, rfl, rfl, rfl, rfl, rfl, rfl, rfl, rfl, rfl, rfl, rfl⟩

@[simp] theorem setDline_rest (s : State) (a : Nat) (l : DLine) :
    (s.setDline a l).pending = s.pending ∧ (s.setDline a l).out = s.out ∧ (s.setDline a l).timeUs = s.timeUs ∧
    (s.setDline a l).freeCtr = s.freeCtr ∧ (s.setDline a l).regs = s.regs ∧ (s.setDline a l).cnt = s.cnt ∧
    (s.setDline a l).sh = s.sh ∧ (s.setDline a l).iaddr = s.iaddr ∧ (s.setDline a l).done = s.done ∧
    (s.setDline a l).int = s.int ∧ (s.setDline a l).tqm = s.tqm ∧ (s.setDline a l).epo = s.epo ∧
    (s.setDline a l).fch = s.fch ∧ (s.setDline a l).rsv = s.rsv ∧ (s.setDline a l).stk = s.stk ∧
    (s.setDline a l).twn = s.twn ∧ (s.setDline a l).bpm = s.bpm ∧ (s.setDline a l).dmc = s.dmc ∧
    (s.setDline a l).dbk = s.dbk ∧ (s.setDline a l).tvl = s.tvl ∧ (s.setDline a l).eth = s.eth ∧
    (s.setDline a l).nre = s.nre ∧ (s.setDline a l).cir = s.cir ∧ (s.setDline a l).sup = s.sup ∧
    (s.setDline a l).pwr = s.pwr ∧ (s.setDline a l).cru = s.cru ∧ (s.setDline a l).rgc = s.rgc ∧
    (s.setDline a l).efl = s.efl ∧ (s.setDline a l).sec = s.sec ∧ (s.setDline a l).top = s.top ∧
    (s.setDline a l).sbb = s.sbb ∧ (s.setDline a l).dft = s.dft ∧ (s.setDline a l).ports = s.ports :=
  ⟨rfl, rfl, rfl, rfl, rfl, rfl, rfl, rfl, rfl, rfl, rfl, rfl, rfl, rfl, rfl, rfl, rfl, rfl, rfl, rfl,
    rfl, rfl, rfl, rfl, rfl, rfl, rfl, rfl, rfl, rfl, rfl, rfl, rfl⟩

@[simp] theorem setErasure_rest (s : State) (c r : Nat) (e : Erasure) :
    (s.setErasure c r e).pending = s.pending ∧ (s.setErasure c r e).out = s.out ∧
    (s.setErasure c r e).timeUs = s.timeUs ∧ (s.setErasure c r e).freeCtr = s.freeCtr ∧
    (s.setErasure c r e).regs = s.regs ∧ (s.setErasure c r e).cnt = s.cnt ∧ (s.setErasure c r e).sh = s.sh ∧
    (s.setErasure c r e).iaddr = s.iaddr ∧ (s.setErasure c r e).done = s.done ∧ (s.setErasure c r e).int = s.int ∧
    (s.setErasure c r e).tqm = s.tqm ∧ (s.setErasure c r e).epo = s.epo ∧ (s.setErasure c r e).fch = s.fch ∧
    (s.setErasure c r e).rsv = s.rsv ∧ (s.setErasure c r e).stk = s.stk ∧ (s.setErasure c r e).twn = s.twn ∧
    (s.setErasure c r e).bpm = s.bpm ∧ (s.setErasure c r e).dmc = s.dmc ∧ (s.setErasure c r e).dbk = s.dbk ∧
    (s.setErasure c r e).tvl = s.tvl ∧ (s.setErasure c r e).eth = s.eth ∧ (s.setErasure c r e).nre = s.nre ∧
    (s.setErasure c r e).cir = s.cir ∧ (s.setErasure c r e).sup = s.sup ∧ (s.setErasure c r e).pwr = s.pwr ∧
    (s.setErasure c r e).cru = s.cru ∧ (s.setErasure c r e).rgc = s.rgc ∧ (s.setErasure c r e).efl = s.efl ∧
    (s.setErasure c r e).sec = s.sec ∧ (s.setErasure c r e).top = s.top ∧ (s.setErasure c r e).sbb = s.sbb ∧
    (s.setErasure c r e).dft = s.dft ∧ (s.setErasure c r e).ports = s.ports :=
  ⟨rfl, rfl, rfl, rfl, rfl, rfl, rfl, rfl, rfl, rfl, rfl, rfl, rfl, rfl, rfl, rfl, rfl, rfl, rfl, rfl,
    rfl, rfl, rfl, rfl, rfl, rfl, rfl, rfl, rfl, rfl, rfl, rfl, rfl⟩

@[simp] theorem setRemap_rest (s : State) (c e : Nat) (r : Remap) :
    (s.setRemap c e r).pending = s.pending ∧ (s.setRemap c e r).out = s.out ∧ (s.setRemap c e r).timeUs = s.timeUs ∧
    (s.setRemap c e r).freeCtr = s.freeCtr ∧ (s.setRemap c e r).regs = s.regs ∧ (s.setRemap c e r).cnt = s.cnt ∧
    (s.setRemap c e r).sh = s.sh ∧ (s.setRemap c e r).iaddr = s.iaddr ∧ (s.setRemap c e r).done = s.done ∧
    (s.setRemap c e r).int = s.int ∧ (s.setRemap c e r).tqm = s.tqm ∧ (s.setRemap c e r).epo = s.epo ∧
    (s.setRemap c e r).fch = s.fch ∧ (s.setRemap c e r).rsv = s.rsv ∧ (s.setRemap c e r).stk = s.stk ∧
    (s.setRemap c e r).twn = s.twn ∧ (s.setRemap c e r).bpm = s.bpm ∧ (s.setRemap c e r).dmc = s.dmc ∧
    (s.setRemap c e r).dbk = s.dbk ∧ (s.setRemap c e r).tvl = s.tvl ∧ (s.setRemap c e r).eth = s.eth ∧
    (s.setRemap c e r).nre = s.nre ∧ (s.setRemap c e r).cir = s.cir ∧ (s.setRemap c e r).sup = s.sup ∧
    (s.setRemap c e r).pwr = s.pwr ∧ (s.setRemap c e r).cru = s.cru ∧ (s.setRemap c e r).rgc = s.rgc ∧
    (s.setRemap c e r).efl = s.efl ∧ (s.setRemap c e r).sec = s.sec ∧ (s.setRemap c e r).top = s.top ∧
    (s.setRemap c e r).sbb = s.sbb ∧ (s.setRemap c e r).dft = s.dft ∧ (s.setRemap c e r).ports = s.ports :=
  ⟨rfl, rfl, rfl, rfl, rfl, rfl, rfl, rfl, rfl, rfl, rfl, rfl, rfl, rfl, rfl, rfl, rfl, rfl, rfl, rfl,
    rfl, rfl, rfl, rfl, rfl, rfl, rfl, rfl, rfl, rfl, rfl, rfl, rfl⟩

@[simp] theorem setFword_rest (s : State) (w : Nat) (x : FWord) :
    (s.setFword w x).pending = s.pending ∧ (s.setFword w x).out = s.out ∧ (s.setFword w x).timeUs = s.timeUs ∧
    (s.setFword w x).freeCtr = s.freeCtr ∧ (s.setFword w x).regs = s.regs ∧ (s.setFword w x).cnt = s.cnt ∧
    (s.setFword w x).sh = s.sh ∧ (s.setFword w x).iaddr = s.iaddr ∧ (s.setFword w x).done = s.done ∧
    (s.setFword w x).int = s.int ∧ (s.setFword w x).tqm = s.tqm ∧ (s.setFword w x).epo = s.epo ∧
    (s.setFword w x).fch = s.fch ∧ (s.setFword w x).rsv = s.rsv ∧ (s.setFword w x).lpr = s.lpr ∧
    (s.setFword w x).stk = s.stk ∧ (s.setFword w x).twn = s.twn ∧ (s.setFword w x).bpm = s.bpm ∧
    (s.setFword w x).dmc = s.dmc ∧ (s.setFword w x).dbk = s.dbk ∧ (s.setFword w x).tvl = s.tvl ∧
    (s.setFword w x).eth = s.eth ∧ (s.setFword w x).nre = s.nre ∧ (s.setFword w x).cir = s.cir ∧
    (s.setFword w x).sup = s.sup ∧ (s.setFword w x).pwr = s.pwr ∧ (s.setFword w x).cru = s.cru ∧
    (s.setFword w x).rgc = s.rgc ∧ (s.setFword w x).sec = s.sec ∧ (s.setFword w x).top = s.top ∧
    (s.setFword w x).sbb = s.sbb ∧ (s.setFword w x).dft = s.dft ∧ (s.setFword w x).ports = s.ports :=
  ⟨rfl, rfl, rfl, rfl, rfl, rfl, rfl, rfl, rfl, rfl, rfl, rfl, rfl, rfl, rfl, rfl, rfl, rfl, rfl, rfl,
    rfl, rfl, rfl, rfl, rfl, rfl, rfl, rfl, rfl, rfl, rfl, rfl, rfl⟩

@[simp] theorem setCopy_rest (s : State) (a : Nat) (v : W32) :
    (s.setCopy a v).pending = s.pending ∧ (s.setCopy a v).out = s.out ∧ (s.setCopy a v).timeUs = s.timeUs ∧
    (s.setCopy a v).freeCtr = s.freeCtr ∧ (s.setCopy a v).regs = s.regs ∧ (s.setCopy a v).cnt = s.cnt ∧
    (s.setCopy a v).iaddr = s.iaddr ∧ (s.setCopy a v).done = s.done ∧ (s.setCopy a v).int = s.int ∧
    (s.setCopy a v).tqm = s.tqm ∧ (s.setCopy a v).epo = s.epo ∧ (s.setCopy a v).fch = s.fch ∧
    (s.setCopy a v).rsv = s.rsv ∧ (s.setCopy a v).lpr = s.lpr ∧ (s.setCopy a v).stk = s.stk ∧
    (s.setCopy a v).twn = s.twn ∧ (s.setCopy a v).bpm = s.bpm ∧ (s.setCopy a v).dmc = s.dmc ∧
    (s.setCopy a v).dbk = s.dbk ∧ (s.setCopy a v).tvl = s.tvl ∧ (s.setCopy a v).eth = s.eth ∧
    (s.setCopy a v).nre = s.nre ∧ (s.setCopy a v).cir = s.cir ∧ (s.setCopy a v).sup = s.sup ∧
    (s.setCopy a v).pwr = s.pwr ∧ (s.setCopy a v).cru = s.cru ∧ (s.setCopy a v).rgc = s.rgc ∧
    (s.setCopy a v).efl = s.efl ∧ (s.setCopy a v).sec = s.sec ∧ (s.setCopy a v).top = s.top ∧
    (s.setCopy a v).sbb = s.sbb ∧ (s.setCopy a v).dft = s.dft ∧ (s.setCopy a v).ports = s.ports :=
  ⟨rfl, rfl, rfl, rfl, rfl, rfl, rfl, rfl, rfl, rfl, rfl, rfl, rfl, rfl, rfl, rfl, rfl, rfl, rfl, rfl,
    rfl, rfl, rfl, rfl, rfl, rfl, rfl, rfl, rfl, rfl, rfl, rfl, rfl⟩

@[simp] theorem setIaddr_rest (s : State) (a path v : Nat) :
    (s.setIaddr a path v).pending = s.pending ∧ (s.setIaddr a path v).out = s.out ∧
    (s.setIaddr a path v).timeUs = s.timeUs ∧ (s.setIaddr a path v).freeCtr = s.freeCtr ∧
    (s.setIaddr a path v).regs = s.regs ∧ (s.setIaddr a path v).cnt = s.cnt ∧ (s.setIaddr a path v).sh = s.sh ∧
    (s.setIaddr a path v).done = s.done ∧ (s.setIaddr a path v).int = s.int ∧ (s.setIaddr a path v).tqm = s.tqm ∧
    (s.setIaddr a path v).epo = s.epo ∧ (s.setIaddr a path v).fch = s.fch ∧ (s.setIaddr a path v).rsv = s.rsv ∧
    (s.setIaddr a path v).lpr = s.lpr ∧ (s.setIaddr a path v).stk = s.stk ∧ (s.setIaddr a path v).twn = s.twn ∧
    (s.setIaddr a path v).bpm = s.bpm ∧ (s.setIaddr a path v).dmc = s.dmc ∧ (s.setIaddr a path v).dbk = s.dbk ∧
    (s.setIaddr a path v).tvl = s.tvl ∧ (s.setIaddr a path v).eth = s.eth ∧ (s.setIaddr a path v).nre = s.nre ∧
    (s.setIaddr a path v).cir = s.cir ∧ (s.setIaddr a path v).sup = s.sup ∧ (s.setIaddr a path v).pwr = s.pwr ∧
    (s.setIaddr a path v).cru = s.cru ∧ (s.setIaddr a path v).rgc = s.rgc ∧ (s.setIaddr a path v).efl = s.efl ∧
    (s.setIaddr a path v).sec = s.sec ∧ (s.setIaddr a path v).top = s.top ∧ (s.setIaddr a path v).sbb = s.sbb ∧
    (s.setIaddr a path v).dft = s.dft ∧ (s.setIaddr a path v).ports = s.ports :=
  ⟨rfl, rfl, rfl, rfl, rfl, rfl, rfl, rfl, rfl, rfl, rfl, rfl, rfl, rfl, rfl, rfl, rfl, rfl, rfl, rfl,
    rfl, rfl, rfl, rfl, rfl, rfl, rfl, rfl, rfl, rfl, rfl, rfl, rfl⟩

@[simp] theorem setLoad_rest (s : State) (c : Nat) (x : Option Loading) :
    (s.setLoad c x).pending = s.pending ∧ (s.setLoad c x).out = s.out ∧ (s.setLoad c x).timeUs = s.timeUs ∧
    (s.setLoad c x).freeCtr = s.freeCtr ∧ (s.setLoad c x).regs = s.regs ∧ (s.setLoad c x).cnt = s.cnt ∧
    (s.setLoad c x).sh = s.sh ∧ (s.setLoad c x).iaddr = s.iaddr ∧ (s.setLoad c x).done = s.done ∧
    (s.setLoad c x).int = s.int ∧ (s.setLoad c x).tqm = s.tqm ∧ (s.setLoad c x).epo = s.epo ∧
    (s.setLoad c x).fch = s.fch ∧ (s.setLoad c x).rsv = s.rsv ∧ (s.setLoad c x).lpr = s.lpr ∧
    (s.setLoad c x).stk = s.stk ∧ (s.setLoad c x).twn = s.twn ∧ (s.setLoad c x).bpm = s.bpm ∧
    (s.setLoad c x).dmc = s.dmc ∧ (s.setLoad c x).dbk = s.dbk ∧ (s.setLoad c x).tvl = s.tvl ∧
    (s.setLoad c x).eth = s.eth ∧ (s.setLoad c x).nre = s.nre ∧ (s.setLoad c x).cir = s.cir ∧
    (s.setLoad c x).sup = s.sup ∧ (s.setLoad c x).pwr = s.pwr ∧ (s.setLoad c x).cru = s.cru ∧
    (s.setLoad c x).efl = s.efl ∧ (s.setLoad c x).sec = s.sec ∧ (s.setLoad c x).top = s.top ∧
    (s.setLoad c x).sbb = s.sbb ∧ (s.setLoad c x).dft = s.dft ∧ (s.setLoad c x).ports = s.ports :=
  ⟨rfl, rfl, rfl, rfl, rfl, rfl, rfl, rfl, rfl, rfl, rfl, rfl, rfl, rfl, rfl, rfl, rfl, rfl, rfl, rfl,
    rfl, rfl, rfl, rfl, rfl, rfl, rfl, rfl, rfl, rfl, rfl, rfl, rfl⟩

@[simp] theorem setPhy_rest (s : State) (n : Nat) (tx rx : Option Nat) :
    (s.setPhy n tx rx).pending = s.pending ∧ (s.setPhy n tx rx).out = s.out ∧ (s.setPhy n tx rx).timeUs = s.timeUs ∧
    (s.setPhy n tx rx).freeCtr = s.freeCtr ∧ (s.setPhy n tx rx).regs = s.regs ∧ (s.setPhy n tx rx).cnt = s.cnt ∧
    (s.setPhy n tx rx).sh = s.sh ∧ (s.setPhy n tx rx).iaddr = s.iaddr ∧ (s.setPhy n tx rx).done = s.done ∧
    (s.setPhy n tx rx).int = s.int ∧ (s.setPhy n tx rx).tqm = s.tqm ∧ (s.setPhy n tx rx).epo = s.epo ∧
    (s.setPhy n tx rx).fch = s.fch ∧ (s.setPhy n tx rx).rsv = s.rsv ∧ (s.setPhy n tx rx).lpr = s.lpr ∧
    (s.setPhy n tx rx).stk = s.stk ∧ (s.setPhy n tx rx).twn = s.twn ∧ (s.setPhy n tx rx).bpm = s.bpm ∧
    (s.setPhy n tx rx).dmc = s.dmc ∧ (s.setPhy n tx rx).dbk = s.dbk ∧ (s.setPhy n tx rx).tvl = s.tvl ∧
    (s.setPhy n tx rx).eth = s.eth ∧ (s.setPhy n tx rx).nre = s.nre ∧ (s.setPhy n tx rx).cir = s.cir ∧
    (s.setPhy n tx rx).sup = s.sup ∧ (s.setPhy n tx rx).pwr = s.pwr ∧ (s.setPhy n tx rx).cru = s.cru ∧
    (s.setPhy n tx rx).rgc = s.rgc ∧ (s.setPhy n tx rx).efl = s.efl ∧ (s.setPhy n tx rx).sec = s.sec ∧
    (s.setPhy n tx rx).top = s.top ∧ (s.setPhy n tx rx).sbb = s.sbb ∧ (s.setPhy n tx rx).ports = s.ports :=
  ⟨rfl, rfl, rfl, rfl, rfl, rfl, rfl, rfl, rfl, rfl, rfl, rfl, rfl, rfl, rfl, rfl, rfl, rfl, rfl, rfl,
    rfl, rfl, rfl, rfl, rfl, rfl, rfl, rfl, rfl, rfl, rfl, rfl, rfl⟩

@[simp] theorem retryPut_rest (s : State) (c : Nat) (w : String) (v : Nat) :
    (s.retryPut c w v).pending = s.pending ∧ (s.retryPut c w v).out = s.out ∧ (s.retryPut c w v).timeUs = s.timeUs ∧
    (s.retryPut c w v).freeCtr = s.freeCtr ∧ (s.retryPut c w v).regs = s.regs ∧ (s.retryPut c w v).cnt = s.cnt ∧
    (s.retryPut c w v).sh = s.sh ∧ (s.retryPut c w v).iaddr = s.iaddr ∧ (s.retryPut c w v).done = s.done ∧
    (s.retryPut c w v).int = s.int ∧ (s.retryPut c w v).tqm = s.tqm ∧ (s.retryPut c w v).epo = s.epo ∧
    (s.retryPut c w v).fch = s.fch ∧ (s.retryPut c w v).rsv = s.rsv ∧ (s.retryPut c w v).stk = s.stk ∧
    (s.retryPut c w v).twn = s.twn ∧ (s.retryPut c w v).bpm = s.bpm ∧ (s.retryPut c w v).dmc = s.dmc ∧
    (s.retryPut c w v).dbk = s.dbk ∧ (s.retryPut c w v).tvl = s.tvl ∧ (s.retryPut c w v).eth = s.eth ∧
    (s.retryPut c w v).nre = s.nre ∧ (s.retryPut c w v).cir = s.cir ∧ (s.retryPut c w v).sup = s.sup ∧
    (s.retryPut c w v).pwr = s.pwr ∧ (s.retryPut c w v).cru = s.cru ∧ (s.retryPut c w v).rgc = s.rgc ∧
    (s.retryPut c w v).efl = s.efl ∧ (s.retryPut c w v).sec = s.sec ∧ (s.retryPut c w v).top = s.top ∧
    (s.retryPut c w v).sbb = s.sbb ∧ (s.retryPut c w v).dft = s.dft ∧ (s.retryPut c w v).ports = s.ports :=
  ⟨rfl, rfl, rfl, rfl, rfl, rfl, rfl, rfl, rfl, rfl, rfl, rfl, rfl, rfl, rfl, rfl, rfl, rfl, rfl, rfl,
    rfl, rfl, rfl, rfl, rfl, rfl, rfl, rfl, rfl, rfl, rfl, rfl, rfl⟩

@[simp] theorem dram_rest (s : State) (c : Nat) (w : String) (v : Nat) :
    (s.dram c w v).pending = s.pending ∧ (s.dram c w v).timeUs = s.timeUs ∧ (s.dram c w v).freeCtr = s.freeCtr ∧
    (s.dram c w v).regs = s.regs ∧ (s.dram c w v).cnt = s.cnt ∧ (s.dram c w v).sh = s.sh ∧
    (s.dram c w v).iaddr = s.iaddr ∧ (s.dram c w v).done = s.done ∧ (s.dram c w v).int = s.int ∧
    (s.dram c w v).tqm = s.tqm ∧ (s.dram c w v).epo = s.epo ∧ (s.dram c w v).fch = s.fch ∧
    (s.dram c w v).rsv = s.rsv ∧ (s.dram c w v).stk = s.stk ∧ (s.dram c w v).twn = s.twn ∧
    (s.dram c w v).bpm = s.bpm ∧ (s.dram c w v).dmc = s.dmc ∧ (s.dram c w v).dbk = s.dbk ∧
    (s.dram c w v).tvl = s.tvl ∧ (s.dram c w v).eth = s.eth ∧ (s.dram c w v).nre = s.nre ∧
    (s.dram c w v).cir = s.cir ∧ (s.dram c w v).sup = s.sup ∧ (s.dram c w v).pwr = s.pwr ∧
    (s.dram c w v).cru = s.cru ∧ (s.dram c w v).rgc = s.rgc ∧ (s.dram c w v).efl = s.efl ∧
    (s.dram c w v).sec = s.sec ∧ (s.dram c w v).top = s.top ∧ (s.dram c w v).sbb = s.sbb ∧
    (s.dram c w v).dft = s.dft ∧ (s.dram c w v).ports = s.ports :=
  ⟨rfl, rfl, rfl, rfl, rfl, rfl, rfl, rfl, rfl, rfl, rfl, rfl, rfl, rfl, rfl, rfl, rfl, rfl, rfl, rfl,
    rfl, rfl, rfl, rfl, rfl, rfl, rfl, rfl, rfl, rfl, rfl, rfl⟩

@[simp] theorem dram_out (s : State) (c : Nat) (w : String) (v : Nat) : (s.dram c w v).out = s.out ++ [.dmc c w v] := rfl

@[simp] theorem drivePins_rest (s : State) : s.drivePins = { s with cru := { s.cru with pinsDriven := true, lanesIdle := false } } := rfl

@[simp] theorem setLink_rest (s : State) (n : Nat) (l : StkLink) :
    (s.setLink n l).pending = s.pending ∧ (s.setLink n l).out = s.out ∧ (s.setLink n l).timeUs = s.timeUs ∧
    (s.setLink n l).freeCtr = s.freeCtr ∧ (s.setLink n l).regs = s.regs ∧ (s.setLink n l).cnt = s.cnt ∧
    (s.setLink n l).sh = s.sh ∧ (s.setLink n l).iaddr = s.iaddr ∧ (s.setLink n l).done = s.done ∧
    (s.setLink n l).int = s.int ∧ (s.setLink n l).tqm = s.tqm ∧ (s.setLink n l).epo = s.epo ∧
    (s.setLink n l).fch = s.fch ∧ (s.setLink n l).rsv = s.rsv ∧ (s.setLink n l).lpr = s.lpr ∧
    (s.setLink n l).twn = s.twn ∧ (s.setLink n l).bpm = s.bpm ∧ (s.setLink n l).dmc = s.dmc ∧
    (s.setLink n l).dbk = s.dbk ∧ (s.setLink n l).tvl = s.tvl ∧ (s.setLink n l).eth = s.eth ∧
    (s.setLink n l).nre = s.nre ∧ (s.setLink n l).cir = s.cir ∧ (s.setLink n l).sup = s.sup ∧
    (s.setLink n l).pwr = s.pwr ∧ (s.setLink n l).cru = s.cru ∧ (s.setLink n l).rgc = s.rgc ∧
    (s.setLink n l).efl = s.efl ∧ (s.setLink n l).sec = s.sec ∧ (s.setLink n l).top = s.top ∧
    (s.setLink n l).sbb = s.sbb ∧ (s.setLink n l).dft = s.dft ∧ (s.setLink n l).ports = s.ports :=
  ⟨rfl, rfl, rfl, rfl, rfl, rfl, rfl, rfl, rfl, rfl, rfl, rfl, rfl, rfl, rfl, rfl, rfl, rfl, rfl, rfl, rfl, rfl, rfl, rfl, rfl, rfl, rfl, rfl, rfl, rfl, rfl, rfl, rfl⟩

@[simp] theorem setLane_rest (s : State) (n : Nat) (l : DftLane) :
    (s.setLane n l).pending = s.pending ∧ (s.setLane n l).out = s.out ∧ (s.setLane n l).timeUs = s.timeUs ∧
    (s.setLane n l).freeCtr = s.freeCtr ∧ (s.setLane n l).regs = s.regs ∧ (s.setLane n l).cnt = s.cnt ∧
    (s.setLane n l).sh = s.sh ∧ (s.setLane n l).iaddr = s.iaddr ∧ (s.setLane n l).done = s.done ∧
    (s.setLane n l).int = s.int ∧ (s.setLane n l).tqm = s.tqm ∧ (s.setLane n l).epo = s.epo ∧
    (s.setLane n l).fch = s.fch ∧ (s.setLane n l).rsv = s.rsv ∧ (s.setLane n l).lpr = s.lpr ∧
    (s.setLane n l).stk = s.stk ∧ (s.setLane n l).twn = s.twn ∧ (s.setLane n l).bpm = s.bpm ∧
    (s.setLane n l).dmc = s.dmc ∧ (s.setLane n l).dbk = s.dbk ∧ (s.setLane n l).tvl = s.tvl ∧
    (s.setLane n l).eth = s.eth ∧ (s.setLane n l).nre = s.nre ∧ (s.setLane n l).cir = s.cir ∧
    (s.setLane n l).sup = s.sup ∧ (s.setLane n l).pwr = s.pwr ∧ (s.setLane n l).cru = s.cru ∧
    (s.setLane n l).rgc = s.rgc ∧ (s.setLane n l).efl = s.efl ∧ (s.setLane n l).sec = s.sec ∧
    (s.setLane n l).top = s.top ∧ (s.setLane n l).sbb = s.sbb ∧ (s.setLane n l).ports = s.ports :=
  ⟨rfl, rfl, rfl, rfl, rfl, rfl, rfl, rfl, rfl, rfl, rfl, rfl, rfl, rfl, rfl, rfl, rfl, rfl, rfl, rfl, rfl, rfl, rfl, rfl, rfl, rfl, rfl, rfl, rfl, rfl, rfl, rfl, rfl⟩

@[simp] theorem laneTrained_rest (s : State) (a n : Nat) :
    (s.laneTrained a n).pending = s.pending ∧ (s.laneTrained a n).out = s.out ∧
    (s.laneTrained a n).timeUs = s.timeUs ∧ (s.laneTrained a n).freeCtr = s.freeCtr ∧
    (s.laneTrained a n).regs = s.regs ∧ (s.laneTrained a n).cnt = s.cnt ∧ (s.laneTrained a n).sh = s.sh ∧
    (s.laneTrained a n).iaddr = s.iaddr ∧ (s.laneTrained a n).done = s.done ∧ (s.laneTrained a n).int = s.int ∧
    (s.laneTrained a n).tqm = s.tqm ∧ (s.laneTrained a n).epo = s.epo ∧ (s.laneTrained a n).fch = s.fch ∧
    (s.laneTrained a n).rsv = s.rsv ∧ (s.laneTrained a n).lpr = s.lpr ∧ (s.laneTrained a n).stk = s.stk ∧
    (s.laneTrained a n).twn = s.twn ∧ (s.laneTrained a n).bpm = s.bpm ∧ (s.laneTrained a n).dmc = s.dmc ∧
    (s.laneTrained a n).dbk = s.dbk ∧ (s.laneTrained a n).tvl = s.tvl ∧ (s.laneTrained a n).eth = s.eth ∧
    (s.laneTrained a n).nre = s.nre ∧ (s.laneTrained a n).cir = s.cir ∧ (s.laneTrained a n).sup = s.sup ∧
    (s.laneTrained a n).pwr = s.pwr ∧ (s.laneTrained a n).cru = s.cru ∧ (s.laneTrained a n).rgc = s.rgc ∧
    (s.laneTrained a n).efl = s.efl ∧ (s.laneTrained a n).sec = s.sec ∧ (s.laneTrained a n).top = s.top ∧
    (s.laneTrained a n).sbb = s.sbb ∧ (s.laneTrained a n).ports = s.ports :=
  ⟨rfl, rfl, rfl, rfl, rfl, rfl, rfl, rfl, rfl, rfl, rfl, rfl, rfl, rfl, rfl, rfl, rfl, rfl, rfl, rfl, rfl, rfl, rfl, rfl, rfl, rfl, rfl, rfl, rfl, rfl, rfl, rfl, rfl⟩

@[simp] theorem setRail_rest (s : State) (n : Nat) (r : Rail) :
    (s.setRail n r).pending = s.pending ∧ (s.setRail n r).out = s.out ∧ (s.setRail n r).timeUs = s.timeUs ∧
    (s.setRail n r).freeCtr = s.freeCtr ∧ (s.setRail n r).regs = s.regs ∧ (s.setRail n r).cnt = s.cnt ∧
    (s.setRail n r).sh = s.sh ∧ (s.setRail n r).iaddr = s.iaddr ∧ (s.setRail n r).done = s.done ∧
    (s.setRail n r).int = s.int ∧ (s.setRail n r).tqm = s.tqm ∧ (s.setRail n r).epo = s.epo ∧
    (s.setRail n r).fch = s.fch ∧ (s.setRail n r).rsv = s.rsv ∧ (s.setRail n r).lpr = s.lpr ∧
    (s.setRail n r).stk = s.stk ∧ (s.setRail n r).twn = s.twn ∧ (s.setRail n r).bpm = s.bpm ∧
    (s.setRail n r).dmc = s.dmc ∧ (s.setRail n r).dbk = s.dbk ∧ (s.setRail n r).tvl = s.tvl ∧
    (s.setRail n r).eth = s.eth ∧ (s.setRail n r).nre = s.nre ∧ (s.setRail n r).cir = s.cir ∧
    (s.setRail n r).pwr = s.pwr ∧ (s.setRail n r).cru = s.cru ∧ (s.setRail n r).rgc = s.rgc ∧
    (s.setRail n r).efl = s.efl ∧ (s.setRail n r).sec = s.sec ∧ (s.setRail n r).top = s.top ∧
    (s.setRail n r).sbb = s.sbb ∧ (s.setRail n r).dft = s.dft ∧ (s.setRail n r).ports = s.ports :=
  ⟨rfl, rfl, rfl, rfl, rfl, rfl, rfl, rfl, rfl, rfl, rfl, rfl, rfl, rfl, rfl, rfl, rfl, rfl, rfl, rfl, rfl, rfl, rfl, rfl, rfl, rfl, rfl, rfl, rfl, rfl, rfl, rfl, rfl⟩

@[simp] theorem setMon_rest (s : State) (n : Nat) (m : Mon) :
    (s.setMon n m).pending = s.pending ∧ (s.setMon n m).out = s.out ∧ (s.setMon n m).timeUs = s.timeUs ∧
    (s.setMon n m).freeCtr = s.freeCtr ∧ (s.setMon n m).regs = s.regs ∧ (s.setMon n m).cnt = s.cnt ∧
    (s.setMon n m).sh = s.sh ∧ (s.setMon n m).iaddr = s.iaddr ∧ (s.setMon n m).done = s.done ∧
    (s.setMon n m).int = s.int ∧ (s.setMon n m).tqm = s.tqm ∧ (s.setMon n m).epo = s.epo ∧
    (s.setMon n m).fch = s.fch ∧ (s.setMon n m).rsv = s.rsv ∧ (s.setMon n m).lpr = s.lpr ∧
    (s.setMon n m).stk = s.stk ∧ (s.setMon n m).twn = s.twn ∧ (s.setMon n m).bpm = s.bpm ∧
    (s.setMon n m).dmc = s.dmc ∧ (s.setMon n m).dbk = s.dbk ∧ (s.setMon n m).tvl = s.tvl ∧
    (s.setMon n m).eth = s.eth ∧ (s.setMon n m).nre = s.nre ∧ (s.setMon n m).cir = s.cir ∧
    (s.setMon n m).pwr = s.pwr ∧ (s.setMon n m).cru = s.cru ∧ (s.setMon n m).rgc = s.rgc ∧
    (s.setMon n m).efl = s.efl ∧ (s.setMon n m).sec = s.sec ∧ (s.setMon n m).top = s.top ∧
    (s.setMon n m).sbb = s.sbb ∧ (s.setMon n m).dft = s.dft ∧ (s.setMon n m).ports = s.ports :=
  ⟨rfl, rfl, rfl, rfl, rfl, rfl, rfl, rfl, rfl, rfl, rfl, rfl, rfl, rfl, rfl, rfl, rfl, rfl, rfl, rfl, rfl, rfl, rfl, rfl, rfl, rfl, rfl, rfl, rfl, rfl, rfl, rfl, rfl⟩

@[simp] theorem snapshot_rest (s : State) :
    (s.snapshot).pending = s.pending ∧ (s.snapshot).out = s.out ∧ (s.snapshot).timeUs = s.timeUs ∧
    (s.snapshot).freeCtr = s.freeCtr ∧ (s.snapshot).regs = s.regs ∧ (s.snapshot).sh = s.sh ∧
    (s.snapshot).iaddr = s.iaddr ∧ (s.snapshot).done = s.done ∧ (s.snapshot).tqm = s.tqm ∧ (s.snapshot).epo = s.epo ∧
    (s.snapshot).fch = s.fch ∧ (s.snapshot).rsv = s.rsv ∧ (s.snapshot).lpr = s.lpr ∧ (s.snapshot).stk = s.stk ∧
    (s.snapshot).twn = s.twn ∧ (s.snapshot).bpm = s.bpm ∧ (s.snapshot).dmc = s.dmc ∧ (s.snapshot).tvl = s.tvl ∧
    (s.snapshot).eth = s.eth ∧ (s.snapshot).nre = s.nre ∧ (s.snapshot).cir = s.cir ∧ (s.snapshot).sup = s.sup ∧
    (s.snapshot).pwr = s.pwr ∧ (s.snapshot).cru = s.cru ∧ (s.snapshot).rgc = s.rgc ∧ (s.snapshot).efl = s.efl ∧
    (s.snapshot).sec = s.sec ∧ (s.snapshot).top = s.top ∧ (s.snapshot).sbb = s.sbb ∧ (s.snapshot).dft = s.dft ∧
    (s.snapshot).ports = s.ports :=
  by
  unfold State.snapshot; simp

@[simp] theorem fatal_rest (s : State) (cause : Nat) :
    (s.fatal cause).pending = s.pending ∧ (s.fatal cause).out = s.out ∧ (s.fatal cause).timeUs = s.timeUs ∧
    (s.fatal cause).freeCtr = s.freeCtr ∧ (s.fatal cause).regs = s.regs ∧ (s.fatal cause).sh = s.sh ∧
    (s.fatal cause).iaddr = s.iaddr ∧ (s.fatal cause).done = s.done ∧ (s.fatal cause).tqm = s.tqm ∧
    (s.fatal cause).epo = s.epo ∧ (s.fatal cause).fch = s.fch ∧ (s.fatal cause).rsv = s.rsv ∧
    (s.fatal cause).lpr = s.lpr ∧ (s.fatal cause).stk = s.stk ∧ (s.fatal cause).twn = s.twn ∧
    (s.fatal cause).bpm = s.bpm ∧ (s.fatal cause).dmc = s.dmc ∧ (s.fatal cause).tvl = s.tvl ∧
    (s.fatal cause).eth = s.eth ∧ (s.fatal cause).nre = s.nre ∧ (s.fatal cause).cir = s.cir ∧
    (s.fatal cause).sup = s.sup ∧ (s.fatal cause).pwr = s.pwr ∧ (s.fatal cause).rgc = s.rgc ∧
    (s.fatal cause).efl = s.efl ∧ (s.fatal cause).sec = s.sec ∧ (s.fatal cause).top = s.top ∧
    (s.fatal cause).sbb = s.sbb ∧ (s.fatal cause).dft = s.dft ∧ (s.fatal cause).ports = s.ports :=
  by
  unfold State.fatal; split <;> simp

@[simp] theorem setCh_rest (s : State) (c : Nat) (x : DmcCh) :
    (s.setCh c x).pending = s.pending ∧ (s.setCh c x).out = s.out ∧ (s.setCh c x).timeUs = s.timeUs ∧
    (s.setCh c x).freeCtr = s.freeCtr ∧ (s.setCh c x).regs = s.regs ∧ (s.setCh c x).cnt = s.cnt ∧
    (s.setCh c x).sh = s.sh ∧ (s.setCh c x).iaddr = s.iaddr ∧ (s.setCh c x).done = s.done ∧
    (s.setCh c x).int = s.int ∧ (s.setCh c x).tqm = s.tqm ∧ (s.setCh c x).epo = s.epo ∧ (s.setCh c x).fch = s.fch ∧
    (s.setCh c x).rsv = s.rsv ∧ (s.setCh c x).lpr = s.lpr ∧ (s.setCh c x).stk = s.stk ∧ (s.setCh c x).twn = s.twn ∧
    (s.setCh c x).bpm = s.bpm ∧ (s.setCh c x).dbk = s.dbk ∧ (s.setCh c x).tvl = s.tvl ∧ (s.setCh c x).eth = s.eth ∧
    (s.setCh c x).nre = s.nre ∧ (s.setCh c x).cir = s.cir ∧ (s.setCh c x).sup = s.sup ∧ (s.setCh c x).pwr = s.pwr ∧
    (s.setCh c x).cru = s.cru ∧ (s.setCh c x).rgc = s.rgc ∧ (s.setCh c x).efl = s.efl ∧ (s.setCh c x).sec = s.sec ∧
    (s.setCh c x).top = s.top ∧ (s.setCh c x).sbb = s.sbb ∧ (s.setCh c x).dft = s.dft ∧
    (s.setCh c x).ports = s.ports :=
  ⟨rfl, rfl, rfl, rfl, rfl, rfl, rfl, rfl, rfl, rfl, rfl, rfl, rfl, rfl, rfl, rfl, rfl, rfl, rfl, rfl, rfl, rfl, rfl, rfl, rfl, rfl, rfl, rfl, rfl, rfl, rfl, rfl, rfl⟩

@[simp] theorem setTvl_rest (s : State) (lk : Nat) (l : TvLink) :
    (s.setTvl lk l).pending = s.pending ∧ (s.setTvl lk l).out = s.out ∧ (s.setTvl lk l).timeUs = s.timeUs ∧
    (s.setTvl lk l).freeCtr = s.freeCtr ∧ (s.setTvl lk l).regs = s.regs ∧ (s.setTvl lk l).cnt = s.cnt ∧
    (s.setTvl lk l).sh = s.sh ∧ (s.setTvl lk l).iaddr = s.iaddr ∧ (s.setTvl lk l).done = s.done ∧
    (s.setTvl lk l).int = s.int ∧ (s.setTvl lk l).tqm = s.tqm ∧ (s.setTvl lk l).epo = s.epo ∧
    (s.setTvl lk l).fch = s.fch ∧ (s.setTvl lk l).rsv = s.rsv ∧ (s.setTvl lk l).lpr = s.lpr ∧
    (s.setTvl lk l).stk = s.stk ∧ (s.setTvl lk l).twn = s.twn ∧ (s.setTvl lk l).bpm = s.bpm ∧
    (s.setTvl lk l).dmc = s.dmc ∧ (s.setTvl lk l).dbk = s.dbk ∧ (s.setTvl lk l).eth = s.eth ∧
    (s.setTvl lk l).nre = s.nre ∧ (s.setTvl lk l).cir = s.cir ∧ (s.setTvl lk l).sup = s.sup ∧
    (s.setTvl lk l).pwr = s.pwr ∧ (s.setTvl lk l).cru = s.cru ∧ (s.setTvl lk l).rgc = s.rgc ∧
    (s.setTvl lk l).efl = s.efl ∧ (s.setTvl lk l).sec = s.sec ∧ (s.setTvl lk l).top = s.top ∧
    (s.setTvl lk l).sbb = s.sbb ∧ (s.setTvl lk l).dft = s.dft ∧ (s.setTvl lk l).ports = s.ports :=
  ⟨rfl, rfl, rfl, rfl, rfl, rfl, rfl, rfl, rfl, rfl, rfl, rfl, rfl, rfl, rfl, rfl, rfl, rfl, rfl, rfl, rfl, rfl, rfl, rfl, rfl, rfl, rfl, rfl, rfl, rfl, rfl, rfl, rfl⟩

@[simp] theorem setEthPort_rest (s : State) (e : Nat) (p : EthPort) :
    (s.setEthPort e p).pending = s.pending ∧ (s.setEthPort e p).out = s.out ∧ (s.setEthPort e p).timeUs = s.timeUs ∧
    (s.setEthPort e p).freeCtr = s.freeCtr ∧ (s.setEthPort e p).regs = s.regs ∧ (s.setEthPort e p).cnt = s.cnt ∧
    (s.setEthPort e p).sh = s.sh ∧ (s.setEthPort e p).iaddr = s.iaddr ∧ (s.setEthPort e p).done = s.done ∧
    (s.setEthPort e p).int = s.int ∧ (s.setEthPort e p).tqm = s.tqm ∧ (s.setEthPort e p).epo = s.epo ∧
    (s.setEthPort e p).fch = s.fch ∧ (s.setEthPort e p).rsv = s.rsv ∧ (s.setEthPort e p).lpr = s.lpr ∧
    (s.setEthPort e p).stk = s.stk ∧ (s.setEthPort e p).twn = s.twn ∧ (s.setEthPort e p).bpm = s.bpm ∧
    (s.setEthPort e p).dmc = s.dmc ∧ (s.setEthPort e p).dbk = s.dbk ∧ (s.setEthPort e p).tvl = s.tvl ∧
    (s.setEthPort e p).nre = s.nre ∧ (s.setEthPort e p).cir = s.cir ∧ (s.setEthPort e p).sup = s.sup ∧
    (s.setEthPort e p).pwr = s.pwr ∧ (s.setEthPort e p).cru = s.cru ∧ (s.setEthPort e p).rgc = s.rgc ∧
    (s.setEthPort e p).efl = s.efl ∧ (s.setEthPort e p).sec = s.sec ∧ (s.setEthPort e p).top = s.top ∧
    (s.setEthPort e p).sbb = s.sbb ∧ (s.setEthPort e p).dft = s.dft ∧ (s.setEthPort e p).ports = s.ports :=
  ⟨rfl, rfl, rfl, rfl, rfl, rfl, rfl, rfl, rfl, rfl, rfl, rfl, rfl, rfl, rfl, rfl, rfl, rfl, rfl, rfl, rfl, rfl, rfl, rfl, rfl, rfl, rfl, rfl, rfl, rfl, rfl, rfl, rfl⟩

@[simp] theorem setQp_rest (s : State) (q : Nat) (x : Qp) :
    (s.setQp q x).pending = s.pending ∧ (s.setQp q x).out = s.out ∧ (s.setQp q x).timeUs = s.timeUs ∧
    (s.setQp q x).freeCtr = s.freeCtr ∧ (s.setQp q x).regs = s.regs ∧ (s.setQp q x).cnt = s.cnt ∧
    (s.setQp q x).sh = s.sh ∧ (s.setQp q x).iaddr = s.iaddr ∧ (s.setQp q x).done = s.done ∧
    (s.setQp q x).int = s.int ∧ (s.setQp q x).tqm = s.tqm ∧ (s.setQp q x).epo = s.epo ∧ (s.setQp q x).fch = s.fch ∧
    (s.setQp q x).rsv = s.rsv ∧ (s.setQp q x).lpr = s.lpr ∧ (s.setQp q x).stk = s.stk ∧ (s.setQp q x).twn = s.twn ∧
    (s.setQp q x).bpm = s.bpm ∧ (s.setQp q x).dmc = s.dmc ∧ (s.setQp q x).dbk = s.dbk ∧ (s.setQp q x).tvl = s.tvl ∧
    (s.setQp q x).eth = s.eth ∧ (s.setQp q x).cir = s.cir ∧ (s.setQp q x).sup = s.sup ∧ (s.setQp q x).pwr = s.pwr ∧
    (s.setQp q x).cru = s.cru ∧ (s.setQp q x).rgc = s.rgc ∧ (s.setQp q x).efl = s.efl ∧ (s.setQp q x).sec = s.sec ∧
    (s.setQp q x).top = s.top ∧ (s.setQp q x).sbb = s.sbb ∧ (s.setQp q x).dft = s.dft ∧
    (s.setQp q x).ports = s.ports :=
  ⟨rfl, rfl, rfl, rfl, rfl, rfl, rfl, rfl, rfl, rfl, rfl, rfl, rfl, rfl, rfl, rfl, rfl, rfl, rfl, rfl, rfl, rfl, rfl, rfl, rfl, rfl, rfl, rfl, rfl, rfl, rfl, rfl, rfl⟩

@[simp] theorem setCs_rest (s : State) (i : Nat) (x : CirStream) :
    (s.setCs i x).pending = s.pending ∧ (s.setCs i x).out = s.out ∧ (s.setCs i x).timeUs = s.timeUs ∧
    (s.setCs i x).freeCtr = s.freeCtr ∧ (s.setCs i x).regs = s.regs ∧ (s.setCs i x).cnt = s.cnt ∧
    (s.setCs i x).sh = s.sh ∧ (s.setCs i x).iaddr = s.iaddr ∧ (s.setCs i x).done = s.done ∧
    (s.setCs i x).int = s.int ∧ (s.setCs i x).tqm = s.tqm ∧ (s.setCs i x).epo = s.epo ∧ (s.setCs i x).fch = s.fch ∧
    (s.setCs i x).rsv = s.rsv ∧ (s.setCs i x).lpr = s.lpr ∧ (s.setCs i x).stk = s.stk ∧ (s.setCs i x).twn = s.twn ∧
    (s.setCs i x).bpm = s.bpm ∧ (s.setCs i x).dmc = s.dmc ∧ (s.setCs i x).dbk = s.dbk ∧ (s.setCs i x).tvl = s.tvl ∧
    (s.setCs i x).eth = s.eth ∧ (s.setCs i x).nre = s.nre ∧ (s.setCs i x).sup = s.sup ∧ (s.setCs i x).pwr = s.pwr ∧
    (s.setCs i x).cru = s.cru ∧ (s.setCs i x).rgc = s.rgc ∧ (s.setCs i x).efl = s.efl ∧ (s.setCs i x).sec = s.sec ∧
    (s.setCs i x).top = s.top ∧ (s.setCs i x).sbb = s.sbb ∧ (s.setCs i x).dft = s.dft ∧
    (s.setCs i x).ports = s.ports :=
  ⟨rfl, rfl, rfl, rfl, rfl, rfl, rfl, rfl, rfl, rfl, rfl, rfl, rfl, rfl, rfl, rfl, rfl, rfl, rfl, rfl, rfl, rfl, rfl, rfl, rfl, rfl, rfl, rfl, rfl, rfl, rfl, rfl, rfl⟩

@[simp] theorem setSbCh_rest (s : State) (n : Nat) (c : SbCh) :
    (s.setSbCh n c).pending = s.pending ∧ (s.setSbCh n c).out = s.out ∧ (s.setSbCh n c).timeUs = s.timeUs ∧
    (s.setSbCh n c).freeCtr = s.freeCtr ∧ (s.setSbCh n c).regs = s.regs ∧ (s.setSbCh n c).cnt = s.cnt ∧
    (s.setSbCh n c).sh = s.sh ∧ (s.setSbCh n c).iaddr = s.iaddr ∧ (s.setSbCh n c).done = s.done ∧
    (s.setSbCh n c).int = s.int ∧ (s.setSbCh n c).tqm = s.tqm ∧ (s.setSbCh n c).epo = s.epo ∧
    (s.setSbCh n c).fch = s.fch ∧ (s.setSbCh n c).rsv = s.rsv ∧ (s.setSbCh n c).lpr = s.lpr ∧
    (s.setSbCh n c).stk = s.stk ∧ (s.setSbCh n c).twn = s.twn ∧ (s.setSbCh n c).bpm = s.bpm ∧
    (s.setSbCh n c).dmc = s.dmc ∧ (s.setSbCh n c).dbk = s.dbk ∧ (s.setSbCh n c).tvl = s.tvl ∧
    (s.setSbCh n c).eth = s.eth ∧ (s.setSbCh n c).nre = s.nre ∧ (s.setSbCh n c).cir = s.cir ∧
    (s.setSbCh n c).sup = s.sup ∧ (s.setSbCh n c).pwr = s.pwr ∧ (s.setSbCh n c).cru = s.cru ∧
    (s.setSbCh n c).rgc = s.rgc ∧ (s.setSbCh n c).efl = s.efl ∧ (s.setSbCh n c).sec = s.sec ∧
    (s.setSbCh n c).top = s.top ∧ (s.setSbCh n c).dft = s.dft ∧ (s.setSbCh n c).ports = s.ports :=
  ⟨rfl, rfl, rfl, rfl, rfl, rfl, rfl, rfl, rfl, rfl, rfl, rfl, rfl, rfl, rfl, rfl, rfl, rfl, rfl, rfl, rfl, rfl, rfl, rfl, rfl, rfl, rfl, rfl, rfl, rfl, rfl, rfl, rfl⟩

@[simp] theorem setSlot_rest (s : State) (n : Nat) (x : MbSlot) :
    (s.setSlot n x).pending = s.pending ∧ (s.setSlot n x).out = s.out ∧ (s.setSlot n x).timeUs = s.timeUs ∧
    (s.setSlot n x).freeCtr = s.freeCtr ∧ (s.setSlot n x).regs = s.regs ∧ (s.setSlot n x).cnt = s.cnt ∧
    (s.setSlot n x).sh = s.sh ∧ (s.setSlot n x).iaddr = s.iaddr ∧ (s.setSlot n x).done = s.done ∧
    (s.setSlot n x).int = s.int ∧ (s.setSlot n x).tqm = s.tqm ∧ (s.setSlot n x).epo = s.epo ∧
    (s.setSlot n x).fch = s.fch ∧ (s.setSlot n x).rsv = s.rsv ∧ (s.setSlot n x).lpr = s.lpr ∧
    (s.setSlot n x).stk = s.stk ∧ (s.setSlot n x).twn = s.twn ∧ (s.setSlot n x).bpm = s.bpm ∧
    (s.setSlot n x).dmc = s.dmc ∧ (s.setSlot n x).dbk = s.dbk ∧ (s.setSlot n x).tvl = s.tvl ∧
    (s.setSlot n x).eth = s.eth ∧ (s.setSlot n x).nre = s.nre ∧ (s.setSlot n x).cir = s.cir ∧
    (s.setSlot n x).sup = s.sup ∧ (s.setSlot n x).pwr = s.pwr ∧ (s.setSlot n x).cru = s.cru ∧
    (s.setSlot n x).efl = s.efl ∧ (s.setSlot n x).sec = s.sec ∧ (s.setSlot n x).top = s.top ∧
    (s.setSlot n x).sbb = s.sbb ∧ (s.setSlot n x).dft = s.dft ∧ (s.setSlot n x).ports = s.ports :=
  ⟨rfl, rfl, rfl, rfl, rfl, rfl, rfl, rfl, rfl, rfl, rfl, rfl, rfl, rfl, rfl, rfl, rfl, rfl, rfl, rfl, rfl, rfl, rfl, rfl, rfl, rfl, rfl, rfl, rfl, rfl, rfl, rfl, rfl⟩

@[simp] theorem setTgt_rest (s : State) (t : Nat) (x : IntTgt) :
    (s.setTgt t x).pending = s.pending ∧ (s.setTgt t x).out = s.out ∧ (s.setTgt t x).timeUs = s.timeUs ∧
    (s.setTgt t x).freeCtr = s.freeCtr ∧ (s.setTgt t x).regs = s.regs ∧ (s.setTgt t x).cnt = s.cnt ∧
    (s.setTgt t x).sh = s.sh ∧ (s.setTgt t x).iaddr = s.iaddr ∧ (s.setTgt t x).done = s.done ∧
    (s.setTgt t x).tqm = s.tqm ∧ (s.setTgt t x).epo = s.epo ∧ (s.setTgt t x).fch = s.fch ∧
    (s.setTgt t x).rsv = s.rsv ∧ (s.setTgt t x).lpr = s.lpr ∧ (s.setTgt t x).stk = s.stk ∧
    (s.setTgt t x).twn = s.twn ∧ (s.setTgt t x).bpm = s.bpm ∧ (s.setTgt t x).dmc = s.dmc ∧
    (s.setTgt t x).dbk = s.dbk ∧ (s.setTgt t x).tvl = s.tvl ∧ (s.setTgt t x).eth = s.eth ∧
    (s.setTgt t x).nre = s.nre ∧ (s.setTgt t x).cir = s.cir ∧ (s.setTgt t x).sup = s.sup ∧
    (s.setTgt t x).pwr = s.pwr ∧ (s.setTgt t x).cru = s.cru ∧ (s.setTgt t x).rgc = s.rgc ∧
    (s.setTgt t x).efl = s.efl ∧ (s.setTgt t x).sec = s.sec ∧ (s.setTgt t x).top = s.top ∧
    (s.setTgt t x).sbb = s.sbb ∧ (s.setTgt t x).dft = s.dft ∧ (s.setTgt t x).ports = s.ports :=
  ⟨rfl, rfl, rfl, rfl, rfl, rfl, rfl, rfl, rfl, rfl, rfl, rfl, rfl, rfl, rfl, rfl, rfl, rfl, rfl, rfl, rfl, rfl, rfl, rfl, rfl, rfl, rfl, rfl, rfl, rfl, rfl, rfl, rfl⟩

@[simp] theorem setRole_rest (s : State) (r : Role) :
    (s.setRole r).pending = s.pending ∧ (s.setRole r).out = s.out ∧ (s.setRole r).timeUs = s.timeUs ∧
    (s.setRole r).freeCtr = s.freeCtr ∧ (s.setRole r).regs = s.regs ∧ (s.setRole r).cnt = s.cnt ∧
    (s.setRole r).sh = s.sh ∧ (s.setRole r).iaddr = s.iaddr ∧ (s.setRole r).done = s.done ∧
    (s.setRole r).int = s.int ∧ (s.setRole r).tqm = s.tqm ∧ (s.setRole r).epo = s.epo ∧ (s.setRole r).fch = s.fch ∧
    (s.setRole r).rsv = s.rsv ∧ (s.setRole r).lpr = s.lpr ∧ (s.setRole r).stk = s.stk ∧ (s.setRole r).bpm = s.bpm ∧
    (s.setRole r).dmc = s.dmc ∧ (s.setRole r).dbk = s.dbk ∧ (s.setRole r).tvl = s.tvl ∧ (s.setRole r).eth = s.eth ∧
    (s.setRole r).nre = s.nre ∧ (s.setRole r).cir = s.cir ∧ (s.setRole r).sup = s.sup ∧ (s.setRole r).pwr = s.pwr ∧
    (s.setRole r).cru = s.cru ∧ (s.setRole r).rgc = s.rgc ∧ (s.setRole r).efl = s.efl ∧ (s.setRole r).sec = s.sec ∧
    (s.setRole r).top = s.top ∧ (s.setRole r).sbb = s.sbb ∧ (s.setRole r).dft = s.dft ∧
    (s.setRole r).ports = s.ports :=
  ⟨rfl, rfl, rfl, rfl, rfl, rfl, rfl, rfl, rfl, rfl, rfl, rfl, rfl, rfl, rfl, rfl, rfl, rfl, rfl, rfl, rfl, rfl, rfl, rfl, rfl, rfl, rfl, rfl, rfl, rfl, rfl, rfl, rfl⟩
@[simp] theorem setPwr_rest (s : State) (st : PwrState) (c : Nat) :
    (s.setPwr st c).pending = s.pending ∧ (s.setPwr st c).out = s.out ∧ (s.setPwr st c).timeUs = s.timeUs ∧
    (s.setPwr st c).freeCtr = s.freeCtr ∧ (s.setPwr st c).regs = s.regs ∧ (s.setPwr st c).sh = s.sh ∧
    (s.setPwr st c).iaddr = s.iaddr ∧ (s.setPwr st c).done = s.done ∧ (s.setPwr st c).tqm = s.tqm ∧
    (s.setPwr st c).epo = s.epo ∧ (s.setPwr st c).fch = s.fch ∧ (s.setPwr st c).rsv = s.rsv ∧
    (s.setPwr st c).lpr = s.lpr ∧ (s.setPwr st c).stk = s.stk ∧ (s.setPwr st c).twn = s.twn ∧
    (s.setPwr st c).bpm = s.bpm ∧ (s.setPwr st c).dmc = s.dmc ∧ (s.setPwr st c).tvl = s.tvl ∧
    (s.setPwr st c).eth = s.eth ∧ (s.setPwr st c).nre = s.nre ∧ (s.setPwr st c).cir = s.cir ∧
    (s.setPwr st c).sup = s.sup ∧ (s.setPwr st c).rgc = s.rgc ∧ (s.setPwr st c).efl = s.efl ∧
    (s.setPwr st c).sec = s.sec ∧ (s.setPwr st c).top = s.top ∧ (s.setPwr st c).sbb = s.sbb ∧
    (s.setPwr st c).dft = s.dft ∧ (s.setPwr st c).ports = s.ports ∧ (s.setPwr st c).pwr.st = st ∧
    (s.setPwr st c).pwr.changing = s.pwr.changing ∧ (s.setPwr st c).pwr.failed = s.pwr.failed ∧
    (s.setPwr st c).pwr.meter = s.pwr.meter ∧ (s.setPwr st c).pwr.raw = s.pwr.raw ∧ (s.setPwr st c).pwr.k = s.pwr.k ∧
    (s.setPwr st c).pwr.pChip = s.pwr.pChip ∧ (s.setPwr st c).pwr.lowRun = s.pwr.lowRun ∧
    (s.setPwr st c).pwr.slowed = s.pwr.slowed ∧ (s.setPwr st c).pwr.latch = s.pwr.latch ∧
    (s.setPwr st c).pwr.ckpt = s.pwr.ckpt ∧ (s.setPwr st c).cru.refOk = s.cru.refOk ∧
    (s.setPwr st c).cru.pllLock = s.cru.pllLock ∧ (s.setPwr st c).cru.xtalOk = s.cru.xtalOk ∧
    (s.setPwr st c).cru.unclean = s.cru.unclean ∧ (s.setPwr st c).cru.kind = s.cru.kind ∧
    (s.setPwr st c).cru.kept = s.cru.kept ∧ (s.setPwr st c).cru.afterVault = s.cru.afterVault ∧
    (s.setPwr st c).cru.wdt = s.cru.wdt ∧ (s.setPwr st c).cru.step = s.cru.step ∧
    (s.setPwr st c).cru.failed = s.cru.failed ∧ (s.setPwr st c).cru.startMs = s.cru.startMs ∧
    (s.setPwr st c).cru.pinHeld = s.cru.pinHeld ∧ (s.setPwr st c).cru.xtalHeld = s.cru.xtalHeld ∧
    (s.setPwr st c).cru.startDue = s.cru.startDue ∧ (s.setPwr st c).cru.next = s.cru.next ∧
    (s.setPwr st c).cru.expiries = s.cru.expiries ∧ (s.setPwr st c).cru.fedAt = s.cru.fedAt ∧
    (s.setPwr st c).cru.dmcPll = s.cru.dmcPll ∧ (s.setPwr st c).cru.fatal = s.cru.fatal ∧
    (s.setPwr st c).cru.fatalSaid = s.cru.fatalSaid ∧ (s.setPwr st c).cru.vaultAct = s.cru.vaultAct ∧
    (s.setPwr st c).cru.consumed = s.cru.consumed ∧ (s.setPwr st c).cru.foundSeq = s.cru.foundSeq ∧
    (s.setPwr st c).cru.awaitAccept = s.cru.awaitAccept := by
  unfold State.setPwr; dsimp only; split <;> simp_all
@[simp] theorem setPwr_alive (s : State) (st : PwrState) (c : Nat) :
    (s.setPwr st c).cru.alive = if s.pwr.st = st ∨ st = .service ∨ st = .trimmed then s.cru.alive else false := by
  unfold State.setPwr; dsimp only; split <;> simp_all

theorem fatal_mem (s : State) (c : Nat) : c ∈ (s.fatal c).cru.fatal := by
  unfold State.fatal; split <;> simp_all
theorem foldl_proj {β γ : Type} (p : State → γ) (f : State → β → State) (h : ∀ s e, p (f s e) = p s) (l : List β) (s : State) :
    p (l.foldl f s) = p s := by
  induction l generalizing s with
  | nil => rfl
  | cons e l ih => rw [List.foldl_cons, ih, h]

theorem retryPut_lpr (s : State) (c v : Nat) (what : String) : ∃ x, s.retryPut c what v = { s with lpr := x } := ⟨_, rfl⟩

/-- Self-refresh entry touches what was sent, the write queues and retry buffers, and the channels. -/
theorem selfRefresh_proj {γ : Type} (p : State → γ)
    (h : ∀ s o l d, p { s with out := o, lpr := l, dmc := d } = p s) (s : State) (c : Nat) : p (s.selfRefresh c) = p s := by
  have h1 : ∀ (s : State) (x : LprSt), p { s with lpr := x } = p s := fun s x => h s s.out x s.dmc
  have hd : ∀ (s : State) (c v : Nat) (w : String), p (s.dram c w v) = p s := fun s c v w => by
    obtain ⟨x, hx⟩ := retryPut_lpr (s.emit (.dmc c w v)) c v w
    unfold State.dram; rw [hx]; exact h s _ _ s.dmc
  have hi : ∀ (s : State) (q : Nat → Bool), p (s.dmcIssue q) = p s := fun s q => by
    unfold State.dmcIssue; dsimp only
    rw [foldl_proj p _ (fun s a => ?_), h1]
    exact h1 s _
  have hr : ∀ (s : State) (c : Nat) (w : String), p (s.dramRanks c w) = p s := fun s c w =>
    foldl_proj p _ (fun s _ => hd s _ _ _) _ _
  have hc : ∀ (s : State) (c : Nat) (x : DmcCh), p (s.setCh c x) = p s := fun s c x => h s s.out s.lpr _
  unfold State.selfRefresh; dsimp only
  split
  · rw [hc, hd]
    split
    · rw [hr, hi]
    · rfl
  · rfl

/-- Cutting short a flash operation touches nothing but the flash. -/
theorem opTorn_proj {γ : Type} (p : State → γ) (h : ∀ s x, p { s with efl := x } = p s) (s : State) (o : FlashOp) :
    p (s.opTorn o) = p s := by
  cases o with
  | none => rfl
  | program w d => exact h s _
  | erase sec =>
    simp only [State.opTorn]
    generalize upTo 256 = l
    exact foldl_proj p _ (fun s e => h s _) l s

theorem flashCut_proj {γ : Type} (p : State → γ) (h : ∀ s x, p { s with efl := x } = p s) (s : State) :
    p s.flashCut = p s := by
  unfold State.flashCut
  split <;> simp only [h, opTorn_proj p h]

theorem flashCut_sup (s : State) : s.flashCut.sup = s.sup := flashCut_proj (fun u => u.sup) (fun _ _ => rfl) s

theorem coreReset_facts (s : State) :
    s.coreReset.iaddr = [] ∧ s.coreReset.ports = false ∧ s.coreReset.sup = s.sup ∧ s.coreReset.pwr.st = s.pwr.st
      ∧ s.coreReset.cru.pinHeld = s.cru.pinHeld ∧ s.coreReset.cru.xtalHeld = s.cru.xtalHeld
      ∧ s.coreReset.cru.next = s.cru.next ∧ s.coreReset.cru.startDue = s.cru.startDue
      ∧ s.coreReset.cru.xtalOk = s.cru.xtalOk := by
  unfold State.coreReset
  dsimp only
  simp only [State.restartRgc, State.restartData, flashCut_sup, and_self]

theorem selfRefreshAll_rest (s : State) :
    s.selfRefreshAll.pending = s.pending ∧ s.selfRefreshAll.timeUs = s.timeUs ∧ s.selfRefreshAll.regs = s.regs ∧
    s.selfRefreshAll.sup = s.sup ∧ s.selfRefreshAll.pwr = s.pwr ∧ s.selfRefreshAll.cru = s.cru ∧
    s.selfRefreshAll.ports = s.ports ∧ s.selfRefreshAll.iaddr = s.iaddr := by
  refine ⟨?_, ?_, ?_, ?_, ?_, ?_, ?_, ?_⟩ <;> exact foldl_proj _ _ (fun s c => selfRefresh_proj _ (fun _ _ _ _ => rfl) s c) _ _

@[simp] theorem releasePins_rest (s : State) :
    s.releasePins.pending = s.pending ∧ s.releasePins.timeUs = s.timeUs ∧ s.releasePins.regs = s.regs ∧
    s.releasePins.sup = s.sup ∧ s.releasePins.pwr = s.pwr ∧ s.releasePins.ports = s.ports ∧ s.releasePins.iaddr = s.iaddr ∧
    s.releasePins.cru = { s.cru with alive := false, pinsDriven := false, lanesIdle := true } := by
  unfold State.releasePins; dsimp only; split <;> simp

theorem pinReset_facts (s : State) (k : Nat) :
    (s.pinReset k).iaddr = [] ∧ (s.pinReset k).ports = false ∧ (s.pinReset k).sup = s.sup
      ∧ (s.pinReset k).pwr.st = (if s.pwr.st = .off then .off else .starting) ∧ (s.pinReset k).cru.startDue = false
      ∧ (s.pinReset k).cru.next = s.pinKind k ∧ (s.pinReset k).cru.pinHeld = s.cru.pinHeld
      ∧ (s.pinReset k).cru.xtalHeld = s.cru.xtalHeld ∧ (s.pinReset k).cru.xtalOk = s.cru.xtalOk := by
  unfold State.pinReset
  by_cases h : s.pwr.st = .off <;> simp [h, coreReset_facts, selfRefreshAll_rest]
@[simp] theorem fatal_low (s : State) (c : Nat) : (s.fatal c).faultLow = true := by
  have h := fatal_mem s c
  unfold State.faultLow
  cases h2 : (s.fatal c).cru.fatal with
  | nil => rw [h2] at h; simp at h
  | cons a l => rfl

theorem downCheck_facts (s : State) :
    s.downCheck.ports = s.ports ∧ s.downCheck.iaddr = s.iaddr ∧ s.downCheck.pwr = s.pwr
      ∧ s.downCheck.sup.railFail = s.sup.railFail ∧ s.downCheck.sup.dest = s.sup.dest
      ∧ s.downCheck.sup.dischFail = s.sup.dischFail ∧ s.downCheck.sup.onLatched = s.sup.onLatched
      ∧ (s.sup.seq = 3 → s.downCheck.sup.seq = 3 ∨ s.downCheck.sup.seq = 4) := by
  unfold State.downCheck; dsimp only; split <;> simp_all

theorem mapRails_facts (s : State) (f : Nat → Rail → Rail) :
    (s.mapRails f).ports = s.ports ∧ (s.mapRails f).iaddr = s.iaddr ∧ (s.mapRails f).pwr = s.pwr
      ∧ (s.mapRails f).sup.railFail = s.sup.railFail := by
  unfold State.mapRails
  refine ⟨?_, ?_, ?_, ?_⟩
  · exact foldl_proj (fun u => u.ports) (fun s n => s.setRail n (f n (s.rail n))) (fun _ _ => rfl) _ _
  · exact foldl_proj (fun u => u.iaddr) (fun s n => s.setRail n (f n (s.rail n))) (fun _ _ => rfl) _ _
  · exact foldl_proj (fun u => u.pwr) (fun s n => s.setRail n (f n (s.rail n))) (fun _ _ => rfl) _ _
  · exact foldl_proj (fun u => u.sup.railFail) (fun s n => s.setRail n (f n (s.rail n))) (fun _ _ => rfl) _ _

/-- A power-down resets the core and leads to `d`. -/
theorem powerDown_facts (s : State) (d : Dest) (c : Nat) :
    (s.powerDown d c).ports = false ∧ (s.powerDown d c).iaddr = []
      ∧ (s.powerDown d c).pwr.st = (if d = .standby then .standby else .off)
      ∧ (s.powerDown d c).sup.railFail = s.sup.railFail ∧ (s.powerDown d c).sup.dest = d
      ∧ ((s.powerDown d c).sup.seq = 3 ∨ (s.powerDown d c).sup.seq = 4) := by
  unfold State.powerDown
  refine ⟨?_, ?_, ?_, ?_, ?_, (downCheck_facts _).2.2.2.2.2.2.2 rfl⟩
  all_goals simp only [downCheck_facts, mapRails_facts, coreReset_facts, setPwr_rest]
/-- A setting depends on the register file alone. -/
theorem flag_of_regs {s t : State} (h : t.regs = s.regs) (f : Fld) : t.flag f = s.flag f := by
  unfold State.flag State.fld State.reg; rw [h]

/-- Outside a power-down and a vault the failure of a FATAL rail starts one (R374). -/
theorem railFails_fatal (s : State) (n : Nat) (hf : s.flag (fSUP_RAIL_CFG_FATAL.plus (16 * n)) = true) (hq : s.sup.seq ≠ 3)
    (hv : s.rsv.ph = .off) :
    (s.railFails n).sup.railFail = true ∧ (s.railFails n).ports = false ∧ (s.railFails n).iaddr = []
      ∧ ((s.railFails n).sup.seq = 3 ∨ (s.railFails n).sup.seq = 4) ∧ (s.railFails n).sup.dest = .off := by
  unfold State.railFails
  dsimp only
  rw [if_neg (by simpa [State.setRail] using hq), if_pos (by rw [← hf]; exact flag_of_regs (by simp) _),
    if_neg (by simp [hv])]
  simp [powerDown_facts]
/-- A slot whose turn it is runs its service. -/
theorem serve_turn {s : State} {n c : Nat} (h : s.turn n c) (run : MbSlot → State → State × Option SvcRes) :
    s.serve n c run = match run (s.slot n) (s.slotRunning n) with
      | (u, some r) => u.svcOut n r
      | (u, none) => u := by
  obtain ⟨h1, h2, h3, h4, h5, h6⟩ := h
  unfold State.serve
  unfold State.slotRunning at h6 ⊢
  dsimp only
  rw [if_neg (by simp [h2, h3, h4, Nat.not_le.mpr h1]), if_neg (by simp [h5]), if_neg (by simp [h6])]
  all_goals (rcases run _ _ with ⟨u, _ | r⟩ <;> rfl)

@[simp] theorem slotRunning_rest (s : State) (n : Nat) :
    (s.slotRunning n).pending = s.pending ∧ (s.slotRunning n).out = s.out ∧ (s.slotRunning n).timeUs = s.timeUs ∧
    (s.slotRunning n).regs = s.regs ∧ (s.slotRunning n).cnt = s.cnt ∧ (s.slotRunning n).sh = s.sh ∧
    (s.slotRunning n).done = s.done ∧ (s.slotRunning n).int = s.int ∧ (s.slotRunning n).tqm = s.tqm ∧
    (s.slotRunning n).epo = s.epo ∧ (s.slotRunning n).fch = s.fch ∧ (s.slotRunning n).rsv = s.rsv ∧
    (s.slotRunning n).lpr = s.lpr ∧ (s.slotRunning n).stk = s.stk ∧ (s.slotRunning n).twn = s.twn ∧
    (s.slotRunning n).bpm = s.bpm ∧ (s.slotRunning n).dmc = s.dmc ∧ (s.slotRunning n).dbk = s.dbk ∧
    (s.slotRunning n).tvl = s.tvl ∧ (s.slotRunning n).eth = s.eth ∧ (s.slotRunning n).nre = s.nre ∧
    (s.slotRunning n).cir = s.cir ∧ (s.slotRunning n).sup = s.sup ∧ (s.slotRunning n).pwr = s.pwr ∧
    (s.slotRunning n).cru = s.cru ∧ (s.slotRunning n).efl = s.efl ∧ (s.slotRunning n).sec = s.sec ∧
    (s.slotRunning n).top = s.top ∧ (s.slotRunning n).sbb = s.sbb ∧ (s.slotRunning n).dft = s.dft ∧
    (s.slotRunning n).ports = s.ports ∧ (s.slotRunning n).iaddr = s.iaddr ∧ (s.slotRunning n).freeCtr = s.freeCtr :=
  ⟨rfl, rfl, rfl, rfl, rfl, rfl, rfl, rfl, rfl, rfl, rfl, rfl, rfl, rfl, rfl, rfl, rfl, rfl, rfl, rfl, rfl, rfl, rfl, rfl, rfl,
    rfl, rfl, rfl, rfl, rfl, rfl, rfl, rfl⟩

@[simp] theorem svcOut_pwr (s : State) (n : Nat) (r : SvcRes) :
    (s.svcOut n r).pwr = s.pwr ∧ (s.svcOut n r).ports = s.ports ∧ (s.svcOut n r).sup = s.sup ∧ (s.svcOut n r).rsv = s.rsv
      ∧ (s.svcOut n r).cru = s.cru ∧ (s.svcOut n r).twn = s.twn := by
  unfold State.svcOut; dsimp only; split <;> simp

end Sys2Proof.Machine
end

