-- ==== Sys2Proof/Laws/Mail.lean ====
section
/-! SUPPORT. What a mailbox service of kind M comes to. -/

namespace Sys2Proof.Machine

/-- A slot that runs keeps the words of its request, its TOKEN among them. -/
@[simp] theorem slotRunning_token (s : State) (n : Nat) : ((s.slotRunning n).slot n).token = (s.slot n).token := by
  have h : (s.slotRunning n).slot n = { s.slot n with st := 2, out := none } := by
    unfold State.slot State.slotRunning State.setSlot Tab.set
    rw [if_neg (fun h => by simpa using congrArg MbSlot.st h)]
    exact Tab.get_put_same _ _ _ _
  rw [h]; rfl

/-- A kind-M service that need not wait and succeeds at once is mirrored with RESULT 0 and its result kept (R420, R421). -/
theorem serveM_ok {s u : State} {n c : Nat} {v : Svc} {r : SvcRes} (h : s.turn n c) (hq : (s.slot n).req = some v)
    (hw : (s.slotRunning n).svcWaits v = false) (hr : (s.slotRunning n).runSvc v (.svc n) = (u, some r)) (hc : r.code = 0) :
    s.serveM n c = (u.mirror_ (.service v 0 (s.slot n).token)).svcOut n r := by
  unfold State.serveM
  rw [serve_turn h, hq]
  dsimp only
  unfold State.doSvc
  rw [hw, hr]
  simp [hc]

/-- One that is refused changes nothing further and sends nothing (R421), but for a chunk of a schedule. -/
theorem serveM_refused {s u : State} {n c : Nat} {v : Svc} {r : SvcRes} (h : s.turn n c) (hq : (s.slot n).req = some v)
    (hw : (s.slotRunning n).svcWaits v = false) (hr : (s.slotRunning n).runSvc v (.svc n) = (u, some r)) (hc : r.code ≠ 0)
    (hl : ∀ a b d e f g, v ≠ .schedLoad a b d e f g) : s.serveM n c = u.svcOut n r := by
  unfold State.serveM
  rw [serve_turn h, hq]
  dsimp only
  unfold State.doSvc
  rw [hw, hr]
  cases v <;> first | exact absurd rfl (hl _ _ _ _ _ _) | simp [hc]

/-- One that completes later is mirrored at its commit point, FOLIO_MAINT apart (R423). -/
theorem serveM_later {s u : State} {n c : Nat} {v : Svc} (h : s.turn n c) (hq : (s.slot n).req = some v)
    (hw : (s.slotRunning n).svcWaits v = false) (hr : (s.slotRunning n).runSvc v (.svc n) = (u, none))
    (hf : ∀ a b d e, v ≠ .folioMaint a b d e) : s.serveM n c = u.mirror_ (.service v 0 (s.slot n).token) := by
  unfold State.serveM
  rw [serve_turn h, hq]
  dsimp only
  unfold State.doSvc
  rw [hw, hr]
  cases v <;> first | exact absurd rfl (hf _ _ _ _) | simp

end Sys2Proof.Machine
end

