-- ==== Sys2Proof/Laws/Steady.lean ====
section
/-! SUPPORT. The canonical form of every addressed store: what keeps the held part keeps it; how an update, a choice and
a fold do it. The lemma of an operation `f` is `f_steady`. -/

namespace Sys2Proof.Machine

/-- The queue is Q, and every addressed store is canonical. -/
def Steady (Q : List Instr) (s : State) : Prop := s.pending = Q ∧ Canon s

variable {s t : State} {Q : List Instr}

/-- What keeps the held part keeps the canonical form. -/
theorem Steady.of (h : Keeps s.held s → Keeps s.held t) (hs : Steady Q s) : Steady Q t := by
  obtain ⟨hh, hw⟩ := h ⟨rfl, hs.2.1⟩
  have hp : t.pending = s.pending := congrArg Held.pending hh
  have hr : t.regs = s.regs := congrArg Held.regs hh
  have hc : t.sh = s.sh := congrArg Held.sh hh
  have hi : t.iaddr = s.iaddr := congrArg Held.iaddr hh
  exact ⟨hp.trans hs.1, hw, hr ▸ hs.2.2.1, hc ▸ hs.2.2.2.1, hi ▸ hs.2.2.2.2⟩

theorem steady_mk
    {pending out timeUs freeCtr regs cnt sh iaddr done int tqm epo fch rsv lpr stk twn bpm dmc dbk tvl eth nre cir sup
      pwr cru rgc efl sec top sbb dft ports} :
    Steady Q (State.mk pending out timeUs freeCtr regs cnt sh iaddr done int tqm epo fch rsv lpr stk twn bpm dmc dbk tvl
        eth nre cir sup pwr cru rgc efl sec top sbb dft ports)
      = (pending = Q ∧ Stores.wf ⟨lpr.dram, efl.words⟩ = true ∧ Tab.wf regReset regs = true
        ∧ Tab.wf (fun _ => (0 : W32)) sh = true ∧ Tab.wf (fun _ => (0 : W32)) iaddr = true) := rfl

theorem steady_fold :
    (s.pending = Q ∧ Stores.wf ⟨s.lpr.dram, s.efl.words⟩ = true ∧ Tab.wf regReset s.regs = true
      ∧ Tab.wf (fun _ => (0 : W32)) s.sh = true ∧ Tab.wf (fun _ => (0 : W32)) s.iaddr = true) = Steady Q s := rfl

theorem ite_steady {c : Prop} [Decidable c] {a b : State} (ha : Steady Q a) (hb : Steady Q b) : Steady Q (if c then a else b) := by
  split
  · exact ha
  · exact hb

theorem elim_steady {α : Type} {o : Option α} {f : α → State} (hs : Steady Q s) (hf : ∀ x, Steady Q (f x)) :
    Steady Q (o.elim s f) := by
  cases o with
  | none => exact hs
  | some x => exact hf x

theorem foldl_steady {α : Type} {f : State → α → State} {l : List α} (hf : ∀ s e, Steady Q s → Steady Q (f s e))
    (hs : Steady Q s) : Steady Q (l.foldl f s) := by
  induction l generalizing s with
  | nil => exact hs
  | cons a t ih => exact ih (hf s a hs)

theorem foldl_pair_steady {α β : Type} {f : State × β → α → State × β} {l : List α} {p : State × β}
    (hf : ∀ p e, Steady Q p.1 → Steady Q (f p e).1) (hp : Steady Q p.1) : Steady Q (l.foldl f p).1 := by
  induction l generalizing p with
  | nil => exact hp
  | cons a t ih => exact ih (hf p a hp)

theorem ite_fst_steady {β : Type} {c : Prop} [Decidable c] {a b : State × β} (ha : Steady Q a.1) (hb : Steady Q b.1) :
    Steady Q (if c then a else b).1 := by
  split
  · exact ha
  · exact hb

theorem fst_steady {α : Type} {p : State × α} {a : State} {b : α} (h : p = (a, b)) (hp : Steady Q p.1) : Steady Q a := by
  subst h
  exact hp

theorem finish_steady (hs : Steady Q s) : ∃ u, finish s = .next u ∧ Steady Q u :=
  ⟨settle s, rfl, Steady.of settle_keeps hs⟩

theorem regs_steady {a : Tab W32} (hs : Steady Q s) (ha : Tab.wf regReset a = true) : Steady Q { s with regs := a } :=
  ⟨hs.1, hs.2.1, ha, hs.2.2.2⟩

theorem sh_steady {a : Tab W32} (hs : Steady Q s) (ha : Tab.wf (fun _ => (0 : W32)) a = true) : Steady Q { s with sh := a } :=
  ⟨hs.1, hs.2.1, hs.2.2.1, ha, hs.2.2.2.2⟩

theorem iaddr_steady {a : Tab W32} (hs : Steady Q s) (ha : Tab.wf (fun _ => (0 : W32)) a = true) :
    Steady Q { s with iaddr := a } :=
  ⟨hs.1, hs.2.1, hs.2.2.1, hs.2.2.2.1, ha⟩

theorem lpr_steady {a : LprSt} (hs : Steady Q s) (hd : a.dram = s.lpr.dram) :
    Steady Q { s with lpr := a } := by
  simp only [steady_mk, hd, steady_fold]
  exact hs

theorem efl_steady {a : EflSt} (hs : Steady Q s) (hw : a.words = s.efl.words) : Steady Q { s with efl := a } := by
  simp only [steady_mk, hw, steady_fold]
  exact hs

/-! An update of one block that holds no store. -/

theorem out_steady {a} (hs : Steady Q s) : Steady Q { s with out := a } := by
  simp only [steady_mk, steady_fold]
  exact hs

theorem timeUs_steady {a} (hs : Steady Q s) : Steady Q { s with timeUs := a } := by
  simp only [steady_mk, steady_fold]
  exact hs

theorem freeCtr_steady {a} (hs : Steady Q s) : Steady Q { s with freeCtr := a } := by
  simp only [steady_mk, steady_fold]
  exact hs

theorem cnt_steady {a} (hs : Steady Q s) : Steady Q { s with cnt := a } := by
  simp only [steady_mk, steady_fold]
  exact hs

theorem doneList_steady {a} (hs : Steady Q s) : Steady Q { s with done := a } := by
  simp only [steady_mk, steady_fold]
  exact hs

theorem int_steady {a} (hs : Steady Q s) : Steady Q { s with int := a } := by
  simp only [steady_mk, steady_fold]
  exact hs

theorem tqm_steady {a} (hs : Steady Q s) : Steady Q { s with tqm := a } := by
  simp only [steady_mk, steady_fold]
  exact hs

theorem epo_steady {a} (hs : Steady Q s) : Steady Q { s with epo := a } := by
  simp only [steady_mk, steady_fold]
  exact hs

theorem fch_steady {a} (hs : Steady Q s) : Steady Q { s with fch := a } := by
  simp only [steady_mk, steady_fold]
  exact hs

theorem rsv_steady {a} (hs : Steady Q s) : Steady Q { s with rsv := a } := by
  simp only [steady_mk, steady_fold]
  exact hs

theorem stk_steady {a} (hs : Steady Q s) : Steady Q { s with stk := a } := by
  simp only [steady_mk, steady_fold]
  exact hs

theorem twn_steady {a} (hs : Steady Q s) : Steady Q { s with twn := a } := by
  simp only [steady_mk, steady_fold]
  exact hs

theorem bpm_steady {a} (hs : Steady Q s) : Steady Q { s with bpm := a } := by
  simp only [steady_mk, steady_fold]
  exact hs

theorem dmc_steady {a} (hs : Steady Q s) : Steady Q { s with dmc := a } := by
  simp only [steady_mk, steady_fold]
  exact hs

theorem dbk_steady {a} (hs : Steady Q s) : Steady Q { s with dbk := a } := by
  simp only [steady_mk, steady_fold]
  exact hs

theorem tvl_steady {a} (hs : Steady Q s) : Steady Q { s with tvl := a } := by
  simp only [steady_mk, steady_fold]
  exact hs

theorem eth_steady {a} (hs : Steady Q s) : Steady Q { s with eth := a } := by
  simp only [steady_mk, steady_fold]
  exact hs

theorem nre_steady {a} (hs : Steady Q s) : Steady Q { s with nre := a } := by
  simp only [steady_mk, steady_fold]
  exact hs

theorem cir_steady {a} (hs : Steady Q s) : Steady Q { s with cir := a } := by
  simp only [steady_mk, steady_fold]
  exact hs

theorem sup_steady {a} (hs : Steady Q s) : Steady Q { s with sup := a } := by
  simp only [steady_mk, steady_fold]
  exact hs

theorem pwr_steady {a} (hs : Steady Q s) : Steady Q { s with pwr := a } := by
  simp only [steady_mk, steady_fold]
  exact hs

theorem cru_steady {a} (hs : Steady Q s) : Steady Q { s with cru := a } := by
  simp only [steady_mk, steady_fold]
  exact hs

theorem rgc_steady {a} (hs : Steady Q s) : Steady Q { s with rgc := a } := by
  simp only [steady_mk, steady_fold]
  exact hs

theorem sec_steady {a} (hs : Steady Q s) : Steady Q { s with sec := a } := by
  simp only [steady_mk, steady_fold]
  exact hs

theorem top_steady {a} (hs : Steady Q s) : Steady Q { s with top := a } := by
  simp only [steady_mk, steady_fold]
  exact hs

theorem sbb_steady {a} (hs : Steady Q s) : Steady Q { s with sbb := a } := by
  simp only [steady_mk, steady_fold]
  exact hs

theorem dft_steady {a} (hs : Steady Q s) : Steady Q { s with dft := a } := by
  simp only [steady_mk, steady_fold]
  exact hs

theorem ports_steady {a} (hs : Steady Q s) : Steady Q { s with ports := a } := by
  simp only [steady_mk, steady_fold]
  exact hs

/-! Operations that take what a command does as an argument. -/

theorem State.serve_steady {n code : Nat} {run : MbSlot → State → State × Option SvcRes} (hs : Steady Q s)
    (hr : ∀ x s, Steady Q s → Steady Q (run x s).1) : Steady Q (s.serve n code run) := by
  unfold State.serve
  extract_lets x _ s1
  have h1 : Steady Q s1 := Steady.of State.setSlot_keeps (rgc_steady hs)
  clear_value s1
  split
  · exact hs
  · split
    · exact Steady.of State.svcOut_keeps h1
    · split
      · exact Steady.of State.svcOut_keeps h1
      · split
        · exact Steady.of State.svcOut_keeps (fst_steady ‹_› (hr _ _ h1))
        · exact fst_steady ‹_› (hr _ _ h1)

theorem State.pwrService_steady {slot target : Nat} {run : State → State × Option SvcRes} (hs : Steady Q s)
    (hr : ∀ s, Steady Q s → Steady Q (run s).1) : Steady Q (s.pwrService slot target run) := by
  unfold State.pwrService
  split
  · exact hs
  · refine State.serve_steady hs ?_
    intro x s hs
    split
    · exact hs
    · exact hr s hs

theorem State.dftCmd_steady {path : Nat} {f : State → State} (hs : Steady Q s) (hf : ∀ s, Steady Q s → Steady Q (f s)) :
    Steady Q (s.dftCmd path f) := by
  unfold State.dftCmd
  split
  · exact hf s hs
  · split
    · exact Steady.of State.secDenied_keeps hs
    · exact hs

theorem State.cmd_steady {w : Nat} {scrub go : Bool} {f : State → State} (hs : Steady Q s) (hf : Steady Q s → Steady Q (f s)) :
    Steady Q (s.cmd w scrub go f) := by
  unfold State.cmd
  split
  · exact hs
  · split
    · exact Steady.of State.bumpFld_keeps hs
    · exact hf hs

end Sys2Proof.Machine
end

