-- ==== Sys2Proof/Laws/SteadyOps.lean ====
section
/-! SUPPORT. The operations that write held state leave the queue alone and keep every store
canonical. -/

namespace Sys2Proof.Machine

variable {Q : List Instr}

theorem State.setReg_steady {s : State} {a : Nat} {v : W32} (hs : Steady Q s) : Steady Q (s.setReg a v) :=
  regs_steady hs (Tab.wf_set hs.2.2.1)

theorem State.setFld_steady {s : State} {f : Fld} {v : Nat} (hs : Steady Q s) :
    Steady Q (State.setFld s f v) := by
  unfold State.setFld
  repeat' first | with_reducible assumption | with_reducible refine State.setReg_steady ?_

theorem State.setLane_steady {s : State} {n : Nat} {l : DftLane} (hs : Steady Q s) :
    Steady Q (State.setLane s n l) := by
  unfold State.setLane
  repeat' first | with_reducible assumption | simp only [steady_mk, steady_fold]

theorem State.laneTrained_steady {s : State} {a n : Nat} (hs : Steady Q s) :
    Steady Q (State.laneTrained s a n) := by
  unfold State.laneTrained
  repeat' first | with_reducible assumption | simp only [steady_mk, steady_fold]

theorem State.setCh_steady {s : State} {c : Nat} {x : DmcCh} (hs : Steady Q s) :
    Steady Q (State.setCh s c x) := by
  unfold State.setCh
  repeat' first | with_reducible assumption | simp only [steady_mk, steady_fold]

theorem State.loadKeys_steady {s : State} (hs : Steady Q s) :
    Steady Q (State.loadKeys s) := by
  unfold State.loadKeys
  repeat' first | with_reducible assumption | simp only [steady_mk, steady_fold]

theorem State.imageKey_steady {s : State} {long : Bool} (hs : Steady Q s) :
    Steady Q (State.imageKey s long).1 := by
  unfold State.imageKey
  repeat' first | with_reducible assumption | simp only [steady_mk, steady_fold]

theorem State.kceStart_steady {s : State} (hs : Steady Q s) :
    Steady Q (State.kceStart s) := by
  unfold State.kceStart
  repeat' first
    | with_reducible assumption
    | with_reducible refine ite_steady ?_ ?_
    | simp only [steady_mk, steady_fold]
    | split

theorem State.kceSubmit_steady {s : State} {q : KReq} (hs : Steady Q s) :
    Steady Q (State.kceSubmit s q) := by
  unfold State.kceSubmit
  repeat' first
    | with_reducible assumption
    | with_reducible refine State.kceStart_steady ?_
    | with_reducible apply Steady.of State.bump_keeps
    | with_reducible refine ite_steady ?_ ?_
    | simp only [steady_mk, steady_fold]
    | split

theorem State.kceAbort_steady {s : State} (hs : Steady Q s) :
    Steady Q (State.kceAbort s) := by
  unfold State.kceAbort
  repeat' first | with_reducible assumption | simp only [steady_mk, steady_fold]

theorem State.unlockFail_steady {s : State} {path : Nat} (hs : Steady Q s) :
    Steady Q (State.unlockFail s path) := by
  unfold State.unlockFail
  repeat' first
    | with_reducible assumption
    | with_reducible apply Steady.of State.note_keeps
    | with_reducible apply Steady.of State.raise_keeps
    | with_reducible apply Steady.of State.bumpFld_keeps
    | simp only [steady_mk, steady_fold]

theorem State.unlockGrant_steady {s : State} {purpose path : Nat} (hs : Steady Q s) :
    Steady Q (State.unlockGrant s purpose path) := by
  unfold State.unlockGrant
  repeat' first
    | with_reducible assumption
    | with_reducible apply Steady.of State.note_keeps
    | with_reducible apply Steady.of State.raise_keeps
    | with_reducible apply Steady.of State.bumpFld_keeps
    | simp only [steady_mk, steady_fold]

theorem State.setRail_steady {s : State} {n : Nat} {r : Rail} (hs : Steady Q s) :
    Steady Q (State.setRail s n r) := by
  unfold State.setRail
  repeat' first | with_reducible assumption | simp only [steady_mk, steady_fold]

theorem State.setMon_steady {s : State} {n : Nat} {m : Mon} (hs : Steady Q s) :
    Steady Q (State.setMon s n m) := by
  unfold State.setMon
  repeat' first | with_reducible assumption | simp only [steady_mk, steady_fold]

theorem State.tvlDisable_steady {s : State} {port : Nat} (hs : Steady Q s) :
    Steady Q (State.tvlDisable s port) := by
  unfold State.tvlDisable
  repeat' first
    | with_reducible assumption
    | with_reducible apply Steady.of State.tvStop_keeps
    | with_reducible refine State.setFld_steady ?_
    | with_reducible refine ite_steady ?_ ?_

theorem State.tvlRetrain_steady {s : State} {port half : Nat} (hs : Steady Q s) :
    Steady Q (State.tvlRetrain s port half) := by
  unfold State.tvlRetrain
  repeat' first
    | with_reducible assumption
    | with_reducible apply Steady.of State.tvLose_keeps
    | with_reducible refine State.setFld_steady ?_
    | with_reducible refine ite_steady ?_ ?_

theorem State.failChannel_steady {s : State} {c cause : Nat} (hs : Steady Q s) :
    Steady Q (State.failChannel s c cause) := by
  unfold State.failChannel
  repeat' first
    | with_reducible assumption
    | with_reducible apply Steady.of State.tellFault_keeps
    | with_reducible apply Steady.of State.fatal_keeps
    | with_reducible refine State.setCh_steady ?_
    | with_reducible apply Steady.of State.note_keeps
    | simp only [steady_mk, steady_fold]

theorem State.replayDone_steady {s : State} {c : Nat} (hs : Steady Q s) :
    Steady Q (State.replayDone s c) := by
  unfold State.replayDone
  repeat' first
    | with_reducible assumption
    | with_reducible refine State.setCh_steady ?_
    | with_reducible apply Steady.of State.raise_keeps
    | with_reducible apply Steady.of State.bumpFld_keeps

theorem State.selfRefresh_steady {s : State} {c : Nat} (hs : Steady Q s) :
    Steady Q (State.selfRefresh s c) := by
  unfold State.selfRefresh
  repeat' first
    | with_reducible assumption
    | with_reducible apply Steady.of State.dramRanks_keeps
    | with_reducible apply Steady.of State.dram_keeps
    | with_reducible apply Steady.of State.dmcIssue_keeps
    | with_reducible refine State.setCh_steady ?_
    | with_reducible refine ite_steady ?_ ?_

theorem State.selfRefreshAll_steady {s : State} (hs : Steady Q s) :
    Steady Q (State.selfRefreshAll s) := by
  unfold State.selfRefreshAll
  repeat' first
    | with_reducible assumption
    | with_reducible refine State.selfRefresh_steady ?_
    | with_reducible refine foldl_steady ?_ ?_
    | intro q_ _ h_

theorem State.judgeTemp_steady {s : State} {c : Nat} (hs : Steady Q s) :
    Steady Q (State.judgeTemp s c) := by
  unfold State.judgeTemp
  repeat' first | with_reducible assumption | with_reducible refine State.setCh_steady ?_

theorem State.retrainNow_steady {s : State} {ch : Nat} (hs : Steady Q s) :
    Steady Q (State.retrainNow s ch) := by
  unfold State.retrainNow
  repeat' first
    | with_reducible assumption
    | with_reducible refine State.setCh_steady ?_
    | with_reducible refine ite_steady ?_ ?_

theorem State.fchg_steady {s : State} {c : Nat} (hs : Steady Q s) :
    Steady Q (State.fchg s c) := by
  unfold State.fchg
  repeat' first
    | with_reducible assumption
    | with_reducible apply Steady.of State.dramRanks_keeps
    | with_reducible apply Steady.of State.dram_keeps
    | with_reducible refine State.setCh_steady ?_
    | with_reducible apply Steady.of State.raise_keeps
    | with_reducible refine ite_steady ?_ ?_

theorem State.dftOff_steady {s : State} (hs : Steady Q s) :
    Steady Q (State.dftOff s) := by
  unfold State.dftOff
  repeat' first | with_reducible assumption | simp only [steady_mk, steady_fold]

theorem State.wake_steady {s : State} (hs : Steady Q s) :
    Steady Q (State.wake s) := by
  unfold State.wake
  repeat' first
    | with_reducible assumption
    | with_reducible apply Steady.of State.setLink_keeps
    | with_reducible refine ite_steady ?_ ?_
    | with_reducible refine foldl_steady ?_ ?_
    | simp only [steady_mk, steady_fold]
    | intro q_ _ h_

theorem State.startVault_steady {s : State} {cause : Nat} (hs : Steady Q s) :
    Steady Q (State.startVault s cause) := by
  unfold State.startVault
  repeat' first
    | with_reducible assumption
    | with_reducible refine State.wake_steady ?_
    | with_reducible apply Steady.of State.vaultBegin_keeps
    | with_reducible apply Steady.of State.vaultTwin_keeps
    | with_reducible refine State.dftOff_steady ?_
    | with_reducible apply Steady.of State.ethIdle_keeps
    | with_reducible apply Steady.of State.quietLinks_keeps
    | with_reducible apply Steady.of State.dropClients_keeps
    | with_reducible apply Steady.of State.setPwr_keeps
    | with_reducible refine State.kceAbort_steady ?_
    | with_reducible refine ite_steady ?_ ?_
    | with_reducible refine foldl_steady ?_ ?_
    | simp only [steady_mk, steady_fold]
    | intro q_ _ h_

theorem State.setSbCh_steady {s : State} {n : Nat} {c : SbCh} (hs : Steady Q s) :
    Steady Q (State.setSbCh s n c) := by
  unfold State.setSbCh
  repeat' first | with_reducible assumption | simp only [steady_mk, steady_fold]

theorem State.sbSync_steady {s : State} (hs : Steady Q s) :
    Steady Q (State.sbSync s) := by
  unfold State.sbSync
  repeat' first
    | with_reducible assumption
    | with_reducible refine State.setSbCh_steady ?_
    | with_reducible apply Steady.of State.emit_keeps
    | with_reducible refine ite_steady ?_ ?_
    | with_reducible refine foldl_steady ?_ ?_
    | dsimp only
    | intro q_ _ h_

theorem State.sbEnd_steady {s : State} {n : Nat} {e : SbEnd} {st : Nat} (hs : Steady Q s) :
    Steady Q (State.sbEnd s n e st) := by
  unfold State.sbEnd
  repeat' first
    | with_reducible assumption
    | with_reducible refine State.setSbCh_steady ?_
    | with_reducible apply Steady.of State.raise_keeps
    | with_reducible apply Steady.of State.bumpFld_keeps
    | with_reducible apply Steady.of State.bump_keeps
    | dsimp only
    | split

theorem State.sbRun_steady {s : State} {n : Nat} {t : SbTx} (hs : Steady Q s) :
    Steady Q (State.sbRun s n t) := by
  unfold State.sbRun
  repeat' first
    | with_reducible assumption
    | with_reducible refine State.sbEnd_steady ?_
    | with_reducible apply Steady.of State.bumpFldN_keeps
    | with_reducible refine State.setSbCh_steady ?_
    | with_reducible apply Steady.of State.raiseN_keeps
    | with_reducible apply Steady.of State.emit_keeps
    | with_reducible refine ite_steady ?_ ?_

theorem State.sbPump_steady {s : State} {n m : Nat} (hs : Steady Q s) : Steady Q (s.sbPump n m) := by
  induction m generalizing s with
  | zero => exact hs
  | succ m ih =>
    unfold State.sbPump
    dsimp only
    split
    · exact hs
    · split
      · exact hs
      · exact ih (State.sbRun_steady (State.setSbCh_steady hs))

theorem State.sbStuck_steady {s : State} {n : Nat} {scl sda : Bool} {pulses : Nat} (hs : Steady Q s) :
    Steady Q (State.sbStuck s n scl sda pulses) := by
  unfold State.sbStuck
  repeat' first
    | with_reducible assumption
    | with_reducible refine State.setSbCh_steady ?_
    | with_reducible apply Steady.of State.note_keeps

theorem State.sbCheck_steady {s : State} {n : Nat} {scl sda : Bool} {readings : List Bool} (hs : Steady Q s) :
    Steady Q (State.sbCheck s n scl sda readings) := by
  unfold State.sbCheck
  repeat' first
    | with_reducible assumption
    | with_reducible refine State.sbStuck_steady ?_
    | with_reducible refine State.sbPump_steady ?_
    | with_reducible refine State.setSbCh_steady ?_
    | with_reducible refine ite_steady ?_ ?_

theorem State.putImage_steady {s : State} {a v : Nat} (hs : Steady Q s) :
    Steady Q (State.putImage s a v) := by
  unfold State.putImage
  repeat' first
    | with_reducible assumption
    | with_reducible refine State.setReg_steady ?_
    | dsimp only
    | split

theorem State.putSupply_steady {s : State} {v : List Byte} (hs : Steady Q s) : Steady Q (s.putSupply v) := by
  unfold State.putSupply
  refine sup_steady (foldl_steady ?_ (foldl_steady ?_ (State.putImage_steady (State.putImage_steady hs))))
  · exact fun s _ h => State.putImage_steady (State.putImage_steady h)
  · exact fun s _ h => State.putImage_steady (State.putImage_steady (State.putImage_steady h))

theorem State.readSupply_steady {s : State} (hs : Steady Q s) :
    Steady Q (State.readSupply s) := by
  unfold State.readSupply
  repeat' first
    | with_reducible assumption
    | with_reducible refine State.putSupply_steady ?_
    | with_reducible apply Steady.of State.note_keeps
    | with_reducible refine foldl_steady ?_ ?_
    | simp only [steady_mk, steady_fold]
    | intro q_ _ h_
    | split

theorem State.checkCopy_steady {s : State} {c : Nat} {h : List Byte} {life : Nat} {rails : Bool} (hs : Steady Q s) :
    Steady Q (State.checkCopy s c h life rails).1 := by
  unfold State.checkCopy
  repeat' first
    | with_reducible assumption
    | with_reducible apply Steady.of State.setSealLatch_keeps
    | with_reducible refine State.imageKey_steady ?_
    | with_reducible apply Steady.of State.kceVerify_keeps
    | dsimp only
    | split

theorem State.tryCopies_steady {s : State} {only6 : Bool} {l : List Nat} (hs : Steady Q s) :
    Steady Q (s.tryCopies only6 l).1 := by
  induction l generalizing s only6 with
  | nil => exact hs
  | cons c t ih =>
    unfold State.tryCopies
    split
    have h1 := fst_steady ‹_› (State.checkCopy_steady hs)
    split
    · exact Steady.of State.note_keeps h1
    · refine ih (ite_steady (Steady.of State.cfgErase_keeps ?_) ?_)
      · exact Steady.of State.rejectCopy_keeps h1
      · exact Steady.of State.rejectCopy_keeps h1

theorem State.imageDefaults_steady {s : State} (hs : Steady Q s) : Steady Q s.imageDefaults := by
  refine regs_steady hs (Tab.wf_foldl _ ?_ _ hs.2.2.1)
  intro t e h
  beta_reduce
  split
  · exact h
  · exact Tab.wf_set h

theorem bpmRgc_steady {s : State} {a : BpmSt} {b : RgcSt} (hs : Steady Q s) : Steady Q
    { s with bpm := a, rgc := b } := by
  simp only [steady_mk, steady_fold]
  exact hs

theorem State.putStart_steady {s : State} {v : List Byte} (hs : Steady Q s) : Steady Q (s.putStart v) := by
  unfold State.putStart
  extract_lets s1 s2 mins
  have h1 : Steady Q s1 :=
    State.putImage_steady (State.putImage_steady (State.putImage_steady (State.putImage_steady (State.putImage_steady hs))))
  clear_value s1 mins
  have h2 : Steady Q s2 := foldl_steady (fun _ _ h => State.putImage_steady (State.putImage_steady h)) h1
  clear_value s2
  exact bpmRgc_steady h2

theorem State.putRec_steady {s : State} {r : Nat × Nat} (hs : Steady Q s) :
    Steady Q (State.putRec s r) := by
  unfold State.putRec
  repeat' first
    | with_reducible assumption
    | with_reducible refine State.putImage_steady ?_
    | with_reducible refine ite_steady ?_ ?_
    | simp only [steady_mk, steady_fold]

theorem State.applyImage_steady {s : State} {c : Nat} {x : Checked} {live : Bool} (hs : Steady Q s) :
    Steady Q (State.applyImage s c x live) := by
  unfold State.applyImage
  repeat' first
    | with_reducible assumption
    | with_reducible refine State.putRec_steady ?_
    | with_reducible apply Steady.of State.putNet_keeps
    | with_reducible apply Steady.of State.putPorts_keeps
    | with_reducible refine State.putStart_steady ?_
    | with_reducible refine State.imageDefaults_steady ?_
    | with_reducible refine State.sbSync_steady ?_
    | with_reducible refine State.setFld_steady ?_
    | with_reducible refine foldl_steady ?_ ?_
    | simp only [steady_mk, steady_fold]
    | intro q_ _ h_

theorem State.restartData_steady {s : State} (hs : Steady Q s) :
    Steady Q (State.restartData s) := by
  unfold State.restartData
  repeat' first | with_reducible assumption | simp only [steady_mk, steady_fold]

theorem State.coreReset_steady {s : State} (hs : Steady Q s) : Steady Q s.coreReset := by
  have h : Steady Q s.restartRgc.restartData := State.restartData_steady (Steady.of State.restartRgc_keeps hs)
  unfold State.coreReset
  simp only [steady_mk]
  exact ⟨h.1, h.2.1, Tab.wf_drop _ h.2.2.1, Tab.wf_drop _ h.2.2.2.1, rfl⟩

theorem State.dramLose_steady {s : State} (hs : Steady Q s) : Steady Q s.dramLose := by
  have hm := hs.2.1
  simp only [Stores.wf, State.stores, Bool.and_eq_true] at hm
  unfold State.dramLose
  simp only [steady_mk, Stores.wf, Bool.and_eq_true]
  exact ⟨hs.1, ⟨rfl, hm.2⟩, hs.2.2⟩

theorem State.mapRails_steady {s : State} {f : Nat → Rail → Rail} (hs : Steady Q s) :
    Steady Q (State.mapRails s f) := by
  unfold State.mapRails
  repeat' first
    | with_reducible assumption
    | with_reducible refine State.setRail_steady ?_
    | with_reducible refine foldl_steady ?_ ?_
    | intro q_ _ h_

theorem State.upCheck_steady {s : State} (hs : Steady Q s) :
    Steady Q (State.upCheck s) := by
  unfold State.upCheck
  repeat' first
    | with_reducible assumption
    | with_reducible refine ite_steady ?_ ?_
    | simp only [steady_mk, steady_fold]

theorem State.downCheck_steady {s : State} (hs : Steady Q s) :
    Steady Q (State.downCheck s) := by
  unfold State.downCheck
  repeat' first
    | with_reducible assumption
    | with_reducible refine ite_steady ?_ ?_
    | simp only [steady_mk, steady_fold]

theorem State.powerDown_steady {s : State} {dest : Dest} {cause : Nat} (hs : Steady Q s) :
    Steady Q (State.powerDown s dest cause) := by
  unfold State.powerDown
  repeat' first
    | with_reducible assumption
    | with_reducible refine State.downCheck_steady ?_
    | with_reducible refine State.mapRails_steady ?_
    | with_reducible refine State.coreReset_steady ?_
    | with_reducible apply Steady.of State.setPwr_keeps
    | simp only [steady_mk, steady_fold]

theorem State.powerUp_steady {s : State} (hs : Steady Q s) : Steady Q s.powerUp := by
  unfold State.powerUp
  extract_lets +onlyGivenNames from_ src0 s0
  have h0 : Steady Q s0 := by
    simp only [s0, steady_mk]
    exact ⟨hs.1, hs.2.1, hs.2.2.1, Tab.wf_drop _ hs.2.2.2.1, hs.2.2.2.2⟩
  clear_value s0
  extract_lets +onlyGivenNames s1
  have h1 : Steady Q s1 := State.readSupply_steady h0
  clear_value s1
  split
  · exact h1
  · extract_lets +onlyGivenNames s2 s3
    have h2 : Steady Q s2 := State.mapRails_steady h1
    have h3 : Steady Q s3 := foldl_steady (fun _ _ h => State.setRail_steady h) h2
    clear_value s2 s3
    refine State.upCheck_steady ?_
    simp only [steady_mk, steady_fold]
    exact h3

theorem State.onRequest_steady {s : State} (hs : Steady Q s) :
    Steady Q (State.onRequest s) := by
  unfold State.onRequest
  repeat' first
    | with_reducible assumption
    | with_reducible refine State.powerUp_steady ?_
    | with_reducible refine ite_steady ?_ ?_
    | simp only [steady_mk, steady_fold]

theorem State.offRequest_steady {s : State} {cause : Nat} (hs : Steady Q s) :
    Steady Q (State.offRequest s cause) := by
  unfold State.offRequest
  repeat' first
    | with_reducible assumption
    | with_reducible refine State.powerDown_steady ?_
    | with_reducible refine ite_steady ?_ ?_

theorem State.railFails_steady {s : State} {n : Nat} (hs : Steady Q s) :
    Steady Q (State.railFails s n) := by
  unfold State.railFails
  repeat' first
    | with_reducible assumption
    | with_reducible refine State.powerDown_steady ?_
    | with_reducible refine State.downCheck_steady ?_
    | with_reducible refine State.upCheck_steady ?_
    | with_reducible apply Steady.of State.snapshot_keeps
    | with_reducible refine State.setRail_steady ?_
    | with_reducible apply Steady.of State.note_keeps
    | with_reducible apply Steady.of State.bumpFld_keeps
    | with_reducible refine ite_steady ?_ ?_
    | with_reducible refine foldl_steady ?_ ?_
    | simp only [steady_mk, steady_fold]
    | intro q_ _ h_

theorem State.startBegin_steady {s : State} {kept : Bool} (hs : Steady Q s) :
    Steady Q (State.startBegin s kept) := by
  unfold State.startBegin
  repeat' first
    | with_reducible assumption
    | with_reducible refine State.dramLose_steady ?_
    | with_reducible refine State.coreReset_steady ?_
    | with_reducible apply Steady.of State.setPwr_keeps
    | with_reducible refine State.setFld_steady ?_
    | with_reducible refine ite_steady ?_ ?_
    | simp only [steady_mk, steady_fold]

theorem State.startStep2_steady {s : State} (hs : Steady Q s) :
    Steady Q (State.startStep2 s) := by
  unfold State.startStep2
  repeat' first
    | with_reducible assumption
    | with_reducible apply Steady.of State.drivePins_keeps
    | with_reducible apply Steady.of State.note_keeps
    | simp only [steady_mk, steady_fold]
    | split

theorem State.registrarBoot_steady {s : State} (hs : Steady Q s) :
    Steady Q (State.registrarBoot s).1 := by
  unfold State.registrarBoot
  repeat' first
    | with_reducible assumption
    | with_reducible apply Steady.of State.markSuspects_keeps
    | with_reducible apply Steady.of State.cycleUp_keeps
    | with_reducible apply Steady.of State.daybookStart_keeps
    | with_reducible apply Steady.of State.bootFw_keeps
    | with_reducible refine State.loadKeys_steady ?_

theorem State.startStep4_steady {s : State} (hs : Steady Q s) :
    Steady Q (State.startStep4 s) := by
  unfold State.startStep4
  repeat' first
    | with_reducible assumption
    | with_reducible apply Steady.of State.stepNext_keeps
    | with_reducible apply Steady.of State.startFail_keeps
    | with_reducible refine State.powerDown_steady ?_
    | with_reducible refine State.applyImage_steady ?_
    | with_reducible refine State.tryCopies_steady ?_
    | with_reducible refine State.loadKeys_steady ?_
    | with_reducible apply Steady.of State.note_keeps
    | with_reducible refine ite_steady ?_ ?_
    | simp only [steady_mk, steady_fold]
    | split

theorem State.channelsOff_steady {s : State} (hs : Steady Q s) :
    Steady Q (State.channelsOff s) := by
  unfold State.channelsOff
  repeat' first | with_reducible assumption | simp only [steady_mk, steady_fold]

theorem State.startStep5_steady {s : State} {r : StartRep} (hs : Steady Q s) :
    Steady Q (State.startStep5 s r) := by
  unfold State.startStep5
  repeat' first
    | with_reducible assumption
    | with_reducible refine State.channelsOff_steady ?_
    | with_reducible apply Steady.of State.channelNew_keeps
    | with_reducible apply Steady.of State.stepNext_keeps
    | with_reducible apply Steady.of State.startFail_keeps
    | with_reducible apply Steady.of State.bistEnd_keeps
    | with_reducible refine State.setCh_steady ?_
    | with_reducible apply Steady.of State.setLink_keeps
    | with_reducible apply Steady.of State.note_keeps
    | with_reducible refine ite_steady ?_ ?_
    | with_reducible refine foldl_steady ?_ ?_
    | simp only [steady_mk, steady_fold]
    | intro q_ _ h_
    | split

theorem State.trainOne_steady {r : StartRep} {s : State} {c : Nat} (hs : Steady Q s) :
    Steady Q (State.trainOne r s c) := by
  unfold State.trainOne
  repeat' first
    | with_reducible assumption
    | with_reducible apply Steady.of State.trainRun_keeps
    | with_reducible refine State.failChannel_steady ?_
    | with_reducible refine State.setCh_steady ?_
    | with_reducible refine ite_steady ?_ ?_

theorem State.startStep6_steady {s : State} {r : StartRep} (hs : Steady Q s) :
    Steady Q (State.startStep6 s r) := by
  unfold State.startStep6
  repeat' first
    | with_reducible assumption
    | with_reducible refine State.trainOne_steady ?_
    | with_reducible apply Steady.of State.stepNext_keeps
    | with_reducible apply Steady.of State.startFail_keeps
    | with_reducible refine ite_steady ?_ ?_
    | with_reducible refine foldl_steady ?_ ?_
    | intro q_ _ h_

theorem State.startStep11_steady {s : State} (hs : Steady Q s) :
    Steady Q (State.startStep11 s) := by
  unfold State.startStep11
  repeat' first
    | with_reducible assumption
    | with_reducible apply Steady.of State.setPwr_keeps
    | with_reducible apply Steady.of State.note_keeps
    | with_reducible refine State.setFld_steady ?_
    | simp only [steady_mk, steady_fold]

theorem State.startStep_steady {s : State} {cause : Nat} {r : StartRep} (hs : Steady Q s) :
    Steady Q (State.startStep s cause r) := by
  unfold State.startStep
  repeat' first
    | with_reducible assumption
    | with_reducible refine State.startStep11_steady ?_
    | with_reducible apply Steady.of State.setVcore_keeps
    | with_reducible apply Steady.of State.startStep10_keeps
    | with_reducible apply Steady.of State.startStep9_keeps
    | with_reducible apply Steady.of State.startStep8_keeps
    | with_reducible apply Steady.of State.startStep7_keeps
    | with_reducible refine State.startStep6_steady ?_
    | with_reducible refine State.startStep5_steady ?_
    | with_reducible refine State.startStep4_steady ?_
    | with_reducible refine State.registrarBoot_steady ?_
    | with_reducible refine State.startStep2_steady ?_
    | with_reducible apply Steady.of State.stepNext_keeps
    | with_reducible apply Steady.of State.startFail_keeps
    | with_reducible refine ite_steady ?_ ?_

theorem State.coldReset_steady {s : State} (hs : Steady Q s) : Steady Q s.coldReset := by
  have h := State.dramLose_steady (State.coreReset_steady hs)
  unfold State.coldReset
  simp only [steady_mk]
  exact ⟨h.1, h.2.1, rfl, rfl, h.2.2.2.2⟩

theorem State.pinReset_steady {s : State} {kind : Nat} (hs : Steady Q s) :
    Steady Q (State.pinReset s kind) := by
  unfold State.pinReset
  repeat' first
    | with_reducible assumption
    | with_reducible refine State.coreReset_steady ?_
    | with_reducible refine State.selfRefreshAll_steady ?_
    | with_reducible apply Steady.of State.releasePins_keeps
    | with_reducible apply Steady.of State.setPwr_keeps
    | with_reducible apply Steady.of State.bumpFld_keeps
    | with_reducible refine ite_steady ?_ ?_
    | simp only [steady_mk, steady_fold]

theorem State.registrarDown_steady {s : State} (hs : Steady Q s) : Steady Q s.registrarDown := by
  have h : Steady Q s.flashCut := Steady.of State.flashCut_keeps hs
  unfold State.registrarDown
  simp only [steady_mk]
  exact ⟨h.1, h.2.1, Tab.wf_drop _ h.2.2.1, Tab.wf_drop _ h.2.2.2.1, Tab.wf_drop _ h.2.2.2.2⟩

theorem State.registrarRestart_steady {s : State} (hs : Steady Q s) :
    Steady Q (State.registrarRestart s) := by
  unfold State.registrarRestart
  repeat' first
    | with_reducible assumption
    | with_reducible refine State.registrarDown_steady ?_
    | with_reducible apply Steady.of State.target0Done_keeps
    | with_reducible apply Steady.of State.markSuspects_keeps
    | with_reducible apply Steady.of State.cycleUp_keeps
    | with_reducible apply Steady.of State.daybookStart_keeps
    | with_reducible apply Steady.of State.bootFw_keeps
    | with_reducible apply Steady.of State.note_keeps
    | simp only [steady_mk, steady_fold]

theorem State.watchdog_steady {s : State} (hs : Steady Q s) :
    Steady Q (State.watchdog s) := by
  unfold State.watchdog
  repeat' first
    | with_reducible assumption
    | with_reducible refine State.registrarRestart_steady ?_
    | with_reducible apply Steady.of State.fallBack_keeps
    | with_reducible refine State.registrarDown_steady ?_
    | with_reducible apply Steady.of State.target0Done_keeps
    | with_reducible apply Steady.of State.fatal_keeps
    | with_reducible apply Steady.of State.note_keeps
    | with_reducible apply Steady.of State.raise_keeps
    | with_reducible apply Steady.of State.bumpFld_keeps
    | with_reducible refine ite_steady ?_ ?_
    | simp only [steady_mk, steady_fold]

theorem State.blockRegs_steady {s : State} {p : Nat → Bool} (hs : Steady Q s) : Steady Q (s.blockRegs p) := by
  unfold State.blockRegs
  simp only [steady_mk]
  exact ⟨hs.1, hs.2.1, Tab.wf_foldl _ (fun _ _ h => Tab.wf_set h) _ hs.2.2.1, Tab.wf_drop _ hs.2.2.2.1, Tab.wf_drop _ hs.2.2.2.2⟩

theorem State.blockReset_steady {s : State} {b : Nat} (hs : Steady Q s) :
    Steady Q (State.blockReset s b) := by
  unfold State.blockReset
  repeat' first
    | with_reducible assumption
    | with_reducible apply Steady.of State.blockSources_keeps
    | with_reducible refine State.blockRegs_steady ?_
    | with_reducible refine State.setSbCh_steady ?_
    | with_reducible apply Steady.of State.tvLose_keeps
    | with_reducible apply Steady.of State.ethDown_keeps
    | with_reducible apply Steady.of State.cirError_keeps
    | with_reducible apply Steady.of State.setCs_keeps
    | with_reducible refine State.kceAbort_steady ?_
    | with_reducible refine State.loadKeys_steady ?_
    | with_reducible refine ite_steady ?_ ?_
    | with_reducible refine foldl_steady ?_ ?_
    | simp only [steady_mk, steady_fold]
    | intro q_ _ h_

theorem State.brstGo_steady {s : State} {block : Nat} (hs : Steady Q s) :
    Steady Q (State.brstGo s block) := by
  unfold State.brstGo
  repeat' first
    | with_reducible assumption
    | with_reducible refine State.blockReset_steady ?_
    | with_reducible apply Steady.of State.raise_keeps
    | with_reducible apply Steady.of State.bumpFld_keeps
    | with_reducible refine State.setFld_steady ?_
    | with_reducible refine ite_steady ?_ ?_

theorem State.unlockLanes_steady {s : State} {g : Nat} (hs : Steady Q s) :
    Steady Q (State.unlockLanes s g) := by
  unfold State.unlockLanes
  repeat' first
    | with_reducible assumption
    | with_reducible refine State.setLane_steady ?_
    | with_reducible refine foldl_steady ?_ ?_
    | dsimp only
    | intro q_ _ h_

theorem State.vaultTo_steady {s : State} {dest : Dest} {cause : Nat} (hs : Steady Q s) :
    Steady Q (State.vaultTo s dest cause) := by
  unfold State.vaultTo
  repeat' first
    | with_reducible assumption
    | with_reducible refine State.powerDown_steady ?_
    | with_reducible refine State.startVault_steady ?_
    | with_reducible refine ite_steady ?_ ?_
    | simp only [steady_mk, steady_fold]

theorem State.press_steady {s : State} {kind : Nat} (hs : Steady Q s) :
    Steady Q (State.press s kind) := by
  unfold State.press
  repeat' first
    | with_reducible assumption
    | with_reducible apply Steady.of State.pressed_keeps
    | with_reducible refine State.vaultTo_steady ?_
    | with_reducible refine State.offRequest_steady ?_
    | with_reducible refine State.onRequest_steady ?_
    | with_reducible refine State.powerDown_steady ?_
    | with_reducible apply Steady.of State.handoverStart_keeps
    | with_reducible apply Steady.of State.raise_keeps
    | with_reducible apply Steady.of State.bumpFld_keeps
    | with_reducible refine ite_steady ?_ ?_
    | simp only [steady_mk, steady_fold]

theorem State.marginGo_steady {s : State} {rail dir : Nat} (hs : Steady Q s) :
    Steady Q (State.marginGo s rail dir) := by
  unfold State.marginGo
  repeat' first
    | with_reducible assumption
    | with_reducible apply Steady.of State.emit_keeps
    | with_reducible refine State.setFld_steady ?_
    | with_reducible refine ite_steady ?_ ?_

theorem State.quiesce_steady {s : State} (hs : Steady Q s) :
    Steady Q (State.quiesce s) := by
  unfold State.quiesce
  repeat' first
    | with_reducible assumption
    | with_reducible apply Steady.of State.fillsEnd_keeps
    | with_reducible apply Steady.of State.qpsError_keeps
    | with_reducible apply Steady.of State.twinIdle_keeps
    | with_reducible apply Steady.of State.ethIdle_keeps
    | with_reducible apply Steady.of State.evbDrop_keeps
    | with_reducible apply Steady.of State.tagBack_keeps
    | with_reducible refine State.selfRefreshAll_steady ?_
    | with_reducible apply Steady.of State.tvStop_keeps
    | with_reducible apply Steady.of State.dropClients_keeps
    | with_reducible apply Steady.of State.freeOwners_keeps
    | with_reducible apply Steady.of State.cirRearmAll_keeps
    | with_reducible apply Steady.of State.setPwr_keeps
    | with_reducible refine State.kceAbort_steady ?_
    | with_reducible refine foldl_steady ?_ ?_
    | simp only [steady_mk, steady_fold]
    | intro q_ _ h_

theorem State.toService_steady {s : State} (hs : Steady Q s) :
    Steady Q (State.toService s) := by
  unfold State.toService
  repeat' first
    | with_reducible assumption
    | with_reducible refine State.wake_steady ?_
    | with_reducible apply Steady.of State.setPwr_keeps
    | with_reducible apply Steady.of State.openPorts_keeps
    | with_reducible apply Steady.of State.bumpFld_keeps
    | with_reducible refine ite_steady ?_ ?_

theorem State.pwrFchg_steady {s : State} {c : Nat} (hs : Steady Q s) :
    Steady Q (State.pwrFchg s c) := by
  unfold State.pwrFchg
  repeat' first
    | with_reducible assumption
    | with_reducible refine State.fchg_steady ?_
    | with_reducible apply Steady.of State.bump_keeps

theorem State.doImageVerify_steady {s : State} {x : MbSlot} (hs : Steady Q s) :
    Steady Q (State.doImageVerify s x).1 := by
  unfold State.doImageVerify
  repeat' first
    | with_reducible assumption
    | with_reducible apply Steady.of State.setLoad_keeps
    | with_reducible apply Steady.of State.rejectCopy_keeps
    | with_reducible refine State.checkCopy_steady ?_
    | with_reducible apply Steady.of State.setSealLatch_keeps
    | with_reducible apply Steady.of State.cfgPut_keeps
    | with_reducible refine ite_steady ?_ ?_
    | simp only [steady_mk, steady_fold]
    | split

theorem State.doImageReload_steady {s : State} {x : MbSlot} (hs : Steady Q s) :
    Steady Q (State.doImageReload s x).1 := by
  unfold State.doImageReload
  repeat' first
    | with_reducible assumption
    | with_reducible refine State.applyImage_steady ?_
    | with_reducible refine State.checkCopy_steady ?_
    | with_reducible apply Steady.of State.modeWrite_keeps
    | with_reducible apply Steady.of State.note_keeps
    | simp only [steady_mk, steady_fold]
    | split

theorem State.doFwActivate_steady {s : State} {slot : Nat} (hs : Steady Q s) :
    Steady Q (State.doFwActivate s slot).1 := by
  unfold State.doFwActivate
  repeat' first
    | with_reducible assumption
    | with_reducible refine State.registrarRestart_steady ?_
    | with_reducible apply Steady.of State.fwCheck_keeps
    | with_reducible apply Steady.of State.slotDone_keeps
    | with_reducible apply Steady.of State.pointTo_keeps
    | with_reducible apply Steady.of State.note_keeps
    | simp only [steady_mk, steady_fold]
    | split

theorem State.unlockChallenge_steady {s : State} {path purpose : Nat} (hs : Steady Q s) :
    Steady Q (State.unlockChallenge s path purpose) := by
  unfold State.unlockChallenge
  repeat' first
    | with_reducible assumption
    | with_reducible refine State.setFld_steady ?_
    | with_reducible refine ite_steady ?_ ?_
    | simp only [steady_mk, steady_fold]

theorem State.unlockSubmit_steady {s : State} {path : Nat} (hs : Steady Q s) :
    Steady Q (State.unlockSubmit s path) := by
  unfold State.unlockSubmit
  repeat' first
    | with_reducible assumption
    | with_reducible refine State.unlockFail_steady ?_
    | with_reducible refine State.kceSubmit_steady ?_
    | with_reducible refine ite_steady ?_ ?_
    | simp only [steady_mk, steady_fold]
    | split

theorem State.unlockRelock_steady {s : State} (hs : Steady Q s) :
    Steady Q (State.unlockRelock s) := by
  unfold State.unlockRelock
  repeat' first | with_reducible assumption | simp only [steady_mk, steady_fold]

theorem State.provEnd_steady {s : State} {n : Nat} (hs : Steady Q s) :
    Steady Q (State.provEnd s n) := by
  unfold State.provEnd
  repeat' first | with_reducible assumption | simp only [steady_mk, steady_fold]

theorem State.provCommit_steady {s : State} (hs : Steady Q s) :
    Steady Q (State.provCommit s) := by
  unfold State.provCommit
  repeat' first
    | with_reducible assumption
    | with_reducible refine State.provEnd_steady ?_
    | with_reducible apply Steady.of State.fwCheck_keeps
    | with_reducible refine ite_steady ?_ ?_
    | simp only [steady_mk, steady_fold]
    | split

theorem State.decommission_steady {s : State} (hs : Steady Q s) :
    Steady Q (State.decommission s) := by
  unfold State.decommission
  repeat' first
    | with_reducible assumption
    | with_reducible refine State.vaultTo_steady ?_
    | with_reducible apply Steady.of State.note_keeps
    | simp only [steady_mk, steady_fold]

theorem State.submitEnd_steady {s : State} {r : Nat} (hs : Steady Q s) :
    Steady Q (State.submitEnd s r) := by
  unfold State.submitEnd
  repeat' first
    | with_reducible assumption
    | with_reducible refine State.decommission_steady ?_
    | with_reducible refine State.unlockGrant_steady ?_
    | with_reducible refine State.unlockFail_steady ?_
    | with_reducible refine ite_steady ?_ ?_
    | simp only [steady_mk, steady_fold]
    | split

theorem State.laneSet_steady {s : State} {path v : Nat} (hs : Steady Q s) :
    Steady Q (State.laneSet s path v) := by
  unfold State.laneSet
  repeat' first
    | with_reducible assumption
    | with_reducible refine State.setLane_steady ?_
    | with_reducible refine ite_steady ?_ ?_

theorem State.laneWrite_steady {s : State} {path v : Nat} (hs : Steady Q s) : Steady Q (State.laneWrite s path v) := by
  unfold State.laneWrite
  dsimp only
  split
  · exact State.laneSet_steady hs
  · exact Steady.of State.laneSend_keeps (State.laneSet_steady hs)

theorem State.setPhy_steady {s : State} {n : Nat} {tx rx : Option Nat} (hs : Steady Q s) :
    Steady Q (State.setPhy s n tx rx) := by
  unfold State.setPhy
  repeat' first | with_reducible assumption | simp only [steady_mk, steady_fold]

theorem State.dftClr_steady {s : State} (hs : Steady Q s) :
    Steady Q (State.dftClr s) := by
  unfold State.dftClr
  repeat' first | with_reducible assumption | simp only [steady_mk, steady_fold]

theorem State.laneCount_steady {s : State} {n : Nat} (hs : Steady Q s) :
    Steady Q (State.laneCount s n) := by
  unfold State.laneCount
  repeat' first
    | with_reducible assumption
    | with_reducible refine State.setLane_steady ?_
    | with_reducible apply Steady.of State.tickFree_keeps
    | with_reducible refine ite_steady ?_ ?_

theorem State.dftSnap_steady {s : State} (hs : Steady Q s) :
    Steady Q (State.dftSnap s) := by
  unfold State.dftSnap
  repeat' first
    | with_reducible assumption
    | with_reducible refine State.laneCount_steady ?_
    | with_reducible refine foldl_steady ?_ ?_
    | simp only [steady_mk, steady_fold]
    | intro q_ _ h_

theorem State.dramTest_steady {s : State} {ch mode : Nat} (hs : Steady Q s) :
    Steady Q (State.dramTest s ch mode) := by
  unfold State.dramTest
  repeat' first
    | with_reducible assumption
    | with_reducible apply Steady.of State.dram_keeps
    | with_reducible refine State.setCh_steady ?_
    | with_reducible refine ite_steady ?_ ?_
    | simp only [steady_mk, steady_fold]

theorem State.setIaddr_steady {s : State} {a path v : Nat} (hs : Steady Q s) : Steady Q (s.setIaddr a path v) :=
  iaddr_steady hs (Tab.wf_set hs.2.2.2.2)

theorem State.laneInd_steady {s : State} {x : Nat} (hs : Steady Q s) :
    Steady Q (State.laneInd s x).1 := by
  unfold State.laneInd
  repeat' first
    | with_reducible assumption
    | with_reducible refine State.setPhy_steady ?_
    | with_reducible apply Steady.of State.tickFree_keeps
    | dsimp only
    | split

theorem State.indAt_steady {s : State} {a x : Nat} (hs : Steady Q s) : Steady Q (s.indAt a x).1 := by
  unfold State.indAt
  repeat' first
    | with_reducible refine ite_fst_steady ?_ ?_
    | with_reducible exact State.laneInd_steady hs
    | with_reducible exact Steady.of State.pwrInd_keeps hs
    | with_reducible exact Steady.of State.ringRead_keeps hs
    | with_reducible exact hs

theorem State.iaddrNext_steady {s : State} {a path : Nat} (hs : Steady Q s) :
    Steady Q (State.iaddrNext s a path) := by
  unfold State.iaddrNext
  repeat' first | with_reducible assumption | with_reducible refine State.setIaddr_steady ?_

theorem State.indRead_steady {s : State} {a path : Nat} (hs : Steady Q s) :
    Steady Q (State.indRead s a path).1 := by
  unfold State.indRead
  repeat' first
    | with_reducible assumption
    | with_reducible refine State.iaddrNext_steady ?_
    | with_reducible refine State.indAt_steady ?_
    | with_reducible apply Steady.of State.secDenied_keeps
    | dsimp only
    | split

theorem State.indWrite_steady {s : State} {a path v : Nat} (hs : Steady Q s) :
    Steady Q (State.indWrite s a path v) := by
  unfold State.indWrite
  repeat' first
    | with_reducible assumption
    | with_reducible refine State.iaddrNext_steady ?_
    | with_reducible apply Steady.of State.rawWord_keeps
    | with_reducible refine State.setPhy_steady ?_
    | with_reducible apply Steady.of State.secDenied_keeps
    | with_reducible refine ite_steady ?_ ?_

theorem State.srcWrite_steady {s : State} {n : Nat} {tgtSet : Bool} {value : Nat} (hs : Steady Q s) :
    Steady Q (State.srcWrite s n tgtSet value) := by
  unfold State.srcWrite
  repeat' first
    | with_reducible assumption
    | with_reducible refine State.setFld_steady ?_
    | with_reducible refine State.setReg_steady ?_
    | with_reducible refine ite_steady ?_ ?_

theorem State.copyCounts_steady {s : State} {w : Nat} (hs : Steady Q s) : Steady Q (s.copyCounts w) :=
  sh_steady hs (Tab.wf_foldl _ (fun _ _ h => Tab.wf_set h) _ (Tab.wf_drop _ hs.2.2.2.1))

theorem State.setCopy_steady {s : State} {a : Nat} {v : W32} (hs : Steady Q s) : Steady Q (s.setCopy a v) :=
  sh_steady hs (Tab.wf_set hs.2.2.2.1)

theorem State.snap_steady {s : State} {w : Nat} (hs : Steady Q s) :
    Steady Q (State.snap s w) := by
  unfold State.snap
  repeat' first
    | with_reducible assumption
    | with_reducible refine State.setCopy_steady ?_
    | with_reducible refine State.copyCounts_steady ?_
    | with_reducible refine State.dftSnap_steady ?_
    | with_reducible apply Steady.of State.tickFree_keeps
    | with_reducible refine ite_steady ?_ ?_
    | with_reducible refine foldl_steady ?_ ?_
    | simp only [steady_mk, steady_fold]
    | intro q_ _ h_

theorem State.writeFields_steady {s : State} {path : Nat} {d : RegDef} {a v : Nat} (hs : Steady Q s) :
    Steady Q (State.writeFields s path d a v) := by
  unfold State.writeFields
  repeat' first
    | with_reducible assumption
    | with_reducible apply Steady.of State.raise_keeps
    | with_reducible apply Steady.of State.bump_keeps
    | with_reducible refine State.setReg_steady ?_
    | with_reducible refine ite_steady ?_ ?_

theorem State.fieldActs_steady {s : State} {d : RegDef} {a v old : Nat} (hs : Steady Q s) :
    Steady Q (State.fieldActs s d a v old) := by
  unfold State.fieldActs
  repeat' first
    | with_reducible assumption
    | with_reducible apply Steady.of State.portsOff_keeps
    | with_reducible apply Steady.of State.trimExit_keeps
    | with_reducible refine State.sbSync_steady ?_
    | with_reducible apply Steady.of State.modeWrite_keeps
    | with_reducible refine State.tvlDisable_steady ?_
    | with_reducible apply Steady.of State.cirAfter_keeps
    | with_reducible apply Steady.of State.stir_keeps
    | with_reducible refine ite_steady ?_ ?_
    | with_reducible refine foldl_steady ?_ ?_
    | intro q_ _ h_

theorem State.writeActs_steady {s : State} {path : Nat} {d : RegDef} {a v : Nat} (hs : Steady Q s) :
    Steady Q (State.writeActs s path d a v) := by
  unfold State.writeActs
  repeat' first
    | with_reducible assumption
    | with_reducible apply Steady.of State.swset_keeps
    | with_reducible apply Steady.of State.completeAt_keeps
    | with_reducible refine State.dramTest_steady ?_
    | with_reducible refine State.dftClr_steady ?_
    | with_reducible apply Steady.of State.laneInject_keeps
    | with_reducible refine State.laneWrite_steady ?_
    | with_reducible refine State.provCommit_steady ?_
    | with_reducible refine State.unlockRelock_steady ?_
    | with_reducible refine State.unlockSubmit_steady ?_
    | with_reducible refine State.unlockChallenge_steady ?_
    | with_reducible refine State.marginGo_steady ?_
    | with_reducible refine State.press_steady ?_
    | with_reducible refine State.brstGo_steady ?_
    | with_reducible apply Steady.of State.wdtFeed_keeps
    | with_reducible apply Steady.of State.injectArm_keeps
    | with_reducible apply Steady.of State.rawWriteCmd_keeps
    | with_reducible apply Steady.of State.rawReadCmd_keeps
    | with_reducible apply Steady.of State.ackRestart_keeps
    | with_reducible apply Steady.of State.doorbell_keeps
    | with_reducible refine ite_steady ?_ ?_
    | simp only [steady_mk, steady_fold]

theorem State.blockCmds_steady {s : State} {d : RegDef} {a v : Nat} (hs : Steady Q s) :
    Steady Q (State.blockCmds s d a v) := by
  unfold State.blockCmds
  repeat' first
    | with_reducible assumption
    | with_reducible refine State.cmd_steady ?_ ?_
    | with_reducible refine State.snap_steady ?_
    | with_reducible apply Steady.of State.stkRetrain_keeps
    | with_reducible apply Steady.of State.clrTen_keeps
    | with_reducible apply Steady.of State.lprBist_keeps
    | with_reducible apply Steady.of State.scrubNow_keeps
    | with_reducible refine State.fchg_steady ?_
    | with_reducible refine State.retrainNow_steady ?_
    | with_reducible refine State.tvlRetrain_steady ?_
    | with_reducible refine ite_steady ?_ ?_
    | intro h_

theorem State.writeReg_steady {s : State} {path addr v : Nat} (hs : Steady Q s) :
    Steady Q (State.writeReg s path addr v) := by
  unfold State.writeReg
  repeat' first
    | with_reducible assumption
    | with_reducible apply Steady.of State.slotPut_keeps
    | with_reducible refine State.blockCmds_steady ?_
    | with_reducible refine State.writeActs_steady ?_
    | with_reducible refine State.fieldActs_steady ?_
    | with_reducible refine State.writeFields_steady ?_
    | with_reducible refine State.indWrite_steady ?_
    | with_reducible refine State.setIaddr_steady ?_
    | with_reducible apply Steady.of State.countUnmapped_keeps
    | with_reducible apply Steady.of State.secDenied_keeps
    | with_reducible refine ite_steady ?_ ?_
    | simp only [steady_mk, steady_fold]
    | split

theorem State.readReg_steady {s : State} {path addr : Nat} (hs : Steady Q s) :
    Steady Q (State.readReg s path addr).1 := by
  unfold State.readReg
  repeat' first
    | with_reducible assumption
    | with_reducible apply Steady.of State.claimRead_keeps
    | with_reducible refine State.indRead_steady ?_
    | with_reducible apply Steady.of State.countUnmapped_keeps
    | with_reducible apply Steady.of State.secDenied_keeps
    | with_reducible apply Steady.of State.dbkWin_keeps
    | with_reducible refine State.setFld_steady ?_
    | with_reducible refine ite_steady ?_ ?_
    | simp only [steady_mk, steady_fold]
    | split

theorem State.dbgRead_steady {s : State} {addr : Nat} (hs : Steady Q s) :
    Steady Q (State.dbgRead s addr).1 := by
  unfold State.dbgRead
  repeat' first
    | with_reducible assumption
    | with_reducible refine State.readReg_steady ?_
    | with_reducible refine State.iaddrNext_steady ?_
    | with_reducible apply Steady.of State.secDenied_keeps
    | with_reducible refine ite_steady ?_ ?_
    | dsimp only
    | split

theorem State.dbgWrite_steady {s : State} {addr v : Nat} (hs : Steady Q s) :
    Steady Q (State.dbgWrite s addr v) := by
  unfold State.dbgWrite
  repeat' first
    | with_reducible assumption
    | with_reducible refine State.writeReg_steady ?_
    | with_reducible apply Steady.of State.secDenied_keeps
    | with_reducible refine ite_steady ?_ ?_

theorem State.pathWrite_steady {s : State} {path addr v : Nat} (hs : Steady Q s) :
    Steady Q (State.pathWrite s path addr v) := by
  unfold State.pathWrite
  repeat' first
    | with_reducible assumption
    | with_reducible refine State.dbgWrite_steady ?_
    | with_reducible refine State.writeReg_steady ?_
    | with_reducible refine ite_steady ?_ ?_

theorem State.pathRead_steady {s : State} {path addr : Nat} (hs : Steady Q s) :
    Steady Q (State.pathRead s path addr).1 := by
  unfold State.pathRead
  repeat' first
    | with_reducible assumption
    | with_reducible refine State.dbgRead_steady ?_
    | with_reducible refine State.readReg_steady ?_
    | split

theorem State.pathGet_steady {s : State} {path addr : Nat} (hs : Steady Q s) :
    Steady Q (State.pathGet s path addr) := by
  unfold State.pathGet
  repeat' first
    | with_reducible assumption
    | with_reducible refine State.pathRead_steady ?_
    | with_reducible apply Steady.of State.emit_keeps

theorem State.sbAttend_steady {s : State} {ch a : Nat} (hs : Steady Q s) :
    Steady Q (State.sbAttend s ch a) := by
  unfold State.sbAttend
  repeat' first
    | with_reducible assumption
    | with_reducible refine State.setSbCh_steady ?_
    | with_reducible apply Steady.of State.raise_keeps
    | with_reducible apply Steady.of State.emit_keeps

theorem State.sbtRefuse_steady {s : State} (hs : Steady Q s) :
    Steady Q (State.sbtRefuse s) := by
  unfold State.sbtRefuse
  repeat' first
    | with_reducible assumption
    | with_reducible apply Steady.of State.raise_keeps
    | with_reducible apply Steady.of State.bump_keeps
    | simp only [steady_mk, steady_fold]

theorem State.sbtFetch_steady {s : State} (hs : Steady Q s) :
    Steady Q (State.sbtFetch s) := by
  unfold State.sbtFetch
  repeat' first
    | with_reducible assumption
    | with_reducible refine State.sbtRefuse_steady ?_
    | with_reducible refine State.readReg_steady ?_
    | with_reducible apply Steady.of State.bumpFld_keeps
    | with_reducible refine ite_steady ?_ ?_
    | simp only [steady_mk, steady_fold]

theorem State.sbtStore_steady {s : State} {b : Nat} (hs : Steady Q s) :
    Steady Q (State.sbtStore s b) := by
  unfold State.sbtStore
  repeat' first
    | with_reducible assumption
    | with_reducible refine State.sbtRefuse_steady ?_
    | with_reducible refine State.writeReg_steady ?_
    | with_reducible apply Steady.of State.bumpFld_keeps
    | with_reducible refine ite_steady ?_ ?_
    | simp only [steady_mk, steady_fold]

theorem State.sbtAuto_steady {s : State} (hs : Steady Q s) :
    Steady Q (State.sbtAuto s) := by
  unfold State.sbtAuto
  repeat' first
    | with_reducible assumption
    | with_reducible refine ite_steady ?_ ?_
    | simp only [steady_mk, steady_fold]

theorem State.sbtAddr_steady {s : State} {k b : Nat} (hs : Steady Q s) :
    Steady Q (State.sbtAddr s k b) := by
  unfold State.sbtAddr
  repeat' first | with_reducible assumption | simp only [steady_mk, steady_fold]

theorem State.sbtPut_steady {s : State} {b : Nat} (hs : Steady Q s) :
    Steady Q (State.sbtPut s b) := by
  unfold State.sbtPut
  repeat' first
    | with_reducible assumption
    | with_reducible refine State.sbtAddr_steady ?_
    | with_reducible refine State.sbtAuto_steady ?_
    | with_reducible refine State.sbtStore_steady ?_
    | with_reducible refine ite_steady ?_ ?_
    | simp only [steady_mk, steady_fold]

theorem State.sbtByte_steady {s : State} (hs : Steady Q s) :
    Steady Q (State.sbtByte s).1 := by
  unfold State.sbtByte
  repeat' first
    | with_reducible assumption
    | with_reducible refine State.sbtAuto_steady ?_
    | with_reducible refine State.sbtFetch_steady ?_
    | dsimp only
    | split

theorem State.sbtGet_steady {s : State} {n : Nat} (hs : Steady Q s) : Steady Q (s.sbtGet n) := by
  induction n generalizing s with
  | zero => exact hs
  | succ n ih =>
    unfold State.sbtGet
    exact ih (sbb_steady (Steady.of State.emit_keeps (State.sbtByte_steady hs)))

end Sys2Proof.Machine
end

