-- ==== Sys2Proof/Laws/SteadyRows.lean ====
section
/-! SUPPORT. Each of the commands that write held state answers a next state with the queue as it was and every
store canonical. -/

namespace Sys2Proof.Machine

variable {Q : List Instr}

theorem execEthPortUp_steady {port : Nat} {s : State} (hs : Steady Q s) :
    ∃ u, execEthPortUp port s = .next u ∧ Steady Q u := by
  unfold execEthPortUp
  repeat' first
    | with_reducible assumption
    | refine finish_steady ?_
    | with_reducible apply Steady.of State.async_keeps
    | with_reducible apply Steady.of State.setEthPort_keeps
    | with_reducible refine State.laneTrained_steady ?_
    | with_reducible refine ite_steady ?_ ?_
    | simp only [steady_mk, steady_fold]

theorem execEqualisationDone_steady {lk pol : Nat} {s : State} (hs : Steady Q s) :
    ∃ u, execEqualisationDone lk pol s = .next u ∧ Steady Q u := by
  unfold execEqualisationDone
  repeat' first
    | with_reducible assumption
    | refine finish_steady ?_
    | with_reducible apply Steady.of State.fecStart_keeps
    | with_reducible apply Steady.of State.setTvl_keeps
    | with_reducible refine State.laneTrained_steady ?_
    | with_reducible refine ite_steady ?_ ?_

theorem execTvlDisable_steady {port : Nat} {s : State} (hs : Steady Q s) :
    ∃ u, execTvlDisable port s = .next u ∧ Steady Q u := by
  unfold execTvlDisable
  repeat' first
    | with_reducible assumption
    | refine finish_steady ?_
    | with_reducible refine State.tvlDisable_steady ?_

theorem execTvlRetrain_steady {port half : Nat} {s : State} (hs : Steady Q s) :
    ∃ u, execTvlRetrain port half s = .next u ∧ Steady Q u := by
  unfold execTvlRetrain
  repeat' first
    | with_reducible assumption
    | refine finish_steady ?_
    | with_reducible refine State.tvlRetrain_steady ?_

theorem execTempPollMr4_steady {ch : Nat} {temps : List Nat} {s : State} (hs : Steady Q s) :
    ∃ u, execTempPollMr4 ch temps s = .next u ∧ Steady Q u := by
  unfold execTempPollMr4
  repeat' first
    | with_reducible assumption
    | refine finish_steady ?_
    | with_reducible refine State.judgeTemp_steady ?_
    | with_reducible refine State.setCh_steady ?_
    | with_reducible refine ite_steady ?_ ?_

theorem execTempPollSpd_steady {ch : Nat} {temps : List Nat} {s : State} (hs : Steady Q s) :
    ∃ u, execTempPollSpd ch temps s = .next u ∧ Steady Q u := by
  unfold execTempPollSpd
  repeat' first
    | with_reducible assumption
    | refine finish_steady ?_
    | with_reducible refine State.judgeTemp_steady ?_
    | with_reducible refine State.setCh_steady ?_
    | with_reducible refine ite_steady ?_ ?_

theorem execParityAlert_steady {ch : Nat} {replay : Bool} {s : State} (hs : Steady Q s) :
    ∃ u, execParityAlert ch replay s = .next u ∧ Steady Q u := by
  unfold execParityAlert
  repeat' first
    | with_reducible assumption
    | refine finish_steady ?_
    | with_reducible refine State.replayDone_steady ?_
    | with_reducible refine State.failChannel_steady ?_
    | with_reducible refine State.setCh_steady ?_
    | with_reducible apply Steady.of State.bumpFld_keeps
    | with_reducible refine ite_steady ?_ ?_

theorem execAlertNHigh_steady {ch : Nat} {s : State} (hs : Steady Q s) :
    ∃ u, execAlertNHigh ch s = .next u ∧ Steady Q u := by
  unfold execAlertNHigh
  repeat' first
    | with_reducible assumption
    | refine finish_steady ?_
    | with_reducible apply Steady.of State.reissue_keeps
    | with_reducible refine State.setCh_steady ?_
    | with_reducible apply Steady.of State.emit_keeps
    | with_reducible refine ite_steady ?_ ?_
    | with_reducible refine foldl_steady ?_ ?_
    | intro q_ _ h_

theorem execParityAlertTimeout_steady {ch : Nat} {s : State} (hs : Steady Q s) :
    ∃ u, execParityAlertTimeout ch s = .next u ∧ Steady Q u := by
  unfold execParityAlertTimeout
  repeat' first
    | with_reducible assumption
    | refine finish_steady ?_
    | with_reducible refine State.failChannel_steady ?_
    | with_reducible refine ite_steady ?_ ?_

theorem execRetrainPause_steady {ch rank lane margin : Nat} {s : State} (hs : Steady Q s) :
    ∃ u, execRetrainPause ch rank lane margin s = .next u ∧ Steady Q u := by
  unfold execRetrainPause
  repeat' first
    | with_reducible assumption
    | refine finish_steady ?_
    | with_reducible apply Steady.of State.dramRanks_keeps
    | with_reducible refine State.setCh_steady ?_
    | with_reducible apply Steady.of State.note_keeps
    | with_reducible apply Steady.of State.raise_keeps
    | with_reducible apply Steady.of State.emit_keeps
    | with_reducible refine ite_steady ?_ ?_

theorem execRetrainNow_steady {ch : Nat} {s : State} (hs : Steady Q s) :
    ∃ u, execRetrainNow ch s = .next u ∧ Steady Q u := by
  unfold execRetrainNow
  repeat' first
    | with_reducible assumption
    | refine finish_steady ?_
    | with_reducible refine State.retrainNow_steady ?_

theorem execFchg_steady {ch : Nat} {s : State} (hs : Steady Q s) :
    ∃ u, execFchg ch s = .next u ∧ Steady Q u := by
  unfold execFchg
  repeat' first | with_reducible assumption | refine finish_steady ?_ | with_reducible refine State.fchg_steady ?_

theorem execFchgComplete_steady {ch : Nat} {good : Bool} {s : State} (hs : Steady Q s) :
    ∃ u, execFchgComplete ch good s = .next u ∧ Steady Q u := by
  unfold execFchgComplete
  repeat' first
    | with_reducible assumption
    | refine finish_steady ?_
    | with_reducible refine State.failChannel_steady ?_
    | with_reducible apply Steady.of State.dramRanks_keeps
    | with_reducible apply Steady.of State.dram_keeps
    | with_reducible refine State.setCh_steady ?_
    | with_reducible apply Steady.of State.raise_keeps
    | with_reducible refine ite_steady ?_ ?_

theorem execDbkWin15Read_steady {s : State} (hs : Steady Q s) :
    ∃ u, execDbkWin15Read s = .next u ∧ Steady Q u := by
  unfold execDbkWin15Read
  repeat' first
    | with_reducible assumption
    | refine finish_steady ?_
    | with_reducible apply Steady.of State.dbkWin_keeps
    | with_reducible apply Steady.of State.emit_keeps
    | with_reducible refine State.setFld_steady ?_
    | with_reducible refine ite_steady ?_ ?_

theorem execStkLinkTrained_steady {link : Nat} {s : State} (hs : Steady Q s) :
    ∃ u, execStkLinkTrained link s = .next u ∧ Steady Q u := by
  unfold execStkLinkTrained
  repeat' first
    | with_reducible assumption
    | refine finish_steady ?_
    | with_reducible apply Steady.of State.stkSend_keeps
    | with_reducible refine State.laneTrained_steady ?_
    | with_reducible apply Steady.of State.setLink_keeps
    | with_reducible refine ite_steady ?_ ?_

theorem execColdReset_steady {s : State} (hs : Steady Q s) :
    ∃ u, execColdReset s = .next u ∧ Steady Q u := by
  unfold execColdReset
  repeat' first
    | with_reducible assumption
    | refine finish_steady ?_
    | with_reducible refine State.coldReset_steady ?_
    | with_reducible refine State.onRequest_steady ?_
    | with_reducible refine State.readSupply_steady ?_
    | with_reducible refine ite_steady ?_ ?_

theorem execVddAonLoss_steady {s : State} (hs : Steady Q s) :
    ∃ u, execVddAonLoss s = .next u ∧ Steady Q u := by
  unfold execVddAonLoss
  repeat' first
    | with_reducible assumption
    | refine finish_steady ?_
    | with_reducible refine State.coldReset_steady ?_
    | simp only [steady_mk, steady_fold]

theorem execResetNAssert_steady {s : State} (hs : Steady Q s) :
    ∃ u, execResetNAssert s = .next u ∧ Steady Q u := by
  unfold execResetNAssert
  repeat' first
    | with_reducible assumption
    | refine finish_steady ?_
    | with_reducible apply Steady.of State.pinIgnored_keeps
    | with_reducible refine State.pinReset_steady ?_
    | with_reducible apply Steady.of State.releasePins_keeps
    | with_reducible refine ite_steady ?_ ?_
    | simp only [steady_mk, steady_fold]

theorem execStartUp_steady {dimm : Bool} {s : State} (hs : Steady Q s) :
    ∃ u, execStartUp dimm s = .next u ∧ Steady Q u := by
  unfold execStartUp
  repeat' first
    | with_reducible assumption
    | refine finish_steady ?_
    | with_reducible refine State.startBegin_steady ?_
    | with_reducible refine ite_steady ?_ ?_

theorem execStartStepDone_steady {cause : Nat} {rep : StartRep} {s : State} (hs : Steady Q s) :
    ∃ u, execStartStepDone cause rep s = .next u ∧ Steady Q u := by
  unfold execStartStepDone
  repeat' first
    | with_reducible assumption
    | refine finish_steady ?_
    | with_reducible refine State.startStep_steady ?_

theorem execWatchdogExpiry_steady {s : State} (hs : Steady Q s) :
    ∃ u, execWatchdogExpiry s = .next u ∧ Steady Q u := by
  unfold execWatchdogExpiry
  repeat' first
    | with_reducible assumption
    | refine finish_steady ?_
    | with_reducible refine State.watchdog_steady ?_
    | with_reducible refine ite_steady ?_ ?_

theorem execBlockReset_steady {block : Nat} {s : State} (hs : Steady Q s) :
    ∃ u, execBlockReset block s = .next u ∧ Steady Q u := by
  unfold execBlockReset
  repeat' first | with_reducible assumption | refine finish_steady ?_ | with_reducible refine State.brstGo_steady ?_

theorem execRefClockLost_steady {group : Nat} {s : State} (hs : Steady Q s) :
    ∃ u, execRefClockLost group s = .next u ∧ Steady Q u := by
  unfold execRefClockLost
  repeat' first
    | with_reducible assumption
    | refine finish_steady ?_
    | with_reducible refine State.unlockLanes_steady ?_
    | with_reducible apply Steady.of State.clockNote_keeps
    | with_reducible apply Steady.of State.ethDown_keeps
    | with_reducible apply Steady.of State.emit_keeps
    | with_reducible apply Steady.of State.bump_keeps
    | with_reducible refine ite_steady ?_ ?_
    | with_reducible refine foldl_steady ?_ ?_
    | simp only [steady_mk, steady_fold]
    | intro q_ _ h_

theorem execCorePllUnlock_steady {pll : Nat} {s : State} (hs : Steady Q s) :
    ∃ u, execCorePllUnlock pll s = .next u ∧ Steady Q u := by
  unfold execCorePllUnlock
  repeat' first
    | with_reducible assumption
    | refine finish_steady ?_
    | with_reducible apply Steady.of State.clockNote_keeps
    | with_reducible apply Steady.of State.pinRelease_keeps
    | with_reducible refine State.pinReset_steady ?_
    | with_reducible apply Steady.of State.fatal_keeps
    | with_reducible apply Steady.of State.bump_keeps
    | with_reducible refine ite_steady ?_ ?_

theorem execXtalStopped_steady {s : State} (hs : Steady Q s) :
    ∃ u, execXtalStopped s = .next u ∧ Steady Q u := by
  unfold execXtalStopped
  repeat' first
    | with_reducible assumption
    | refine finish_steady ?_
    | with_reducible refine State.pinReset_steady ?_
    | with_reducible apply Steady.of State.releasePins_keeps
    | with_reducible refine ite_steady ?_ ?_
    | simp only [steady_mk, steady_fold]

theorem execOnRequest_steady {s : State} (hs : Steady Q s) :
    ∃ u, execOnRequest s = .next u ∧ Steady Q u := by
  unfold execOnRequest
  repeat' first
    | with_reducible assumption
    | refine finish_steady ?_
    | with_reducible refine State.onRequest_steady ?_

theorem execOffRequest_steady {s : State} (hs : Steady Q s) :
    ∃ u, execOffRequest s = .next u ∧ Steady Q u := by
  unfold execOffRequest
  repeat' first
    | with_reducible assumption
    | refine finish_steady ?_
    | with_reducible refine State.offRequest_steady ?_

theorem execOffWaitExpiry_steady {s : State} (hs : Steady Q s) :
    ∃ u, execOffWaitExpiry s = .next u ∧ Steady Q u := by
  unfold execOffWaitExpiry
  repeat' first
    | with_reducible assumption
    | refine finish_steady ?_
    | with_reducible refine State.onRequest_steady ?_
    | with_reducible refine ite_steady ?_ ?_
    | simp only [steady_mk, steady_fold]

theorem execVaultRestartTimer_steady {s : State} (hs : Steady Q s) :
    ∃ u, execVaultRestartTimer s = .next u ∧ Steady Q u := by
  unfold execVaultRestartTimer
  repeat' first
    | with_reducible assumption
    | refine finish_steady ?_
    | with_reducible refine State.onRequest_steady ?_
    | with_reducible refine ite_steady ?_ ?_

theorem execRailEnableTick_steady {rail : Nat} {s : State} (hs : Steady Q s) :
    ∃ u, execRailEnableTick rail s = .next u ∧ Steady Q u := by
  unfold execRailEnableTick
  repeat' first
    | with_reducible assumption
    | refine finish_steady ?_
    | with_reducible refine State.setRail_steady ?_
    | with_reducible refine ite_steady ?_ ?_

theorem execRailPgRise_steady {rail : Nat} {s : State} (hs : Steady Q s) :
    ∃ u, execRailPgRise rail s = .next u ∧ Steady Q u := by
  unfold execRailPgRise
  repeat' first
    | with_reducible assumption
    | refine finish_steady ?_
    | with_reducible refine State.upCheck_steady ?_
    | with_reducible refine State.setRail_steady ?_
    | with_reducible refine ite_steady ?_ ?_

theorem execRailPgTimeout_steady {rail : Nat} {s : State} (hs : Steady Q s) :
    ∃ u, execRailPgTimeout rail s = .next u ∧ Steady Q u := by
  unfold execRailPgTimeout
  repeat' first
    | with_reducible assumption
    | refine finish_steady ?_
    | with_reducible refine State.railFails_steady ?_
    | with_reducible refine ite_steady ?_ ?_

theorem execRailPgDrop_steady {rail : Nat} {s : State} (hs : Steady Q s) :
    ∃ u, execRailPgDrop rail s = .next u ∧ Steady Q u := by
  unfold execRailPgDrop
  repeat' first
    | with_reducible assumption
    | refine finish_steady ?_
    | with_reducible refine State.railFails_steady ?_
    | with_reducible refine State.setRail_steady ?_
    | with_reducible refine ite_steady ?_ ?_

theorem execRailDisableTick_steady {rail : Nat} {s : State} (hs : Steady Q s) :
    ∃ u, execRailDisableTick rail s = .next u ∧ Steady Q u := by
  unfold execRailDisableTick
  repeat' first
    | with_reducible assumption
    | refine finish_steady ?_
    | with_reducible refine State.downCheck_steady ?_
    | with_reducible refine State.setRail_steady ?_
    | with_reducible refine ite_steady ?_ ?_

theorem execRailPgFall_steady {rail : Nat} {s : State} (hs : Steady Q s) :
    ∃ u, execRailPgFall rail s = .next u ∧ Steady Q u := by
  unfold execRailPgFall
  repeat' first
    | with_reducible assumption
    | refine finish_steady ?_
    | with_reducible refine State.downCheck_steady ?_
    | with_reducible refine State.setRail_steady ?_
    | with_reducible refine ite_steady ?_ ?_

theorem execDischargeTimeout_steady {rail : Nat} {s : State} (hs : Steady Q s) :
    ∃ u, execDischargeTimeout rail s = .next u ∧ Steady Q u := by
  unfold execDischargeTimeout
  repeat' first
    | with_reducible assumption
    | refine finish_steady ?_
    | with_reducible refine State.downCheck_steady ?_
    | with_reducible apply Steady.of State.snapshot_keeps
    | with_reducible refine State.setRail_steady ?_
    | with_reducible apply Steady.of State.note_keeps
    | with_reducible apply Steady.of State.bumpFld_keeps
    | with_reducible refine ite_steady ?_ ?_
    | simp only [steady_mk, steady_fold]
    | split

theorem execHoldupAlert_steady {lowNs : Nat} {s : State} (hs : Steady Q s) :
    ∃ u, execHoldupAlert lowNs s = .next u ∧ Steady Q u := by
  unfold execHoldupAlert
  repeat' first
    | with_reducible assumption
    | refine finish_steady ?_
    | with_reducible refine State.offRequest_steady ?_
    | with_reducible refine State.startVault_steady ?_
    | with_reducible apply Steady.of State.note_keeps
    | with_reducible refine ite_steady ?_ ?_
    | simp only [steady_mk, steady_fold]

theorem execVaultFinish_steady {s : State} (hs : Steady Q s) :
    ∃ u, execVaultFinish s = .next u ∧ Steady Q u := by
  unfold execVaultFinish
  repeat' first
    | with_reducible assumption
    | refine finish_steady ?_
    | with_reducible refine State.powerDown_steady ?_
    | with_reducible refine State.selfRefreshAll_steady ?_
    | with_reducible apply Steady.of State.note_keeps
    | with_reducible apply Steady.of State.bump_keeps
    | with_reducible refine ite_steady ?_ ?_
    | simp only [steady_mk, steady_fold]

theorem execButtonShortPress_steady {s : State} (hs : Steady Q s) :
    ∃ u, execButtonShortPress s = .next u ∧ Steady Q u := by
  unfold execButtonShortPress
  repeat' first | with_reducible assumption | refine finish_steady ?_ | with_reducible refine State.press_steady ?_

theorem execButtonLongPress_steady {s : State} (hs : Steady Q s) :
    ∃ u, execButtonLongPress s = .next u ∧ Steady Q u := by
  unfold execButtonLongPress
  repeat' first | with_reducible assumption | refine finish_steady ?_ | with_reducible refine State.press_steady ?_

theorem execButtonVeryLongPress_steady {s : State} (hs : Steady Q s) :
    ∃ u, execButtonVeryLongPress s = .next u ∧ Steady Q u := by
  unfold execButtonVeryLongPress
  repeat' first | with_reducible assumption | refine finish_steady ?_ | with_reducible refine State.press_steady ?_

theorem execVbtnShort_steady {s : State} (hs : Steady Q s) :
    ∃ u, execVbtnShort s = .next u ∧ Steady Q u := by
  unfold execVbtnShort
  repeat' first | with_reducible assumption | refine finish_steady ?_ | with_reducible refine State.press_steady ?_

theorem execVbtnLong_steady {s : State} (hs : Steady Q s) :
    ∃ u, execVbtnLong s = .next u ∧ Steady Q u := by
  unfold execVbtnLong
  repeat' first | with_reducible assumption | refine finish_steady ?_ | with_reducible refine State.press_steady ?_

theorem execVbtnVeryLong_steady {s : State} (hs : Steady Q s) :
    ∃ u, execVbtnVeryLong s = .next u ∧ Steady Q u := by
  unfold execVbtnVeryLong
  repeat' first | with_reducible assumption | refine finish_steady ?_ | with_reducible refine State.press_steady ?_

theorem execMonitorSample_steady {ch value : Nat} {s : State} (hs : Steady Q s) :
    ∃ u, execMonitorSample ch value s = .next u ∧ Steady Q u := by
  unfold execMonitorSample
  repeat' first
    | with_reducible assumption
    | refine finish_steady ?_
    | with_reducible apply Steady.of State.snapshot_keeps
    | with_reducible refine State.setMon_steady ?_
    | with_reducible apply Steady.of State.raise_keeps
    | with_reducible refine ite_steady ?_ ?_

theorem execMonitorRefCheck_steady {ch : Nat} {dev : Int} {s : State} (hs : Steady Q s) :
    ∃ u, execMonitorRefCheck ch dev s = .next u ∧ Steady Q u := by
  unfold execMonitorRefCheck
  repeat' first
    | with_reducible assumption
    | refine finish_steady ?_
    | with_reducible refine State.setMon_steady ?_
    | with_reducible apply Steady.of State.raise_keeps
    | with_reducible refine ite_steady ?_ ?_

theorem execMarginGo_steady {rail dir : Nat} {s : State} (hs : Steady Q s) :
    ∃ u, execMarginGo rail dir s = .next u ∧ Steady Q u := by
  unfold execMarginGo
  repeat' first | with_reducible assumption | refine finish_steady ?_ | with_reducible refine State.marginGo_steady ?_

theorem execPwrStateService_steady {slot : Nat} {s : State} (hs : Steady Q s) :
    ∃ u, execPwrStateService slot s = .next u ∧ Steady Q u := by
  unfold execPwrStateService
  repeat' first
    | with_reducible assumption
    | refine finish_steady ?_
    | with_reducible refine State.toService_steady ?_
    | with_reducible refine State.pwrService_steady ?_ ?_
    | dsimp only
    | intro q_ h_

theorem execPwrStateQuiesce_steady {slot : Nat} {s : State} (hs : Steady Q s) :
    ∃ u, execPwrStateQuiesce slot s = .next u ∧ Steady Q u := by
  unfold execPwrStateQuiesce
  repeat' first
    | with_reducible assumption
    | refine finish_steady ?_
    | with_reducible refine State.pwrService_steady ?_ ?_
    | with_reducible refine State.quiesce_steady ?_
    | intro q_ h_
    | split

theorem execPwrStateStandby_steady {slot : Nat} {s : State} (hs : Steady Q s) :
    ∃ u, execPwrStateStandby slot s = .next u ∧ Steady Q u := by
  unfold execPwrStateStandby
  repeat' first
    | with_reducible assumption
    | refine finish_steady ?_
    | with_reducible apply Steady.of State.checkpoint_keeps
    | with_reducible refine State.pwrService_steady ?_ ?_
    | with_reducible refine State.vaultTo_steady ?_
    | with_reducible apply Steady.of State.setting_keeps
    | intro q_ h_
    | split

theorem execPwrStateOff_steady {slot : Nat} {s : State} (hs : Steady Q s) :
    ∃ u, execPwrStateOff slot s = .next u ∧ Steady Q u := by
  unfold execPwrStateOff
  repeat' first
    | with_reducible assumption
    | refine finish_steady ?_
    | with_reducible refine State.pwrService_steady ?_ ?_
    | with_reducible refine State.vaultTo_steady ?_
    | dsimp only
    | intro q_ h_

theorem execTrimFchgTick_steady {s : State} (hs : Steady Q s) :
    ∃ u, execTrimFchgTick s = .next u ∧ Steady Q u := by
  unfold execTrimFchgTick
  repeat' first
    | with_reducible assumption
    | refine finish_steady ?_
    | with_reducible refine State.pwrFchg_steady ?_
    | with_reducible refine ite_steady ?_ ?_
    | simp only [steady_mk, steady_fold]
    | split

theorem execImageVerify_steady {slot : Nat} {s : State} (hs : Steady Q s) :
    ∃ u, execImageVerify slot s = .next u ∧ Steady Q u := by
  unfold execImageVerify
  repeat' first
    | with_reducible assumption
    | refine finish_steady ?_
    | with_reducible refine State.doImageVerify_steady ?_
    | with_reducible refine State.serve_steady ?_ ?_
    | intro q_ _ h_

theorem execImageReload_steady {slot : Nat} {s : State} (hs : Steady Q s) :
    ∃ u, execImageReload slot s = .next u ∧ Steady Q u := by
  unfold execImageReload
  repeat' first
    | with_reducible assumption
    | refine finish_steady ?_
    | with_reducible refine State.doImageReload_steady ?_
    | with_reducible refine State.serve_steady ?_ ?_
    | intro q_ _ h_

theorem execFwActivate_steady {slot : Nat} {s : State} (hs : Steady Q s) :
    ∃ u, execFwActivate slot s = .next u ∧ Steady Q u := by
  unfold execFwActivate
  repeat' first
    | with_reducible assumption
    | refine finish_steady ?_
    | with_reducible refine State.doFwActivate_steady ?_
    | with_reducible refine State.serve_steady ?_ ?_
    | intro q_ _ h_

theorem execUnlockChallenge_steady {path purpose : Nat} {s : State} (hs : Steady Q s) :
    ∃ u, execUnlockChallenge path purpose s = .next u ∧ Steady Q u := by
  unfold execUnlockChallenge
  repeat' first
    | with_reducible assumption
    | refine finish_steady ?_
    | with_reducible refine State.unlockChallenge_steady ?_
    | with_reducible refine ite_steady ?_ ?_

theorem execUnlockSubmit_steady {path : Nat} {s : State} (hs : Steady Q s) :
    ∃ u, execUnlockSubmit path s = .next u ∧ Steady Q u := by
  unfold execUnlockSubmit
  repeat' first
    | with_reducible assumption
    | refine finish_steady ?_
    | with_reducible refine State.unlockSubmit_steady ?_
    | with_reducible refine ite_steady ?_ ?_

theorem execUnlockRelock_steady {path : Nat} {s : State} (hs : Steady Q s) :
    ∃ u, execUnlockRelock path s = .next u ∧ Steady Q u := by
  unfold execUnlockRelock
  repeat' first
    | with_reducible assumption
    | refine finish_steady ?_
    | with_reducible refine State.unlockRelock_steady ?_
    | with_reducible refine ite_steady ?_ ?_

theorem execChallengeExpiry_steady {s : State} (hs : Steady Q s) :
    ∃ u, execChallengeExpiry s = .next u ∧ Steady Q u := by
  unfold execChallengeExpiry
  repeat' first | with_reducible assumption | refine finish_steady ?_ | simp only [steady_mk, steady_fold]

theorem execProvisionCommit_steady {s : State} (hs : Steady Q s) :
    ∃ u, execProvisionCommit s = .next u ∧ Steady Q u := by
  unfold execProvisionCommit
  repeat' first
    | with_reducible assumption
    | refine finish_steady ?_
    | with_reducible refine State.provCommit_steady ?_
    | with_reducible refine ite_steady ?_ ?_

theorem execFuseBurnDone_steady {good : Bool} {s : State} (hs : Steady Q s) :
    ∃ u, execFuseBurnDone good s = .next u ∧ Steady Q u := by
  unfold execFuseBurnDone
  repeat' first
    | with_reducible assumption
    | refine finish_steady ?_
    | with_reducible refine State.provEnd_steady ?_
    | with_reducible refine State.powerDown_steady ?_
    | with_reducible apply Steady.of State.cfgErase_keeps
    | with_reducible apply Steady.of State.note_keeps
    | with_reducible refine ite_steady ?_ ?_
    | simp only [steady_mk, steady_fold]
    | split

theorem execKceRequest_steady {who slot use : Nat} {msg mac : List Byte} {s : State} (hs : Steady Q s) :
    ∃ u, execKceRequest who slot use msg mac s = .next u ∧ Steady Q u := by
  unfold execKceRequest
  repeat' first
    | with_reducible assumption
    | refine finish_steady ?_
    | with_reducible refine State.kceSubmit_steady ?_
    | with_reducible refine ite_steady ?_ ?_
    | simp only [steady_mk, steady_fold]

theorem execKceRequestDone_steady {s : State} (hs : Steady Q s) :
    ∃ u, execKceRequestDone s = .next u ∧ Steady Q u := by
  unfold execKceRequestDone
  repeat' first
    | with_reducible assumption
    | refine finish_steady ?_
    | with_reducible refine State.submitEnd_steady ?_
    | with_reducible refine State.kceStart_steady ?_
    | with_reducible apply Steady.of State.kceCount_keeps
    | with_reducible refine ite_steady ?_ ?_
    | simp only [steady_mk, steady_fold]
    | split

theorem execIntSrcWrite_steady {n : Nat} {tgtSet : Bool} {value : Nat} {s : State} (hs : Steady Q s) :
    ∃ u, execIntSrcWrite n tgtSet value s = .next u ∧ Steady Q u := by
  unfold execIntSrcWrite
  repeat' first | with_reducible assumption | refine finish_steady ?_ | with_reducible refine State.srcWrite_steady ?_

theorem execRegisterWrite_steady {path be addr value : Nat} {s : State} (hs : Steady Q s) :
    ∃ u, execRegisterWrite path be addr value s = .next u ∧ Steady Q u := by
  unfold execRegisterWrite
  repeat' first
    | with_reducible assumption
    | refine finish_steady ?_
    | with_reducible refine State.pathWrite_steady ?_
    | with_reducible apply Steady.of State.bumpFld_keeps
    | with_reducible refine ite_steady ?_ ?_

theorem execUnmappedAccess_steady {path window offset : Nat} {write : Bool} {s : State} (hs : Steady Q s) :
    ∃ u, execUnmappedAccess path window offset write s = .next u ∧ Steady Q u := by
  unfold execUnmappedAccess
  repeat' first
    | with_reducible assumption
    | refine finish_steady ?_
    | with_reducible refine State.pathGet_steady ?_
    | with_reducible refine State.pathWrite_steady ?_
    | with_reducible refine ite_steady ?_ ?_

theorem execIdataAccess_steady {path iaddr : Nat} {write : Bool} {value : Nat} {s : State} (hs : Steady Q s) :
    ∃ u, execIdataAccess path iaddr write value s = .next u ∧ Steady Q u := by
  unfold execIdataAccess
  repeat' first
    | with_reducible assumption
    | refine finish_steady ?_
    | with_reducible refine State.pathGet_steady ?_
    | with_reducible refine State.pathWrite_steady ?_
    | with_reducible refine ite_steady ?_ ?_

theorem execCounterSnap_steady {path window : Nat} {s : State} (hs : Steady Q s) :
    ∃ u, execCounterSnap path window s = .next u ∧ Steady Q u := by
  unfold execCounterSnap
  repeat' first
    | with_reducible assumption
    | refine finish_steady ?_
    | with_reducible refine State.pathWrite_steady ?_
    | with_reducible refine ite_steady ?_ ?_

theorem execLaneTestSet_steady {path value : Nat} {s : State} (hs : Steady Q s) :
    ∃ u, execLaneTestSet path value s = .next u ∧ Steady Q u := by
  unfold execLaneTestSet
  repeat' first
    | with_reducible assumption
    | refine finish_steady ?_
    | with_reducible refine State.dftCmd_steady ?_ ?_
    | with_reducible refine State.laneWrite_steady ?_
    | intro q_ h_

theorem execDftClr_steady {path : Nat} {s : State} (hs : Steady Q s) :
    ∃ u, execDftClr path s = .next u ∧ Steady Q u := by
  unfold execDftClr
  repeat' first
    | with_reducible assumption
    | refine finish_steady ?_
    | with_reducible refine State.dftCmd_steady ?_ ?_
    | with_reducible refine State.dftClr_steady ?_
    | intro q_ h_

theorem execDramBusTest_steady {path ch mode : Nat} {s : State} (hs : Steady Q s) :
    ∃ u, execDramBusTest path ch mode s = .next u ∧ Steady Q u := by
  unfold execDramBusTest
  repeat' first
    | with_reducible assumption
    | refine finish_steady ?_
    | with_reducible refine State.dftCmd_steady ?_ ?_
    | with_reducible refine State.dramTest_steady ?_
    | with_reducible refine State.setFld_steady ?_
    | intro q_ h_

theorem execDramBusTestDone_steady {missed falseAlerts : Nat} {errs : List Nat} {s : State} (hs : Steady Q s) :
    ∃ u, execDramBusTestDone missed falseAlerts errs s = .next u ∧ Steady Q u := by
  unfold execDramBusTestDone
  repeat' first
    | with_reducible assumption
    | refine finish_steady ?_
    | with_reducible refine State.setCh_steady ?_
    | with_reducible refine ite_steady ?_ ?_
    | simp only [steady_mk, steady_fold]
    | split

theorem execJtagInstruction_steady {op : JtagOp} {s : State} (hs : Steady Q s) :
    ∃ u, execJtagInstruction op s = .next u ∧ Steady Q u := by
  unfold execJtagInstruction
  repeat' first
    | with_reducible assumption
    | refine finish_steady ?_
    | with_reducible apply Steady.of State.emit_keeps
    | simp only [steady_mk, steady_fold]

theorem execDbgAccess_steady {write : Bool} {addr value : Nat} {s : State} (hs : Steady Q s) :
    ∃ u, execDbgAccess write addr value s = .next u ∧ Steady Q u := by
  unfold execDbgAccess
  repeat' first
    | with_reducible assumption
    | refine finish_steady ?_
    | with_reducible refine State.pathGet_steady ?_
    | with_reducible refine State.dbgWrite_steady ?_
    | with_reducible refine ite_steady ?_ ?_
    | simp only [steady_mk, steady_fold]

theorem execCheckerLock_steady {lane : Nat} {inverted : Bool} {s : State} (hs : Steady Q s) :
    ∃ u, execCheckerLock lane inverted s = .next u ∧ Steady Q u := by
  unfold execCheckerLock
  repeat' first
    | with_reducible assumption
    | refine finish_steady ?_
    | with_reducible refine State.setLane_steady ?_
    | with_reducible refine ite_steady ?_ ?_

theorem execCheckerLockLoss_steady {lane bits errs : Nat} {s : State} (hs : Steady Q s) :
    ∃ u, execCheckerLockLoss lane bits errs s = .next u ∧ Steady Q u := by
  unfold execCheckerLockLoss
  repeat' first
    | with_reducible assumption
    | refine finish_steady ?_
    | with_reducible refine State.setLane_steady ?_
    | with_reducible refine ite_steady ?_ ?_

theorem execSbTransaction_steady {ch addr : Nat} {bytes : List Byte} {lost : Nat} {ack pecOk hang : Bool}
    {s : State} (hs : Steady Q s) :
    ∃ u, execSbTransaction ch addr bytes lost ack pecOk hang s = .next u ∧ Steady Q u := by
  unfold execSbTransaction
  repeat' first
    | with_reducible assumption
    | refine finish_steady ?_
    | with_reducible refine State.sbPump_steady ?_
    | with_reducible refine State.sbEnd_steady ?_
    | with_reducible refine State.setSbCh_steady ?_
    | with_reducible refine ite_steady ?_ ?_

theorem execSbIdleCheck_steady {ch : Nat} {scl sda : Bool} {readings : List Bool} {s : State} (hs : Steady Q s) :
    ∃ u, execSbIdleCheck ch scl sda readings s = .next u ∧ Steady Q u := by
  unfold execSbIdleCheck
  repeat' first
    | with_reducible assumption
    | refine finish_steady ?_
    | with_reducible refine State.sbCheck_steady ?_
    | with_reducible refine ite_steady ?_ ?_

theorem execSbStuckRetry_steady {ch : Nat} {scl sda : Bool} {readings : List Bool} {s : State} (hs : Steady Q s) :
    ∃ u, execSbStuckRetry ch scl sda readings s = .next u ∧ Steady Q u := by
  unfold execSbStuckRetry
  repeat' first
    | with_reducible assumption
    | refine finish_steady ?_
    | with_reducible refine State.sbCheck_steady ?_
    | with_reducible refine ite_steady ?_ ?_

theorem execSbAttention_steady {ch : Nat} {addrs : List Nat} {s : State} (hs : Steady Q s) :
    ∃ u, execSbAttention ch addrs s = .next u ∧ Steady Q u := by
  unfold execSbAttention
  repeat' first
    | with_reducible assumption
    | refine finish_steady ?_
    | with_reducible refine State.sbAttend_steady ?_
    | with_reducible apply Steady.of State.emit_keeps
    | with_reducible apply Steady.of State.bumpFld_keeps
    | with_reducible refine ite_steady ?_ ?_
    | with_reducible refine foldl_steady ?_ ?_
    | intro q_ _ h_

theorem execSbTimeout_steady {ch : Nat} {s : State} (hs : Steady Q s) :
    ∃ u, execSbTimeout ch s = .next u ∧ Steady Q u := by
  unfold execSbTimeout
  repeat' first
    | with_reducible assumption
    | refine finish_steady ?_
    | with_reducible refine State.sbEnd_steady ?_
    | with_reducible refine ite_steady ?_ ?_

theorem execSbtWrite_steady {bytes : List Byte} {s : State} (hs : Steady Q s) :
    ∃ u, execSbtWrite bytes s = .next u ∧ Steady Q u := by
  unfold execSbtWrite
  repeat' first
    | with_reducible assumption
    | refine finish_steady ?_
    | with_reducible refine State.sbtPut_steady ?_
    | with_reducible refine ite_steady ?_ ?_
    | with_reducible refine foldl_steady ?_ ?_
    | simp only [steady_mk, steady_fold]
    | intro q_ _ h_
    | split

theorem execSbtRead_steady {n : Nat} {s : State} (hs : Steady Q s) :
    ∃ u, execSbtRead n s = .next u ∧ Steady Q u := by
  unfold execSbtRead
  repeat' first
    | with_reducible assumption
    | refine finish_steady ?_
    | with_reducible refine State.sbtGet_steady ?_
    | with_reducible refine ite_steady ?_ ?_

theorem execSbtSclTimeout_steady {s : State} (hs : Steady Q s) :
    ∃ u, execSbtSclTimeout s = .next u ∧ Steady Q u := by
  unfold execSbtSclTimeout
  repeat' first
    | with_reducible assumption
    | refine finish_steady ?_
    | with_reducible apply Steady.of State.raise_keeps
    | with_reducible apply Steady.of State.bumpFld_keeps
    | with_reducible refine ite_steady ?_ ?_
    | simp only [steady_mk, steady_fold]

end Sys2Proof.Machine
end

