-- ==== Sys2Proof/WellFormed.lean ====
section
/-! DEFINITION. Which commands are well formed: every operand that names a link, port, channel, slot, path, stream or other
numbered unit names one the MK1 has, and every operand of a fixed width or length has it. The step gives every
command a meaning, well formed or not. -/

namespace Sys2Proof

/-- A path to the registers (R464, R481): management endpoint, registrar, JTAG, SBT. -/
def pathOk (n : Nat) : Bool := decide (n < 4)
/-- A lane reference (R395). -/
def groupOk (n : Nat) : Bool := decide (n < 4)
/-- A DRAM channel (chapter 7). -/
def channelOk (n : Nat) : Bool := decide (n < 16)
/-- A core PLL (R395). -/
def pllOk (n : Nat) : Bool := decide (n < 5)
/-- A rail (R370). -/
def railOk (n : Nat) : Bool := decide (n < 24)
/-- A monitor channel (R383). -/
def monitorOk (n : Nat) : Bool := decide (n < 32)
/-- A monitor sample (R383). -/
def sampleOk (n : Nat) : Bool := decide (n < 4096)
/-- A power domain (chapter 16). -/
def domainOk (n : Nat) : Bool := decide (n < 96)
/-- A mailbox slot (R419). -/
def slotOk (n : Nat) : Bool := decide (n < 16)
/-- A link of a Tvedfy port. -/
def clientOk (n : Nat) : Bool := decide (n < 32)
/-- A stack link, SK0 to SK15. -/
def stackOk (n : Nat) : Bool := decide (n < 16)
/-- The body of a cell (R146). -/
def cellBodyOk (n : Nat) : Bool := decide (n = 1024)
/-- A Tvedfy link: 0 to 31, or 32, the twin link (chapter 9). -/
def linkOk (n : Nat) : Bool := decide (n ≤ 32)
/-- A CONFIG block (R231). -/
def configOk (n : Nat) : Bool := decide (n = 20)
/-- Slots of a flit (chapter 9). -/
def slotsOk (n : Nat) : Bool := decide (n ≤ 15)
/-- A Tvedfy port, TV0 to TV15. -/
def tvPortOk (n : Nat) : Bool := decide (n < 16)
/-- An Ethernet port (R260). -/
def ethPortOk (n : Nat) : Bool := decide (n < 32)
/-- A priority (R262). -/
def prioOk (n : Nat) : Bool := decide (n < 8)
/-- A 24-bit number. -/
def u24 (n : Nat) : Bool := decide (n < 2 ^ 24)
/-- A client queue pair (chapter 11). -/
def qpOk (n : Nat) : Bool := decide (n < 1048576)
/-- A circulation stream (R297). -/
def cirOk (n : Nat) : Bool := decide (n < 256)
/-- A stream sequence number (R248). -/
def ssnOk (n : Nat) : Bool := decide (n < 65536)
/-- A mirror sequence number (R321). -/
def mseqOk (n : Nat) : Bool := decide (n < 2 ^ 48)
/-- A 32-bit number. -/
def u32 (n : Nat) : Bool := decide (n < 2 ^ 32)
/-- An owner of buffers (R348). -/
def ownerOk (n : Nat) : Bool := decide (n < 256)
/-- A pool (R346). -/
def poolOk (n : Nat) : Bool := decide (n < 4)
/-- An interrupt target (R361). -/
def targetOk (n : Nat) : Bool := decide (n < 21)
/-- An interrupt source (chapter 15). -/
def sourceOk (n : Nat) : Bool := decide (n ≤ 0x480)
/-- Byte enables (chapter 23). -/
def beOk (n : Nat) : Bool := decide (n < 16)
/-- A register address (chapter 23). -/
def regAddrOk (n : Nat) : Bool := decide (n < 2 ^ 26)
/-- A register window (chapter 23). -/
def windowOk (n : Nat) : Bool := decide (n < 64)
/-- A flash bank (R435). -/
def bankOk (n : Nat) : Bool := decide (n < 2)
/-- An event code (R444). -/
def codeOk (n : Nat) : Bool := decide (n < 65536)
/-- Payload words of a record (R445). -/
def payloadOk (n : Nat) : Bool := decide (n ≤ 8)
/-- A PURPOSE (R466). -/
def purposeOk (n : Nat) : Bool := decide (n < 4)
/-- A requester of KCE besides the unlock unit (R458). -/
def whoOk (n : Nat) : Bool := decide (n < 2)
/-- A key slot (R456). -/
def keySlotOk (n : Nat) : Bool := decide (n < 32)
/-- A use of a key (R457): DERIVE, VERIFY, MAC_OUT. -/
def useOk (n : Nat) : Bool := decide (n < 3)
/-- A sideband channel (R471). -/
def sbChOk (n : Nat) : Bool := decide (n < 4)
/-- An address on a sideband bus (R471). -/
def sbAddrOk (n : Nat) : Bool := decide (n < 128)
/-- A MODE of the DRAM bus test (R489). -/
def testModeOk (n : Nat) : Bool := decide (n < 4)
/-- A serial lane (R483). -/
def laneOk (n : Nat) : Bool := decide (n < 130)

/-- The command is well formed. -/
def Instr.wellFormed : Instr → Bool
  | .coldReset => true
  | .vddAonLoss => true
  | .resetNAssert => true
  | .resetNRelease => true
  | .startUp _ => true
  | .startStepDone _ _ => true
  | .watchdogExpiry => true
  | .cruWdtFeed path _ => pathOk path
  | .blockReset _ => true
  | .refClockLost group => groupOk group
  | .refClockRegained group => groupOk group
  | .dmcPllUnlock ch => channelOk ch
  | .dmcPllRelock ch => channelOk ch
  | .dmcPllRelockTimeout ch => channelOk ch
  | .corePllUnlock pll => pllOk pll
  | .xtalStopped => true
  | .xtalRestored => true
  | .onRequest => true
  | .offRequest => true
  | .railEnableTick rail => railOk rail
  | .railPgRise rail => railOk rail
  | .railPgTimeout rail => railOk rail
  | .railPgDrop rail => railOk rail
  | .railDisableTick rail => railOk rail
  | .dischargeTimeout rail => railOk rail
  | .offWaitExpiry => true
  | .vaultRestartTimer => true
  | .buttonShortPress => true
  | .buttonLongPress => true
  | .buttonVeryLongPress => true
  | .vbtnShort => true
  | .vbtnLong => true
  | .vbtnVeryLong => true
  | .monitorSample ch value => monitorOk ch && sampleOk value
  | .monitorRefCheck ch _ => monitorOk ch
  | .marginGo rail _ => railOk rail
  | .domainPgFail domain => domainOk domain
  | .pwrStateService slot => slotOk slot
  | .pwrStateQuiesce slot => slotOk slot
  | .pwrStateStandby slot => slotOk slot
  | .pwrStateOff slot => slotOk slot
  | .trimWindow _ => true
  | .trimFchgTick => true
  | .energyReconcile _ => true
  | .energyCheckpoint => true
  | .holdupAlert _ => true
  | .vaultEntryTimeout => true
  | .vaultFinish => true
  | .governorSample => true
  | .budgetWaitRelease _ => true
  | .vaultAccept slot => slotOk slot
  | .load lk _ => clientOk lk
  | .storeFull lk _ _ => clientOk lk
  | .storeMasked lk _ _ _ => clientOk lk
  | .atomic lk _ _ _ => clientOk lk
  | .abandonAtomic lk _ => clientOk lk
  | .abandonClose lk _ => clientOk lk
  | .epochOpen lk _ => clientOk lk
  | .epochClose lk _ => clientOk lk
  | .epochCommit _ => true
  | .epochQueryState lk _ => clientOk lk
  | .epochQueryLine lk _ => clientOk lk
  | .epochQueryReport lk _ => clientOk lk
  | .epochRelease lk _ => clientOk lk
  | .reportBuilt _ => true
  | .mapOpen lk _ => clientOk lk
  | .mapClose lk _ => clientOk lk
  | .mapCloseComplete _ _ => true
  | .place lk _ => clientOk lk
  | .pinPromotionRetry _ => true
  | .maintClean lk _ _ => clientOk lk
  | .maintFlush lk _ _ => clientOk lk
  | .maintInvalidate lk _ _ => clientOk lk
  | .maintPromote lk _ _ => clientOk lk
  | .maintZero lk _ _ => clientOk lk
  | .eventDone lk _ => clientOk lk
  | .tenantSet slot => slotOk slot
  | .portBind slot => slotOk slot
  | .objCreate slot => slotOk slot
  | .objResize slot => slotOk slot
  | .objPlace slot => slotOk slot
  | .objDelete slot => slotOk slot
  | .grantSet slot => slotOk slot
  | .grantClear slot => slotOk slot
  | .windowSet slot => slotOk slot
  | .windowClear slot => slotOk slot
  | .windowClearComplete _ => true
  | .netHostSet slot => slotOk slot
  | .streamAbort slot => slotOk slot
  | .epochReportRead slot => slotOk slot
  | .epochReportRelease slot => slotOk slot
  | .folioMaint slot => slotOk slot
  | .clrTen _ => true
  | .fillInstall _ => true
  | .reshelveSelect _ => true
  | .evbSend _ => true
  | .victimWaitRelease _ => true
  | .hazardWaitRelease => true
  | .sweepVisit => true
  | .fchDisable => true
  | .fchEnable => true
  | .fchModeTransitionDone => true
  | .stkTrainAttempt link => stackOk link
  | .stkLinkTrained link => stackOk link
  | .cellReceive link _ body => stackOk link && cellBodyOk body.length
  | .cellReplayTimeout link => stackOk link
  | .tileReadResponse link _ _ _ _ _ => stackOk link
  | .tileWriteResponse link _ _ => stackOk link
  | .tileTrimResponse link _ _ => stackOk link
  | .shelfSealResponse link _ _ => stackOk link
  | .statusResponse link _ _ _ => stackOk link
  | .vaultBeginResponse link _ _ => stackOk link
  | .vaultBeginRetry link => stackOk link
  | .heartbeat link _ => stackOk link
  | .stkRequestTimeout link _ => stackOk link
  | .stkLinkLost link => stackOk link
  | .stkRetrain link => stackOk link
  | .sledAdopt slot => slotOk slot
  | .refreshDue ch => channelOk ch
  | .tempPollMr4 ch _ => channelOk ch
  | .tempPollSpd ch _ => channelOk ch
  | .parityAlert ch _ => channelOk ch
  | .parityAlertTimeout ch => channelOk ch
  | .retrainPause ch _ _ _ => channelOk ch
  | .retrainNow ch => channelOk ch
  | .fchg ch => channelOk ch
  | .fchgComplete ch _ => channelOk ch
  | .scrubLine ch => channelOk ch
  | .remapPersist ch _ => channelOk ch
  | .scrubNow => true
  | .lprBist => true
  | .rawRead path => pathOk path
  | .rawWrite path => pathOk path
  | .injectArm path => pathOk path
  | .deviceDead slot => slotOk slot
  | .lineRemap slot => slotOk slot
  | .tvlTrainAttempt lk => linkOk lk
  | .equalisationDone lk _ => linkOk lk
  | .eqTimeout lk => linkOk lk
  | .alignDone lk _ => linkOk lk
  | .alignTimeout lk => linkOk lk
  | .configFlit lk block => linkOk lk && configOk block.length
  | .configTimeout lk => linkOk lk
  | .flitReceive lk _ slots _ _ _ => linkOk lk && slotsOk slots.length
  | .replayTimeout lk => linkOk lk
  | .flitLossTimeout lk => linkOk lk
  | .recoveryRegained lk _ => linkOk lk
  | .recoveryTimeout lk => linkOk lk
  | .partnerLoss lk => linkOk lk
  | .lostIdleDone lk => linkOk lk
  | .tvlDisable port => tvPortOk port
  | .tvlRetrain port _ => tvPortOk port
  | .ethFrameReceive port _ _ _ _ _ _ _ => ethPortOk port
  | .pfcFrame port _ => ethPortOk port
  | .pfcPauseExpiry port prio => ethPortOk port && prioOk prio
  | .pfcWatchdogTrigger port prio => ethPortOk port && prioOk prio
  | .pfcWatchdogRecover port prio => ethPortOk port && prioOk prio
  | .ethPortUp port => ethPortOk port
  | .ethPortDown port _ => ethPortOk port
  | .arpRequest port _ => ethPortOk port
  | .neighborSolicit port _ => ethPortOk port
  | .icmpEcho port _ => ethPortOk port
  | .gratuitousArpTimer => true
  | .cmReq port _ _ _ qpn psn0 _ _ _ => ethPortOk port && u24 qpn && u24 psn0
  | .cmRtu port _ q => ethPortOk port && qpOk q
  | .cmRtsTimeout q => qpOk q
  | .cmDreq port _ q => ethPortOk port && qpOk q
  | .cmRej port _ q => ethPortOk port && qpOk q
  | .rdmaWriteFirst port _ => ethPortOk port
  | .rdmaWriteMiddle port _ => ethPortOk port
  | .rdmaWriteLast port _ => ethPortOk port
  | .rdmaWriteLastImm port _ => ethPortOk port
  | .rdmaWriteOnly port _ => ethPortOk port
  | .rdmaWriteOnlyImm port _ => ethPortOk port
  | .rdmaReadRequest port _ => ethPortOk port
  | .cmpSwap port _ => ethPortOk port
  | .fetchAdd port _ => ethPortOk port
  | .roceCmdClose port _ => ethPortOk port
  | .roceCmdQueryState port _ => ethPortOk port
  | .roceCmdQueryLine port _ => ethPortOk port
  | .roceCmdQueryReport port _ => ethPortOk port
  | .roceCmdRelease port _ => ethPortOk port
  | .roceCmdNop port _ => ethPortOk port
  | .contextFetchDone q => qpOk q
  | .qpStallRelease q => qpOk q
  | .qpErrorFreeTimeout q => qpOk q
  | .cnpReceived port _ qpn => ethPortOk port && u24 qpn
  | .cirSchedLoad slot => slotOk slot
  | .cirSchedUnload slot => slotOk slot
  | .cirStreamSet slot => slotOk slot
  | .cirStreamRetarget slot => slotOk slot
  | .cirStreamStart slot => slotOk slot
  | .cirStreamStop slot => slotOk slot
  | .cirConsumerReq port _ _ _ qpn _ _ stream _ _ _ _ => ethPortOk port && u24 qpn && cirOk stream
  | .tileFetchDone stream => cirOk stream
  | .cirTileSend stream => cirOk stream
  | .cirTileAck stream psn => cirOk stream && u24 psn
  | .freedPoll stream => cirOk stream
  | .freedReadResponse stream _ => cirOk stream
  | .tickKeepalive stream => cirOk stream
  | .lateWaitTimeout stream => cirOk stream
  | .completionAck stream => cirOk stream
  | .cirQpError stream => cirOk stream
  | .cirRateRecover stream => cirOk stream
  | .twinLinkLost => true
  | .wFull _ _ ssn _ _ _ => ssnOk ssn
  | .wMasked _ _ ssn _ _ => ssnOk ssn
  | .wAtomic _ _ ssn _ _ _ _ => ssnOk ssn
  | .wZero _ _ ssn => ssnOk ssn
  | .twinEpochFrame _ _ _ _ _ _ _ => true
  | .twinSsnFrame _ ssn => ssnOk ssn
  | .twinServiceFrame _ _ => true
  | .twinFillFrame _ => true
  | .rsLine _ _ _ => true
  | .rsTrim _ => true
  | .rsState _ => true
  | .rsRegion _ => true
  | .rsEnd => true
  | .resyncRegionCopy => true
  | .applied mseq => mseqOk mseq
  | .result mseq _ _ => mseqOk mseq
  | .digest _ _ _ _ mseq => mseqOk mseq
  | .digestTimeout _ => true
  | .twinStatus _ _ mseq => mseqOk mseq
  | .statusTimer => true
  | .fault _ mseq => mseqOk mseq
  | .diverge _ => true
  | .appliedStall => true
  | .leaseTimer => true
  | .lease gen _ mseq => u32 gen && mseqOk mseq
  | .leaseAck gen _ => u32 gen
  | .leaseDrop gen mseq _ => u32 gen && mseqOk mseq
  | .leaseLapse => true
  | .leaseViewExpiry => true
  | .fence gen _ => u32 gen
  | .hello gen _ _ _ _ _ => u32 gen
  | .join gen _ _ => u32 gen
  | .hbPulseOut => true
  | .hbPulseIn _ => true
  | .hbAbsent => true
  | .claimTimer => true
  | .bootTimeout => true
  | .witnessRenewTimer => true
  | .witnessRetry => true
  | .witnessGrant _ => true
  | .witnessDenyHeld _ => true
  | .witnessDenyStale _ => true
  | .twinJoin slot => slotOk slot
  | .twinHandover slot => slotOk slot
  | .twinTakeover slot => slotOk slot
  | .twinFence slot => slotOk slot
  | .bufferAlloc owner pool _ _ _ _ => ownerOk owner && poolOk pool
  | .bufferReturn _ owner => ownerOk owner
  | .bufferWaitRetry _ => true
  | .intClaim t => targetOk t
  | .intComplete t n => targetOk t && sourceOk n
  | .intSwset n => sourceOk n
  | .intSrcWrite n _ value => sourceOk n && u32 value
  | .mbDoorbell slot => slotOk slot
  | .serviceComplete slot => slotOk slot
  | .ackRestart => true
  | .imageWrite slot => slotOk slot
  | .imageVerify slot => slotOk slot
  | .imageReload slot => slotOk slot
  | .imageFloor slot => slotOk slot
  | .fwWrite slot => slotOk slot
  | .fwActivate slot => slotOk slot
  | .fwConfirmTimer => true
  | .registerWrite path be addr value => pathOk path && beOk be && regAddrOk addr && u32 value
  | .unmappedAccess path window _ _ => pathOk path && windowOk window
  | .idataAccess path _ _ value => pathOk path && u32 value
  | .counterSnap path window => pathOk path && windowOk window
  | .flashRead _ _ => true
  | .flashProgram _ _ => true
  | .flashErase _ => true
  | .flashEraseDone bank _ => bankOk bank
  | .flashEraseResume => true
  | .daybookRecord code words => codeOk code && payloadOk words.length
  | .daybookProgram => true
  | .hoursCheckpoint => true
  | .dbkWin15Read => true
  | .dbkSeqLoRead => true
  | .unlockChallenge path purpose => pathOk path && purposeOk purpose
  | .unlockSubmit path => pathOk path
  | .unlockRelock path => pathOk path
  | .challengeExpiry => true
  | .provisionCommit => true
  | .fuseBurnDone _ => true
  | .kceRequest who slot use _ _ => whoOk who && keySlotOk slot && useOk use
  | .kceRequestDone => true
  | .sbTransaction ch addr _ _ _ _ _ => sbChOk ch && sbAddrOk addr
  | .sbIdleCheck ch _ _ _ => sbChOk ch
  | .sbStuckRetry ch _ _ _ => sbChOk ch
  | .sbAttention ch _ => sbChOk ch
  | .sbTimeout ch => sbChOk ch
  | .sbtWrite _ => true
  | .sbtRead _ => true
  | .sbtSclTimeout => true
  | .laneTestSet path value => pathOk path && u32 value
  | .laneInject path => pathOk path
  | .dftClr path => pathOk path
  | .dramBusTest path ch mode => pathOk path && channelOk ch && testModeOk mode
  | .dramBusTestDone _ _ _ => true
  | .jtagInstruction _ => true
  | .dbgAccess _ addr value => regAddrOk addr && u32 value
  | .alertNHigh ch => channelOk ch
  | .railPgFall rail => railOk rail
  | .checkerLock lane _ => laneOk lane
  | .checkerLockLoss lane _ _ => laneOk lane
  | .lprBistDone _ _ _ => true
  | .flashProgramDone bank _ => bankOk bank
  | .msixControlWrite _ _ _ => true
  | .cmMra port _ q => ethPortOk port && qpOk q
  | .cirNak stream psn _ => cirOk stream && u24 psn
  | .cirRnrRetry stream => cirOk stream
  | .cirAckTimeout stream => cirOk stream

end Sys2Proof
end

