-- ==== Sys2Proof/Tests/Slice0.lean ====
section
/-! SUPPORT. Own tests: for every clause of every obligation with hypotheses, a state and operands that meet them; an
ill-formed term for each check of WellFormed. -/

namespace Sys2Proof.Tests

open Sys2Proof.Machine

set_option Elab.async false

/-- A unit right after reset whose mailbox slot `n` holds a request of these words, with its doorbell rung. -/
def req (n : Nat) (ws : List Nat) : State := { State.reset with
  pwr.st := .service
  sup.seq := 2
  cru.step := 12
  rgc.ready := true
  rgc.queue := [n]
  rgc.slots := [(n, { st := 1, words := (ws.zipIdx.map (fun p => (p.2, BitVec.ofNat 32 p.1))).filter (fun e => e.2 != 0) })] }

/-- A unit in Service with its client ports open. -/
def live : State := { State.reset with
  pwr.st := .service
  sup.seq := 2
  cru.step := 12
  rgc.ready := true
  regs := [(0xA00000, 1)]
  bpm.ready := true
  ports := true }

/-- The state that a write that is gone leaves. -/
def goneSt : WDone → State
  | .gone u => u
  | _ => State.reset

/-- The state that a write that waits leaves. -/
def waitSt : WDone → State
  | .waits u => u
  | _ => State.reset

/-- The state in which a request past the gate goes on. -/
def goSt : TvGate → State
  | .go u _ _ => u
  | _ => State.reset

/-- The source of a request past the gate. -/
def goSrc : TvGate → Src
  | .go _ x _ => x
  | _ => .nobody

/-- A stream with one write at its front. -/
def oneWrite (w : WriteReq) : State := { State.reset with epo.streams := [(0, { st := .opened, queue := [.write w] })] }

/-- Whether the desk limit let a request past the gate. -/
def goDesk : TvGate → Bool
  | .go _ _ d => d
  | _ => false

/-- A handle of tenant 1: object 0, reuse 0. -/
def h1 : Nat := 2 ^ 36

/-- A unit whose link 0 serves context 0 of tenant 1, with object 0 (class `c`, one backed shelf), map 0 of it with all rights,
and its first folio in the desk. -/
def tv (c : Nat) : State := { live with
  regs := [(0xA00000, 1), (0xB00000, 1), (0xE00000, 3)]
  tqm := {
    ready := true
    tenants := [(1, { valid := true, pinLim := 0xFFFFFFFF, cacheLim := 0xFFFFFFFF, stkLim := 0xFFFFFFFF, deskLim := 0xFFFFFFFF, accLim := 0xFFFF, cirLim := 0xFFF })]
    objs := [(0, { live := true, tenant := 1, base := 1, len := 2 ^ 30, cls := c })]
    maps := [(0, { valid := true, handle := h1, r := true, w := true, a := true })]
    ctxs := [(0, { host := 1, tenant := 1 })]
    shelves := [(1, { st := 1, tenant := 1 })] }
  tvl.links := [(0, { st := 4, holderSaid := true })]
  fch.fills := [{ folio := 262144, desk := some (List.replicate 32 (0, 0)) }] }

/-- A header: byte 0 and opcode `lo`, then the fields given as (value, bit). -/
def hd (lo : Nat) (fs : List (Nat × Nat)) : BitVec 128 := BitVec.ofNat 128 (fs.foldl (fun a f => a + f.1 * 2 ^ f.2) lo)

/-- A unit with the tables of `tv c` whose mailbox slot 0 holds service `code` with a body of `len` bytes in these words. -/
def svc (code len : Nat) (body : List Nat) (c : Nat := 0) : State :=
  { req 0 ([code + 65536 * len, 0, 0, 0] ++ body) with tqm := (tv c).tqm }

/-- The object of `tv c`. -/
def obj1 (c : Nat) : Obj := { live := true, tenant := 1, base := 1, len := 2 ^ 30, cls := c }

/-- The bytes of an answer. -/
def ansBytes : Ans → List Byte
  | .data l _ _ => l
  | _ => []

/-- A unit whose stack link 15 is `l`. -/
def lnk (l : StkLink) : State := { live with regs := [(0xA00000, 1), (0xF00000, 0xFFFF)], stk.links := [(15, l)] }

/-- A unit whose DRAM channel 15 is `c`, the only one. -/
def chan (c : DmcCh) : State := { live with dmc := { pop := [15], bytes := 128, chs := [(15, c)] } }

/-- A unit whose Tvedfy port 15 is enabled and split, and whose link 31 is `l`. -/
def tvLnk (l : TvLink) : State := { live with regs := [(0xA00000, 1), (0x3000000, 3)], cru.refOk := 1, tvl.links := [(31, l)] }

/-- A CONFIG block of half `h`: flags `f`, adapter `uid`. -/
def cfgBlock (h f uid : Nat) : List Byte :=
  [1, BitVec.ofNat 8 (f + 2 * h), 0, 0, BitVec.ofNat 8 uid, 0, 0, 0, 0, 0, 0, 0, 0, 0, 15, 0, 0, 0, 15, 0]

/-- A unit that serves RoCE at port 0, address 5, with host 1 at address 7, and a frame of priority 0 in its desk. -/
def net : State := { live with
  regs := [(0xA00000, 1), (0xB00000, 1), (0x3100000, 1), (0x3200000, 0x3C), (0x3200008, 0xFFFFFF), (0x3200014, 9216)]
  cru.refOk := 2
  tqm := (tv 0).tqm
  nre := { ready := true, addrs := [(0, { addr := 5, valid := true, mask := 0xFFFFFFFF })], hosts := [(1, 8)] }
  eth.ports := [(0, { up := true, frames := [({}, 0)] })] }

/-- The state in which a delivered packet is judged: its frame taken, the packet counted and charged, the context at hand. -/
def dlv (s : State) (e : Nat) (p : RPkt) (q : Nat) : State :=
  let v := (s.takeFrame e (p.payload.length + 62) (some 0)).1
  (((v.bump rNRE_CNT_RX_PKT).spend (v.stream (qpStream q)).tenant 5 1).card q).1

/-- The state in which the next packet is judged: `dlv` with the waits of R281 and R290 ended. -/
def exd (s : State) (e : Nat) (p : RPkt) (q : Nat) : State :=
  (dlv s e p q).setQp q { (dlv s e p q).qp q with seqAt := none, rnr := none }

/-- `Delivered` as a test. -/
def deliveredB (s : State) (e op : Nat) (p : RPkt) (q : Nat) (w : QWait) (u : State) : Bool :=
  let f := s.takeFrame e (p.payload.length + 62) (some 0)
  let r := (f.1.bump rNRE_CNT_RX_PKT).spend (f.1.stream (qpStream q)).tenant 5 1
  s.nreServes e && decide (q < 1048576) && decide (p.qpn = 0x100000 + q) && !p.icrcBad && !p.ce
    && decide (w = { port := e, mark := w.mark, buf := w.buf, op := op, pkt := p }) && decide (f.2 = some (w.mark, w.buf))
    && (match r.addrOn e p.dst with | some a => !a.floating || r.floatsHere | none => false)
    && !(r.qp q).circ && decide ((r.qp q).st = 2) && r.carded q && decide (u = (r.card q).1) && decide ((u.qp q).waiting = [])
    && !u.qpBusy q op && decide ((u.qp q).st = 2)
    && (u.qp q).out.all (fun o => match o.kind with | .nak .. => false | _ => true)

/-- `net` with queue pair 0 of host 1 as given and window 1 on the first shelf of tenant 1. -/
def roce (x : Qp) : State := { net with
  tqm.windows := [(1, { valid := true, tenant := 1, host := 1, handle := h1, len := 2 ^ 30, r := true, w := true, a := true })]
  nre.qps := [(0, x)]
  nre.cards := [(0, true)] }

/-- A queue pair of host 1 in RTS. -/
def rts : Qp := { st := 2, host := 1 }

/-- A packet for queue pair 0 at offset `va` of window 1. -/
def pk (va len : Nat) (d : List Byte) (psn : Nat := 0) : RPkt :=
  { dst := 5, qpn := 0x100000, rkey := 4096, va := va, len := len, payload := d, psn := psn }

/-- A command packet: CMD byte, QPN, R_Key. -/
def cm (c n k : Byte) : RPkt :=
  { dst := 5, qpn := 0x100000, payload := [c, 0, 0, 0, n, n, n] ++ List.replicate 10 0 ++ [k] ++ List.replicate 14 0 }

/-- `net` with circulation stream 255 as given and every engine enabled. -/
def cirS (x : CirStream) : State := { net with regs := [(0xA00000, 1), (fCIR_CTRL_ENG_EN.addr, 0xFFFFFFFF)], cir.streams := [(255, x)] }

/-- A unit in Service with this twin state. -/
def tw (t : TwnSt) : State := { live with twn := t }

/-- The same with a witness and every automatic action enabled, and a witness key of zeros. -/
def twA (t : TwnSt) : State := { live with
  regs := [(fTWN_CTRL_WITNESS_EN.addr, 0xFFFFFFFF)]
  sec.keys := [(0, { bytes := List.replicate 16 0, verify := true })]
  twn := t }

/-- A witness answer of a type to request 0 of this unit, under a key of zeros, with its MAC. -/
def wmsg (t : Byte) (mac : List Byte) : List Byte := [1, t, 0, 0] ++ List.replicate 8 0 ++ [1] ++ List.replicate 27 0 ++ mac

def grantMsg : List Byte := wmsg 0x81 [177, 216, 70, 75, 48, 255, 162, 128, 74, 54, 158, 77, 252, 237, 33, 141]

def heldMsg : List Byte := wmsg 0x82 [234, 235, 223, 58, 165, 83, 58, 65, 63, 120, 130, 182, 88, 68, 123, 67]

def staleMsg : List Byte := wmsg 0x83 [204, 156, 61, 187, 55, 69, 193, 92, 188, 225, 46, 142, 27, 182, 32, 219]

/-- A flash whose firmware bank 1 holds a package of 48 bytes, version 1, sealed under a key of zeros. -/
def fwPack : Tab FWord := [
  (786432, .written (BitVec.ofNat 128 (1 + 48 * 2 ^ 32)) false), (786433, .written 0 false),
  (786434, .written (BitVec.ofNat 128 (leNat [18, 33, 229, 228, 168, 216, 95, 41, 187, 182, 51, 19, 226, 11, 170, 175])) false)]

/-- The header of an image of 1,664 bytes for a Blank unit: PROVISION, three sections. -/
def imgHead : List Byte := [0x45, 0x4C, 0x49, 0x4C, 1, 0, 2, 0, 0x80, 6, 0, 0, 7, 0, 0, 0] ++ List.replicate 8 0 ++ [3] ++ List.replicate 39 0

/-- Its sections SUPPLY, START and PORTS, all 0xFF. -/
def imgRest : List Byte := [1, 0, 0, 0, 0x94, 2, 0, 0] ++ List.replicate 660 0xFF ++ [0, 0, 0, 0] ++
  [2, 0, 0, 0, 0, 3, 0, 0] ++ List.replicate 768 0xFF ++ [4, 0, 0, 0, 128, 0, 0, 0] ++ List.replicate 128 0xFF

/-- IMAGEKEY of a Blank unit whose TRANSPORT_KEY is 0. -/
def imgKey : List Nat := [222, 26, 21, 106, 162, 10, 230, 141, 207, 214, 91, 79, 195, 111, 151, 97]

/-- Its seal. -/
def imgMac : List Byte := (cmac imgKey (natsOf (imgHead ++ imgRest))).map (BitVec.ofNat 8 ·)

/-- Bytes in copy 1. -/
def inCopy (l : List Byte) (k : Nat) : Tab Byte := (l.zipIdx k).map (fun p => (copyBase 1 + p.2, p.1))

/-- A configuration copy 1 that holds the image. -/
def imgCfg : Tab Byte := inCopy (imgHead ++ imgRest ++ imgMac) 0

/-- The sections as they are read. -/
def imgSects : List Sect := [{ type := 1, critical := false, value := List.replicate 660 0xFF, padOk := true },
  { type := 2, critical := false, value := List.replicate 768 0xFF, padOk := true },
  { type := 4, critical := false, value := List.replicate 128 0xFF, padOk := true }]

/-- `deliveredB` says it. -/
theorem delivered_of {s : State} {e op : Nat} {p : RPkt} {q : Nat} {w : QWait} {u : State}
    (h : deliveredB s e op p q w u = true) : Delivered s e op p q w u := by
  simp only [deliveredB, Bool.and_eq_true, decide_eq_true_eq, Bool.not_eq_true'] at h
  obtain ⟨⟨⟨⟨⟨⟨⟨⟨⟨⟨⟨⟨⟨⟨⟨h1, h2⟩, h3⟩, h4⟩, h5⟩, h6⟩, h7⟩, h8⟩, h9⟩, h10⟩, h11⟩, h12⟩, h13⟩, h14⟩, h15⟩, h16⟩ := h
  split at h8
  · rename_i a ha
    refine ⟨h1, h2, h3, h4, h5, h6, (s.takeFrame e (p.payload.length + 62) (some 0)).1, _, a, ?_, rfl, ha, ?_, h9, h10, h11, h12,
      h13, h14, h15, h16⟩
    · rw [← h7]
    · simpa [Bool.or_eq_true] using h8
  · cases h8

theorem expected_of {s : State} {e op : Nat} {p : RPkt} {q : Nat} {w : QWait}
    (h : deliveredB s e op p q w (dlv s e p q) = true) (k : ((dlv s e p q).qp q).epsn = p.psn) :
    Expected s e op p q w (exd s e p q) := ⟨_, delivered_of h, k, rfl⟩

/-- The CRC-32 fold with its register evaluated at every byte. -/
def strictCrc (c : BitVec 32) : List Byte → BitVec 32
  | [] => c
  | b :: l => if c.toNat = c.toNat then strictCrc (crcBytesR 0xEDB88320#32 c [b]) l else c

theorem strictCrc_eq (l : List Byte) : ∀ c, strictCrc c l = crcBytesR 0xEDB88320#32 c l := by
  induction l with
  | nil => intro c; rfl
  | cons b l ih => intro c; simp only [strictCrc, if_true, ih]; rfl

theorem crc32_strict (l : List Byte) : crc32 l = ~~~ strictCrc 0xFFFFFFFF#32 l := by rw [strictCrc_eq]; rfl

theorem supplyOk_strict : State.supplyOk = fun (s : State) (c : Nat) =>
    (~~~ strictCrc 0xFFFFFFFF#32 (s.cfgBytes c 0 728)).toNat == leNat (s.cfgBytes c 728 4) := by
  funext s c; unfold State.supplyOk; rw [crc32_strict]

theorem readSupply_ok {s : State} {l : List Nat} (h : s.copyOrder s.top.bootPins = 0 :: l) (h0 : s.supplyOk 0 = true) :
    s.readSupply = s.putSupply (s.cfgBytes 0 72 660) := by
  unfold State.readSupply; simp [h, h0]

theorem putImage_other (s : State) {a b v : Nat} (h : b ≠ a) : (s.putImage a v).reg b = s.reg b := by
  unfold State.putImage
  split
  · exact Tab.get_set_other _ _ h
  · rfl

theorem foldl_reg {f : State → Nat → State} {b : Nat} (h : ∀ s n, (f s n).reg b = s.reg b) (l : List Nat) :
    ∀ s, (l.foldl f s).reg b = s.reg b := by
  induction l with
  | nil => intro s; rfl
  | cons n l ih => intro s; simp [ih, h]

theorem putSupply_ctrl (s : State) (v : List Byte) :
    (s.putSupply v).reg 0x100000 = (s.putImage 0x100000 (numAt v 0 4)).reg 0x100000 := by
  have e (u : State) (x : SupSt) : State.reg { u with sup := x } 0x100000 = u.reg 0x100000 := rfl
  simp only [State.putSupply, e]
  rw [foldl_reg (fun u n => ?_), foldl_reg (fun u n => ?_), putImage_other _ (by decide)]
  · rfl
  · rw [putImage_other _ (by unfold rSUP_RAIL_CFG; omega), putImage_other _ (by unfold rSUP_RAIL_DEP; omega),
      putImage_other _ (by unfold rSUP_RAIL_TIME; omega)]
  · rw [putImage_other _ (by unfold rSUP_MON_CFG; omega), putImage_other _ (by unfold rSUP_MON_THR; omega)]

theorem autoOn_supply {s : State} {l : List Nat} {b : Bool} (h : s.copyOrder s.top.bootPins = 0 :: l) (h0 : s.supplyOk 0 = true)
    (h1 : (s.putImage 0x100000 (numAt (s.cfgBytes 0 72 660) 0 4)).flag fSUP_CTRL_AUTO_ON = b) :
    s.readSupply.flag fSUP_CTRL_AUTO_ON = b := by
  rw [readSupply_ok h h0]
  unfold State.flag State.fld at *
  rw [show fSUP_CTRL_AUTO_ON.addr = 0x100000 from rfl] at *
  rw [putSupply_ctrl]; exact h1

theorem le_hazUsed {s : State} {n : Nat} {x : Fill} (h : s.fch.fills = List.replicate n x) : n ≤ s.hazUsed := by
  unfold State.hazUsed; rw [h, List.length_replicate]; exact Nat.le_add_right _ _

theorem ne_complement (x : BitVec 64) : x ≠ ~~~ x := by
  intro h; have := congrArg (BitVec.getLsbD · 0) h; simp at this

/-- A unit whose 32 monitors all read 1. -/
def mons1 : State := { live with sup.mons := (List.range 32).map (fun n => (n, { value := 1 })) }

theorem mons1_pairs : mons1.pairBad = false := by
  have h : ∀ c, c < 32 → mons1.ainOk c = true := by decide +kernel
  unfold State.pairBad
  rw [List.any_eq_false]
  intro j _
  have a (w : Nat) : bitsOf w 4 0 < 32 := Nat.mod_lt _ (by decide)
  have b (w : Nat) : bitsOf w 9 5 < 32 := Nat.mod_lt _ (by decide)
  simp [h _ (a _), h _ (b _)]

theorem get_range' (d : Nat → Qp) (x : Qp) (n : Nat) : ∀ i q, i ≤ q → q < i + n →
    Tab.get d ((List.range' i n).map (fun q => (q, x))) q = x := by
  induction n with
  | zero => intro i q h k; omega
  | succ n ih =>
    intro i q h k
    rw [List.range'_succ, List.map_cons, Tab.get]
    split
    · rfl
    · exact ih (i + 1) q (by omega) (by omega)

theorem lowestQ_none {ok : Nat → Bool} (n : Nat) : ∀ i, (∀ q, i ≤ q → q < i + n → ok q = false) → lowestQ ok n i = none := by
  induction n with
  | zero => intro i _; rfl
  | succ n ih =>
    intro i h
    rw [lowestQ, h i (by omega) (by omega)]
    exact ih (i + 1) (fun q a b => h q (by omega) (by omega))

theorem pickQp_none {s : State} (h : s.nre.qps = (List.range' 0 1048576).map (fun q => (q, rts))) (k : Nat) :
    s.pickQp k = none := by
  have e (q : Nat) (l : q < 1048576) : (s.qp q).st = 2 := by
    unfold State.qp; rw [h, get_range' _ _ _ _ _ (Nat.zero_le q) (by omega)]; rfl
  unfold State.pickQp
  dsimp only
  rw [lowestQ_none _ _ (fun q _ l => by simp [e q (by omega)])]
  exact lowestQ_none _ _ (fun q _ l => by simp [e q (by omega)])

/-- `net` with the queue pairs given. -/
def netQ (t : Tab Qp) : State := { net with nre.qps := t }

/-- All 1,048,576 queue pairs in use. -/
def fullQ : Tab Qp := (List.range' 0 1048576).map (fun q => (q, rts))

theorem pair_some {p : State × Option Mark} {m : Mark} (h : p.2 = some m) : p = (p.1, some m) := by cases p; cases h; rfl

theorem netQ_arrive : (netQ fullQ).cmArrive 0 5 = (((netQ fullQ).cmArrive 0 5).1, some {}) := pair_some (by decide +kernel)

theorem netQ_hosts : ((netQ fullQ).cmArrive 0 5).1.hostOf 7 = some 1 := by decide +kernel

theorem bpmReturn_nre (s : State) (a b : Nat) : (s.bpmReturn a b).nre = s.nre := by
  unfold State.bpmReturn State.deskRelease
  split <;> dsimp only <;> split <;> (simp [State.setTenant]) <;> split <;> rfl

theorem netQ_qps (t : Tab Qp) : ((netQ t).cmArrive 0 5).1.nre.qps = t := by
  have f : ((netQ t).takeFrame 0 320 (some 0)).1.nre = (netQ t).nre := rfl
  have h : ((netQ t).cmArrive 0 5).1.nre = (netQ t).nre := by
    unfold State.cmArrive
    split
    · rfl
    · split
      · rename_i h; rw [h] at f; exact f
      · rename_i h
        rw [h] at f
        dsimp only at f ⊢
        split
        · simp [bpmReturn_nre, f]
        · split <;> simp [bpmReturn_nre, f]
  rw [h]; rfl

theorem aesRounds_end (k : List Nat) : ∀ (t : List (List Nat)) (s : List Nat), t.getLast? = some k →
    ∃ x : List Nat, aesRounds t s = xorBytes (shiftRows (x.map sbox)) k := by
  intro t
  induction t with
  | nil => intro s h; cases h
  | cons a t ih =>
    intro s h
    cases t with
    | nil => simp at h; subst h; exact ⟨s, rfl⟩
    | cons b t => exact ih _ (by simpa using h)

theorem cmacChain_end (rk : List (List Nat)) (k1 k2 : List Nat) : ∀ (n : Nat) (c m : List Nat), m.length ≤ 16 * n → 0 < n →
    ∃ x, cmacChain rk k1 k2 n c m = aes rk x := by
  intro n
  induction n with
  | zero => intro c m _ h; cases h
  | succ n ih =>
    intro c m h _
    unfold cmacChain
    split
    · exact ih _ _ (by simp; omega) (by omega)
    · split <;> exact ⟨_, rfl⟩

theorem sbox_lt (b : Nat) : sbox b < 256 := by
  unfold sbox bitsOf; simp only [Nat.shiftRight_eq_div_pow]
  rw [show 8 * (b % 32) + 7 + 1 - 8 * (b % 32) = 8 by omega]
  exact Nat.mod_lt _ (by decide)

theorem shiftRows_lt (x : List Nat) : ∀ v ∈ shiftRows (x.map sbox), v < 256 := by
  intro v h
  simp only [shiftRows, List.mem_map] at h
  obtain ⟨i, _, rfl⟩ := h
  generalize (i + 4 * (i % 4)) % 16 = j
  rw [List.getD_eq_getElem?_getD, List.getElem?_map]
  cases x[j]? <;> simp [sbox_lt]

theorem zipXor_lt : ∀ (a b : List Nat), (∀ v ∈ a, v < 256) → (∀ v ∈ b, v < 256) → ∀ v ∈ xorBytes a b, v < 256
  | [], _, _, _ => by simp [xorBytes]
  | _ :: _, [], _, _ => by simp [xorBytes]
  | x :: a, y :: b, ha, hb => by
    intro v h
    simp only [xorBytes, List.zipWith_cons_cons, List.mem_cons] at h
    rcases h with rfl | h
    · exact Nat.xor_lt_two_pow (n := 8) (ha x (by simp)) (hb y (by simp))
    · exact zipXor_lt a b (fun v h => ha v (by simp [h])) (fun v h => hb v (by simp [h])) v h

/-- A MAC is 16 bytes. -/
theorem cmac_bytes {key k a b : List Nat} {t : List (List Nat)} (h : roundKeys key = a :: b :: t) (hl : (b :: t).getLast? = some k)
    (h1 : ∀ v ∈ k, v < 256) (h2 : k.length = 16) (msg : List Nat) :
    (cmac key msg).length = 16 ∧ ∀ v ∈ cmac key msg, v < 256 := by
  unfold cmac
  rw [h]
  dsimp only
  obtain ⟨x, hx⟩ := cmacChain_end (a :: b :: t) (cmacDouble (aes (a :: b :: t) (List.replicate 16 0)))
    (cmacDouble (cmacDouble (aes (a :: b :: t) (List.replicate 16 0)))) (msg.length / 16 + 1) (List.replicate 16 0) msg
    (by omega) (by omega)
  rw [hx]
  obtain ⟨y, hy⟩ := aesRounds_end k (b :: t) (xorBytes x a) hl
  have e : aes (a :: b :: t) x = aesRounds (b :: t) (xorBytes x a) := rfl
  rw [e, hy]
  exact ⟨by simp [xorBytes, shiftRows, h2], zipXor_lt _ _ (shiftRows_lt y) h1⟩

theorem natsOf_map (l : List Nat) (h : ∀ v ∈ l, v < 256) : natsOf (l.map (BitVec.ofNat 8 ·)) = l := by
  induction l with
  | nil => rfl
  | cons x l ih =>
    simp only [natsOf, List.map_cons] at *
    rw [ih (fun v k => h v (by simp [k]))]
    rw [show (BitVec.ofNat 8 x).toNat = x by simp; exact h x (by simp)]

theorem imgKey_bytes (msg : List Nat) : (cmac imgKey msg).length = 16 ∧ ∀ v ∈ cmac imgKey msg, v < 256 :=
  cmac_bytes (k := ((roundKeys imgKey).getLast?).getD []) (a := (roundKeys imgKey).getD 0 []) (b := (roundKeys imgKey).getD 1 [])
    (t := (roundKeys imgKey).drop 2) (by decide +kernel) (by decide +kernel) (by decide +kernel) (by decide +kernel) msg

theorem imgMac_length : imgMac.length = 16 := by unfold imgMac; rw [List.length_map]; exact (imgKey_bytes _).1

theorem imgRest_length : (imgHead ++ imgRest).length = 1648 := by decide +kernel

theorem img_seal : kceResult { bytes := imgKey, verify := true } 1 (imgHead ++ imgRest) imgMac = (0, []) := by
  unfold kceResult imgMac
  rw [natsOf_map _ (imgKey_bytes _).2]
  simp [imgKey]

theorem inCopy_get (l : List Byte) : ∀ k i, Tab.get (fun _ => (0xFF : Byte)) (inCopy l k) (copyBase 1 + (k + i)) = l.getD i 0xFF := by
  induction l with
  | nil => intro k i; simp [inCopy, Tab.get]
  | cons x l ih =>
    intro k i
    simp only [inCopy, List.zipIdx_cons, List.map_cons, Tab.get]
    cases i with
    | zero => simp
    | succ i =>
      rw [if_neg (by omega), show k + (i + 1) = k + 1 + i by omega]
      simpa [inCopy] using ih (k + 1) i

theorem img_bytes {s : State} (h : s.rgc.cfg = imgCfg) (off n : Nat) (hn : off + n ≤ 1664) :
    s.cfgBytes 1 off n = ((imgHead ++ imgRest ++ imgMac).drop off).take n := by
  have hl : (imgHead ++ imgRest ++ imgMac).length = 1664 := by
    rw [List.length_append, imgRest_length, imgMac_length]
  unfold State.cfgBytes
  rw [h]
  apply List.ext_getElem
  · simp [upTo, -List.append_assoc, hl]; omega
  · intro i h1 h2
    simp only [upTo, List.length_map, List.length_range] at h1
    simp only [upTo, List.getElem_map, List.getElem_range, List.getElem_take, List.getElem_drop]
    have := inCopy_get (imgHead ++ imgRest ++ imgMac) 0 (off + i)
    rw [Nat.zero_add] at this
    rw [show copyBase 1 + off + i = copyBase 1 + (off + i) by omega]
    unfold imgCfg
    rw [this, List.getD_eq_getElem?_getD, List.getElem?_eq_getElem (by omega)]; rfl

theorem img_head {s : State} (h : s.rgc.cfg = imgCfg) : s.cfgBytes 1 0 64 = imgHead := by
  rw [img_bytes h 0 64 (by omega), List.drop_zero, List.append_assoc, List.take_append_of_le_length (by decide +kernel)]
  decide +kernel

theorem img_all {s : State} (h : s.rgc.cfg = imgCfg) : imgHead ++ s.cfgBytes 1 64 1600 = imgHead ++ imgRest ++ imgMac := by
  have hl : (imgRest ++ imgMac).length = 1600 := by
    rw [List.length_append, imgMac_length]; decide +kernel
  have hh : imgHead.length = 64 := by decide +kernel
  rw [img_bytes h 64 1600 (by omega), List.append_assoc, List.drop_append_of_le_length (by omega),
    List.drop_of_length_le (by omega), List.nil_append, List.take_of_length_le (by omega)]

theorem img_parse : parseSects 1664 imgRest = some imgSects := by decide +kernel

theorem img_parts : numAt imgHead 0 4 = 0x4C494C45 ∧ numAt imgHead 4 2 = 1 ∧ numAt imgHead 8 4 = 1664 ∧
    bitOf (numAt imgHead 6 2) 0 = false ∧ sectsOk imgSects (numAt imgHead 24 4) = true ∧
    (regRecs imgSects).all (recOk (headProvision imgHead)) = true := by decide +kernel

/-- A unit whose copy 1 is `imgCfg` finds it good. -/
theorem img_good {s : State} {h : List Byte} {life : Nat} (hc : s.rgc.cfg = imgCfg) (hh : h = s.cfgBytes 1 0 64)
    (hk : (s.imageKey false).2 = { bytes := imgKey, verify := true }) (hl : s.lateCause imgHead life = 0) :
    s.checkCopy 1 h life false = (((s.imageKey false).1).kceCount 0, { cause := 0, header := imgHead, sects := imgSects }) := by
  obtain ⟨a, b, c, d, e, f⟩ := img_parts
  have l : (((s.imageKey false).1).kceCount 0).lateCause imgHead life = 0 := hl
  have p : List.take 1584 (List.drop 64 (imgHead ++ imgRest ++ imgMac)) = imgRest := by
    rw [List.append_assoc, List.drop_append_of_le_length (by decide +kernel), show List.drop 64 imgHead = [] by decide +kernel,
      List.nil_append, List.take_append_of_le_length (by decide +kernel)]
    decide +kernel
  have q : List.take 1648 (imgHead ++ imgRest ++ imgMac) = imgHead ++ imgRest := by
    rw [← imgRest_length, List.take_left']; rfl
  have r : List.drop 1648 (imgHead ++ imgRest ++ imgMac) = imgMac := by
    rw [← imgRest_length, List.drop_left']; rfl
  rw [hh, img_head hc]
  unfold State.checkCopy
  simp only [a, b, c, d, img_all hc, p, q, r, img_parse, hk, State.kceVerify, img_seal, e, f]
  simp [l]

/-- A Quiesced unit whose start-only settings are those of `imgCfg`, with IMAGE_RELOAD of copy 1 in slot 0. -/
def reload (supply : List Byte) : State :=
  let b := (req 0 [0x00010042, 0, 0, 0, 1]).putStart (List.replicate 768 0xFF)
  { b with
    pwr.st := .quiesced
    sup.supply := supply
    rgc.cfg := imgCfg }
set_option maxRecDepth 100000 in

theorem reload_minima : ((((((reload (List.replicate 660 0xFF)).slotRunning 0).imageKey false).1).kceCount 0).applyImage 1
      { cause := 0, header := imgHead, sects := imgSects } true).bpm.minima =
    (((((reload (List.replicate 660 0xFF)).slotRunning 0).imageKey false).1).kceCount 0).bpm.minima := rfl

theorem startOnly_eq {a b : State} (h1 : a.startOnly.1 = b.startOnly.1) (h2 : a.bpm.minima = b.bpm.minima)
    (h3 : a.rgc.profile = b.rgc.profile) : a.startOnly = b.startOnly := Prod.ext h1 (Prod.ext h2 h3)

theorem reload_start : ((((((reload (List.replicate 660 0xFF)).slotRunning 0).imageKey false).1).kceCount 0).applyImage 1
      { cause := 0, header := imgHead, sects := imgSects } true).startOnly =
    (((((reload (List.replicate 660 0xFF)).slotRunning 0).imageKey false).1).kceCount 0).startOnly :=
  startOnly_eq (by decide +kernel) reload_minima (by decide +kernel)

/-! ### Published vectors of the functions the chapters name -/

/-- AES-CMAC of the empty message (RFC 4493, example 1). -/
theorem test_cmac_empty :
    cmac [0x2b, 0x7e, 0x15, 0x16, 0x28, 0xae, 0xd2, 0xa6, 0xab, 0xf7, 0x15, 0x88, 0x09, 0xcf, 0x4f, 0x3c] [] =
      [0xbb, 0x1d, 0x69, 0x29, 0xe9, 0x59, 0x37, 0x28, 0x7f, 0xa3, 0x7d, 0x12, 0x9b, 0x75, 0x67, 0x46] := by decide +kernel

/-- CRC-32 of IEEE 802.3 over the digits 1 to 9. -/
theorem test_crc32_digits : crc32 [0x31, 0x32, 0x33, 0x34, 0x35, 0x36, 0x37, 0x38, 0x39] = 0xCBF43926#32 := by decide +kernel

/-- CRC-64 of ECMA-182 with both inversions over the digits 1 to 9. -/
theorem test_crc64_digits :
    digestOut (crc64 digestInit [0x31, 0x32, 0x33, 0x34, 0x35, 0x36, 0x37, 0x38, 0x39]) = 0x62EC59E3F1A4F00A#64 := by
  decide +kernel

/-! ### Ill-formed terms, refused by each check of WellFormed -/

theorem test_wellFormed_pathOk : Instr.wellFormed (.cruWdtFeed 0 0) = true ∧ Instr.wellFormed (.cruWdtFeed (4) 0) = false := by decide +kernel

theorem test_wellFormed_groupOk : Instr.wellFormed (.refClockLost 0) = true ∧ Instr.wellFormed (.refClockLost (4)) = false := by decide +kernel

theorem test_wellFormed_channelOk : Instr.wellFormed (.dmcPllUnlock 0) = true ∧ Instr.wellFormed (.dmcPllUnlock (16)) = false := by decide +kernel

theorem test_wellFormed_pllOk : Instr.wellFormed (.corePllUnlock 0) = true ∧ Instr.wellFormed (.corePllUnlock (5)) = false := by decide +kernel

theorem test_wellFormed_railOk : Instr.wellFormed (.railEnableTick 0) = true ∧ Instr.wellFormed (.railEnableTick (24)) = false := by decide +kernel

theorem test_wellFormed_monitorOk : Instr.wellFormed (.monitorSample 0 0) = true ∧ Instr.wellFormed (.monitorSample (32) 0) = false := by decide +kernel

theorem test_wellFormed_sampleOk : Instr.wellFormed (.monitorSample 0 0) = true ∧ Instr.wellFormed (.monitorSample 0 (4096)) = false := by decide +kernel

theorem test_wellFormed_domainOk : Instr.wellFormed (.domainPgFail 0) = true ∧ Instr.wellFormed (.domainPgFail (96)) = false := by decide +kernel

theorem test_wellFormed_slotOk : Instr.wellFormed (.pwrStateService 0) = true ∧ Instr.wellFormed (.pwrStateService (16)) = false := by decide +kernel

theorem test_wellFormed_clientOk : Instr.wellFormed (.load 0 0) = true ∧ Instr.wellFormed (.load (32) 0) = false := by decide +kernel

theorem test_wellFormed_stackOk : Instr.wellFormed (.stkTrainAttempt 0) = true ∧ Instr.wellFormed (.stkTrainAttempt (16)) = false := by decide +kernel

theorem test_wellFormed_cellBodyOk : Instr.wellFormed (.cellReceive 0 0 (List.replicate 1024 0)) = true ∧ Instr.wellFormed (.cellReceive 0 0 []) = false := by decide +kernel

theorem test_wellFormed_linkOk : Instr.wellFormed (.tvlTrainAttempt 0) = true ∧ Instr.wellFormed (.tvlTrainAttempt (32 + 1)) = false := by decide +kernel

theorem test_wellFormed_configOk : Instr.wellFormed (.configFlit 0 (List.replicate 20 0)) = true ∧ Instr.wellFormed (.configFlit 0 []) = false := by decide +kernel

theorem test_wellFormed_slotsOk : Instr.wellFormed (.flitReceive 0 0 [] 0 false 0) = true ∧ Instr.wellFormed (.flitReceive 0 0 (List.replicate 16 0) 0 false 0) = false := by decide +kernel

theorem test_wellFormed_tvPortOk : Instr.wellFormed (.tvlDisable 0) = true ∧ Instr.wellFormed (.tvlDisable (16)) = false := by decide +kernel

theorem test_wellFormed_ethPortOk : Instr.wellFormed (.ethFrameReceive 0 0 false none none .pause 0 0) = true ∧ Instr.wellFormed (.ethFrameReceive (32) 0 false none none .pause 0 0) = false := by decide +kernel

theorem test_wellFormed_prioOk : Instr.wellFormed (.pfcPauseExpiry 0 0) = true ∧ Instr.wellFormed (.pfcPauseExpiry 0 (8)) = false := by decide +kernel

theorem test_wellFormed_u24 : Instr.wellFormed (.cmReq 0 0 0 0 0 0 0 0 false) = true ∧ Instr.wellFormed (.cmReq 0 0 0 0 (2 ^ 24) 0 0 0 false) = false := by decide +kernel

theorem test_wellFormed_qpOk : Instr.wellFormed (.cmRtu 0 0 0) = true ∧ Instr.wellFormed (.cmRtu 0 0 (1048576)) = false := by decide +kernel

theorem test_wellFormed_cirOk : Instr.wellFormed (.cirConsumerReq 0 0 0 0 0 0 0 0 0 0 0 false) = true ∧ Instr.wellFormed (.cirConsumerReq 0 0 0 0 0 0 0 (256) 0 0 0 false) = false := by decide +kernel

theorem test_wellFormed_ssnOk : Instr.wellFormed (.wAtomic 0 0 0 0 0 0 0) = true ∧ Instr.wellFormed (.wAtomic 0 0 (65536) 0 0 0 0) = false := by decide +kernel

theorem test_wellFormed_mseqOk : Instr.wellFormed (.applied 0) = true ∧ Instr.wellFormed (.applied (2 ^ 48)) = false := by decide +kernel

theorem test_wellFormed_u32 : Instr.wellFormed (.lease 0 0 0) = true ∧ Instr.wellFormed (.lease (2 ^ 32) 0 0) = false := by decide +kernel

theorem test_wellFormed_ownerOk : Instr.wellFormed (.bufferAlloc 0 0 0 false false none) = true ∧ Instr.wellFormed (.bufferAlloc (256) 0 0 false false none) = false := by decide +kernel

theorem test_wellFormed_poolOk : Instr.wellFormed (.bufferAlloc 0 0 0 false false none) = true ∧ Instr.wellFormed (.bufferAlloc 0 (4) 0 false false none) = false := by decide +kernel

theorem test_wellFormed_targetOk : Instr.wellFormed (.intClaim 0) = true ∧ Instr.wellFormed (.intClaim (21)) = false := by decide +kernel

theorem test_wellFormed_sourceOk : Instr.wellFormed (.intComplete 0 0) = true ∧ Instr.wellFormed (.intComplete 0 (0x480 + 1)) = false := by decide +kernel

theorem test_wellFormed_beOk : Instr.wellFormed (.registerWrite 0 0 0 0) = true ∧ Instr.wellFormed (.registerWrite 0 (16) 0 0) = false := by decide +kernel

theorem test_wellFormed_regAddrOk : Instr.wellFormed (.registerWrite 0 0 0 0) = true ∧ Instr.wellFormed (.registerWrite 0 0 (2 ^ 26) 0) = false := by decide +kernel

theorem test_wellFormed_windowOk : Instr.wellFormed (.unmappedAccess 0 0 0 false) = true ∧ Instr.wellFormed (.unmappedAccess 0 (64) 0 false) = false := by decide +kernel

theorem test_wellFormed_bankOk : Instr.wellFormed (.flashEraseDone 0 false) = true ∧ Instr.wellFormed (.flashEraseDone (2) false) = false := by decide +kernel

theorem test_wellFormed_codeOk : Instr.wellFormed (.daybookRecord 0 []) = true ∧ Instr.wellFormed (.daybookRecord (65536) []) = false := by decide +kernel

theorem test_wellFormed_payloadOk : Instr.wellFormed (.daybookRecord 0 []) = true ∧ Instr.wellFormed (.daybookRecord 0 (List.replicate 9 0)) = false := by decide +kernel

theorem test_wellFormed_purposeOk : Instr.wellFormed (.unlockChallenge 0 0) = true ∧ Instr.wellFormed (.unlockChallenge 0 (4)) = false := by decide +kernel

theorem test_wellFormed_whoOk : Instr.wellFormed (.kceRequest 0 0 0 [] []) = true ∧ Instr.wellFormed (.kceRequest (2) 0 0 [] []) = false := by decide +kernel

theorem test_wellFormed_keySlotOk : Instr.wellFormed (.kceRequest 0 0 0 [] []) = true ∧ Instr.wellFormed (.kceRequest 0 (32) 0 [] []) = false := by decide +kernel

theorem test_wellFormed_useOk : Instr.wellFormed (.kceRequest 0 0 0 [] []) = true ∧ Instr.wellFormed (.kceRequest 0 0 (3) [] []) = false := by decide +kernel

theorem test_wellFormed_sbChOk : Instr.wellFormed (.sbTransaction 0 0 [] 0 false false false) = true ∧ Instr.wellFormed (.sbTransaction (4) 0 [] 0 false false false) = false := by decide +kernel

theorem test_wellFormed_sbAddrOk : Instr.wellFormed (.sbTransaction 0 0 [] 0 false false false) = true ∧ Instr.wellFormed (.sbTransaction 0 (128) [] 0 false false false) = false := by decide +kernel

theorem test_wellFormed_testModeOk : Instr.wellFormed (.dramBusTest 0 0 0) = true ∧ Instr.wellFormed (.dramBusTest 0 0 (4)) = false := by decide +kernel

theorem test_wellFormed_laneOk : Instr.wellFormed (.checkerLock 0 false) = true ∧ Instr.wellFormed (.checkerLock (130) false) = false := by decide +kernel

/-! ### Hypotheses met -/


/-! ### The worked examples of the chapters -/

/-- The header of chapter 9 (R215): DATA, FSEQ 0x2A1, ACKSEQ 0x10F, 18 Response credits, FIRST_SLOT 3. -/
theorem test_flit_header : ({ ackTx := 0x10F, cntRs := 18, crTurn := 1 } : TvLink).header twinLk { ty := 1, fseq := 0x2A1, first := 3 } false =
    0x000300049043CA85#64 := by decide +kernel

/-- The stack request of chapter 6 (R149): TILE_READ, TAG 0x12D, SHELF 0x2A31, TILE 0x3456, MASK 0x0080. -/
theorem test_stack_header : ({ op := 1, tag := 0x12D, shelf := 0x2A31, tile := 0x3456, mask := 0x80 } : StkReq).header =
    [1, 0, 0x2D, 1, 0x31, 0x2A, 0, 0, 0x56, 0x34, 0x80] ++ List.replicate 21 0 := by decide +kernel

/-- The mapping of chapter 5 (R116): folio 0x1_3163_4567 in 133,629,952 sets. -/
theorem test_set_of_folio : ({ State.reset with fch.sets := 133629952 } : State).setOf 0x131634567 = 0x2B7D93F := by decide +kernel

/-- The entry of chapter 3 (R72): line 0x26_2C68_ACF1 of tenant 0x01A, epoch 0x3E9, SEQ 0, CRC 0x5A3C. -/
theorem test_accession_entry : mkEntry 0x262C68ACF1 0x01A 0x3E9 0 0x5A3C 0 = 0x000000168F00000FA40680262C68ACF1#128 := by decide +kernel

/-- The STORE_FULL header of chapter 10 (R237). -/
theorem test_store_header : hMap 0x003EE042000123456788000710322026#128 = 7 ∧
    hOffset 0x003EE042000123456788000710322026#128 = 0x1234567880 ∧ hStream 0x003EE042000123456788000710322026#128 = 0x021 ∧
    hSsn 0x003EE042000123456788000710322026#128 = 0x01F7 ∧ hTag 0x003EE042000123456788000710322026#128 = 0x032 := by decide +kernel

/-- The address of chapter 7 (R170, R171): line address 0x2A5_3C6D_7880 / 128 with 16 channels of 8 ranks. -/
theorem test_dram_address :
    let s : State := { State.reset with dmc := { pop := upTo 16, chs := [(7, { rankBits := 3 })] } }
    s.chanOf (0x2A53C6D7880 / 128) = 7 ∧ s.localOf (0x2A53C6D7880 / 128) = 0x54A78DB1 ∧ s.rowOf 7 0x54A78DB1 = 0xA94F ∧
      s.bgOf 7 0x54A78DB1 = 2 ∧ s.baOf 7 0x54A78DB1 = 0 ∧ cbOf 0x54A78DB1 = 113 := by decide +kernel

/-- The code word of chapter 8 (R193, R194): check symbols 0x0030, 0x0027, 0x0009 as stored. -/
theorem test_line_code : rsCheck (BitVec.ofNat 1024 (5 * 2 ^ 240)) 0x20212B70443F001A#64 0 = (0x0030, 0x0027, 0x0009) := by decide +kernel

/-- A PRBS7 of x^7 + x^6 + 1 repeats after 127 bits and not before, and holds 64 ones (R485, by the theory of such patterns). -/
theorem test_prbs_period :
    let p := prbsRun (prbsTaps 1) 127 0x7F
    p.1 = 0x7F ∧ (p.2.filter id).length = 64 ∧ p.2.take 7 = [false, false, false, false, false, false, true] := by decide +kernel

/-- Gray-coded symbols, the first bit the more significant: 00, 01, 11, 10 are the levels 0 to 3 (R485). -/
theorem test_pam4 : pam4 [false, false, false, true, true, true, true, false] = [0, 1, 2, 3] := by decide +kernel

/-- The generator polynomial of RS(528,514), lowest power first (R145; the values are IEEE 802.3 Clause 91's). -/
theorem test_stack_code : rsGen 14 = [432, 290, 945, 265, 592, 391, 614, 900, 925, 656, 32, 701, 6, 904] := by decide +kernel
/-- States and operands that meet the hypotheses of each clause of `Obligations.StepTakesTheFrontCommand`. -/
theorem test_witness_StepTakesTheFrontCommand :
    (∃ (s : State), s.pending = [] ∧ s.sup.offAfter = false ∧ s.shelfBad = false ∧ s.lpr.wq = [] ∧ s.lpr.retry = [] ∧
      s.dmc.chs = [] ∧ (s.timeUs + 1) % 1000 ≠ 0) ∧
    (∃ (s u v : State), s.pending = [] ∧ (u = ({ s with timeUs := s.timeUs + 1 }).shelfRepair.dmcTick) ∧ v = (if u.timeUs %
      1000 = 0 then (u.stk.links.map (·.1)).foldl State.stkBeat u else u) ∧ (v.sup.offAfter = false ∨ v.twn.handover ≠
      none)) ∧
    (∃ (s u v : State), s.pending = [] ∧ (u = ({ s with timeUs := s.timeUs + 1 }).shelfRepair.dmcTick) ∧ v = (if u.timeUs %
      1000 = 0 then (u.stk.links.map (·.1)).foldl State.stkBeat u else u) ∧ v.sup.offAfter = true ∧ v.twn.handover = none) :=
  ⟨⟨State.reset, by decide +kernel⟩,
    ⟨State.reset, ({ (State.reset) with timeUs := ((State.reset)).timeUs + 1 } : State).shelfRepair.dmcTick,
      (if (({ (State.reset) with timeUs := ((State.reset)).timeUs + 1 } : State).shelfRepair.dmcTick).timeUs % 1000 = 0 then ((({ (State.reset) with timeUs := ((State.reset)).timeUs + 1 } : State).shelfRepair.dmcTick).stk.links.map (·.1)).foldl State.stkBeat (({ (State.reset) with timeUs := ((State.reset)).timeUs + 1 } : State).shelfRepair.dmcTick) else (({ (State.reset) with timeUs := ((State.reset)).timeUs + 1 } : State).shelfRepair.dmcTick)),
      by decide +kernel⟩,
    ⟨{ State.reset with sup.offAfter := true },
      ({ ({ State.reset with sup.offAfter := true }) with timeUs := (({ State.reset with sup.offAfter := true })).timeUs + 1 } : State).shelfRepair.dmcTick,
      (if (({ ({ State.reset with sup.offAfter := true }) with timeUs := (({ State.reset with sup.offAfter := true })).timeUs + 1 } : State).shelfRepair.dmcTick).timeUs % 1000 = 0 then ((({ ({ State.reset with sup.offAfter := true }) with timeUs := (({ State.reset with sup.offAfter := true })).timeUs + 1 } : State).shelfRepair.dmcTick).stk.links.map (·.1)).foldl State.stkBeat (({ ({ State.reset with sup.offAfter := true }) with timeUs := (({ State.reset with sup.offAfter := true })).timeUs + 1 } : State).shelfRepair.dmcTick) else (({ ({ State.reset with sup.offAfter := true }) with timeUs := (({ State.reset with sup.offAfter := true })).timeUs + 1 } : State).shelfRepair.dmcTick)),
      by decide +kernel⟩⟩

/-- States and operands that meet the hypotheses of each clause of `Obligations.EveryStepKeepsTheCanonicalForm`. -/
theorem test_witness_EveryStepKeepsTheCanonicalForm :
    (∃ (s t : State), Canon s ∧ step s = .next t) :=
  ⟨State.reset, { State.reset with timeUs := 1 }, by unfold Canon; decide +kernel, rfl⟩

/-- States and operands that meet the hypotheses of each clause of `Obligations.EveryCommandAnswersANextState`. -/
theorem test_witness_EveryCommandAnswersANextState :
    (∃ (s : State), Canon s) :=
  ⟨State.reset, by unfold Canon; decide +kernel⟩

/-- States and operands that meet the hypotheses of each clause of `Obligations.TrafficLeavesTheHeldPart`. -/
theorem test_witness_TrafficLeavesTheHeldPart :
    (∃ (c : Instr) (s : State), writesHeld c = false ∧ s.stores.wf = true) :=
  ⟨.hoursCheckpoint, State.reset, by decide +kernel⟩

/-- States and operands that meet the hypotheses of each clause of `Obligations.LinesReadBack`. -/
theorem test_witness_LinesReadBack :
    (∃ (s : State) (a : Nat), a < deskKey * 32 ∧ s.lpr.armed = false ∧ s.chFailed (s.chanOf a) = false) ∧
    (∃ (s : State) (a b : Nat), s.lpr.remap = [] ∧ b ≠ a) ∧
    (∃ (s : State) (a : Nat), a < deskKey * 32 ∧ s.chFailed (s.chanOf a) = true) ∧
    (∃ (s : State) (a : Nat), a < deskKey * 32 ∧ s.lpr.remap = [] ∧ s.dline a = {}) :=
  ⟨⟨State.reset, 0, by decide +kernel⟩,
    ⟨State.reset, 0, 1, by decide +kernel⟩,
    ⟨{ State.reset with dmc := { pop := [0], bytes := 128, chs := [(0, { st := 5 })] } }, 0, by decide +kernel⟩,
    ⟨State.reset, 0, by decide +kernel⟩⟩

/-- States and operands that meet the hypotheses of each clause of `Obligations.ReplayLimit`. -/
theorem test_witness_ReplayLimit :
    (∃ (s : State) (lk : Nat), 7 ≤ (s.tvl_ lk).replays) ∧
    (∃ (s : State) (lk : Nat), (s.tvl_ lk).replays < 7) ∧
    (∃ (s : State) (lk a : Nat), a < 4096 ∧ (s.tvl_ lk).ackRx < 4096 ∧ a ≠ (s.tvl_ lk).ackRx ∧ (s.tvl_ lk).st = 4 ∧ (a +
      4096 - (s.tvl_ lk).ackRx) % 4096 ≤ ((s.tvl_ lk).fseq + 4096 - (s.tvl_ lk).ackRx) % 4096) :=
  ⟨⟨{ State.reset with tvl.links := [(0, { replays := 7 })] }, 0, by decide +kernel⟩,
    ⟨State.reset, 0, by decide +kernel⟩,
    ⟨{ State.reset with tvl.links := [(0, { st := 4, fseq := 1 })] }, 0, 1, by decide +kernel⟩⟩

/-- States and operands that meet the hypotheses of each clause of `Obligations.ImageFloor`. -/
theorem test_witness_ImageFloor :
    (∃ (s : State) (n f : Nat), s.turn n 0x43 ∧ (s.slot n).arg 0 4 = f ∧ (f < s.rgc.floor ∨ numAt s.rgc.header 12 4 < f)) ∧
    (∃ (s : State) (n f : Nat), s.turn n 0x43 ∧ (s.slot n).arg 0 4 = f ∧ s.rgc.floor ≤ f ∧ f ≤ numAt s.rgc.header 12 4) :=
  ⟨⟨{ req 0 [0x00040043] with rgc.floor := 1 }, 0, 0, by unfold State.turn; decide +kernel, by decide +kernel⟩,
    ⟨req 0 [0x00040043], 0, 0, by unfold State.turn; decide +kernel, by decide +kernel⟩⟩

/-- States and operands that meet the hypotheses of each clause of `Obligations.MailboxSlots`. -/
theorem test_witness_MailboxSlots :
    (∃ (s : State) (n : Nat), n < 16 ∧ ((s.slot n).st = 0 ∨ (s.slot n).st = 3)) ∧
    (∃ (s : State) (n : Nat), n < 16 ∧ ((s.slot n).st = 1 ∨ (s.slot n).st = 2)) ∧
    (∃ (s : State) (a : Nat), ((s.slot ((a - 0x701000) / 256)).st = 1 ∨ (s.slot ((a - 0x701000) / 256)).st = 2)) ∧
    (∃ (s : State) (a : Nat), a % 256 < 240 ∧ (s.slot ((a - 0x701000) / 256)).st ≠ 1 ∧ (s.slot ((a - 0x701000) / 256)).st ≠
      2) ∧
    (∃ (a : Nat), 0x701000 ≤ a ∧ a < 0x702000 ∧ a % 4 = 0) ∧
    (∃ (a : Nat), a % 256 < 240) ∧
    (∃ (s : State) (n : Nat), svcKind (s.slot n).svc ≠ 1 ∧ s.isNext n = true) ∧
    (∃ (s : State) (n : Nat), svcKind (s.slot n).svc = 1 ∧ s.isNext n = true) ∧
    (∃ (s : State) (n : Nat), s.isNext n = false) ∧
    (∃ (s : State) (n : Nat) (r : Nat × Nat × List Byte), n < 16 ∧ (s.slot n).st = 2 ∧ (s.slot n).out = some r) ∧
    (∃ (s : State) (n : Nat), n < 16 ∧ (s.slot n).st = 1 ∧ s.mailServes = true ∧ s.isNext n = true ∧ (s.slot n).unknown =
      true) ∧
    (∃ (r : Nat × Nat × List Byte), r.2.2.length ≤ 224) :=
  ⟨⟨State.reset, 15, by decide +kernel⟩,
    ⟨req 15 [0x34], 15, by decide +kernel⟩,
    ⟨req 15 [0x34], 0x701F00, by decide +kernel⟩,
    ⟨State.reset, 0x7010EC, by decide +kernel⟩,
    ⟨0x701FFC, by decide +kernel⟩,
    ⟨0x701FEC, by decide +kernel⟩,
    ⟨req 15 [0x34], 15, by decide +kernel⟩,
    ⟨req 0 [0x10], 0, by decide +kernel⟩,
    ⟨State.reset, 0, by decide +kernel⟩,
    ⟨{ req 15 [0x34] with rgc.slots := [(15, { st := 2, out := some (0, 0, []) })] }, 15, (0, 0, []),
      by decide +kernel⟩,
    ⟨req 15 [0xFE], 15, by decide +kernel⟩,
    ⟨(0, 0, List.replicate 224 0), by decide +kernel⟩⟩

/-- States and operands that meet the hypotheses of each clause of `Obligations.ResetCommands`. -/
theorem test_witness_ResetCommands :
    (∃ (s : State), s.coldReset.readSupply.flag fSUP_CTRL_AUTO_ON = false) ∧
    (∃ (s : State), s.coldReset.readSupply.flag fSUP_CTRL_AUTO_ON = true) ∧
    (∃ (s : State), s.sup.aon = true ∧ s.cru.pinHeld = false ∧ s.rsv.ph = .off ∧ s.sup.seq = 2) ∧
    (∃ (s : State), s.sup.aon = true ∧ s.cru.pinHeld = false ∧ (s.rsv.ph ≠ .off ∨ s.sup.seq = 0 ∨ s.sup.seq = 3 ∨ s.sup.seq
      = 4)) ∧
    (∃ (s : State), s.cru.pinHeld = true) :=
  ⟨⟨{ State.reset with rgc.cfg := [(72, 0), (728, 0xea#8), (729, 0xd8#8), (730, 0x93#8), (731, 0x75#8)] },
      autoOn_supply (l := [1]) (by unfold State.copyOrder State.seqRank; rw [supplyOk_strict]; decide +kernel) (by rw [supplyOk_strict]; decide +kernel) (by decide +kernel)⟩,
    ⟨{ State.reset with rgc.cfg := [(728, 0x9f#8), (729, 0x48#8), (730, 0x18#8), (731, 0x22#8)] },
      autoOn_supply (l := [1]) (by unfold State.copyOrder State.seqRank; rw [supplyOk_strict]; decide +kernel) (by rw [supplyOk_strict]; decide +kernel) (by decide +kernel)⟩,
    ⟨{ State.reset with sup.seq := 2 }, by decide +kernel⟩,
    ⟨State.reset, by decide +kernel⟩,
    ⟨{ State.reset with cru.pinHeld := true }, by decide +kernel⟩⟩

/-- States and operands that meet the hypotheses of each clause of `Obligations.StartAndWatchdog`. -/
theorem test_witness_StartAndWatchdog :
    (∃ (s : State), s.cru.startDue = true ∧ s.cru.pinHeld = false ∧ s.cru.xtalHeld = false ∧ s.sup.seq = 2) ∧
    (∃ (s : State) (cause : Nat), s.pwr.st = .starting ∧ s.cru.failed = false ∧ s.cru.pinHeld = false ∧ s.cru.xtalHeld =
      false ∧ cause ≠ 0) ∧
    (∃ (s : State), s.pwr.st = .starting ∧ s.cru.failed = false ∧ s.cru.pinHeld = false ∧ s.cru.xtalHeld = false ∧
      s.cru.step = 2) ∧
    (∃ (s : State), s.pwr.st = .starting ∧ s.cru.failed = false ∧ s.cru.pinHeld = false ∧ s.cru.xtalHeld = false ∧
      s.cru.step = 11) ∧
    (∃ (s : State), s.coreRuns = true ∧ s.rgc.halted = false ∧ (2 ≤ (s.cru.expiries.filter (fun t => decide (s.timeUs < t +
      60000000))).length)) ∧
    (∃ (value : Nat), value % 65536 = 0xFEED) ∧
    (∃ (path value : Nat), (path ≠ 1 ∨ value % 65536 ≠ 0xFEED)) ∧
    (∃ (s : State) (block : Nat), s.coreRuns = true ∧ block ≤ 27) ∧
    (∃ (s : State) (block : Nat), s.coreRuns = true ∧ 27 < block ∧ block < 64) :=
  ⟨⟨{ State.reset with cru.startDue := true, sup.seq := 2 }, by decide +kernel⟩,
    ⟨{ State.reset with pwr.st := .starting }, 1, by decide +kernel⟩,
    ⟨{ State.reset with pwr.st := .starting, cru.step := 2 }, by decide +kernel⟩,
    ⟨{ State.reset with pwr.st := .starting, cru.step := 11 }, by decide +kernel⟩,
    ⟨{ live with cru.expiries := [0, 0] }, by decide +kernel⟩,
    ⟨0xFEED, by decide +kernel⟩,
    ⟨0, 0xFEED, by decide +kernel⟩,
    ⟨live, 27, by decide +kernel⟩,
    ⟨live, 28, by decide +kernel⟩⟩

/-- States and operands that meet the hypotheses of each clause of `Obligations.ClockEvents`. -/
theorem test_witness_ClockEvents :
    (∃ (s : State) (g : Nat), g < 4 ∧ g ≠ 1 ∧ bitOf s.cru.refOk g = true) ∧
    (∃ (s : State), bitOf s.cru.refOk 1 = true ∧ (∀ e < 32, (s.ethPort e).up = false)) ∧
    (∃ (s : State) (g : Nat), g < 4 ∧ bitOf s.cru.refOk g = false) ∧
    (∃ (s : State) (ch : Nat), ch < 16 ∧ s.coreOn = true ∧ s.cru.dmcPll.contains ch = false) ∧
    (∃ (s : State) (ch : Nat), s.cru.dmcPll.contains ch = true) ∧
    (∃ (s : State) (ch : Nat), s.cru.dmcPll.contains ch = true) ∧
    (∃ (s : State) (pll : Nat), s.coreOn = true ∧ pll < 5 ∧ pll ≠ 1 ∧ s.rsv.ph = .off) ∧
    (∃ (s : State) (pll : Nat), s.coreOn = true ∧ pll < 5 ∧ pll ≠ 1 ∧ s.rsv.ph ≠ .off) ∧
    (∃ (s : State), s.rsv.ph = .off ∧ s.cru.xtalHeld = false ∧ s.coreOn = true) ∧
    (∃ (s : State), s.cru.xtalHeld = true) ∧
    (∃ (s : State), s.cru.xtalHeld = false) :=
  ⟨⟨{ State.reset with cru.refOk := 8 }, 3, by decide +kernel⟩,
    ⟨{ State.reset with cru.refOk := 2 }, by decide +kernel⟩,
    ⟨State.reset, 3, by decide +kernel⟩,
    ⟨live, 15, by decide +kernel⟩,
    ⟨{ live with cru.dmcPll := [15] }, 15, by decide +kernel⟩,
    ⟨{ live with cru.dmcPll := [0] }, 0, by decide +kernel⟩,
    ⟨live, 4, by decide +kernel⟩,
    ⟨{ live with rsv.ph := .entry }, 0, by decide +kernel⟩,
    ⟨live, by decide +kernel⟩,
    ⟨{ State.reset with cru.xtalHeld := true }, by decide +kernel⟩,
    ⟨State.reset, by decide +kernel⟩⟩

/-- States and operands that meet the hypotheses of each clause of `Obligations.RailEvents`. -/
theorem test_witness_RailEvents :
    (∃ (s : State) (n : Nat), s.sup.seq = 1 ∧ s.isRail n = true ∧ (s.rail n).st = 1 ∧ s.depsGood n = true) ∧
    (∃ (s : State) (n : Nat), s.isRail n = true ∧ (s.rail n).st = 1 ∧ s.depsGood n = false) ∧
    (∃ (s : State) (n : Nat), s.isRail n = true ∧ (s.rail n).st = 2) ∧
    (∃ (s : State) (n : Nat), s.isRail n = true ∧ (s.rail n).en = false ∧ (s.rail n).st = 4) ∧
    (∃ (s : State) (n : Nat), s.isRail n = true ∧ (s.rail n).st = 2 ∧ s.flag (fSUP_RAIL_CFG_FATAL.plus (16 * n)) = true ∧
      s.sup.seq ≠ 3 ∧ s.rsv.ph = .off) ∧
    (∃ (s : State) (n : Nat), s.isRail n = true ∧ (s.rail n).st = 3 ∧ (s.rail n).en = true ∧ s.flag
      (fSUP_RAIL_CFG_FATAL.plus (16 * n)) = true ∧ s.sup.seq ≠ 3 ∧ s.rsv.ph = .off) ∧
    (∃ (s : State) (n : Nat), s.isRail n = true ∧ s.flag (fSUP_RAIL_CFG_FATAL.plus (16 * n)) = true ∧ s.sup.seq ≠ 3 ∧
      s.rsv.ph ≠ .off) ∧
    (∃ (s : State) (n : Nat), s.isRail n = true ∧ (s.rail n).en = true ∧ s.sup.seq = 3 ∧ (s.rail n).kept = false) ∧
    (∃ (s : State) (n : Nat), s.sup.seq = 3 ∧ s.isRail n = true ∧ (s.rail n).en = false ∧ (s.rail n).pg = true ∧ (s.rail
      n).st ≠ 6) :=
  ⟨⟨{ State.reset with regs := [(0x100108, 1)], sup := { seq := 1, rails := [(0, { st := 1 })] } }, 0,
      by decide +kernel⟩,
    ⟨{ State.reset with regs := [(0x100104, 2), (0x100108, 1), (0x100118, 1)], sup := { seq := 1, rails := [(1, { st := 1 })] } },
      1, by decide +kernel⟩,
    ⟨{ State.reset with regs := [(0x100108, 1)], sup := { seq := 1, rails := [(0, { st := 2, en := true })] } }, 0,
      by decide +kernel⟩,
    ⟨{ State.reset with regs := [(0x100278, 1)], sup := { seq := 3, rails := [(23, { st := 4, pg := true })] } }, 23,
      by decide +kernel⟩,
    ⟨{ State.reset with regs := [(0x100108, 5)], sup := { seq := 1, rails := [(0, { st := 2, en := true })] } }, 0,
      by decide +kernel⟩,
    ⟨{ State.reset with regs := [(0x100108, 5)], sup := { seq := 2, rails := [(0, { st := 3, en := true, pg := true })] } },
      0, by decide +kernel⟩,
    ⟨{ State.reset with regs := [(0x100108, 5)], sup := { seq := 2, rails := [(0, { st := 3, en := true, pg := true })] }, rsv.ph := .entry },
      0, by decide +kernel⟩,
    ⟨{ State.reset with regs := [(0x100108, 1)], sup := { seq := 3, rails := [(0, { st := 3, en := true, pg := true })] } },
      0, by decide +kernel⟩,
    ⟨{ State.reset with regs := [(0x100108, 1)], sup := { seq := 3, rails := [(0, { st := 4, pg := true })] } }, 0,
      by decide +kernel⟩⟩

/-- States and operands that meet the hypotheses of each clause of `Obligations.PowerRequestsAndButtons`. -/
theorem test_witness_PowerRequestsAndButtons :
    (∃ (s : State), s.sup.aon = true ∧ (s.sup.seq = 3 ∨ s.sup.seq = 4)) ∧
    (∃ (s : State), s.sup.aon = true ∧ s.sup.seq = 0) ∧
    (∃ (s : State), s.rsv.ph ≠ .off) ∧
    (∃ (s : State), s.rsv.ph = .off ∧ (s.sup.seq = 1 ∨ s.sup.seq = 2)) ∧
    (∃ (s : State), s.sup.seq = 4 ∧ s.sup.onLatched = false) ∧
    (∃ (s : State), s.sup.seq = 4 ∧ s.sup.onLatched = true ∧ s.sup.aon = true) ∧
    (∃ (s : State), s.sup.vaultOff = true ∧ s.flag fSUP_CTRL_RESTART = true ∧ s.sup.aon = true ∧ s.sup.seq = 0) ∧
    (∃ (s : State), s.sup.vaultOff = true ∧ s.flag fSUP_CTRL_RESTART = false) ∧
    (∃ (s : State), s.sup.aon = true ∧ s.rsv.ph = .off ∧ (s.sup.seq = 3 ∨ s.sup.seq = 4)) ∧
    (∃ (s : State), s.sup.aon = true ∧ s.rsv.ph = .off ∧ s.sup.seq = 2 ∧ (s.pwr.st = .service ∨ s.pwr.st = .trimmed ∨
      s.pwr.st = .quiesced) ∧ (s.rsv.overB = true ∨ s.rsv.monBad = true)) ∧
    (∃ (s w : State), s.sup.aon = true ∧ s.rsv.ph = .off ∧ s.sup.seq = 2 ∧ (s.pwr.st = .service ∨ s.pwr.st = .trimmed ∨
      s.pwr.st = .quiesced) ∧ s.rsv.overB = false ∧ s.rsv.monBad = false ∧ s.vaultMay = true ∧ (s.bumpFld
      fSUP_CNT_BTN_PRESSES).pressed 2 3 = w) ∧
    (∃ (s : State), s.sup.aon = true ∧ s.rsv.ph = .off ∧ s.sup.seq = 2 ∧ (s.pwr.st = .service ∨ s.pwr.st = .trimmed ∨
      s.pwr.st = .quiesced) ∧ s.rsv.overB = false ∧ s.rsv.monBad = false ∧ s.vaultMay = false) ∧
    (∃ (s : State), s.sup.aon = true ∧ s.rsv.ph = .off ∧ (s.sup.seq = 3 ∨ s.sup.seq = 4)) ∧
    (∃ (s : State), s.sup.aon = true ∧ s.rsv.ph = .off ∧ s.sup.seq = 2 ∧ (s.pwr.st = .service ∨ s.pwr.st = .trimmed ∨
      s.pwr.st = .quiesced)) ∧
    (∃ (s : State), s.rsv.ph ≠ .off) :=
  ⟨⟨{ State.reset with sup.seq := 4 }, by decide +kernel⟩,
    ⟨State.reset, by decide +kernel⟩,
    ⟨{ State.reset with rsv.ph := .header }, by decide +kernel⟩,
    ⟨{ State.reset with sup.seq := 1 }, by decide +kernel⟩,
    ⟨{ State.reset with sup.seq := 4 }, by decide +kernel⟩,
    ⟨{ State.reset with sup.seq := 4, sup.onLatched := true }, by decide +kernel⟩,
    ⟨{ State.reset with sup.vaultOff := true, regs := [(fSUP_CTRL_RESTART.addr, BitVec.ofNat 32 (2 ^ fSUP_CTRL_RESTART.lo))] },
      by decide +kernel⟩,
    ⟨{ State.reset with sup.vaultOff := true }, by decide +kernel⟩,
    ⟨{ State.reset with sup.seq := 3 }, by decide +kernel⟩,
    ⟨{ live with rsv.overB := true }, by decide +kernel⟩,
    ⟨{ live with rsv.armed := true, regs := [(fRSV_CTRL_VAULT_ARM.addr, 0xFFFFFFFF)] },
      (({ live with rsv.armed := true, regs := [(fRSV_CTRL_VAULT_ARM.addr, 0xFFFFFFFF)] }).bumpFld fSUP_CNT_BTN_PRESSES).pressed 2 3,
      by decide +kernel, by decide +kernel, by decide +kernel, by decide +kernel, by decide +kernel, by decide +kernel,
      by decide +kernel, rfl⟩,
    ⟨live, by decide +kernel⟩,
    ⟨{ State.reset with sup.seq := 3 }, by decide +kernel⟩,
    ⟨live, by decide +kernel⟩,
    ⟨{ State.reset with rsv.ph := .sealing }, by decide +kernel⟩⟩

/-- States and operands that meet the hypotheses of each clause of `Obligations.MonitorsAndMargins`. -/
theorem test_witness_MonitorsAndMargins :
    (∃ (s : State) (ch v : Nat), ch < 32 ∧ v < 4096 ∧ s.sup.aon = true ∧ s.fld (fSUP_MON_THR_LO.plus (16 * ch)) ≤ v ∧ v ≤
      s.fld (fSUP_MON_THR_HI.plus (16 * ch))) ∧
    (∃ (s : State) (ch v : Nat), ch < 32 ∧ v < 4096 ∧ s.sup.aon = true ∧ s.fld (fSUP_MON_THR_HI.plus (16 * ch)) < v ∧ s.flag
      (fSUP_MON_CFG_ALARM_EN.plus (16 * ch)) = true ∧ s.fld (fSUP_MON_CFG_COUNT.plus (16 * ch)) = (s.mon ch).run + 1 ∧
      (s.mon ch).alarm = false) ∧
    (∃ (s : State) (ch : Nat) (dev : Int), ch < 32 ∧ s.sup.aon = true ∧ (s.mon ch).faulty = false ∧ (dev < -8 ∨ 8 < dev)) ∧
    (∃ (s : State) (ch : Nat) (dev : Int), ch < 32 ∧ s.sup.aon = true ∧ -8 ≤ dev ∧ dev ≤ 8) ∧
    (∃ (s : State) (rail dir : Nat), rail < 24 ∧ dir < 3 ∧ s.flag fSUP_CTRL_MARGIN_EN = true ∧ s.coreRuns = true ∧ s.fld
      (fSUP_RAIL_CFG_PMBUS_ADDR.plus (16 * rail)) ≠ 0) ∧
    (∃ (s : State), s.flag fSUP_CTRL_MARGIN_EN = false) ∧
    (∃ (s : State) (d : Nat), d < 96 ∧ s.coreOn = true) :=
  ⟨⟨State.reset, 31, 0, by decide +kernel⟩,
    ⟨{ State.reset with regs := [(fSUP_MON_CFG_ALARM_EN.addr, BitVec.ofNat 32 (2 ^ fSUP_MON_CFG_ALARM_EN.lo + 2 ^ fSUP_MON_CFG_COUNT.lo))] },
      0, 4095, by decide +kernel⟩,
    ⟨State.reset, 31, 9, by decide +kernel⟩,
    ⟨State.reset, 31, 8, by decide +kernel⟩,
    ⟨{ live with regs := [(fSUP_CTRL_MARGIN_EN.addr, BitVec.ofNat 32 (2 ^ fSUP_CTRL_MARGIN_EN.lo)), (fSUP_RAIL_CFG_PMBUS_ADDR.addr, BitVec.ofNat 32 (2 ^ fSUP_RAIL_CFG_PMBUS_ADDR.lo))] },
      0, 2, by decide +kernel⟩,
    ⟨State.reset, by decide +kernel⟩,
    ⟨live, 95, by decide +kernel⟩⟩

/-- States and operands that meet the hypotheses of each clause of `Obligations.PowerStateServices`. -/
theorem test_witness_PowerStateServices :
    (∃ (s : State) (n : Nat), s.turn n 0x34 ∧ (s.slot n).arg 0 1 = 0 ∧ s.pwrIdle = true ∧ s.pwr.st = .trimmed) ∧
    (∃ (s : State) (n : Nat), s.turn n 0x34 ∧ (s.slot n).arg 0 1 = 0 ∧ s.pwrIdle = true ∧ s.pwr.st = .quiesced) ∧
    (∃ (s : State) (n : Nat), s.turn n 0x34 ∧ (s.slot n).arg 0 1 = 0 ∧ s.pwrIdle = false) ∧
    (∃ (s : State) (n : Nat), s.turn n 0x34 ∧ (s.slot n).arg 0 1 = 1 ∧ s.pwrIdle = true ∧ s.twn.role.serving = true) ∧
    (∃ (s : State) (n : Nat), s.turn n 0x34 ∧ (s.slot n).arg 0 1 = 1 ∧ s.pwrIdle = true ∧ s.twn.role.serving = false ∧
      s.pwr.st ≠ .quiesced) ∧
    (∃ (s : State) (n : Nat), s.turn n 0x34 ∧ (s.slot n).arg 0 1 = 2 ∧ s.pwrIdle = true ∧ s.pwr.st ≠ .quiesced) ∧
    (∃ (s : State) (n : Nat), s.turn n 0x34 ∧ (s.slot n).arg 0 1 = 2 ∧ s.pwrIdle = true ∧ s.pwr.st = .quiesced ∧ s.rsv.armed
      = false) ∧
    (∃ (s : State) (n : Nat), s.turn n 0x34 ∧ (s.slot n).arg 0 1 = 3 ∧ s.pwrIdle = true ∧ s.vaultMay = false) ∧
    (∃ (s : State) (n : Nat), s.turn n 0x34 ∧ (s.slot n).arg 0 1 = 3 ∧ s.pwrIdle = true ∧ s.vaultMay = true) :=
  ⟨⟨{ req 0 [0x00010034] with pwr.st := .trimmed }, 0, by unfold State.turn; decide +kernel, by decide +kernel⟩,
    ⟨{ req 0 [0x00010034] with pwr.st := .quiesced }, 0, by unfold State.turn; decide +kernel, by decide +kernel⟩,
    ⟨{ req 0 [0x00010034] with sup.seq := 1 }, 0, by unfold State.turn; decide +kernel, by decide +kernel⟩,
    ⟨{ req 0 [0x00010034, 0, 0, 0, 1] with twn.role := .active }, 0, by unfold State.turn; decide +kernel,
      by decide +kernel⟩,
    ⟨req 0 [0x00010034, 0, 0, 0, 1], 0, by unfold State.turn; decide +kernel, by decide +kernel⟩,
    ⟨req 0 [0x00010034, 0, 0, 0, 2], 0, by unfold State.turn; decide +kernel, by decide +kernel⟩,
    ⟨{ req 0 [0x00010034, 0, 0, 0, 2] with pwr.st := .quiesced }, 0, by unfold State.turn; decide +kernel,
      by decide +kernel⟩,
    ⟨req 0 [0x00010034, 0, 0, 0, 3], 0, by unfold State.turn; decide +kernel, by decide +kernel⟩,
    ⟨{ req 0 [0x00010034, 0, 0, 0, 3] with rsv.armed := true, regs := [(fRSV_CTRL_VAULT_ARM.addr, BitVec.ofNat 32 (2 ^ fRSV_CTRL_VAULT_ARM.lo))] },
      0, by unfold State.turn; decide +kernel, by decide +kernel⟩⟩

/-- States and operands that meet the hypotheses of each clause of `Obligations.TrimAndEnergy`. -/
theorem test_witness_TrimAndEnergy :
    (∃ (s : State) (b : Nat), s.pwr.st = .service ∧ s.flag fPWR_CTRL_TRIM_EN = true ∧ b * 256000 < s.trafficAt (s.fld
      fPWR_TRIM_ENTER) ∧ s.pwr.lowRun + 1 < s.fld fPWR_TRIM_HOLD) ∧
    (∃ (s : State) (b : Nat), s.pwr.st = .service ∧ s.flag fPWR_CTRL_TRIM_EN = true ∧ b * 256000 < s.trafficAt (s.fld
      fPWR_TRIM_ENTER) ∧ s.fld fPWR_TRIM_HOLD ≤ s.pwr.lowRun + 1) ∧
    (∃ (s : State) (b : Nat), s.pwr.st = .service ∧ s.trafficAt (s.fld fPWR_TRIM_ENTER) ≤ b * 256000) ∧
    (∃ (s : State) (b : Nat), s.pwr.st = .trimmed ∧ s.trafficAt (s.fld fPWR_TRIM_EXIT) < b * 256000) ∧
    (∃ (s : State) (c : Nat), s.pwr.st = .trimmed ∧ s.flag fPWR_CTRL_FCHG_EN = true ∧ s.speedable = true ∧ (s.dmc.pop.find?
      (fun c => !s.pwr.slowed.contains c && (s.ch c).st == 2 && s.dmcSpeed c == 12800) = some c) ∧ ((upTo 16).any (fun c =>
      (s.ch c).st == 4) = false)) ∧
    (∃ (s : State), s.pwr.st = .trimmed ∧ s.flag fPWR_CTRL_FCHG_EN = false) ∧
    (∃ (s : State), ((upTo 16).any (fun c => (s.ch c).st == 4) = true)) ∧
    (∃ (s : State), s.coreRuns = true ∧ s.pairBad = false) ∧
    (∃ (s : State), s.coreRuns = true ∧ s.efl.ready = true) :=
  ⟨⟨{ State.reset with pwr.st := .service, regs := [(fPWR_CTRL_TRIM_EN.addr, BitVec.ofNat 32 (2 ^ fPWR_CTRL_TRIM_EN.lo)), (fPWR_TRIM_ENTER.addr, 0xFFFFFFFF)] },
      0, by decide +kernel⟩,
    ⟨{ State.reset with pwr.st := .service, pwr.lowRun := 65535, regs := [(fPWR_CTRL_TRIM_EN.addr, BitVec.ofNat 32 (2 ^ fPWR_CTRL_TRIM_EN.lo)), (fPWR_TRIM_ENTER.addr, 0xFFFFFFFF)] },
      0, by decide +kernel⟩,
    ⟨{ State.reset with pwr.st := .service }, 1000000000000, by decide +kernel⟩,
    ⟨{ State.reset with pwr.st := .trimmed }, 1000000000000, by decide +kernel⟩,
    ⟨{ State.reset with pwr.st := .trimmed, dmc := { pop := [0], bytes := 128, chs := [(0, { st := 2 })] }, regs := [(0x300000, 3), (0x1000008, 0x00810000), (0x1000110, 0x32000000)] },
      0, by decide +kernel⟩,
    ⟨{ State.reset with pwr.st := .trimmed }, by decide +kernel⟩,
    ⟨{ State.reset with dmc.chs := [(15, { st := 4 })] }, by decide +kernel⟩,
    ⟨mons1, by decide +kernel, mons1_pairs⟩,
    ⟨{ live with efl.ready := true }, by decide +kernel⟩⟩

/-- States and operands that meet the hypotheses of each clause of `Obligations.VaultCommands`. -/
theorem test_witness_VaultCommands :
    (∃ (ns : Nat), ns < 2000) ∧
    (∃ (s : State) (ns : Nat), 2000 ≤ ns ∧ s.rsv.ph = .off ∧ s.sup.seq = 2 ∧ s.vaultMay = true ∧ s.flag
      fRSV_CTRL_BANK_PRESENT = true) ∧
    (∃ (s : State), s.bankless = true) ∧
    (∃ (s : State) (ns : Nat), 2000 ≤ ns ∧ s.rsv.ph = .off ∧ s.sup.seq = 2 ∧ s.vaultMay = false ∧ s.bankless = false) ∧
    (∃ (s : State), s.rsv.ph = .entry) ∧
    (∃ (s : State), s.vaultOver = true) ∧
    (∃ (s : State), s.vaultOver = false) ∧
    (∃ (s : State), s.coreOn = true ∧ s.ainOk (s.fld fRSV_BANK_CFG_V_CH) = true ∧ s.ainOk (s.fld fRSV_DRAW_CFG_V_CH) = true
      ∧ s.ainOk (s.fld fRSV_DRAW_CFG_I_CH) = true) ∧
    (∃ (s u : State) (i : Nat) (w : WriteReq), (s.stream i).queue = [.write w] ∧ (s.stream i).st = .opened ∧ s.tryWrite i w
      [] = .gone u) ∧
    (∃ (s u : State) (i : Nat) (w : WriteReq), (s.stream i).queue = [.write w] ∧ (s.stream i).st = .opened ∧ s.tryWrite i w
      [] = .waits u) ∧
    (∃ (s u : State) (n : Nat), s.turn n 0x30 ∧ s.rsv.lastIncomplete = true ∧ u = (if s.rsv.loadDue = true then
      (s.slotRunning n).uncleanStreams else s.slotRunning n)) ∧
    (∃ (s : State) (n : Nat), s.turn n 0x30 ∧ s.rsv.lastIncomplete = false) :=
  ⟨⟨1999, by decide +kernel⟩,
    ⟨{ live with rsv.armed := true, regs := [(fRSV_CTRL_VAULT_ARM.addr, 0xFFFFFFFF)] }, 2000, by decide +kernel⟩,
    ⟨live, by decide +kernel⟩,
    ⟨{ live with regs := [(fRSV_CTRL_BANK_PRESENT.addr, BitVec.ofNat 32 (2 ^ fRSV_CTRL_BANK_PRESENT.lo))] }, 2000,
      by decide +kernel⟩,
    ⟨{ State.reset with rsv.ph := .entry }, by decide +kernel⟩,
    ⟨{ State.reset with rsv.ph := .header }, by decide +kernel⟩,
    ⟨State.reset, by decide +kernel⟩,
    ⟨{ live with sup.mons := (List.range 32).map (fun n => (n, { value := 1 })) }, by decide +kernel⟩,
    ⟨{ oneWrite { op := .full 0, line := 8388608 } with tqm.shelves := [(1, { st := 3 })] },
      goneSt (({ oneWrite { op := .full 0, line := 8388608 } with tqm.shelves := [(1, { st := 3 })] }).tryWrite 0 ({ op := .full 0, line := 8388608 }) []),
      0, { op := .full 0, line := 8388608 }, by decide +kernel, by decide +kernel, rfl⟩,
    ⟨{ oneWrite {} with fch := { mode := 1, sets := 1, fills := [{}] } },
      waitSt (({ oneWrite {} with fch := { mode := 1, sets := 1, fills := [{}] } }).tryWrite 0 {} []), 0, {},
      by decide +kernel, by decide +kernel, rfl⟩,
    ⟨{ req 0 [0x30] with rsv.lastIncomplete := true },
      (if (({ req 0 [0x30] with rsv.lastIncomplete := true })).rsv.loadDue = true then ((({ req 0 [0x30] with rsv.lastIncomplete := true })).slotRunning 0).uncleanStreams else (({ req 0 [0x30] with rsv.lastIncomplete := true })).slotRunning 0),
      0, by unfold State.turn; decide +kernel, by decide +kernel⟩,
    ⟨req 0 [0x30], 0, by unfold State.turn; decide +kernel, by decide +kernel⟩⟩

/-- States and operands that meet the hypotheses of each clause of `Obligations.TvedfyAccesses`. -/
theorem test_witness_TvedfyAccesses :
    (∃ (s u x v : State) (lk lpa owner : Nat) (hdr : BitVec 128) (src : Src) (b : List Byte), s.tvGate lk hdr (tvShape hdr 0
      1 false 0x10 && zeroBits hdr 31 29 && zeroBits hdr 127 104) = .go u src true ∧ u.mapCheck lk (hMap hdr) (·.r) (hOffset
      hdr) (hLen hdr) = .ok (lpa, owner) ∧ (u.loadBehind
      { src := src, lpa := lpa, len := hLen hdr, owner := owner, ctx := lk, map := hMap hdr, order := u.epo.arrivals } =
      false) ∧ (foliosOf lpa (hLen hdr)).any u.hazFull = false ∧ x = (foliosOf lpa (hLen hdr)).foldl State.lookup u ∧ (∀ f ∈
      foliosOf lpa (hLen hdr), x.readable f = true) ∧ (∀ a t, src ≠ .cir a t) ∧ (((foliosOf lpa (hLen hdr)).foldl (fun x f
      => match x.findWay f with | some k => x.access k false | none => x.fillTouch f) x).readLines ((lpa + (hLen hdr - 1)) /
      128 - lpa / 128 + 1) (lpa / 128) = (v, .ok b))) ∧
    (∃ (s u : State) (lk e : Nat) (hdr : BitVec 128) (src : Src), s.tvGate lk hdr (tvShape hdr 0 1 false 0x10 && zeroBits
      hdr 31 29 && zeroBits hdr 127 104) = .go u src true ∧ u.mapCheck lk (hMap hdr) (·.r) (hOffset hdr) (hLen hdr) = .error
      e) ∧
    (∃ (s u : State) (lk i lpa owner : Nat) (hdr : BitVec 128) (src : Src) (desk : Bool), s.tvGate lk hdr (tvShape hdr 2 9
      false 0x20 && zeroBits hdr 31 29 && zeroBits hdr 127 125) = .go u src desk ∧ u.flag fEPO_CTRL_ENABLE = true ∧
      u.tvStream lk (hStream hdr) = some i ∧ hOffset hdr % 128 = 0 ∧ u.mapCheck lk (hMap hdr) (·.w) (hOffset hdr) 128 = .ok
      (lpa, owner)) ∧
    (∃ (s u : State) (lk i : Nat) (hdr : BitVec 128) (src : Src) (desk : Bool), s.tvGate lk hdr (tvShape hdr 2 9 false 0x20
      && zeroBits hdr 31 29 && zeroBits hdr 127 125) = .go u src desk ∧ u.flag fEPO_CTRL_ENABLE = true ∧ u.tvStream lk
      (hStream hdr) = some i ∧ hOffset hdr % 128 ≠ 0) ∧
    (∃ (s u : State) (lk i lpa owner : Nat) (hdr mask : BitVec 128) (src : Src) (desk : Bool), s.tvGate lk hdr (tvShape hdr
      2 10 false 0x21 && zeroBits hdr 31 29 && zeroBits hdr 127 125 && mask != 0) = .go u src desk ∧ u.flag fEPO_CTRL_ENABLE
      = true ∧ u.tvStream lk (hStream hdr) = some i ∧ hOffset hdr % 128 = 0 ∧ u.mapCheck lk (hMap hdr) (·.w) (hOffset hdr)
      128 = .ok (lpa, owner)) ∧
    (∃ (s u : State) (lk i lpa owner : Nat) (hdr a : BitVec 128) (src : Src) (desk : Bool), hAop hdr ≤ 4 ∧ s.tvGate lk hdr
      (tvShape hdr 0 (if hAop hdr = 1 then 3 else 2) true 0x30 && zeroBits hdr 31 29 && decide (hAop hdr ≤ 4) && (!(hAop hdr
      == 2 || hAop hdr == 3) || zeroBits a 127 64)) = .go u src desk ∧ u.flag fEPO_CTRL_ENABLE = true ∧ u.tvStream lk
      (hStream hdr) = some i ∧ hOffset hdr % aopSize (hAop hdr) = 0 ∧ u.mapCheck lk (hMap hdr) (·.a) (hOffset hdr) (aopSize
      (hAop hdr)) = .ok (lpa, owner)) :=
  ⟨⟨tv 0,
      goSt ((tv 0).tvGate 0 (hd 0x1004 []) (tvShape (hd 0x1004 []) 0 1 false 0x10 && zeroBits (hd 0x1004 []) 31 29 && zeroBits (hd 0x1004 []) 127 104)),
      (goSt ((tv 0).tvGate 0 (hd 0x1004 []) (tvShape (hd 0x1004 []) 0 1 false 0x10 && zeroBits (hd 0x1004 []) 31 29 && zeroBits (hd 0x1004 []) 127 104))),
      (((goSt ((tv 0).tvGate 0 (hd 0x1004 []) (tvShape (hd 0x1004 []) 0 1 false 0x10 && zeroBits (hd 0x1004 []) 31 29 && zeroBits (hd 0x1004 []) 127 104))).fillTouch 262144).readLines 1 (2 ^ 23)).1,
      0, 2 ^ 30, 1, hd 0x1004 [],
      goSrc ((tv 0).tvGate 0 (hd 0x1004 []) (tvShape (hd 0x1004 []) 0 1 false 0x10 && zeroBits (hd 0x1004 []) 31 29 && zeroBits (hd 0x1004 []) 127 104)),
      List.replicate 128 0, rfl, by decide +kernel, by decide +kernel, by decide +kernel, by decide +kernel,
      by decide +kernel, (by intro a t h; cases h), by decide +kernel⟩,
    ⟨tv 0,
      goSt ((tv 0).tvGate 0 (hd 0x1004 [(1, 32)]) (tvShape (hd 0x1004 [(1, 32)]) 0 1 false 0x10 && zeroBits (hd 0x1004 [(1, 32)]) 31 29 && zeroBits (hd 0x1004 [(1, 32)]) 127 104)),
      0, rsACCESS, hd 0x1004 [(1, 32)],
      goSrc ((tv 0).tvGate 0 (hd 0x1004 [(1, 32)]) (tvShape (hd 0x1004 [(1, 32)]) 0 1 false 0x10 && zeroBits (hd 0x1004 [(1, 32)]) 31 29 && zeroBits (hd 0x1004 [(1, 32)]) 127 104)),
      rfl, by decide +kernel⟩,
    ⟨tv 0,
      goSt (((tv 0).tvGate 0 (hd 0x2026 []) (tvShape (hd 0x2026 []) 2 9 false 0x20 && zeroBits (hd 0x2026 []) 31 29 && zeroBits (hd 0x2026 []) 127 125))),
      0, 0, 2 ^ 30, 1, hd 0x2026 [],
      goSrc (((tv 0).tvGate 0 (hd 0x2026 []) (tvShape (hd 0x2026 []) 2 9 false 0x20 && zeroBits (hd 0x2026 []) 31 29 && zeroBits (hd 0x2026 []) 127 125))),
      true, rfl, by decide +kernel⟩,
    ⟨tv 0,
      goSt (((tv 0).tvGate 0 (hd 0x2026 [(127, 44)]) (tvShape (hd 0x2026 [(127, 44)]) 2 9 false 0x20 && zeroBits (hd 0x2026 [(127, 44)]) 31 29 && zeroBits (hd 0x2026 [(127, 44)]) 127 125))),
      0, 0, hd 0x2026 [(127, 44)],
      goSrc (((tv 0).tvGate 0 (hd 0x2026 [(127, 44)]) (tvShape (hd 0x2026 [(127, 44)]) 2 9 false 0x20 && zeroBits (hd 0x2026 [(127, 44)]) 31 29 && zeroBits (hd 0x2026 [(127, 44)]) 127 125))),
      true, rfl, by decide +kernel⟩,
    ⟨tv 0,
      goSt (((tv 0).tvGate 0 (hd 0x212A []) (tvShape (hd 0x212A []) 2 10 false 0x21 && zeroBits (hd 0x212A []) 31 29 && zeroBits (hd 0x212A []) 127 125 && (1) != 0))),
      0, 0, 2 ^ 30, 1, hd 0x212A [], 1,
      goSrc (((tv 0).tvGate 0 (hd 0x212A []) (tvShape (hd 0x212A []) 2 10 false 0x21 && zeroBits (hd 0x212A []) 31 29 && zeroBits (hd 0x212A []) 127 125 && (1) != 0))),
      true, rfl, by decide +kernel⟩,
    ⟨tv 0,
      goSt (((tv 0).tvGate 0 (hd 0x3048 [(4, 125)]) (tvShape (hd 0x3048 [(4, 125)]) 0 (if hAop (hd 0x3048 [(4, 125)]) = 1 then 3 else 2) true 0x30 && zeroBits (hd 0x3048 [(4, 125)]) 31 29 && decide (hAop (hd 0x3048 [(4, 125)]) ≤ 4) && (!(hAop (hd 0x3048 [(4, 125)]) == 2 || hAop (hd 0x3048 [(4, 125)]) == 3) || zeroBits 0 127 64)))),
      0, 0, 2 ^ 30, 1, hd 0x3048 [(4, 125)], 0,
      goSrc (((tv 0).tvGate 0 (hd 0x3048 [(4, 125)]) (tvShape (hd 0x3048 [(4, 125)]) 0 (if hAop (hd 0x3048 [(4, 125)]) = 1 then 3 else 2) true 0x30 && zeroBits (hd 0x3048 [(4, 125)]) 31 29 && decide (hAop (hd 0x3048 [(4, 125)]) ≤ 4) && (!(hAop (hd 0x3048 [(4, 125)]) == 2 || hAop (hd 0x3048 [(4, 125)]) == 3) || zeroBits 0 127 64)))),
      true, by decide +kernel, rfl, by decide +kernel⟩⟩

/-- States and operands that meet the hypotheses of each clause of `Obligations.WritesTakeTheirOrder`. -/
theorem test_witness_WritesTakeTheirOrder :
    (∃ (s : State) (i ssn : Nat), s.flag fEPO_CTRL_ENABLE = true ∧ ssnJudge ssn (s.stream i).lastSsn = .gap) ∧
    (∃ (s : State) (i ssn : Nat), s.flag fEPO_CTRL_ENABLE = true ∧ ssnJudge ssn (s.stream i).lastSsn = .new) ∧
    (∃ (s v : State) (lk i ssn : Nat) (w : WriteReq), lk < 32 ∧ s.flag fEPO_CTRL_ENABLE = true ∧ ssnJudge ssn (s.stream
      i).lastSsn = .new ∧ (s.stream i).mode = false ∧ (s.stream i).st = .opened ∧ (s.stream i).queue = [] ∧ ((s.setStream i
      { s.stream i with lastSsn := ssn, queue := [.write w] }).tryWrite i w [] = .gone v)) ∧
    (∃ (a b : Nat), a < 65536 ∧ b < 65536) :=
  ⟨⟨tv 0, 0, 2, by decide +kernel⟩,
    ⟨tv 0, 0, 1, by decide +kernel⟩,
    ⟨{ tv 0 with epo.streams := [(0, { st := .opened })], tqm.shelves := [(1, { st := 3 })], fch.fills := [] },
      goneSt ((({ tv 0 with epo.streams := [(0, { st := .opened })], tqm.shelves := [(1, { st := 3 })], fch.fills := [] }).setStream 0 { ({ tv 0 with epo.streams := [(0, { st := .opened })], tqm.shelves := [(1, { st := 3 })], fch.fills := [] }).stream 0 with lastSsn := 1, queue := [.write ({ op := .full 0, line := 8388608 })] }).tryWrite 0 ({ op := .full 0, line := 8388608 }) []),
      31, 0, 1, { op := .full 0, line := 8388608 }, by decide +kernel, by decide +kernel, by decide +kernel,
      by decide +kernel, by decide +kernel, by decide +kernel, rfl⟩,
    ⟨65535, 65535, by decide +kernel⟩⟩

/-- States and operands that meet the hypotheses of each clause of `Obligations.AbandonAndEvents`. -/
theorem test_witness_AbandonAndEvents :
    (∃ (s u : State) (lk i : Nat) (hdr : BitVec 128) (src : Src) (desk : Bool), bitsOf hdr.toNat 35 32 = 0 ∧ s.tvGate lk hdr
      (tvShape hdr 0 1 false 0x31 && zeroBits hdr 31 28 && zeroBits hdr 127 64 && true) = .go u src desk ∧ u.tvStream lk
      (bitsOf hdr.toNat 47 36) = some i ∧ ssnJudge (bitsOf hdr.toNat 63 48) (u.stream i).lastSsn = .new) ∧
    (∃ (s u : State) (lk i : Nat) (hdr : BitVec 128) (src : Src) (desk : Bool), bitsOf hdr.toNat 35 32 = 0 ∧ s.tvGate lk hdr
      (tvShape hdr 0 1 false 0x31 && zeroBits hdr 31 28 && zeroBits hdr 127 64 && true) = .go u src desk ∧ u.tvStream lk
      (bitsOf hdr.toNat 47 36) = some i ∧ ssnJudge (bitsOf hdr.toNat 63 48) (u.stream i).lastSsn ≠ .new) ∧
    (∃ (s u : State) (lk : Nat) (hdr : BitVec 128) (src : Src) (desk : Bool), bitsOf hdr.toNat 35 32 = 1 ∧ s.tvGate lk hdr
      (tvShape hdr 0 1 false 0x31 && zeroBits hdr 31 28 && zeroBits hdr 127 64 && zeroBits hdr 63 48) = .go u src desk) ∧
    (∃ (s : State) (lk : Nat) (hdr : BitVec 128), lk < 32 ∧ (s.tvl_ lk).st = 4 ∧ (s.tvl_ lk).holderSaid = true ∧ (tvShape
      hdr 3 1 false 0x70 && zeroBits hdr 127 28) = true ∧ ((s.tvLeave lk hdr).src (hTag hdr)).active = some (5 + lk / 2)) ∧
    (∃ (s : State) (lk : Nat) (hdr : BitVec 128), lk < 32 ∧ (s.tvl_ lk).st = 4 ∧ ((tvShape hdr 3 1 false 0x70 && zeroBits
      hdr 127 28) = false ∨ (s.tvl_ lk).holderSaid = false)) :=
  ⟨⟨tv 0,
      goSt (((tv 0).tvGate 0 (hd 0x3104 [(1, 48)]) (tvShape (hd 0x3104 [(1, 48)]) 0 1 false 0x31 && zeroBits (hd 0x3104 [(1, 48)]) 31 28 && zeroBits (hd 0x3104 [(1, 48)]) 127 64 && true))),
      0, 0, hd 0x3104 [(1, 48)],
      goSrc (((tv 0).tvGate 0 (hd 0x3104 [(1, 48)]) (tvShape (hd 0x3104 [(1, 48)]) 0 1 false 0x31 && zeroBits (hd 0x3104 [(1, 48)]) 31 28 && zeroBits (hd 0x3104 [(1, 48)]) 127 64 && true))),
      true, by decide +kernel, rfl, by decide +kernel⟩,
    ⟨tv 0,
      goSt (((tv 0).tvGate 0 (hd 0x3104 []) (tvShape (hd 0x3104 []) 0 1 false 0x31 && zeroBits (hd 0x3104 []) 31 28 && zeroBits (hd 0x3104 []) 127 64 && true))),
      0, 0, hd 0x3104 [],
      goSrc (((tv 0).tvGate 0 (hd 0x3104 []) (tvShape (hd 0x3104 []) 0 1 false 0x31 && zeroBits (hd 0x3104 []) 31 28 && zeroBits (hd 0x3104 []) 127 64 && true))),
      true, by decide +kernel, rfl, by decide +kernel⟩,
    ⟨tv 0,
      goSt (((tv 0).tvGate 0 (hd 0x3104 [(1, 32)]) (tvShape (hd 0x3104 [(1, 32)]) 0 1 false 0x31 && zeroBits (hd 0x3104 [(1, 32)]) 31 28 && zeroBits (hd 0x3104 [(1, 32)]) 127 64 && zeroBits (hd 0x3104 [(1, 32)]) 63 48))),
      0, hd 0x3104 [(1, 32)],
      goSrc (((tv 0).tvGate 0 (hd 0x3104 [(1, 32)]) (tvShape (hd 0x3104 [(1, 32)]) 0 1 false 0x31 && zeroBits (hd 0x3104 [(1, 32)]) 31 28 && zeroBits (hd 0x3104 [(1, 32)]) 127 64 && zeroBits (hd 0x3104 [(1, 32)]) 63 48))),
      true, by decide +kernel, rfl⟩,
    ⟨{ tv 0 with int.srcs := [(1, { active := some 5 })] }, 0, hd 0x7007 [(1, 16)], by decide +kernel⟩,
    ⟨tv 0, 0, 0, by decide +kernel⟩⟩

/-- States and operands that meet the hypotheses of each clause of `Obligations.TvedfyMaintenance`. -/
theorem test_witness_TvedfyMaintenance :
    (∃ (s u : State) (lk lpa owner : Nat) (hdr slot1 : BitVec 128) (src : Src), hMop hdr = 0 ∧ s.tvGate lk hdr (maintFormat
      hdr slot1) = .go u src true ∧ bitsOf slot1.toNat 30 0 ≤ 2 ^ 30 ∧ u.mapCheck lk (hMap hdr) (·.r) (hOffset hdr) (max 1
      (bitsOf slot1.toNat 30 0)) = .ok (lpa, owner)) ∧
    (∃ (s u : State) (lk lpa owner : Nat) (hdr slot1 : BitVec 128) (src : Src), hMop hdr = 3 ∧ s.tvGate lk hdr (maintFormat
      hdr slot1) = .go u src true ∧ bitsOf slot1.toNat 30 0 ≤ 2 ^ 30 ∧ u.mapCheck lk (hMap hdr) (·.r) (hOffset hdr) (max 1
      (bitsOf slot1.toNat 30 0)) = .ok (lpa, owner)) ∧
    (∃ (s u : State) (lk lpa owner : Nat) (hdr slot1 : BitVec 128) (src : Src), hMop hdr = 1 ∧ s.tvGate lk hdr (maintFormat
      hdr slot1) = .go u src true ∧ bitsOf slot1.toNat 30 0 ≤ 2 ^ 30 ∧ u.flag fTQM_CTRL_PLACE_HOST = true ∧ u.mapCheck lk
      (hMap hdr) (·.w) (hOffset hdr) (max 1 (bitsOf slot1.toNat 30 0)) = .ok (lpa, owner)) ∧
    (∃ (s u : State) (lk lpa owner : Nat) (hdr slot1 : BitVec 128) (src : Src), hMop hdr = 2 ∧ s.tvGate lk hdr (maintFormat
      hdr slot1) = .go u src true ∧ bitsOf slot1.toNat 30 0 ≤ 2 ^ 30 ∧ u.flag fTQM_CTRL_PLACE_HOST = true ∧ u.mapCheck lk
      (hMap hdr) (·.w) (hOffset hdr) (max 1 (bitsOf slot1.toNat 30 0)) = .ok (lpa, owner)) ∧
    (∃ (s u : State) (lk : Nat) (hdr slot1 : BitVec 128) (src : Src), hMop hdr = 1 ∧ s.tvGate lk hdr (maintFormat hdr slot1)
      = .go u src true ∧ bitsOf slot1.toNat 30 0 ≤ 2 ^ 30 ∧ u.flag fTQM_CTRL_PLACE_HOST = false) ∧
    (∃ (s u : State) (lk : Nat) (hdr slot1 : BitVec 128) (src : Src), hMop hdr = 2 ∧ s.tvGate lk hdr (maintFormat hdr slot1)
      = .go u src true ∧ bitsOf slot1.toNat 30 0 ≤ 2 ^ 30 ∧ u.flag fTQM_CTRL_PLACE_HOST = false) ∧
    (∃ (s u : State) (lk i lpa owner : Nat) (hdr slot1 : BitVec 128) (src : Src), hMop hdr = 4 ∧ s.tvGate lk hdr
      (maintFormat hdr slot1) = .go u src true ∧ u.flag fEPO_CTRL_ENABLE = true ∧ u.tvStream lk (bitsOf slot1.toNat 43 32) =
      some i ∧ bitsOf slot1.toNat 30 0 = 4096 ∧ hOffset hdr % 4096 = 0 ∧ u.mapCheck lk (hMap hdr) (·.w) (hOffset hdr) 4096 =
      .ok (lpa, owner) ∧ lpa % 4096 = 0) :=
  ⟨⟨tv 0, goSt (((tv 0).tvGate 0 (hd 0x6008 []) (maintFormat (hd 0x6008 []) 0))), 0, 2 ^ 30, 1, hd 0x6008 [], 0,
      goSrc (((tv 0).tvGate 0 (hd 0x6008 []) (maintFormat (hd 0x6008 []) 0))), by decide +kernel, rfl,
      by decide +kernel⟩,
    ⟨tv 0, goSt (((tv 0).tvGate 0 (hd 0x6008 [(3, 97)]) (maintFormat (hd 0x6008 [(3, 97)]) (hd (2 ^ 30) [])))), 0,
      2 ^ 30, 1, hd 0x6008 [(3, 97)], hd (2 ^ 30) [],
      goSrc (((tv 0).tvGate 0 (hd 0x6008 [(3, 97)]) (maintFormat (hd 0x6008 [(3, 97)]) (hd (2 ^ 30) [])))),
      by decide +kernel, rfl, by decide +kernel⟩,
    ⟨tv 0, goSt (((tv 0).tvGate 0 (hd 0x6008 [(1, 97)]) (maintFormat (hd 0x6008 [(1, 97)]) 0))), 0, 2 ^ 30, 1,
      hd 0x6008 [(1, 97)], 0, goSrc (((tv 0).tvGate 0 (hd 0x6008 [(1, 97)]) (maintFormat (hd 0x6008 [(1, 97)]) 0))),
      by decide +kernel, rfl, by decide +kernel⟩,
    ⟨tv 0, goSt (((tv 0).tvGate 0 (hd 0x6008 [(2, 97)]) (maintFormat (hd 0x6008 [(2, 97)]) 0))), 0, 2 ^ 30, 1,
      hd 0x6008 [(2, 97)], 0, goSrc (((tv 0).tvGate 0 (hd 0x6008 [(2, 97)]) (maintFormat (hd 0x6008 [(2, 97)]) 0))),
      by decide +kernel, rfl, by decide +kernel⟩,
    ⟨{ tv 0 with regs := [(0xA00000, 1), (0xE00000, 1)] },
      goSt ((({ tv 0 with regs := [(0xA00000, 1), (0xE00000, 1)] }).tvGate 0 (hd 0x6008 [(1, 97)]) (maintFormat (hd 0x6008 [(1, 97)]) 0))),
      0, hd 0x6008 [(1, 97)], 0,
      goSrc ((({ tv 0 with regs := [(0xA00000, 1), (0xE00000, 1)] }).tvGate 0 (hd 0x6008 [(1, 97)]) (maintFormat (hd 0x6008 [(1, 97)]) 0))),
      by decide +kernel, rfl, by decide +kernel⟩,
    ⟨{ tv 0 with regs := [(0xA00000, 1), (0xE00000, 1)] },
      goSt ((({ tv 0 with regs := [(0xA00000, 1), (0xE00000, 1)] }).tvGate 0 (hd 0x6008 [(2, 97)]) (maintFormat (hd 0x6008 [(2, 97)]) 0))),
      0, hd 0x6008 [(2, 97)], 0,
      goSrc ((({ tv 0 with regs := [(0xA00000, 1), (0xE00000, 1)] }).tvGate 0 (hd 0x6008 [(2, 97)]) (maintFormat (hd 0x6008 [(2, 97)]) 0))),
      by decide +kernel, rfl, by decide +kernel⟩,
    ⟨tv 0, goSt (((tv 0).tvGate 0 (hd 0x6008 [(4, 97)]) (maintFormat (hd 0x6008 [(4, 97)]) (hd 4096 [])))), 0, 0,
      2 ^ 30, 1, hd 0x6008 [(4, 97)], hd 4096 [],
      goSrc (((tv 0).tvGate 0 (hd 0x6008 [(4, 97)]) (maintFormat (hd 0x6008 [(4, 97)]) (hd 4096 [])))),
      by decide +kernel, rfl, by decide +kernel⟩⟩

/-- States and operands that meet the hypotheses of each clause of `Obligations.EpochOpenAndClose`. -/
theorem test_witness_EpochOpenAndClose :
    (∃ (s u : State) (lk i : Nat) (hdr : BitVec 128) (src : Src), EpochTurn s lk 0 hdr u src i ∧ (u.stream i).st = .idle ∧
      (u.stream i).report = none) ∧
    (∃ (s u : State) (lk i : Nat) (hdr : BitVec 128) (src : Src), EpochTurn s lk 0 hdr u src i ∧ ((u.stream i).st = .opened
      ∨ (u.stream i).st = .closing)) ∧
    (∃ (s u : State) (lk i : Nat) (hdr : BitVec 128) (src : Src), EpochTurn s lk 1 hdr u src i ∧ (u.stream i).st = .opened ∧
      (u.stream i).queue = [] ∧ epochDiff (u.stream i).epoch (hEpoch hdr) = 0) ∧
    (∃ (s : State) (i : Nat) (c : CloseSt), s.closeReady i = true ∧ (s.stream i).st = .closing ∧ (s.stream i).close = some c
      ∧ (s.stream i).queue = [] ∧ c.fin = true ∧ (Tab.wf (fun _ => s.epo.blank) s.epo.streams = true)) ∧
    (∃ (s : State) (i : Nat), s.closeReady i = false) :=
  ⟨⟨tv 0, goSt (((tv 0).tvGate 0 (hd 0x4004 []) (epochFormat (hd 0x4004 [])))), 0, 0, hd 0x4004 [],
      goSrc (((tv 0).tvGate 0 (hd 0x4004 []) (epochFormat (hd 0x4004 [])))),
      ⟨by decide +kernel, rfl, by decide +kernel, by decide +kernel⟩, by decide +kernel⟩,
    ⟨{ tv 0 with epo.streams := [(0, { st := .opened })] },
      goSt ((({ tv 0 with epo.streams := [(0, { st := .opened })] }).tvGate 0 (hd 0x4004 []) (epochFormat (hd 0x4004 [])))),
      0, 0, hd 0x4004 [],
      goSrc ((({ tv 0 with epo.streams := [(0, { st := .opened })] }).tvGate 0 (hd 0x4004 []) (epochFormat (hd 0x4004 [])))),
      ⟨by decide +kernel, rfl, by decide +kernel, by decide +kernel⟩, by decide +kernel⟩,
    ⟨{ tv 0 with epo.streams := [(0, { st := .opened })] },
      goSt ((({ tv 0 with epo.streams := [(0, { st := .opened })] }).tvGate 0 (hd 0x4004 [(1, 109)]) (epochFormat (hd 0x4004 [(1, 109)])))),
      0, 0, hd 0x4004 [(1, 109)],
      goSrc ((({ tv 0 with epo.streams := [(0, { st := .opened })] }).tvGate 0 (hd 0x4004 [(1, 109)]) (epochFormat (hd 0x4004 [(1, 109)])))),
      ⟨by decide +kernel, rfl, by decide +kernel, by decide +kernel⟩, by decide +kernel⟩,
    ⟨{ tv 0 with epo.streams := [(0, { st := .closing, close := some { fin := true } })] }, 0, { fin := true },
      by decide +kernel⟩,
    ⟨State.reset, 0, by decide +kernel⟩⟩

/-- States and operands that meet the hypotheses of each clause of `Obligations.EpochQueries`. -/
theorem test_witness_EpochQueries :
    (∃ (s u : State) (lk i : Nat) (hdr : BitVec 128) (src : Src), EpochTurn s lk 2 hdr u src i) ∧
    (∃ (s u : State) (lk i lpa owner : Nat) (hdr : BitVec 128) (src : Src), EpochTurn s lk 3 hdr u src i ∧ (u.mapCheck lk
      (hMap hdr) (fun _ => true) (hOffset hdr) 1 = .ok (lpa, owner)) ∧ (((u.stream i).live && (u.stream i).entries.any (fun
      e => entNames e (lpa / 128)) && u.verdictFills (lpa / 128 / 32)) = false)) ∧
    (∃ (s u : State) (lk i lpa owner : Nat) (hdr : BitVec 128) (src : Src), EpochTurn s lk 3 hdr u src i ∧ (u.mapCheck lk
      (hMap hdr) (fun _ => true) (hOffset hdr) 1 = .ok (lpa, owner)) ∧ (((u.stream i).live && (u.stream i).entries.any (fun
      e => entNames e (lpa / 128)) && u.verdictFills (lpa / 128 / 32)) = true)) ∧
    (∃ (s u : State) (lk i : Nat) (hdr : BitVec 128) (src : Src), EpochTurn s lk 4 hdr u src i ∧ (u.stream i).report = none) ∧
    (∃ (s u : State) (lk i : Nat) (hdr : BitVec 128) (src : Src) (r : Report), EpochTurn s lk 4 hdr u src i ∧ (u.stream
      i).report = some r ∧ r.building = false ∧ ((r.records i (u.stream i).writer (u.stream i).field).drop (bitsOf hdr.toNat
      60 44)).take 14 ≠ []) ∧
    (∃ (s u : State) (lk i : Nat) (hdr : BitVec 128) (src : Src) (r : Report), EpochTurn s lk 5 hdr u src i ∧ (u.stream
      i).report = some r ∧ r.building = false) ∧
    (∃ (s u : State) (lk i : Nat) (hdr : BitVec 128) (src : Src), EpochTurn s lk 5 hdr u src i ∧ (u.stream i).report = none) ∧
    (∃ (s : State) (i : Nat) (r : Report), 65536 ≤ i ∧ (s.stream i).report = some r ∧ r.building = true ∧ s.reportNeeds r =
      []) ∧
    (∃ (s : State) (i : Nat) (r : Report), (s.stream i).report = some r ∧ r.building = true ∧ s.reportNeeds r ≠ []) :=
  ⟨⟨tv 0, goSt (((tv 0).tvGate 0 (hd 0x4004 [(2, 109)]) (epochFormat (hd 0x4004 [(2, 109)])))), 0, 0,
      hd 0x4004 [(2, 109)], goSrc (((tv 0).tvGate 0 (hd 0x4004 [(2, 109)]) (epochFormat (hd 0x4004 [(2, 109)])))),
      ⟨by decide +kernel, rfl, by decide +kernel, by decide +kernel⟩⟩,
    ⟨tv 0, goSt (((tv 0).tvGate 0 (hd 0x4004 [(3, 109)]) (epochFormat (hd 0x4004 [(3, 109)])))), 0, 0, 2 ^ 30, 1,
      hd 0x4004 [(3, 109)], goSrc (((tv 0).tvGate 0 (hd 0x4004 [(3, 109)]) (epochFormat (hd 0x4004 [(3, 109)])))),
      ⟨by decide +kernel, rfl, by decide +kernel, by decide +kernel⟩, by decide +kernel⟩,
    ⟨{ tv 0 with fch.fills := [], stk.links := [(0, { st := 2 })], epo.streams := [(0, { st := .opened, entries := [BitVec.ofNat 128 (2 ^ 23)] })] },
      goSt ((({ tv 0 with fch.fills := [], stk.links := [(0, { st := 2 })], epo.streams := [(0, { st := .opened, entries := [BitVec.ofNat 128 (2 ^ 23)] })] }).tvGate 0 (hd 0x4004 [(3, 109)]) (epochFormat (hd 0x4004 [(3, 109)])))),
      0, 0, 2 ^ 30, 1, hd 0x4004 [(3, 109)],
      goSrc ((({ tv 0 with fch.fills := [], stk.links := [(0, { st := 2 })], epo.streams := [(0, { st := .opened, entries := [BitVec.ofNat 128 (2 ^ 23)] })] }).tvGate 0 (hd 0x4004 [(3, 109)]) (epochFormat (hd 0x4004 [(3, 109)])))),
      ⟨by decide +kernel, rfl, by decide +kernel, by decide +kernel⟩, by decide +kernel⟩,
    ⟨tv 0, goSt (((tv 0).tvGate 0 (hd 0x4004 [(4, 109)]) (epochFormat (hd 0x4004 [(4, 109)])))), 0, 0,
      hd 0x4004 [(4, 109)], goSrc (((tv 0).tvGate 0 (hd 0x4004 [(4, 109)]) (epochFormat (hd 0x4004 [(4, 109)])))),
      ⟨by decide +kernel, rfl, by decide +kernel, by decide +kernel⟩, by decide +kernel⟩,
    ⟨{ tv 0 with epo.streams := [(0, { report := some {} })] },
      goSt ((({ tv 0 with epo.streams := [(0, { report := some {} })] }).tvGate 0 (hd 0x4004 [(4, 109)]) (epochFormat (hd 0x4004 [(4, 109)])))),
      0, 0, hd 0x4004 [(4, 109)],
      goSrc ((({ tv 0 with epo.streams := [(0, { report := some {} })] }).tvGate 0 (hd 0x4004 [(4, 109)]) (epochFormat (hd 0x4004 [(4, 109)])))),
      {}, ⟨by decide +kernel, rfl, by decide +kernel, by decide +kernel⟩, by decide +kernel⟩,
    ⟨{ tv 0 with epo.streams := [(0, { report := some {} })] },
      goSt ((({ tv 0 with epo.streams := [(0, { report := some {} })] }).tvGate 0 (hd 0x4004 [(5, 109)]) (epochFormat (hd 0x4004 [(5, 109)])))),
      0, 0, hd 0x4004 [(5, 109)],
      goSrc ((({ tv 0 with epo.streams := [(0, { report := some {} })] }).tvGate 0 (hd 0x4004 [(5, 109)]) (epochFormat (hd 0x4004 [(5, 109)])))),
      {}, ⟨by decide +kernel, rfl, by decide +kernel, by decide +kernel⟩, by decide +kernel⟩,
    ⟨tv 0, goSt (((tv 0).tvGate 0 (hd 0x4004 [(5, 109)]) (epochFormat (hd 0x4004 [(5, 109)])))), 0, 0,
      hd 0x4004 [(5, 109)], goSrc (((tv 0).tvGate 0 (hd 0x4004 [(5, 109)]) (epochFormat (hd 0x4004 [(5, 109)])))),
      ⟨by decide +kernel, rfl, by decide +kernel, by decide +kernel⟩, by decide +kernel⟩,
    ⟨{ State.reset with epo.streams := [(65536, { report := some { building := true } })] }, 65536,
      { building := true }, by decide +kernel⟩,
    ⟨{ tv 0 with fch.fills := [], stk.links := [(0, { st := 2 })], epo.streams := [(65536, { report := some { building := true, entries := [BitVec.ofNat 128 (2 ^ 23)] } })] },
      65536, { building := true, entries := [BitVec.ofNat 128 (2 ^ 23)] }, by decide +kernel⟩⟩

/-- States and operands that meet the hypotheses of each clause of `Obligations.MapsAndPlacement`. -/
theorem test_witness_MapsAndPlacement :
    (∃ (s u : State) (lk m : Nat) (hdr : BitVec 128) (src : Src), bitsOf hdr.toNat 35 32 ≠ 1 ∧ s.tvGate lk hdr
      (mapOpenFormat hdr) = .go u src true ∧ u.openMap lk (bitsOf hdr.toNat 95 48) (hdr.getLsbD 96) (hdr.getLsbD 97)
      (hdr.getLsbD 98) (bitsOf hdr.toNat 114 99) = (u, 0, m)) ∧
    (∃ (s u v : State) (lk m : Nat) (hdr : BitVec 128) (src : Src), bitsOf hdr.toNat 35 32 ≠ 1 ∧ s.tvGate lk hdr
      (mapOpenFormat hdr) = .go u src true ∧ u.openMap lk (bitsOf hdr.toNat 95 48) (hdr.getLsbD 96) (hdr.getLsbD 97)
      (hdr.getLsbD 98) (bitsOf hdr.toNat 114 99) = (v, 0, m) ∧ u.tqm.maps.length < v.tqm.maps.length) ∧
    (∃ (s u v : State) (lk m st : Nat) (hdr : BitVec 128) (src : Src), bitsOf hdr.toNat 35 32 ≠ 1 ∧ st ≠ 0 ∧ s.tvGate lk hdr
      (mapOpenFormat hdr) = .go u src true ∧ u.openMap lk (bitsOf hdr.toNat 95 48) (hdr.getLsbD 96) (hdr.getLsbD 97)
      (hdr.getLsbD 98) (bitsOf hdr.toNat 114 99) = (v, st, m)) ∧
    (∃ (u : State) (h : Nat), u.liveObj h = none) ∧
    (∃ (u : State) (c h : Nat) (o : Obj), u.liveObj h = some o ∧ u.rightsOf (u.ctx c).tenant h = (true, true, true) ∧
      u.tqm.maps = []) ∧
    (∃ (s u : State) (lk : Nat) (hdr : BitVec 128) (src : Src), bitsOf hdr.toNat 35 32 = 1 ∧ s.tvGate lk hdr (mapCloseFormat
      hdr) = .go u src true ∧ (u.mapEnt lk (bitsOf hdr.toNat 47 36)).valid = true) ∧
    (∃ (s : State) (c m : Nat) (src : Src), (s.mapEnt c m).closing = some src ∧ s.mapBusy c m = false) ∧
    (∃ (s : State) (c m : Nat), s.mapBusy c m = true) ∧
    (∃ (s u : State) (lk : Nat) (hdr : BitVec 128) (src : Src) (o : Obj), s.tvGate lk hdr (placeFormat hdr) = .go u src true
      ∧ (u.mapEnt lk (hMap hdr)).valid = true ∧ (u.mapEnt lk (hMap hdr)).w = true ∧ u.liveObj (u.mapEnt lk (hMap
      hdr)).handle = some o ∧ o.cls = hPlace hdr ∧ o.cls ≠ 3) ∧
    (∃ (s u v : State) (lk : Nat) (hdr : BitVec 128) (src : Src) (o : Obj), s.tvGate lk hdr (placeFormat hdr) = .go u src
      true ∧ (u.mapEnt lk (hMap hdr)).valid = true ∧ (u.mapEnt lk (hMap hdr)).w = true ∧ u.liveObj (u.mapEnt lk (hMap
      hdr)).handle = some o ∧ o.cls = 0 ∧ hPlace hdr = 1 ∧ u.flag fTQM_CTRL_PLACE_HOST = true ∧ u.placeObj (u.mapEnt lk
      (hMap hdr)).handle 1 = (v, 0, 0)) ∧
    (∃ (s u : State) (lk : Nat) (hdr : BitVec 128) (src : Src) (o : Obj), s.tvGate lk hdr (placeFormat hdr) = .go u src true
      ∧ (u.mapEnt lk (hMap hdr)).valid = true ∧ (u.mapEnt lk (hMap hdr)).w = true ∧ u.liveObj (u.mapEnt lk (hMap
      hdr)).handle = some o ∧ o.cls = 0 ∧ hPlace hdr = 1 ∧ u.flag fTQM_CTRL_PLACE_HOST = false) ∧
    (∃ (s u : State) (f : Nat), s.promotable f = true ∧ (s.objOfShelf (shelfOf f)).cls = 2 ∧ u = s.lookup f ∧ (u.victim f
      (s.objOfShelf (shelfOf f)).tenant false).isSome = true ∧ u.hazFull f = false) ∧
    (∃ (s : State) (f : Nat), s.promotable f = false) :=
  ⟨⟨tv 0, goSt (((tv 0).tvGate 0 (hd 0x5004 [(h1, 48), (7, 96)]) (mapOpenFormat (hd 0x5004 [(h1, 48), (7, 96)])))),
      0, 0, hd 0x5004 [(h1, 48), (7, 96)],
      goSrc (((tv 0).tvGate 0 (hd 0x5004 [(h1, 48), (7, 96)]) (mapOpenFormat (hd 0x5004 [(h1, 48), (7, 96)])))),
      by decide +kernel, rfl, by decide +kernel⟩,
    ⟨{ tv 0 with tqm.maps := [] },
      goSt ((({ tv 0 with tqm.maps := [] }).tvGate 0 (hd 0x5004 [(h1, 48), (7, 96)]) (mapOpenFormat (hd 0x5004 [(h1, 48), (7, 96)])))),
      (goSt ((({ tv 0 with tqm.maps := [] }).tvGate 0 (hd 0x5004 [(h1, 48), (7, 96)]) (mapOpenFormat (hd 0x5004 [(h1, 48), (7, 96)]))))).setMap 0 0 { valid := true, handle := h1, r := true, w := true, a := true },
      0, 0, hd 0x5004 [(h1, 48), (7, 96)],
      goSrc ((({ tv 0 with tqm.maps := [] }).tvGate 0 (hd 0x5004 [(h1, 48), (7, 96)]) (mapOpenFormat (hd 0x5004 [(h1, 48), (7, 96)])))),
      by decide +kernel, rfl, by decide +kernel⟩,
    ⟨tv 0, goSt (((tv 0).tvGate 0 (hd 0x5004 [(1, 48)]) (mapOpenFormat (hd 0x5004 [(1, 48)])))),
      (goSt (((tv 0).tvGate 0 (hd 0x5004 [(1, 48)]) (mapOpenFormat (hd 0x5004 [(1, 48)]))))), 0, 0, 1,
      hd 0x5004 [(1, 48)], goSrc (((tv 0).tvGate 0 (hd 0x5004 [(1, 48)]) (mapOpenFormat (hd 0x5004 [(1, 48)])))),
      by decide +kernel, by decide +kernel, rfl, by decide +kernel⟩,
    ⟨tv 0, 1, by decide +kernel⟩,
    ⟨{ tv 0 with tqm.maps := [] }, 0, h1, obj1 0, by decide +kernel⟩,
    ⟨tv 0, goSt (((tv 0).tvGate 0 (hd 0x5004 [(1, 32)]) (mapCloseFormat (hd 0x5004 [(1, 32)])))), 0,
      hd 0x5004 [(1, 32)], goSrc (((tv 0).tvGate 0 (hd 0x5004 [(1, 32)]) (mapCloseFormat (hd 0x5004 [(1, 32)])))),
      by decide +kernel, rfl, by decide +kernel⟩,
    ⟨{ State.reset with tqm.maps := [(0, { closing := some .nobody })] }, 0, 0, .nobody, by decide +kernel⟩,
    ⟨{ State.reset with epo.loads := [{ ctx := 31, map := 4095 }] }, 31, 4095, by decide +kernel⟩,
    ⟨tv 2, goSt (((tv 2).tvGate 0 (hd 0x5804 [(2, 97)]) (placeFormat (hd 0x5804 [(2, 97)])))), 0,
      hd 0x5804 [(2, 97)], goSrc (((tv 2).tvGate 0 (hd 0x5804 [(2, 97)]) (placeFormat (hd 0x5804 [(2, 97)])))), obj1 2,
      rfl, by decide +kernel⟩,
    ⟨tv 0, goSt (((tv 0).tvGate 0 (hd 0x5804 [(1, 97)]) (placeFormat (hd 0x5804 [(1, 97)])))),
      ((goSt (((tv 0).tvGate 0 (hd 0x5804 [(1, 97)]) (placeFormat (hd 0x5804 [(1, 97)]))))).placeObj h1 1).1, 0,
      hd 0x5804 [(1, 97)], goSrc (((tv 0).tvGate 0 (hd 0x5804 [(1, 97)]) (placeFormat (hd 0x5804 [(1, 97)])))), obj1 0,
      rfl, by decide +kernel⟩,
    ⟨{ tv 0 with regs := [(0xA00000, 1), (0xE00000, 1)] },
      goSt ((({ tv 0 with regs := [(0xA00000, 1), (0xE00000, 1)] }).tvGate 0 (hd 0x5804 [(1, 97)]) (placeFormat (hd 0x5804 [(1, 97)])))),
      0, hd 0x5804 [(1, 97)],
      goSrc ((({ tv 0 with regs := [(0xA00000, 1), (0xE00000, 1)] }).tvGate 0 (hd 0x5804 [(1, 97)]) (placeFormat (hd 0x5804 [(1, 97)])))),
      obj1 0, rfl, by decide +kernel⟩,
    ⟨{ tv 2 with tqm.objs := [(0, { obj1 2 with pinLeft := 1 })], fch := { mode := 1, sets := 1 } },
      (({ tv 2 with tqm.objs := [(0, { obj1 2 with pinLeft := 1 })], fch := { mode := 1, sets := 1 } })).lookup 262144,
      262144, by decide +kernel⟩,
    ⟨State.reset, 0, by decide +kernel⟩⟩

/-- States and operands that meet the hypotheses of each clause of `Obligations.MailboxServices`. -/
theorem test_witness_MailboxServices :
    (∃ (p : Nat × (Nat → Instr)) (s u : State) (n : Nat) (v : Svc) (r : SvcRes), p ∈ mailM ∧ s.turn n p.1 ∧ (s.slot n).req =
      some v ∧ (s.slotRunning n).svcWaits v = false ∧ (s.slotRunning n).runSvc v (.svc n) = (u, some r) ∧ r.code = 0) ∧
    (∃ (p : Nat × (Nat → Instr)) (s u : State) (n : Nat) (v : Svc) (r : SvcRes), p ∈ mailM ∧ p.1 ≠ 0x20 ∧ s.turn n p.1 ∧
      (s.slot n).req = some v ∧ (s.slotRunning n).svcWaits v = false ∧ (s.slotRunning n).runSvc v (.svc n) = (u, some r) ∧
      r.code ≠ 0) ∧
    (∃ (p : Nat × (Nat → Instr)) (s : State) (n : Nat), p ∈ mailM ∧ s.turn n p.1 ∧ (s.slot n).req = none) :=
  ⟨⟨(0x01, .tenantSet), svc 0x01 28 [1],
      (((svc 0x01 28 [1]).slotRunning 0).runSvc (.tenantSet 1 0 0 0 0 0 0 0 false) (.svc 0)).1, 0,
      .tenantSet 1 0 0 0 0 0 0 0 false, {}, List.Mem.head _, by unfold State.turn; decide +kernel, by decide +kernel⟩,
    ⟨(0x01, .tenantSet), svc 0x01 28 [],
      (((svc 0x01 28 []).slotRunning 0).runSvc (.tenantSet 0 0 0 0 0 0 0 0 false) (.svc 0)).1, 0,
      .tenantSet 0 0 0 0 0 0 0 0 false, svcDENIED, List.Mem.head _, by decide +kernel,
      by unfold State.turn; decide +kernel, by decide +kernel⟩,
    ⟨(0x01, .tenantSet), svc 0x01 28 [0x2000000], 0, List.Mem.head _, by unfold State.turn; decide +kernel,
      by decide +kernel⟩⟩

/-- States and operands that meet the hypotheses of each clause of `Obligations.TenantAndGrantServices`. -/
theorem test_witness_TenantAndGrantServices :
    (∃ (s : State) (n t evt a b c d e f : Nat) (susp : Bool), s.turn n 0x01 ∧ (s.slot n).req = some (.tenantSet t evt a b c
      d e f susp) ∧ 0 < t ∧ t < 0xFFF ∧ evt < 192) ∧
    (∃ (s : State) (n evt a b c d e f : Nat) (susp : Bool), s.turn n 0x01 ∧ (s.slot n).req = some (.tenantSet 0 evt a b c d
      e f susp)) ∧
    (∃ (s : State) (n c h t : Nat), s.turn n 0x02 ∧ (s.slot n).req = some (.portBind c h t) ∧ c < 32 ∧ ((s.ctx c).host ≠ h ∨
      (s.ctx c).tenant ≠ t) ∧ t ≠ 0 ∧ h ≠ 0 ∧ h < 0xFFF ∧ s.tenantOk t = true ∧ (s.tqm.maps.any (fun e => e.1 / 4096 == c) =
      false)) ∧
    (∃ (s : State) (n h g : Nat) (r w a : Bool), s.turn n 0x07 ∧ (s.slot n).req = some (.grantSet h g r w a) ∧ (s.liveObj
      h).isSome = true ∧ (g = 0xFFF ∨ s.tenantOk g = true) ∧ s.tqm.grants = []) ∧
    (∃ (s : State) (n k : Nat), s.turn n 0x08 ∧ (s.slot n).req = some (.grantClear k) ∧ (s.grant k).valid = true) ∧
    (∃ (s : State) (n k h a1 a2 : Nat) (ok : Bool), s.turn n 0x0B ∧ (s.slot n).req = some (.netHostSet k h a1 a2 ok) ∧ 0 < k
      ∧ k < 0xFFF) ∧
    (∃ (ten : Nat), 0 < ten ∧ ten < 0xFFF) :=
  ⟨⟨svc 0x01 28 [0xBF0FFE], 0, 4094, 191, 0, 0, 0, 0, 0, 0, false, by unfold State.turn; decide +kernel,
      by decide +kernel⟩,
    ⟨svc 0x01 28 [], 0, 0, 0, 0, 0, 0, 0, 0, false, by unfold State.turn; decide +kernel, by decide +kernel⟩,
    ⟨{ svc 0x02 6 [0x0001010F, 1] with tqm.maps := [] }, 0, 31, 1, 1, by unfold State.turn; decide +kernel,
      by decide +kernel⟩,
    ⟨svc 0x07 11 [0, 0x10, 0xFFF], 0, h1, 0xFFF, false, false, false, by unfold State.turn; decide +kernel,
      by decide +kernel⟩,
    ⟨{ svc 0x08 4 [] with tqm.grants := [(0, { valid := true })] }, 0, 0, by unfold State.turn; decide +kernel,
      by decide +kernel⟩,
    ⟨svc 0x0B 32 [0xFFE], 0, 0xFFE, 0xFFE, 0, 0, false, by unfold State.turn; decide +kernel, by decide +kernel⟩,
    ⟨0xFFE, by decide +kernel⟩⟩

/-- States and operands that meet the hypotheses of each clause of `Obligations.ObjectServices`. -/
theorem test_witness_ObjectServices :
    (∃ (s : State) (n t len c : Nat), s.turn n 0x03 ∧ (s.slot n).req = some (.objCreate t len c) ∧ s.allocWait c = false ∧
      (s.tenantOk t = false ∨ t = 0 ∨ len = 0 ∨ 3 < c)) ∧
    (∃ (s u : State) (n t len c : Nat) (r : SvcRes), s.turn n 0x03 ∧ (s.slot n).req = some (.objCreate t len c) ∧
      s.allocWait c = false ∧ (s.slotRunning n).doObjCreate t len c (some n) = (u, some r) ∧ r.code = 0) ∧
    (∃ (s : State) (n t len c : Nat), s.turn n 0x03 ∧ (s.slot n).req = some (.objCreate t len c) ∧ s.allocWait c = true) ∧
    (∃ (s : State) (n h len : Nat), s.turn n 0x04 ∧ (s.slot n).req = some (.objResize h len) ∧ s.liveObj h = none) ∧
    (∃ (s : State) (n h len : Nat) (o : Obj), s.turn n 0x04 ∧ (s.slot n).req = some (.objResize h len) ∧ s.liveObj h = some
      o ∧ o.pinLeft = 0 ∧ o.cls = 0 ∧ o.len ≤ len ∧ 0 < len ∧ len ≤ 8388607 * 2 ^ 30 ∧ shelvesFor len = shelvesFor o.len) ∧
    (∃ (s : State) (n h c : Nat) (o : Obj), s.turn n 0x05 ∧ (s.slot n).req = some (.objPlace h c) ∧ s.liveObj h = some o ∧
      o.cls = c ∧ c < 3) ∧
    (∃ (s : State) (n h : Nat) (o : Obj), s.turn n 0x06 ∧ (s.slot n).req = some (.objDelete h) ∧ s.liveObj h = some o ∧
      s.named h = true) ∧
    (∃ (s u : State) (n h : Nat), s.turn n 0x06 ∧ (s.slot n).req = some (.objDelete h) ∧ (s.slotRunning n).doObjDelete h =
      (u, svcOK)) :=
  ⟨⟨svc 0x03 16 [0x40000], 0, 0, 0, 4, by unfold State.turn; decide +kernel, by decide +kernel⟩,
    ⟨{ svc 0x03 16 [1, 0, 1] with stk.links := [(0, { st := 2, shelves := 1000 })] },
      ((({ svc 0x03 16 [1, 0, 1] with stk.links := [(0, { st := 2, shelves := 1000 })] }).slotRunning 0).doObjCreate 1 1 0 (some 0)).1,
      0, 1, 1, 0,
      ((({ svc 0x03 16 [1, 0, 1] with stk.links := [(0, { st := 2, shelves := 1000 })] }).slotRunning 0).doObjCreate 1 1 0 (some 0)).2.getD {},
      by unfold State.turn; decide +kernel, by decide +kernel⟩,
    ⟨{ svc 0x03 16 [1, 0, 1] with twn := { role := .active, partner := .inStep } }, 0, 1, 1, 0,
      by unfold State.turn; decide +kernel, by decide +kernel⟩,
    ⟨svc 0x04 16 [1], 0, 1, 0, by unfold State.turn; decide +kernel, by decide +kernel⟩,
    ⟨svc 0x04 16 [0, 0x10, 0x40000000], 0, h1, 2 ^ 30, obj1 0, by unfold State.turn; decide +kernel,
      by decide +kernel⟩,
    ⟨svc 0x05 9 [0, 0x10, 2] 2, 0, h1, 2, obj1 2, by unfold State.turn; decide +kernel, by decide +kernel⟩,
    ⟨svc 0x06 8 [0, 0x10], 0, h1, obj1 0, by unfold State.turn; decide +kernel, by decide +kernel⟩,
    ⟨{ svc 0x06 8 [0, 0x10] with tqm.maps := [], tqm.objs := [(0, { live := true, tenant := 1, base := 1, len := 4096 })] },
      ((({ svc 0x06 8 [0, 0x10] with tqm.maps := [], tqm.objs := [(0, { live := true, tenant := 1, base := 1, len := 4096 })] }).slotRunning 0).doObjDelete h1).1,
      0, h1, by unfold State.turn; decide +kernel, by decide +kernel⟩⟩

/-- States and operands that meet the hypotheses of each clause of `Obligations.WindowAndStreamServices`. -/
theorem test_witness_WindowAndStreamServices :
    (∃ (s : State) (n k t host h off len base : Nat) (r w a : Bool), s.turn n 0x09 ∧ (s.slot n).req = some (.windowSet k t
      host h off len base r w a) ∧ k < 1048576 ∧ s.tenantOk t = true ∧ t ≠ 0 ∧ host ≠ 0 ∧ (s.liveObj h).isSome = true ∧
      (s.window k).valid = false ∧ (s.window k).clearing = none) ∧
    (∃ (s : State) (n k t host h off len base : Nat) (r w a : Bool), s.turn n 0x09 ∧ (s.slot n).req = some (.windowSet k t
      host h off len base r w a) ∧ (1048576 ≤ k ∨ s.tenantOk t = false ∨ t = 0 ∨ host = 0)) ∧
    (∃ (s : State) (n k : Nat), s.turn n 0x0A ∧ (s.slot n).req = some (.windowClear k) ∧ (s.window k).valid = false) ∧
    (∃ (s : State) (n k : Nat), s.turn n 0x0A ∧ (s.slot n).req = some (.windowClear k) ∧ k < 1048576 ∧ (s.window k).valid =
      true ∧ s.winBusy k = true) ∧
    (∃ (s : State) (n k : Nat), s.turn n 0x0A ∧ (s.slot n).req = some (.windowClear k) ∧ k < 1048576 ∧ (s.window k).valid =
      true ∧ s.winBusy k = false) ∧
    (∃ (s : State) (k slot : Nat), (s.window k).clearing = some slot ∧ s.winBusy k = false) ∧
    (∃ (s : State) (k slot : Nat), (s.window k).clearing = some slot ∧ s.winBusy k = true) ∧
    (∃ (s : State) (n i : Nat), s.turn n 0x12 ∧ (s.slot n).req = some (.streamAbort i) ∧ (s.stream i).live = true) ∧
    (∃ (s : State) (n i : Nat), s.turn n 0x12 ∧ (s.slot n).req = some (.streamAbort i) ∧ (s.stream i).live = false) ∧
    (∃ (s : State) (n : Nat), s.turn n 0x10 ∧ (s.stream ((s.slot n).arg 0 4)).report = none) ∧
    (∃ (s : State) (n : Nat) (l : List Byte) (c d : Bool), s.turn n 0x10 ∧ s.reportRead ((s.slot n).arg 0 4) ((s.slot n).arg
      4 4) = .data l c d) ∧
    (∃ (s : State) (n i : Nat) (rep : Report), s.turn n 0x11 ∧ (s.slot n).req = some (.reportRelease i) ∧ (s.stream
      i).report = some rep ∧ rep.building = false) ∧
    (∃ (s : State) (n i : Nat), s.turn n 0x11 ∧ (s.slot n).req = some (.reportRelease i) ∧ (s.stream i).report = none) ∧
    (∃ (s : State) (n h off len mop : Nat), s.turn n 0x13 ∧ (s.slot n).req = some (.folioMaint h off len mop) ∧ mop ≤ 4 ∧
      s.liveObj h = none) ∧
    (∃ (s : State) (n h off mop lpa : Nat) (o : Obj), s.turn n 0x13 ∧ (s.slot n).req = some (.folioMaint h off 0 mop) ∧ mop
      < 4 ∧ s.liveObj h = some o ∧ s.translate h off 1 = .ok lpa) :=
  ⟨⟨svc 0x09 41 [0xFFFFF, 0x10001, 0, 0x10], 0, 0xFFFFF, 1, 1, h1, 0, 0, 0, false, false, false,
      by unfold State.turn; decide +kernel, by decide +kernel⟩,
    ⟨svc 0x09 41 [0xFFFFF, 1, 0, 0x10], 0, 0xFFFFF, 1, 0, h1, 0, 0, 0, false, false, false,
      by unfold State.turn; decide +kernel, by decide +kernel⟩,
    ⟨svc 0x0A 4 [], 0, 0, by unfold State.turn; decide +kernel, by decide +kernel⟩,
    ⟨{ svc 0x0A 4 [0xFFFFF] with tqm.windows := [(0xFFFFF, { valid := true })], fch.waits := [.load { win := 0xFFFFF }] },
      0, 0xFFFFF, by unfold State.turn; decide +kernel, by decide +kernel⟩,
    ⟨{ svc 0x0A 4 [0xFFFFF] with tqm.windows := [(0xFFFFF, { valid := true, tag := 4095 })] }, 0, 0xFFFFF,
      by unfold State.turn; decide +kernel, by decide +kernel⟩,
    ⟨{ State.reset with tqm.windows := [(0, { clearing := some 0 })] }, 0, 0, by decide +kernel⟩,
    ⟨{ State.reset with tqm.windows := [(0, { clearing := some 0 })], fch.waits := [.load { win := 0 }] }, 0, 0,
      by decide +kernel⟩,
    ⟨{ svc 0x12 4 [] with epo.streams := [(0, { st := .opened })] }, 0, 0, by unfold State.turn; decide +kernel,
      by decide +kernel⟩,
    ⟨svc 0x12 4 [], 0, 0, by unfold State.turn; decide +kernel, by decide +kernel⟩,
    ⟨svc 0x10 8 [], 0, by unfold State.turn; decide +kernel, by decide +kernel⟩,
    ⟨{ svc 0x10 8 [] with epo.streams := [(0, { report := some {} })] }, 0,
      ansBytes (({ svc 0x10 8 [] with epo.streams := [(0, { report := some {} })] }).reportRead 0 0), false, false,
      by unfold State.turn; decide +kernel, by decide +kernel⟩,
    ⟨{ svc 0x11 4 [] with epo.streams := [(0, { report := some {} })] }, 0, 0, {},
      by unfold State.turn; decide +kernel, by decide +kernel⟩,
    ⟨svc 0x11 4 [], 0, 0, by unfold State.turn; decide +kernel, by decide +kernel⟩,
    ⟨svc 0x13 21 [1, 0, 0, 0, 0, 4], 0, 1, 0, 0, 4, by unfold State.turn; decide +kernel, by decide +kernel⟩,
    ⟨svc 0x13 21 [0, 0x10, 0, 0, 0, 3], 0, h1, 0, 3, 2 ^ 30, obj1 0, by unfold State.turn; decide +kernel,
      by decide +kernel⟩⟩

/-- States and operands that meet the hypotheses of each clause of `Obligations.FillsAndEvictions`. -/
theorem test_witness_FillsAndEvictions :
    (∃ (s : State) (f : Nat), s.fillOf f = none) ∧
    (∃ (s : State) (f k : Nat) (x : Fill) (l : List (Line × Tag)), s.fillOf f = some x ∧ x.way = some k ∧ x.zero = false ∧
      x.desk = some l ∧ s.wayFree k = true) ∧
    (∃ (s : State) (f k : Nat) (x : Fill), s.fillOf f = some x ∧ x.way = some k ∧ x.zero = false ∧ x.desk = none) ∧
    (∃ (s : State) (f k : Nat), s.sledFirst (s.sledLink f) = true ∧ shelfOf f ≠ 0 ∧ s.findWay f = some k ∧ k < deskKey ∧
      s.lostShelf f = false ∧ (s.way k).st = 2 ∧ s.fch.evb.length < 4096) ∧
    (∃ (s : State) (f k : Nat), s.findWay f = some k ∧ s.fch.evb.length = 4096) ∧
    (∃ (s : State) (f : Nat), s.sledFirst (s.sledLink f) = false) ∧
    (∃ (s : State) (tile n sh : Nat) (e : Evb), s.fch.evb = [e] ∧ e.folio / 16 = tile ∧ e.sent = false ∧ s.solo = true ∧
      s.sledOf e.folio = some (n, sh) ∧ s.stkReady n = true ∧ shelfOf e.folio ≠ 0) ∧
    (∃ (s : State), s.fch.evb = []) ∧
    (∃ (s : State) (q : FReq) (rest : List FReq), s.fch.waits = q :: rest ∧ s.hazUsed < 8192) ∧
    (∃ (s : State), 8192 ≤ s.hazUsed) :=
  ⟨⟨State.reset, 0, by decide +kernel⟩,
    ⟨{ State.reset with fch.fills := [{ way := some 0, desk := some [] }] }, 0, 0,
      { way := some 0, desk := some [] }, [], by decide +kernel⟩,
    ⟨{ State.reset with fch.fills := [{ way := some 0 }] }, 0, 0, { way := some 0 }, by decide +kernel⟩,
    ⟨{ State.reset with fch.dir := [(0, { st := 2, folio := 262144 })] }, 262144, 0, by decide +kernel⟩,
    ⟨{ State.reset with fch := { dir := [(0, { st := 2 })], evb := List.replicate 4096 {} } }, 0, 0,
      by decide +kernel, List.length_replicate⟩,
    ⟨{ State.reset with rsv.stage := 1, fch.dir := [(0, { st := 2, folio := 262144 })], tqm.shelves := [(1, { st := 1, sled := 15 })], stk.links := [(15, { st := 2 })] },
      0, by decide +kernel⟩,
    ⟨{ State.reset with fch.evb := [{ folio := 262144 }], tqm.shelves := [(1, { st := 1, sled := 15 })], stk.links := [(15, { st := 2 })] },
      16384, 15, 0, { folio := 262144 }, by decide +kernel⟩,
    ⟨State.reset, by decide +kernel⟩,
    ⟨{ State.reset with fch.waits := [.load {}] }, .load {}, [], by decide +kernel⟩,
    ⟨{ State.reset with fch.fills := List.replicate 8192 {} }, le_hazUsed rfl⟩⟩

/-- States and operands that meet the hypotheses of each clause of `Obligations.ReadingRoomModes`. -/
theorem test_witness_ReadingRoomModes :
    (∃ (s : State), s.flag fFCH_CTRL_SWEEP_EN = true ∧ (s.fch.mode = 1 ∨ s.fch.mode = 2) ∧ 0 < s.fch.sets ∧
      s.fch.tagc.contains s.fch.sweepAt = true ∧ (Tab.wf (fun _ => ({} : Way)) s.fch.dir = true)) ∧
    (∃ (s : State), s.flag fFCH_CTRL_SWEEP_EN = false) ∧
    (∃ (s : State), s.fch.mode = 1 ∧ ((s.tqm.objs.any (fun e => e.2.live && e.2.cls == 3)) = true)) ∧
    (∃ (s : State), s.fch.mode = 1 ∧ ((s.tqm.objs.any (fun e => e.2.live && e.2.cls == 3)) = false)) ∧
    (∃ (s : State), s.fch.mode = 0) ∧
    (∃ (s : State), s.fch.mode = 0) ∧
    (∃ (s : State), s.fch.mode = 1) ∧
    (∃ (s : State), 2 ≤ s.fch.mode) ∧
    (∃ (s : State), s.fch.mode = 3 ∧ s.pwr.st ≠ .starting ∧ s.walkObjs.fch.latched = none) ∧
    (∃ (s : State), s.fch.mode < 2) :=
  ⟨⟨{ State.reset with fch := { mode := 1, sets := 1, tagc := [0] }, regs := [(0xD00000, 8)] }, by decide +kernel⟩,
    ⟨State.reset, by decide +kernel⟩,
    ⟨{ State.reset with fch.mode := 1, tqm.objs := [(0, obj1 3)] }, by decide +kernel⟩,
    ⟨{ State.reset with fch.mode := 1 }, by decide +kernel⟩,
    ⟨State.reset, by decide +kernel⟩,
    ⟨State.reset, by decide +kernel⟩,
    ⟨{ State.reset with fch.mode := 1 }, by decide +kernel⟩,
    ⟨{ State.reset with fch.mode := 2 }, by decide +kernel⟩,
    ⟨{ State.reset with fch.mode := 3 }, by decide +kernel⟩,
    ⟨{ State.reset with fch.mode := 1 }, by decide +kernel⟩⟩

/-- States and operands that meet the hypotheses of each clause of `Obligations.StackLinkEvents`. -/
theorem test_witness_StackLinkEvents :
    (∃ (s : State) (n : Nat), s.stkLive n = true ∧ (s.link n).trained = false ∧ ((s.link n).st = 0 ∨ (s.link n).st = 1)) ∧
    (∃ (s : State) (n : Nat), s.stkLive n = true ∧ (s.link n).trained = false ∧ (s.link n).st = 3) ∧
    (∃ (s : State) (n : Nat), s.stkLive n = true ∧ bitOf s.cru.refOk 3 = true ∧ (s.link n).trained = false ∧ ((s.link n).st
      = 1 ∨ (s.link n).st = 3)) ∧
    (∃ (s : State) (n : Nat) (body : List Byte), n < 16 ∧ (s.link n).carries = true ∧ body.length ≠ 1024) ∧
    (∃ (s u : State) (n : Nat) (hdr : BitVec 64) (body : List Byte), n < 16 ∧ (s.link n).carries = true ∧ body.length = 1024
      ∧ (crc32 (leBytes 4 (hdr.toNat % 2 ^ 32) ++ body)).toNat = hdr.toNat / 2 ^ 32 ∧ bitsOf hdr.toNat 13 12 = 1 ∧ bitsOf
      hdr.toNat 11 0 = ((s.link n).rxSeq + 1) % 4096 ∧ hdr.getLsbD 28 = false ∧ (u = s.setLink n
      { s.link n with rxSeq := ((s.link n).rxSeq + 1) % 4096, rxAck := bitsOf hdr.toNat 27 16 })) ∧
    (∃ (s : State) (n : Nat), n < 16 ∧ (s.link n).carries = true ∧ (s.link n).rxAck ≠ (s.link n).txSeq) ∧
    (∃ (s : State) (n : Nat), n < 16 ∧ (s.link n).carries = true) ∧
    (∃ (s : State) (n : Nat), n < 16 ∧ (s.link n).carries = true) ∧
    (∃ (s : State) (n : Nat), (s.link n).carries = false) ∧
    (∃ (s : State) (n : Nat), s.stkLive n = true ∧ (s.link n).st = 2) ∧
    (∃ (s : State) (n : Nat), s.stkLive n = true ∧ ((s.link n).st = 0 ∨ (s.link n).st = 1)) ∧
    (∃ (s : State) (m n : Nat), s.turn m 0x31 ∧ (s.slot m).arg 0 1 = n ∧ (n ≥ 16 ∨ (s.link n).st ≠ 4)) ∧
    (∃ (s : State) (m n : Nat), s.turn m 0x31 ∧ (s.slot m).arg 0 1 = n ∧ n < 16 ∧ (s.link n).st = 4 ∧ (∀ e ∈ s.tqm.shelves,
      ¬ (e.2.st = 3 ∧ e.2.sled = n)) ∧ s.twn.diverge = []) :=
  ⟨⟨lnk { st := 1 }, 15, by decide +kernel⟩,
    ⟨lnk { st := 3 }, 15, by decide +kernel⟩,
    ⟨{ lnk { st := 1 } with cru.refOk := 8 }, 15, by decide +kernel⟩,
    ⟨lnk { trained := true }, 15, [], by decide +kernel⟩,
    ⟨lnk { trained := true },
      ((lnk { trained := true })).setLink 15 { ((lnk { trained := true })).link 15 with rxSeq := (((lnk { trained := true })).link 15).rxSeq + 1, rxAck := 0 },
      15, 0x32a143e400001001, List.replicate 1024 0, by decide +kernel, by decide +kernel, by decide +kernel,
      by rw [crc32_strict]; decide +kernel, by decide +kernel⟩,
    ⟨lnk { trained := true, txSeq := 1 }, 15, by decide +kernel⟩,
    ⟨lnk { trained := true }, 15, by decide +kernel⟩,
    ⟨lnk { st := 2 }, 15, by decide +kernel⟩,
    ⟨lnk {}, 15, by decide +kernel⟩,
    ⟨lnk { st := 2 }, 15, by decide +kernel⟩,
    ⟨lnk { st := 1 }, 15, by decide +kernel⟩,
    ⟨req 0 [0x00010031, 0, 0, 0, 16], 0, 16, by unfold State.turn; decide +kernel, by decide +kernel⟩,
    ⟨{ req 0 [0x00010031, 0, 0, 0, 15] with stk.links := [(15, { st := 4 })] }, 0, 15,
      by unfold State.turn; decide +kernel, by decide +kernel⟩⟩

/-- States and operands that meet the hypotheses of each clause of `Obligations.StackResponses`. -/
theorem test_witness_StackResponses :
    (∃ (s : State) (n tag : Nat), s.stkFind n tag 1 = none) ∧
    (∃ (s u : State) (n tag k : Nat) (r : StkReq), s.stkFind n tag 1 = some r ∧ k < 16 ∧ r.mask = 2 ^ k ∧ u = s.stkHeard n
      r) ∧
    (∃ (s u : State) (n tag : Nat) (r : StkReq), s.stkFind n tag 1 = some r ∧ u = s.stkHeard n r) ∧
    (∃ (s u : State) (n tag : Nat) (r : StkReq), s.stkFind n tag 2 = some r ∧ u = s.stkHeard n r ∧ u.rsv.ph = .off ∧ r.ltile
      < vaultTile) ∧
    (∃ (s u : State) (n tag : Nat) (r : StkReq), s.stkFind n tag 3 = some r ∧ r.arg ≠ 16384 ∧ u = s.stkHeard n r) ∧
    (∃ (s u : State) (n tag : Nat) (r : StkReq), s.stkFind n tag 4 = some r ∧ u = s.stkHeard n r) ∧
    (∃ (s u : State) (n tag : Nat) (r : StkReq), s.stkFind n tag 5 = some r ∧ u = s.stkHeard n r ∧ u.beforeStep8 = true ∧
      u.rsv.ph = .off) ∧
    (∃ (s u : State) (n tag : Nat) (r : StkReq), s.stkFind n tag 6 = some r ∧ u = s.stkHeard n r ∧ u.rsv.ph = .entry) ∧
    (∃ (s u : State) (n tag : Nat) (r : StkReq), s.stkFind n tag 6 = some r ∧ u = s.stkHeard n r ∧ u.rsv.ph = .entry) ∧
    (∃ (s : State) (n : Nat), n < 16 ∧ (s.link n).vbAgain = true ∧ s.rsv.ph = .entry) ∧
    (∃ (s : State) (n tag : Nat) (r : StkReq), ((s.link n).out.find? (fun r => r.tag == tag) = some r) ∧ r.op ≠ 6) ∧
    (∃ (s : State) (n tag : Nat) (r : StkReq), ((s.link n).out.find? (fun r => r.tag == tag) = some r) ∧ r.op = 6) :=
  ⟨⟨lnk {}, 15, 0, by decide +kernel⟩,
    ⟨lnk { out := [{ op := 1, mask := 0x8000 }] },
      ((lnk { out := [{ op := 1, mask := 0x8000 }] })).stkHeard 15 ({ op := 1, mask := 0x8000 }), 15, 0, 15,
      { op := 1, mask := 0x8000 }, by decide +kernel⟩,
    ⟨lnk { out := [{ op := 1 }] }, ((lnk { out := [{ op := 1 }] })).stkHeard 15 ({ op := 1 }), 15, 0, { op := 1 },
      by decide +kernel⟩,
    ⟨lnk { out := [{ op := 2 }] }, ((lnk { out := [{ op := 2 }] })).stkHeard 15 ({ op := 2 }), 15, 0, { op := 2 },
      by decide +kernel⟩,
    ⟨lnk { out := [{ op := 3 }] }, ((lnk { out := [{ op := 3 }] })).stkHeard 15 ({ op := 3 }), 15, 0, { op := 3 },
      by decide +kernel⟩,
    ⟨lnk { out := [{ op := 4 }] }, ((lnk { out := [{ op := 4 }] })).stkHeard 15 ({ op := 4 }), 15, 0, { op := 4 },
      by decide +kernel⟩,
    ⟨{ lnk { trained := true, out := [{ op := 5 }] } with pwr.st := .starting, cru.step := 7 },
      (({ lnk { trained := true, out := [{ op := 5 }] } with pwr.st := .starting, cru.step := 7 })).stkHeard 15 ({ op := 5 }),
      15, 0, { op := 5 }, by decide +kernel⟩,
    ⟨{ lnk { out := [{ op := 6 }] } with rsv.ph := .entry },
      (({ lnk { out := [{ op := 6 }] } with rsv.ph := .entry })).stkHeard 15 ({ op := 6 }), 15, 0, { op := 6 },
      by decide +kernel⟩,
    ⟨{ lnk { out := [{ op := 6 }] } with rsv.ph := .entry },
      (({ lnk { out := [{ op := 6 }] } with rsv.ph := .entry })).stkHeard 15 ({ op := 6 }), 15, 0, { op := 6 },
      by decide +kernel⟩,
    ⟨{ lnk { vbAgain := true } with rsv.ph := .entry }, 15, by decide +kernel⟩,
    ⟨lnk { out := [{ op := 1 }] }, 15, 0, { op := 1 }, by decide +kernel⟩,
    ⟨lnk { out := [{ op := 6 }] }, 15, 0, { op := 6 }, by decide +kernel⟩⟩

/-- States and operands that meet the hypotheses of each clause of `Obligations.ChannelEvents`. -/
theorem test_witness_ChannelEvents :
    (∃ (s : State) (c : Nat), s.issues c = true) ∧
    (∃ (s : State) (c : Nat), (s.ch c).st = 2 ∧ (s.ch c).alert = true) ∧
    (∃ (s : State) (c : Nat), (s.ch c).st = 2) ∧
    (∃ (s : State) (c : Nat), (s.ch c).st ≠ 0 ∧ (s.ch c).st ≠ 5) ∧
    (∃ (s : State) (c : Nat), (s.ch c).st = 2 ∧ (s.ch c).replaying = false) ∧
    (∃ (s u : State) (c : Nat), (s.ch c).st = 2 ∧ (s.ch c).replaying = true ∧ u = s.replayDone c) ∧
    (∃ (s : State) (c : Nat), (s.ch c).st = 2 ∧ (s.ch c).alerts ≥ 2) ∧
    (∃ (s : State) (c : Nat), (s.ch c).alert = true) ∧
    (∃ (s : State) (c : Nat), (s.ch c).alert = true) ∧
    (∃ (s u : State) (c margin : Nat), (s.ch c).st = 2 ∧ (s.ch c).retrainNow = true ∧ s.fld (fDMC_RETRAIN_MARGIN_MIN.plus
      (dmcOff c)) ≤ margin ∧ u = (s.dramRanks c "MRR oscillator").emit (.dmc c "re-centre" 0)) ∧
    (∃ (s u : State) (c margin : Nat), (s.ch c).st = 2 ∧ (s.ch c).retrainNow = true ∧ (s.ch c).lowMargins = 2 ∧ margin <
      s.fld (fDMC_RETRAIN_MARGIN_MIN.plus (dmcOff c)) ∧ u = (s.dramRanks c "MRR oscillator").emit (.dmc c "re-centre" 0)) ∧
    (∃ (s : State) (c : Nat), (s.ch c).st = 2) ∧
    (∃ (s : State), s.speedable = false) ∧
    (∃ (s : State) (c : Nat), s.speedable = true ∧ (s.ch c).st = 2) ∧
    (∃ (s u : State) (c : Nat), (s.ch c).st = 4 ∧ (s.ch c).alert = false ∧ u = ((s.dram c "delays" (b2n (!(s.ch
      c).tset))).dramRanks c "SRX").dramRanks c "REFab") ∧
    (∃ (s : State) (c : Nat), (s.ch c).alert = true) :=
  ⟨⟨chan { st := 2 }, 15, by decide +kernel⟩,
    ⟨chan { st := 2, alert := true }, 15, by decide +kernel⟩,
    ⟨chan { st := 2 }, 15, by decide +kernel⟩,
    ⟨chan { st := 4 }, 15, by decide +kernel⟩,
    ⟨chan { st := 2 }, 15, by decide +kernel⟩,
    ⟨chan { st := 2, replaying := true }, ((chan { st := 2, replaying := true })).replayDone 15, 15,
      by decide +kernel⟩,
    ⟨chan { st := 2, alerts := 2 }, 15, by decide +kernel⟩,
    ⟨chan { alert := true }, 15, by decide +kernel⟩,
    ⟨chan { st := 2, alert := true }, 15, by decide +kernel⟩,
    ⟨chan { st := 2, retrainNow := true, lowMargins := 2 },
      (((chan { st := 2, retrainNow := true, lowMargins := 2 })).dramRanks 15 "MRR oscillator").emit (.dmc 15 "re-centre" 0),
      15, 255, by decide +kernel⟩,
    ⟨{ chan { st := 2, retrainNow := true, lowMargins := 2 } with regs := [(0x10F0018, 0xFF00), (0x1F00018, 0xFF00)] },
      ((({ chan { st := 2, retrainNow := true, lowMargins := 2 } with regs := [(0x10F0018, 0xFF00), (0x1F00018, 0xFF00)] })).dramRanks 15 "MRR oscillator").emit (.dmc 15 "re-centre" 0),
      15, 0, by decide +kernel⟩,
    ⟨chan { st := 2 }, 15, by decide +kernel⟩,
    ⟨State.reset, by decide +kernel⟩,
    ⟨{ chan { st := 2 } with regs := [(0x1000008, 0x00810000)] }, 15, by decide +kernel⟩,
    ⟨chan { st := 4 },
      ((((chan { st := 4 })).dram 15 "delays" (b2n (!(((chan { st := 4 })).ch 15).tset))).dramRanks 15 "SRX").dramRanks 15 "REFab",
      15, by decide +kernel⟩,
    ⟨chan { st := 4, alert := true }, 15, by decide +kernel⟩⟩

/-- States and operands that meet the hypotheses of each clause of `Obligations.ReliabilityCommands`. -/
theorem test_witness_ReliabilityCommands :
    (∃ (s : State) (c : Nat), s.flag fLPR_CTRL_SCRUB_EN = true ∧ (s.ch c).st = 2 ∧ s.rsv.ph = .off ∧ s.chLines ≠ 0 ∧
      (Tab.get (fun _ => 0) s.lpr.scrubAt c + 1 ≥ s.chLines)) ∧
    (∃ (s : State), s.flag fLPR_CTRL_SCRUB_EN = false) ∧
    (∃ (s : State) (c e : Nat), (s.remapEnt c e).valid = true ∧ (s.remapEnt c e).persisted = false) ∧
    (∃ (s : State), s.cipherOn = true) ∧
    (∃ (s : State), (s.dmc.pop.any (fun c => (s.ch c).st == 2) = false)) ∧
    (∃ (s : State), (s.dmc.pop.any (fun c => (s.ch c).st == 2) = true)) ∧
    (∃ (s : State), s.lpr.bistRun = true) ∧
    (∃ (s : State), s.sec.level ≠ 2) ∧
    (∃ (s : State) (p : Nat), s.rawOpen p = true ∧ s.rawReach = true) ∧
    (∃ (s : State) (p : Nat), s.rawOpen p = true) ∧
    (∃ (s : State) (n : Nat), s.turn n 0x32 ∧ s.dmc.pop.contains ((s.slot n).arg 0 1) = true ∧ (s.slot n).arg 1 1 < 2 ^
      (s.ch ((s.slot n).arg 0 1)).rankBits ∧ (s.slot n).arg 2 1 < 20) ∧
    (∃ (s : State) (n : Nat), s.turn n 0x32 ∧ (s.slot n).arg 2 1 ≥ 20) ∧
    (∃ (s v : State) (n c l e sp : Nat) (d : Line) (g : Tag), s.turn n 0x33 ∧ (s.slot n).zero 1 3 = true ∧ (s.slot n).arg 0
      1 = c ∧ (s.slot n).arg 4 5 = l ∧ l < 2 ^ 33 ∧ s.dmc.pop.contains c = true ∧ s.remapFull c = false ∧ s.remapOf c l =
      none ∧ ((upTo 64).find? (fun e => !(s.remapEnt c e).valid) = some e) ∧ (upTo 128).find? (s.spareFits c l) = some sp ∧
      (s.slotRunning n).copyLine (s.lineOf c l) = (v, d, g)) ∧
    (∃ (s : State) (n c l : Nat), s.turn n 0x33 ∧ (s.slot n).zero 1 3 = true ∧ (s.slot n).arg 0 1 = c ∧ (s.slot n).arg 4 5 =
      l ∧ l < 2 ^ 33 ∧ s.dmc.pop.contains c = true ∧ s.remapFull c = true) ∧
    (∃ (s : State) (n : Nat), s.turn n 0x33 ∧ (s.slot n).zero 1 3 = true ∧ (s.slot n).arg 4 5 < 2 ^ 33 ∧ s.dmc.pop.contains
      ((s.slot n).arg 0 1) = false) ∧
    (∃ (s : State) (n : Nat), s.turn n 0x33 ∧ (s.slot n).arg 4 5 ≥ 2 ^ 33) :=
  ⟨⟨{ chan { st := 2 } with regs := [(0x2000000, 2)] }, 15, by decide +kernel⟩,
    ⟨State.reset, by decide +kernel⟩,
    ⟨{ State.reset with lpr.remap := [(0, { valid := true })] }, 0, 0, by decide +kernel⟩,
    ⟨live, by decide +kernel⟩,
    ⟨State.reset, by decide +kernel⟩,
    ⟨chan { st := 2 }, by decide +kernel⟩,
    ⟨{ State.reset with lpr.bistRun := true }, by decide +kernel⟩,
    ⟨State.reset, by decide +kernel⟩,
    ⟨chan { st := 5 }, 1, by decide +kernel⟩,
    ⟨State.reset, 3, by decide +kernel⟩,
    ⟨{ req 0 [0x00030032, 0, 0, 0, 0x13000F] with dmc := { pop := [15], chs := [(15, {})] } }, 0,
      by unfold State.turn; decide +kernel, by decide +kernel⟩,
    ⟨req 0 [0x00030032, 0, 0, 0, 0x140000], 0, by unfold State.turn; decide +kernel, by decide +kernel⟩,
    ⟨{ req 0 [0x00090033, 0, 0, 0, 15, 5] with dmc := { pop := [15], bytes := 128, chs := [(15, { st := 2 })] } },
      (((({ req 0 [0x00090033, 0, 0, 0, 15, 5] with dmc := { pop := [15], bytes := 128, chs := [(15, { st := 2 })] } })).slotRunning 0).copyLine (((({ req 0 [0x00090033, 0, 0, 0, 15, 5] with dmc := { pop := [15], bytes := 128, chs := [(15, { st := 2 })] } })).slotRunning 0).lineOf 15 5)).1,
      0, 15, 5, 0, 32,
      (((({ req 0 [0x00090033, 0, 0, 0, 15, 5] with dmc := { pop := [15], bytes := 128, chs := [(15, { st := 2 })] } })).slotRunning 0).copyLine (((({ req 0 [0x00090033, 0, 0, 0, 15, 5] with dmc := { pop := [15], bytes := 128, chs := [(15, { st := 2 })] } })).slotRunning 0).lineOf 15 5)).2.1,
      (((({ req 0 [0x00090033, 0, 0, 0, 15, 5] with dmc := { pop := [15], bytes := 128, chs := [(15, { st := 2 })] } })).slotRunning 0).copyLine (((({ req 0 [0x00090033, 0, 0, 0, 15, 5] with dmc := { pop := [15], bytes := 128, chs := [(15, { st := 2 })] } })).slotRunning 0).lineOf 15 5)).2.2,
      by unfold State.turn; decide +kernel, by decide +kernel, by decide +kernel, by decide +kernel, by decide +kernel,
      by decide +kernel, by decide +kernel, by decide +kernel, by decide +kernel, by decide +kernel, rfl⟩,
    ⟨{ req 0 [0x00090033, 0, 0, 0, 15, 5] with dmc := { pop := [15], bytes := 128, chs := [(15, { st := 2 })] }, lpr.remap := (List.range 64).map (fun e => (15 * 64 + e, { valid := true })) },
      0, 15, 5, by unfold State.turn; decide +kernel, by decide +kernel⟩,
    ⟨req 0 [0x00090033, 0, 0, 0, 0, 0xFFFFFFFF, 1], 0, by unfold State.turn; decide +kernel, by decide +kernel⟩,
    ⟨req 0 [0x00090033, 0, 0, 0, 0, 0, 2], 0, by unfold State.turn; decide +kernel, by decide +kernel⟩⟩

/-- States and operands that meet the hypotheses of each clause of `Obligations.TvedfyTraining`. -/
theorem test_witness_TvedfyTraining :
    (∃ (s : State) (lk : Nat), lk < 32 ∧ s.ports = true ∧ bitOf s.cru.refOk 0 = true ∧ s.tvOn (lk / 2) = true ∧ (s.tvl_
      lk).st = 0 ∧ s.tvExists lk = true) ∧
    (∃ (s : State), s.twnOn = true ∧ bitOf s.cru.refOk 2 = true ∧ (s.tvl_ twinLk).st = 0) ∧
    (∃ (s : State) (lk : Nat), (s.tvl_ lk).st ≠ 0) ∧
    (∃ (s : State) (lk : Nat), lk < 32 ∧ (s.tvl_ lk).st = 1) ∧
    (∃ (s : State) (lk : Nat), (s.tvl_ lk).st = 1) ∧
    (∃ (s : State) (lk : Nat), (s.tvl_ lk).st = 2) ∧
    (∃ (s : State) (lk : Nat), (s.tvl_ lk).st = 2) ∧
    (∃ (s : State) (lk : Nat), (s.tvl_ lk).st = 3) ∧
    (∃ (s : State) (lk : Nat) (b : List Byte), lk < 32 ∧ (s.tvl_ lk).st = 3 ∧ tvConfigOk (s.tvl_ lk) lk b = false) ∧
    (∃ (s : State) (lk : Nat) (b : List Byte), lk < 32 ∧ (s.tvl_ lk).st = 3 ∧ tvConfigOk (s.tvl_ lk) lk b = true ∧ ((s.tvl_
      lk).uid = 0 ∨ (s.tvl_ lk).uid = blkNat b 4 8) ∧ bitOf (blkNat b 1 1) 3 = true) ∧
    (∃ (s : State) (lk : Nat) (b : List Byte), lk < 32 ∧ (s.tvl_ lk).st = 3 ∧ tvConfigOk (s.tvl_ lk) lk b = true ∧ (s.tvl_
      lk).uid ≠ 0 ∧ (s.tvl_ lk).uid ≠ blkNat b 4 8 ∧ bitOf (blkNat b 1 1) 3 = false) :=
  ⟨⟨tvLnk {}, 31, by decide +kernel⟩,
    ⟨{ live with regs := [(fTWN_CTRL_ENABLE.addr, 0xFFFFFFFF)], cru.refOk := 4 }, by decide +kernel⟩,
    ⟨tvLnk { st := 6 }, 31, by decide +kernel⟩,
    ⟨tvLnk { st := 1 }, 31, by decide +kernel⟩,
    ⟨tvLnk { st := 1 }, 31, by decide +kernel⟩,
    ⟨tvLnk { st := 2 }, 31, by decide +kernel⟩,
    ⟨tvLnk { st := 2 }, 31, by decide +kernel⟩,
    ⟨tvLnk { st := 3 }, 31, by decide +kernel⟩,
    ⟨tvLnk { st := 3 }, 31, [], by decide +kernel⟩,
    ⟨tvLnk { st := 3 }, 31, cfgBlock 1 8 1, by decide +kernel⟩,
    ⟨tvLnk { st := 3, uid := 2 }, 31, cfgBlock 1 0 1, by decide +kernel⟩⟩

/-- States and operands that meet the hypotheses of each clause of `Obligations.TvedfyLinkEvents`. -/
theorem test_witness_TvedfyLinkEvents :
    (∃ (s : State) (lk : Nat) (hdr : BitVec 64) (slots : List (BitVec 128)) (crc : BitVec 64), lk < 32 ∧ (s.tvl_ lk).st = 4
      ∧ digestOut (crc64 digestInit (flitBytes hdr slots)) ≠ crc) ∧
    (∃ (s : State) (lk : Nat), lk < 32 ∧ (s.tvl_ lk).st = 4) ∧
    (∃ (s u : State) (lk : Nat) (hdr : BitVec 64) (n : Nat), lk < 32 ∧ (s.tvl_ lk).st = 4 ∧ bitsOf hdr.toNat 1 0 = 0 ∧
      hdr.getLsbD 26 = false ∧ u = (s.bumpBy (rTVL_CNT_FEC_CORR + tvOff lk) n).tvAck lk (bitsOf hdr.toNat 25 14)) ∧
    (∃ (s u v : State) (lk : Nat) (hdr : BitVec 64) (slots : List (BitVec 128)) (n : Nat), lk < 32 ∧ (s.tvl_ lk).st = 4 ∧
      bitsOf hdr.toNat 1 0 = 1 ∧ hdr.getLsbD 26 = false ∧ u = (s.bumpBy (rTVL_CNT_FEC_CORR + tvOff lk) n).tvAck lk (bitsOf
      hdr.toNat 25 14) ∧ v = u.setTvl lk (tvCredit (u.tvl_ lk) (bitsOf hdr.toNat 29 28) (bitsOf hdr.toNat 41 30)) ∧ bitsOf
      hdr.toNat 13 2 = ((v.tvl_ lk).ackTx + 1) % 4096 ∧ ((v.tvAccept lk hdr slots).tvl_ lk).st = 4) ∧
    (∃ (s : State), (s.tvl_ twinLk).st = 4) ∧
    (∃ (s : State) (lk : Nat), (s.tvl_ lk).st = 4 ∧ (s.tvl_ lk).ackRx ≠ (s.tvl_ lk).fseq) ∧
    (∃ (s : State) (lk : Nat), (s.tvl_ lk).ackRx = (s.tvl_ lk).fseq) ∧
    (∃ (s : State) (lk : Nat), (s.tvl_ lk).st = 4) ∧
    (∃ (s : State) (lk a : Nat), lk ≠ twinLk ∧ (s.tvl_ lk).st = 5 ∧ a < 4096 ∧ (s.tvl_ lk).ackRx = (s.tvl_ lk).fseq ∧
      (s.tvl_ lk).fseq < 4096) ∧
    (∃ (s : State) (lk : Nat), (s.tvl_ lk).st = 5) ∧
    (∃ (s : State) (lk : Nat), (s.tvl_ lk).st = 6) ∧
    (∃ (p : Nat), p < 16) ∧
    (∃ (s : State) (p h : Nat), p < 16 ∧ h < 2 ∧ (s.tvl_ (2 * p + h)).st = 4) ∧
    (∃ (s : State) (lk : Nat), lk < 32 ∧ Canon s) :=
  ⟨⟨tvLnk { st := 4 }, 31, 0, [], ~~~ digestOut (crc64 digestInit (flitBytes (0) ([]))), by decide +kernel,
      by decide +kernel, ne_complement _⟩,
    ⟨tvLnk { st := 4 }, 31, by decide +kernel⟩,
    ⟨tvLnk { st := 4 }, ((tvLnk { st := 4 }).bumpBy (rTVL_CNT_FEC_CORR + tvOff 31) 0).tvAck 31 0, 31, 0, 0,
      by decide +kernel⟩,
    ⟨tvLnk { st := 4 }, ((tvLnk { st := 4 }).bumpBy (rTVL_CNT_FEC_CORR + tvOff 31) 0).tvAck 31 0,
      (((tvLnk { st := 4 }).bumpBy (rTVL_CNT_FEC_CORR + tvOff 31) 0).tvAck 31 0).setTvl 31 (tvCredit ((((tvLnk { st := 4 }).bumpBy (rTVL_CNT_FEC_CORR + tvOff 31) 0).tvAck 31 0).tvl_ 31) 0 0),
      31, 0xF000000000005, [], 0, by decide +kernel⟩,
    ⟨{ live with tvl.links := [(twinLk, { st := 4 })] }, by decide +kernel⟩,
    ⟨tvLnk { st := 4, fseq := 1 }, 31, by decide +kernel⟩,
    ⟨tvLnk { st := 4 }, 31, by decide +kernel⟩,
    ⟨tvLnk { st := 4 }, 31, by decide +kernel⟩,
    ⟨tvLnk { st := 5, ackRx := 4095, fseq := 4095 }, 31, 4095, by decide +kernel⟩,
    ⟨tvLnk { st := 5 }, 31, by decide +kernel⟩,
    ⟨tvLnk { st := 6 }, 31, by decide +kernel⟩,
    ⟨15, by decide +kernel⟩,
    ⟨tvLnk { st := 4 }, 15, 1, by decide +kernel⟩,
    ⟨State.reset, 31, by decide +kernel, by unfold Canon; decide +kernel⟩⟩

/-- States and operands that meet the hypotheses of each clause of `Obligations.EthernetFrames`. -/
theorem test_witness_EthernetFrames :
    (∃ (s : State) (e : Nat), (s.ethPort e).up = false) ∧
    (∃ (s : State) (e : Nat), (s.ethPort e).up = true) ∧
    (∃ (s u : State) (e len x y : Nat), (s.ethPort e).up = true ∧ u = (((s.bumpBy (rETH_P_FEC_CORR + ethSub e) x).bumpBy
      (rETH_P_FEC_UNCORR + ethSub e) y).raiseN (ethSrc e 4) y).bump (rETH_P_RX + ethSub e) ∧ (len < 64 ∨ len > 9216)) ∧
    (∃ (s u : State) (e len x y : Nat), (s.ethPort e).up = true ∧ u = (((s.bumpBy (rETH_P_FEC_CORR + ethSub e) x).bumpBy
      (rETH_P_FEC_UNCORR + ethSub e) y).raiseN (ethSrc e 4) y).bump (rETH_P_RX + ethSub e) ∧ 64 ≤ len ∧ len ≤ 9216 ∧ len ≤
      u.fld (fETH_MAXFRAME_BYTES.plus (ethOff e))) ∧
    (∃ (s u v : State) (e prio q : Nat), (s.ethPort e).up = true ∧ u = s.bumpFld (fETH_P_PFC_RX.plus (ethSub e)) ∧ prio < 8
      ∧ q ≠ 0 ∧ bitOf (u.fld (fETH_PFC_RX_EN.plus (ethOff e))) prio = true ∧ (u.ethPort e).wd.contains prio = false ∧
      (u.ethPort e).paused.contains prio = false ∧ (v = u.setEthPort e
      { u.ethPort e with paused := (u.ethPort e).paused ++ [prio] })) ∧
    (∃ (s : State) (e prio : Nat), (s.ethPort e).paused.contains prio = true) ∧
    (∃ (s u : State) (e : Nat) (prios : List Nat), (s.ethPort e).held = [] ∧ (u = s.setEthPort e
      { s.ethPort e with paused := (s.ethPort e).paused.filter (fun x => !prios.contains x) })) ∧
    (∃ (s : State) (e prio : Nat), (s.ethPort e).paused.contains prio = true ∧ s.fld (fETH_PFC_WD_MS.plus (ethOff e)) ≠ 0) ∧
    (∃ (s : State) (e : Nat), s.fld (fETH_PFC_WD_MS.plus (ethOff e)) = 0) ∧
    (∃ (s u : State) (e : Nat), s.ethEnabled e = true ∧ s.ports = true ∧ bitOf s.cru.refOk 1 = true ∧ (s.ethPort e).up =
      false ∧ (u = (s.laneTrained (64 + e) (modeLanes (s.ethMode e) (e % 4))).setEthPort e { up := true })) ∧
    (∃ (s : State) (e : Nat), ((upTo 4).any (fun k => (s.ethPort (e / 4 * 4 + k)).up) = false)) ∧
    (∃ (s : State) (e : Nat), (s.ethPort e).up = true ∧ (s.ethPort e).frames = []) ∧
    (∃ (s u : State) (e a b : Nat) (m : Mark), (s.ethPort e).up = true ∧ u.answersFor e a = true ∧ s.takeFrame e 64 none =
      (u, some (m, b))) ∧
    (∃ (s u : State) (e a b : Nat) (m : Mark), (s.ethPort e).up = true ∧ u.answersFor e a = true ∧ s.takeFrame e 64 (some 0)
      = (u, some (m, b))) ∧
    (∃ (s u : State) (e a b : Nat) (m : Mark), (s.ethPort e).up = true ∧ u.answersFor e a = false ∧ s.takeFrame e 64 none =
      (u, some (m, b))) ∧
    (∃ (s u : State) (e a b : Nat) (m : Mark), (s.ethPort e).up = true ∧ u.answersFor e a = false ∧ s.takeFrame e 64 (some
      0) = (u, some (m, b))) ∧
    (∃ (s : State), s.ports = true ∧ s.floatsHere = true) :=
  ⟨⟨State.reset, 0, by decide +kernel⟩,
    ⟨net, 0, by decide +kernel⟩,
    ⟨net,
      (((((net).bumpBy (rETH_P_FEC_CORR + ethSub 0) 0).bumpBy (rETH_P_FEC_UNCORR + ethSub 0) 0).raiseN (ethSrc 0 4) 0).bump (rETH_P_RX + ethSub 0)),
      0, 63, 0, 0, by decide +kernel⟩,
    ⟨net,
      (((((net).bumpBy (rETH_P_FEC_CORR + ethSub 0) 0).bumpBy (rETH_P_FEC_UNCORR + ethSub 0) 0).raiseN (ethSrc 0 4) 0).bump (rETH_P_RX + ethSub 0)),
      0, 9216, 0, 0, by decide +kernel⟩,
    ⟨net, (net).bumpFld (fETH_P_PFC_RX.plus (ethSub 0)),
      ((net).bumpFld (fETH_P_PFC_RX.plus (ethSub 0))).setEthPort 0 { ((net).bumpFld (fETH_P_PFC_RX.plus (ethSub 0))).ethPort 0 with paused := (((net).bumpFld (fETH_P_PFC_RX.plus (ethSub 0))).ethPort 0).paused ++ [7] },
      0, 7, 1, by decide +kernel⟩,
    ⟨{ net with eth.ports := [(0, { up := true, paused := [7] })] }, 0, 7, by decide +kernel⟩,
    ⟨{ net with eth.ports := [(0, { up := true, paused := [7] })] },
      ({ net with eth.ports := [(0, { up := true, paused := [7] })] }).setEthPort 0 { ({ net with eth.ports := [(0, { up := true, paused := [7] })] }).ethPort 0 with paused := (({ net with eth.ports := [(0, { up := true, paused := [7] })] }).ethPort 0).paused.filter (fun x => !([7]).contains x) },
      0, [7], by decide +kernel⟩,
    ⟨{ net with eth.ports := [(0, { up := true, paused := [7] })] }, 0, 7, by decide +kernel⟩,
    ⟨{ net with regs := [(0xA00000, 1), (0x3200008, 0xFF)] }, 0, by decide +kernel⟩,
    ⟨{ net with eth.ports := [] },
      (({ net with eth.ports := [] }).laneTrained (64 + 0) (modeLanes (({ net with eth.ports := [] }).ethMode 0) (0 % 4))).setEthPort 0 { up := true },
      0, by decide +kernel⟩,
    ⟨State.reset, 0, by decide +kernel⟩,
    ⟨{ net with eth.ports := [(0, { up := true })] }, 0, by decide +kernel⟩,
    ⟨net, ((net).takeFrame 0 64 none).1, 0, 5, 0, {}, by decide +kernel⟩,
    ⟨net, ((net).takeFrame 0 64 (some 0)).1, 0, 5, 0, {}, by decide +kernel⟩,
    ⟨net, ((net).takeFrame 0 64 none).1, 0, 6, 0, {}, by decide +kernel⟩,
    ⟨net, ((net).takeFrame 0 64 (some 0)).1, 0, 6, 0, {}, by decide +kernel⟩,
    ⟨live, by decide +kernel⟩⟩

/-- States and operands that meet the hypotheses of each clause of `Obligations.Connections`. -/
theorem test_witness_Connections :
    (∃ (s u : State) (e dst : Nat), s.cmArrive e dst = (u, none)) ∧
    (∃ (s u : State) (e dst src : Nat) (m : Mark), s.cmArrive e dst = (u, some m) ∧ u.hostOf src = none) ∧
    (∃ (s u : State) (e dst src sid h : Nat) (m : Mark), s.cmArrive e dst = (u, some m) ∧ u.hostOf src = some h ∧ sid =
      u.fld fNRE_SID_LO_V + u.fld fNRE_SID_HI_V * 2 ^ 32 ∧ u.pickQp h = none) ∧
    (∃ (s u v : State) (e dst src qpn psn0 sid mtu h q : Nat) (m : Mark), s.cmArrive e dst = (u, some m) ∧ u.hostOf src =
      some h ∧ sid = u.fld fNRE_SID_LO_V + u.fld fNRE_SID_HI_V * 2 ^ 32 ∧ u.pickQp h = some q ∧ (v = ((u.setQp q
      { st := 1, epsn := psn0 % 2 ^ 24, dest := qpn, host := h, pmtu := min mtu (min 2 (u.fld fNRE_MTU_MAX)), mode := u.flag fEPO_CTRL_ROCE_MODE }).card
      q).1)) ∧
    (∃ (s u : State) (e dst q : Nat) (m : Mark), s.cmArrive e dst = (u, some m) ∧ u.connecting q = true) ∧
    (∃ (s u : State) (e dst q : Nat) (m : Mark), s.cmArrive e dst = (u, some m) ∧ u.connecting q = false) ∧
    (∃ (s : State) (q : Nat), s.connecting q = true) ∧
    (∃ (s u : State) (e dst q : Nat) (m : Mark), s.cmArrive e dst = (u, some m) ∧ (u.qp q).circ = false ∧ (u.qp q).st = 0) ∧
    (∃ (s u : State) (e dst q : Nat) (m : Mark), s.cmArrive e dst = (u, some m) ∧ (u.qp q).circ = false ∧ (u.qp q).st ≠ 0) ∧
    (∃ (s u : State) (e dst q : Nat) (m : Mark), s.cmArrive e dst = (u, some m) ∧ (u.qp q).circ = true ∧ (u.qp q).st = 2) ∧
    (∃ (s u : State) (e dst : Nat) (m : Mark), s.cmArrive e dst = (u, some m)) ∧
    (∃ (s u : State) (q : Nat), s.nre.fetching.contains q = true ∧ s.card q = (u, true) ∧ (u.qp q).waiting = []) ∧
    (∃ (s : State) (q : Nat), (s.qp q).waiting ≠ []) ∧
    (∃ (s : State) (q : Nat), (s.qp q).st = 3 ∧ (s.qp q).circ = false) ∧
    (∃ (s u : State) (e dst qpn : Nat) (m : Mark), s.cmArrive e dst = (u, some m) ∧ qpn < 0x200000) ∧
    (∃ (s u v : State) (e dst i c : Nat) (m : Mark), s.cmArrive e dst = (u, some m) ∧ i < 256 ∧ v = u.bumpFld
      fNRE_CNT_CNP_RX ∧ (v.cs i).conn = true ∧ (v.cs i).cur = some c) ∧
    (∃ (s u : State) (e dst n : Nat) (m : Mark), s.cmArrive e dst = (u, some m) ∧ (n < 2 ∨ 65536 < n)) ∧
    (∃ (s u v : State) (e dst src comm qpn sid mtu i n p psn : Nat) (m : Mark), s.cmArrive e dst = (u, some m) ∧ 2 ≤ n ∧ n ≤
      65536 ∧ i < 256 ∧ sid = u.fld fCIR_SID_LO_V + u.fld fCIR_SID_HI_V * 2 ^ 32 ∧ (u.cs i).st = 1 ∧ u.hostOf src = some
      (u.cs i).host ∧ p = min mtu (min 2 (u.fld fNRE_MTU_MAX)) ∧ psn = (u.count rNRE_CNT_RX_PKT).toNat % 2 ^ 24 ∧ (v =
      (((u.setQp (cirQ i) { st := 2, circ := true, epsn := psn, dest := qpn, host := (u.cs i).host, pmtu := p }).card (cirQ
      i)).1).ethSend e m (.cmRep comm (0x100000 + cirQ i) psn p 0 16 []))) :=
  ⟨⟨State.reset, State.reset, 0, 0, by decide +kernel⟩,
    ⟨net, ((net).cmArrive 0 5).1, 0, 5, 8, {}, by decide +kernel⟩,
    ⟨netQ fullQ, ((netQ fullQ).cmArrive 0 5).1, 0, 5, 7,
      (((netQ fullQ).cmArrive 0 5).1).fld fNRE_SID_LO_V + (((netQ fullQ).cmArrive 0 5).1).fld fNRE_SID_HI_V * 2 ^ 32,
      1, {}, netQ_arrive, netQ_hosts, rfl, pickQp_none (netQ_qps _) 1⟩,
    ⟨net, ((net).cmArrive 0 5).1,
      (((((net).cmArrive 0 5).1).setQp 0 { st := 1, host := 1, pmtu := 0, mode := (((net).cmArrive 0 5).1).flag fEPO_CTRL_ROCE_MODE }).card 0).1,
      0, 5, 7, 0, 0, 0, 0, 1, 0, {}, by decide +kernel⟩,
    ⟨{ net with nre.qps := [(1048575, { st := 1 })] },
      (({ net with nre.qps := [(1048575, { st := 1 })] }).cmArrive 0 5).1, 0, 5, 1048575, {}, by decide +kernel⟩,
    ⟨net, ((net).cmArrive 0 5).1, 0, 5, 0, {}, by decide +kernel⟩,
    ⟨{ net with nre.qps := [(1048575, { st := 1 })] }, 1048575, by decide +kernel⟩,
    ⟨net, ((net).cmArrive 0 5).1, 0, 5, 0, {}, by decide +kernel⟩,
    ⟨{ net with nre.qps := [(1048575, { st := 2 })] },
      (({ net with nre.qps := [(1048575, { st := 2 })] }).cmArrive 0 5).1, 0, 5, 1048575, {}, by decide +kernel⟩,
    ⟨{ net with nre.qps := [(1048576, { st := 2, circ := true })] },
      (({ net with nre.qps := [(1048576, { st := 2, circ := true })] }).cmArrive 0 5).1, 0, 5, 1048576, {},
      by decide +kernel⟩,
    ⟨net, ((net).cmArrive 0 5).1, 0, 5, {}, by decide +kernel⟩,
    ⟨{ net with nre.fetching := [0] }, (({ net with nre.fetching := [0] }).card 0).1, 0, by decide +kernel⟩,
    ⟨{ net with nre.qps := [(0, { st := 2, waiting := [{}] })] }, 0, by decide +kernel⟩,
    ⟨{ net with nre.qps := [(0, { st := 3 })] }, 0, by decide +kernel⟩,
    ⟨net, ((net).cmArrive 0 5).1, 0, 5, 0x1FFFFF, {}, by decide +kernel⟩,
    ⟨{ net with cir.streams := [(255, { conn := true, cur := some 100 })] },
      (({ net with cir.streams := [(255, { conn := true, cur := some 100 })] }).cmArrive 0 5).1,
      ((({ net with cir.streams := [(255, { conn := true, cur := some 100 })] }).cmArrive 0 5).1).bumpFld fNRE_CNT_CNP_RX,
      0, 5, 255, 100, {}, by decide +kernel⟩,
    ⟨net, ((net).cmArrive 0 5).1, 0, 5, 65537, {}, by decide +kernel⟩,
    ⟨{ net with cir.streams := [(255, { st := 1, host := 1 })] },
      (({ net with cir.streams := [(255, { st := 1, host := 1 })] }).cmArrive 0 5).1,
      (((((({ net with cir.streams := [(255, { st := 1, host := 1 })] }).cmArrive 0 5).1).setQp (cirQ 255) { st := 2, circ := true, epsn := 1, host := 1 }).card (cirQ 255)).1).ethSend 0 {} (.cmRep 0 (0x100000 + cirQ 255) 1 0 0 16 []),
      0, 5, 7, 0, 0, 0, 0, 255, 65536, 0, 1, {}, by decide +kernel⟩⟩

/-- States and operands that meet the hypotheses of each clause of `Obligations.RoceWrites`. -/
theorem test_witness_RoceWrites :
    (∃ (s u v : State) (e : Nat) (p : RPkt) (q : Nat) (w : QWait) (lpa owner win tenant : Nat), Expected s e 0x06 p q w u ∧
      u.flag fEPO_CTRL_ENABLE = true ∧ (u.qp q).wr = none ∧ p.payload.length = mtuBytes (u.qp q).pmtu ∧ p.len > mtuBytes
      (u.qp q).pmtu ∧ p.len ≤ 2 ^ 31 ∧ u.winCheck (u.qp q).host p.rkey p.va p.len (·.2.1) = .ok (lpa, owner, win, tenant) ∧
      Goes u q w tenant v) ∧
    (∃ (s u v : State) (e : Nat) (p : RPkt) (q : Nat) (w : QWait) (lpa left owner win : Nat), Expected s e 0x07 p q w u ∧
      u.flag fEPO_CTRL_ENABLE = true ∧ (u.qp q).wr = some (lpa, left, owner, win) ∧ p.payload.length = mtuBytes (u.qp
      q).pmtu ∧ left > mtuBytes (u.qp q).pmtu ∧ Goes u q w (u.window win).tenant v) ∧
    (∃ (s u v : State) (e : Nat) (p : RPkt) (q : Nat) (w : QWait) (lpa left owner win : Nat), Expected s e 0x08 p q w u ∧
      u.flag fEPO_CTRL_ENABLE = true ∧ (u.qp q).wr = some (lpa, left, owner, win) ∧ p.payload.length = left ∧ left ≤
      mtuBytes (u.qp q).pmtu ∧ Goes u q w (u.window win).tenant v) ∧
    (∃ (s u v : State) (e : Nat) (p : RPkt) (q : Nat) (w : QWait) (lpa left owner win : Nat), Expected s e 0x09 p q w u ∧
      u.flag fEPO_CTRL_ENABLE = true ∧ (u.qp q).wr = some (lpa, left, owner, win) ∧ p.payload.length = left ∧ left ≤
      mtuBytes (u.qp q).pmtu ∧ Goes u q w (u.window win).tenant v) ∧
    (∃ (s u v : State) (e : Nat) (p : RPkt) (q : Nat) (w : QWait) (lpa owner win tenant : Nat), Expected s e 0x0A p q w u ∧
      u.flag fEPO_CTRL_ENABLE = true ∧ (u.qp q).wr = none ∧ p.payload.length = p.len ∧ p.len ≤ mtuBytes (u.qp q).pmtu ∧
      p.len ≠ 0 ∧ u.winCheck (u.qp q).host p.rkey p.va p.len (·.2.1) = .ok (lpa, owner, win, tenant) ∧ Goes u q w tenant v) ∧
    (∃ (s u v : State) (e : Nat) (p : RPkt) (q : Nat) (w : QWait) (lpa owner win tenant : Nat), Expected s e 0x0B p q w u ∧
      u.flag fEPO_CTRL_ENABLE = true ∧ (u.qp q).wr = none ∧ p.payload.length = p.len ∧ p.len ≤ mtuBytes (u.qp q).pmtu ∧
      p.len ≠ 0 ∧ u.winCheck (u.qp q).host p.rkey p.va p.len (·.2.1) = .ok (lpa, owner, win, tenant) ∧ Goes u q w tenant v) ∧
    (∃ (s u : State) (e : Nat) (p : RPkt) (q : Nat) (w : QWait), Expected s e 0x0A p q w u ∧ u.flag fEPO_CTRL_ENABLE = true
      ∧ (u.qp q).wr = none ∧ p.payload = [] ∧ p.len = 0) ∧
    (∃ (s u : State) (e : Nat) (p : RPkt) (q : Nat) (w : QWait) (r : Nat), Expected s e 0x0A p q w u ∧ u.flag
      fEPO_CTRL_ENABLE = true ∧ (u.qp q).wr = none ∧ p.payload.length = p.len ∧ p.len ≤ mtuBytes (u.qp q).pmtu ∧ p.len ≠ 0 ∧
      u.winCheck (u.qp q).host p.rkey p.va p.len (·.2.1) = .error r) ∧
    (∃ (s u : State) (e : Nat) (p : RPkt) (q : Nat) (w : QWait), Expected s e 0x0A p q w u ∧ u.flag fEPO_CTRL_ENABLE = false
      ∧ (u.qp q).wr = none ∧ p.payload.length = p.len ∧ p.len ≤ mtuBytes (u.qp q).pmtu) ∧
    (∃ (s u : State) (e : Nat) (p : RPkt) (q : Nat) (w : QWait), Delivered s e 0x0A p q w u ∧ 0 < (p.psn + 2 ^ 24 - (u.qp
      q).epsn) % 2 ^ 24 ∧ (p.psn + 2 ^ 24 - (u.qp q).epsn) % 2 ^ 24 < 2 ^ 23 ∧ (u.qp q).rnr = none ∧ (u.qp q).seqAt = none) ∧
    (∃ (s u : State) (e : Nat) (p : RPkt) (q : Nat) (w : QWait), Delivered s e 0x0A p q w u ∧ 2 ^ 23 ≤ (p.psn + 2 ^ 24 -
      (u.qp q).epsn) % 2 ^ 24) :=
  ⟨⟨roce rts, exd (roce rts) 0 (pk 0 1025 (List.replicate 1024 0)) 0,
      ((exd (roce rts) 0 (pk 0 1025 (List.replicate 1024 0)) 0).chargeBuf 0 1).getD State.reset, 0,
      pk 0 1025 (List.replicate 1024 0), 0, { op := 0x06, pkt := (pk 0 1025 (List.replicate 1024 0)) }, 2 ^ 30, 1, 1,
      1, expected_of (by decide +kernel) (by decide +kernel), by decide +kernel, by decide +kernel, by decide +kernel,
      by decide +kernel, by decide +kernel, by decide +kernel, by unfold Goes; decide +kernel⟩,
    ⟨roce { rts with wr := some (2 ^ 30, 1025, 1, 1) },
      exd (roce { rts with wr := some (2 ^ 30, 1025, 1, 1) }) 0 (pk 0 0 (List.replicate 1024 0)) 0,
      ((exd (roce { rts with wr := some (2 ^ 30, 1025, 1, 1) }) 0 (pk 0 0 (List.replicate 1024 0)) 0).chargeBuf 0 1).getD State.reset,
      0, pk 0 0 (List.replicate 1024 0), 0, { op := 0x07, pkt := (pk 0 0 (List.replicate 1024 0)) }, 2 ^ 30, 1025, 1,
      1, expected_of (by decide +kernel) (by decide +kernel), by decide +kernel, by decide +kernel, by decide +kernel,
      by decide +kernel, by unfold Goes; decide +kernel⟩,
    ⟨roce { rts with wr := some (2 ^ 30, 1, 1, 1) },
      exd (roce { rts with wr := some (2 ^ 30, 1, 1, 1) }) 0 (pk 0 0 [0]) 0,
      ((exd (roce { rts with wr := some (2 ^ 30, 1, 1, 1) }) 0 (pk 0 0 [0]) 0).chargeBuf 0 1).getD State.reset, 0,
      pk 0 0 [0], 0, { op := 0x08, pkt := (pk 0 0 [0]) }, 2 ^ 30, 1, 1, 1,
      expected_of (by decide +kernel) (by decide +kernel), by decide +kernel, by decide +kernel, by decide +kernel,
      by decide +kernel, by unfold Goes; decide +kernel⟩,
    ⟨roce { rts with wr := some (2 ^ 30, 1024, 1, 1) },
      exd (roce { rts with wr := some (2 ^ 30, 1024, 1, 1) }) 0 (pk 0 0 (List.replicate 1024 0)) 0,
      ((exd (roce { rts with wr := some (2 ^ 30, 1024, 1, 1) }) 0 (pk 0 0 (List.replicate 1024 0)) 0).chargeBuf 0 1).getD State.reset,
      0, pk 0 0 (List.replicate 1024 0), 0, { op := 0x09, pkt := (pk 0 0 (List.replicate 1024 0)) }, 2 ^ 30, 1024, 1,
      1, expected_of (by decide +kernel) (by decide +kernel), by decide +kernel, by decide +kernel, by decide +kernel,
      by decide +kernel, by unfold Goes; decide +kernel⟩,
    ⟨roce rts, exd (roce rts) 0 (pk 0 1024 (List.replicate 1024 0)) 0,
      ((exd (roce rts) 0 (pk 0 1024 (List.replicate 1024 0)) 0).chargeBuf 0 1).getD State.reset, 0,
      pk 0 1024 (List.replicate 1024 0), 0, { op := 0x0A, pkt := (pk 0 1024 (List.replicate 1024 0)) }, 2 ^ 30, 1, 1,
      1, expected_of (by decide +kernel) (by decide +kernel), by decide +kernel, by decide +kernel, by decide +kernel,
      by decide +kernel, by decide +kernel, by decide +kernel, by unfold Goes; decide +kernel⟩,
    ⟨roce rts, exd (roce rts) 0 (pk (2 ^ 30 - 1) 1 [0]) 0,
      ((exd (roce rts) 0 (pk (2 ^ 30 - 1) 1 [0]) 0).chargeBuf 0 1).getD State.reset, 0, pk (2 ^ 30 - 1) 1 [0], 0,
      { op := 0x0B, pkt := (pk (2 ^ 30 - 1) 1 [0]) }, 2 ^ 31 - 1, 1, 1, 1,
      expected_of (by decide +kernel) (by decide +kernel), by decide +kernel, by decide +kernel, by decide +kernel,
      by decide +kernel, by decide +kernel, by decide +kernel, by unfold Goes; decide +kernel⟩,
    ⟨roce rts, exd (roce rts) 0 (pk 0 0 []) 0, 0, pk 0 0 [], 0, { op := 0x0A, pkt := (pk 0 0 []) },
      expected_of (by decide +kernel) (by decide +kernel), by decide +kernel⟩,
    ⟨roce rts, exd (roce rts) 0 (pk (2 ^ 30) 1 [0]) 0, 0, pk (2 ^ 30) 1 [0], 0,
      { op := 0x0A, pkt := (pk (2 ^ 30) 1 [0]) }, rsACCESS, expected_of (by decide +kernel) (by decide +kernel),
      by decide +kernel⟩,
    ⟨{ roce rts with regs := net.regs.filter (fun e => e.1 != 0xB00000) },
      exd ({ roce rts with regs := net.regs.filter (fun e => e.1 != 0xB00000) }) 0 (pk 0 0 []) 0, 0, pk 0 0 [], 0,
      { op := 0x0A, pkt := (pk 0 0 []) }, expected_of (by decide +kernel) (by decide +kernel), by decide +kernel⟩,
    ⟨roce rts, dlv (roce rts) 0 (pk 0 0 [] (2 ^ 23 - 1)) 0, 0, pk 0 0 [] (2 ^ 23 - 1), 0,
      { op := 0x0A, pkt := (pk 0 0 [] (2 ^ 23 - 1)) }, delivered_of (by decide +kernel), by decide +kernel⟩,
    ⟨roce rts, dlv (roce rts) 0 (pk 0 0 [] (2 ^ 23)) 0, 0, pk 0 0 [] (2 ^ 23), 0,
      { op := 0x0A, pkt := (pk 0 0 [] (2 ^ 23)) }, delivered_of (by decide +kernel), by decide +kernel⟩⟩

/-- States and operands that meet the hypotheses of each clause of `Obligations.RoceReadsAndAtomics`. -/
theorem test_witness_RoceReadsAndAtomics :
    (∃ (s u : State) (e : Nat) (p : RPkt) (q : Nat) (w : QWait), Expected s e 0x0C p q w u ∧ (u.qp q).wr = none ∧ p.rkey = 0
      ∧ p.va + p.len ≤ 256) ∧
    (∃ (s u : State) (e : Nat) (p : RPkt) (q : Nat) (w : QWait), Expected s e 0x0C p q w u ∧ (u.qp q).wr = none ∧ p.rkey = 0
      ∧ 256 < p.va + p.len ∧ p.len ≤ 2 ^ 31) ∧
    (∃ (s u v t : State) (e : Nat) (p : RPkt) (q : Nat) (w : QWait) (lpa owner win tenant id : Nat), Expected s e 0x0C p q w
      u ∧ (u.qp q).wr = none ∧ p.rkey ≠ 0 ∧ p.len ≠ 0 ∧ p.len ≤ 2 ^ 31 ∧ u.winCheck (u.qp q).host p.rkey p.va p.len (·.1) =
      .ok (lpa, owner, win, tenant) ∧ u.chargeBuf w.buf tenant = some v ∧ v.fch.mode ≠ 1 ∧ ((v.setQp q (qpAfterRead (v.qp q)
      p)).qpPush q { psn := p.psn, kind := .read, port := w.port, mark := w.mark, buf := w.buf } = (t, id))) ∧
    (∃ (s u v t : State) (e : Nat) (p : RPkt) (q : Nat) (w : QWait) (lpa owner win tenant id : Nat), Expected s e 0x13 p q w
      u ∧ u.flag fEPO_CTRL_ENABLE = true ∧ (u.qp q).wr = none ∧ u.winCheck (u.qp q).host p.rkey p.va 8 (·.2.2) = .ok (lpa,
      owner, win, tenant) ∧ lpa % 8 = 0 ∧ Goes u q w tenant v ∧ ((v.setQp q (qpAfterAtomic (v.qp q) p)).qpPush q
      { psn := p.psn, kind := .atomic, port := w.port, mark := w.mark, buf := w.buf } = (t, id))) ∧
    (∃ (s u v t : State) (e : Nat) (p : RPkt) (q : Nat) (w : QWait) (lpa owner win tenant id : Nat), Expected s e 0x14 p q w
      u ∧ u.flag fEPO_CTRL_ENABLE = true ∧ (u.qp q).wr = none ∧ u.winCheck (u.qp q).host p.rkey p.va 8 (·.2.2) = .ok (lpa,
      owner, win, tenant) ∧ lpa % 8 = 0 ∧ Goes u q w tenant v ∧ ((v.setQp q (qpAfterAtomic (v.qp q) p)).qpPush q
      { psn := p.psn, kind := .atomic, port := w.port, mark := w.mark, buf := w.buf } = (t, id))) ∧
    (∃ (s u : State) (e : Nat) (p : RPkt) (q : Nat) (w : QWait) (lpa owner win tenant : Nat), Expected s e 0x14 p q w u ∧
      u.flag fEPO_CTRL_ENABLE = true ∧ (u.qp q).wr = none ∧ u.winCheck (u.qp q).host p.rkey p.va 8 (·.2.2) = .ok (lpa,
      owner, win, tenant) ∧ lpa % 8 ≠ 0) ∧
    (∃ (s u : State) (e : Nat) (p : RPkt) (q : Nat) (w : QWait) (b : List Byte) (k : Nat), Delivered s e 0x13 p q w u ∧ 2 ^
      23 ≤ (p.psn + 2 ^ 24 - (u.qp q).epsn) % 2 ^ 24 ∧ ((u.qp q).recs.find? (fun e => e.1 == p.psn) = some (k, some b))) :=
  ⟨⟨roce rts, exd (roce rts) 0 ({ pk 0 256 [] with rkey := 0 }) 0, 0, { pk 0 256 [] with rkey := 0 }, 0,
      { op := 0x0C, pkt := ({ pk 0 256 [] with rkey := 0 }) }, expected_of (by decide +kernel) (by decide +kernel),
      by decide +kernel⟩,
    ⟨roce rts, exd (roce rts) 0 ({ pk 0 257 [] with rkey := 0 }) 0, 0, { pk 0 257 [] with rkey := 0 }, 0,
      { op := 0x0C, pkt := ({ pk 0 257 [] with rkey := 0 }) }, expected_of (by decide +kernel) (by decide +kernel),
      by decide +kernel⟩,
    ⟨roce rts, exd (roce rts) 0 (pk 0 128 []) 0, ((exd (roce rts) 0 (pk 0 128 []) 0).chargeBuf 0 1).getD State.reset,
      (((((exd (roce rts) 0 (pk 0 128 []) 0).chargeBuf 0 1).getD State.reset).setQp 0 (qpAfterRead ((((exd (roce rts) 0 (pk 0 128 []) 0).chargeBuf 0 1).getD State.reset).qp 0) (pk 0 128 []))).qpPush 0 { psn := 0, kind := .read, port := 0, mark := {}, buf := 0 }).1,
      0, pk 0 128 [], 0, { op := 0x0C, pkt := (pk 0 128 []) }, 2 ^ 30, 1, 1, 1,
      (((((exd (roce rts) 0 (pk 0 128 []) 0).chargeBuf 0 1).getD State.reset).setQp 0 (qpAfterRead ((((exd (roce rts) 0 (pk 0 128 []) 0).chargeBuf 0 1).getD State.reset).qp 0) (pk 0 128 []))).qpPush 0 { psn := 0, kind := .read, port := 0, mark := {}, buf := 0 }).2,
      expected_of (by decide +kernel) (by decide +kernel), by decide +kernel⟩,
    ⟨roce rts, exd (roce rts) 0 (pk 0 0 []) 0, ((exd (roce rts) 0 (pk 0 0 []) 0).chargeBuf 0 1).getD State.reset,
      (((((exd (roce rts) 0 (pk 0 0 []) 0).chargeBuf 0 1).getD State.reset).setQp 0 (qpAfterAtomic ((((exd (roce rts) 0 (pk 0 0 []) 0).chargeBuf 0 1).getD State.reset).qp 0) (pk 0 0 []))).qpPush 0 { psn := 0, kind := .atomic, port := 0, mark := {}, buf := 0 }).1,
      0, pk 0 0 [], 0, { op := 0x13, pkt := (pk 0 0 []) }, 2 ^ 30, 1, 1, 1,
      (((((exd (roce rts) 0 (pk 0 0 []) 0).chargeBuf 0 1).getD State.reset).setQp 0 (qpAfterAtomic ((((exd (roce rts) 0 (pk 0 0 []) 0).chargeBuf 0 1).getD State.reset).qp 0) (pk 0 0 []))).qpPush 0 { psn := 0, kind := .atomic, port := 0, mark := {}, buf := 0 }).2,
      expected_of (by decide +kernel) (by decide +kernel), by decide +kernel, by decide +kernel, by decide +kernel,
      by decide +kernel, by unfold Goes; decide +kernel, by decide +kernel⟩,
    ⟨roce rts, exd (roce rts) 0 (pk 0 0 []) 0, ((exd (roce rts) 0 (pk 0 0 []) 0).chargeBuf 0 1).getD State.reset,
      (((((exd (roce rts) 0 (pk 0 0 []) 0).chargeBuf 0 1).getD State.reset).setQp 0 (qpAfterAtomic ((((exd (roce rts) 0 (pk 0 0 []) 0).chargeBuf 0 1).getD State.reset).qp 0) (pk 0 0 []))).qpPush 0 { psn := 0, kind := .atomic, port := 0, mark := {}, buf := 0 }).1,
      0, pk 0 0 [], 0, { op := 0x14, pkt := (pk 0 0 []) }, 2 ^ 30, 1, 1, 1,
      (((((exd (roce rts) 0 (pk 0 0 []) 0).chargeBuf 0 1).getD State.reset).setQp 0 (qpAfterAtomic ((((exd (roce rts) 0 (pk 0 0 []) 0).chargeBuf 0 1).getD State.reset).qp 0) (pk 0 0 []))).qpPush 0 { psn := 0, kind := .atomic, port := 0, mark := {}, buf := 0 }).2,
      expected_of (by decide +kernel) (by decide +kernel), by decide +kernel, by decide +kernel, by decide +kernel,
      by decide +kernel, by unfold Goes; decide +kernel, by decide +kernel⟩,
    ⟨roce rts, exd (roce rts) 0 (pk 4 0 []) 0, 0, pk 4 0 [], 0, { op := 0x14, pkt := (pk 4 0 []) }, 2 ^ 30 + 4, 1, 1,
      1, expected_of (by decide +kernel) (by decide +kernel), by decide +kernel⟩,
    ⟨roce { rts with recs := [(2 ^ 24 - 1, some [0])] },
      dlv (roce { rts with recs := [(2 ^ 24 - 1, some [0])] }) 0 (pk 0 0 [] (2 ^ 24 - 1)) 0, 0, pk 0 0 [] (2 ^ 24 - 1),
      0, { op := 0x13, pkt := (pk 0 0 [] (2 ^ 24 - 1)) }, [0], 2 ^ 24 - 1, delivered_of (by decide +kernel),
      by decide +kernel⟩⟩

/-- States and operands that meet the hypotheses of each clause of `Obligations.RoceCommands`. -/
theorem test_witness_RoceCommands :
    (∃ (s u : State) (e : Nat) (p : RPkt) (q : Nat) (w : QWait), Expected s e 0x04 p q w u ∧ (u.qp q).wr = none ∧
      p.payload.length ≠ 32) ∧
    (∃ (s u v : State) (e : Nat) (p : RPkt) (q : Nat) (w : QWait) (id : Nat), Expected s e 0x04 p q w u ∧ u.flag
      fEPO_CTRL_ENABLE = true ∧ (u.qp q).wr = none ∧ p.payload.length = 32 ∧ cmdField p 0 1 = 1 ∧ ((u.setQp q (qpAfterCmd
      (u.qp q))).qpPush q { psn := p.psn, kind := .cmd p.ackReq, port := w.port, mark := w.mark, buf := w.buf } = (v, id))) ∧
    (∃ (s u v : State) (e : Nat) (p : RPkt) (q : Nat) (w : QWait) (j : Nat), Expected s e 0x04 p q w u ∧ u.flag
      fEPO_CTRL_ENABLE = true ∧ (u.qp q).wr = none ∧ p.payload.length = 32 ∧ cmdField p 0 1 = 2 ∧ v = u.setQp q (qpAfterCmd
      (u.qp q)) ∧ v.cmdStream q (cmdField p 4 3) = some j) ∧
    (∃ (s u v : State) (e : Nat) (p : RPkt) (q : Nat) (w : QWait) (j : Nat), Expected s e 0x04 p q w u ∧ u.flag
      fEPO_CTRL_ENABLE = true ∧ (u.qp q).wr = none ∧ p.payload.length = 32 ∧ v = u.setQp q (qpAfterCmd (u.qp q)) ∧
      v.cmdStream q (cmdField p 4 3) = some j ∧ cmdField p 0 1 = 4) ∧
    (∃ (s u v : State) (e : Nat) (p : RPkt) (q : Nat) (w : QWait) (j : Nat) (rep : _), Expected s e 0x04 p q w u ∧ u.flag
      fEPO_CTRL_ENABLE = true ∧ (u.qp q).wr = none ∧ p.payload.length = 32 ∧ v = u.setQp q (qpAfterCmd (u.qp q)) ∧
      v.cmdStream q (cmdField p 4 3) = some j ∧ cmdField p 0 1 = 5 ∧ (v.stream j).report = some rep ∧ rep.building = false) ∧
    (∃ (s u v : State) (e : Nat) (p : RPkt) (q : Nat) (w : QWait), Expected s e 0x04 p q w u ∧ u.flag fEPO_CTRL_ENABLE =
      true ∧ (u.qp q).wr = none ∧ p.payload.length = 32 ∧ v = u.setQp q (qpAfterCmd (u.qp q)) ∧ v.cmdStream q (cmdField p 4
      3) = none ∧ cmdField p 0 1 = 2) ∧
    (∃ (s u v : State) (e : Nat) (p : RPkt) (q : Nat) (w : QWait), Expected s e 0x04 p q w u ∧ u.flag fEPO_CTRL_ENABLE =
      true ∧ (u.qp q).wr = none ∧ p.payload.length = 32 ∧ v = u.setQp q (qpAfterCmd (u.qp q)) ∧ v.cmdStream q (cmdField p 4
      3) = none ∧ cmdField p 0 1 = 4) ∧
    (∃ (s u v : State) (e : Nat) (p : RPkt) (q : Nat) (w : QWait), Expected s e 0x04 p q w u ∧ u.flag fEPO_CTRL_ENABLE =
      true ∧ (u.qp q).wr = none ∧ p.payload.length = 32 ∧ v = u.setQp q (qpAfterCmd (u.qp q)) ∧ v.cmdStream q (cmdField p 4
      3) = none ∧ cmdField p 0 1 = 5) ∧
    (∃ (s u v t : State) (e : Nat) (p : RPkt) (q : Nat) (w : QWait) (lpa owner win tenant id : Nat), Expected s e 0x04 p q w
      u ∧ u.flag fEPO_CTRL_ENABLE = true ∧ (u.qp q).wr = none ∧ p.payload.length = 32 ∧ cmdField p 0 1 = 3 ∧ v = u.setQp q
      (qpAfterCmd (u.qp q)) ∧ v.winCheck (u.qp q).host (cmdField p 16 4) (cmdField p 8 8) 1 (·.1) = .ok (lpa, owner, win,
      tenant) ∧ (v.qpPush q { psn := p.psn, kind := .cmd p.ackReq, port := w.port, mark := w.mark, buf := w.buf } = (t,
      id))) ∧
    (∃ (s u : State) (e : Nat) (p : RPkt) (q : Nat) (w : QWait), Expected s e 0x04 p q w u ∧ u.flag fEPO_CTRL_ENABLE = false
      ∧ (u.qp q).wr = none ∧ p.payload.length = 32 ∧ cmdField p 0 1 = 6) ∧
    (∃ (s u : State) (e : Nat) (p : RPkt) (q : Nat) (w : QWait), Expected s e 0x04 p q w u ∧ u.flag fEPO_CTRL_ENABLE = true
      ∧ (u.qp q).wr = none ∧ p.payload.length = 32 ∧ cmdField p 0 1 = 6) :=
  ⟨⟨roce rts, exd (roce rts) 0 (pk 0 0 [1]) 0, 0, pk 0 0 [1], 0, { op := 0x04, pkt := (pk 0 0 [1]) },
      expected_of (by decide +kernel) (by decide +kernel), by decide +kernel⟩,
    ⟨roce rts, exd (roce rts) 0 (cm 1 0 0) 0,
      (((exd (roce rts) 0 (cm 1 0 0) 0).setQp 0 (qpAfterCmd ((exd (roce rts) 0 (cm 1 0 0) 0).qp 0))).qpPush 0 { psn := 0, kind := .cmd false, port := 0, mark := {}, buf := 0 }).1,
      0, cm 1 0 0, 0, { op := 0x04, pkt := (cm 1 0 0) },
      (((exd (roce rts) 0 (cm 1 0 0) 0).setQp 0 (qpAfterCmd ((exd (roce rts) 0 (cm 1 0 0) 0).qp 0))).qpPush 0 { psn := 0, kind := .cmd false, port := 0, mark := {}, buf := 0 }).2,
      expected_of (by decide +kernel) (by decide +kernel), by decide +kernel⟩,
    ⟨roce rts, exd (roce rts) 0 (cm 2 255 0) 0,
      (exd (roce rts) 0 (cm 2 255 0) 0).setQp 0 (qpAfterCmd ((exd (roce rts) 0 (cm 2 255 0) 0).qp 0)), 0, cm 2 255 0,
      0, { op := 0x04, pkt := (cm 2 255 0) }, 65536, expected_of (by decide +kernel) (by decide +kernel),
      by decide +kernel⟩,
    ⟨roce rts, exd (roce rts) 0 (cm 4 255 0) 0,
      (exd (roce rts) 0 (cm 4 255 0) 0).setQp 0 (qpAfterCmd ((exd (roce rts) 0 (cm 4 255 0) 0).qp 0)), 0, cm 4 255 0,
      0, { op := 0x04, pkt := (cm 4 255 0) }, 65536, expected_of (by decide +kernel) (by decide +kernel),
      by decide +kernel⟩,
    ⟨{ roce rts with epo.streams := [(65536, { report := some {} })] },
      exd ({ roce rts with epo.streams := [(65536, { report := some {} })] }) 0 (cm 5 255 0) 0,
      (exd ({ roce rts with epo.streams := [(65536, { report := some {} })] }) 0 (cm 5 255 0) 0).setQp 0 (qpAfterCmd ((exd ({ roce rts with epo.streams := [(65536, { report := some {} })] }) 0 (cm 5 255 0) 0).qp 0)),
      0, cm 5 255 0, 0, { op := 0x04, pkt := (cm 5 255 0) }, 65536, ({} : Report),
      expected_of (by decide +kernel) (by decide +kernel), by decide +kernel⟩,
    ⟨roce rts, exd (roce rts) 0 (cm 2 0 0) 0,
      (exd (roce rts) 0 (cm 2 0 0) 0).setQp 0 (qpAfterCmd ((exd (roce rts) 0 (cm 2 0 0) 0).qp 0)), 0, cm 2 0 0, 0,
      { op := 0x04, pkt := (cm 2 0 0) }, expected_of (by decide +kernel) (by decide +kernel), by decide +kernel⟩,
    ⟨roce rts, exd (roce rts) 0 (cm 4 0 0) 0,
      (exd (roce rts) 0 (cm 4 0 0) 0).setQp 0 (qpAfterCmd ((exd (roce rts) 0 (cm 4 0 0) 0).qp 0)), 0, cm 4 0 0, 0,
      { op := 0x04, pkt := (cm 4 0 0) }, expected_of (by decide +kernel) (by decide +kernel), by decide +kernel⟩,
    ⟨roce rts, exd (roce rts) 0 (cm 5 0 0) 0,
      (exd (roce rts) 0 (cm 5 0 0) 0).setQp 0 (qpAfterCmd ((exd (roce rts) 0 (cm 5 0 0) 0).qp 0)), 0, cm 5 0 0, 0,
      { op := 0x04, pkt := (cm 5 0 0) }, expected_of (by decide +kernel) (by decide +kernel), by decide +kernel⟩,
    ⟨roce rts, exd (roce rts) 0 (cm 3 0 16) 0,
      (exd (roce rts) 0 (cm 3 0 16) 0).setQp 0 (qpAfterCmd ((exd (roce rts) 0 (cm 3 0 16) 0).qp 0)),
      ((((exd (roce rts) 0 (cm 3 0 16) 0).setQp 0 (qpAfterCmd ((exd (roce rts) 0 (cm 3 0 16) 0).qp 0)))).qpPush 0 { psn := 0, kind := .cmd false, port := 0, mark := {}, buf := 0 }).1,
      0, cm 3 0 16, 0, { op := 0x04, pkt := (cm 3 0 16) }, 2 ^ 30, 1, 1, 1,
      ((((exd (roce rts) 0 (cm 3 0 16) 0).setQp 0 (qpAfterCmd ((exd (roce rts) 0 (cm 3 0 16) 0).qp 0)))).qpPush 0 { psn := 0, kind := .cmd false, port := 0, mark := {}, buf := 0 }).2,
      expected_of (by decide +kernel) (by decide +kernel), by decide +kernel⟩,
    ⟨{ roce rts with regs := net.regs.filter (fun e => e.1 != 0xB00000) },
      exd ({ roce rts with regs := net.regs.filter (fun e => e.1 != 0xB00000) }) 0 (cm 6 0 0) 0, 0, cm 6 0 0, 0,
      { op := 0x04, pkt := (cm 6 0 0) }, expected_of (by decide +kernel) (by decide +kernel), by decide +kernel⟩,
    ⟨roce rts, exd (roce rts) 0 (cm 6 0 0) 0, 0, cm 6 0 0, 0, { op := 0x04, pkt := (cm 6 0 0) },
      expected_of (by decide +kernel) (by decide +kernel), by decide +kernel⟩⟩

/-- States and operands that meet the hypotheses of each clause of `Obligations.CirculationEngine`. -/
theorem test_witness_CirculationEngine :
    (∃ (s : State) (i : Nat) (t : CirTile), ((s.cs i).tiles.find? (fun t => !t.whole && decide (t.parts.length = 16)) = some
      t)) ∧
    (∃ (s u : State) (i m : Nat) (t : CirTile), (s.cs i).st = 2 ∧ (s.cs i).limit = none ∧ (s.cs i).rnr = none ∧ s.cirOn i =
      true ∧ (s.cs i).sendN - (s.cs i).freed < (s.cs i).slots ∧ ((s.cs i).tiles.find? (fun t => t.n == (s.cs i).sendN &&
      t.whole) = some t) ∧ m = 65536 / mtuBytes (s.qp (cirQ i)).pmtu ∧ (u = (s.spend (s.cs i).tenant 6 1).setCs i
      { s.cs i with sendN := (s.cs i).sendN + 1, late := (s.cs i).tileLate, tileLate := false, lateLong := false, entry := t.entry })) ∧
    (∃ (s : State) (i : Nat), (s.cs i).st = 2 ∧ (s.cs i).limit = none ∧ (s.cs i).rnr = none ∧ s.cirOn i = true ∧ (s.cs
      i).sendN - (s.cs i).freed < (s.cs i).slots ∧ ((s.cs i).tiles.find? (fun t => t.n == (s.cs i).sendN && t.whole) = none)
      ∧ (s.cs i).tileLate = false) ∧
    (∃ (s : State) (i : Nat), (s.cs i).sendN - (s.cs i).freed ≥ (s.cs i).slots) ∧
    (∃ (s : State) (i : Nat), (s.cs i).conn = true) ∧
    (∃ (s : State) (i : Nat), (s.cs i).st = 2 ∧ s.cirOn i = true ∧ (s.cs i).slots ≤ (s.cs i).sendN - (s.cs i).freed ∧ ((s.cs
      i).out.any (fun m => m.what == .freed) = false) ∧ (s.cs i).pollAt = none) ∧
    (∃ (s : State) (i t : Nat), (s.cs i).pollAt = some t ∧ s.timeUs < t + max 1 (s.fld fCIR_POLL_US)) ∧
    (∃ (s u v : State) (i value : Nat) (m : CirMsg), ((s.cs i).out.find? (fun m => m.what == .freed) = some m) ∧ u = (s.bump
      rNRE_CNT_RX_PKT).cirAck i (s.cs i).out.length m.psn ∧ (v = u.setCs i { u.cs i with freed := value % 2 ^ 64 })) ∧
    (∃ (s : State) (i : Nat), (s.cs i).conn = true ∧ s.cirOn i = true ∧ (s.cs i).out = []) ∧
    (∃ (s : State) (i : Nat), (s.cs i).tileLate = true ∧ (s.cs i).lateLong = false) ∧
    (∃ (s : State) (i : Nat), (s.cs i).st = 3 ∧ ((s.cs i).out.any (fun m => m.what == .completion) = true)) ∧
    (∃ (s : State) (i : Nat), (s.cs i).conn = true) ∧
    (∃ (s : State) (i c : Nat), (s.cs i).cur = some c) ∧
    (∃ (s u : State) (i psn syn : Nat), (s.cs i).conn = true ∧ u = (s.bump rNRE_CNT_RX_PKT).cirAck i (s.cs i).out.length
      ((psn + 2 ^ 24 - 1) % 2 ^ 24) ∧ syn / 32 = 1) ∧
    (∃ (s u : State) (i psn syn : Nat), (s.cs i).conn = true ∧ u = (s.bump rNRE_CNT_RX_PKT).cirAck i (s.cs i).out.length
      ((psn + 2 ^ 24 - 1) % 2 ^ 24) ∧ syn = 0x60 ∧ (u.cs i).tries ≠ 0) ∧
    (∃ (s u : State) (i psn syn : Nat), (s.cs i).conn = true ∧ u = (s.bump rNRE_CNT_RX_PKT).cirAck i (s.cs i).out.length
      ((psn + 2 ^ 24 - 1) % 2 ^ 24) ∧ syn = 0x60 ∧ (u.cs i).tries = 0) ∧
    (∃ (s u : State) (i psn syn : Nat), (s.cs i).conn = true ∧ u = (s.bump rNRE_CNT_RX_PKT).cirAck i (s.cs i).out.length
      ((psn + 2 ^ 24 - 1) % 2 ^ 24) ∧ syn / 32 ≠ 1 ∧ syn ≠ 0x60) ∧
    (∃ (s : State) (i psn : Nat), (s.cs i).rnr = some psn) ∧
    (∃ (s : State) (i : Nat) (m : CirMsg) (l : List CirMsg), (s.cs i).out = m :: l ∧ (s.cs i).tries ≠ 0) ∧
    (∃ (s : State) (i : Nat) (m : CirMsg) (l : List CirMsg), (s.cs i).out = m :: l ∧ (s.cs i).tries = 0) ∧
    (∃ (s : State) (i : Nat), (s.cs i).out = []) :=
  ⟨⟨cirS { tiles := [{ parts := (List.range 16).map (fun k => (k, [])) }] }, 255,
      { parts := (List.range 16).map (fun k => (k, [])) }, by decide +kernel⟩,
    ⟨cirS { st := 2, slots := 1, tiles := [{ whole := true }] },
      ((cirS { st := 2, slots := 1, tiles := [{ whole := true }] }).spend 0 6 1).setCs 255 { (cirS { st := 2, slots := 1, tiles := [{ whole := true }] }).cs 255 with sendN := 1, late := false, lateLong := false, entry := 0 },
      255, 64, { whole := true }, by decide +kernel⟩,
    ⟨cirS { st := 2, slots := 1 }, 255, by decide +kernel⟩,
    ⟨cirS {}, 255, by decide +kernel⟩,
    ⟨cirS { conn := true }, 255, by decide +kernel⟩,
    ⟨cirS { st := 2, slots := 2, sendN := 2 }, 255, by decide +kernel⟩,
    ⟨cirS { pollAt := some 0 }, 255, 0, by decide +kernel⟩,
    ⟨cirS { out := [{ what := .freed }] },
      ((cirS { out := [{ what := .freed }] }).bump rNRE_CNT_RX_PKT).cirAck 255 1 0,
      (((cirS { out := [{ what := .freed }] }).bump rNRE_CNT_RX_PKT).cirAck 255 1 0).setCs 255 { (((cirS { out := [{ what := .freed }] }).bump rNRE_CNT_RX_PKT).cirAck 255 1 0).cs 255 with freed := 0 },
      255, 0, { what := .freed }, by decide +kernel⟩,
    ⟨cirS { conn := true }, 255, by decide +kernel⟩,
    ⟨cirS { tileLate := true }, 255, by decide +kernel⟩,
    ⟨cirS { st := 3, out := [{ what := .completion }] }, 255, by decide +kernel⟩,
    ⟨cirS { conn := true }, 255, by decide +kernel⟩,
    ⟨cirS { cur := some 10 }, 255, 10, by decide +kernel⟩,
    ⟨cirS { conn := true }, ((cirS { conn := true }).bump rNRE_CNT_RX_PKT).cirAck 255 0 (2 ^ 24 - 1), 255, 0, 63,
      by decide +kernel⟩,
    ⟨cirS { conn := true }, ((cirS { conn := true }).bump rNRE_CNT_RX_PKT).cirAck 255 0 (2 ^ 24 - 1), 255, 0, 0x60,
      by decide +kernel⟩,
    ⟨cirS { conn := true, tries := 0 },
      ((cirS { conn := true, tries := 0 }).bump rNRE_CNT_RX_PKT).cirAck 255 0 (2 ^ 24 - 1), 255, 0, 0x60,
      by decide +kernel⟩,
    ⟨cirS { conn := true }, ((cirS { conn := true }).bump rNRE_CNT_RX_PKT).cirAck 255 0 (2 ^ 24 - 1), 255, 0, 0x61,
      by decide +kernel⟩,
    ⟨cirS { rnr := some 1 }, 255, 1, by decide +kernel⟩,
    ⟨cirS { out := [{}] }, 255, {}, [], by decide +kernel⟩,
    ⟨cirS { out := [{}], tries := 0 }, 255, {}, [], by decide +kernel⟩,
    ⟨cirS {}, 255, by decide +kernel⟩⟩

/-- States and operands that meet the hypotheses of each clause of `Obligations.MirrorFrames`. -/
theorem test_witness_MirrorFrames :
    (∃ (c : Instr) (f : MFrame) (s : State), mirrorOf c = some f ∧ (s.twn.role = .inStep ∨ s.twn.role = .catchingUp) ∧
      s.twn.linkUp = true) ∧
    (∃ (c : Instr) (f : MFrame) (s : State), mirrorOf c = some f ∧ s.twn.role = .active ∧ s.twn.linkUp = true) ∧
    (∃ (c : Instr) (f : MFrame) (s : State), mirrorOf c = some f ∧ s.twn.role ≠ .active ∧ s.twn.linkUp = false) ∧
    (∃ (s : State), s.cru.awaitAccept = false) :=
  ⟨⟨.rsEnd, .rsEnd, tw { role := .catchingUp, linkUp := true }, by decide +kernel⟩,
    ⟨.rsEnd, .rsEnd, tw { role := .active, linkUp := true }, by decide +kernel⟩,
    ⟨.rsEnd, .rsEnd, tw {}, by decide +kernel⟩,
    ⟨tw { role := .catchingUp }, by decide +kernel⟩⟩

/-- States and operands that meet the hypotheses of each clause of `Obligations.ReturnFrames`. -/
theorem test_witness_ReturnFrames :
    (∃ (s u : State) (m : Nat), s.twn.role = .active ∧ s.twn.partner ≠ .lost ∧ ((s.twn.sent.filter (fun f => decide ((m + 2
      ^ 48 - f.mseq % 2 ^ 48) % 2 ^ 48 < 2 ^ 47))) ≠ []) ∧ (u =
      { s with twn := { s.twn with sent := s.twn.sent.filter (fun f => !decide ((m + 2 ^ 48 - f.mseq % 2 ^ 48) % 2 ^ 48 < 2 ^ 47)), appliedAt := s.timeUs } })) ∧
    (∃ (s u : State) (m old : Nat) (ok : Bool) (a : AtomWait), s.twn.role = .active ∧ s.twn.partner ≠ .lost ∧
      (s.twn.atoms.find? (fun a => a.mseq == m) = some a) ∧ (u =
      { s with twn := { s.twn with atoms := s.twn.atoms.filter (fun b => b.mseq != m) } }) ∧ leNat a.old = old ∧ a.casOk =
      ok) ∧
    (∃ (s u : State) (m old : Nat) (ok : Bool) (a : AtomWait), s.twn.role = .active ∧ s.twn.partner ≠ .lost ∧
      (s.twn.atoms.find? (fun a => a.mseq == m) = some a) ∧ (u =
      { s with twn := { s.twn with atoms := s.twn.atoms.filter (fun b => b.mseq != m) } }) ∧ (leNat a.old ≠ old ∨ a.casOk ≠
      ok)) ∧
    (∃ (s : State) (i : Nat) (crc : BitVec 64) (m : Nat) (c : CloseSt), s.twn.role = .active ∧ s.twn.partner ≠ .lost ∧
      (s.stream i).st = .closing ∧ (s.stream i).close = some c ∧ c.mseq = some m ∧ crc = digestOut (s.stream i).digest) ∧
    (∃ (s : State) (i : Nat) (crc : BitVec 64) (m : Nat) (c : CloseSt), s.twn.role = .active ∧ s.twn.partner ≠ .lost ∧
      (s.stream i).st = .closing ∧ (s.stream i).close = some c ∧ c.mseq = some m ∧ crc ≠ digestOut (s.stream i).digest) ∧
    (∃ (s : State) (i m : Nat) (c : CloseSt), s.twn.role = .active ∧ s.twn.partner ≠ .lost ∧ (s.stream i).st = .closing ∧
      (s.stream i).close = some c ∧ c.mseq = some m) ∧
    (∃ (s : State) (i m : Nat) (c : CloseSt), s.twn.role = .active ∧ s.twn.partner ≠ .lost ∧ s.twn.linkUp = true ∧ (s.stream
      i).st = .closing ∧ (s.stream i).close = some c ∧ c.mseq = some m ∧ c.digestOk = false) ∧
    (∃ (s : State) (stage : Nat), s.twn.role = .active ∧ s.twn.partner ≠ .lost ∧ s.twn.status = none ∧ stage ≤ 7) ∧
    (∃ (s : State), s.twn.role = .inStep ∧ s.twn.linkUp = true) ∧
    (∃ (s : State) (m : Nat), s.twn.role = .active ∧ m < 2 ^ 48 ∧ s.twn.partner = .inStep) ∧
    (∃ (s : State) (m : Nat), s.twn.role = .active ∧ m < 2 ^ 48 ∧ s.twn.partner = .catching) ∧
    (∃ (s : State), s.twn.role = .active) ∧
    (∃ (s : State), s.twn.role = .active ∧ s.twn.partner ≠ .lost ∧ s.twn.sent ≠ []) ∧
    (∃ (s : State), s.twn.linkUp = true) ∧
    (∃ (s : State), s.twn.linkUp = false) ∧
    (∃ (s : State), s.twn.role = .active ∧ s.twn.partner = .catching ∧ s.twn.copying = none) ∧
    (∃ (s : State), s.twn.role = .active ∧ s.twn.partner = .lost) :=
  ⟨⟨tw { role := .active, partner := .catching, sent := [{}] },
      { (tw { role := .active, partner := .catching, sent := [{}] }) with twn.sent := [], twn.appliedAt := 0 }, 0,
      by decide +kernel⟩,
    ⟨tw { role := .active, partner := .inStep, atoms := [{ mseq := 5 }] },
      { (tw { role := .active, partner := .inStep, atoms := [{ mseq := 5 }] }) with twn.atoms := [] }, 5, 0, false,
      { mseq := 5 }, by decide +kernel⟩,
    ⟨tw { role := .active, partner := .inStep, atoms := [{ mseq := 5 }] },
      { (tw { role := .active, partner := .inStep, atoms := [{ mseq := 5 }] }) with twn.atoms := [] }, 5, 1, false,
      { mseq := 5 }, by decide +kernel⟩,
    ⟨{ tw { role := .active, partner := .inStep } with epo.streams := [(0, { st := .closing, close := some { mseq := some 0 } })] },
      0, digestOut 0, 0, { mseq := some 0 }, by decide +kernel⟩,
    ⟨{ tw { role := .active, partner := .inStep } with epo.streams := [(0, { st := .closing, close := some { mseq := some 0 } })] },
      0, ~~~ digestOut 0, 0, { mseq := some 0 }, by decide +kernel⟩,
    ⟨{ tw { role := .active, partner := .inStep } with epo.streams := [(0, { st := .closing, close := some { mseq := some 0 } })] },
      0, 0, { mseq := some 0 }, by decide +kernel⟩,
    ⟨{ tw { role := .active, partner := .inStep, linkUp := true } with epo.streams := [(0, { st := .closing, close := some { mseq := some 0 } })] },
      0, 0, { mseq := some 0 }, by decide +kernel⟩,
    ⟨tw { role := .active, partner := .inStep }, 7, by decide +kernel⟩,
    ⟨tw { role := .inStep, linkUp := true }, by decide +kernel⟩,
    ⟨tw { role := .active, partner := .inStep }, 2 ^ 48 - 1, by decide +kernel⟩,
    ⟨tw { role := .active, partner := .catching }, 2 ^ 48 - 1, by decide +kernel⟩,
    ⟨tw { role := .active }, by decide +kernel⟩,
    ⟨tw { role := .active, partner := .inStep, sent := [{}] }, by decide +kernel⟩,
    ⟨tw { linkUp := true }, by decide +kernel⟩,
    ⟨tw {}, by decide +kernel⟩,
    ⟨tw { role := .active, partner := .catching }, by decide +kernel⟩,
    ⟨tw { role := .active }, by decide +kernel⟩⟩

/-- States and operands that meet the hypotheses of each clause of `Obligations.Leases`. -/
theorem test_witness_Leases :
    (∃ (s : State), s.twn.role = .active ∧ s.twn.linkUp = true) ∧
    (∃ (s : State) (m : Nat), s.twn.linkUp = true ∧ m < 2 ^ 48 ∧ s.twn.role = .inStep) ∧
    (∃ (s : State) (m : Nat), s.twn.linkUp = true ∧ m < 2 ^ 48 ∧ (s.twn.role = .catchingUp ∨ s.twn.role = .claiming)) ∧
    (∃ (s : State) (r a : Nat), s.twn.role = .active ∧ (s.twn.leases.find? (fun l => l.1 == r) = some (r, a))) ∧
    (∃ (s : State) (g : Nat), g ≠ s.twn.gen) ∧
    (∃ (s : State), s.twn.role = .inStep) ∧
    (∃ (s : State), s.twn.role = .active ∧ s.mayAct = false) ∧
    (∃ (s : State), s.twn.role = .active ∧ s.mayAct = true) ∧
    (∃ (s : State) (g : Nat), s.twn.role = .claiming ∧ s.twn.grantHeld = g + 1) ∧
    (∃ (s : State), s.twn.role ≠ .claiming) ∧
    (∃ (s : State) (g : Nat), (s.twn.role = .inStep ∨ s.twn.role = .catchingUp) ∧ g < 2 ^ 32) :=
  ⟨⟨tw { role := .active, linkUp := true }, by decide +kernel⟩,
    ⟨tw { role := .inStep, linkUp := true }, 2 ^ 48 - 1, by decide +kernel⟩,
    ⟨tw { role := .catchingUp, linkUp := true }, 2 ^ 48 - 1, by decide +kernel⟩,
    ⟨tw { role := .active, leases := [(1, 2)] }, 1, 2, by decide +kernel⟩,
    ⟨tw {}, 1, by decide +kernel⟩,
    ⟨tw { role := .inStep }, by decide +kernel⟩,
    ⟨twA { role := .active, linkUp := true }, by decide +kernel⟩,
    ⟨tw { role := .active }, by decide +kernel⟩,
    ⟨tw { role := .claiming, grantHeld := 8 }, 7, by decide +kernel⟩,
    ⟨tw {}, by decide +kernel⟩,
    ⟨tw { role := .inStep }, 2 ^ 32 - 1, by decide +kernel⟩⟩

/-- States and operands that meet the hypotheses of each clause of `Obligations.HellosAndPulses`. -/
theorem test_witness_HellosAndPulses :
    (∃ (s : State), s.twn.role = .detached ∧ s.twn.linkUp = true) ∧
    (∃ (s : State), s.twn.role = .active) ∧
    (∃ (s : State), s.twn.role = .catchingUp) ∧
    (∃ (s : State), s.pwr.st = .service ∧ s.twn.role ≠ .unpaired) ∧
    (∃ (s : State), s.twn.role = .unpaired) ∧
    (∃ (ns : Nat), (ns < 500 ∨ (1500 < ns ∧ ns < 2500) ∨ (3500 < ns ∧ ns < 4500) ∨ (5500 < ns ∧ ns < 6500) ∨ 7500 < ns)) ∧
    (∃ (s : State) (ns : Nat), 500 ≤ ns ∧ ns ≤ 1500 ∧ s.twn.linkUp = true) ∧
    (∃ (s : State) (ns : Nat), 6500 ≤ ns ∧ ns ≤ 7500 ∧ s.twn.linkUp = false ∧ s.twn.role = .active) ∧
    (∃ (s : State) (ns : Nat), 2500 ≤ ns ∧ ns ≤ 3500 ∧ s.twn.linkUp = false ∧ s.twn.role = .inStep ∧ s.twn.pulses = 1 ∧
      s.twn.gaining = none) ∧
    (∃ (s : State), s.twn.role ≠ .inStep) ∧
    (∃ (s : State), s.twn.role = .inStep ∧ s.twn.linkUp = false ∧ s.twn.gaining = none ∧ s.witness = true ∧ s.flag
      fTWN_CTRL_AUTO_CLAIM = true) ∧
    (∃ (s : State), s.twn.role = .inStep ∧ s.twn.linkUp = false ∧ s.twn.gaining = none ∧ (s.witness = false ∨ s.flag
      fTWN_CTRL_AUTO_CLAIM = false)) ∧
    (∃ (s : State) (role : Nat), s.twn.role = .active ∧ role ≠ 2 ∧ s.twn.partner = .lost ∧ s.twn.handover = none) ∧
    (∃ (s : State) (role : Nat), s.twn.role = .active ∧ role ≠ 2 ∧ s.twn.partner ≠ .lost) ∧
    (∃ (s : State), s.twn.role = .starting) ∧
    (∃ (s : State) (g : Nat) (wh so vo : Bool), s.twn.role = .starting ∧ s.ranksFirst g wh so vo = true ∧ s.twn.stateOk =
      true ∧ s.witness = false) ∧
    (∃ (s : State) (g : Nat) (wh so vo : Bool), s.twn.role = .starting ∧ s.ranksFirst g wh so vo = true ∧ s.twn.stateOk =
      true ∧ s.witness = true) ∧
    (∃ (s : State) (g : Nat) (wh so vo : Bool), s.twn.role = .starting ∧ s.ranksFirst g wh so vo = false) ∧
    (∃ (s : State), s.twn.role = .detached ∧ s.flag fTWN_CTRL_AUTO_JOIN = true) ∧
    (∃ (s : State), s.twn.role = .detached) :=
  ⟨⟨tw { role := .detached, linkUp := true }, by decide +kernel⟩,
    ⟨tw { role := .active }, by decide +kernel⟩,
    ⟨tw { role := .catchingUp }, by decide +kernel⟩,
    ⟨tw { role := .fenced }, by decide +kernel⟩,
    ⟨tw {}, by decide +kernel⟩,
    ⟨499, by decide +kernel⟩,
    ⟨tw { linkUp := true }, 1500, by decide +kernel⟩,
    ⟨tw { role := .active }, 7500, by decide +kernel⟩,
    ⟨tw { role := .inStep, pulses := 1 }, 2500, by decide +kernel⟩,
    ⟨tw {}, by decide +kernel⟩,
    ⟨twA { role := .inStep }, by decide +kernel⟩,
    ⟨tw { role := .inStep }, by decide +kernel⟩,
    ⟨tw { role := .active }, 1, by decide +kernel⟩,
    ⟨tw { role := .active, partner := .inStep }, 1, by decide +kernel⟩,
    ⟨tw { role := .starting }, by decide +kernel⟩,
    ⟨tw { role := .starting, gen := 1, stateOk := true }, 0, false, false, false, by decide +kernel⟩,
    ⟨twA { role := .starting, gen := 1, stateOk := true }, 0, false, false, false, by decide +kernel⟩,
    ⟨tw { role := .starting }, 1, false, false, false, by decide +kernel⟩,
    ⟨twA { role := .detached }, by decide +kernel⟩,
    ⟨tw { role := .detached }, by decide +kernel⟩⟩

/-- States and operands that meet the hypotheses of each clause of `Obligations.WitnessTraffic`. -/
theorem test_witness_WitnessTraffic :
    (∃ (s : State), s.twn.role = .claiming ∧ s.twn.wreq = none ∧ s.twn.grantHeld = 0) ∧
    (∃ (s : State), s.twn.role ≠ .claiming) ∧
    (∃ (s : State), s.twn.role = .starting ∧ s.witness = true) ∧
    (∃ (s : State), s.witness = false) ∧
    (∃ (s : State), s.twn.role = .active ∧ s.witness = true ∧ s.twn.linkUp = false ∧ s.twn.wreq = none) ∧
    (∃ (s : State), s.twn.linkUp = true) ∧
    (∃ (s : State) (w : WReq), s.twn.wreq = some w) ∧
    (∃ (s u : State) (msg : List Byte), s.witnessTake 0x81 msg = (u, none)) ∧
    (∃ (s u : State) (msg : List Byte), s.witnessTake 0x82 msg = (u, none)) ∧
    (∃ (s u : State) (msg : List Byte), s.witnessTake 0x83 msg = (u, none)) ∧
    (∃ (s u : State) (msg : List Byte) (w : WReq) (a g : Nat), s.witnessTake 0x81 msg = (u, some (w, a, g)) ∧ w.type = 2) ∧
    (∃ (s u : State) (msg : List Byte) (w : WReq) (a g : Nat), s.witnessTake 0x81 msg = (u, some (w, a, g)) ∧ w.type = 1 ∧
      u.twn.role = .claiming ∧ u.twn.takeover = none ∧ u.twn.claimWhy = 0 ∧ u.twn.viewUntil ≤ u.timeUs) ∧
    (∃ (s u : State) (msg : List Byte) (w : WReq) (a g : Nat), s.witnessTake 0x81 msg = (u, some (w, a, g)) ∧ w.type = 1 ∧
      u.twn.role = .claiming ∧ u.twn.takeover = none ∧ u.twn.claimWhy = 0 ∧ u.timeUs < u.twn.viewUntil) ∧
    (∃ (s u : State) (msg : List Byte) (w : WReq) (a g : Nat), s.witnessTake 0x82 msg = (u, some (w, a, g)) ∧ w.type = 3) ∧
    (∃ (s u : State) (msg : List Byte) (w : WReq) (a g : Nat), s.witnessTake 0x83 msg = (u, some (w, a, g)) ∧ w.type = 3) ∧
    (∃ (s u : State) (msg : List Byte) (w : WReq) (a g : Nat), w.type = 2 ∧ (u.denied 0x82 g).twn.role = .active ∧ (u.denied
      0x83 g).twn.role = .active ∧ s.witnessTake 0x82 msg = (u, some (w, a, g))) ∧
    (∃ (s u : State) (msg : List Byte) (w : WReq) (a g : Nat), w.type = 2 ∧ (u.denied 0x82 g).twn.role = .active ∧ (u.denied
      0x83 g).twn.role = .active ∧ s.witnessTake 0x83 msg = (u, some (w, a, g))) :=
  ⟨⟨twA { role := .claiming }, by decide +kernel⟩,
    ⟨tw {}, by decide +kernel⟩,
    ⟨twA { role := .starting }, by decide +kernel⟩,
    ⟨tw {}, by decide +kernel⟩,
    ⟨twA { role := .active }, by decide +kernel⟩,
    ⟨tw { role := .active, partner := .inStep, linkUp := true }, by decide +kernel⟩,
    ⟨twA { wreq := some {} }, {}, by decide +kernel⟩,
    ⟨tw {}, ((tw {}).witnessTake 0x81 []).1, [], by decide +kernel⟩,
    ⟨tw {}, ((tw {}).witnessTake 0x82 []).1, [], by decide +kernel⟩,
    ⟨tw {}, ((tw {}).witnessTake 0x83 []).1, [], by decide +kernel⟩,
    ⟨twA { role := .active, wreq := some { type := 2, sent := [(0, 0)] } },
      ((twA { role := .active, wreq := some { type := 2, sent := [(0, 0)] } }).witnessTake 0x81 grantMsg).1, grantMsg,
      { type := 2, sent := [(0, 0)] }, 0, 0, by decide +kernel⟩,
    ⟨twA { role := .claiming, wreq := some { type := 1, sent := [(0, 0)] } },
      ((twA { role := .claiming, wreq := some { type := 1, sent := [(0, 0)] } }).witnessTake 0x81 grantMsg).1,
      grantMsg, { type := 1, sent := [(0, 0)] }, 0, 0, by decide +kernel⟩,
    ⟨twA { role := .claiming, viewUntil := 1, wreq := some { type := 1, sent := [(0, 0)] } },
      ((twA { role := .claiming, viewUntil := 1, wreq := some { type := 1, sent := [(0, 0)] } }).witnessTake 0x81 grantMsg).1,
      grantMsg, { type := 1, sent := [(0, 0)] }, 0, 0, by decide +kernel⟩,
    ⟨twA { role := .active, wreq := some { type := 3, sent := [(0, 0)] } },
      ((twA { role := .active, wreq := some { type := 3, sent := [(0, 0)] } }).witnessTake 0x82 heldMsg).1, heldMsg,
      { type := 3, sent := [(0, 0)] }, 0, 0, by decide +kernel⟩,
    ⟨twA { role := .active, wreq := some { type := 3, sent := [(0, 0)] } },
      ((twA { role := .active, wreq := some { type := 3, sent := [(0, 0)] } }).witnessTake 0x83 staleMsg).1, staleMsg,
      { type := 3, sent := [(0, 0)] }, 0, 0, by decide +kernel⟩,
    ⟨twA { role := .active, wreq := some { type := 2, sent := [(0, 0)] } },
      ((twA { role := .active, wreq := some { type := 2, sent := [(0, 0)] } }).witnessTake 0x82 heldMsg).1, heldMsg,
      { type := 2, sent := [(0, 0)] }, 0, 0, by decide +kernel⟩,
    ⟨twA { role := .active, wreq := some { type := 2, sent := [(0, 0)] } },
      ((twA { role := .active, wreq := some { type := 2, sent := [(0, 0)] } }).witnessTake 0x83 staleMsg).1, staleMsg,
      { type := 2, sent := [(0, 0)] }, 0, 0, by decide +kernel⟩⟩

/-- States and operands that meet the hypotheses of each clause of `Obligations.TwinServices`. -/
theorem test_witness_TwinServices :
    (∃ (s : State) (n : Nat), s.turn n 0x38 ∧ s.twn.role = .detached ∧ s.twnBusy = false) ∧
    (∃ (s : State) (n : Nat), s.turn n 0x38 ∧ s.twn.role = .catchingUp) ∧
    (∃ (s : State) (n : Nat), s.turn n 0x38 ∧ s.twn.role = .active) ∧
    (∃ (s : State) (n : Nat), s.turn n 0x39 ∧ s.twn.role = .active ∧ s.twn.partner = .inStep ∧ s.twnBusy = false) ∧
    (∃ (s : State) (n : Nat), s.turn n 0x39 ∧ s.twn.role ≠ .active) ∧
    (∃ (s : State) (n : Nat), s.turn n 0x3A ∧ s.twn.role = .inStep ∧ s.twnBusy = false ∧ s.witness = false) ∧
    (∃ (s : State) (n : Nat), s.turn n 0x3A ∧ s.twn.role = .detached ∧ s.twnBusy = false ∧ s.witness = true) ∧
    (∃ (s : State) (n : Nat), s.turn n 0x3A ∧ s.twn.role = .unpaired) ∧
    (∃ (s : State) (n : Nat), s.turn n 0x3B ∧ s.twn.role ≠ .unpaired ∧ s.twn.gaining = none) ∧
    (∃ (s : State) (n : Nat), s.turn n 0x3B ∧ s.twn.role = .unpaired) :=
  ⟨⟨{ req 0 [0x38] with twn := { role := .detached } }, 0, by unfold State.turn; decide +kernel, by decide +kernel⟩,
    ⟨{ req 0 [0x38] with twn := { role := .catchingUp } }, 0, by unfold State.turn; decide +kernel, by decide +kernel⟩,
    ⟨{ req 0 [0x38] with twn := { role := .active } }, 0, by unfold State.turn; decide +kernel, by decide +kernel⟩,
    ⟨{ req 0 [0x39] with twn := { role := .active, partner := .inStep } }, 0, by unfold State.turn; decide +kernel,
      by decide +kernel⟩,
    ⟨req 0 [0x39], 0, by unfold State.turn; decide +kernel, by decide +kernel⟩,
    ⟨{ req 0 [0x3A] with twn := { role := .inStep } }, 0, by unfold State.turn; decide +kernel, by decide +kernel⟩,
    ⟨{ req 0 [0x3A] with twn := { role := .detached }, regs := [(fTWN_CTRL_WITNESS_EN.addr, 0xFFFFFFFF)] }, 0,
      by unfold State.turn; decide +kernel, by decide +kernel⟩,
    ⟨req 0 [0x3A], 0, by unfold State.turn; decide +kernel, by decide +kernel⟩,
    ⟨{ req 0 [0x3B] with twn := { role := .active } }, 0, by unfold State.turn; decide +kernel, by decide +kernel⟩,
    ⟨req 0 [0x3B], 0, by unfold State.turn; decide +kernel, by decide +kernel⟩⟩

/-- States and operands that meet the hypotheses of each clause of `Obligations.BuffersAndInterrupts`. -/
theorem test_witness_BuffersAndInterrupts :
    (∃ (o p n : Nat), bufferAsk o p n = false) ∧
    (∃ (s u : State) (o p n : Nat) (up ll : Bool) (l : List Nat), bufferAsk o p n = true ∧ ownerFree o = true ∧ s.bpmAlloc o
      p n up ll none = (u, some l)) ∧
    (∃ (s u : State) (o p n : Nat) (up ll : Bool) (t : Option Nat) (l : List Nat), bufferAsk o p n = true ∧ ownerFree o =
      false ∧ s.bpmAlloc o p n up ll t = (u, some l)) ∧
    (∃ (s u : State) (o p n : Nat) (up ll : Bool) (t : Option Nat), bufferAsk o p n = true ∧ ownerFree o = false ∧
      s.bpmAlloc o p n up ll t = (u, none) ∧ (o < 0x20 ∨ 0x40 ≤ o)) ∧
    (∃ (s : State) (o p n : Nat), s.grantRule o p n false = 1) ∧
    (∃ (s : State) (ptr p k : Nat), s.ptrFind ptr = .ok (p, k) ∧ ((Tab.get (fun _ => ({} : Buf)) s.bpm.bufs k).tenant = 0)) ∧
    (∃ (s : State) (ptr c : Nat), s.ptrFind ptr = .error c ∧ s.bpm.badSec ≠ s.timeUs / 1000000 + 1) ∧
    (∃ (s : State) (k : Nat), s.bpm.waits.length ≤ k) ∧
    (∃ (s u : State) (k o p n : Nat) (up : Bool) (l : List Nat), s.bpm.waits[k]? = some (o, p, n, up, 0) ∧ s.bpmAlloc o p n
      up false none = (u, some l)) ∧
    (∃ (s : State) (t : Nat), t < 5 ∧ s.deliverable t = none ∧ (s.tgt t).signalled = false) ∧
    (∃ (s : State) (t : Nat), t < 5 ∧ s.deliverable t = none ∧ (s.tgt t).signalled = true) ∧
    (∃ (s : State) (t n : Nat), t < 5 ∧ s.deliverable t = some n ∧ levelClass n = false) ∧
    (∃ (t : Nat), 5 ≤ t) ∧
    (∃ (s : State) (t n : Nat), t < 21 ∧ (s.src n).active = some t) ∧
    (∃ (s : State) (t n : Nat), t < 21 ∧ (s.src n).active ≠ some t ∧ (s.bump rINT_CNT_STRAY).flag fINT_CTRL_MODE = false) ∧
    (∃ (n : Nat), srcSettable n = true ∧ levelClass n = true) ∧
    (∃ (n : Nat), srcSettable n = true ∧ levelClass n = false) ∧
    (∃ (n : Nat), srcSettable n = false) ∧
    (∃ (n : Nat), 0 < n ∧ n ≤ 0x480) ∧
    (∃ (s : State) (k : Nat), (k = 1 ∨ k = 2) ∧ s.int.msixEn = true ∧ (s.tgt k).pba = true) :=
  ⟨⟨0, 0, 0, by decide +kernel⟩,
    ⟨live, ((live).bpmAlloc 0x40 2 1 false false none).1, 0x40, 2, 1, false, false,
      ((live).bpmAlloc 0x40 2 1 false false none).2.getD [], by decide +kernel⟩,
    ⟨live, ((live).bpmAlloc 31 0 8 false false none).1, 31, 0, 8, false, false, none,
      ((live).bpmAlloc 31 0 8 false false none).2.getD [], by decide +kernel⟩,
    ⟨{ live with regs := [(0xA00000, 1), (rBPM_POOL_CFG, 0)] },
      (({ live with regs := [(0xA00000, 1), (rBPM_POOL_CFG, 0)] }).bpmAlloc 31 0 1 false false none).1, 31, 0, 1,
      false, false, none, by decide +kernel⟩,
    ⟨live, 0, 0, 1, by decide +kernel⟩,
    ⟨{ live with bpm.bufs := [(0, { owner := 1 })] }, 0, 0, 0, by decide +kernel⟩,
    ⟨live, 2 ^ 30, 0, by decide +kernel⟩,
    ⟨live, 0, by decide +kernel⟩,
    ⟨{ live with bpm.waits := [(0, 0, 1, false, 0)] },
      (({ live with bpm.waits := [(0, 0, 1, false, 0)] }).bpmAlloc 0 0 1 false false none).1, 0, 0, 0, 1, false,
      (({ live with bpm.waits := [(0, 0, 1, false, 0)] }).bpmAlloc 0 0 1 false false none).2.getD [], by decide +kernel⟩,
    ⟨live, 4, by decide +kernel⟩,
    ⟨{ live with int.tgts := [(4, { signalled := true })] }, 4, by decide +kernel⟩,
    ⟨{ live with int.srcs := [(0x003, { cnt := 1, offered := some 4 })] }, 4, 3, by decide +kernel⟩,
    ⟨5, by decide +kernel⟩,
    ⟨{ live with int.srcs := [(3, { active := some 20 })] }, 20, 3, by decide +kernel⟩,
    ⟨{ live with regs := [(fINT_CTRL_MODE.addr, 0)] }, 20, 3, by decide +kernel⟩,
    ⟨1, by decide +kernel⟩,
    ⟨0x480, by decide +kernel⟩,
    ⟨0x07E, by decide +kernel⟩,
    ⟨0x480, by decide +kernel⟩,
    ⟨{ live with int := { msixEn := true, tgts := [(2, { pba := true })] } }, 2, by decide +kernel⟩⟩

/-- States and operands that meet the hypotheses of each clause of `Obligations.ImageServices`. -/
theorem test_witness_ImageServices :
    (∃ (s : State) (n : Nat), s.turn n 0x40 ∧ (s.slot n).arg 0 1 > 1) ∧
    (∃ (s : State) (n c : Nat), s.turn n 0x40 ∧ (s.slot n).arg 0 1 = c ∧ c ≤ 1 ∧ (s.slot n).arg 8 2 ≠ 0 ∧ (s.slot n).arg 8 2
      ≤ 192 ∧ (s.slot n).zero 1 3 = true ∧ (s.slot n).zero 10 6 = true ∧ s.rgc.good.contains (1 - c) = false) ∧
    (∃ (s : State) (n c : Nat), s.turn n 0x40 ∧ (s.slot n).arg 0 1 = c ∧ c ≤ 1 ∧ (s.slot n).arg 8 2 ≠ 0 ∧ (s.slot n).arg 8 2
      ≤ 192 ∧ (s.slot n).zero 1 3 = true ∧ (s.slot n).zero 10 6 = true ∧ s.rgc.good.contains (1 - c) = true ∧ (s.slot n).arg
      4 4 + (s.slot n).arg 8 2 ≤ 0x800000 ∧ (s.slot n).first = true) ∧
    (∃ (s u : State) (n c : Nat) (k : Checked), s.turn n 0x41 ∧ (s.slot n).arg 0 1 = c ∧ c ≤ 1 ∧ (s.slotRunning n).checkCopy
      c (((s.slotRunning n).load c).elim ((s.slotRunning n).cfgBytes c 0 64) (·.head)) (s.slotRunning n).checkLife false =
      (u, k) ∧ k.cause ≠ 0) ∧
    (∃ (s u : State) (n c : Nat) (h : List Byte) (k : Checked), s.turn n 0x41 ∧ (s.slot n).arg 0 1 = c ∧ c ≤ 1 ∧ h =
      ((s.slotRunning n).load c).elim ((s.slotRunning n).cfgBytes c 0 64) (·.head) ∧ (s.slotRunning n).checkCopy c h
      (s.slotRunning n).checkLife false = (u, k) ∧ k.cause = 0) ∧
    (∃ (s : State) (n : Nat), s.turn n 0x42 ∧ (s.slot n).arg 0 1 ≤ 1 ∧ s.pwr.st ≠ .quiesced) ∧
    (∃ (s u : State) (n c : Nat) (k : Checked), s.turn n 0x42 ∧ (s.slot n).arg 0 1 = c ∧ c ≤ 1 ∧ s.pwr.st = .quiesced ∧
      (s.slotRunning n).checkCopy c ((s.slotRunning n).cfgBytes c 0 64) (s.slotRunning n).lifecycle false = (u, k) ∧ k.cause
      ≠ 0) ∧
    (∃ (s u v : State) (n c : Nat) (k : Checked), s.turn n 0x42 ∧ (s.slot n).arg 0 1 = c ∧ c ≤ 1 ∧ s.pwr.st = .quiesced ∧
      (s.slotRunning n).checkCopy c ((s.slotRunning n).cfgBytes c 0 64) (s.slotRunning n).lifecycle false = (u, k) ∧ k.cause
      = 0 ∧ u.applyImage c k true = v ∧ v.startOnly = u.startOnly ∧ sectValue k.sects 1 = some u.sup.supply) ∧
    (∃ (s u : State) (n c : Nat) (k : Checked), s.turn n 0x42 ∧ (s.slot n).arg 0 1 = c ∧ c ≤ 1 ∧ s.pwr.st = .quiesced ∧
      (s.slotRunning n).checkCopy c ((s.slotRunning n).cfgBytes c 0 64) (s.slotRunning n).lifecycle false = (u, k) ∧ k.cause
      = 0 ∧ ((u.applyImage c k true).startOnly ≠ u.startOnly ∨ sectValue k.sects 1 ≠ some u.sup.supply)) ∧
    (∃ (s : State) (n : Nat), s.turn n 0x48 ∧ (s.slot n).zero 0 4 = true ∧ (s.slot n).zero 10 6 = true ∧ 0 < (s.slot n).arg
      8 2 ∧ (s.slot n).arg 8 2 ≤ 192 ∧ (s.slot n).arg 4 4 + (s.slot n).arg 8 2 ≤ 0x400000 ∧ (s.slot n).first = true) ∧
    (∃ (s : State) (n : Nat), s.turn n 0x48 ∧ (s.slot n).zero 0 4 = true ∧ (s.slot n).zero 10 6 = true ∧ 0 < (s.slot n).arg
      8 2 ∧ (s.slot n).arg 8 2 ≤ 192 ∧ (s.slot n).arg 4 4 + (s.slot n).arg 8 2 > 0x400000) ∧
    (∃ (s u : State) (n c v : Nat), s.turn n 0x49 ∧ (s.slotRunning n).fwCheck (1 - s.efl.ptrBank) = (u, c, v) ∧ c ≠ 0) ∧
    (∃ (s u : State) (n v : Nat), s.turn n 0x49 ∧ (s.slotRunning n).fwCheck (1 - s.efl.ptrBank) = (u, 0, v)) ∧
    (∃ (s : State) (b v : _), s.rgc.ready = true ∧ s.rgc.confirmed = false ∧ s.rgc.fallback = some (b, v)) ∧
    (∃ (s : State), s.rgc.ready = true ∧ s.rgc.confirmed = false ∧ s.rgc.fallback = none) ∧
    (∃ (s : State), (s.rgc.ready = false ∨ s.rgc.confirmed = true)) :=
  ⟨⟨req 0 [0x00100040, 0, 0, 0, 2], 0, by unfold State.turn; decide +kernel, by decide +kernel⟩,
    ⟨req 0 [0x00D00040, 0, 0, 0, 1, 0, 192], 0, 1, by unfold State.turn; decide +kernel, by decide +kernel⟩,
    ⟨{ req 0 [0x00110240, 0, 0, 0, 0, 0x7FFFFF, 1] with rgc.good := [1] }, 0, 0,
      by unfold State.turn; decide +kernel, by decide +kernel⟩,
    ⟨req 0 [0x00010041, 0, 0, 0, 1],
      (((req 0 [0x00010041, 0, 0, 0, 1]).slotRunning 0).checkCopy 1 ((((req 0 [0x00010041, 0, 0, 0, 1]).slotRunning 0).load 1).elim (((req 0 [0x00010041, 0, 0, 0, 1]).slotRunning 0).cfgBytes 1 0 64) (·.head)) ((req 0 [0x00010041, 0, 0, 0, 1]).slotRunning 0).checkLife false).1,
      0, 1,
      (((req 0 [0x00010041, 0, 0, 0, 1]).slotRunning 0).checkCopy 1 ((((req 0 [0x00010041, 0, 0, 0, 1]).slotRunning 0).load 1).elim (((req 0 [0x00010041, 0, 0, 0, 1]).slotRunning 0).cfgBytes 1 0 64) (·.head)) ((req 0 [0x00010041, 0, 0, 0, 1]).slotRunning 0).checkLife false).2,
      by unfold State.turn; decide +kernel, by decide +kernel⟩,
    ⟨{ req 0 [0x00010041, 0, 0, 0, 1] with rgc.cfg := imgCfg },
      (((({ req 0 [0x00010041, 0, 0, 0, 1] with rgc.cfg := imgCfg })).slotRunning 0).imageKey false).1.kceCount 0, 0,
      1, ((({ req 0 [0x00010041, 0, 0, 0, 1] with rgc.cfg := imgCfg })).slotRunning 0).cfgBytes 1 0 64,
      { cause := 0, header := imgHead, sects := imgSects }, by unfold State.turn; decide +kernel, by decide +kernel,
      by decide +kernel, rfl, img_good rfl rfl (by decide +kernel) (by decide +kernel), by decide +kernel⟩,
    ⟨req 0 [0x00010042, 0, 0, 0, 1], 0, by unfold State.turn; decide +kernel, by decide +kernel⟩,
    ⟨{ req 0 [0x00010042, 0, 0, 0, 1] with pwr.st := .quiesced },
      ((({ req 0 [0x00010042, 0, 0, 0, 1] with pwr.st := .quiesced }).slotRunning 0).checkCopy 1 ((({ req 0 [0x00010042, 0, 0, 0, 1] with pwr.st := .quiesced }).slotRunning 0).cfgBytes 1 0 64) (({ req 0 [0x00010042, 0, 0, 0, 1] with pwr.st := .quiesced }).slotRunning 0).lifecycle false).1,
      0, 1,
      ((({ req 0 [0x00010042, 0, 0, 0, 1] with pwr.st := .quiesced }).slotRunning 0).checkCopy 1 ((({ req 0 [0x00010042, 0, 0, 0, 1] with pwr.st := .quiesced }).slotRunning 0).cfgBytes 1 0 64) (({ req 0 [0x00010042, 0, 0, 0, 1] with pwr.st := .quiesced }).slotRunning 0).lifecycle false).2,
      by unfold State.turn; decide +kernel, by decide +kernel⟩,
    ⟨reload (List.replicate 660 0xFF),
      ((((reload (List.replicate 660 0xFF))).slotRunning 0).imageKey false).1.kceCount 0,
      ((((((reload (List.replicate 660 0xFF))).slotRunning 0).imageKey false).1.kceCount 0)).applyImage 1 ({ cause := 0, header := imgHead, sects := imgSects }) true,
      0, 1, { cause := 0, header := imgHead, sects := imgSects }, by unfold State.turn; decide +kernel,
      by decide +kernel, by decide +kernel, by decide +kernel,
      img_good rfl rfl (by decide +kernel) (by decide +kernel), by decide +kernel, rfl, reload_start, by decide +kernel⟩,
    ⟨reload [], ((((reload [])).slotRunning 0).imageKey false).1.kceCount 0, 0, 1,
      { cause := 0, header := imgHead, sects := imgSects }, by unfold State.turn; decide +kernel, by decide +kernel,
      by decide +kernel, by decide +kernel, img_good rfl rfl (by decide +kernel) (by decide +kernel),
      by decide +kernel, .inr (by decide +kernel)⟩,
    ⟨req 0 [0x00110248, 0, 0, 0, 0, 0x3FFFFF, 1], 0, by unfold State.turn; decide +kernel, by decide +kernel⟩,
    ⟨req 0 [0x00110048, 0, 0, 0, 0, 0x400000, 1], 0, by unfold State.turn; decide +kernel, by decide +kernel⟩,
    ⟨req 0 [0x49], (((req 0 [0x49]).slotRunning 0).fwCheck 1).1, 0, (((req 0 [0x49]).slotRunning 0).fwCheck 1).2.1,
      (((req 0 [0x49]).slotRunning 0).fwCheck 1).2.2, by unfold State.turn; decide +kernel, by decide +kernel⟩,
    ⟨{ req 0 [0x49] with efl.words := fwPack, sec.keys := [(3, { bytes := List.replicate 16 0, verify := true })] },
      ((({ req 0 [0x49] with efl.words := fwPack, sec.keys := [(3, { bytes := List.replicate 16 0, verify := true })] }).slotRunning 0).fwCheck 1).1,
      0, 1, by unfold State.turn; decide +kernel, by decide +kernel⟩,
    ⟨{ live with rgc.fallback := some (1, 2) }, (1 : Nat), (2 : Nat), by decide +kernel⟩,
    ⟨live, by decide +kernel⟩,
    ⟨State.reset, by decide +kernel⟩⟩

/-- States and operands that meet the hypotheses of each clause of `Obligations.RegisterAccesses`. -/
theorem test_witness_RegisterAccesses :
    (∃ (s : State) (be : Nat), be % 16 ≠ 15 ∧ s.regsOpen 0 = true) ∧
    (∃ (s : State) (p be : Nat), p < 2 ∧ s.regsOpen 0 = true ∧ s.coreRuns = true ∧ (p = 0 → be % 16 = 15)) ∧
    (∃ (s : State), s.regsOpen 1 = true ∧ s.sec.level = 2) ∧
    (∃ (s : State) (a : Nat), s.regsOpen 1 = true ∧ s.sec.level = 0 ∧ secReg (canon a) = false) ∧
    (∃ (s : State), s.coreRuns = false) ∧
    (∃ (s : State), s.regsOpen 0 = true) ∧
    (∃ (a : Nat), iaddrReg (canon a) = false) ∧
    (∃ (s : State) (a : Nat), iaddrReg (canon a) = true ∧ s.regsOpen 0 = true) ∧
    (∃ (s : State) (w : Nat), w < 0x3C ∧ s.coreRuns = true) ∧
    (∃ (w : Nat), 0x3C ≤ w) :=
  ⟨⟨live, 14, by decide +kernel⟩,
    ⟨live, 1, 15, by decide +kernel⟩,
    ⟨{ live with sec.level := 2 }, by decide +kernel⟩,
    ⟨{ live with sec.level := 0 }, 0xC00008, by decide +kernel⟩,
    ⟨State.reset, by decide +kernel⟩,
    ⟨live, by decide +kernel⟩,
    ⟨0xC00070, by decide +kernel⟩,
    ⟨live, rEPO_IADDR, by decide +kernel⟩,
    ⟨live, 0x0C, by decide +kernel⟩,
    ⟨0x3C, by decide +kernel⟩⟩

/-- States and operands that meet the hypotheses of each clause of `Obligations.SnapCopiesCounters`. -/
theorem test_witness_SnapCopiesCounters :
    (∃ (s : State) (w a : Nat), (w < 0x10 ∨ 0x20 ≤ w) ∧ w ≠ 9 ∧ winOf a = w ∧ (Tab.wf (fun _ => (0 : W32)) s.sh = true) ∧
      (Tab.wf (fun _ => (0 : W32)) s.cnt = true)) ∧
    (∃ (w a : Nat), (w < 0x10 ∨ 0x20 ≤ w) ∧ w ≠ 9 ∧ winOf a ≠ w) :=
  ⟨⟨{ State.reset with cnt := [(0xC00080, 7)] }, 0x0C, 0xC00080, by decide +kernel⟩,
    ⟨0x0C, 0xB00080, by decide +kernel⟩⟩

/-- States and operands that meet the hypotheses of each clause of `Obligations.FlashCalls`. -/
theorem test_witness_FlashCalls :
    (∃ (a n : Nat), (a % 16 ≠ 0 ∨ a + 16 * n > 0x1800000)) ∧
    (∃ (s : State) (a : Nat), a % 16 = 0 ∧ a + 16 ≤ 0x1800000 ∧ s.efl.op0 = .none ∧ s.efl.op1 = .none ∧ s.efl.susp = none ∧
      s.efl.suspect = [] ∧ (Tab.get (fun _ => .erased) s.efl.words (a / 16) = .erased)) ∧
    (∃ (a : Nat), (a % 16 ≠ 0 ∨ a ≥ 0x1800000)) ∧
    (∃ (a : Nat), a % 16 = 0 ∧ a < 0x1800000 ∧ flashOwn (a / 4096) = true) ∧
    (∃ (s : State) (a : Nat), a % 16 = 0 ∧ a < 0x1800000 ∧ flashOwn (a / 4096) = false ∧ s.efl.op0 = .none ∧ s.efl.op1 =
      .none ∧ s.efl.suspect = [] ∧ (Tab.get (fun _ => .erased) s.efl.words (a / 16) = .erased)) ∧
    (∃ (a : Nat), (a % 4096 ≠ 0 ∨ a ≥ 0x1800000)) ∧
    (∃ (s : State) (a : Nat), a % 4096 = 0 ∧ a < 0x1800000 ∧ flashOwn (a / 4096) = false ∧ s.erasing = false ∧ s.programming
      (wordBank (a / 4096 * 256)) = false) ∧
    (∃ (s : State) (b w : Nat) (d : BitVec 128), s.fop b = .program w d) ∧
    (∃ (s u : State) (b sec : Nat), s.fop b = .erase sec ∧ u = (((s.setFop b .none).clearSector sec).bump
      rEFL_CNT_ERASE).journal sec 2) ∧
    (∃ (s : State) (b sec : Nat), s.fop b = .erase sec) ∧
    (∃ (s : State) (b : Nat), s.fop b = .none) ∧
    (∃ (s u : State) (sec : Nat), s.efl.susp = some sec ∧ s.fop (wordBank (sec * 256)) = .none ∧ u = s.setFop (wordBank (sec
      * 256)) (.erase sec)) ∧
    (∃ (s : State), s.efl.susp = none) :=
  ⟨⟨0x1800000, 1, by decide +kernel⟩,
    ⟨live, 0x17FFFF0, by decide +kernel⟩,
    ⟨0x1800000, by decide +kernel⟩,
    ⟨0x600000, by decide +kernel⟩,
    ⟨live, 0x5FFFF0, by decide +kernel⟩,
    ⟨1, by decide +kernel⟩,
    ⟨live, 0, by decide +kernel⟩,
    ⟨{ live with efl.op1 := .program 0xC0000 3 }, 1, 0xC0000, 3, by decide +kernel⟩,
    ⟨{ live with efl.op1 := .erase 3072 },
      ((((({ live with efl.op1 := .erase 3072 }).setFop 1 .none).clearSector 3072).bump rEFL_CNT_ERASE).journal 3072 2),
      1, 3072, by decide +kernel⟩,
    ⟨{ live with efl.op1 := .erase 3072 }, 1, 3072, by decide +kernel⟩,
    ⟨live, 0, by decide +kernel⟩,
    ⟨{ live with efl.susp := some 3072 },
      ({ live with efl.susp := some 3072 }).setFop (wordBank (3072 * 256)) (.erase 3072), 3072, by decide +kernel⟩,
    ⟨live, by decide +kernel⟩⟩

/-- States and operands that meet the hypotheses of each clause of `Obligations.Daybook`. -/
theorem test_witness_Daybook :
    (∃ (s : State), s.dbk.queue.length < 64) ∧
    (∃ (s : State), 64 ≤ s.dbk.queue.length) ∧
    (∃ (s u : State) (r : DRec) (l : List DRec), s.dbk.queue = r :: l ∧ s.efl.ready = true ∧ s.efl.op0 = .none ∧ s.efl.op1 =
      .none ∧ s.efl.susp = none ∧ s.efl.suspect = [] ∧ s.dbk.eraseNext = none ∧ s.dbk.dropped = 0 ∧ s.slotErasing s.dbk.head
      = false ∧ (u = s.progWords (slotWord s.dbk.head) ((List.range 4).map (fun i => wordOf (((recordBytes s.dbk.seq r).drop
      (16 * i)).take 16))))) ∧
    (∃ (s : State), s.dbk.queue = []) ∧
    (∃ (s u : State) (v : W32), s.dbkWin (s.fld fDBK_CURSOR_SLOT) 15 = (u, v) ∧ u.flag fDBK_CTRL_AUTO = true) ∧
    (∃ (s u : State) (v : W32), s.dbkWin (s.fld fDBK_CURSOR_SLOT) 15 = (u, v) ∧ u.flag fDBK_CTRL_AUTO = false) :=
  ⟨⟨{ live with dbk.queue := List.replicate 63 {} }, by decide +kernel⟩,
    ⟨{ live with dbk.queue := List.replicate 64 {} }, by decide +kernel⟩,
    ⟨{ live with dbk.queue := [{ code := 0x483 }], efl.ready := true },
      ({ live with dbk.queue := [{ code := 0x483 }], efl.ready := true }).progWords (slotWord 0) ((List.range 4).map (fun i => wordOf (((recordBytes 0 { code := 0x483 }).drop (16 * i)).take 16))),
      { code := 0x483 }, [], by decide +kernel, by decide +kernel, by decide +kernel, by decide +kernel,
      by decide +kernel, by decide +kernel, by decide +kernel, by decide +kernel, by decide +kernel, rfl⟩,
    ⟨live, by decide +kernel⟩,
    ⟨{ live with regs := [(0x600100, 1)] }, ({ live with regs := [(0x600100, 1)] }),
      (({ live with regs := [(0x600100, 1)] }).dbkWin (({ live with regs := [(0x600100, 1)] }).fld fDBK_CURSOR_SLOT) 15).2,
      by decide +kernel⟩,
    ⟨{ live with regs := [(0x600100, 2)] }, ({ live with regs := [(0x600100, 2)] }),
      (({ live with regs := [(0x600100, 2)] }).dbkWin (({ live with regs := [(0x600100, 2)] }).fld fDBK_CURSOR_SLOT) 15).2,
      by decide +kernel⟩⟩

/-- States and operands that meet the hypotheses of each clause of `Obligations.UnlockAndProvisioning`. -/
theorem test_witness_UnlockAndProvisioning :
    (∃ (s : State) (p k : Nat), s.regsOpen p = true ∧ s.chalRefused (k % 4) = true ∧ (s.setFld fSEC_UNLOCK_PURPOSE (k %
      4)).chalRefused (k % 4) = true) ∧
    (∃ (s u : State) (p k : Nat), s.regsOpen p = true ∧ u = s.setFld fSEC_UNLOCK_PURPOSE (k % 4) ∧ u.chalRefused (k % 4) =
      false) ∧
    (∃ (s : State) (p : Nat), s.regsOpen p = true ∧ s.sec.chal = none) ∧
    (∃ (s : State) (p : Nat) (b : List Nat) (k q a : Nat), s.regsOpen p = true ∧ s.sec.chal = some (b, k, q, a) ∧ a +
      10000000 ≤ s.timeUs) ∧
    (∃ (s u : State) (p : Nat) (b : List Nat) (k q a : Nat), s.regsOpen p = true ∧ s.sec.chal = some (b, k, q, a) ∧ s.timeUs
      < a + 10000000 ∧ s.cipherOn = true ∧ (u = { s with sec := { s.sec with chal := none, submitted := some (k, p) } })) ∧
    (∃ (s : State) (p : Nat), s.regsOpen p = true) ∧
    (∃ (s : State), s.coreRuns = false) ∧
    (∃ (s : State), s.regsOpen 0 = true ∧ s.sec.burning = none ∧ s.lifecycle ≠ 0) ∧
    (∃ (s : State), s.regsOpen 0 = true ∧ s.sec.burning = none ∧ s.lifecycle = 0 ∧ (s.sec.seed = none ∨ s.rgc.verifiedB =
      false)) ∧
    (∃ (s u : State) (v row : Nat), s.regsOpen 0 = true ∧ s.sec.burning = none ∧ s.lifecycle = 0 ∧ s.sec.seed ≠ none ∧
      s.rgc.verifiedB = true ∧ s.fwCheck (1 - s.efl.ptrBank) = (u, 0, v) ∧ u.sec.fuse.freeRow = some row) ∧
    (∃ (s : State), s.sec.burning = none) ∧
    (∃ (s u : State) (row : Nat), s.sec.burning = some row ∧ (u =
      { s with sec := { s.sec with burning := none, fuse := s.sec.fuse.burnRow row (s.sec.seed.getD []) false } })) ∧
    (∃ (s u v : State) (row : Nat), s.sec.burning = some row ∧ (u =
      { s with sec := { s.sec with burning := none, fuse := { s.sec.fuse.burnRow row (s.sec.seed.getD []) true with owned := some row } } })
      ∧ v = ((u.cfgErase 0).note 0x490 (words2 (s.sec.fuse.burnRow row (s.sec.seed.getD []) true).uid.toNat ++
      [row])).powerDown .off 9) :=
  ⟨⟨live, 0, 4, by decide +kernel⟩,
    ⟨live, (live).setFld fSEC_UNLOCK_PURPOSE 3, 0, 3, by decide +kernel⟩,
    ⟨live, 0, by decide +kernel⟩,
    ⟨{ live with sec.chal := some ([], 1, 0, 0), timeUs := 10000000 }, 0, [], 1, 0, 0, by decide +kernel⟩,
    ⟨{ live with sec.chal := some ([], 1, 0, 0), timeUs := 9999999 },
      { ({ live with sec.chal := some ([], 1, 0, 0), timeUs := 9999999 }) with sec := { ({ live with sec.chal := some ([], 1, 0, 0), timeUs := 9999999 }).sec with chal := none, submitted := some (1, 0) } },
      0, [], 1, 0, 0, by decide +kernel⟩,
    ⟨live, 2, by decide +kernel⟩,
    ⟨State.reset, by decide +kernel⟩,
    ⟨{ live with sec.fuse.owned := some 0 }, by decide +kernel⟩,
    ⟨live, by decide +kernel⟩,
    ⟨{ live with efl.words := fwPack, sec.keys := [(3, { bytes := List.replicate 16 0, verify := true })], sec.seed := some [], rgc.verifiedB := true },
      (({ live with efl.words := fwPack, sec.keys := [(3, { bytes := List.replicate 16 0, verify := true })], sec.seed := some [], rgc.verifiedB := true }).fwCheck 1).1,
      1, 0, by decide +kernel⟩,
    ⟨live, by decide +kernel⟩,
    ⟨{ live with sec.burning := some 1 },
      { ({ live with sec.burning := some 1 }) with sec := { ({ live with sec.burning := some 1 }).sec with burning := none, fuse := ({ live with sec.burning := some 1 }).sec.fuse.burnRow 1 [] false } },
      1, by decide +kernel⟩,
    ⟨{ live with sec.burning := some 1 },
      { ({ live with sec.burning := some 1 }) with sec := { ({ live with sec.burning := some 1 }).sec with burning := none, fuse := { ({ live with sec.burning := some 1 }).sec.fuse.burnRow 1 [] true with owned := some 1 } } },
      (((({ ({ live with sec.burning := some 1 }) with sec := { ({ live with sec.burning := some 1 }).sec with burning := none, fuse := { ({ live with sec.burning := some 1 }).sec.fuse.burnRow 1 [] true with owned := some 1 } } }).cfgErase 0).note 0x490 (words2 (({ live with sec.burning := some 1 }).sec.fuse.burnRow 1 [] true).uid.toNat ++ [1])).powerDown .off 9),
      1, by decide +kernel, by decide +kernel, rfl⟩⟩

/-- States and operands that meet the hypotheses of each clause of `Obligations.KeyEngine`. -/
theorem test_witness_KeyEngine :
    (∃ (s : State) (w slot use : Nat), (s.coreRuns = false ∨ 1 < w ∨ 31 < slot ∨ 2 < use)) ∧
    (∃ (s : State) (slot use : Nat) (msg : List Byte), s.coreRuns = true ∧ s.cipherOn = false ∧ slot ≤ 31 ∧ use ≤ 2 ∧
      msg.length ≤ 0x1000000) ∧
    (∃ (s : State) (slot use : Nat) (msg : List Byte), s.coreRuns = true ∧ s.cipherOn = true ∧ slot ≤ 31 ∧ use ≤ 2 ∧
      msg.length ≤ 0x1000000) ∧
    (∃ (s : State), 64 ≤ s.sec.kQueue.length) ∧
    (∃ (s : State), s.sec.kQueue = [] ∧ s.sec.kRun = none ∧ s.sec.kSusp = none ∧ s.sec.kWait = []) ∧
    (∃ (s : State) (q r : KReq), s.sec.kQueue = [] ∧ s.sec.kRun = some r ∧ s.sec.kWait = [] ∧ q.urgent = true ∧ r.urgent =
      false) ∧
    (∃ (s : State), s.sec.kRun = none) ∧
    (∃ (s u : State) (q : KReq) (r : Nat) (mac : List Byte), s.sec.kRun = some q ∧ q.who ≠ 2 ∧ kceResult (q.key.getD {})
      q.use q.msg q.mac = (r, mac) ∧ (u = { s with sec := { s.sec with kRun := none, kLast := (q.who, r, mac) } })) ∧
    (∃ (k : Key), k.bytes = []) ∧
    (∃ (k : Key), k.bytes ≠ [] ∧ k.verify = true) ∧
    (∃ (k : Key), k.bytes ≠ [] ∧ k.macOut = false) :=
  ⟨⟨live, 2, 0, 0, by decide +kernel⟩,
    ⟨{ live with pwr.st := .quiesced }, 31, 0, [], by decide +kernel⟩,
    ⟨live, 31, 2, [], by decide +kernel⟩,
    ⟨{ live with sec.kQueue := List.replicate 64 {} }, by decide +kernel⟩,
    ⟨live, by decide +kernel⟩,
    ⟨{ live with sec.kRun := some {} }, { urgent := true }, {}, by decide +kernel⟩,
    ⟨live, by decide +kernel⟩,
    ⟨{ live with sec.kRun := some {} },
      { ({ live with sec.kRun := some {} }) with sec := { ({ live with sec.kRun := some {} }).sec with kRun := none, kLast := (0, 2, []) } },
      {}, 2, [], by decide +kernel⟩,
    ⟨{}, by decide +kernel⟩,
    ⟨{ bytes := List.replicate 16 0, verify := true }, by decide +kernel⟩,
    ⟨{ bytes := List.replicate 16 0, verify := true }, by decide +kernel⟩⟩

/-- States and operands that meet the hypotheses of each clause of `Obligations.SidebandBus`. -/
theorem test_witness_SidebandBus :
    (∃ (s : State) (c : Nat), c < 4 ∧ s.coreRuns = true ∧ (s.sbCh c).st = 0) ∧
    (∃ (s : State) (c : Nat), c < 4 ∧ s.coreRuns = true ∧ (s.sbCh c).st = 5) ∧
    (∃ (s : State) (c : Nat), c < 4 ∧ s.coreRuns = true ∧ (s.sbCh c).st = 3) ∧
    (∃ (s u : State) (c : Nat) (x : SbTx), x.lost = 0 ∧ x.hang = false ∧ x.pecOk = true ∧ u = ((s.bumpFldN
      (fSBB_CH_CNT_ARB_LOST.plus (sbOff c)) 0).raiseN (sbSrc c 2) 0).emit (.sb c x.addr x.bytes) ∧ x.ack = false) ∧
    (∃ (s u : State) (c : Nat) (x : SbTx), x.lost = 0 ∧ x.hang = false ∧ x.pecOk = true ∧ u = ((s.bumpFldN
      (fSBB_CH_CNT_ARB_LOST.plus (sbOff c)) 0).raiseN (sbSrc c 2) 0).emit (.sb c x.addr x.bytes) ∧ x.ack = true) ∧
    (∃ (s : State) (c : Nat), c < 4 ∧ s.coreRuns = true ∧ (s.sbCh c).st = 1 ∧ (s.sbCh c).queue = []) ∧
    (∃ (s : State) (c : Nat), c < 4 ∧ s.coreRuns = true ∧ (s.sbCh c).st = 5 ∧ (s.sbCh c).queue = []) ∧
    (∃ (s : State) (c : Nat), c < 4 ∧ s.coreRuns = true ∧ (s.sbCh c).st = 1) ∧
    (∃ (s : State) (c : Nat), c < 4 ∧ s.coreRuns = true ∧ (s.sbCh c).st = 2) ∧
    (∃ (s : State) (c : Nat), c < 4 ∧ s.coreRuns = true ∧ (s.sbCh c).st = 2 ∧ s.flag (fSBB_CH_CFG_SOLE.plus (sbOff c)) =
      true ∧ s.flag (fSBB_CH_CFG_ATTN_EN.plus (sbOff c)) = true) ∧
    (∃ (s : State) (c : Nat), s.flag (fSBB_CH_CFG_SOLE.plus (sbOff c)) = false) ∧
    (∃ (s : State) (c : Nat), c < 4 ∧ (s.sbCh c).st = 3) ∧
    (∃ (s : State) (c : Nat), (s.sbCh c).st ≠ 3) ∧
    (∃ (s : State), s.sbtOn = true) ∧
    (∃ (s : State), s.sbtOn = false) ∧
    (∃ (s u : State), s.sbtOn = true ∧ u = (s.sbtByte.1).emit (.readData "SBT" s.sbtByte.2)) ∧
    (∃ (s : State), s.sbtOn = true) :=
  ⟨⟨live, 3, by decide +kernel⟩,
    ⟨{ live with sbb.chs := [(3, { st := 5 })] }, 3, by decide +kernel⟩,
    ⟨{ live with sbb.chs := [(3, { st := 3 })] }, 3, by decide +kernel⟩,
    ⟨{ live with sbb.chs := [(3, { st := 2 })] },
      (((({ live with sbb.chs := [(3, { st := 2 })] }).bumpFldN (fSBB_CH_CNT_ARB_LOST.plus (sbOff 3)) 0).raiseN (sbSrc 3 2) 0).emit (.sb 3 0 [])),
      3, { ack := false }, by decide +kernel⟩,
    ⟨{ live with sbb.chs := [(3, { st := 2 })] },
      (((({ live with sbb.chs := [(3, { st := 2 })] }).bumpFldN (fSBB_CH_CNT_ARB_LOST.plus (sbOff 3)) 0).raiseN (sbSrc 3 2) 0).emit (.sb 3 0 [])),
      3, {}, by decide +kernel⟩,
    ⟨{ live with sbb.chs := [(3, { st := 1 })] }, 3, by decide +kernel⟩,
    ⟨{ live with sbb.chs := [(3, { st := 5 })] }, 3, by decide +kernel⟩,
    ⟨{ live with sbb.chs := [(3, { st := 1 })] }, 3, by decide +kernel⟩,
    ⟨{ live with sbb.chs := [(3, { st := 2 })] }, 3, by decide +kernel⟩,
    ⟨{ live with regs := [(0x800160, 0x301)], sbb.chs := [(3, { st := 2 })] }, 3, by decide +kernel⟩,
    ⟨{ live with regs := [(0x800160, 1)] }, 3, by decide +kernel⟩,
    ⟨{ live with sbb.chs := [(3, { st := 3 })] }, 3, by decide +kernel⟩,
    ⟨live, 3, by decide +kernel⟩,
    ⟨live, by decide +kernel⟩,
    ⟨{ State.reset with cru.pinHeld := true }, by decide +kernel⟩,
    ⟨live, ((live).sbtByte.1).emit (.readData "SBT" (live).sbtByte.2), by decide +kernel⟩,
    ⟨live, by decide +kernel⟩⟩

/-- States and operands that meet the hypotheses of each clause of `Obligations.LaneAndBusTests`. -/
theorem test_witness_LaneAndBusTests :
    (∃ (s : State), s.regsOpen 0 = true) ∧
    (∃ (s : State), s.dbgOn = true ∧ s.sec.level ≠ 2) ∧
    (∃ (s : State) (p : Nat), s.laneFree p s.lsel = true ∧ (s.lane s.lsel).chk = 0) ∧
    (∃ (s u : State) (c : Nat), s.coreRuns = true ∧ u = (s.setFld fDFT_DRAM_CTRL_CH c).setFld fDFT_DRAM_CTRL_MODE 1 ∧ c < 16
      ∧ u.pwr.st = .quiesced ∧ u.dft.run = none ∧ (u.ch c).st = 3) ∧
    (∃ (s : State), s.dft.run = none) ∧
    (∃ (s : State) (c : Nat), s.dft.run = some (c, 2) ∧ (s.ch c).st ≠ 2) ∧
    (∃ (s : State), (State.dbgOn { s with dft := { s.dft with jtag := .dbgAccess } } = false)) ∧
    (∃ (s u : State), (u = { s with dft := { s.dft with jtag := .dbgAccess } }) ∧ u.dbgOn = true ∧ u.sec.level = 2) ∧
    (∃ (s : State) (n : Nat), n < 130 ∧ (s.lane n).chk ≠ 0 ∧ (s.lane n).lock = false ∧ bitOf s.cru.refOk (laneGroup n) =
      true) ∧
    (∃ (s : State) (n : Nat), (s.lane n).chk = 0) ∧
    (∃ (s : State) (n : Nat), n < 130 ∧ (s.lane n).lock = true) ∧
    (∃ (s : State), (Tab.wf (fun _ => ({} : DftLane)) s.dft.lanes = true)) ∧
    (∃ (s : State) (p v : Nat), ((s.laneSet p v).lane s.lsel).gen = (s.lane s.lsel).gen) ∧
    (∃ (s u : State) (p v : Nat), s.laneSet p v = u ∧ (u.lane s.lsel).gen ≠ (s.lane s.lsel).gen ∧ (u.lane s.lsel).gen = 7 ∧
      u.laneSends s.lsel = true ∧ s.lsel < 128) :=
  ⟨⟨live, by decide +kernel⟩,
    ⟨live, by decide +kernel⟩,
    ⟨live, 0, by decide +kernel⟩,
    ⟨{ chan { st := 3 } with pwr.st := .quiesced },
      (({ chan { st := 3 } with pwr.st := .quiesced }).setFld fDFT_DRAM_CTRL_CH 15).setFld fDFT_DRAM_CTRL_MODE 1, 15,
      by decide +kernel⟩,
    ⟨live, by decide +kernel⟩,
    ⟨{ chan { st := 3 } with dft.run := some (15, 2) }, 15, by decide +kernel⟩,
    ⟨State.reset, by decide +kernel⟩,
    ⟨{ live with sec.level := 2 },
      { ({ live with sec.level := 2 }) with dft := { ({ live with sec.level := 2 }).dft with jtag := .dbgAccess } },
      by decide +kernel⟩,
    ⟨{ live with cru.refOk := 15, dft.lanes := [(129, { chk := 1 })] }, 129, by decide +kernel⟩,
    ⟨live, 129, by decide +kernel⟩,
    ⟨{ live with dft.lanes := [(129, { chk := 1, lock := true })] }, 129, by decide +kernel⟩,
    ⟨State.reset, by decide +kernel⟩,
    ⟨live, 0, 0, by decide +kernel⟩,
    ⟨{ live with cru.refOk := 15 }, ({ live with cru.refOk := 15 }).laneSet 0 7, 0, 7, by decide +kernel⟩⟩

end Sys2Proof.Tests
end

section
/-! PROOF. Replays of a Tvedfy or twin link (R219, R221): a flit that leaves writes the header's and the FEC stream's
fields of its link alone, so the link's state and its replays in a row stand until a replay, an ACKSEQ or RECOVERY
writes them. -/

namespace Sys2Proof.Machine

/-! ### Reading a link back -/

/-- A link that differs from a link at reset is listed, so it reads back whatever the table held before. -/
theorem link_setTvl_same {s : State} {lk : Nat} {l : TvLink} (h : l ≠ {}) : (s.setTvl lk l).tvl_ lk = l := by
  simp only [State.tvl_, State.setTvl, Tab.set, if_neg h]
  exact Tab.get_put_same _ _ _ _

theorem link_congr {s t : State} (lk : Nat) (h : s.tvl = t.tvl) : s.tvl_ lk = t.tvl_ lk := by
  simp only [State.tvl_, h]

@[simp] theorem link_emit (s : State) (e : Emit) (lk : Nat) : (s.emit e).tvl_ lk = s.tvl_ lk := rfl

/-- What is done for a Tvedfy link alone leaves every link as it is when it leaves TVL's state so. -/
theorem link_tvOnly {s : State} {f : State → State} (lk k : Nat) (h : (f s).tvl = s.tvl) :
    (s.tvOnly lk f).tvl_ k = s.tvl_ k := by
  unfold State.tvOnly
  split
  · rfl
  · exact link_congr k h

/-! ### What a flit that leaves keeps -/

/-- The state of a link (R226) and its replays in a row (R221). -/
def TvLink.standing (l : TvLink) : Nat × Nat := (l.st, l.replays)

theorem TvLink.ne_default_of_standing {l : TvLink} (h : l.standing ≠ (0, 0)) : l ≠ {} :=
  fun e => h (congrArg TvLink.standing e)

theorem standing_setTvl {s : State} {lk : Nat} {l : TvLink} (h : l.standing ≠ (0, 0)) :
    ((s.setTvl lk l).tvl_ lk).standing = l.standing := by
  rw [link_setTvl_same (TvLink.ne_default_of_standing h)]

theorem standing_fecPut {s : State} {lk : Nat} (bits : List Bool) (h : (s.tvl_ lk).standing ≠ (0, 0)) :
    ((s.fecPut lk bits).tvl_ lk).standing = (s.tvl_ lk).standing := by
  unfold State.fecPut
  dsimp only
  split
  · exact standing_setTvl h
  · rw [link_emit]
    exact standing_setTvl h

theorem standing_putFlit {s : State} {lk : Nat} (f : Flit) (nak : Bool) (h : (s.tvl_ lk).standing ≠ (0, 0)) :
    ((s.putFlit lk f nak).tvl_ lk).standing = (s.tvl_ lk).standing := by
  have hset : ∀ n, ((s.setTvl lk { s.tvl_ lk with crTurn := n }).tvl_ lk).standing = (s.tvl_ lk).standing :=
    fun _ => standing_setTvl h
  unfold State.putFlit
  rw [standing_fecPut, link_emit, hset]
  rwa [link_emit, hset]

/-- Flits that leave again one by one keep the link's state and its count of replays. -/
theorem standing_foldl_putFlit {lk : Nat} (fs : List Flit) {s : State} (h : (s.tvl_ lk).standing ≠ (0, 0)) :
    ((fs.foldl (fun s f => s.putFlit lk f false) s).tvl_ lk).standing = (s.tvl_ lk).standing := by
  induction fs generalizing s with
  | nil => rfl
  | cons f fs ih =>
    have hput := standing_putFlit f false h
    rw [List.foldl_cons, ih (by rwa [hput]), hput]

theorem standing_resend {s : State} {lk : Nat} (h : (s.tvl_ lk).standing ≠ (0, 0)) :
    ((s.resend lk).tvl_ lk).standing = (s.tvl_ lk).standing :=
  standing_foldl_putFlit _ h

/-! ### RECOVERY, a replay, an ACKSEQ -/

/-- Entering RECOVERY sets the state and keeps the count (R226). -/
theorem standing_tvRecover (s : State) (lk : Nat) :
    ((s.tvRecover lk).tvl_ lk).standing = (5, (s.tvl_ lk).standing.2) := by
  have hset : ((s.setTvl lk { s.tvl_ lk with st := 5 }).tvl_ lk).standing = (5, (s.tvl_ lk).standing.2) :=
    standing_setTvl (by simp [TvLink.standing])
  unfold State.tvRecover State.idleFlit
  rw [link_tvOnly _ _ (by simp), standing_putFlit, hset]
  simp [hset]

/-- What a replay leaves (R219, R221): one more replay is counted, and the state stays unless it is the eighth. -/
theorem standing_tvReplay (s : State) (lk : Nat) :
    ((s.tvReplay lk).tvl_ lk).standing =
      (if 7 ≤ (s.tvl_ lk).replays then 5 else (s.tvl_ lk).st, (s.tvl_ lk).replays + 1) := by
  have hset : ((s.setTvl lk { s.tvl_ lk with replays := (s.tvl_ lk).replays + 1 }).tvl_ lk).standing =
      ((s.tvl_ lk).st, (s.tvl_ lk).replays + 1) := standing_setTvl (by simp [TvLink.standing])
  have hsent := standing_resend (lk := lk) (by rw [hset]; simp)
  rw [hset] at hsent
  unfold State.tvReplay
  dsimp only
  split
  · rw [standing_tvRecover, link_tvOnly _ _ (by simp), if_pos (by omega), hsent]
  · rw [link_tvOnly _ _ (by simp), if_neg (by omega), hsent]

/-- An ACKSEQ other than the last one, in the 12-bit ring, has advanced when it is not beyond what was sent (R219). -/
theorem seqBetween_of_ne {a b n : Nat} (ha : a < 4096) (hn : n < 4096) (hne : n ≠ a)
    (hle : (n + 4096 - a) % 4096 ≤ (b + 4096 - a) % 4096) : seqBetween a b n = true :=
  decide_eq_true ⟨by omega, hle⟩

/-- An ACKSEQ that advances on a link that is not DOWN is taken (R219). -/
theorem link_tvAck {s : State} {lk a : Nat} (hst : (s.tvl_ lk).st ≠ 0)
    (hadv : seqBetween (s.tvl_ lk).ackRx (s.tvl_ lk).fseq a = true) :
    (s.tvAck lk a).tvl_ lk = (s.tvl_ lk).acked a := by
  unfold State.tvAck
  rw [if_pos hadv]
  exact link_setTvl_same (fun e => hst (congrArg TvLink.st e))

/-! ### The limit -/

/-- Settles O7: from what a replay and an advancing ACKSEQ leave of the link. -/
theorem replayLimit : Obligations.ReplayLimit := by
  unfold Obligations.ReplayLimit
  refine ⟨fun s lk h7 => ?_, fun s lk h7 => ?_, fun s lk a ha hack hne hst hle => ?_⟩
  · have hst := congrArg Prod.fst (standing_tvReplay s lk)
    rwa [if_pos h7] at hst
  · have hr := standing_tvReplay s lk
    rw [if_neg (by omega)] at hr
    exact ⟨congrArg Prod.fst hr, congrArg Prod.snd hr⟩
  · rw [link_tvAck (by omega) (seqBetween_of_ne hack ha hne hle)]
    exact ⟨rfl, rfl⟩

end Sys2Proof.Machine
end

section
/-! PROOF. The mailbox (R419 to R427): what the requester reads and writes of a slot, the order in which slots are served,
their end, and IMAGE_FLOOR. -/

namespace Sys2Proof.Machine

/-! ### Reading a slot back -/

/-- A slot that is not FREE is listed, so it reads back whatever the table held before. -/
theorem slot_setSlot_same {s : State} {n : Nat} {x : MbSlot} (h : x.st ≠ 0) : (s.setSlot n x).slot n = x := by
  have hx : x ≠ {} := fun e => h (congrArg MbSlot.st e)
  simp only [State.slot, State.setSlot, Tab.set, if_neg hx]
  exact Tab.get_put_same _ _ _ _

theorem slot_setSlot_other {s : State} {n m : Nat} {x : MbSlot} (h : m ≠ n) : (s.setSlot n x).slot m = s.slot m := by
  simp only [State.slot, State.setSlot, Tab.set]
  split
  · exact Tab.get_del_other _ _ _ _ h
  · exact Tab.get_put_other _ _ _ _ _ h

theorem slot_congr {s t : State} (h : t.rgc.slots = s.rgc.slots) (n : Nat) : t.slot n = s.slot n := by
  simp only [State.slot, h]

/-! ### Doorbells -/

theorem does_mbDoorbell (n : Nat) (s : State) : Does (.mbDoorbell n) s (s.doorbell n) := rfl

/-- What the doorbell of a FREE or DONE slot does to the mailbox: the slot is QUEUED with its request as it stood, last in
doorbell order, its DONE bit clear; the other slots stay. -/
theorem doorbell_queues {s : State} {n : Nat} (hn : n < 16) (hst : (s.slot n).st = 0 ∨ (s.slot n).st = 3) :
    (s.doorbell n).slot n = { s.slot n with st := 1, result := 0, reason := 0, rlen := 0, out := none } ∧
      (s.doorbell n).rgc.queue = s.rgc.queue ++ [n] ∧ (s.doorbell n).rgc.done = s.rgc.done.erase n ∧
      ∀ m, m ≠ n → (s.doorbell n).slot m = s.slot m := by
  have hidle : ¬ ((s.slot n).st = 1 ∨ (s.slot n).st = 2) := by omega
  unfold State.doorbell
  dsimp only
  rw [if_neg (by omega), if_neg hidle]
  exact ⟨(slot_congr rfl n).trans (slot_setSlot_same Nat.one_ne_zero), rfl, rfl,
    fun m hm => (slot_congr rfl m).trans (slot_setSlot_other hm)⟩

theorem doorbell_rejected {s : State} {n : Nat} (hn : n < 16) (hst : (s.slot n).st = 1 ∨ (s.slot n).st = 2) :
    s.doorbell n = s.bumpFld fRGC_CNT_REJECT_DOORBELL := by
  unfold State.doorbell
  dsimp only
  rw [if_neg (by omega), if_pos hst]

/-! ### The requester's accesses to a slot's bytes -/

theorem slotPut_ignored {s : State} {a v : Nat}
    (h : (s.slot ((a - 0x701000) / 256)).st = 1 ∨ (s.slot ((a - 0x701000) / 256)).st = 2) : s.slotPut a v = s := by
  unfold State.slotPut
  exact if_pos (.inr h)

theorem slotPut_writes {s : State} {a v : Nat} (ha : a % 256 < 240) (h1 : (s.slot ((a - 0x701000) / 256)).st ≠ 1)
    (h2 : (s.slot ((a - 0x701000) / 256)).st ≠ 2) :
    s.slotPut a v = s.setSlot ((a - 0x701000) / 256) { s.slot ((a - 0x701000) / 256) with
      words := Tab.set (fun _ => (0 : W32)) (s.slot ((a - 0x701000) / 256)).words (a % 256 / 4) (BitVec.ofNat 32 v) } := by
  have hopen : ¬ (a % 256 / 4 ≥ 60 ∨ (s.slot ((a - 0x701000) / 256)).st = 1 ∨ (s.slot ((a - 0x701000) / 256)).st = 2) := by
    omega
  unfold State.slotPut
  exact if_neg hopen

theorem slotWord_request {s : State} {a : Nat} (ha : a % 256 < 240) :
    s.slotWord_ a = (Tab.get (fun _ => (0 : W32)) (s.slot ((a - 0x701000) / 256)).words (a % 256 / 4)).toNat := by
  unfold State.slotWord_
  exact if_pos (by omega)

/-- The word addresses of the slots lie in an assigned window and are in canonical form (R419, R493, R495). -/
theorem slotReg_canon {a : Nat} (h : slotReg a = true) (h4 : a % 4 = 0) : unmapped a = false ∧ canon a = a := by
  have hr : 0x701000 ≤ a ∧ a < 0x702000 := of_decide_eq_true h
  have hw : winOf a = 7 := by unfold winOf; omega
  unfold unmapped canon
  rw [hw]
  exact ⟨rfl, by omega⟩

theorem writeReg_slot {s : State} {a : Nat} (p v : Nat) (h : slotReg a = true) (h4 : a % 4 = 0) :
    s.writeReg p a v = s.slotPut a v := by
  obtain ⟨hmap, hcanon⟩ := slotReg_canon h h4
  unfold State.writeReg
  simp only [hmap, hcanon, h, Bool.false_eq_true, if_false, if_true]

theorem readReg_slot {s : State} {a : Nat} (p : Nat) (h : slotReg a = true) (h4 : a % 4 = 0) :
    s.readReg p a = (s, s.slotWord_ a) := by
  obtain ⟨hmap, hcanon⟩ := slotReg_canon h h4
  unfold State.readReg
  simp only [hmap, hcanon, h, Bool.false_eq_true, if_false, if_true]

/-! ### The order of service -/

/-- Whose turn it is (R420): a QUEUED slot, first in doorbell order among its kind, read services or the others; one of
the others waits while one of them runs. -/
theorem isNext_iff {s : State} {n : Nat} : s.isNext n = true ↔ (s.slot n).st = 1 ∧
    (s.rgc.queue.filter (fun k => (svcKind (s.slot k).svc == 1) == (svcKind (s.slot n).svc == 1))).head? = some n ∧
    (svcKind (s.slot n).svc = 1 ∨ ∀ k < 16, (s.slot k).st = 2 → svcKind (s.slot k).svc = 1) := by
  simp only [State.isNext, upTo, Bool.and_eq_true, Bool.or_eq_true, beq_iff_eq, List.all_eq_true, List.mem_range,
    bne_iff_ne, ne_eq, and_assoc, imp_iff_not_or]

theorem isNext_read {s : State} {n : Nat} (hk : svcKind (s.slot n).svc = 1) (h : s.isNext n = true) :
    (s.rgc.queue.filter (fun k => svcKind (s.slot k).svc == 1)).head? = some n := by
  obtain ⟨-, hhead, -⟩ := isNext_iff.mp h
  simpa [hk] using hhead

theorem isNext_alone {s : State} {n : Nat} (hk : svcKind (s.slot n).svc ≠ 1) (h : s.isNext n = true) :
    (s.rgc.queue.filter (fun k => !svcKind (s.slot k).svc == 1)).head? = some n ∧
      ∀ k < 16, (s.slot k).st = 2 → svcKind (s.slot k).svc = 1 := by
  obtain ⟨-, hhead, hrun⟩ := isNext_iff.mp h
  have hkind : (svcKind (s.slot n).svc == 1) = false := beq_false_of_ne hk
  exact ⟨by simpa only [hkind, beq_false] using hhead, hrun.resolve_left hk⟩

theorem serve_of_not_next {s : State} {n : Nat} (h : s.isNext n = false) (code : Nat)
    (run : MbSlot → State → State × Option SvcRes) : s.serve n code run = s := by
  unfold State.serve
  exact if_pos (.inr (.inr (.inl (by rw [h]; rfl))))

/-! ### The end of a service -/

/-- A slot with its result and response body, DONE (R420). -/
def MbSlot.answered (x : MbSlot) (r : Nat × Nat × List Byte) : MbSlot :=
  { x.put 16 (r.2.2.take 224) with st := 3, result := r.1, reason := r.2.1, rlen := (r.2.2.take 224).length, out := none }

/-- A response body that fits the slot is as long as RESPONSE_LENGTH says. -/
theorem MbSlot.rlen_answered {r : Nat × Nat × List Byte} (h : r.2.2.length ≤ 224) (x : MbSlot) :
    (x.answered r).rlen = r.2.2.length :=
  congrArg List.length (List.take_of_length_le h)

/-- The end of a slot's service before source 0x048 counts it (R420). -/
def State.slotEnded (s : State) (n : Nat) (r : Nat × Nat × List Byte) : State :=
  let u := s.setSlot n ((s.slot n).answered r)
  ({ u with rgc := { u.rgc with queue := u.rgc.queue.erase n, done := u.rgc.done.erase n ++ [n] } }).bump rRGC_CNT_SVC

theorem slotDone_eq (s : State) (n : Nat) (r : Nat × Nat × List Byte) :
    s.slotDone n r = (s.slotEnded n r).raise 0x048 := rfl

theorem slot_slotEnded_same (s : State) (n : Nat) (r : Nat × Nat × List Byte) :
    (s.slotEnded n r).slot n = (s.slot n).answered r :=
  (slot_congr rfl n).trans (slot_setSlot_same (Nat.succ_ne_zero 2))

theorem slot_slotEnded_other {s : State} {n m : Nat} {r : Nat × Nat × List Byte} (h : m ≠ n) :
    (s.slotEnded n r).slot m = s.slot m :=
  (slot_congr rfl m).trans (slot_setSlot_other h)

theorem mem_done_slotEnded (s : State) (n : Nat) (r : Nat × Nat × List Byte) : n ∈ (s.slotEnded n r).rgc.done :=
  List.mem_append_right _ (List.mem_singleton_self n)

theorem does_serviceComplete_result {s : State} {n : Nat} {r : Nat × Nat × List Byte} (hn : n < 16)
    (hst : (s.slot n).st = 2) (hout : (s.slot n).out = some r) : Does (.serviceComplete n) s (s.slotDone n r) := by
  change execServiceComplete n s = finish (s.slotDone n r)
  unfold execServiceComplete
  dsimp only
  rw [if_neg (by omega), if_pos hst, hout]

theorem does_serviceComplete_unknown {s : State} {n : Nat} (hn : n < 16) (hst : (s.slot n).st = 1)
    (hm : s.mailServes = true) (hnext : s.isNext n = true) (hu : (s.slot n).unknown = true) :
    Does (.serviceComplete n) s (s.slotDone n (7, 0, [])) := by
  change execServiceComplete n s = finish (s.slotDone n (7, 0, []))
  unfold execServiceComplete
  dsimp only
  rw [if_neg (by omega), if_neg (by omega), if_pos ⟨hm, hnext, hu⟩]

/-- Settles O9: each clause is the rule of the mailbox operation that it speaks of. -/
theorem mailboxSlots : Obligations.MailboxSlots := by
  unfold Obligations.MailboxSlots
  refine ⟨fun s n hn hst => ?_, fun s n hn hst => ?_, fun _ _ _ => slotPut_ignored, fun _ _ _ => slotPut_writes,
    fun s p a v hlo hhi h4 => ?_, fun _ _ => slotWord_request, fun _ _ => isNext_alone, fun _ _ => isNext_read,
    fun _ _ code f h => serve_of_not_next h code f, fun _ _ _ => does_serviceComplete_result,
    fun _ _ => does_serviceComplete_unknown, fun s n r hlen => ?_⟩
  · obtain ⟨hslot, hqueue, hdone, hother⟩ := doorbell_queues hn hst
    refine ⟨s.doorbell n, does_mbDoorbell n s, ?_, ?_, ?_, ?_, hqueue, hdone, hother⟩ <;> rw [hslot]
  · rw [← doorbell_rejected hn hst]
    exact does_mbDoorbell n s
  · have hreg : slotReg a = true := decide_eq_true ⟨hlo, hhi⟩
    exact ⟨writeReg_slot p v hreg h4, readReg_slot p hreg h4⟩
  · refine ⟨s.slotEnded n r, slotDone_eq s n r, ?_, ?_, ?_, ?_, mem_done_slotEnded s n r, fun _ => slot_slotEnded_other⟩ <;>
      rw [slot_slotEnded_same]
    exacts [rfl, rfl, rfl, MbSlot.rlen_answered hlen _]

/-! ### IMAGE_FLOOR -/

/-- What IMAGE_FLOOR of a slot whose turn it is comes to (R427). -/
theorem does_imageFloor {s u : State} {n : Nat} {r : SvcRes} (h : s.turn n 0x43)
    (hrun : (s.slotRunning n).doImageFloor (s.slot n) = (u, some r)) : Does (.imageFloor n) s (u.svcOut n r) := by
  change finish (s.serve n 0x43 fun x s => s.doImageFloor x) = finish (u.svcOut n r)
  rw [serve_turn h, hrun]

theorem doImageFloor_denied {s : State} {x : MbSlot}
    (h : x.arg 0 4 < s.rgc.floor ∨ numAt s.rgc.header 12 4 < x.arg 0 4) : s.doImageFloor x = (s, some svcDENIED) := by
  unfold State.doImageFloor
  exact if_pos h

theorem doImageFloor_raises {s : State} {x : MbSlot} (hlo : s.rgc.floor ≤ x.arg 0 4)
    (hhi : x.arg 0 4 ≤ numAt s.rgc.header 12 4) : s.doImageFloor x =
      (({ s with rgc := { s.rgc with floor := x.arg 0 4 } }).setting 0x0004 [x.arg 0 4], some svcOK) := by
  unfold State.doImageFloor
  exact if_neg (by omega)

/-- Settles O8: from what the service answers for a floor out of range and for one within. -/
theorem imageFloor : Obligations.ImageFloor := by
  unfold Obligations.ImageFloor
  intro s n f h hf
  subst hf
  exact ⟨fun hout => does_imageFloor h (doImageFloor_denied hout),
    fun hlo hhi => does_imageFloor h (doImageFloor_raises hlo hhi)⟩

end Sys2Proof.Machine
end

section
/-! PROOF. What every step keeps: each command goes by the law of its own meaning, the held part kept for those that
`writesHeld` does not list and the canonical form of every store for those that it lists; the tick goes by its parts. -/

namespace Sys2Proof.Machine

/-! ### Every command -/

/-- A command that `writesHeld` does not list answers a next state with the held part and the canonical stores kept. -/
theorem exec_keeps {K : Held} {c : Instr} {s : State} (hc : writesHeld c = false) (hs : Keeps K s) :
    ∃ u, exec c s = .next u ∧ Keeps K u := by
  cases c with
  | resetNRelease => exact execResetNRelease_keeps hs
  | cruWdtFeed => exact execCruWdtFeed_keeps hs
  | refClockRegained => exact execRefClockRegained_keeps hs
  | dmcPllUnlock => exact execDmcPllUnlock_keeps hs
  | dmcPllRelock => exact execDmcPllRelock_keeps hs
  | dmcPllRelockTimeout => exact execDmcPllRelockTimeout_keeps hs
  | xtalRestored => exact execXtalRestored_keeps hs
  | domainPgFail => exact execDomainPgFail_keeps hs
  | trimWindow => exact execTrimWindow_keeps hs
  | energyReconcile => exact execEnergyReconcile_keeps hs
  | energyCheckpoint => exact execEnergyCheckpoint_keeps hs
  | vaultEntryTimeout => exact execVaultEntryTimeout_keeps hs
  | governorSample => exact execGovernorSample_keeps hs
  | budgetWaitRelease => exact execBudgetWaitRelease_keeps hs
  | vaultAccept => exact execVaultAccept_keeps hs
  | load => exact execLoad_keeps hs
  | storeFull => exact execStoreFull_keeps hs
  | storeMasked => exact execStoreMasked_keeps hs
  | atomic => exact execAtomic_keeps hs
  | abandonAtomic => exact execAbandonAtomic_keeps hs
  | abandonClose => exact execAbandonClose_keeps hs
  | epochOpen => exact execEpochOpen_keeps hs
  | epochClose => exact execEpochClose_keeps hs
  | epochCommit => exact execEpochCommit_keeps hs
  | epochQueryState => exact execEpochQueryState_keeps hs
  | epochQueryLine => exact execEpochQueryLine_keeps hs
  | epochQueryReport => exact execEpochQueryReport_keeps hs
  | epochRelease => exact execEpochRelease_keeps hs
  | reportBuilt => exact execReportBuilt_keeps hs
  | mapOpen => exact execMapOpen_keeps hs
  | mapClose => exact execMapClose_keeps hs
  | mapCloseComplete => exact execMapCloseComplete_keeps hs
  | place => exact execPlace_keeps hs
  | pinPromotionRetry => exact execPinPromotionRetry_keeps hs
  | maintClean => exact execMaintClean_keeps hs
  | maintFlush => exact execMaintFlush_keeps hs
  | maintInvalidate => exact execMaintInvalidate_keeps hs
  | maintPromote => exact execMaintPromote_keeps hs
  | maintZero => exact execMaintZero_keeps hs
  | eventDone => exact execEventDone_keeps hs
  | tenantSet => exact execTenantSet_keeps hs
  | portBind => exact execPortBind_keeps hs
  | objCreate => exact execObjCreate_keeps hs
  | objResize => exact execObjResize_keeps hs
  | objPlace => exact execObjPlace_keeps hs
  | objDelete => exact execObjDelete_keeps hs
  | grantSet => exact execGrantSet_keeps hs
  | grantClear => exact execGrantClear_keeps hs
  | windowSet => exact execWindowSet_keeps hs
  | windowClear => exact execWindowClear_keeps hs
  | windowClearComplete => exact execWindowClearComplete_keeps hs
  | netHostSet => exact execNetHostSet_keeps hs
  | streamAbort => exact execStreamAbort_keeps hs
  | epochReportRead => exact execEpochReportRead_keeps hs
  | epochReportRelease => exact execEpochReportRelease_keeps hs
  | folioMaint => exact execFolioMaint_keeps hs
  | clrTen => exact execClrTen_keeps hs
  | fillInstall => exact execFillInstall_keeps hs
  | reshelveSelect => exact execReshelveSelect_keeps hs
  | evbSend => exact execEvbSend_keeps hs
  | victimWaitRelease => exact execVictimWaitRelease_keeps hs
  | hazardWaitRelease => exact execHazardWaitRelease_keeps hs
  | sweepVisit => exact execSweepVisit_keeps hs
  | fchDisable => exact execFchDisable_keeps hs
  | fchEnable => exact execFchEnable_keeps hs
  | fchModeTransitionDone => exact execFchModeTransitionDone_keeps hs
  | stkTrainAttempt => exact execStkTrainAttempt_keeps hs
  | cellReceive => exact execCellReceive_keeps hs
  | cellReplayTimeout => exact execCellReplayTimeout_keeps hs
  | tileReadResponse => exact execTileReadResponse_keeps hs
  | tileWriteResponse => exact execTileWriteResponse_keeps hs
  | tileTrimResponse => exact execTileTrimResponse_keeps hs
  | shelfSealResponse => exact execShelfSealResponse_keeps hs
  | statusResponse => exact execStatusResponse_keeps hs
  | vaultBeginResponse => exact execVaultBeginResponse_keeps hs
  | vaultBeginRetry => exact execVaultBeginRetry_keeps hs
  | heartbeat => exact execHeartbeat_keeps hs
  | stkRequestTimeout => exact execStkRequestTimeout_keeps hs
  | stkLinkLost => exact execStkLinkLost_keeps hs
  | stkRetrain => exact execStkRetrain_keeps hs
  | sledAdopt => exact execSledAdopt_keeps hs
  | refreshDue => exact execRefreshDue_keeps hs
  | scrubLine => exact execScrubLine_keeps hs
  | remapPersist => exact execRemapPersist_keeps hs
  | scrubNow => exact execScrubNow_keeps hs
  | lprBist => exact execLprBist_keeps hs
  | rawRead => exact execRawRead_keeps hs
  | rawWrite => exact execRawWrite_keeps hs
  | injectArm => exact execInjectArm_keeps hs
  | deviceDead => exact execDeviceDead_keeps hs
  | lineRemap => exact execLineRemap_keeps hs
  | tvlTrainAttempt => exact execTvlTrainAttempt_keeps hs
  | eqTimeout => exact execEqTimeout_keeps hs
  | alignDone => exact execAlignDone_keeps hs
  | alignTimeout => exact execAlignTimeout_keeps hs
  | configFlit => exact execConfigFlit_keeps hs
  | configTimeout => exact execConfigTimeout_keeps hs
  | flitReceive => exact execFlitReceive_keeps hs
  | replayTimeout => exact execReplayTimeout_keeps hs
  | flitLossTimeout => exact execFlitLossTimeout_keeps hs
  | recoveryRegained => exact execRecoveryRegained_keeps hs
  | recoveryTimeout => exact execRecoveryTimeout_keeps hs
  | partnerLoss => exact execPartnerLoss_keeps hs
  | lostIdleDone => exact execLostIdleDone_keeps hs
  | ethFrameReceive => exact execEthFrameReceive_keeps hs
  | pfcFrame => exact execPfcFrame_keeps hs
  | pfcPauseExpiry => exact execPfcPauseExpiry_keeps hs
  | pfcWatchdogTrigger => exact execPfcWatchdogTrigger_keeps hs
  | pfcWatchdogRecover => exact execPfcWatchdogRecover_keeps hs
  | ethPortDown => exact execEthPortDown_keeps hs
  | arpRequest => exact execArpRequest_keeps hs
  | neighborSolicit => exact execNeighborSolicit_keeps hs
  | icmpEcho => exact execIcmpEcho_keeps hs
  | gratuitousArpTimer => exact execGratuitousArpTimer_keeps hs
  | cmReq => exact execCmReq_keeps hs
  | cmRtu => exact execCmRtu_keeps hs
  | cmRtsTimeout => exact execCmRtsTimeout_keeps hs
  | cmDreq => exact execCmDreq_keeps hs
  | cmRej => exact execCmRej_keeps hs
  | rdmaWriteFirst => exact execRdmaWriteFirst_keeps hs
  | rdmaWriteMiddle => exact execRdmaWriteMiddle_keeps hs
  | rdmaWriteLast => exact execRdmaWriteLast_keeps hs
  | rdmaWriteLastImm => exact execRdmaWriteLastImm_keeps hs
  | rdmaWriteOnly => exact execRdmaWriteOnly_keeps hs
  | rdmaWriteOnlyImm => exact execRdmaWriteOnlyImm_keeps hs
  | rdmaReadRequest => exact execRdmaReadRequest_keeps hs
  | cmpSwap => exact execCmpSwap_keeps hs
  | fetchAdd => exact execFetchAdd_keeps hs
  | roceCmdClose => exact execRoceCmdClose_keeps hs
  | roceCmdQueryState => exact execRoceCmdQueryState_keeps hs
  | roceCmdQueryLine => exact execRoceCmdQueryLine_keeps hs
  | roceCmdQueryReport => exact execRoceCmdQueryReport_keeps hs
  | roceCmdRelease => exact execRoceCmdRelease_keeps hs
  | roceCmdNop => exact execRoceCmdNop_keeps hs
  | contextFetchDone => exact execContextFetchDone_keeps hs
  | qpStallRelease => exact execQpStallRelease_keeps hs
  | qpErrorFreeTimeout => exact execQpErrorFreeTimeout_keeps hs
  | cnpReceived => exact execCnpReceived_keeps hs
  | cirSchedLoad => exact execCirSchedLoad_keeps hs
  | cirSchedUnload => exact execCirSchedUnload_keeps hs
  | cirStreamSet => exact execCirStreamSet_keeps hs
  | cirStreamRetarget => exact execCirStreamRetarget_keeps hs
  | cirStreamStart => exact execCirStreamStart_keeps hs
  | cirStreamStop => exact execCirStreamStop_keeps hs
  | cirConsumerReq => exact execCirConsumerReq_keeps hs
  | tileFetchDone => exact execTileFetchDone_keeps hs
  | cirTileSend => exact execCirTileSend_keeps hs
  | cirTileAck => exact execCirTileAck_keeps hs
  | freedPoll => exact execFreedPoll_keeps hs
  | freedReadResponse => exact execFreedReadResponse_keeps hs
  | tickKeepalive => exact execTickKeepalive_keeps hs
  | lateWaitTimeout => exact execLateWaitTimeout_keeps hs
  | completionAck => exact execCompletionAck_keeps hs
  | cirQpError => exact execCirQpError_keeps hs
  | cirRateRecover => exact execCirRateRecover_keeps hs
  | twinLinkLost => exact execTwinLinkLost_keeps hs
  | wFull => exact execWFull_keeps hs
  | wMasked => exact execWMasked_keeps hs
  | wAtomic => exact execWAtomic_keeps hs
  | wZero => exact execWZero_keeps hs
  | twinEpochFrame => exact execTwinEpochFrame_keeps hs
  | twinSsnFrame => exact execTwinSsnFrame_keeps hs
  | twinServiceFrame => exact execTwinServiceFrame_keeps hs
  | twinFillFrame => exact execTwinFillFrame_keeps hs
  | rsLine => exact execRsLine_keeps hs
  | rsTrim => exact execRsTrim_keeps hs
  | rsState => exact execRsState_keeps hs
  | rsRegion => exact execRsRegion_keeps hs
  | rsEnd => exact execRsEnd_keeps hs
  | resyncRegionCopy => exact execResyncRegionCopy_keeps hs
  | applied => exact execApplied_keeps hs
  | result => exact execResult_keeps hs
  | digest => exact execDigest_keeps hs
  | digestTimeout => exact execDigestTimeout_keeps hs
  | twinStatus => exact execTwinStatus_keeps hs
  | statusTimer => exact execStatusTimer_keeps hs
  | fault => exact execFault_keeps hs
  | diverge => exact execDiverge_keeps hs
  | appliedStall => exact execAppliedStall_keeps hs
  | leaseTimer => exact execLeaseTimer_keeps hs
  | lease => exact execLease_keeps hs
  | leaseAck => exact execLeaseAck_keeps hs
  | leaseDrop => exact execLeaseDrop_keeps hs
  | leaseLapse => exact execLeaseLapse_keeps hs
  | leaseViewExpiry => exact execLeaseViewExpiry_keeps hs
  | fence => exact execFence_keeps hs
  | hello => exact execHello_keeps hs
  | join => exact execJoin_keeps hs
  | hbPulseOut => exact execHbPulseOut_keeps hs
  | hbPulseIn => exact execHbPulseIn_keeps hs
  | hbAbsent => exact execHbAbsent_keeps hs
  | claimTimer => exact execClaimTimer_keeps hs
  | bootTimeout => exact execBootTimeout_keeps hs
  | witnessRenewTimer => exact execWitnessRenewTimer_keeps hs
  | witnessRetry => exact execWitnessRetry_keeps hs
  | witnessGrant => exact execWitnessGrant_keeps hs
  | witnessDenyHeld => exact execWitnessDenyHeld_keeps hs
  | witnessDenyStale => exact execWitnessDenyStale_keeps hs
  | twinJoin => exact execTwinJoin_keeps hs
  | twinHandover => exact execTwinHandover_keeps hs
  | twinTakeover => exact execTwinTakeover_keeps hs
  | twinFence => exact execTwinFence_keeps hs
  | bufferAlloc => exact execBufferAlloc_keeps hs
  | bufferReturn => exact execBufferReturn_keeps hs
  | bufferWaitRetry => exact execBufferWaitRetry_keeps hs
  | intClaim => exact execIntClaim_keeps hs
  | intComplete => exact execIntComplete_keeps hs
  | intSwset => exact execIntSwset_keeps hs
  | mbDoorbell => exact execMbDoorbell_keeps hs
  | serviceComplete => exact execServiceComplete_keeps hs
  | ackRestart => exact execAckRestart_keeps hs
  | imageWrite => exact execImageWrite_keeps hs
  | imageFloor => exact execImageFloor_keeps hs
  | fwWrite => exact execFwWrite_keeps hs
  | fwConfirmTimer => exact execFwConfirmTimer_keeps hs
  | flashRead => exact execFlashRead_keeps hs
  | flashProgram => exact execFlashProgram_keeps hs
  | flashErase => exact execFlashErase_keeps hs
  | flashEraseDone => exact execFlashEraseDone_keeps hs
  | flashEraseResume => exact execFlashEraseResume_keeps hs
  | daybookRecord => exact execDaybookRecord_keeps hs
  | daybookProgram => exact execDaybookProgram_keeps hs
  | hoursCheckpoint => exact execHoursCheckpoint_keeps hs
  | dbkSeqLoRead => exact execDbkSeqLoRead_keeps hs
  | laneInject => exact execLaneInject_keeps hs
  | lprBistDone => exact execLprBistDone_keeps hs
  | flashProgramDone => exact execFlashProgramDone_keeps hs
  | msixControlWrite => exact execMsixControlWrite_keeps hs
  | cmMra _ _ q => exact execCmMra_keeps (q := q) hs
  | cirNak => exact execCirNak_keeps hs
  | cirRnrRetry => exact execCirRnrRetry_keeps hs
  | cirAckTimeout => exact execCirAckTimeout_keeps hs
  | _ => nomatch hc

/-- A command that `writesHeld` lists answers a next state with the queue as it was and every store canonical. -/
theorem exec_steady_of_writesHeld {Q : List Instr} {c : Instr} {s : State} (hc : writesHeld c = true) (hs : Steady Q s) :
    ∃ u, exec c s = .next u ∧ Steady Q u := by
  cases c with
  | coldReset => exact execColdReset_steady hs
  | vddAonLoss => exact execVddAonLoss_steady hs
  | resetNAssert => exact execResetNAssert_steady hs
  | startUp => exact execStartUp_steady hs
  | startStepDone => exact execStartStepDone_steady hs
  | watchdogExpiry => exact execWatchdogExpiry_steady hs
  | blockReset => exact execBlockReset_steady hs
  | refClockLost => exact execRefClockLost_steady hs
  | corePllUnlock => exact execCorePllUnlock_steady hs
  | xtalStopped => exact execXtalStopped_steady hs
  | onRequest => exact execOnRequest_steady hs
  | offRequest => exact execOffRequest_steady hs
  | railEnableTick => exact execRailEnableTick_steady hs
  | railPgRise => exact execRailPgRise_steady hs
  | railPgTimeout => exact execRailPgTimeout_steady hs
  | railPgDrop => exact execRailPgDrop_steady hs
  | railDisableTick => exact execRailDisableTick_steady hs
  | dischargeTimeout => exact execDischargeTimeout_steady hs
  | offWaitExpiry => exact execOffWaitExpiry_steady hs
  | vaultRestartTimer => exact execVaultRestartTimer_steady hs
  | buttonShortPress => exact execButtonShortPress_steady hs
  | buttonLongPress => exact execButtonLongPress_steady hs
  | buttonVeryLongPress => exact execButtonVeryLongPress_steady hs
  | vbtnShort => exact execVbtnShort_steady hs
  | vbtnLong => exact execVbtnLong_steady hs
  | vbtnVeryLong => exact execVbtnVeryLong_steady hs
  | monitorSample => exact execMonitorSample_steady hs
  | monitorRefCheck => exact execMonitorRefCheck_steady hs
  | marginGo => exact execMarginGo_steady hs
  | pwrStateService => exact execPwrStateService_steady hs
  | pwrStateQuiesce => exact execPwrStateQuiesce_steady hs
  | pwrStateStandby => exact execPwrStateStandby_steady hs
  | pwrStateOff => exact execPwrStateOff_steady hs
  | trimFchgTick => exact execTrimFchgTick_steady hs
  | holdupAlert => exact execHoldupAlert_steady hs
  | vaultFinish => exact execVaultFinish_steady hs
  | stkLinkTrained => exact execStkLinkTrained_steady hs
  | tempPollMr4 => exact execTempPollMr4_steady hs
  | tempPollSpd => exact execTempPollSpd_steady hs
  | parityAlert => exact execParityAlert_steady hs
  | parityAlertTimeout => exact execParityAlertTimeout_steady hs
  | retrainPause => exact execRetrainPause_steady hs
  | retrainNow => exact execRetrainNow_steady hs
  | fchg => exact execFchg_steady hs
  | fchgComplete => exact execFchgComplete_steady hs
  | equalisationDone => exact execEqualisationDone_steady hs
  | tvlDisable => exact execTvlDisable_steady hs
  | tvlRetrain => exact execTvlRetrain_steady hs
  | ethPortUp => exact execEthPortUp_steady hs
  | intSrcWrite => exact execIntSrcWrite_steady hs
  | imageVerify => exact execImageVerify_steady hs
  | imageReload => exact execImageReload_steady hs
  | fwActivate => exact execFwActivate_steady hs
  | registerWrite => exact execRegisterWrite_steady hs
  | unmappedAccess => exact execUnmappedAccess_steady hs
  | idataAccess => exact execIdataAccess_steady hs
  | counterSnap => exact execCounterSnap_steady hs
  | dbkWin15Read => exact execDbkWin15Read_steady hs
  | unlockChallenge => exact execUnlockChallenge_steady hs
  | unlockSubmit => exact execUnlockSubmit_steady hs
  | unlockRelock => exact execUnlockRelock_steady hs
  | challengeExpiry => exact execChallengeExpiry_steady hs
  | provisionCommit => exact execProvisionCommit_steady hs
  | fuseBurnDone => exact execFuseBurnDone_steady hs
  | kceRequest => exact execKceRequest_steady hs
  | kceRequestDone => exact execKceRequestDone_steady hs
  | sbTransaction => exact execSbTransaction_steady hs
  | sbIdleCheck => exact execSbIdleCheck_steady hs
  | sbStuckRetry => exact execSbStuckRetry_steady hs
  | sbAttention => exact execSbAttention_steady hs
  | sbTimeout => exact execSbTimeout_steady hs
  | sbtWrite => exact execSbtWrite_steady hs
  | sbtRead => exact execSbtRead_steady hs
  | sbtSclTimeout => exact execSbtSclTimeout_steady hs
  | laneTestSet => exact execLaneTestSet_steady hs
  | dftClr => exact execDftClr_steady hs
  | dramBusTest => exact execDramBusTest_steady hs
  | dramBusTestDone => exact execDramBusTestDone_steady hs
  | jtagInstruction => exact execJtagInstruction_steady hs
  | dbgAccess => exact execDbgAccess_steady hs
  | alertNHigh => exact execAlertNHigh_steady hs
  | railPgFall => exact execRailPgFall_steady hs
  | checkerLock => exact execCheckerLock_steady hs
  | checkerLockLoss => exact execCheckerLockLoss_steady hs
  | _ => nomatch hc

theorem exec_steady {Q : List Instr} (c : Instr) {s : State} (hs : Steady Q s) : ∃ u, exec c s = .next u ∧ Steady Q u := by
  cases hc : writesHeld c with
  | true => exact exec_steady_of_writesHeld hc hs
  | false =>
    obtain ⟨u, hu, hk⟩ := exec_keeps (K := s.held) hc ⟨rfl, hs.2.1⟩
    exact ⟨u, hu, Steady.of (fun _ => hk) hs⟩

/-! ### The tick -/

/-- Repairing the shelf table drops lines from DRAM and writes nothing else (R50). -/
theorem shelfRepair_keeps {K : Held} {s : State} (hs : Keeps K s) : Keeps K s.shelfRepair :=
  ite_keeps (dramFilter_keeps hs) hs

theorem dmcTick_steady {Q : List Instr} {s : State} (hs : Steady Q s) : Steady Q s.dmcTick := by
  unfold State.dmcTick
  extract_lets s1 _ s2
  have hreplay : Steady Q s1 :=
    foldl_steady (fun _ _ hs => ite_steady (State.replayDone_steady hs) hs) hs
  clear_value s1
  have hissuing : Steady Q s2 := lpr_steady hreplay rfl
  exact ite_steady hreplay (Steady.of State.dmcIssue_keeps hissuing)

/-- What time does to the flash runs calls that waited and feeds the watchdog (R435, R439). -/
theorem flashTick_keeps {K : Held} {s : State} (hs : Keeps K s) : Keeps K s.flashTick := by
  have hrun : Keeps K (if !s.efl.waits.isEmpty ∧ s.timeUs = s.efl.holdTill then s.flashRelease else s) :=
    ite_keeps (State.flashRelease_keeps hs) hs
  unfold State.flashTick
  exact ite_keeps (State.feed_keeps hrun) hrun

theorem stkBeat_keeps {K : Held} {s : State} {n : Nat} (hs : Keeps K s) : Keeps K (s.stkBeat n) :=
  ite_keeps (State.stkCells_keeps (State.setLink_keeps hs)) hs

theorem clockTick_steady {Q : List Instr} {s : State} (hs : Steady Q s) : Steady Q (clockTick s) := by
  have hflash : Steady Q ({ s with timeUs := s.timeUs + 1 } : State).shelfRepair.dmcTick.flashTick :=
    Steady.of flashTick_keeps (dmcTick_steady (Steady.of shelfRepair_keeps (timeUs_steady hs)))
  unfold clockTick
  extract_lets s0 s1
  have hbeats : Steady Q s1 :=
    ite_steady (Steady.of (foldl_keeps fun _ _ => stkBeat_keeps) hflash) hflash
  exact ite_steady (Steady.of settle_keeps (State.vaultTo_steady hbeats)) hbeats

/-! ### The statements about every step -/

/-- Settles O5: by the law of each command that `writesHeld` does not list. -/
theorem trafficLeavesTheHeldPart : Obligations.TrafficLeavesTheHeldPart := by
  unfold Obligations.TrafficLeavesTheHeldPart
  intro c s hc hw
  exact exec_keeps hc ⟨rfl, hw⟩

/-- Settles O4: a step of any command keeps the queue it was given and the canonical form. -/
theorem everyCommandAnswersANextState : Obligations.EveryCommandAnswersANextState := by
  unfold Obligations.EveryCommandAnswersANextState
  intro c s hs
  obtain ⟨t, ht, hq, hcanon⟩ := exec_steady c ⟨rfl, hs⟩
  exact ⟨t, ht, hcanon, hq⟩

/-- Settles O3: a step is a command on the state with the queue's rest, or a tick. -/
theorem everyStepKeepsTheCanonicalForm : Obligations.EveryStepKeepsTheCanonicalForm := by
  unfold Obligations.EveryStepKeepsTheCanonicalForm
  intro s t hs ht
  unfold step at ht
  split at ht
  · rw [← Host.Outcome.next.inj ht]
    exact (clockTick_steady ⟨rfl, hs⟩).2
  · rename_i c rest _
    obtain ⟨u, hu, _, hcanon⟩ := exec_steady (Q := rest) (s := { s with pending := rest }) c ⟨rfl, hs⟩
    rwa [← Host.Outcome.next.inj (hu.symm.trans ht)]

/-! ### A tick during an erase -/

/-- An erase runs that has lasted 10 ms since the watchdog was last fed. -/
def erasing10ms : State :=
  { State.reset with timeUs := 10000, efl := { State.reset.efl with op0 := .erase 0 } }

/-- Refutes O1: the tick of a microsecond also does what time does to the flash (R435, R439), which the statement leaves
out; an erase that has run 10 ms has the watchdog fed. -/
theorem not_stepTakesTheFrontCommand : ¬ Obligations.StepTakesTheFrontCommand := by
  unfold Obligations.StepTakesTheFrontCommand
  rintro ⟨_, _, htick⟩
  have hstep := (htick erasing10ms _ _ rfl rfl rfl).1 (.inl (by decide +kernel))
  have hfed : (idle erasing10ms).cru.fedAt = 10001 := by decide +kernel
  injection hstep with hstate
  rw [show idle erasing10ms = _ from hstate] at hfed
  exact absurd hfed (by decide +kernel)

end Sys2Proof.Machine
end

section
/-! PROOF. The state after reset, and resets and starts (R396 to R406). -/

namespace Sys2Proof.Machine

/-! ### What a command does -/

/-- A meaning that ends in `u` does what takes the state to `u`. -/
theorem Does.of_eq {c : Instr} {s t u : State} (h : exec c s = finish u) (e : u = t) : Does c s t := e ▸ h

/-! ### The state after reset -/

/-- Settles O2: every field is at the value that its definition gives, and an unlisted address reads as its default. -/
theorem resetState : Obligations.ResetState := by
  unfold Obligations.ResetState Canon
  exact ⟨⟨rfl, rfl, rfl, rfl⟩, rfl, fun _ => rfl, fun _ => rfl, fun _ => rfl, rfl, rfl, rfl, rfl, fun _ => rfl,
    fun _ => rfl, fun _ => rfl, fun _ => rfl, fun _ => rfl, fun _ => rfl⟩

/-! ### The supervisor reads SUPPLY (R371) -/

section
variable {γ : Type} (p : State → γ)

theorem putImage_proj (hreg : ∀ s a v, p (s.setReg a v) = p s) (s : State) (a v : Nat) : p (s.putImage a v) = p s := by
  unfold State.putImage
  split
  · exact hreg _ _ _
  · rfl

/-- SUPPLY is written to registers and to the supervisor's copy of it. -/
theorem putSupply_proj (hreg : ∀ s a v, p (s.setReg a v) = p s)
    (hsup : ∀ s v b x, p { s with sup := { s.sup with supply := v, bank := b, supplyBad := x } } = p s) (s : State)
    (v : List Byte) : p (s.putSupply v) = p s := by
  unfold State.putSupply
  dsimp only
  rw [hsup, foldl_proj p _ fun _ _ => by simp only [putImage_proj p hreg],
    foldl_proj p _ fun _ _ => by simp only [putImage_proj p hreg], putImage_proj p hreg, putImage_proj p hreg]

/-- What neither registers, the supervisor's copy of SUPPLY nor records belong to is left by reading SUPPLY. -/
theorem readSupply_proj (hreg : ∀ s a v, p (s.setReg a v) = p s) (hnote : ∀ s c w, p (s.note c w) = p s)
    (hsup : ∀ s v b x, p { s with sup := { s.sup with supply := v, bank := b, supplyBad := x } } = p s) (s : State) :
    p s.readSupply = p s := by
  unfold State.readSupply
  dsimp only
  split
  · rw [putSupply_proj p hreg hsup, foldl_proj p _ fun _ _ => hnote _ _ _]
  · exact (hsup _ _ _ _).trans (foldl_proj p _ (fun _ _ => hnote _ _ _) _ _)

end

theorem readSupply_rest (s : State) :
    s.readSupply.pwr = s.pwr ∧ s.readSupply.sh = s.sh ∧ s.readSupply.ports = s.ports ∧ s.readSupply.fch = s.fch ∧
    s.readSupply.epo = s.epo ∧ s.readSupply.sec = s.sec := by
  refine ⟨?_, ?_, ?_, ?_, ?_, ?_⟩ <;> exact readSupply_proj _ (fun _ _ _ => by simp) (fun _ _ _ => by simp) (fun _ _ _ _ => rfl) s

theorem readSupply_sup (s : State) :
    s.readSupply.sup.seq = s.sup.seq ∧ s.readSupply.sup.rails = s.sup.rails ∧ s.readSupply.sup.aon = s.sup.aon := by
  refine ⟨?_, ?_, ?_⟩
  · exact readSupply_proj (fun u => u.sup.seq) (fun _ _ _ => rfl) (fun _ _ _ => by simp) (fun _ _ _ _ => rfl) s
  · exact readSupply_proj (fun u => u.sup.rails) (fun _ _ _ => rfl) (fun _ _ _ => by simp) (fun _ _ _ _ => rfl) s
  · exact readSupply_proj (fun u => u.sup.aon) (fun _ _ _ => rfl) (fun _ _ _ => by simp) (fun _ _ _ _ => rfl) s

/-! ### COLD_RESET, VDD_AON_LOSS and RESET_N -/

/-- RESET_N asserted in Operating starts a Pin reset (R397). -/
theorem does_resetNAssert_reset {s : State} (haon : s.sup.aon = true) (hpin : s.cru.pinHeld = false)
    (hph : s.rsv.ph = .off) (hseq : s.sup.seq = 2) :
    Does .resetNAssert s { s.pinReset 1 with cru := { (s.pinReset 1).cru with pinHeld := true } } := by
  refine Does.of_eq rfl ?_
  rw [if_neg (by simp [haon, hpin]), if_neg (by simp [hph, hseq]), if_neg (by simp [hseq])]

/-- Settles O10: each clause is a branch of the command's meaning. -/
theorem resetCommands : Obligations.ResetCommands := by
  unfold Obligations.ResetCommands
  refine ⟨fun s hoff => ?_, fun s hon => Does.of_eq rfl (if_pos hon), fun s => ?_, fun s haon hpin hph hseq => ?_,
    fun s haon hpin hign => ?_, fun s hpin => Does.of_eq rfl (if_pos hpin)⟩
  · refine ⟨s.coldReset.readSupply, Does.of_eq rfl (if_neg (by simp [hoff])), ?_⟩
    simp only [readSupply_rest, readSupply_sup]
    exact ⟨rfl, rfl, rfl, rfl, rfl, rfl, rfl, rfl⟩
  · exact ⟨_, rfl, rfl, rfl, rfl, rfl, rfl, rfl⟩
  · obtain ⟨hiaddr, hports, hsup, _, hdue, hnext, _⟩ := pinReset_facts s 1
    exact ⟨_, does_resetNAssert_reset haon hpin hph hseq, rfl, hdue, hnext, hports, hiaddr, hsup⟩
  · refine Does.of_eq rfl ?_
    rw [if_neg (by simp [haon, hpin]), if_pos hign, State.pinIgnored]

/-! ### Starts (R402 to R404) -/

/-- The step in progress of a start that nothing holds. -/
def State.stepping (s : State) : Prop :=
  s.pwr.st = .starting ∧ s.cru.failed = false ∧ s.cru.pinHeld = false ∧ s.cru.xtalHeld = false

theorem startStep_of_cause {s : State} {cause : Nat} {r : StartRep} (h : s.stepping) (hc : cause ≠ 0) :
    s.startStep cause r = s.startFail cause := by
  obtain ⟨hst, hf, hp, hx⟩ := h
  unfold State.startStep
  rw [if_neg (by simp [hst, hf, hp, hx]), if_pos hc]

theorem startStep_two {s : State} {r : StartRep} (h : s.stepping) (hk : s.cru.step = 2) :
    s.startStep 0 r = s.startStep2.stepNext := by
  obtain ⟨hst, hf, hp, hx⟩ := h
  unfold State.startStep
  rw [if_neg (by simp [hst, hf, hp, hx]), if_neg (by decide)]
  simp only [hk, reduceIte, OfNat.ofNat_ne_one]

theorem startStep_eleven {s : State} {r : StartRep} (h : s.stepping) (hk : s.cru.step = 11) :
    s.startStep 0 r = s.startStep11 := by
  obtain ⟨hst, hf, hp, hx⟩ := h
  unfold State.startStep
  rw [if_neg (by simp [hst, hf, hp, hx]), if_neg (by decide)]
  simp only [hk]
  rfl

/-- What step 2 leaves of CRU and of the straps (R402). -/
theorem startStep2_facts (s : State) :
    s.startStep2.cru.step = s.cru.step ∧ s.startStep2.cru.pllLock = 31 ∧ s.startStep2.cru.fedAt = s.timeUs ∧
    s.startStep2.top.bootSel = s.top.bootPins ∧ s.startStep2.top.vio33 = s.top.vioPin := by
  unfold State.startStep2
  dsimp only
  split <;> simp

/-- What step 11 leaves (R402): Service, ALIVE, and how long the start took. -/
theorem startStep11_facts (s : State) :
    s.startStep11.pwr.st = .service ∧ s.startStep11.cru.alive = true ∧
    s.startStep11.cru.startMs = (s.timeUs - s.dbk.startAt) / 1000 % 65536 := by
  unfold State.startStep11
  simp

/-- What the beginning of a start leaves of CRU (R402). -/
theorem startBegin_facts (s : State) (kept : Bool) :
    (s.startBegin kept).cru.step = 1 ∧ (s.startBegin kept).cru.kind = s.cru.next ∧
    (s.startBegin kept).cru.startDue = false ∧ (s.startBegin kept).cru.failed = false ∧
    (s.startBegin kept).cru.next = 4 ∧ (s.startBegin kept).pwr.st = .starting ∧ (s.startBegin kept).cru.kept = kept := by
  unfold State.startBegin
  simp

/-! ### The watchdog and Block resets (R400, R401) -/

/-- The third expiry within 60 s halts the registrar (R401). -/
theorem watchdog_halts {s : State}
    (h : 2 ≤ (s.cru.expiries.filter (fun t => decide (s.timeUs < t + 60000000))).length) :
    s.watchdog.rgc.halted = true ∧ 0 ∈ s.watchdog.cru.fatal := by
  unfold State.watchdog
  dsimp only
  rw [if_pos (by simpa using h)]
  simp only [raise_rest, fatal_rest, true_and]
  exact fatal_mem _ _

/-- Settles O11: from what the beginning of a start, its steps 2 and 11, an expiry and a Block reset leave. -/
theorem startAndWatchdog : Obligations.StartAndWatchdog := by
  unfold Obligations.StartAndWatchdog
  refine ⟨fun s dimm hdue hpin hxtal hseq => ?_, fun s cause r hst hf hp hx hc => ?_, fun s r hst hf hp hx hk => ?_,
    fun s r hst hf hp hx hk => ?_, fun s hrun hhalt h2 => ?_, fun s value hv => ?_, fun s path value hno => ?_,
    fun s block hrun hb => ?_, fun s block hrun hlo hhi => ?_⟩
  · exact ⟨_, Does.of_eq rfl (if_pos ⟨hdue, by simp [hpin], by simp [hxtal], hseq⟩), startBegin_facts s _⟩
  · exact Does.of_eq rfl (startStep_of_cause ⟨hst, hf, hp, hx⟩ hc)
  · obtain ⟨hstep, hrest⟩ := startStep2_facts s
    exact ⟨_, Does.of_eq rfl (startStep_two ⟨hst, hf, hp, hx⟩ hk), by simp [State.stepNext, hstep, hk], hrest⟩
  · exact ⟨_, Does.of_eq rfl (startStep_eleven ⟨hst, hf, hp, hx⟩ hk), startStep11_facts s⟩
  · exact ⟨_, Does.of_eq rfl (if_pos (by simp [hrun, hhalt])), watchdog_halts h2⟩
  · exact Does.of_eq rfl (if_pos ⟨rfl, hv⟩)
  · exact Does.of_eq rfl (if_neg (by omega))
  · refine Does.of_eq rfl ?_
    unfold State.brstGo
    dsimp only
    rw [if_neg (by simp [hrun]), Nat.mod_eq_of_lt (by omega), if_pos hb]
  · refine Does.of_eq rfl ?_
    unfold State.brstGo
    dsimp only
    rw [if_neg (by simp [hrun]), Nat.mod_eq_of_lt hhi, if_neg (by omega)]

end Sys2Proof.Machine
end

section
/-! PROOF. Clocks, rails, requests and buttons, monitors (R371 to R385, R395). -/

namespace Sys2Proof.Machine

/-! ### Clocks (R395) -/

theorem foldl_ite_false {s : State} {p : State → Nat → Prop} [∀ s e, Decidable (p s e)] {f : State → Nat → State}
    (l : List Nat) (h : ∀ e ∈ l, ¬ p s e) : l.foldl (fun s e => if p s e then f s e else s) s = s := by
  induction l with
  | nil => rfl
  | cons e l ih =>
    rw [List.foldl_cons, if_neg (h e List.mem_cons_self)]
    exact ih fun e he => h e (List.mem_cons_of_mem _ he)

theorem unlockLanes_eth (s : State) (g : Nat) : (s.unlockLanes g).eth = s.eth :=
  foldl_proj (fun u => u.eth) (fun s (e : Nat × DftLane) => s.setLane e.1 { s.lane e.1 with lock := false }) (fun _ _ => rfl) _ s

/-- The loss of an Ethernet reference with no port up stops its lanes and no port (R395). -/
theorem does_refClockLost_noPortUp {s : State} (href : bitOf s.cru.refOk 1 = true)
    (hdown : ∀ e < 32, (s.ethPort e).up = false) :
    Does (.refClockLost 1) s
      ((((({ s with cru := { s.cru with refOk := s.cru.refOk - 2 } }).bump rCRU_CNT_REFLOSS).clockNote 1 false).unlockLanes 1).emit
        (.lanesStop 1)) := by
  refine Does.of_eq rfl ?_
  rw [if_neg (by simp [href]), if_pos rfl]
  refine foldl_ite_false _ fun e he => ?_
  have hport := hdown e (by simpa [upTo] using he)
  simp only [State.ethPort, emit_rest, unlockLanes_eth, State.clockNote, note_rest, bump_rest] at hport ⊢
  simp [hport]

theorem coreOn_ne_off {s : State} (h : s.coreOn = true) : s.pwr.st ≠ .off := by
  unfold State.coreOn at h
  intro hoff
  simp [hoff] at h

/-- A core PLL's loss of lock is counted, recorded and a fatal fault (R395). -/
def State.pllLost (s : State) (pll : Nat) : State := ((s.bump rCRU_CNT_REFLOSS).clockNote (4 + pll) false).fatal 2

@[simp] theorem pllLost_rest (s : State) (pll : Nat) :
    (s.pllLost pll).sup = s.sup ∧ (s.pllLost pll).pwr = s.pwr ∧ (s.pllLost pll).rsv = s.rsv ∧ (s.pllLost pll).regs = s.regs := by
  simp [State.pllLost, State.clockNote]

theorem pllLost_fatal (s : State) (pll : Nat) : 2 ∈ (s.pllLost pll).cru.fatal := by
  unfold State.pllLost
  exact fatal_mem _ _

@[simp] theorem pinRelease_rest (s : State) :
    s.pinRelease.iaddr = s.iaddr ∧ s.pinRelease.ports = s.ports ∧ s.pinRelease.pwr = s.pwr ∧
    s.pinRelease.cru.startDue = (s.cru.startDue || decide (s.sup.seq = 2)) :=
  ⟨rfl, rfl, rfl, rfl⟩

/-- A core PLL that loses lock outside a vault leads to a Pin reset (R395). -/
theorem does_corePllUnlock_reset {s : State} {pll : Nat} (hon : s.coreOn = true) (hlt : pll < 5) (hne : pll ≠ 1)
    (hph : s.rsv.ph = .off) : Does (.corePllUnlock pll) s ((s.pllLost pll).pinReset 2).pinRelease := by
  refine Does.of_eq rfl ?_
  rw [if_neg (by simp [hon, hne]; omega), if_neg (by simp [hph])]
  rfl

/-- In a vault it is a fault alone (R103). -/
theorem does_corePllUnlock_inVault {s : State} {pll : Nat} (hon : s.coreOn = true) (hlt : pll < 5) (hne : pll ≠ 1)
    (hph : s.rsv.ph ≠ .off) : Does (.corePllUnlock pll) s (s.pllLost pll) := by
  refine Does.of_eq rfl ?_
  rw [if_neg (by simp [hon, hne]; omega), if_pos hph]
  rfl

/-- XTAL stopping with the core on holds a Pin reset (R395). -/
theorem does_xtalStopped_held {s u : State} (hph : s.rsv.ph = .off) (hheld : s.cru.xtalHeld = false) (hon : s.coreOn = true)
    (hu : u = ({ s with cru := { s.cru with xtalOk := false } } : State).pinReset 3) :
    Does .xtalStopped s { u with cru := { u.cru with xtalHeld := true } } := by
  subst hu
  refine Does.of_eq rfl ?_
  rw [if_neg (by simp [hph, hheld]), if_pos hon]

/-- Settles O12: each clause is a branch of the command's meaning. -/
theorem clockEvents : Obligations.ClockEvents := by
  unfold Obligations.ClockEvents
  refine ⟨fun s g hg h1 href => ?_, fun s href hdown => does_refClockLost_noPortUp href hdown, fun s g hg href => ?_,
    fun s ch hch hon hin => ?_, fun s ch hin => ?_, fun s ch hin => ?_, fun s pll hon hlt hne hph => ?_,
    fun s pll hon hlt hne hph => ?_, fun s hph hheld hon => ?_, fun s hheld => Does.of_eq rfl (if_pos hheld),
    fun s hheld => Does.of_eq rfl (if_neg (by simp [hheld]))⟩
  · refine Does.of_eq rfl ?_
    rw [if_neg (by simp [href, hg]), if_neg h1]
  · exact Does.of_eq rfl (if_neg (by simp [href, hg]))
  · exact Does.of_eq rfl (if_neg (by simp [hch, hon] at hin ⊢; exact hin))
  · refine ⟨_, Does.of_eq rfl (if_neg (by rw [hin]; decide)), ?_⟩
    simp only [State.clockNote, dram_rest, dram_out, note_rest, raise_rest, true_and]
    exact ⟨fun hnil => if_pos (by rw [hnil]; rfl), trivial⟩
  · exact ⟨_, Does.of_eq rfl (if_pos hin), fatal_mem _ _, fatal_low _ _⟩
  · obtain ⟨hiaddr, hports, hsup, hst, hdue, _⟩ := pinReset_facts (s.pllLost pll) 2
    refine ⟨_, does_corePllUnlock_reset hon hlt hne hph, ?_⟩
    simp [hiaddr, hports, hdue, hsup, hst, coreOn_ne_off hon]
  · exact ⟨_, does_corePllUnlock_inVault hon hlt hne hph, pllLost_fatal s pll, (pllLost_rest s pll).2.2⟩
  · obtain ⟨u, hu⟩ : ∃ u, u = ({ s with cru := { s.cru with xtalOk := false } } : State).pinReset 3 := ⟨_, rfl⟩
    obtain ⟨hiaddr, hports, hsup, _, hdue, _, _, _, hok⟩ := hu ▸ pinReset_facts { s with cru := { s.cru with xtalOk := false } } 3
    exact ⟨_, does_xtalStopped_held hph hheld hon hu, hok, rfl, hiaddr, hports, hdue, hsup⟩

/-! ### Rails (R372 to R375) -/

theorem does_railPgTimeout {s : State} {n : Nat} (hr : s.isRail n = true) (hst : (s.rail n).st = 2) :
    Does (.railPgTimeout n) s (s.railFails n) :=
  Does.of_eq rfl (if_pos ⟨hr, hst⟩)

theorem does_railPgDrop {s : State} {n : Nat} (hr : s.isRail n = true) (hst : (s.rail n).st = 3) (hen : (s.rail n).en = true) :
    Does (.railPgDrop n) s ((s.setRail n { s.rail n with pg := false }).railFails n) :=
  Does.of_eq rfl (if_pos ⟨hr, hst, hen⟩)

/-- In a vault the failure of a FATAL rail is kept for the vault's end (R374). -/
theorem railFails_inVault {s : State} {n : Nat} (hf : s.flag (fSUP_RAIL_CFG_FATAL.plus (16 * n)) = true) (hq : s.sup.seq ≠ 3)
    (hv : s.rsv.ph ≠ .off) :
    (s.railFails n).sup.railFail = true ∧ (s.railFails n).sup.dest = .off ∧ (s.railFails n).sup.seq = s.sup.seq ∧
    (s.railFails n).rsv = s.rsv ∧ (s.railFails n).ports = s.ports := by
  unfold State.railFails
  dsimp only
  rw [if_neg (by simpa [State.setRail] using hq), if_pos (by rw [← hf]; exact flag_of_regs (by simp) _),
    if_pos (by simpa using hv)]
  simp [State.setRail]

/-- Settles O13: each clause is a branch of the command's meaning; a failing FATAL rail goes by its laws. -/
theorem railEvents : Obligations.RailEvents := by
  unfold Obligations.RailEvents
  refine ⟨fun s n hseq hr hst hdep => Does.of_eq rfl (if_pos ⟨hseq, hr, hst, hdep⟩),
    fun s n hr hst hdep => Does.of_eq rfl (if_neg (by simp [hdep])), fun s n hr hst => ?_, fun s n hr hen hst => ?_,
    fun s n hr hst hf hq hv => ?_, fun s n hr hst hen hf hq hv => ?_, fun s n _ hf hq hv => railFails_inVault hf hq hv,
    fun s n hr hen hseq hk => Does.of_eq rfl (if_pos ⟨hr, hen, .inl ⟨hseq, by simp [hk]⟩⟩), fun s n hseq hr hen hpg hst => ?_⟩
  · refine Does.of_eq rfl ?_
    rw [if_pos hr, if_pos hst]
  · refine Does.of_eq rfl ?_
    rw [if_pos ⟨hr, by simp [hen]⟩, if_pos hst]
  · obtain ⟨hfail, hports, _, hseq, hdest⟩ := railFails_fatal s n hf hq hv
    exact ⟨_, does_railPgTimeout hr hst, hfail, hports, hseq, hdest⟩
  · obtain ⟨hfail, hports, _, hseq, hdest⟩ := railFails_fatal (s.setRail n { s.rail n with pg := false }) n hf hq hv
    exact ⟨_, does_railPgDrop hr hst hen, hfail, hports, hseq, hdest⟩
  · refine ⟨_, Does.of_eq rfl (if_pos ⟨hseq, hr, by simp [hen], hpg, hst⟩), ?_⟩
    rw [(downCheck_facts _).2.2.2.2.2.1]
    simp

end Sys2Proof.Machine
end

section
/-! PROOF. Requests and buttons, monitors and margins (R376 to R385). -/

namespace Sys2Proof.Machine

/-! ### On and off requests (R376, R377) -/

theorem onRequest_latches {s : State} (haon : s.sup.aon = true) (hseq : s.sup.seq = 3 ∨ s.sup.seq = 4) :
    s.onRequest = { s with sup := { s.sup with onLatched := true } } := by
  unfold State.onRequest
  rw [if_neg (by simp [haon]), if_pos hseq]

theorem onRequest_powersUp {s : State} (haon : s.sup.aon = true) (hseq : s.sup.seq = 0) : s.onRequest = s.powerUp := by
  unfold State.onRequest
  rw [if_neg (by simp [haon]), if_neg (by omega), if_pos hseq]

theorem offRequest_inVault {s : State} (hph : s.rsv.ph ≠ .off) (c : Nat) : s.offRequest c = s := if_pos hph

theorem offRequest_powersDown {s : State} (hph : s.rsv.ph = .off) (hseq : s.sup.seq = 1 ∨ s.sup.seq = 2) (c : Nat) :
    s.offRequest c = s.powerDown .off c := by
  unfold State.offRequest
  rw [if_neg (by simp [hph]), if_pos (by omega)]

/-! ### Presses (R380) -/

@[simp] theorem pressed_rest (s : State) (kind action : Nat) :
    (s.pressed kind action).sup = s.sup ∧ (s.pressed kind action).regs = s.regs ∧ (s.pressed kind action).rsv = s.rsv ∧
    (s.pressed kind action).pwr = s.pwr := by
  simp [State.pressed]

/-- The running states, in which a press asks for Off. -/
abbrev State.runs (s : State) : Prop := s.pwr.st = .service ∨ s.pwr.st = .trimmed ∨ s.pwr.st = .quiesced

theorem press_inVault {s : State} (hph : s.rsv.ph ≠ .off) (kind : Nat) : s.press kind = s.bumpFld fSUP_CNT_BTN_PRESSES := by
  unfold State.press
  exact if_pos (.inr (by simpa using hph))

/-- A short or long press while the unit powers down is an on request. -/
theorem press_poweringDown {s : State} {kind : Nat} (haon : s.sup.aon = true) (hph : s.rsv.ph = .off)
    (hseq : s.sup.seq = 3 ∨ s.sup.seq = 4) (hk : kind ≠ 3) :
    s.press kind = ((s.bumpFld fSUP_CNT_BTN_PRESSES).pressed kind 0).onRequest := by
  unfold State.press
  simp only [bumpFld_rest]
  rw [if_neg (by simp [haon, hph]), if_neg (by omega), if_pos hseq, if_pos hk]

theorem press_poweringDown_sup {s : State} {kind : Nat} (haon : s.sup.aon = true) (hph : s.rsv.ph = .off)
    (hseq : s.sup.seq = 3 ∨ s.sup.seq = 4) (hk : kind ≠ 3) : (s.press kind).sup = { s.sup with onLatched := true } := by
  rw [press_poweringDown haon hph hseq hk, onRequest_latches (by simpa using haon) (by simpa using hseq)]
  simp

/-- A long press in a running state is refused over the budget, else it leads to Off by a vault where one may run. -/
theorem press_long {s : State} (haon : s.sup.aon = true) (hph : s.rsv.ph = .off) (hseq : s.sup.seq = 2) (hrun : s.runs) :
    s.press 2 = if s.rsv.overB ∨ s.rsv.monBad then ((s.bumpFld fSUP_CNT_BTN_PRESSES).bumpFld fSUP_CNT_BTN_REFUSED).raise 0x006
      else ((s.bumpFld fSUP_CNT_BTN_PRESSES).pressed 2 3).vaultTo .off 4 := by
  unfold State.press
  simp only [bumpFld_rest]
  rw [if_neg (by simp [haon, hph]), if_neg (by omega), if_neg (by omega), if_pos hrun, if_neg (by decide), if_pos trivial]

theorem press_veryLong {s : State} (haon : s.sup.aon = true) (hph : s.rsv.ph = .off) (hseq : s.sup.seq = 2) (hrun : s.runs) :
    s.press 3 = ((s.bumpFld fSUP_CNT_BTN_PRESSES).pressed 3 4).powerDown .off 4 := by
  unfold State.press
  simp only [bumpFld_rest]
  rw [if_neg (by simp [haon, hph]), if_neg (by omega), if_neg (by omega), if_pos hrun, if_neg (by decide), if_neg (by decide)]

/-- Whether a vault may run depends on settings, on the budget and on the power state alone (R102). -/
theorem vaultMay_congr {s t : State} (hr : t.regs = s.regs) (hv : t.rsv = s.rsv) (hp : t.pwr = s.pwr) :
    t.vaultMay = s.vaultMay := by
  unfold State.vaultMay
  rw [flag_of_regs hr, hv, hp]

theorem vaultTo_vault {s : State} (h : s.vaultMay = true) (d : Dest) (c : Nat) :
    s.vaultTo d c = ({ s with sup := { s.sup with dest := d, offAfter := false } } : State).startVault c := by
  unfold State.vaultTo
  exact if_pos h

theorem vaultTo_down {s : State} (h : s.vaultMay = false) (d : Dest) (c : Nat) :
    s.vaultTo d c = ({ s with sup := { s.sup with dest := d, offAfter := false } } : State).powerDown d c := by
  unfold State.vaultTo
  exact if_neg fun hmay => absurd ((vaultMay_congr (s := s) rfl rfl rfl).symm.trans hmay) (by simp [h])

theorem vaultMay_pressed (s : State) : ((s.bumpFld fSUP_CNT_BTN_PRESSES).pressed 2 3).vaultMay = s.vaultMay :=
  vaultMay_congr (by simp) (by simp) (by simp)

/-- What a power-down to Off leaves closed and decided (R377). -/
theorem powerDown_off (s : State) (c : Nat) :
    (s.powerDown .off c).ports = false ∧ ((s.powerDown .off c).sup.seq = 3 ∨ (s.powerDown .off c).sup.seq = 4) ∧
    (s.powerDown .off c).sup.dest = .off := by
  obtain ⟨hports, _, _, _, hdest, hseq⟩ := powerDown_facts s .off c
  exact ⟨hports, hseq, hdest⟩

/-- Settles O14: each clause is a branch of a request or of a press. -/
theorem powerRequestsAndButtons : Obligations.PowerRequestsAndButtons := by
  unfold Obligations.PowerRequestsAndButtons
  refine ⟨fun s haon hseq => Does.of_eq rfl (onRequest_latches haon hseq),
    fun s haon hseq => Does.of_eq rfl (onRequest_powersUp haon hseq),
    fun s hph => Does.of_eq rfl (offRequest_inVault hph 0), fun s hph hseq => ?_, fun s hseq hl => ?_, fun s hseq hl haon => ?_,
    fun s hv hf haon hseq => ?_, fun s hv hf => Does.of_eq rfl (if_neg (by simp [hf])), fun s haon hph hseq => ?_,
    fun s haon hph hseq hrun hbad => ?_, fun s w haon hph hseq hrun hover hmon hmay hw => ?_,
    fun s haon hph hseq hrun hover hmon hmay => ?_, fun s haon hph hseq => ?_, fun s haon hph hseq hrun => ?_,
    fun s hph => ?_, fun s => ⟨rfl, rfl, rfl⟩⟩
  · obtain ⟨hports, hiaddr, _, _, hdest, hdown⟩ := powerDown_facts s .off 0
    exact ⟨_, Does.of_eq rfl (offRequest_powersDown hph hseq 0), hports, hdown, hdest, hiaddr⟩
  · refine Does.of_eq rfl ?_
    rw [if_pos hseq, if_neg (by simp [hl])]
  · refine Does.of_eq rfl ?_
    rw [if_pos hseq, if_pos hl]
    exact onRequest_powersUp haon rfl
  · exact Does.of_eq rfl ((if_pos ⟨hv, hf⟩).trans (onRequest_powersUp haon hseq))
  · exact ⟨_, Does.of_eq rfl rfl, press_poweringDown_sup haon hph hseq (by decide)⟩
  · exact Does.of_eq rfl ((press_long haon hph hseq hrun).trans (if_pos hbad))
  · have hpress : s.press 2 = ({ w with sup := { w.sup with dest := .off, offAfter := false } } : State).startVault 4 := by
      rw [press_long haon hph hseq hrun, if_neg (by simp [hover, hmon]), hw,
        vaultTo_vault (by rw [← hw, vaultMay_pressed, hmay])]
    exact ⟨Does.of_eq rfl hpress, Does.of_eq rfl hpress⟩
  · have hpress := press_long haon hph hseq hrun
    rw [if_neg (by simp [hover, hmon]), vaultTo_down (by rw [vaultMay_pressed, hmay])] at hpress
    exact ⟨_, Does.of_eq rfl hpress, Does.of_eq rfl hpress, powerDown_off _ _⟩
  · exact ⟨_, Does.of_eq rfl rfl, Does.of_eq rfl rfl, press_poweringDown_sup haon hph hseq (by decide)⟩
  · exact ⟨_, Does.of_eq rfl (press_veryLong haon hph hseq hrun), powerDown_off _ _⟩
  · exact ⟨Does.of_eq rfl (press_inVault hph 1), Does.of_eq rfl (press_inVault hph 2), Does.of_eq rfl (press_inVault hph 3)⟩

/-! ### Monitors and margins (R382 to R385) -/

/-- A sample beyond neither threshold ends the run and the alarm. -/
theorem does_monitorSample_within {s : State} {ch v : Nat} (hch : ch < 32) (hv : v < 4096) (haon : s.sup.aon = true)
    (hlo : s.fld (fSUP_MON_THR_LO.plus (16 * ch)) ≤ v) (hhi : v ≤ s.fld (fSUP_MON_THR_HI.plus (16 * ch))) :
    Does (.monitorSample ch v) s (s.setMon ch { s.mon ch with value := v, run := 0, alarm := false }) := by
  have hbeyond : (decide (v < s.fld (fSUP_MON_THR_LO.plus (16 * ch))) || decide (s.fld (fSUP_MON_THR_HI.plus (16 * ch)) < v)) = false := by
    simpa using ⟨hlo, hhi⟩
  refine Does.of_eq rfl ?_
  rw [if_neg (by simp [haon]; omega), Nat.mod_eq_of_lt hv, hbeyond]
  simp

/-- The sample that makes COUNT of them beyond a threshold raises the alarm. -/
theorem does_monitorSample_alarm {s : State} {ch v : Nat} (hch : ch < 32) (hv : v < 4096) (haon : s.sup.aon = true)
    (hhi : s.fld (fSUP_MON_THR_HI.plus (16 * ch)) < v) (hen : s.flag (fSUP_MON_CFG_ALARM_EN.plus (16 * ch)) = true)
    (hcount : s.fld (fSUP_MON_CFG_COUNT.plus (16 * ch)) = (s.mon ch).run + 1) (hoff : (s.mon ch).alarm = false) :
    Does (.monitorSample ch v) s
      ((s.setMon ch { s.mon ch with value := v, run := min ((s.mon ch).run + 1) 16, alarm := true }).raise 0x003).snapshot := by
  have hbeyond : (decide (v < s.fld (fSUP_MON_THR_LO.plus (16 * ch))) || decide (s.fld (fSUP_MON_THR_HI.plus (16 * ch)) < v)) = true := by
    simp [hhi]
  refine Does.of_eq rfl ?_
  rw [if_neg (by simp [haon]; omega), Nat.mod_eq_of_lt hv, hbeyond]
  simp [hen, hcount, hoff]

/-- Settles O15: each clause is a branch of the command's meaning. -/
theorem monitorsAndMargins : Obligations.MonitorsAndMargins := by
  unfold Obligations.MonitorsAndMargins
  refine ⟨fun s ch v hch hv haon hlo hhi => does_monitorSample_within hch hv haon hlo hhi,
    fun s ch v hch hv haon hhi hen hcount hoff => does_monitorSample_alarm hch hv haon hhi hen hcount hoff,
    fun s ch dev hch haon hok hdev => ?_, fun s ch dev hch haon hlo hhi => ?_, fun s rail dir hr hd hen hrun ha => ?_,
    fun s rail dir hen => Does.of_eq rfl (if_neg (by simp [hen])), fun s d hd hon => ?_⟩
  · refine Does.of_eq rfl ?_
    rw [if_neg (by simp [haon]; omega), decide_eq_true hdev, if_pos (by simp [hok])]
  · refine Does.of_eq rfl ?_
    rw [if_neg (by simp [haon]; omega), decide_eq_false (by omega), if_neg (by simp)]
  · refine Does.of_eq rfl ?_
    unfold State.marginGo
    dsimp only
    rw [Nat.mod_eq_of_lt (by omega : rail < 32), Nat.mod_eq_of_lt (by omega : dir < 4), if_pos ⟨hen, hrun, hr, ha, hd⟩]
  · refine ⟨_, Does.of_eq rfl (if_neg (by simp [hon]; omega)), ?_, fatal_mem _ _, fatal_low _ _⟩
    simp only [fatal_rest, note_rest]
    split <;> simp_all

end Sys2Proof.Machine
end

section
/-! PROOF. Power states, Trimmed and energy, and the vault (R95 to R107, R386 to R391). -/

namespace Sys2Proof.Machine

/-! ### What the beginning of a vault leaves as it is

`Still c s`: the power state, CRU, the supervisor and the ports are `c`. The operations of the links, of the twin and
of circulation write none of them. -/

/-- The power state, CRU, the supervisor and the ports. -/
abbrev Standing := PwrState × CruSt × SupSt × Bool

def State.standing (s : State) : Standing := (s.pwr.st, s.cru, s.sup, s.ports)

def Still (c : Standing) (s : State) : Prop := s.standing = c

section
variable {c : Standing} {s : State}

theorem still_congr {s t : State} (hp : t.pwr.st = s.pwr.st) (hc : t.cru = s.cru) (hs : t.sup = s.sup) (ho : t.ports = s.ports)
    (h : Still c s) : Still c t := by
  unfold Still State.standing at *
  rw [hp, hc, hs, ho, h]

theorem foldl_still {α : Type} {f : State → α → State} (l : List α) (hf : ∀ s a, Still c s → Still c (f s a)) (hs : Still c s) :
    Still c (l.foldl f s) := by
  induction l generalizing s with
  | nil => exact hs
  | cons a l ih => exact ih (hf s a hs)

theorem ite_still {p : Prop} [Decidable p] {t : State} (hs : Still c s) (ht : Still c t) : Still c (if p then s else t) := by
  split
  · exact hs
  · exact ht

theorem raise_still {n : Nat} (hs : Still c s) : Still c (s.raise n) :=
  still_congr (by simp) (by simp) (by simp) (by simp) hs

theorem note_still {code : Nat} {ws : List Nat} (hs : Still c s) : Still c (s.note code ws) :=
  still_congr (by simp) (by simp) (by simp) (by simp) hs

theorem setTenant_still {t : Nat} {r : Tenant} (hs : Still c s) : Still c (s.setTenant t r) :=
  still_congr (by simp) (by simp) (by simp) (by simp) hs

theorem fecPut_still {lk : Nat} {bits : List Bool} (hs : Still c s) : Still c (s.fecPut lk bits) :=
  ite_still hs hs

theorem putFlit_still {lk : Nat} {f : Flit} {nak : Bool} (hs : Still c s) : Still c (s.putFlit lk f nak) := by
  unfold State.putFlit
  exact fecPut_still hs

theorem sendFlit_still {lk ty first : Nat} {slots : List (BitVec 128)} (hs : Still c s) : Still c (s.sendFlit lk ty first slots) := by
  unfold State.sendFlit
  extract_lets l f s1
  have h1 : Still c s1 := putFlit_still hs
  clear_value s1
  exact ite_still h1 h1

theorem twinPut_still {m : TwinMsg} (hs : Still c s) : Still c (s.twinPut m) := by
  unfold State.twinPut
  exact ite_still hs (ite_still (sendFlit_still hs) hs)

theorem twinPump_still (hs : Still c s) : Still c s.twinPump := by
  unfold State.twinPump
  exact foldl_still _ (fun _ _ h => twinPut_still h) hs

theorem deskRelease_still {t n : Nat} (hs : Still c s) : Still c (s.deskRelease t n) := setTenant_still hs

theorem bpmReturn_still {ptr owner : Nat} (hs : Still c s) : Still c (s.bpmReturn ptr owner) := by
  unfold State.bpmReturn
  split
  · exact ite_still hs (deskRelease_still hs)
  · have hraised {b : BpmSt} : Still c (({ s with bpm := b } : State).raise 0x384) := raise_still hs
    exact ite_still hraised (note_still hraised)

theorem freeOwners_still {p : Nat → Bool} (hs : Still c s) : Still c (s.freeOwners p) := by
  unfold State.freeOwners
  exact foldl_still _ (fun _ _ h => ite_still h (deskRelease_still h)) hs

theorem dropClients_still (hs : Still c s) : Still c s.dropClients := by
  have hstreams : Still c (s.mapStreams fun _ r => r.dropQueue) := foldl_still _ (fun _ _ h => h) hs
  unfold State.dropClients
  extract_lets s1 _ _ _ s2 s3
  have h3 : Still c s3 := freeOwners_still hstreams
  exact h3

theorem quietLinks_still (hs : Still c s) : Still c s.quietLinks := by
  unfold State.quietLinks
  exact foldl_still _ (fun _ _ h => ite_still h h) hs

theorem dropReqs_still {x : Qp} (hs : Still c s) : Still c (s.dropReqs x) := by
  unfold State.dropReqs
  exact foldl_still _ (fun _ _ h => ite_still h (bpmReturn_still h)) hs

theorem freeQp_still {q : Nat} (hs : Still c s) : Still c (s.freeQp q) := by
  have hdropped : Still c (s.dropReqs (s.qp q)) := dropReqs_still hs
  exact hdropped

theorem cirLose_still {i : Nat} (hs : Still c s) : Still c (s.cirLose i) := by
  unfold State.cirLose
  extract_lets x s1 s2
  have h1 : Still c s1 := freeQp_still (foldl_still _ (fun _ _ h => bpmReturn_still h) hs)
  clear_value s1
  have h2 : Still c s2 := ite_still h1 h1
  clear_value s2
  exact ite_still h2 h2

theorem cirRearmAll_still (hs : Still c s) : Still c s.cirRearmAll.1 := by
  have hfold : ∀ (l : List (Nat × CirStream)) (p : State × Nat), Still c p.1 →
      Still c (l.foldl (fun p e => if e.2.st = 0 then p else (p.1.cirLose e.1, p.2 + 1)) p).1 := by
    intro l
    induction l with
    | nil => exact fun _ h => h
    | cons e l ih =>
      intro p hp
      refine ih _ ?_
      dsimp only
      split
      · exact hp
      · exact cirLose_still hp
  exact hfold _ _ hs

theorem sayRoles_still (hs : Still c s) : Still c s.sayRoles := by
  unfold State.sayRoles
  exact foldl_still _ (fun _ _ h => ite_still h (sendFlit_still h)) (ite_still hs hs)

theorem svcOut_still {n : Nat} {r : SvcRes} (hs : Still c s) : Still c (s.svcOut n r) := ite_still hs hs

theorem handoverOff_still (hs : Still c s) : Still c s.handoverOff := by
  unfold State.handoverOff
  split
  · exact hs
  · dsimp only
    split
    · exact svcOut_still hs
    · exact hs

theorem giveUp_still {r : Role} {reason : Nat} (hs : Still c s) : Still c (s.giveUp r reason) := by
  unfold State.giveUp
  extract_lets _ s1 s2 _ s3
  have h2 : Still c s2 := cirRearmAll_still hs
  have h3 : Still c s3 := h2
  exact note_still (raise_still (sayRoles_still h3))

theorem twinIdle_still (hs : Still c s) : Still c s.twinIdle := hs

theorem vaultTwin_still (hs : Still c s) : Still c s.vaultTwin := by
  have hoff : Still c s.handoverOff := handoverOff_still hs
  have hrearmed : Still c s.cirRearmAll.1 := cirRearmAll_still hs
  unfold State.vaultTwin
  refine twinIdle_still ?_
  split
  · refine giveUp_still ?_
    split
    · exact twinPump_still hoff
    · exact hoff
  · exact ite_still hrearmed (twinPump_still (ite_still hrearmed hrearmed))

theorem wake_still (hs : Still c s) : Still c s.wake := by
  unfold State.wake
  exact foldl_still _ (fun _ _ h => ite_still h h) hs

theorem stkCells_still {n : Nat} {r : StkReq} (hs : Still c s) : Still c (s.stkCells n r) := by
  unfold State.stkCells
  exact foldl_still _ (fun _ _ h => h) hs

theorem stkTry_still {n : Nat} {r : StkReq} (hs : Still c s) : Still c (s.stkTry n r).1 := by
  unfold State.stkTry
  dsimp only
  split
  · exact hs
  · split
    · exact hs
    · split
      · exact hs
      · split
        · exact hs
        · exact stkCells_still hs

theorem stkPump_still {n : Nat} (hs : Still c s) : Still c (s.stkPump n) := by
  unfold State.stkPump
  exact foldl_still _ (fun _ _ h => ite_still h (ite_still (stkTry_still h) (stkTry_still h))) hs

theorem ethIdle_still (hs : Still c s) : Still c s.ethIdle := hs

theorem dftOff_still (hs : Still c s) : Still c s.dftOff := hs

theorem kceAbort_still (hs : Still c s) : Still c s.kceAbort := hs

theorem vaultBegin_still {n : Nat} (hs : Still c s) : Still c (s.vaultBegin n) := stkPump_still hs

end

/-- What a vault that begins leaves (R102 to R104): the power state Vault, VAULT_ACT driven, the ports closed, and the
supervisor as it was. -/
theorem startVault_facts (s : State) (cause : Nat) :
    (s.startVault cause).pwr.st = .vault ∧ (s.startVault cause).cru.vaultAct = true ∧
    (s.startVault cause).ports = false ∧ (s.startVault cause).sup = s.sup := by
  unfold State.startVault
  extract_lets quiesced _ _ s1 s2 s3
  have hpwr : Still (.vault, (s1.setPwr .vault cause).cru, s.sup, false) (s1.setPwr .vault cause) := by
    simp [Still, State.standing, s1]
  have hact : (s1.setPwr .vault cause).cru.vaultAct = true := by simp [s1]
  have h2 : Still (.vault, (s1.setPwr .vault cause).cru, s.sup, false) s2 :=
    kceAbort_still (vaultTwin_still (dftOff_still (ethIdle_still (quietLinks_still (dropClients_still hpwr)))))
  clear_value s2
  have h3 : Still (.vault, (s1.setPwr .vault cause).cru, s.sup, false) s3 := ite_still (wake_still h2) h2
  clear_value s3
  have hend := foldl_still (f := State.vaultBegin) s3.sleds (fun _ _ h => vaultBegin_still h) h3
  simp only [Still, State.standing, Prod.mk.injEq] at hend
  obtain ⟨hst, hcru, hsup, hports⟩ := hend
  exact ⟨hst, hcru ▸ hact, hports, hsup⟩

/-- A vault that leads to `d` (R102). -/
theorem vaultTo_facts {s : State} (h : s.vaultMay = true) (d : Dest) (c : Nat) :
    (s.vaultTo d c).pwr.st = .vault ∧ (s.vaultTo d c).cru.vaultAct = true ∧ (s.vaultTo d c).sup.dest = d := by
  rw [vaultTo_vault h]
  obtain ⟨hst, hact, _, hsup⟩ := startVault_facts { s with sup := { s.sup with dest := d, offAfter := false } } c
  exact ⟨hst, hact, by rw [hsup]⟩

/-! ### Settings leave the reserve governor's state (R442) -/

@[simp] theorem suspend_rsv (s : State) (b : Nat) : (s.suspend b).rsv = s.rsv := by
  unfold State.suspend State.setFop
  split
  · dsimp only
    split <;> simp
  · rfl

@[simp] theorem progWord_rsv (s : State) (w : Nat) (d : BitVec 128) : (s.progWord w d).rsv = s.rsv := by
  simp [State.progWord, State.feed]

@[simp] theorem progWords_rsv (s : State) (w : Nat) (l : List (BitVec 128)) : (s.progWords w l).rsv = s.rsv := by
  induction l generalizing s w with
  | nil => rfl
  | cons d l ih => exact (ih _ _).trans (progWord_rsv s w d)

@[simp] theorem jPut_rsv (s : State) (sec op : Nat) : (s.jPut sec op).rsv = s.rsv := by
  simp [State.jPut]

@[simp] theorem journal_rsv (s : State) (sec op : Nat) : (s.journal sec op).rsv = s.rsv := by
  unfold State.journal
  split
  · simp
  · simp [State.clearSector, foldl_proj (fun u => u.rsv)]

@[simp] theorem putSetting_rsv (s : State) (key version : Nat) (vals : List Nat) :
    (s.putSetting key version vals).rsv = s.rsv := by
  simp [State.putSetting]

theorem setting_rsv (s : State) (key : Nat) (vals : List Nat) : (s.setting key vals).rsv = s.rsv := by
  unfold State.setting
  simp [apply_ite State.rsv, State.clearSector, foldl_proj (fun u => u.rsv)]

end Sys2Proof.Machine
end

section
/-! PROOF. The statements of PWR and of the vault (R95 to R107, R386 to R391). -/

namespace Sys2Proof.Machine

/-! ### PWR_STATE (R386 to R389) -/

/-- PWR_STATE on a slot whose turn it is and whose target is the command's: BUSY while a transition runs, else `run`. -/
theorem pwrService_turn {s u : State} {n target : Nat} {run : State → State × Option SvcRes} {r : SvcRes} (h : s.turn n 0x34)
    (harg : (s.slot n).arg 0 1 = target) (hidle : s.pwrIdle = true) (hrun : run (s.slotRunning n) = (u, some r)) :
    s.pwrService n target run = u.svcOut n r := by
  unfold State.pwrService
  have hidle' : (s.slotRunning n).pwrIdle = true := hidle
  rw [if_neg (by simp [harg]), serve_turn h, hidle', hrun]
  rfl

theorem pwrService_busy {s : State} {n target : Nat} {run : State → State × Option SvcRes} (h : s.turn n 0x34)
    (harg : (s.slot n).arg 0 1 = target) (hidle : s.pwrIdle = false) :
    s.pwrService n target run = (s.slotRunning n).svcOut n svcBUSY := by
  unfold State.pwrService
  have hidle' : (s.slotRunning n).pwrIdle = false := hidle
  rw [if_neg (by simp [harg]), serve_turn h, hidle']
  rfl

theorem quiesce_pwr (s : State) : s.quiesce.pwr.st = .quiesced := by
  unfold State.quiesce
  simp

theorem toService_trimmed {s : State} (h : s.pwr.st = .trimmed) :
    s.toService = (s.setPwr .service 2).bumpFld fPWR_CNT_TRIM_EXIT := by
  unfold State.toService
  rw [if_neg (by simp [h]), if_pos h]

theorem toService_quiesced {s : State} (h : s.pwr.st = .quiesced) : s.toService.pwr.st = .service := by
  unfold State.toService
  rw [if_pos h]
  simp [State.openPorts]

theorem vaultMay_unarmed {s : State} (h : s.rsv.armed = false) : s.vaultMay = false := by
  simp [State.vaultMay, h]

/-- The power-down alone, where no vault may run. -/
theorem vaultTo_down_facts {s : State} (h : s.vaultMay = false) (d : Dest) (c : Nat) :
    (s.vaultTo d c).pwr.st = (if d = .standby then .standby else .off) ∧ (s.vaultTo d c).ports = false ∧
    (s.vaultTo d c).sup.dest = d ∧ ((s.vaultTo d c).sup.seq = 3 ∨ (s.vaultTo d c).sup.seq = 4) := by
  rw [vaultTo_down h]
  refine ⟨?_, ?_, ?_, (powerDown_facts _ _ _).2.2.2.2.2⟩ <;> simp only [powerDown_facts]

/-- PWR_STATE STANDBY keeps the meters and the hours, and needs no armed vault (R389). -/
theorem vaultMay_standby {s : State} (harmed : s.rsv.armed = false) :
    (s.checkpoint.setting 0x0002 [s.dbk.hours]).vaultMay = false := by
  refine vaultMay_unarmed ?_
  rw [setting_rsv, State.checkpoint, setting_rsv, harmed]

/-- Settles O16: what the target does on the slot that runs, and its answer. -/
theorem powerStateServices : Obligations.PowerStateServices := by
  unfold Obligations.PowerStateServices
  refine ⟨fun s n ht ha hi hst => ?_, fun s n ht ha hi hst => ?_, fun s n ht ha hi => Does.of_eq rfl (pwrService_busy ht ha hi),
    fun s n ht ha hi hserv => ?_, fun s n ht ha hi hserv hst => ?_, fun s n ht ha hi hst => ?_, fun s n ht ha hi hst harm => ?_,
    fun s n ht ha hi hmay => ?_, fun s n ht ha hi hmay => ?_⟩
  · exact Does.of_eq rfl (pwrService_turn ht ha hi (congrArg (·, some svcOK) (toService_trimmed (s := s.slotRunning n) hst)))
  · refine ⟨_, Does.of_eq rfl (pwrService_turn ht ha hi rfl), ?_⟩
    rw [(svcOut_pwr _ _ _).1]
    exact toService_quiesced (s := s.slotRunning n) hst
  · exact Does.of_eq rfl (pwrService_turn ht ha hi (if_pos hserv))
  · have hstay : (s.slotRunning n).pwr.st ≠ .quiesced := hst
    refine ⟨_, Does.of_eq rfl (pwrService_turn ht ha hi ((if_neg (by simp [hserv])).trans (if_neg hstay))), ?_⟩
    rw [(svcOut_pwr _ _ _).1, quiesce_pwr]
  · exact Does.of_eq rfl (pwrService_turn ht ha hi (if_pos hst))
  · have hstay : (s.slotRunning n).pwr.st = .quiesced := hst
    refine ⟨_, Does.of_eq rfl (pwrService_turn ht ha hi (if_neg (by simp [hst]))), ?_⟩
    simp only [svcOut_pwr]
    exact vaultTo_down_facts (vaultMay_standby (s := s.slotRunning n) harm) .standby 2
  · refine ⟨_, Does.of_eq rfl (pwrService_turn ht ha hi rfl), ?_⟩
    simp only [svcOut_pwr]
    exact vaultTo_down_facts (s := s.slotRunning n) hmay .off 2
  · refine ⟨_, Does.of_eq rfl (pwrService_turn ht ha hi rfl), ?_⟩
    simp only [svcOut_pwr]
    exact vaultTo_facts (s := s.slotRunning n) hmay .off 2

/-! ### Trimmed and energy (R387, R390, R391) -/

/-- A reconciliation with every monitor pair valid (R391). -/
theorem reconcile_facts {s : State} {mj : Nat} (hpair : s.pairBad = false) :
    (s.reconcile mj).pwr.raw = [] ∧ (s.reconcile mj).pwr.pChip = mj / 1000 ∧ 128 ≤ (s.reconcile mj).pwr.k ∧
    (s.reconcile mj).pwr.k ≤ 512 ∧ (s.reconcile mj).pwr.ckpt = s.pwr.ckpt := by
  unfold State.reconcile
  simp only [hpair, tickFree_rest, apply_ite State.pwr, bump_rest, raise_rest, ite_self]
  simp

/-- Settles O17: each clause is a branch of the command's meaning. -/
theorem trimAndEnergy : Obligations.TrimAndEnergy := by
  unfold Obligations.TrimAndEnergy
  refine ⟨fun s b hst hen hlow hrun => ?_, fun s b hst hen hlow hrun => ?_, fun s b hst hhigh => ?_, fun s b hst hbusy => ?_,
    fun s c hst hen hsp hfind hnone => ?_, fun s hst hen => ?_, fun s hany => Does.of_eq rfl (if_pos hany),
    fun s mj hrun hpair => ⟨_, Does.of_eq rfl (if_pos hrun), reconcile_facts hpair⟩,
    fun s hrun hready => Does.of_eq rfl (if_pos ⟨hrun, hready⟩)⟩
  · refine Does.of_eq rfl ?_
    rw [if_pos hst]
    simp [hen, hlow, Nat.not_le.mpr hrun]
  · refine Does.of_eq rfl ?_
    rw [if_pos hst]
    simp [hen, hlow, hrun]
  · refine Does.of_eq rfl ?_
    rw [if_pos hst]
    simp [Nat.not_lt.mpr hhigh]
  · refine Does.of_eq rfl ?_
    rw [if_neg (by simp [hst]), if_pos ⟨hst, .inr hbusy⟩]
    exact if_pos hst
  · refine Does.of_eq rfl ?_
    rw [if_neg (by simp [hnone]), if_pos hst, if_neg (by simp [hen, hsp]), hfind]
  · refine Does.of_eq rfl ?_
    rw [if_pos hst, if_pos (by simp [hen] : (!s.flag fPWR_CTRL_FCHG_EN) = true ∨ (!s.speedable) = true), ite_self]

/-! ### The vault (R95 to R107) -/

theorem powerDown_ends (s : State) (d : Dest) (c : Nat) :
    (s.powerDown d c).rsv.ph = .off ∧ (s.powerDown d c).cru.vaultAct = false := by
  have hcheck : ∀ u : State, u.downCheck.rsv = u.rsv ∧ u.downCheck.cru = u.cru := fun u => by
    unfold State.downCheck
    split <;> exact ⟨rfl, rfl⟩
  have hrails : ∀ (u : State) (f : Nat → Rail → Rail), (u.mapRails f).rsv = u.rsv ∧ (u.mapRails f).cru = u.cru := fun u f =>
    ⟨foldl_proj (fun v => v.rsv) (fun s n => s.setRail n (f n (s.rail n))) (fun _ _ => rfl) _ _,
      foldl_proj (fun v => v.cru) (fun s n => s.setRail n (f n (s.rail n))) (fun _ _ => rfl) _ _⟩
  unfold State.powerDown
  simp only [hcheck, hrails]
  exact ⟨rfl, rfl⟩

/-- A sample whose three monitors are valid (R95, R97). -/
theorem governorSample_facts {s : State} (hB : s.ainOk (s.fld fRSV_BANK_CFG_V_CH) = true)
    (hV : s.ainOk (s.fld fRSV_DRAW_CFG_V_CH) = true) (hI : s.ainOk (s.fld fRSV_DRAW_CFG_I_CH) = true) :
    s.governorSample.rsv.badBank = 0 ∧ s.governorSample.rsv.badV = 0 ∧ s.governorSample.rsv.badI = 0 ∧
    s.governorSample.rsv.goodRun = s.rsv.goodRun + 1 ∧ s.fld fRSV_DRAW_MIN_W ≤ s.governorSample.rsv.pNow := by
  have hform : ∀ u : State, u.budgetForm.rsv.badBank = u.rsv.badBank ∧ u.budgetForm.rsv.badV = u.rsv.badV ∧
      u.budgetForm.rsv.badI = u.rsv.badI ∧ u.budgetForm.rsv.goodRun = u.rsv.goodRun ∧ u.budgetForm.rsv.pNow = u.rsv.pNow := fun u => by
    unfold State.budgetForm
    dsimp only
    split <;> exact ⟨rfl, rfl, rfl, rfl, rfl⟩
  unfold State.governorSample
  simp only [hform, apply_ite State.rsv, tickFree_rest, ite_self, hB, hV, hI]
  exact ⟨rfl, rfl, rfl, rfl, Nat.le_max_right _ _⟩

theorem govern_facts (s : State) :
    s.govern.rsv.badBank = s.rsv.badBank ∧ s.govern.rsv.badV = s.rsv.badV ∧ s.govern.rsv.badI = s.rsv.badI ∧
    s.govern.rsv.goodRun = s.rsv.goodRun ∧ s.govern.rsv.pNow = s.rsv.pNow := by
  unfold State.govern
  simp only [apply_ite State.rsv, apply_ite RsvSt.badBank, apply_ite RsvSt.badV, apply_ite RsvSt.badI, apply_ite RsvSt.goodRun,
    apply_ite RsvSt.pNow, note_rest, raise_rest, ite_self, and_self]

/-- A write alone in its stream's order, on an open epoch, is tried. -/
theorem pumpAll_single {s : State} {i : Nat} {w : WriteReq} (hq : (s.stream i).queue = [.write w]) (hst : (s.stream i).st = .opened) :
    s.pumpAll i = match s.tryWrite i w [] with
      | .gone u => u
      | .waits u => u := by
  unfold State.pumpAll
  rw [hq]
  simp only [List.length_cons, List.length_nil, State.pump, hq, hst, Stream.live]
  rfl

/-- A vault that is over, before its power-down: recorded and counted, VAULT_ACT low (step 13 of R104). -/
def State.vaultEnded (s : State) : State :=
  let r := s.rsv
  let s1 := (if r.eNow ≥ 100 then s.note 0x4A0 [r.vaultSeq, r.planned, r.written, r.lastMs, r.eNow] else s).bump rRSV_CNT_VAULTS
  { s1 with
    rsv := { s1.rsv with ph := .off }
    cru := { s1.cru with vaultAct := false }
    sup := { s1.sup with vaultOff := s1.sup.dest == .off } }

theorem does_vaultFinish {s : State} (h : s.vaultOver = true) :
    Does .vaultFinish s (s.vaultEnded.selfRefreshAll.powerDown s.vaultEnded.sup.dest 5) :=
  Does.of_eq rfl (if_neg (by simp [h]))

theorem vaultEnded_dest (s : State) : s.vaultEnded.sup.dest = s.sup.dest := by
  simp [State.vaultEnded, apply_ite State.sup]

/-- Settles O18: each clause is a branch of the command's meaning; a vault that begins, its end and a sample go by their laws. -/
theorem vaultCommands : Obligations.VaultCommands := by
  unfold Obligations.VaultCommands
  refine ⟨fun s ns hns => Does.of_eq rfl (if_pos (.inl hns)), fun s ns hns hph hseq hmay hbank => ?_,
    fun s ns hb => Does.of_eq rfl (if_pos (.inr (.inr (.inr hb)))), fun s ns hns hph hseq hmay hb => ?_,
    fun s hph => Does.of_eq rfl (if_pos hph), fun s hover => ?_, fun s hover => Does.of_eq rfl (if_pos (by simp [hover])),
    fun s hon hB hV hI => ?_, fun s u i w hq hst hw => ?_, fun s u i w hq hst hw => ?_, fun s u n ht hinc hu => ?_,
    fun s n ht hinc => ?_⟩
  · obtain ⟨hst, hact, hports, hsup⟩ := startVault_facts { s with sup := { s.sup with dest := .off, offAfter := false } } 3
    refine ⟨_, Does.of_eq rfl ((if_neg ?_).trans (if_pos hmay)), hst, hact, hports, by rw [hsup]⟩
    simp [hph, hseq, State.bankless, hbank]
    omega
  · refine Does.of_eq rfl ?_
    rw [if_neg (by simp [hph, hseq, hb]; omega), if_neg (by simp [hmay])]
    exact if_neg (by simp [hseq])
  · obtain ⟨hports, _, _, _, hdest, hseq⟩ := powerDown_facts s.vaultEnded.selfRefreshAll s.vaultEnded.sup.dest 5
    obtain ⟨hph, hact⟩ := powerDown_ends s.vaultEnded.selfRefreshAll s.vaultEnded.sup.dest 5
    exact ⟨_, does_vaultFinish hover, hph, hact, hports, hdest.trans (vaultEnded_dest s), hseq⟩
  · refine ⟨_, Does.of_eq rfl (if_neg (by simp [hon])), ?_⟩
    simp only [apply_ite State.rsv, bump_rest, ite_self, govern_facts]
    exact governorSample_facts hB hV hI
  · have hpump := pumpAll_single hq hst
    rw [hw] at hpump
    exact ⟨Does.of_eq rfl hpump, Does.of_eq rfl hpump⟩
  · have hpump := pumpAll_single hq hst
    rw [hw] at hpump
    exact ⟨Does.of_eq rfl hpump, Does.of_eq rfl hpump⟩
  · refine Does.of_eq rfl ?_
    have hinc' : (s.slotRunning n).rsv.lastIncomplete = true := hinc
    have hload : (s.slotRunning n).rsv.loadDue = s.rsv.loadDue := rfl
    rw [serve_turn ht, hu]
    unfold State.doVaultAccept
    rw [if_neg (by rw [hinc']; decide), hload]
  · refine Does.of_eq rfl ?_
    have hinc' : (s.slotRunning n).rsv.lastIncomplete = false := hinc
    rw [serve_turn ht]
    unfold State.doVaultAccept
    rw [if_pos (by rw [hinc']; rfl)]

end Sys2Proof.Machine
end

section
/-! PROOF. Lines of DRAM written and read back, with and without a remap in force, and SNAP's copies of the counters: O6 and O53. -/

namespace Sys2Proof.Machine

/-! ### What a read of a line rests on -/

/-- Two states that read the same lines wherever their DRAM holds the same. -/
structure ReadsAlike (s t : State) : Prop where
  dmc : t.dmc = s.dmc
  fch : t.fch = s.fch
  tqm : t.tqm = s.tqm
  regs : t.regs = s.regs
  remap : t.lpr.remap = s.lpr.remap
  erasure : t.lpr.erasure = s.lpr.erasure
  resv : t.lpr.resv = s.lpr.resv

section
variable {s t u : State}

theorem ReadsAlike.trans (h : ReadsAlike s t) (k : ReadsAlike t u) : ReadsAlike s u :=
  ⟨k.dmc.trans h.dmc, k.fch.trans h.fch, k.tqm.trans h.tqm, k.regs.trans h.regs, k.remap.trans h.remap,
    k.erasure.trans h.erasure, k.resv.trans h.resv⟩

theorem ReadsAlike.chanOf (h : ReadsAlike s t) (a : Nat) : t.chanOf a = s.chanOf a := by
  unfold State.chanOf State.nchan
  rw [h.dmc]

theorem ReadsAlike.localOf (h : ReadsAlike s t) (a : Nat) : t.localOf a = s.localOf a := by
  unfold State.localOf State.nchan
  rw [h.dmc]

theorem ReadsAlike.chFailed (h : ReadsAlike s t) (c : Nat) : t.chFailed c = s.chFailed c := by
  unfold State.chFailed State.ch
  rw [h.dmc]

theorem ReadsAlike.remapEnt (h : ReadsAlike s t) (c e : Nat) : t.remapEnt c e = s.remapEnt c e := by
  simp only [State.remapEnt, h.remap]

theorem ReadsAlike.remapOf (h : ReadsAlike s t) (c l : Nat) : t.remapOf c l = s.remapOf c l := by
  simp only [State.remapOf, h.remapEnt]

theorem ReadsAlike.dataBase (h : ReadsAlike s t) : t.dataBase = s.dataBase := by
  simp only [State.dataBase, State.fld, State.reg, h.regs]

theorem ReadsAlike.spareAddr (h : ReadsAlike s t) (c k : Nat) : t.spareAddr c k = s.spareAddr c k := by
  unfold State.spareAddr State.spareLocal State.resvRows State.lineOf State.nchan State.ch
  rw [h.dmc, h.dataBase]

theorem ReadsAlike.erasedDev (h : ReadsAlike s t) (a : Nat) : t.erasedDev a = s.erasedDev a := by
  unfold State.erasedDev State.erasure State.rankOf State.ch
  rw [h.erasure, h.dmc, h.chanOf, h.localOf]

theorem ReadsAlike.resvLine (h : ReadsAlike s t) (a : Nat) : t.resvLine a = s.resvLine a := by
  unfold State.resvLine State.shelfHeld State.shelf
  rw [h.tqm, h.dataBase]

theorem ReadsAlike.dirLineSet (h : ReadsAlike s t) (a : Nat) : t.dirLineSet a = s.dirLineSet a := by
  unfold State.dirLineSet State.dirLine2 State.dirLine State.nchan
  rw [h.dmc, h.fch, h.dataBase]

theorem ReadsAlike.setData (h : ReadsAlike s t) (set : Nat) : t.setData set = s.setData set := by
  unfold State.setData State.way State.pinRsv
  rw [h.fch]

/-- Where the DRAM holds the same, so does the line. -/
theorem ReadsAlike.dline (h : ReadsAlike s t) {a : Nat}
    (hd : Tab.get (fun _ => ({} : DLine)) t.lpr.dram a = Tab.get (fun _ => {}) s.lpr.dram a) : t.dline a = s.dline a := by
  unfold State.dline
  rw [hd, h.resv, h.fch, h.dataBase, h.resvLine, h.dirLineSet]
  simp only [h.setData]

/-- With no line remapped, a line whose DRAM holds the same is read the same. -/
theorem ReadsAlike.peek (h : ReadsAlike s t) (hr : s.lpr.remap = []) {a : Nat}
    (hd : Tab.get (fun _ => ({} : DLine)) t.lpr.dram a = Tab.get (fun _ => {}) s.lpr.dram a) : t.peek a = s.peek a := by
  unfold State.peek State.stored
  rw [h.remap, hr, h.dline hd, h.chanOf, h.chFailed, h.erasedDev]
  rfl

end

/-- An injection that strikes (R207) changes neither the DRAM nor how it is read. -/
theorem injected_readsAlike (s : State) :
    ReadsAlike s (({ s with lpr := { s.lpr with armed := false } }).raise 0x109) ∧
      (({ s with lpr := { s.lpr with armed := false } }).raise 0x109).lpr.dram = s.lpr.dram := by
  refine ⟨⟨?_, ?_, ?_, ?_, ?_, ?_, ?_⟩, ?_⟩ <;> simp only [raise_rest]

/-! ### Accepting a write -/

theorem dmcIssue_readsAlike (s : State) (p : Nat → Bool) : ReadsAlike s (s.dmcIssue p) ∧ (s.dmcIssue p).lpr.dram = s.lpr.dram := by
  let issue : State → Nat → State := fun s a => s.retryPut (s.chanOf a) "WR" a
  unfold State.dmcIssue
  refine ⟨⟨?_, ?_, ?_, ?_, ?_, ?_, ?_⟩, ?_⟩
  · exact foldl_proj (fun u => u.dmc) issue (fun _ _ => rfl) _ _
  · exact foldl_proj (fun u => u.fch) issue (fun _ _ => rfl) _ _
  · exact foldl_proj (fun u => u.tqm) issue (fun _ _ => rfl) _ _
  · exact foldl_proj (fun u => u.regs) issue (fun _ _ => rfl) _ _
  · exact foldl_proj (fun u => u.lpr.remap) issue (fun _ _ => rfl) _ _
  · exact foldl_proj (fun u => u.lpr.erasure) issue (fun _ _ => rfl) _ _
  · exact foldl_proj (fun u => u.lpr.resv) issue (fun _ _ => rfl) _ _
  · exact foldl_proj (fun u => u.lpr.dram) issue (fun _ _ => rfl) _ _

theorem accept_readsAlike (s : State) (a : Nat) (l : DLine) : ReadsAlike s (s.accept a l) := by
  unfold State.accept
  extract_lets mine s1
  have h : ReadsAlike s s1 := by
    unfold s1
    split
    · exact ⟨rfl, rfl, rfl, rfl, rfl, rfl, rfl⟩
    · exact (dmcIssue_readsAlike s _).1
  exact ⟨h.dmc, h.fch, h.tqm, h.regs, h.remap, h.erasure, h.resv⟩

theorem accept_dram (s : State) (a : Nat) (l : DLine) :
    (s.accept a l).lpr.dram = Tab.set (fun _ => {}) s.lpr.dram a l := by
  unfold State.accept
  extract_lets mine s1
  have h : s1.lpr.dram = s.lpr.dram := by
    unfold s1
    split
    · rfl
    · exact (dmcIssue_readsAlike s _).2
  exact congrArg (fun d => Tab.set (fun _ => {}) d a l) h

/-- A written line is worth listing, so it is found under its key. -/
theorem get_set_written (d : Tab DLine) (a : Nat) {l : DLine} (hl : l.written = true) :
    Tab.get (fun _ => ({} : DLine)) (Tab.set (fun _ => {}) d a l) a = l := by
  unfold Tab.set
  rw [if_neg (by rintro rfl; cases hl)]
  exact Tab.get_put_same _ _ _ _

theorem dline_accept_same (s : State) (a : Nat) {l : DLine} (hl : l.written = true) : (s.accept a l).dline a = l := by
  unfold State.dline
  rw [accept_dram, get_set_written _ _ hl]
  exact if_pos hl

/-- A line accepted elsewhere, or the same line again: what was accepted first is still there. -/
theorem dline_accept_again (s : State) (a b : Nat) {l : DLine} (hl : l.written = true) :
    ((s.accept a l).accept b l).dline a = l := by
  have hd : Tab.get (fun _ => ({} : DLine)) ((s.accept a l).accept b l).lpr.dram a = l := by
    rw [accept_dram, accept_dram]
    by_cases hab : a = b
    · subst hab
      exact get_set_written _ _ hl
    · rw [Tab.get_set_other _ _ hab]
      exact get_set_written _ _ hl
  unfold State.dline
  rw [hd]
  exact if_pos hl

/-! ### Writing a line and reading it back -/

/-- A read of a line whose stored form is whole answers it. -/
theorem peek_of_stored {s : State} {a : Nat} {d : Line} {t : Tag} (ha : a < deskKey * 32) (hc : s.chFailed (s.chanOf a) = false)
    (hs : s.stored a = { written := true, data := d, tag := t }) : s.peek a = .good d t [] := by
  unfold State.peek
  rw [if_neg (by omega), if_neg (by simp [hc]), hs]
  rfl

/-- A line put with no injection armed on it is accepted where its remap entry says: its spare, itself, or both. -/
theorem stored_putLine {s : State} {a : Nat} {d : Line} {t : Tag} (ha : a < deskKey * 32) (harm : s.lpr.armed = false)
    (hc : s.chFailed (s.chanOf a) = false) :
    ReadsAlike s (s.putLine a d t) ∧ (s.putLine a d t).stored a = { written := true, data := d, tag := t } := by
  unfold State.putLine
  rw [if_neg (by omega)]
  simp only [harm, Bool.false_and, Bool.false_eq_true, if_false, hc]
  split
  · next hr =>
    have h := accept_readsAlike s a { written := true, data := d, tag := t }
    refine ⟨h, ?_⟩
    rw [State.stored, h.remap, if_pos hr]
    exact dline_accept_same _ _ rfl
  · next hr =>
    split
    · next hm =>
      have h := accept_readsAlike s a { written := true, data := d, tag := t }
      refine ⟨h, ?_⟩
      rw [State.stored, h.remap, if_neg hr, h.chanOf, h.localOf, h.remapOf, hm]
      exact dline_accept_same _ _ rfl
    · next e hm =>
      have h1 := accept_readsAlike s (s.spareAddr (s.chanOf a) (s.remapEnt (s.chanOf a) e).spare)
        { written := true, data := d, tag := t }
      split
      · refine ⟨h1, ?_⟩
        rw [State.stored, h1.remap, if_neg hr, h1.chanOf, h1.localOf, h1.remapOf, hm]
        dsimp only
        rw [h1.remapEnt, h1.spareAddr]
        exact dline_accept_same _ _ rfl
      · have h2 := h1.trans (accept_readsAlike _ a { written := true, data := d, tag := t })
        refine ⟨h2, ?_⟩
        rw [State.stored, h2.remap, if_neg hr, h2.chanOf, h2.localOf, h2.remapOf, hm]
        dsimp only
        rw [h2.remapEnt, h2.spareAddr]
        exact dline_accept_again _ _ _ rfl

/-- With no line remapped, a put touches the DRAM of its own line alone. -/
theorem putLine_other {s : State} {a b : Nat} {d : Line} {t : Tag} (hr : s.lpr.remap = []) (hne : b ≠ a) :
    ReadsAlike s (s.putLine a d t) ∧
      Tab.get (fun _ => ({} : DLine)) (s.putLine a d t).lpr.dram b = Tab.get (fun _ => {}) s.lpr.dram b := by
  unfold State.putLine
  split
  · refine ⟨⟨rfl, rfl, rfl, rfl, rfl, rfl, rfl⟩, ?_⟩
    exact Tab.get_set_other (fun _ => ({} : DLine)) s.lpr.dram (v := { written := true, data := d, tag := t }) hne
  · extract_lets inj cw e1 e2 errs l _ s1 c
    have h1 : ReadsAlike s s1 ∧ s1.lpr.dram = s.lpr.dram := by
      unfold s1
      split
      · exact injected_readsAlike s
      · exact ⟨⟨rfl, rfl, rfl, rfl, rfl, rfl, rfl⟩, rfl⟩
    clear_value s1
    obtain ⟨hlike, hdram⟩ := h1
    rw [if_pos (by rw [hlike.remap, hr]; rfl : s1.lpr.remap.isEmpty = true)]
    split
    · exact ⟨hlike, by rw [hdram]⟩
    · exact ⟨hlike.trans (accept_readsAlike s1 a l), by rw [accept_dram, Tab.get_set_other _ _ hne, hdram]⟩

/-- Settles O6: a put stores the line where reads of its address look for it, and with no remap touches no other line. -/
theorem linesReadBack : Obligations.LinesReadBack := by
  unfold Obligations.LinesReadBack
  refine ⟨fun s a d t ha harm hc => ?_, fun s a b d t hr hne => ?_, fun s a ha hc => ?_, fun s a ha hr hd => ?_⟩
  · obtain ⟨hlike, hst⟩ := stored_putLine (d := d) (t := t) ha harm hc
    exact peek_of_stored ha (by rw [hlike.chanOf, hlike.chFailed, hc]) hst
  · obtain ⟨hlike, hdram⟩ := putLine_other (d := d) (t := t) hr hne
    exact hlike.peek hr hdram
  · unfold State.peek
    rw [if_neg (by omega), if_pos hc]
  · unfold State.peek
    rw [if_neg (by omega)]
    split
    · rfl
    · rw [State.stored, if_pos (by rw [hr]; rfl), hd]
      rfl

/-! ### SNAP (R501) -/

section
variable {α : Type}

/-- A read of a table's part that keeps the key is the table's. -/
theorem Tab.get_filter_keep (d : Nat → α) {p : Nat → Bool} {a : Nat} (hp : p a = true) (t : Tab α) :
    Tab.get d (t.filter (fun e => p e.1)) a = Tab.get d t a := by
  induction t with
  | nil => rfl
  | cons e t ih =>
    obtain ⟨j, v⟩ := e
    by_cases hj : j = a
    · subst hj
      simp [hp, Tab.get]
    · cases hpj : p j <;> simp [hpj, Tab.get, hj, ih]

/-- A table's part that drops the key answers the default there. -/
theorem Tab.get_filter_drop (d : Nat → α) {p : Nat → Bool} {a : Nat} (hp : p a = false) (t : Tab α) :
    Tab.get d (t.filter (fun e => p e.1)) a = d a := by
  induction t with
  | nil => rfl
  | cons e t ih =>
    obtain ⟨j, v⟩ := e
    cases hpj : p j
    · simpa [List.filter_cons, hpj] using ih
    · have hj : j ≠ a := by rintro rfl; simp [hp] at hpj
      simpa [List.filter_cons, hpj, Tab.get, hj] using ih

variable [DecidableEq α]

/-- Setting a list of keys leaves what is read under every other key. -/
theorem Tab.get_foldl_set_other (d : Nat → α) {a : Nat} (l : Tab α) (hl : ∀ e ∈ l, e.1 ≠ a) (t : Tab α) :
    Tab.get d (l.foldl (fun t e => Tab.set d t e.1 e.2) t) a = Tab.get d t a := by
  induction l generalizing t with
  | nil => rfl
  | cons e l ih =>
    rw [List.foldl_cons, ih (fun x hx => hl x (List.mem_cons_of_mem _ hx)),
      Tab.get_set_other d t (hl e List.mem_cons_self).symm]

/-- What stands above a key does not list it. -/
theorem Tab.ne_of_above {d : Nat → α} {k : Nat} {t : Tab α} (hw : Tab.wf d t = true) (h : Tab.above (some k) t = true) :
    ∀ e ∈ t, e.1 ≠ k := by
  induction t with
  | nil => simp
  | cons e t ih =>
    obtain ⟨j, v⟩ := e
    obtain ⟨ha, _, ht⟩ := Tab.wf_cons.mp hw
    have hkj : k < j := by simpa [Tab.above] using h
    intro x hx
    rcases List.mem_cons.mp hx with rfl | hx
    · exact Nat.ne_of_gt hkj
    · exact ih ht (Tab.above_le ha (Nat.le_of_lt hkj)) x hx

/-- Setting a canonical table's entries in a table without the key reads as the canonical table there. -/
theorem Tab.get_foldl_set (d : Nat → α) {a : Nat} {l : Tab α} (hl : Tab.wf d l = true) {t : Tab α} (ht : Tab.get d t a = d a) :
    Tab.get d (l.foldl (fun t e => Tab.set d t e.1 e.2) t) a = Tab.get d l a := by
  induction l generalizing t with
  | nil => exact ht
  | cons e l ih =>
    obtain ⟨j, v⟩ := e
    obtain ⟨ha, hv, hwl⟩ := Tab.wf_cons.mp hl
    rw [List.foldl_cons]
    by_cases hj : j = a
    · subst hj
      rw [Tab.get_foldl_set_other d l (Tab.ne_of_above hwl ha), Tab.set, if_neg hv, Tab.get_put_same, Tab.get, if_pos rfl]
    · rw [ih hwl (by rw [Tab.get_set_other d t (Ne.symm hj), ht]), Tab.get, if_neg hj]

end

/-- The copies of a window that SNAP takes are its live counters. -/
theorem get_copyCounts_same {s : State} {w a : Nat} (ha : winOf a = w) (hc : Tab.wf (fun _ => (0 : W32)) s.cnt = true) :
    Tab.get (fun _ => (0 : W32)) (s.copyCounts w).sh a = Tab.get (fun _ => 0) s.cnt a := by
  have hold : Tab.get (fun _ => (0 : W32)) (Tab.drop (fun k => winOf k == w) s.sh) a = 0 :=
    Tab.get_filter_drop (fun _ => (0 : W32)) (p := fun k => !(winOf k == w)) (by simp [ha]) s.sh
  have hlive : Tab.get (fun _ => (0 : W32)) (s.cnt.filter (fun e => winOf e.1 == w)) a = Tab.get (fun _ => 0) s.cnt a :=
    Tab.get_filter_keep (fun _ => (0 : W32)) (p := fun k => winOf k == w) (by simp [ha]) s.cnt
  exact (Tab.get_foldl_set (fun _ => (0 : W32)) (Tab.wf_filter _ hc) hold).trans hlive

theorem get_copyCounts_other {s : State} {w a : Nat} (ha : winOf a ≠ w) :
    Tab.get (fun _ => (0 : W32)) (s.copyCounts w).sh a = Tab.get (fun _ => 0) s.sh a := by
  refine (Tab.get_foldl_set_other (fun _ => (0 : W32)) _ (fun e he => ?_) _).trans
    (Tab.get_filter_keep (fun _ => (0 : W32)) (p := fun k => !(winOf k == w)) (by simp [ha]) s.sh)
  rintro rfl
  exact ha (by simpa using (List.mem_filter.mp he).2)

/-- SNAP copies the counters, and takes free values in the windows of DRAM channels alone. -/
theorem snap_sh {s : State} {w : Nat} (hw : w < 0x10 ∨ 0x20 ≤ w) (h9 : w ≠ 9) : (s.snap w).sh = (s.copyCounts w).sh := by
  unfold State.snap
  rw [if_neg (by omega)]
  split
  · rfl
  · rfl

theorem laneCount_cnt_regs (s : State) (n : Nat) : (s.laneCount n).cnt = s.cnt ∧ (s.laneCount n).regs = s.regs := by
  unfold State.laneCount
  extract_lets l
  split
  · exact ⟨rfl, rfl⟩
  · exact ⟨rfl, rfl⟩

theorem dftSnap_cnt_regs (s : State) : s.dftSnap.cnt = s.cnt ∧ s.dftSnap.regs = s.regs :=
  ⟨foldl_proj (fun u => u.cnt) State.laneCount (fun u n => (laneCount_cnt_regs u n).1) _ _,
    foldl_proj (fun u => u.regs) State.laneCount (fun u n => (laneCount_cnt_regs u n).2) _ _⟩

/-- One of the copies of a DRAM channel that the model leaves free. -/
def freeCopy (w : Nat) (s : State) (a : Nat) : State :=
  (s.setCopy (a + 0x100000 * (w - 0x10)) (Config.freeWord s.freeCtr)).tickFree

theorem snap_cnt_regs (s : State) (w : Nat) : (s.snap w).cnt = s.cnt ∧ (s.snap w).regs = s.regs := by
  unfold State.snap
  extract_lets s1
  split
  · exact ⟨foldl_proj (fun u => u.cnt) (freeCopy w) (fun _ _ => rfl) _ _, foldl_proj (fun u => u.regs) (freeCopy w) (fun _ _ => rfl) _ _⟩
  · split
    · exact ⟨rfl, rfl⟩
    · split
      · exact dftSnap_cnt_regs s1
      · exact ⟨rfl, rfl⟩

/-- RSV_CMD, which has no field but its SNAP bit. -/
def rsvCmd : RegDef := ⟨0xc00070, 1, 0x0, 1, 0x0, 0x0, 0x0, 0x0, 0x1, 0x0, 0x0⟩

theorem regDefAt_rsvCmd : regDefAt 0xC00070 = some rsvCmd := by decide

theorem rsvCmd_writeFields (s : State) : s.writeFields 1 rsvCmd 0xC00070 1 = s := by
  simp [State.writeFields, rsvCmd]

theorem rsvCmd_fieldActs (s : State) (old : Nat) : s.fieldActs rsvCmd 0xC00070 1 old = s := rfl

theorem rsvCmd_writeActs (s : State) : s.writeActs 1 rsvCmd 0xC00070 1 = s := rfl

theorem rsvCmd_blockCmds (s : State) : s.blockCmds rsvCmd 0xC00070 1 = s.snap 0x0C := by
  have hoff : s.cmdOff 0x0C false = false := by simp [State.cmdOff, cmdDomains]
  have hcmd : s.cmd 0x0C false true (State.snap · 0x0C) = s.snap 0x0C := by simp [State.cmd, hoff]
  exact hcmd

/-- RSV_CMD.SNAP, a bit of a block that no domain turns off, is SNAP of its window. -/
theorem writeReg_rsvSnap (s : State) : s.writeReg 1 0xC00070 1 = s.snap 0x0C := by
  unfold State.writeReg
  rw [show canon 0xC00070 = 0xC00070 by decide, if_neg (by decide), if_neg (by decide), if_neg (by decide), if_neg (by decide),
    regDefAt_rsvCmd]
  dsimp only
  rw [if_neg (by simp [show rawReg 0xC00070 = false by decide]), if_neg (by decide), rsvCmd_writeFields, rsvCmd_fieldActs,
    rsvCmd_writeActs, rsvCmd_blockCmds]

/-- Settles O53: SNAP drops its window's copies and sets its live counters, which are canonical. -/
theorem snapCopiesCounters : Obligations.SnapCopiesCounters := by
  unfold Obligations.SnapCopiesCounters
  refine ⟨writeReg_rsvSnap, fun s w a hw h9 ha _ hc => ?_, fun s w a hw h9 ha => ?_, snap_cnt_regs⟩
  · rw [snap_sh hw h9, get_copyCounts_same ha hc]
  · rw [snap_sh hw h9, get_copyCounts_other ha]

end Sys2Proof.Machine
end

section
/-! PROOF. Tvedfy loads, writes, atomics, abandoned requests and maintenance: O19, O20, O21 and O22. -/

namespace Sys2Proof.Machine

/-! ### A stream written twice, and its one waiting write -/

theorem Tab.put_put {α : Type} (t : Tab α) (k : Nat) (v w : α) : Tab.put (Tab.put t k v) k w = Tab.put t k w := by
  induction t with
  | nil => simp [Tab.put]
  | cons e t ih =>
    obtain ⟨j, x⟩ := e
    simp only [Tab.put]
    split
    · simp [Tab.put]
    · split
      · simp [Tab.put]
      · next h1 h2 => simp [Tab.put, h1, h2, ih]

theorem ne_blank_of_busy {e : EpoSt} {r : Stream} (h : r.st ≠ .idle) : r ≠ e.blank := by
  rintro rfl
  exact h rfl

theorem setStream_busy {s : State} {i : Nat} {r : Stream} (h : r.st ≠ .idle) :
    s.setStream i r = { s with epo := { s.epo with streams := Tab.put s.epo.streams i r } } := by
  unfold State.setStream Tab.set
  rw [if_neg (ne_blank_of_busy h)]

theorem stream_setStream_busy {s : State} {i : Nat} {r : Stream} (h : r.st ≠ .idle) : (s.setStream i r).stream i = r := by
  rw [setStream_busy h]
  exact Tab.get_put_same _ _ _ _

theorem setStream_setStream_busy {s : State} {i : Nat} {r x : Stream} (hr : r.st ≠ .idle) (hx : x.st ≠ .idle) :
    (s.setStream i r).setStream i x = s.setStream i x := by
  rw [setStream_busy hx, setStream_busy hr, setStream_busy hx, Tab.put_put]

theorem ssnJudge_new_iff {a b : Nat} (ha : a < 65536) : ssnJudge a b = .new ↔ a = (b + 1) % 65536 := by
  unfold ssnJudge ssnDiff
  extract_lets d
  constructor
  · intro h
    have hd : d = 1 := by
      by_contra hne
      rw [if_neg hne] at h
      split at h <;> cases h
    omega
  · intro h
    rw [if_pos (by omega)]

section
variable {s : State} {lk i ssn : Nat} {h : BitVec 128} {src : Src}

/-- A new write on an open epoch with nothing before it is tried at once. -/
theorem tvWrite_alone {w : WriteReq} {v : State} (hlk : lk < 32) (hen : s.flag fEPO_CTRL_ENABLE = true)
    (hnew : ssnJudge ssn (s.stream i).lastSsn = .new) (hmode : (s.stream i).mode = false) (hst : (s.stream i).st = .opened)
    (hq : (s.stream i).queue = [])
    (hv : (s.setStream i { s.stream i with lastSsn := ssn, queue := [.write w] }).tryWrite i w [] = .gone v) :
    s.tvWrite lk h i ssn src true (.ok w) = v := by
  unfold State.tvWrite
  rw [if_neg (by simp [hen])]
  dsimp only
  rw [hnew]
  dsimp only
  rw [if_neg (by simp), if_neg (by simp [State.soloHolds, hmode])]
  have hbusy : (s.stream i).st ≠ .idle := by rw [hst]; decide
  have hheld : ¬((s.stream i).st == .closing) = true := by rw [hst]; decide
  rw [if_pos hlk, if_neg hheld, stream_setStream_busy (show ({ s.stream i with lastSsn := ssn } : Stream).st ≠ .idle from hbusy),
    setStream_setStream_busy (by exact hbusy) (by exact hbusy)]
  dsimp only
  rw [hq, List.nil_append]
  have hs := stream_setStream_busy (s := s) (i := i) (r := { s.stream i with lastSsn := ssn, queue := [.write w] }) hbusy
  rw [pumpAll_single (w := w) (by rw [hs]) (by rw [hs]; exact hst), hv]

/-- Settles O20: each clause is a branch of `tvWrite`, and the order of SSNs is R248's difference. -/
theorem writesTakeTheirOrder : Obligations.WritesTakeTheirOrder := by
  unfold Obligations.WritesTakeTheirOrder
  refine ⟨fun s lk i ssn h src desk chk hen hgap => ?_, fun s lk i ssn h src chk hen hnew => ?_,
    fun s v lk i ssn h src w => tvWrite_alone, fun a b ha _ => ssnJudge_new_iff ha⟩
  · unfold State.tvWrite
    rw [if_neg (by simp [hen])]
    dsimp only
    rw [hgap]
  · unfold State.tvWrite
    rw [if_neg (by simp [hen])]
    dsimp only
    rw [hnew]
    rfl

end

/-! ### A write message that passed the gate -/

section
variable {s u : State} {lk i : Nat} {hdr : BitVec 128} {src : Src} {desk fmt : Bool} {need : MapEnt → Bool}
  {size : Nat} {op : Nat → WOp} (hgo : s.tvGate lk hdr fmt = .go u src desk) (hen : u.flag fEPO_CTRL_ENABLE = true)
  (hstr : u.tvStream lk (hStream hdr) = some i)
include hgo hen hstr

theorem tvWriteMsg_ok {lpa owner : Nat} (hmap : u.mapCheck lk (hMap hdr) need (hOffset hdr) size = .ok (lpa, owner)) :
    s.tvWriteMsg lk hdr fmt need none size op = u.tvWrite lk hdr i (hSsn hdr) src desk (.ok
      { src := src, op := op (lpa % 128), line := lpa / 128, ssn := hSsn hdr, owner := owner, host := (u.ctx lk).host, ctx := lk,
        map := hMap hdr, order := u.epo.arrivals }) := by
  unfold State.tvWriteMsg
  rw [hgo]
  dsimp only
  rw [if_neg (by simp [hen]), hstr]
  dsimp only
  rw [hmap]

theorem tvWriteMsg_refused {e : Nat} : s.tvWriteMsg lk hdr fmt need (some e) size op
    = u.tvWrite lk hdr i (hSsn hdr) src desk (.error e) := by
  unfold State.tvWriteMsg
  rw [hgo]
  dsimp only
  rw [if_neg (by simp [hen]), hstr]

end

theorem lineAlign_of_aligned {hdr : BitVec 128} (h : hOffset hdr % 128 = 0) : lineAlign hdr = none := if_pos h
theorem lineAlign_of_misaligned {hdr : BitVec 128} (h : hOffset hdr % 128 ≠ 0) : lineAlign hdr = some rsALIGN := if_neg h

/-- A message of a wrong form never goes on. -/
theorem tvGate_wrongForm {s : State} {lk : Nat} {hdr : BitVec 128} {u : State} {src : Src} {desk : Bool} :
    s.tvGate lk hdr false ≠ .go u src desk := by
  unfold State.tvGate
  split
  · simp
  · split
    · simp
    · split <;> simp

/-- A load whose folios are all at hand reads its lines and is answered. -/
theorem runLoad_readable {u x v : State} {l : LoadReq} {b : List Byte} (hbehind : u.loadBehind l = false)
    (hhaz : (foliosOf l.lpa l.len).any u.hazFull = false) (hx : x = (foliosOf l.lpa l.len).foldl State.lookup u)
    (hread : ∀ f ∈ foliosOf l.lpa l.len, x.readable f = true) (hsrc : ∀ a t, l.src ≠ .cir a t)
    (hv : ((foliosOf l.lpa l.len).foldl (fun x f => match x.findWay f with | some k => x.access k false | none => x.fillTouch f)
      x).readLines ((l.lpa + (l.len - 1)) / 128 - l.lpa / 128 + 1) (l.lpa / 128) = (v, .ok b)) :
    u.runLoad l = (v.spend l.owner 0 ((l.lpa + (l.len - 1)) / 128 - l.lpa / 128 + 1)).answer l.src
      (.data ((b.drop (l.lpa % 128)).take l.len) false false) := by
  unfold State.runLoad
  have hfind : (foliosOf l.lpa l.len).find? (fun f => !x.readable f) = none :=
    List.find?_eq_none.mpr fun f hf => by simp [hread f hf]
  dsimp only
  rw [if_neg (by simp [hbehind]), if_neg (by simp [hhaz]), ← hx, hfind]
  dsimp only
  have htile : (match l.src with | .cir .. => true | _ => false) = false := by
    split
    · next a t hs => exact absurd hs (hsrc a t)
    · rfl
  split
  · next v' b' hr =>
    obtain ⟨rfl, hb⟩ := Prod.mk.inj (hr.symm.trans hv)
    cases hb
    exact congrArg (State.answer · l.src _) (if_neg (by rw [Bool.not_eq_true]; exact htile))
  · next hr => cases hr.symm.trans hv

/-- Settles O19: what passes the gate and the map check runs as a load, or goes to its stream's order. -/
theorem tvedfyAccesses : Obligations.TvedfyAccesses := by
  unfold Obligations.TvedfyAccesses
  refine ⟨fun s u x v lk lpa owner hdr src b hgo hmap hbehind hhaz hx hread hsrc hv => ?_, fun s u lk e hdr src hgo hmap => ?_,
    fun s u lk i lpa owner hdr data src desk hgo hen hstr hal hmap => ?_, fun s u lk i hdr data src desk hgo hen hstr hal => ?_,
    fun s u lk i lpa owner hdr mask data src desk hgo hen hstr hal hmap => ?_,
    fun s u lk i lpa owner hdr a b src desk _ hgo hen hstr hal hmap => ?_⟩
  · have hrun := runLoad_readable
      (l := { src := src, lpa := lpa, len := hLen hdr, owner := owner, ctx := lk, map := hMap hdr, order := u.epo.arrivals })
      hbehind hhaz hx hread hsrc hv
    unfold Does exec execLoad
    dsimp only
    rw [hgo]
    dsimp only
    rw [if_neg (by simp), hmap]
    exact congrArg finish hrun
  · unfold Does exec execLoad
    dsimp only
    rw [hgo]
    dsimp only
    rw [if_neg (by simp), hmap]
    rfl
  · refine Does.of_eq rfl ?_
    rw [lineAlign_of_aligned hal]
    exact tvWriteMsg_ok hgo hen hstr hmap
  · refine Does.of_eq rfl ?_
    rw [lineAlign_of_misaligned hal]
    exact tvWriteMsg_refused hgo hen hstr
  · have hmask : mask ≠ 0 := by
      rintro rfl
      exact tvGate_wrongForm (by simpa using hgo)
    refine Does.of_eq rfl ?_
    rw [if_neg hmask, lineAlign_of_aligned hal]
    have hne : (mask != 0) = true := bne_iff_ne.mpr hmask
    rw [hne, Bool.and_true] at hgo
    exact tvWriteMsg_ok hgo hen hstr hmap
  · refine Does.of_eq rfl ?_
    rw [if_pos hal]
    exact tvWriteMsg_ok hgo hen hstr hmap

/-! ### ABANDON and EVENT_DONE -/

/-- Settles O21: an abandoned request is answered when it passes the gate; an event completes the source it names. -/
theorem abandonAndEvents : Obligations.AbandonAndEvents := by
  unfold Obligations.AbandonAndEvents
  refine ⟨fun s u lk i hdr src desk hk hgo hstr hnew => ?_, fun s u lk i hdr src desk hk hgo hstr hnew => ?_,
    fun s u lk hdr src desk hk hgo => ?_, fun s lk hdr hlk hst hsaid hfmt hact => ?_, fun s lk hdr hlk hst hbad => ?_⟩
  · refine Does.of_eq rfl ?_
    unfold State.tvAbandon
    rw [if_neg (by simp [hk])]
    dsimp only
    rw [show (0 == 0 || zeroBits hdr 63 48) = true from rfl, hgo]
    dsimp only
    rw [if_pos rfl, hstr]
    dsimp only
    rw [if_pos hnew]
  · refine Does.of_eq rfl ?_
    unfold State.tvAbandon
    rw [if_neg (by simp [hk])]
    dsimp only
    rw [show (0 == 0 || zeroBits hdr 63 48) = true from rfl, hgo]
    dsimp only
    rw [if_pos rfl, hstr]
    dsimp only
    rw [if_neg hnew]
  · refine Does.of_eq rfl ?_
    unfold State.tvAbandon
    rw [if_neg (by simp [hk])]
    dsimp only
    rw [show (1 == 0 || zeroBits hdr 63 48) = zeroBits hdr 63 48 from rfl, hgo]
    dsimp only
    rw [if_neg (by decide)]
  · refine Does.of_eq rfl ?_
    rw [if_neg (by simp [hst]; omega)]
    dsimp only
    rw [if_neg (by simp [hfmt, hsaid]), State.complete, if_pos hact]
  · refine Does.of_eq rfl ?_
    rw [if_neg (by simp [hst]; omega)]
    dsimp only
    rcases hbad with h | h
    · rw [if_pos (.inl (by rw [h]; rfl))]
    · rw [if_pos (.inr (by rw [h]; rfl))]

/-! ### MAINT -/

section
variable {s u : State} {lk mop lpa owner : Nat} {hdr slot1 : BitVec 128} {src : Src}

/-- The right that a maintenance operation needs of its map (R140). -/
def maintNeed (u : State) (mop : Nat) (e : MapEnt) : Bool :=
  if mop = 0 ∨ mop = 3 then e.r else e.w && u.flag fTQM_CTRL_PLACE_HOST

theorem tvMaint_ok (hmop : hMop hdr = mop) (hgo : s.tvGate lk hdr (maintFormat hdr slot1) = .go u src true)
    (hlen : bitsOf slot1.toNat 30 0 ≤ 2 ^ 30)
    (hmap : u.mapCheck lk (hMap hdr) (maintNeed u mop) (hOffset hdr) (max 1 (bitsOf slot1.toNat 30 0)) = .ok (lpa, owner)) :
    s.tvMaint lk hdr slot1 mop = u.maintAll src lk mop lpa (bitsOf slot1.toNat 30 0) hdr := by
  unfold State.tvMaint
  rw [if_neg (by simp [hmop])]
  unfold maintFormat at hgo
  dsimp only
  rw [hgo]
  dsimp only
  rw [if_neg (by simp), if_neg (by omega)]
  unfold maintNeed at hmap
  rw [hmap]
  rfl

theorem tvMaint_denied {e : Nat} (hmop : hMop hdr = mop) (hgo : s.tvGate lk hdr (maintFormat hdr slot1) = .go u src true)
    (hlen : bitsOf slot1.toNat 30 0 ≤ 2 ^ 30)
    (hmap : u.mapCheck lk (hMap hdr) (maintNeed u mop) (hOffset hdr) (max 1 (bitsOf slot1.toNat 30 0)) = .error e) :
    s.tvMaint lk hdr slot1 mop = u.tvDeny src e := by
  unfold State.tvMaint
  rw [if_neg (by simp [hmop])]
  unfold maintFormat at hgo
  dsimp only
  rw [hgo]
  dsimp only
  rw [if_neg (by simp), if_neg (by omega)]
  unfold maintNeed at hmap
  rw [hmap]

theorem maintNeed_read (h : mop = 0 ∨ mop = 3) : maintNeed u mop = (·.r) := funext fun _ => if_pos h

theorem maintNeed_write (h : mop = 1 ∨ mop = 2) (hp : u.flag fTQM_CTRL_PLACE_HOST = true) : maintNeed u mop = (·.w) :=
  funext fun _ => (if_neg (by omega)).trans (by rw [hp, Bool.and_true])

/-- Without PLACE_HOST no map gives the right. -/
theorem mapCheck_noPlaceHost {m off size : Nat} (h : mop = 1 ∨ mop = 2) (hp : u.flag fTQM_CTRL_PLACE_HOST = false) :
    u.mapCheck lk m (maintNeed u mop) off size = .error rsACCESS := by
  unfold State.mapCheck maintNeed
  rw [if_pos (.inr (by rw [if_neg (by omega), hp]; simp))]

end

/-- A range of one aligned folio touches it alone. -/
theorem maintFolios_folio {lpa : Nat} (h : lpa % 4096 = 0) : maintFolios lpa 4096 = [lpa / 4096] := by
  have hone : (lpa + (4096 - 1)) / 4096 - lpa / 4096 + 1 = 1 := by omega
  simp only [maintFolios, foliosOf, hone]
  simp [upTo]

/-- Settles O22: what passes the gate, the length and the map check runs on every folio; ZERO goes to its stream's order. -/
theorem tvedfyMaintenance : Obligations.TvedfyMaintenance := by
  unfold Obligations.TvedfyMaintenance
  refine ⟨fun s u lk lpa owner hdr slot1 src hmop hgo hlen hmap => ?_, fun s u lk lpa owner hdr slot1 src hmop hgo hlen hmap => ?_,
    fun s u lk lpa owner hdr slot1 src hmop hgo hlen hp hmap => ?_, fun s u lk lpa owner hdr slot1 src hmop hgo hlen hp hmap => ?_,
    fun s u lk hdr slot1 src hmop hgo hlen hp => ?_, fun s u lk hdr slot1 src hmop hgo hlen hp => ?_,
    fun s u lk i lpa owner hdr slot1 src hmop hgo hen hstr hlen hal hmap hlpa => ?_⟩
  · exact Does.of_eq rfl (tvMaint_ok hmop hgo hlen (maintNeed_read (u := u) (.inl rfl) ▸ hmap))
  · exact Does.of_eq rfl (tvMaint_ok hmop hgo hlen (maintNeed_read (u := u) (.inr rfl) ▸ hmap))
  · exact Does.of_eq rfl (tvMaint_ok hmop hgo hlen (maintNeed_write (.inl rfl) hp ▸ hmap))
  · exact Does.of_eq rfl (tvMaint_ok hmop hgo hlen (maintNeed_write (.inr rfl) hp ▸ hmap))
  · exact Does.of_eq rfl (tvMaint_denied hmop hgo hlen (mapCheck_noPlaceHost (.inl rfl) hp))
  · exact Does.of_eq rfl (tvMaint_denied hmop hgo hlen (mapCheck_noPlaceHost (.inr rfl) hp))
  · unfold Does exec execMaintZero
    unfold maintFormat at hgo
    dsimp only
    rw [if_neg (by simp [hmop]), hgo]
    dsimp only
    rw [if_neg (by simp [hen]), hstr, hlen]
    dsimp only
    rw [if_neg (by decide), if_neg (by simp [hal]), show max 1 4096 = 4096 by decide, hmap]
    dsimp only
    rw [maintFolios_folio hlpa]
    rfl

end Sys2Proof.Machine
end

section
/-! PROOF. What an answer and a mirrored frame leave alone; epochs, their queries, maps and placement: O23, O24 and O25. -/

namespace Sys2Proof.Machine

/-! ### What an answer leaves alone -/

/-- The parts of the state that an answer to a requester never changes: it touches the link's flits, the buffer pools, the
tenants' desk charges, counters, interrupts, the daybook and the finished answers. -/
def State.apart (s : State) :=
  (s.regs, s.epo, s.fch, s.rsv, s.lpr, s.stk, s.twn, s.dmc, s.eth, s.nre, s.cir, s.sup, s.pwr, s.cru, s.rgc, s.efl, s.sec,
    s.dft, s.ports)

section
variable (s : State)

@[simp] theorem bump_apart (a : Nat) : (s.bump a).apart = s.apart := by simp [State.apart]
@[simp] theorem raise_apart (n : Nat) : (s.raise n).apart = s.apart := by simp [State.apart]
@[simp] theorem note_apart (c : Nat) (ws : List Nat) : (s.note c ws).apart = s.apart := by simp [State.apart]
@[simp] theorem emit_apart (e : Emit) : (s.emit e).apart = s.apart := rfl
@[simp] theorem setTvl_apart (n : Nat) (x : TvLink) : (s.setTvl n x).apart = s.apart := rfl
@[simp] theorem setTenant_apart (t : Nat) (r : Tenant) : (s.setTenant t r).apart = s.apart := by simp [State.apart]
@[simp] theorem setGrp_apart (n : Nat) (g : Grp) : (s.setGrp n g).apart = s.apart := by simp [State.apart]

theorem bpm_apart (b : BpmSt) : ({ s with bpm := b } : State).apart = s.apart := rfl

@[simp] theorem fecPut_apart (lk : Nat) (bits : List Bool) : (s.fecPut lk bits).apart = s.apart := by
  unfold State.fecPut
  dsimp only
  split <;> rfl

@[simp] theorem putFlit_apart (lk : Nat) (f : Flit) (nak : Bool) : (s.putFlit lk f nak).apart = s.apart := by
  unfold State.putFlit
  simp only [fecPut_apart, emit_apart, setTvl_apart]

@[simp] theorem sendFlit_apart (lk ty first : Nat) (slots : List (BitVec 128)) :
    (s.sendFlit lk ty first slots).apart = s.apart := by
  unfold State.sendFlit
  dsimp only
  split
  · simp only [putFlit_apart, setTvl_apart]
  · simp only [bump_apart, putFlit_apart, setTvl_apart]

@[simp] theorem tvSend_apart (lk : Nat) (r : TvResp) : (s.tvSend lk r).apart = s.apart := by
  unfold State.tvSend
  dsimp only
  split
  · rfl
  · split
    · simp only [sendFlit_apart, emit_apart, setTvl_apart]
    · exact setTvl_apart _ _ _

@[simp] theorem bpmReturn_apart (ptr owner : Nat) : (s.bpmReturn ptr owner).apart = s.apart := by
  unfold State.bpmReturn
  split
  · dsimp only
    split
    · rfl
    · exact setTenant_apart _ _ _
  · dsimp only
    split
    · rw [bump_apart, raise_apart, bpm_apart]
    · rw [note_apart, bpm_apart, bump_apart, raise_apart, bpm_apart]

@[simp] theorem answer1_apart (src : Src) (a : Ans) : (s.answer1 src a).apart = s.apart := by
  unfold State.answer1
  split
  · rfl
  · dsimp only
    split <;> split <;> simp
  · rfl

@[simp] theorem answer_apart (src : Src) (a : Ans) : (s.answer src a).apart = s.apart := by
  unfold State.answer State.answerAt
  split
  · dsimp only
    split
    · simp only [answer1_apart, setGrp_apart]
    · exact setGrp_apart _ _ _
  · exact answer1_apart _ _ _

@[simp] theorem answer_epo (src : Src) (a : Ans) : (s.answer src a).epo = s.epo :=
  congrArg (fun x => x.2.1) (answer_apart s src a)

end

/-! ### What a mirrored frame leaves alone -/

@[simp] theorem mirror_epo (s : State) (f : MFrame) (lines : List Nat) : (s.mirror f lines).1.epo = s.epo := by
  unfold State.mirror
  split
  · simp [State.twinWait, State.emit]
  · split
    · exact foldl_proj (fun u => u.epo) (fun s l => s.mark (regionOf l)) (fun u l => by unfold State.mark; split <;> rfl) _ _
    · rfl

theorem stream_of_epo {s t : State} (h : t.epo = s.epo) (i : Nat) : t.stream i = s.stream i := by
  unfold State.stream
  rw [h]

theorem bump_stream (s : State) (a i : Nat) : (s.bump a).stream i = s.stream i := stream_of_epo (by simp only [bump_rest]) i

theorem freeSegs_stream (s : State) (tenant : Nat) (l : List Nat) (i : Nat) : (s.freeSegs tenant l).stream i = s.stream i := by
  unfold State.freeSegs State.stream
  simp only [setTenant_rest]
  rfl

/-! ### EPOCH messages -/

section
variable {s u : State} {lk eop i : Nat} {hdr : BitVec 128} {src : Src}

/-- An EPOCH message in its turn runs its operation. -/
theorem tvEpoch_turn (h : EpochTurn s lk eop hdr u src i) (body : State → Src → Nat → State) :
    s.tvEpoch lk hdr eop body = body u src i := by
  obtain ⟨heop, hgo, hen, hstr⟩ := h
  unfold State.tvEpoch
  rw [if_neg (by simp [heop]), hgo]
  dsimp only
  rw [if_neg (by simp [hen]), if_neg (by simp), hstr]

theorem does_epochOpen_live (h : EpochTurn s lk 0 hdr u src i) (hst : (u.stream i).st = .opened ∨ (u.stream i).st = .closing) :
    Does (.epochOpen lk hdr) s (u.answer src (.ack false false false 4 (u.stream i).epoch (u.stream i).lastSsn
      (u.stream i).mode 0)) := by
  refine Does.of_eq rfl ?_
  rw [tvEpoch_turn h]
  dsimp only
  rcases hst with hst | hst <;> rw [hst]

theorem does_epochOpen_idle (h : EpochTurn s lk 0 hdr u src i) (hst : (u.stream i).st = .idle) (hrep : (u.stream i).report = none)
    {v w : State} (hv : v = u.openEpoch i (hdr.getLsbD 113) (u.ctx lk).host (hStream hdr) (u.ctx lk).tenant)
    (hw : w = v.mirror_ (.epoch i 0 0 (hdr.getLsbD 113) false false (v.stream i).epoch)) :
    Does (.epochOpen lk hdr) s (w.answer src (.ack false false false 0 (w.stream i).epoch (w.stream i).lastSsn
      (w.stream i).mode 0)) := by
  subst hv hw
  refine Does.of_eq rfl ?_
  rw [tvEpoch_turn h]
  dsimp only
  rw [hst]
  dsimp only
  rw [hrep, if_neg (by simp)]

end

/-- An epoch that opens starts afresh, its SSN going on (R65). -/
theorem openEpoch_stream (u : State) (i : Nat) (m : Bool) (w f t : Nat) :
    ((u.openEpoch i m w f t).stream i).st = .opened ∧ ((u.openEpoch i m w f t).stream i).epoch = ((u.stream i).epoch + 1) % 4096
      ∧ ((u.openEpoch i m w f t).stream i).entries = [] ∧ ((u.openEpoch i m w f t).stream i).mode = m
      ∧ ((u.openEpoch i m w f t).stream i).lastSsn = (u.stream i).lastSsn := by
  unfold State.openEpoch
  extract_lets r others s1 s2
  rw [stream_setStream_busy (by simp)]
  exact ⟨rfl, rfl, rfl, rfl, rfl⟩

/-- A close that stands alone in its open stream's order is judged at once. -/
def State.closing (s : State) (i : Nat) (src : Src) (e : Nat) (sm m fin : Bool) : State :=
  s.setStream i { s.stream i with
    st := .closing
    queue := [.close src e sm m fin]
    close := some { src := src, setMode := sm, mode := m, fin := fin, waiting := true } }

theorem closing_stream (s : State) (i : Nat) (src : Src) (e : Nat) (sm m fin : Bool) :
    (s.closing i src e sm m fin).stream i = { s.stream i with
      st := .closing
      queue := [.close src e sm m fin]
      close := some { src := src, setMode := sm, mode := m, fin := fin, waiting := true } } :=
  stream_setStream_busy (by simp)

section
variable {s : State} {i : Nat} {src : Src} {e : Nat} {sm m fin : Bool}

theorem closeArrive_alone (hst : (s.stream i).st = .opened) (hq : (s.stream i).queue = [])
    (he : epochDiff (s.stream i).epoch e = 0) :
    s.closeArrive i src e sm m fin = (s.closing i src e sm m fin).judgeClose i src e sm m fin [] := by
  have hopen : ({ s.stream i with queue := [.close src e sm m fin] } : Stream).st ≠ .idle := by
    dsimp only
    rw [hst]
    decide
  have hmark : (s.setStream i { s.stream i with queue := [.close src e sm m fin] }).closeMark i = s.closing i src e sm m fin := by
    unfold State.closeMark
    rw [stream_setStream_busy hopen]
    dsimp only
    rw [if_pos hst]
    simp only [List.find?_cons, he, BEq.rfl]
    exact setStream_setStream_busy hopen (by simp)
  have hs := closing_stream s i src e sm m fin
  unfold State.closeArrive
  dsimp only
  rw [hq, List.nil_append, hmark]
  unfold State.pumpAll
  rw [hs]
  simp only [List.length_cons, List.length_nil, State.pump, hs, Stream.closeWaits]
  rfl

/-- The close of the current epoch takes a live stream to CLOSING, whatever of it was mirrored (R67). -/
theorem judgeClose_current {rest : List SItem} (hl : (s.stream i).live = true) (he : epochDiff (s.stream i).epoch e = 0) :
    ∃ k : Option Nat, (s.judgeClose i src e sm m fin rest).stream i = { s.stream i with
      queue := rest
      st := .closing
      close := some { src := src, setMode := sm, mode := m, fin := fin, mseq := k, digestOk := k.isNone } } := by
  have hbusy : (s.stream i).st ≠ .idle := by
    intro h
    simp [Stream.live, h] at hl
  unfold State.judgeClose
  dsimp only
  rw [if_pos hl, if_pos he]
  obtain ⟨p, hp⟩ : ∃ p, p = (s.setStream i { s.stream i with queue := rest }).mirror
    (.epoch i 1 0 m fin sm (s.stream i).epoch) [] := ⟨_, rfl⟩
  have hepo : p.1.stream i = { s.stream i with queue := rest } := by
    rw [hp, stream_of_epo (mirror_epo _ _ _), stream_setStream_busy (by exact hbusy)]
  rw [← hp]
  refine ⟨p.2, ?_⟩
  rw [stream_setStream_busy (by simp), hepo]

end

/-- Where the final close of a stream with nothing waiting is committed, the stream is IDLE in its last epoch (R67, R70). -/
theorem commitClose_final {s : State} {i : Nat} {c : CloseSt} {answer unknown : Bool} (hst : (s.stream i).st = .closing)
    (hc : (s.stream i).close = some c) (hq : (s.stream i).queue = []) (hfin : c.fin = true)
    (hw : Tab.wf (fun _ => s.epo.blank) s.epo.streams = true) :
    ∃ x : Stream, (s.commitClose i answer unknown).stream i = x ∧ x.st = .idle ∧ x.epoch = (s.stream i).epoch ∧ x.segs = [] := by
  unfold State.commitClose
  extract_lets r e1
  split
  · next c' _ hc' =>
    obtain rfl : c = c' := Option.some.inj (hc.symm.trans hc')
    extract_lets r1 s1 s2
    have h1 : s1.stream i = r1 := by
      unfold s1
      rw [bump_stream, freeSegs_stream]
      exact Tab.get_set_same hw
    have h2 : s2.stream i = r1 := by
      unfold s2
      split
      · exact h1
      · split <;> rw [stream_of_epo (answer_epo _ _ _), h1]
    have hidle : r1.st = .idle := if_pos hfin
    have hmark : s2.closeMark i = s2 := by
      unfold State.closeMark
      rw [h2]
      dsimp only
      rw [hidle]
      rfl
    have hpump : s2.pumpAll i = s2 := by
      unfold State.pumpAll
      rw [h2, show r1.queue = [] from hq]
      rfl
    exact ⟨r1, by rw [hmark, hpump, h2], hidle, if_pos hfin, rfl⟩
  · next h => exact absurd hc (h c hst)

/-- Settles O23: OPEN and CLOSE in their turn, and a commit point that is or is not reached. -/
theorem epochOpenAndClose : Obligations.EpochOpenAndClose := by
  unfold Obligations.EpochOpenAndClose
  refine ⟨fun s u lk i hdr src h hst hrep => ⟨_, _, rfl, rfl, does_epochOpen_idle h hst hrep rfl rfl⟩,
    fun s u lk i hdr src h hst => does_epochOpen_live h hst, openEpoch_stream, fun s u lk i hdr src h hst hq he => ?_,
    fun s i c hready hst hc hq hfin hw => ?_, fun s i hready => Does.of_eq rfl (if_neg (by simp [hready]))⟩
  · have hc := closing_stream u i src (hEpoch hdr) (hdr.getLsbD 114) (hdr.getLsbD 113) (hdr.getLsbD 115)
    obtain ⟨m, hm⟩ := judgeClose_current (s := u.closing i src (hEpoch hdr) (hdr.getLsbD 114) (hdr.getLsbD 113) (hdr.getLsbD 115))
      (i := i) (src := src) (e := hEpoch hdr) (sm := hdr.getLsbD 114) (m := hdr.getLsbD 113) (fin := hdr.getLsbD 115) (rest := [])
      (by rw [hc]; rfl) (by rw [hc]; exact he)
    refine ⟨_, m, Does.of_eq rfl ((tvEpoch_turn h _).trans (closeArrive_alone hst hq he)), ?_⟩
    rw [hm, hc]
    exact ⟨rfl, rfl, rfl, rfl⟩
  · obtain ⟨x, hx, hcommitted⟩ := commitClose_final (answer := s.holder) (unknown := false) hst hc hq hfin hw
    exact ⟨_, Does.of_eq rfl (if_pos hready), hx ▸ hcommitted⟩

/-! ### Queries, releases and reports -/

theorem reportRead_ready {s : State} {i index : Nat} {r : Report} (hr : (s.stream i).report = some r) (hb : r.building = false)
    (hne : ((r.records i (s.stream i).writer (s.stream i).field).drop index).take 14 ≠ []) :
    s.reportRead i index = .data ((((r.records i (s.stream i).writer (s.stream i).field).drop index).take 14).flatMap
      (fun x => leBytes 16 x.toNat)) false false := by
  unfold State.reportRead
  dsimp only
  rw [hr]
  dsimp only
  rw [if_neg (by simp [hb]), if_neg (by simpa using hne)]

theorem reportRead_none {s : State} {i index : Nat} (hr : (s.stream i).report = none) : s.reportRead i index = .status 0xC := by
  unfold State.reportRead
  dsimp only
  rw [hr]

theorem does_epochQueryLine {s u : State} {lk i lpa owner : Nat} {hdr : BitVec 128} {src : Src} (h : EpochTurn s lk 3 hdr u src i)
    (hmap : u.mapCheck lk (hMap hdr) (fun _ => true) (hOffset hdr) 1 = .ok (lpa, owner)) :
    Does (.epochQueryLine lk hdr) s (u.queryAsk src i (lpa / 128) lk (hMap hdr)) := by
  refine Does.of_eq rfl ?_
  rw [tvEpoch_turn h, hmap]

theorem buildReport_building {s : State} {i : Nat} {r : Report} (hr : (s.stream i).report = some r) (hb : r.building = true) :
    s.buildReport i = s.setStream i { s.stream i with
      report := some { r with building := false, entries := r.entries.map (s.verdictOf (s.stream i) r.entries), reads := [] } } := by
  unfold State.buildReport
  dsimp only
  rw [hr]
  dsimp only
  rw [if_neg (by simp [hb])]

/-- Settles O24: each query in its turn answers from the stream; a report whose folios are at hand is built. -/
theorem epochQueries : Obligations.EpochQueries := by
  unfold Obligations.EpochQueries
  refine ⟨fun s u lk i hdr src h => Does.of_eq rfl (tvEpoch_turn h _), fun s u lk i lpa owner hdr src h hmap hno => ?_,
    fun s u lk i lpa owner hdr src h hmap hyes => ?_, fun s u lk i hdr src h hr => ?_, fun s u lk i hdr src r h hr hb hne => ?_,
    fun s u lk i hdr src r h hr hb => ?_, fun s u lk i hdr src h hr => ?_, fun s i r hi hr hb hneed => ?_,
    fun s i r hr hb hneed => ?_⟩
  · have hask : u.queryAsk src i (lpa / 128) lk (hMap hdr) = u.answer src (u.queryLine i (lpa / 128)) :=
      if_neg (by rw [hno]; decide)
    exact hask ▸ does_epochQueryLine h hmap
  · have hask : u.queryAsk src i (lpa / 128) lk (hMap hdr) = u.verdictFill (lpa / 128 / 32) (.query src i (lpa / 128) lk (hMap hdr)) :=
      if_pos hyes
    exact hask ▸ does_epochQueryLine h hmap
  · exact Does.of_eq rfl ((tvEpoch_turn h _).trans (by rw [reportRead_none hr]))
  · exact Does.of_eq rfl ((tvEpoch_turn h _).trans (by rw [reportRead_ready hr hb hne]))
  · refine Does.of_eq rfl ((tvEpoch_turn h _).trans ?_)
    rw [hr]
    dsimp only
    rw [if_neg (by simp [hb])]
  · refine Does.of_eq rfl ((tvEpoch_turn h _).trans ?_)
    rw [hr]
  · refine Does.of_eq rfl ?_
    rw [hr]
    dsimp only
    rw [if_neg (by simp [hb]), if_neg (by simp [hneed]), if_neg (by omega), buildReport_building hr hb]
  · refine Does.of_eq rfl ?_
    rw [hr]
    dsimp only
    rw [if_neg (by simp [hb]), if_pos (by simpa using hneed)]

/-! ### Maps and placement -/

section
variable {s u v : State} {lk m : Nat} {hdr : BitVec 128} {src : Src}

/-- What a MAP OPEN that passes the gate asks of the map table (R255). -/
abbrev State.mapAsked (u : State) (lk : Nat) (hdr : BitVec 128) : State × Nat × Nat :=
  u.openMap lk (bitsOf hdr.toNat 95 48) (hdr.getLsbD 96) (hdr.getLsbD 97) (hdr.getLsbD 98) (bitsOf hdr.toNat 114 99)

theorem does_mapOpen {t : State} (hk : bitsOf hdr.toNat 35 32 ≠ 1) (hgo : s.tvGate lk hdr (mapOpenFormat hdr) = .go u src true)
    {st : Nat} (ho : u.mapAsked lk hdr = (v, st, m))
    (ht : (if st = 0 then
      ((if v.tqm.maps.length > u.tqm.maps.length then v.mirror_ (.service (.mapOpen lk (bitsOf hdr.toNat 95 48) (hdr.getLsbD 96)
        (hdr.getLsbD 97) (hdr.getLsbD 98) (bitsOf hdr.toNat 114 99)) 0 0) else v).bumpFld fTQM_CNT_MAP_OPEN).answer src
          (.ack false false false 0 0 0 false m)
      else ((v.bumpFld fTQM_CNT_MAP_REFUSED).raise 0x152).answer src (.status st)) = t) :
    Does (.mapOpen lk hdr) s t := by
  subst ht
  unfold Does exec execMapOpen
  unfold mapOpenFormat at hgo
  dsimp only
  rw [if_neg hk, hgo]
  dsimp only
  unfold State.mapAsked at ho
  rw [if_neg (by simp), ho]
  dsimp only
  split <;> rfl

theorem openMap_first {c h cookie : Nat} {o : Obj} (ho : u.liveObj h = some o)
    (hr : u.rightsOf (u.ctx c).tenant h = (true, true, true)) (hm : u.tqm.maps = []) :
    u.openMap c h true true true cookie
      = (u.setMap c 0 { valid := true, handle := h, r := true, w := true, a := true, cookie := cookie }, 0, 0) := by
  unfold State.openMap
  rw [ho]
  dsimp only
  rw [hr, hm]
  rfl

/-- A PLACE through a map that gives the write right, on a live object that is not uncatalogued, to a class that is not either. -/
theorem execPlace_live {o : Obj} (hgo : s.tvGate lk hdr (placeFormat hdr) = .go u src true)
    (hv : (u.mapEnt lk (hMap hdr)).valid = true) (hw : (u.mapEnt lk (hMap hdr)).w = true)
    (ho : u.liveObj (u.mapEnt lk (hMap hdr)).handle = some o) (h3 : hPlace hdr ≠ 3) (ho3 : o.cls ≠ 3) :
    execPlace lk hdr s = (if o.cls = hPlace hdr then finish (u.answer src .ok)
      else if !(if o.cls = 2 ∨ hPlace hdr = 2 then u.flag fTQM_CTRL_PIN_HOST else u.flag fTQM_CTRL_PLACE_HOST) then
        finish (u.answer src (.status 2))
      else match u.placeObj (u.mapEnt lk (hMap hdr)).handle (hPlace hdr) with
        | (s2, 0, 0) => finish ((s2.mirror_ (.service (.place lk (hMap hdr) (hPlace hdr)) 0 0)).answer src .ok)
        | (s2, 0, q) => finish (s2.answer src (.quota q))
        | (s2, st, _) => finish (s2.answer src (.status st))) := by
  unfold execPlace
  unfold placeFormat at hgo
  dsimp only
  rw [hgo]
  dsimp only
  rw [if_neg (by simp), if_pos ⟨hv, hw⟩, ho]
  exact if_neg (by simp [h3, ho3])

end

/-- Settles O25: maps open, close and are placed by the branches of their commands; a promotion with room starts its fill. -/
theorem mapsAndPlacement : Obligations.MapsAndPlacement := by
  unfold Obligations.MapsAndPlacement
  refine ⟨fun s u lk m hdr src hk hgo ho => does_mapOpen hk hgo ho ?_, fun s u v lk m hdr src hk hgo ho hlen => does_mapOpen hk hgo ho ?_,
    fun s u v lk m st hdr src hk hst hgo ho => does_mapOpen hk hgo ho (if_neg hst), fun u c h cookie r w a hl => ?_,
    fun u c h cookie o hl hr hm => openMap_first hl hr hm, fun s u lk hdr src hk hgo hv => ?_, fun s c m src hc hb => ?_,
    fun s c m hb => Does.of_eq rfl (if_neg (by simp [hb])), fun s u lk hdr src o hgo hv hw ho hcls h3 => ?_,
    fun s u v lk hdr src o hgo hv hw ho hcls hp hfl hpl => ?_, fun s u lk hdr src o hgo hv hw ho hcls hp hfl => ?_,
    fun s u f hpr hcls hu hvic hhaz => ?_, fun s f hpr => Does.of_eq rfl (if_neg (by simp [hpr]))⟩
  · rw [if_pos rfl, if_neg (by omega)]
  · rw [if_pos rfl, if_pos hlen]
  · unfold State.openMap
    rw [hl]
  · unfold Does exec execMapClose
    unfold mapCloseFormat at hgo
    dsimp only
    rw [if_neg (by simp [hk]), hgo]
    dsimp only
    rw [if_neg (by simp), if_pos hv]
    rfl
  · refine Does.of_eq rfl ?_
    rw [if_pos (by simp [hc, hb])]
    unfold State.closeMapNow
    dsimp only
    rw [hc]
  · exact (execPlace_live hgo hv hw ho (hcls ▸ h3) h3).trans (if_pos hcls)
  · refine (execPlace_live hgo hv hw ho (by omega) (by omega)).trans ?_
    rw [if_neg (by omega), hp, hcls, if_neg (by simp [hfl]), hpl]
    rfl
  · refine (execPlace_live hgo hv hw ho (by omega) (by omega)).trans ?_
    rw [if_neg (by omega), hp, hcls, if_pos (by simp [hfl])]
    rfl
  · refine Does.of_eq rfl ((if_pos hpr).trans ?_)
    unfold State.promote
    dsimp only
    rw [← hu, if_neg ?_, if_pos hcls]
    rintro (h | ⟨h, _⟩)
    · simp [hhaz] at h
    · rw [Option.isNone_iff_eq_none] at h
      simp [h] at hvic

end Sys2Proof.Machine
end

section
/-! PROOF. RoCE packets on client queue pairs: writes, reads, atomics and commands: O40, O41 and O42. -/

namespace Sys2Proof.Machine

/-! ### A packet that reaches its queue pair -/

/-- The state that a packet's step leaves: one that waits goes back to the head of the miss buffer. -/
def QStep.next (q : Nat) (w : QWait) : QStep → State
  | .done s => s
  | .wait s => s.missAdd q w true

section
variable {s u v t : State} {e op : Nat} {p : RPkt} {q : Nat} {w : QWait}

theorem delivered_pkt (h : Delivered s e op p q w u) : w.pkt = p := by
  obtain ⟨_, _, _, _, _, hw, _⟩ := h
  rw [hw]

theorem delivered_op (h : Delivered s e op p q w u) : w.op = op := by
  obtain ⟨_, _, _, _, _, hw, _⟩ := h
  rw [hw]

/-- A delivered packet runs on its queue pair, or waits at the head of the miss buffer. -/
theorem roceArrive_delivered (h : Delivered s e op p q w u) :
    s.roceArrive e op p = (u.qpRun q w).next q w := by
  obtain ⟨hserves, hq, hqpn, hicrc, hce, hw, v, r, a, htake, hr, haddr, hfl, hcirc, hst, hcard, hu, hwait, hbusy, _, _⟩ := h
  have hsub : p.qpn - 0x100000 = q := by omega
  unfold State.roceArrive
  rw [if_neg (by simp [hserves]), htake]
  dsimp only
  rw [hsub, ← hr, if_neg (by simp [hicrc]), haddr]
  dsimp only
  have hclient : ¬((r.qp q).circ = true ∧ (r.qp q).st = 2 ∧ ((!a.floating) = true ∨ r.floatsHere = true)) := by simp [hcirc]
  have hknown : ¬((a.floating = true ∧ (!r.floatsHere) = true) ∨ p.qpn < 0x100000 ∨ q ≥ 1048576 ∨ (r.qp q).st = 0) := by
    rcases hfl with hfl | hfl <;> simp [hfl, hst] <;> omega
  have hlive : ¬((r.qp q).st = 3 ∨ ((r.qp q).st = 1 ∧ p.psn ≠ (r.qp q).epsn)) := by simp [hst]
  have hrts : ¬(r.qp q).st = 1 := by simp [hst]
  have hnoCe : ¬p.ce = true := by simp [hce]
  have hcarded : ¬(!r.carded q) = true := by simp [hcard]
  have hfirst : ¬((!(u.qp q).waiting.isEmpty) = true ∨ u.qpBusy q op = true) := by simp [hwait, hbusy]
  rw [if_neg hclient, if_neg hknown, if_neg hlive, if_neg hrts, if_neg hnoCe, if_neg hcarded, ← hu, if_neg hfirst, ← hw]
  rfl

/-- A delivered packet finds its queue pair in RTS with no NAK to send. -/
theorem delivered_runs (h : Delivered s e op p q w u) :
    ¬((u.qp q).st ≠ 2 ∨ (u.qp q).out.any (fun o => match o.kind with | .nak .. => true | _ => false) = true) := by
  obtain ⟨_, _, _, _, _, _, _, _, _, _, _, _, _, _, _, _, _, _, _, hst, hout⟩ := h
  rintro (h | h)
  · exact h hst
  · obtain ⟨o, ho, hnak⟩ := List.any_eq_true.mp h
    have := List.all_eq_true.mp hout o ho
    split at hnak
    · next hk =>
      rw [hk] at this
      cases this
    · cases hnak

/-- The next packet in its order is processed as new. -/
theorem roceArrive_expected (h : Expected s e op p q w u) (hnew : u.qpNew q w = .done t) : s.roceArrive e op p = t := by
  obtain ⟨v, hd, hpsn, rfl⟩ := h
  rw [roceArrive_delivered hd]
  have hzero : (w.pkt.psn + 2 ^ 24 - (v.qp q).epsn) % 2 ^ 24 = 0 := by
    rw [delivered_pkt hd, hpsn]
    omega
  have hrun : v.qpRun q w = .done t := (if_neg (delivered_runs hd)).trans ((if_pos hzero).trans hnew)
  rw [hrun]
  rfl

theorem expected_pkt (h : Expected s e op p q w u) : w.pkt = p := by
  obtain ⟨v, hd, _⟩ := h
  exact delivered_pkt hd

theorem expected_op (h : Expected s e op p q w u) : w.op = op := by
  obtain ⟨v, hd, _⟩ := h
  exact delivered_op hd

/-- A packet ahead of its turn, with no NAK on its way, is answered with a sequence NAK (R281). -/
theorem roceArrive_ahead (h : Delivered s e op p q w u) (hpos : 0 < (p.psn + 2 ^ 24 - (u.qp q).epsn) % 2 ^ 24)
    (hlt : (p.psn + 2 ^ 24 - (u.qp q).epsn) % 2 ^ 24 < 2 ^ 23) (hrnr : (u.qp q).rnr = none) (hseq : (u.qp q).seqAt = none) :
    s.roceArrive e op p = ((u.setQp q { u.qp q with seqAt := some u.timeUs }).bump rNRE_CNT_SEQ_NAK).qpSay q w .seqNak none
      (u.qp q).epsn := by
  rw [roceArrive_delivered h]
  rw [← delivered_pkt h] at hpos hlt
  have hrun : u.qpRun q w = .done _ :=
    (if_neg (delivered_runs h)).trans ((if_neg (by omega)).trans ((if_pos hlt).trans (if_neg (by simp [hrnr, hseq]))))
  rw [hrun]
  rfl

/-- A packet that repeats an earlier one is taken as a duplicate (R282). -/
theorem roceArrive_repeated (h : Delivered s e op p q w u) (hge : 2 ^ 23 ≤ (p.psn + 2 ^ 24 - (u.qp q).epsn) % 2 ^ 24)
    (hdup : u.qpDup q w = .done t) : s.roceArrive e op p = t := by
  rw [roceArrive_delivered h]
  rw [← delivered_pkt h] at hge
  have hrun : u.qpRun q w = .done t :=
    (if_neg (delivered_runs h)).trans ((if_neg (by omega)).trans ((if_neg (by omega)).trans hdup))
  rw [hrun]
  rfl

end

/-! ### Admission -/

section
variable {s v : State} {q : Nat} {w : QWait} {tenant owner : Nat} {fs : List Nat} {run : State → State}

theorem qpPage_noRoom {load : Bool} (hm : v.fch.mode ≠ 1) : v.qpPage q fs owner load = .go v := by
  unfold State.qpPage
  extract_lets
  exact if_pos (.inl hm)

theorem qpAdmit_goes (h : Goes s q w tenant v) : s.qpAdmit q w tenant owner fs true run = .done (run v) := by
  obtain ⟨hbuf, hmode, hm⟩ := h
  unfold State.qpAdmit
  rw [hbuf]
  dsimp only
  rw [if_neg (by simp [hmode]), qpPage_noRoom hm]

theorem qpAdmit_read (hbuf : s.chargeBuf w.buf tenant = some v) (hm : v.fch.mode ≠ 1) :
    s.qpAdmit q w tenant owner fs false run = .done (run v) := by
  unfold State.qpAdmit
  rw [hbuf]
  dsimp only
  rw [if_neg (by simp), qpPage_noRoom hm]

end

/-! ### Writes -/

section
variable {s u v : State} {e op : Nat} {p : RPkt} {q : Nat} {w : QWait}

/-- The operation of the last packet of a message, or of none. -/
theorem qpNew_write (hok : (u.qp q).pktOk w = true) (h : w.op = 6 ∨ w.op = 7 ∨ w.op = 8 ∨ w.op = 9 ∨ w.op = 10 ∨ w.op = 11) :
    u.qpNew q w = u.qpWritePkt q w := by
  unfold State.qpNew
  rw [if_neg (by simp [hok]), if_neg (by omega), if_neg (by omega), if_neg (by omega)]

/-- The immediate that a packet with one leaves in its queue pair. -/
def State.takeImm (s : State) (q op : Nat) (p : RPkt) : State :=
  if op = 9 ∨ op = 11 then s.setQp q { s.qp q with imm := p.imm % 2 ^ 32 } else s

theorem qpWritePkt_first {lpa owner win tenant : Nat} (hen : u.flag fEPO_CTRL_ENABLE = true) (hwr : (u.qp q).wr = none)
    (hlen : w.pkt.len ≠ 0) (hwin : u.winCheck (u.qp q).host w.pkt.rkey w.pkt.va w.pkt.len (·.2.1) = .ok (lpa, owner, win, tenant))
    (hgo : Goes u q w tenant v) :
    u.qpWritePkt q w = .done ((v.takeImm q w.op w.pkt).qpWrite q w lpa owner win tenant (w.op != 6 && w.op != 7) w.pkt.len) := by
  unfold State.qpWritePkt
  dsimp only
  rw [if_neg (by simp [hen]), hwr]
  dsimp only
  rw [if_neg hlen, hwin]
  exact qpAdmit_goes hgo

theorem qpWritePkt_next {lpa left owner win : Nat} (hen : u.flag fEPO_CTRL_ENABLE = true)
    (hwr : (u.qp q).wr = some (lpa, left, owner, win)) (hgo : Goes u q w (u.window win).tenant v) :
    u.qpWritePkt q w
      = .done ((v.takeImm q w.op w.pkt).qpWrite q w lpa owner win (u.window win).tenant (w.op != 6 && w.op != 7) left) := by
  unfold State.qpWritePkt
  dsimp only
  rw [if_neg (by simp [hen]), hwr]
  exact qpAdmit_goes hgo

theorem qpWritePkt_empty (hen : u.flag fEPO_CTRL_ENABLE = true) (hwr : (u.qp q).wr = none) (hlen : w.pkt.len = 0) :
    u.qpWritePkt q w = .done ((u.takeImm q w.op w.pkt).qpWrite q w 0 0 0 0 true 0) := by
  unfold State.qpWritePkt
  dsimp only
  rw [if_neg (by simp [hen])]
  split
  · next hsome => cases hwr.symm.trans hsome
  · exact if_pos hlen

theorem qpWritePkt_denied {r : Nat} (hen : u.flag fEPO_CTRL_ENABLE = true) (hwr : (u.qp q).wr = none) (hlen : w.pkt.len ≠ 0)
    (hwin : u.winCheck (u.qp q).host w.pkt.rkey w.pkt.va w.pkt.len (·.2.1) = .error r) :
    u.qpWritePkt q w = .done (u.winDeny.qpNak q w (nakOf r) r) := by
  unfold State.qpWritePkt
  dsimp only
  rw [if_neg (by simp [hen]), hwr]
  dsimp only
  rw [if_neg hlen, hwin]

theorem qpWritePkt_disabled (hen : u.flag fEPO_CTRL_ENABLE = false) : u.qpWritePkt q w = .done (u.qpNak q w 0x62 rsACCESS) := by
  unfold State.qpWritePkt
  dsimp only
  rw [if_pos (by simp [hen])]

theorem qpDup_write (h : w.op = 10) :
    u.qpDup q w = .done ((((u.bump rNRE_CNT_DUP).bump rEPO_CNT_DUP).raise 0x175).qpSay q w (.ack true) (some .ok) w.pkt.psn) := by
  unfold State.qpDup
  dsimp only
  rw [if_neg (by omega), if_neg (by omega)]

/-- A packet whose opcode and lengths suit where its queue pair stands (R259, R280). -/
abbrev Suits (u : State) (q op : Nat) (p : RPkt) : Prop := ∀ w : QWait, w.op = op → w.pkt = p → (u.qp q).pktOk w = true

section
variable (h : Expected s e op p q w u) (hops : op = 6 ∨ op = 7 ∨ op = 8 ∨ op = 9 ∨ op = 10 ∨ op = 11) (hok : Suits u q op p)
include h hops hok

theorem roceArrive_write {t : State} (hrun : u.qpWritePkt q w = .done t) : s.roceArrive e op p = t := by
  have hop := expected_op h
  exact roceArrive_expected h ((qpNew_write (hok w hop (expected_pkt h)) (by omega)).trans hrun)

/-- The first packet of a message, or its only one, is written where its window says. -/
theorem roceArrive_first {lpa owner win tenant : Nat} (hen : u.flag fEPO_CTRL_ENABLE = true) (hwr : (u.qp q).wr = none)
    (hlen : p.len ≠ 0) (hwin : u.winCheck (u.qp q).host p.rkey p.va p.len (·.2.1) = .ok (lpa, owner, win, tenant))
    (hgo : Goes u q w tenant v) :
    s.roceArrive e op p = (v.takeImm q op p).qpWrite q w lpa owner win tenant (op != 6 && op != 7) p.len := by
  have hop := expected_op h
  have hp := expected_pkt h
  subst hop hp
  exact roceArrive_write h hops hok (qpWritePkt_first hen hwr hlen hwin hgo)

/-- A later packet of a message is written where the message stands. -/
theorem roceArrive_next {lpa left owner win : Nat} (hen : u.flag fEPO_CTRL_ENABLE = true)
    (hwr : (u.qp q).wr = some (lpa, left, owner, win)) (hgo : Goes u q w (u.window win).tenant v) :
    s.roceArrive e op p
      = (v.takeImm q op p).qpWrite q w lpa owner win (u.window win).tenant (op != 6 && op != 7) left := by
  have hop := expected_op h
  have hp := expected_pkt h
  subst hop hp
  exact roceArrive_write h hops hok (qpWritePkt_next hen hwr hgo)

end

end

/-- Settles O40: a packet in its turn is a write at its window's address or where its message stands. -/
theorem roceWrites : Obligations.RoceWrites := by
  unfold Obligations.RoceWrites
  refine ⟨fun s u v e p q w lpa owner win tenant h hen hwr hn hlen hmax hwin hgo => ?_,
    fun s u v e p q w lpa left owner win h hen hwr hn hleft hgo => ?_,
    fun s u v e p q w lpa left owner win h hen hwr hn hleft hgo => ?_,
    fun s u v e p q w lpa left owner win h hen hwr hn hleft hgo => ?_,
    fun s u v e p q w lpa owner win tenant h hen hwr hn hlen hne hwin hgo => ?_,
    fun s u v e p q w lpa owner win tenant h hen hwr hn hlen hne hwin hgo => ?_,
    fun s u e p q w h hen hwr hpay hlen => ?_, fun s u e p q w r h hen hwr hn hlen hne hwin => ?_,
    fun s u e p q w h hen hwr hn hlen => ?_, fun s u e p q w h hpos hlt hrnr hseq => Does.of_eq rfl (roceArrive_ahead h hpos hlt hrnr hseq),
    fun s u e p q w h hge => ?_⟩
  · have hok : Suits u q 6 p := fun w ho hp => by simp [Qp.pktOk, hwr, ho, hp, hn]; omega
    exact Does.of_eq rfl (roceArrive_first h (by decide) hok hen hwr (by omega) hwin hgo)
  · have hok : Suits u q 7 p := fun w ho hp => by simp [Qp.pktOk, hwr, ho, hp, hn, hleft]
    exact Does.of_eq rfl (roceArrive_next h (by decide) hok hen hwr hgo)
  · have hok : Suits u q 8 p := fun w ho hp => by simp [Qp.pktOk, hwr, ho, hp, hn, hleft]
    exact Does.of_eq rfl (roceArrive_next h (by decide) hok hen hwr hgo)
  · have hok : Suits u q 9 p := fun w ho hp => by simp [Qp.pktOk, hwr, ho, hp, hn, hleft]
    exact Does.of_eq rfl (roceArrive_next h (by decide) hok hen hwr hgo)
  · have hok : Suits u q 10 p := fun w ho hp => by simp [Qp.pktOk, hwr, ho, hp, hn, hlen]
    exact Does.of_eq rfl (roceArrive_first h (by decide) hok hen hwr hne hwin hgo)
  · have hok : Suits u q 11 p := fun w ho hp => by simp [Qp.pktOk, hwr, ho, hp, hn, hlen]
    exact Does.of_eq rfl (roceArrive_first h (by decide) hok hen hwr hne hwin hgo)
  · have hok : Suits u q 10 p := fun w ho hp => by simp [Qp.pktOk, hwr, ho, hp, hpay, hlen]
    have hempty := qpWritePkt_empty (w := w) hen hwr (by rw [expected_pkt h]; exact hlen)
    rw [expected_op h] at hempty
    exact Does.of_eq rfl (roceArrive_write h (by decide) hok hempty)
  · have hok : Suits u q 10 p := fun w ho hp => by simp [Qp.pktOk, hwr, ho, hp, hn, hlen]
    have hp := expected_pkt h
    subst hp
    exact Does.of_eq rfl (roceArrive_write h (by decide) hok (qpWritePkt_denied hen hwr hne hwin))
  · have hok : Suits u q 10 p := fun w ho hp => by simp [Qp.pktOk, hwr, ho, hp, hn, hlen]
    exact Does.of_eq rfl (roceArrive_write h (by decide) hok (qpWritePkt_disabled hen))
  · have hp := delivered_pkt h
    subst hp
    exact Does.of_eq rfl (roceArrive_repeated h hge (qpDup_write (delivered_op h)))

/-! ### READ and ATOMIC -/

section
variable {s u v t : State} {q : Nat} {w : QWait} {lpa owner win tenant id : Nat}

theorem qpNew_read (hok : (u.qp q).pktOk w = true) (hop : w.op = 12) : u.qpNew q w = u.qpRead q w false := by
  unfold State.qpNew
  rw [if_neg (by simp [hok]), if_neg (by omega), if_pos hop]

theorem qpNew_atomic (hok : (u.qp q).pktOk w = true) (hop : w.op = 0x13 ∨ w.op = 0x14) : u.qpNew q w = u.qpAtomic q w := by
  unfold State.qpNew
  rw [if_neg (by simp [hok]), if_neg (by omega), if_neg (by omega), if_pos hop]

theorem qpRead_status (hkey : w.pkt.rkey = 0) (hend : w.pkt.va + w.pkt.len ≤ 256) :
    u.qpRead q w false = .done ((u.setQp q (qpAfterRead (u.qp q) w.pkt)).qpSay q w .read
      (some (.data (((u.statusBlock q).drop w.pkt.va).take w.pkt.len) false false)) w.pkt.psn) := by
  unfold State.qpRead
  dsimp only
  rw [if_pos hkey, if_neg (by omega)]
  rfl

theorem qpRead_statusEnd (hkey : w.pkt.rkey = 0) (hend : 256 < w.pkt.va + w.pkt.len) :
    u.qpRead q w false = .done (u.winDeny.qpNak q w 0x62 rsACCESS) := by
  unfold State.qpRead
  dsimp only
  rw [if_pos hkey, if_pos (by omega)]

theorem qpRead_window (hkey : w.pkt.rkey ≠ 0) (hlen : w.pkt.len ≠ 0)
    (hwin : u.winCheck (u.qp q).host w.pkt.rkey w.pkt.va w.pkt.len (·.1) = .ok (lpa, owner, win, tenant))
    (hbuf : u.chargeBuf w.buf tenant = some v) (hm : v.fch.mode ≠ 1)
    (hpush : (v.setQp q (qpAfterRead (v.qp q) w.pkt)).qpPush q
      { psn := w.pkt.psn, kind := .read, port := w.port, mark := w.mark, buf := w.buf } = (t, id)) :
    u.qpRead q w false = .done (t.runLoad
      { src := .roce q id, lpa := lpa, len := w.pkt.len, owner := owner, ctx := 64 + q, win := win }) := by
  unfold State.qpRead
  dsimp only
  rw [if_neg hkey, if_neg hlen, hwin]
  refine (qpAdmit_read hbuf hm).trans (congrArg QStep.done ?_)
  exact congrArg (fun r : State × Nat => r.1.runLoad
    { src := .roce q r.2, lpa := lpa, len := w.pkt.len, owner := owner, ctx := 64 + q, win := win }) hpush

/-- The operation of a CmpSwap or a FetchAdd at an address (R275). -/
def atomicOf (op lpa : Nat) (p : RPkt) : WOp :=
  if op = 0x13 then .atomic 0 (lpa % 128) (BitVec.ofNat 128 (p.cmp % 2 ^ 64 + p.swp % 2 ^ 64 * 2 ^ 64)) 0
  else .atomic 2 (lpa % 128) (BitVec.ofNat 128 (p.swp % 2 ^ 64)) 0

theorem qpAtomic_goes (hen : u.flag fEPO_CTRL_ENABLE = true)
    (hwin : u.winCheck (u.qp q).host w.pkt.rkey w.pkt.va 8 (·.2.2) = .ok (lpa, owner, win, tenant)) (hal : lpa % 8 = 0)
    (hgo : Goes u q w tenant v) (hpush : (v.setQp q (qpAfterAtomic (v.qp q) w.pkt)).qpPush q
      { psn := w.pkt.psn, kind := .atomic, port := w.port, mark := w.mark, buf := w.buf } = (t, id)) :
    u.qpAtomic q w = .done (t.qpQueue q tenant [{
      src := .roce q id
      op := atomicOf w.op lpa w.pkt
      line := lpa / 128
      owner := owner
      host := (v.qp q).host
      ctx := 64 + q
      win := win }]) := by
  unfold State.qpAtomic
  dsimp only
  rw [if_neg (by simp [hen]), hwin]
  dsimp only
  rw [if_neg (by simp [hal])]
  refine (qpAdmit_goes hgo).trans (congrArg QStep.done ?_)
  exact congrArg (fun r : State × Nat => r.1.qpQueue q tenant [{
    src := .roce q r.2
    op := atomicOf w.op lpa w.pkt
    line := lpa / 128
    owner := owner
    host := (v.qp q).host
    ctx := 64 + q
    win := win }]) hpush

theorem qpAtomic_misaligned (hen : u.flag fEPO_CTRL_ENABLE = true)
    (hwin : u.winCheck (u.qp q).host w.pkt.rkey w.pkt.va 8 (·.2.2) = .ok (lpa, owner, win, tenant)) (hal : lpa % 8 ≠ 0) :
    u.qpAtomic q w = .done (u.winDeny.qpNak q w 0x61 rsALIGN) := by
  unfold State.qpAtomic
  dsimp only
  rw [if_neg (by simp [hen]), hwin]
  dsimp only
  rw [if_pos hal]

theorem qpDup_atomic {b : List Byte} {k : Nat} (hop : w.op = 0x13)
    (hrec : (u.qp q).recs.find? (fun e => e.1 == w.pkt.psn) = some (k, some b)) :
    u.qpDup q w = .done ((u.bump rNRE_CNT_DUP).qpSay q w .atomic (some (.data b false false)) w.pkt.psn) := by
  unfold State.qpDup
  dsimp only
  rw [if_neg (by omega), if_pos (.inl hop), hrec]

end

/-- Settles O41: a READ and an ATOMIC in their turn, and an ATOMIC that repeats. -/
theorem roceReadsAndAtomics : Obligations.RoceReadsAndAtomics := by
  unfold Obligations.RoceReadsAndAtomics
  refine ⟨fun s u e p q w h hwr hkey hend => ?_, fun s u e p q w h hwr hkey hend hmax => ?_,
    fun s u v t e p q w lpa owner win tenant id h hwr hkey hlen hmax hwin hbuf hm hpush => ?_,
    fun s u v t e p q w lpa owner win tenant id h hen hwr hwin hal hgo hpush => ?_,
    fun s u v t e p q w lpa owner win tenant id h hen hwr hwin hal hgo hpush => ?_,
    fun s u e p q w lpa owner win tenant h hen hwr hwin hal => ?_, fun s u e p q w b k h hge hrec => ?_⟩
  · obtain rfl := expected_pkt h
    have hok : (u.qp q).pktOk w = true := by simp [Qp.pktOk, hwr, expected_op h]; omega
    exact Does.of_eq rfl (roceArrive_expected h ((qpNew_read hok (expected_op h)).trans (qpRead_status hkey hend)))
  · obtain rfl := expected_pkt h
    have hok : (u.qp q).pktOk w = true := by simp [Qp.pktOk, hwr, expected_op h]; omega
    exact Does.of_eq rfl (roceArrive_expected h ((qpNew_read hok (expected_op h)).trans (qpRead_statusEnd hkey hend)))
  · obtain rfl := expected_pkt h
    have hok : (u.qp q).pktOk w = true := by simp [Qp.pktOk, hwr, expected_op h]; omega
    exact Does.of_eq rfl (roceArrive_expected h ((qpNew_read hok (expected_op h)).trans (qpRead_window hkey hlen hwin hbuf hm hpush)))
  · obtain rfl := expected_pkt h
    have hop := expected_op h
    have hok : (u.qp q).pktOk w = true := by simp [Qp.pktOk, hwr, hop]
    have hrun := qpAtomic_goes hen hwin hal hgo hpush
    rw [hop] at hrun
    exact Does.of_eq rfl (roceArrive_expected h ((qpNew_atomic hok (.inl hop)).trans hrun))
  · obtain rfl := expected_pkt h
    have hop := expected_op h
    have hok : (u.qp q).pktOk w = true := by simp [Qp.pktOk, hwr, hop]
    have hrun := qpAtomic_goes hen hwin hal hgo hpush
    rw [hop] at hrun
    exact Does.of_eq rfl (roceArrive_expected h ((qpNew_atomic hok (.inr hop)).trans hrun))
  · obtain rfl := expected_pkt h
    have hop := expected_op h
    have hok : (u.qp q).pktOk w = true := by simp [Qp.pktOk, hwr, hop]
    exact Does.of_eq rfl (roceArrive_expected h ((qpNew_atomic hok (.inr hop)).trans (qpAtomic_misaligned hen hwin hal)))
  · obtain rfl := delivered_pkt h
    exact Does.of_eq rfl (roceArrive_repeated h hge (qpDup_atomic (delivered_op h) hrec))

/-! ### Commands -/

section
variable {s u v t : State} {e c : Nat} {p : RPkt} {q : Nat} {w : QWait}

theorem head_of_cmdField (hn : p.payload.length = 32) : ((p.payload.head?).map BitVec.toNat).getD 0 = cmdField p 0 1 := by
  unfold cmdField
  cases hp : p.payload with
  | nil => simp [hp] at hn
  | cons b l => simp [leNat]

/-- A command in its turn, of its own code or of a wrong length, is processed (R276). -/
theorem roceCommand_expected (h : Expected s e 0x04 p q w u) (hwr : (u.qp q).wr = none)
    (hc : p.payload.length ≠ 32 ∨ cmdField p 0 1 = c) : s.roceCommand e p c = u.qpCommand q w := by
  have hown : ¬(p.payload.length = 32 ∧ ((p.payload.head?).map BitVec.toNat).getD 0 ≠ c
      ∧ 1 ≤ ((p.payload.head?).map BitVec.toNat).getD 0 ∧ ((p.payload.head?).map BitVec.toNat).getD 0 ≤ 6) := by
    rintro ⟨hn, ho, _⟩
    exact hc.elim (· hn) (fun hc => ho (by rw [head_of_cmdField hn, hc]))
  have hnew : u.qpNew q w = .done (u.qpCommand q w) := by
    unfold State.qpNew
    rw [if_neg (by simp [Qp.pktOk, hwr, expected_op h]), if_pos (expected_op h)]
  exact (if_neg hown).trans (roceArrive_expected h hnew)

theorem qpCommand_badLength (hn : w.pkt.payload.length ≠ 32) : u.qpCommand q w = u.qpNak q w 0x61 rsFORMAT := by
  unfold State.qpCommand
  exact if_pos (.inl hn)

theorem qpCommand_disabled (hen : u.flag fEPO_CTRL_ENABLE = false) (hn : w.pkt.payload.length = 32)
    (hc : 1 ≤ cmdField w.pkt 0 1 ∧ cmdField w.pkt 0 1 ≤ 6) : u.qpCommand q w = u.qpNak q w 0x62 rsACCESS := by
  have hform : ¬(w.pkt.payload.length ≠ 32 ∨ cmdField w.pkt 0 1 = 0 ∨ cmdField w.pkt 0 1 > 6) := by omega
  unfold State.qpCommand
  exact (if_neg hform).trans (if_pos (by simp [hen]))

section
variable (hen : u.flag fEPO_CTRL_ENABLE = true) (hn : w.pkt.payload.length = 32)
include hen hn

theorem qpCommand_close {id : Nat} (hc : cmdField w.pkt 0 1 = 1) (hpush : (u.setQp q (qpAfterCmd (u.qp q))).qpPush q
      { psn := w.pkt.psn, kind := .cmd w.pkt.ackReq, port := w.port, mark := w.mark, buf := w.buf } = (v, id)) :
    u.qpCommand q w = v.closeArrive (qpStream q) (.roce q id) (cmdField w.pkt 2 2 % 4096) (bitOf (cmdField w.pkt 1 1) 0)
      (bitOf (cmdField w.pkt 1 1) 1) false := by
  unfold qpAfterCmd at hpush
  unfold cmdField at *
  unfold State.qpCommand
  dsimp only
  rw [if_neg (by omega), if_neg (by simp [hen]), if_pos hc, hpush]

theorem qpCommand_queryState (hc : cmdField w.pkt 0 1 = 2) (hv : v = u.setQp q (qpAfterCmd (u.qp q))) :
    u.qpCommand q w = v.cmdAnswer q w (match v.cmdStream q (cmdField w.pkt 4 3) with
      | some j => .status ((v.stream j).query (cmdField w.pkt 2 2 % 4096))
      | none => .status 0xC) := by
  subst hv
  unfold cmdField at *
  unfold State.qpCommand
  dsimp only
  rw [if_neg (by omega), if_neg (by simp [hen]), if_neg (by omega), if_pos hc]
  rfl

theorem qpCommand_queryLine {lpa owner win tenant id : Nat} (hc : cmdField w.pkt 0 1 = 3)
    (hv : v = u.setQp q (qpAfterCmd (u.qp q)))
    (hwin : v.winCheck (u.qp q).host (cmdField w.pkt 16 4) (cmdField w.pkt 8 8) 1 (·.1) = .ok (lpa, owner, win, tenant))
    (hpush : v.qpPush q { psn := w.pkt.psn, kind := .cmd w.pkt.ackReq, port := w.port, mark := w.mark, buf := w.buf } = (t, id)) :
    u.qpCommand q w = t.queryAsk (.roce q id) (qpStream q) (lpa / 128) (64 + q) 4096 := by
  subst hv
  unfold qpAfterCmd at hwin hpush
  unfold cmdField at *
  unfold State.qpCommand
  dsimp only
  rw [if_neg (by omega), if_neg (by simp [hen]), if_neg (by omega), if_neg (by omega), if_pos hc, hwin]
  dsimp only
  rw [hpush]

theorem qpCommand_queryReport (hc : cmdField w.pkt 0 1 = 4) (hv : v = u.setQp q (qpAfterCmd (u.qp q))) :
    u.qpCommand q w = v.cmdAnswer q w (match v.cmdStream q (cmdField w.pkt 4 3) with
      | some j => v.reportRead j (cmdField w.pkt 20 4 % 2 ^ 17)
      | none => .status 0xC) := by
  subst hv
  unfold cmdField at *
  unfold State.qpCommand
  dsimp only
  rw [if_neg (by omega), if_neg (by simp [hen]), if_neg (by omega), if_neg (by omega), if_neg (by omega), if_pos hc]
  rfl

theorem qpCommand_release {j : Nat} {rep : Report} (hc : cmdField w.pkt 0 1 = 5) (hv : v = u.setQp q (qpAfterCmd (u.qp q)))
    (hj : v.cmdStream q (cmdField w.pkt 4 3) = some j) (hr : (v.stream j).report = some rep) (hb : rep.building = false) :
    u.qpCommand q w = ((v.releaseReport j).mirror_ (.epoch j 2 0 false false false rep.epoch)).cmdAnswer q w .ok := by
  subst hv
  unfold qpAfterCmd at hj hr
  unfold cmdField at *
  unfold State.qpCommand
  dsimp only
  rw [if_neg (by omega), if_neg (by simp [hen]), if_neg (by omega), if_neg (by omega), if_neg (by omega), if_neg (by omega),
    if_pos hc, hj]
  dsimp only
  rw [hr]
  dsimp only
  rw [if_neg (by simp [hb])]
  rfl

theorem qpCommand_releaseNone (hc : cmdField w.pkt 0 1 = 5) (hv : v = u.setQp q (qpAfterCmd (u.qp q)))
    (hj : v.cmdStream q (cmdField w.pkt 4 3) = none) : u.qpCommand q w = v.cmdAnswer q w (.status 0xC) := by
  subst hv
  unfold qpAfterCmd at hj
  unfold cmdField at *
  unfold State.qpCommand
  dsimp only
  rw [if_neg (by omega), if_neg (by simp [hen]), if_neg (by omega), if_neg (by omega), if_neg (by omega), if_neg (by omega),
    if_pos hc, hj]
  rfl

theorem qpCommand_nop (hc : cmdField w.pkt 0 1 = 6) :
    u.qpCommand q w = (u.setQp q (qpAfterCmd (u.qp q))).cmdAnswer q w .ok := by
  unfold cmdField at *
  unfold State.qpCommand
  dsimp only
  rw [if_neg (by omega), if_neg (by simp [hen]), if_neg (by omega), if_neg (by omega), if_neg (by omega), if_neg (by omega),
    if_neg (by omega)]
  rfl

end

end

/-- Settles O42: a command in its turn is answered by the branch of its code. -/
theorem roceCommands : Obligations.RoceCommands := by
  unfold Obligations.RoceCommands
  refine ⟨fun s u e p q w h hwr hn => ?_, fun s u v e p q w id h hen hwr hn hc hpush => ?_,
    fun s u v e p q w j h hen hwr hn hc hv hj => ?_,
    fun s u v e p q w j h hen hwr hn hv hj => ⟨fun hc => ?_, fun hc rep hr hb => ?_⟩,
    fun s u v e p q w h hen hwr hn hv hj => ⟨fun hc => ?_, fun hc => ?_, fun hc => ?_⟩,
    fun s u v t e p q w lpa owner win tenant id h hen hwr hn hc hv hwin hpush => ?_,
    fun s u e p q w h hen hwr hn hc => ?_, fun s u e p q w h hen hwr hn hc => ?_⟩
  all_goals obtain rfl := expected_pkt h
  · have hbad := fun c => (roceCommand_expected (c := c) h hwr (.inl hn)).trans (qpCommand_badLength hn)
    exact ⟨Does.of_eq rfl (hbad 1), Does.of_eq rfl (hbad 6)⟩
  · exact Does.of_eq rfl ((roceCommand_expected h hwr (.inr hc)).trans (qpCommand_close hen hn hc hpush))
  · refine Does.of_eq rfl ((roceCommand_expected h hwr (.inr hc)).trans ?_)
    rw [qpCommand_queryState hen hn hc hv, hj]
  · refine Does.of_eq rfl ((roceCommand_expected h hwr (.inr hc)).trans ?_)
    rw [qpCommand_queryReport hen hn hc hv, hj]
  · exact Does.of_eq rfl ((roceCommand_expected h hwr (.inr hc)).trans (qpCommand_release hen hn hc hv hj hr hb))
  · refine Does.of_eq rfl ((roceCommand_expected h hwr (.inr hc)).trans ?_)
    rw [qpCommand_queryState hen hn hc hv, hj]
  · refine Does.of_eq rfl ((roceCommand_expected h hwr (.inr hc)).trans ?_)
    rw [qpCommand_queryReport hen hn hc hv, hj]
  · exact Does.of_eq rfl ((roceCommand_expected h hwr (.inr hc)).trans (qpCommand_releaseNone hen hn hc hv hj))
  · exact Does.of_eq rfl ((roceCommand_expected h hwr (.inr hc)).trans (qpCommand_queryLine hen hn hc hv hwin hpush))
  · exact Does.of_eq rfl ((roceCommand_expected h hwr (.inr hc)).trans (qpCommand_disabled hen hn (by omega)))
  · exact Does.of_eq rfl ((roceCommand_expected h hwr (.inr hc)).trans (qpCommand_nop hen hn hc))

end Sys2Proof.Machine
end

section
/-! PROOF. Kind-M services of the mailbox: tenants, grants, objects, windows, streams and folios: O26, O27, O28 and O29. -/

namespace Sys2Proof.Machine

/-! ### Every row of the table is one form -/

/-- A row of the table serves its code. -/
theorem exec_mailM {p : Nat × (Nat → Instr)} (hp : p ∈ mailM) (n : Nat) (s : State) :
    exec (p.2 n) s = finish (s.serveM n p.1) := by
  simp only [mailM, List.mem_cons, List.not_mem_nil, or_false] at hp
  rcases hp with rfl | rfl | rfl | rfl | rfl | rfl | rfl | rfl | rfl | rfl | rfl | rfl | rfl | rfl | rfl | rfl | rfl | rfl | rfl <;> rfl

theorem svcDENIED_code : svcDENIED.code ≠ 0 := by decide

theorem ite_ne {α : Type} {p : Prop} [Decidable p] {a b y : α} (ha : a ≠ y) (hb : b ≠ y) : (if p then a else b) ≠ y := by
  split
  · exact ha
  · exact hb

/-- Only code 0x20 asks for a chunk of a schedule. -/
theorem req_ne_schedLoad {x : MbSlot} (hc : x.svc ≠ 0x20) (n t i : Nat) (f l : Bool) (es : List (Nat × Nat × Nat)) :
    x.req ≠ some (.schedLoad n t i f l es) := by
  unfold MbSlot.req
  dsimp only
  rw [if_neg hc]
  repeat' with_reducible refine ite_ne ?_ ?_
  all_goals
    intro h
    simp [Option.bind_eq_some_iff] at h

theorem turn_svc {s : State} {n c : Nat} (h : s.turn n c) : (s.slot n).svc = c := by
  obtain ⟨_, _, _, hsvc, _⟩ := h
  exact hsvc

/-- Settles O26: a row serves its code, and what its service answers goes to the mirror stream, or to the slot alone. -/
theorem mailboxServices : Obligations.MailboxServices := by
  unfold Obligations.MailboxServices
  refine ⟨fun p hp s u n v r h hq hw hr hc => (exec_mailM hp n s).trans (congrArg finish (serveM_ok h hq hw hr hc)),
    fun p hp hne s u n v r h hq hw hr hc => (exec_mailM hp n s).trans (congrArg finish (serveM_refused h hq hw hr hc ?_)),
    fun p hp s n h hq => (exec_mailM hp n s).trans (congrArg finish ?_)⟩
  · rintro a b d e f g rfl
    exact req_ne_schedLoad (by rw [turn_svc h]; exact hne) a b d e f g hq
  · unfold State.serveM
    rw [serve_turn h, hq]

/-! ### One service in its turn -/

section
variable {s u : State} {n c : Nat} {v : Svc} {r : SvcRes}

/-- A kind-M service of a slot whose turn it is, but for a chunk of a schedule, is not the last but goes alone to its slot
when it is refused. -/
theorem serveM_denied (h : s.turn n c) (hq : (s.slot n).req = some v) (hc : c ≠ 0x20)
    (hw : (s.slotRunning n).svcWaits v = false) (hr : (s.slotRunning n).runSvc v (.svc n) = (u, some r)) (hne : r.code ≠ 0) :
    s.serveM n c = u.svcOut n r := by
  refine serveM_refused h hq hw hr hne ?_
  rintro a b d e f g rfl
  exact req_ne_schedLoad (by rw [turn_svc h]; exact hc) a b d e f g hq

/-- A service that must wait for the partner's free count is kept with its slot (R327). -/
theorem serveM_waits (h : s.turn n c) (hq : (s.slot n).req = some v) (hw : (s.slotRunning n).svcWaits v = true) :
    s.serveM n c = { s.slotRunning n with tqm := { s.tqm with allocWaits := s.tqm.allocWaits ++ [(n, v)] } } := by
  unfold State.serveM
  rw [serve_turn h, hq]
  dsimp only
  unfold State.doSvc
  rw [if_pos hw]
  rfl

end

/-! ### Tenants, contexts, grants and hosts -/

theorem doGrantSet_first {s : State} {h g : Nat} {r w a : Bool} (hl : (s.liveObj h).isSome = true)
    (hg : g = 0xFFF ∨ s.tenantOk g = true) (hs : s.tqm.grants = []) :
    s.doGrantSet h g r w a = (s.setGrant 0 { valid := true, handle := h, grantee := g, r := r, w := w, a := a }, { words := [0] }) := by
  unfold State.doGrantSet
  rw [if_neg (by rcases hg with hg | hg <;> simp [hg, Option.isSome_iff_ne_none.mp hl]), hs]
  rfl

/-- A context none of whose maps is open closes as it stands. -/
theorem closeCtx_unmapped {s : State} {c : Nat} (h : s.tqm.maps.any (fun e => e.1 / 4096 == c) = false) :
    s.closeCtx c = (s, true) := by
  have hnone : s.tqm.maps.filter (fun e => e.1 / 4096 == c && e.2.valid) = [] := by
    rw [List.filter_eq_nil_iff]
    intro e he hc
    have := List.any_eq_false.mp h e he
    simp_all
  unfold State.closeCtx
  rw [hnone]
  dsimp only [List.foldl_nil]
  rw [h]
  rfl

theorem doPortBind_unmapped {s : State} {c h t : Nat} {src : Src} (hc : c < 32) (hx : (s.ctx c).host ≠ h ∨ (s.ctx c).tenant ≠ t)
    (ht : t ≠ 0) (hh : h ≠ 0) (hh' : h < 0xFFF) (hok : s.tenantOk t = true)
    (hm : s.tqm.maps.any (fun e => e.1 / 4096 == c) = false) :
    s.doPortBind c h t src = (s.setCtx c { host := h, tenant := t }, some svcOK) := by
  unfold State.doPortBind
  dsimp only
  rw [if_neg (by omega), if_neg (by simp [hok, ht, hh]; omega), if_neg (by rintro ⟨h1, h2, _⟩; exact hx.elim (· h1) (· h2)),
    closeCtx_unmapped hm]

/-- Settles O27: each service's effect on its table, by the branch that its operands take. -/
theorem tenantAndGrantServices : Obligations.TenantAndGrantServices := by
  unfold Obligations.TenantAndGrantServices
  refine ⟨fun s n t evt a b c d e f susp h hq h0 ht he => ?_, fun s n evt a b c d e f susp h hq => ?_,
    fun s n c h t hturn hq hc hx ht hh hh' hok hm => ?_, fun s n h g r w a hturn hq hl hg hs => ?_,
    fun s n k h hq hv => ?_, fun s n k h a1 a2 ok hturn hq h0 hk => ?_,
    fun s ten h0 h => Does.of_eq rfl (if_neg (by omega)), fun s => ⟨Does.of_eq rfl rfl, Does.of_eq rfl rfl⟩⟩
  · have hrun : (s.slotRunning n).doTenantSet t evt a b c d e f susp = _ := if_neg (by omega)
    exact Does.of_eq rfl (serveM_ok h hq rfl (congrArg (fun p : State × SvcRes => (p.1, some p.2)) hrun) rfl)
  · have hrun : (s.slotRunning n).doTenantSet 0 evt a b c d e f susp = _ := if_pos (.inl rfl)
    exact Does.of_eq rfl (serveM_denied h hq (by decide) rfl (congrArg (fun p : State × SvcRes => (p.1, some p.2)) hrun)
      svcDENIED_code)
  · exact Does.of_eq rfl (serveM_ok hturn hq rfl (doPortBind_unmapped (s := s.slotRunning n) hc hx ht hh hh' hok hm) rfl)
  · have hrun := doGrantSet_first (s := s.slotRunning n) (r := r) (w := w) (a := a) hl hg hs
    exact Does.of_eq rfl (serveM_ok hturn hq rfl (congrArg (fun p : State × SvcRes => (p.1, some p.2)) hrun) rfl)
  · have hrun : (s.slotRunning n).doGrantClear k = _ := if_pos hv
    exact Does.of_eq rfl (serveM_ok h hq rfl (congrArg (fun p : State × SvcRes => (p.1, some p.2)) hrun) rfl)
  · have hrun : (s.slotRunning n).doNetHostSet k (a1 + a2 * 2 ^ 64) ok = _ := if_neg (by omega)
    exact Does.of_eq rfl (serveM_ok hturn hq rfl (congrArg (fun p : State × SvcRes => (p.1, some p.2)) hrun) rfl)

/-! ### Objects -/

theorem liveObj_live {s : State} {h : Nat} {o : Obj} (hl : s.liveObj h = some o) : o.live = true ∧ s.obj (hSlot h) = o := by
  unfold State.liveObj at hl
  dsimp only at hl
  split at hl
  · next hc =>
    obtain rfl := Option.some.inj hl
    exact ⟨hc.1, rfl⟩
  · cases hl

theorem obj_of_tqm {s t : State} (h : t.tqm = s.tqm) (i : Nat) : t.obj i = s.obj i := by
  unfold State.obj
  rw [h]

theorem noteAlloc_tqm (s : State) (a f : Nat) : (s.noteAlloc a f).tqm = s.tqm := by
  unfold State.noteAlloc
  split <;> rfl

theorem mirror_tqm (s : State) (f : MFrame) (lines : List Nat) : (s.mirror f lines).1.tqm = s.tqm := by
  unfold State.mirror
  split
  · simp [State.twinWait, State.emit]
  · split
    · exact foldl_proj (fun u => u.tqm) (fun s l => s.mark (regionOf l)) (fun u l => by unfold State.mark; split <;> rfl) _ _
    · rfl

theorem svcOut_tqm (s : State) (n : Nat) (r : SvcRes) : (s.svcOut n r).tqm = s.tqm := by
  unfold State.svcOut
  dsimp only
  split <;> rfl

theorem obj_setObj_live {s : State} {i : Nat} {o : Obj} (h : o.live = true) : (s.setObj i o).obj i = o := by
  unfold State.setObj State.obj Tab.set
  dsimp only
  rw [if_neg (by rintro rfl; cases h)]
  exact Tab.get_put_same _ _ _ _

/-- A resize that takes no shelf of an unpinned object only sets its length (R25). -/
theorem doObjResize_noShelf {s : State} {h len : Nat} {o : Obj} (hl : s.liveObj h = some o) (hpin : o.pinLeft = 0) (hc : o.cls = 0)
    (hle : o.len ≤ len) (h0 : 0 < len) (hmax : len ≤ 8388607 * 2 ^ 30) (hs : shelvesFor len = shelvesFor o.len) :
    ∃ u : State, s.doObjResize h len = (u, svcOK) ∧ u.obj (hSlot h) = { o with len := len, poison := false } := by
  have hd : shelvesFor len - shelvesFor o.len = 0 := by omega
  unfold State.doObjResize
  simp only [hl]
  rw [if_neg (by omega), if_neg (by omega), if_neg (by omega), hd, if_pos rfl]
  dsimp only
  rw [if_neg (by simp [hc, pinnedCls]), if_neg (by simp [hc, pinnedCls])]
  refine ⟨_, rfl, ?_⟩
  refine (obj_of_tqm (noteAlloc_tqm _ _ _) _).trans ((obj_setObj_live (by exact (liveObj_live hl).1)).trans ?_)
  rw [if_neg (by simp [hc, pinnedCls]), ← hpin]

theorem doObjPlace_same {s : State} {h c : Nat} {o : Obj} (hl : s.liveObj h = some o) (hc : o.cls = c) (h3 : c < 3) :
    s.doObjPlace h c = (s, svcOK) := by
  unfold State.doObjPlace State.placeObj
  rw [hl]
  dsimp only
  rw [if_neg (by omega), if_pos hc]
  rfl

theorem doObjCreate_denied {s : State} {t len c : Nat} {slot : Option Nat} (h : s.tenantOk t = false ∨ t = 0 ∨ len = 0 ∨ 3 < c) :
    s.doObjCreate t len c slot = (s, some svcDENIED) := by
  unfold State.doObjCreate
  rw [if_pos]
  rcases h with h | h | h | h <;> simp [h]

/-- Settles O28: the branch that each service's operands take, or its result as it stands. -/
theorem objectServices : Obligations.ObjectServices := by
  unfold Obligations.ObjectServices
  refine ⟨fun s n t len c h hq hw hbad => ?_, fun s u n t len c r h hq hw hrun hc => ?_, fun s n t len c h hq hw => ?_,
    fun s n h len hturn hq hl => ?_, fun s n h len o hturn hq hl hpin hc hle h0 hmax hs => ?_, fun s n h c o hturn hq hl hc h3 => ?_,
    fun s n h o hturn hq hl hnamed => ?_, fun s u n h hturn hq hrun => ?_⟩
  · exact Does.of_eq rfl (serveM_denied h hq (by decide) hw (doObjCreate_denied (s := s.slotRunning n) hbad) svcDENIED_code)
  · exact Does.of_eq rfl (serveM_ok h hq hw hrun hc)
  · exact Does.of_eq rfl (serveM_waits h hq hw)
  · have hl' : (s.slotRunning n).liveObj h = none := hl
    have hrun : (s.slotRunning n).doObjResize h len = (s.slotRunning n, svcNOOBJ) := by
      unfold State.doObjResize
      rw [hl']
    have hw : (s.slotRunning n).svcWaits (.objResize h len) = false := by
      unfold State.svcWaits
      dsimp only
      rw [hl']
    exact Does.of_eq rfl (serveM_denied hturn hq (by decide) hw (congrArg (fun p : State × SvcRes => (p.1, some p.2)) hrun)
      (by decide))
  · have hl' : (s.slotRunning n).liveObj h = some o := hl
    obtain ⟨u, hrun, hobj⟩ := doObjResize_noShelf hl' hpin hc hle h0 hmax hs
    have hw : (s.slotRunning n).svcWaits (.objResize h len) = false := by
      unfold State.svcWaits
      dsimp only
      rw [hl']
      simp [hs]
    refine ⟨_, Does.of_eq rfl (serveM_ok hturn hq hw (congrArg (fun p : State × SvcRes => (p.1, some p.2)) hrun) rfl), ?_⟩
    exact (obj_of_tqm ((svcOut_tqm _ _ _).trans (mirror_tqm _ _ _)) _).trans hobj
  · have hrun := doObjPlace_same (s := s.slotRunning n) hl hc h3
    exact Does.of_eq rfl (serveM_ok hturn hq rfl (congrArg (fun p : State × SvcRes => (p.1, some p.2)) hrun) rfl)
  · have hl' : (s.slotRunning n).liveObj h = some o := hl
    have hrun : (s.slotRunning n).doObjDelete h = (s.slotRunning n, svcBUSY) := by
      unfold State.doObjDelete
      rw [hl']
      exact if_pos (.inl hnamed)
    exact Does.of_eq rfl (serveM_denied hturn hq (by decide) rfl (congrArg (fun p : State × SvcRes => (p.1, some p.2)) hrun)
      (by decide))
  · exact Does.of_eq rfl (serveM_ok hturn hq rfl (congrArg (fun p : State × SvcRes => (p.1, some p.2)) hrun) rfl)

/-! ### Windows, streams, reports and folios -/

section
variable {s : State} {n k : Nat}

theorem doWindowClear_busy (hk : k < 1048576) (hv : (s.window k).valid = true) (hb : s.winBusy k = true) :
    s.doWindowClear k (some n) = (s.setWindow k { tag := ((s.window k).tag + 1) % 4096, clearing := some n }, none) := by
  unfold State.doWindowClear
  dsimp only
  rw [if_neg (by simp [hv]; omega)]
  exact if_pos ⟨hb, rfl⟩

theorem doWindowClear_idle (hk : k < 1048576) (hv : (s.window k).valid = true) (hb : s.winBusy k = false) :
    s.doWindowClear k (some n) = ((s.setWindow k { tag := ((s.window k).tag + 1) % 4096, clearing := some n }).setWindow k
      { tag := ((s.window k).tag + 1) % 4096 }, some { words := [k * 4096 + ((s.window k).tag + 1) % 4096] }) := by
  have hb' : (s.setWindow k { tag := ((s.window k).tag + 1) % 4096, clearing := some n }).winBusy k = false := hb
  unfold State.doWindowClear
  dsimp only
  rw [if_neg (by simp [hv]; omega)]
  exact if_neg (by simp [hb'])

theorem doWindowSet_free {t host h off len base : Nat} {r w a : Bool} (hk : k < 1048576) (ht : s.tenantOk t = true) (ht0 : t ≠ 0)
    (hh : host ≠ 0) (hl : (s.liveObj h).isSome = true) (hv : (s.window k).valid = false) (hc : (s.window k).clearing = none) :
    s.doWindowSet k t host h off len base r w a = (s.setWindow k { s.window k with
      valid := true
      tenant := t
      host := host
      handle := h
      off := off
      len := len
      base := base
      r := r
      w := w
      a := a }, { words := [k * 4096 + (s.window k).tag] }) := by
  unfold State.doWindowSet
  dsimp only
  exact (if_neg (by simp [ht, ht0, hh]; omega)).trans ((if_neg (by simp [Option.isSome_iff_ne_none.mp hl])).trans
    (if_neg (by simp [hv, hc])))

theorem doReportRelease_ready {i : Nat} {rep : Report} (hr : (s.stream i).report = some rep) (hb : rep.building = false) :
    s.doReportRelease i = (s.releaseReport i, svcOK) := by
  unfold State.doReportRelease
  rw [hr]
  exact if_neg (by simp [hb])

theorem doReportRelease_none {i : Nat} (hr : (s.stream i).report = none) : s.doReportRelease i = (s, svcNOREPORT) := by
  unfold State.doReportRelease
  rw [hr]

/-- FOLIO_MAINT of a length 0 asks for the one folio that holds the offset (R140). -/
theorem doFolioMaint_folio {h off mop lpa : Nat} {o : Obj} {src : Src} (hm : mop < 4) (hl : s.liveObj h = some o)
    (ht : s.translate h off 1 = .ok lpa) :
    s.doFolioMaint h off 0 mop src
      = ((s.openGrp src 1).1.maintAsk [{ src := .grp s.tqm.nextGrp, mop := mop, folio := lpa / 4096 }], none) := by
  have hshort : ¬0 > 2 ^ 30 := by omega
  have hzero : ¬(mop = 4 ∧ 0 ≠ 0 ∧ (0 % 4096 ≠ 0 ∨ off % 4096 ≠ 0)) := by omega
  have howned : ¬(mop = 4 ∧ o.tenant = 0xFFF) := by omega
  unfold State.doFolioMaint
  rw [if_neg (by omega), hl]
  dsimp only
  rw [if_neg hshort, if_neg hzero, show max 1 0 = 1 from rfl, ht]
  dsimp only
  rw [if_neg howned, if_pos rfl]
  simp only [List.map_cons, List.map_nil, List.length_cons, List.length_nil]
  rfl

section
variable {s t : State} (h : ReadsAlike s t) (hd : t.lpr.dram = s.lpr.dram)
include h hd

theorem ReadsAlike.stored (a : Nat) : t.stored a = s.stored a := by
  have hline : ∀ b, t.dline b = s.dline b := fun b => h.dline (by rw [hd])
  unfold State.stored
  rw [h.remap, h.chanOf, h.localOf, h.remapOf]
  simp only [h.remapEnt, h.spareAddr, hline]

theorem ReadsAlike.checkBad (n : Nat) : t.checkBad n = s.checkBad n := by
  have hpeek : ∀ a, t.peek a = s.peek a := fun a => by
    unfold State.peek
    rw [h.dline (by rw [hd]), h.chanOf, h.chFailed, h.erasedDev, h.stored hd]
  unfold State.checkBad State.shelfHeld
  rw [h.dataBase, hd]
  simp only [hpeek]

end

theorem translate_slotRunning (m h off size : Nat) : (s.slotRunning m).translate h off size = s.translate h off size := by
  have halike : ReadsAlike s (s.slotRunning m) := ⟨by simp, by simp, by simp, by simp, by simp, by simp, by simp⟩
  have hobj : (s.slotRunning m).liveObj h = s.liveObj h := rfl
  unfold State.translate
  rw [hobj]
  simp only [halike.checkBad (by simp : (s.slotRunning m).lpr.dram = s.lpr.dram)]

theorem doFolioMaint_noObj {h off len mop : Nat} {src : Src} (hm : mop ≤ 4) (hl : s.liveObj h = none) :
    s.doFolioMaint h off len mop src = (s, some svcNOOBJ) := by
  unfold State.doFolioMaint
  rw [if_neg (by omega), hl]

end

/-- FOLIO_MAINT alone is not mirrored when it completes later (R423). -/
theorem serveM_folioMaint {s u : State} {n h off len mop : Nat} (hturn : s.turn n 0x13)
    (hq : (s.slot n).req = some (.folioMaint h off len mop))
    (hr : (s.slotRunning n).doFolioMaint h off len mop (.svc n) = (u, none)) : s.serveM n 0x13 = u := by
  have hsvc : (s.slotRunning n).doSvc (.folioMaint h off len mop) n = (u, none) := by
    unfold State.doSvc
    rw [show (s.slotRunning n).runSvc (.folioMaint h off len mop) (.svc n) = (u, none) from hr]
    rfl
  unfold State.serveM
  rw [serve_turn hturn, hq]
  dsimp only
  rw [hsvc]

/-- Settles O29: the branch that each service's operands take, and the windows' clearing. -/
theorem windowAndStreamServices : Obligations.WindowAndStreamServices := by
  unfold Obligations.WindowAndStreamServices
  refine ⟨fun s n k t host h off len base r w a hturn hq hk ht ht0 hh hl hv hc => ?_,
    fun s n k t host h off len base r w a hturn hq hbad => ?_, fun s n k hturn hq hv => ?_, fun s n k hturn hq hk hv hb => ?_,
    fun s n k hturn hq hk hv hb => ?_, fun s k slot hc hb => ?_, fun s k slot hc hb => ?_, fun s n i hturn hq hl => ?_,
    fun s n i hturn hq hl => ?_, fun s n hturn hr => ?_, fun s n l c d hturn hr => ?_, fun s n i rep hturn hq hr hb => ?_,
    fun s n i hturn hq hr => ?_, fun s n h off len mop hturn hq hm hl => ?_, fun s n h off mop lpa o hturn hq hm hl ht => ?_⟩
  · have hrun := doWindowSet_free (s := s.slotRunning n) (off := off) (len := len) (base := base) (r := r) (w := w) (a := a)
      hk ht ht0 hh hl hv hc
    exact Does.of_eq rfl (serveM_ok hturn hq rfl (congrArg (fun p : State × SvcRes => (p.1, some p.2)) hrun) rfl)
  · have hrun : (s.slotRunning n).doWindowSet k t host h off len base r w a = (s.slotRunning n, svcDENIED) := by
      refine if_pos ?_
      rcases hbad with hbad | hbad | hbad | hbad
      · exact .inl hbad
      · exact .inr (.inl (by rw [show (s.slotRunning n).tenantOk t = s.tenantOk t from rfl, hbad]; rfl))
      · exact .inr (.inr (.inl hbad))
      · exact .inr (.inr (.inr hbad))
    exact Does.of_eq rfl (serveM_denied hturn hq (by decide) rfl (congrArg (fun p : State × SvcRes => (p.1, some p.2)) hrun)
      svcDENIED_code)
  · have hv' : ((s.slotRunning n).window k).valid = false := hv
    have hrun : (s.slotRunning n).doWindowClear k (some n) = (s.slotRunning n, some svcDENIED) := if_pos (.inr (by rw [hv']; rfl))
    exact Does.of_eq rfl (serveM_denied hturn hq (by decide) rfl hrun svcDENIED_code)
  · exact Does.of_eq rfl (serveM_later hturn hq rfl (doWindowClear_busy (s := s.slotRunning n) hk hv hb) (by simp))
  · exact Does.of_eq rfl (serveM_ok hturn hq rfl (doWindowClear_idle (s := s.slotRunning n) hk hv hb) rfl)
  · refine Does.of_eq rfl ?_
    rw [hc]
    exact if_neg (by simp [hb])
  · refine Does.of_eq rfl ?_
    rw [hc]
    exact if_pos hb
  · have hrun : (s.slotRunning n).doStreamAbort i = _ := if_pos hl
    exact Does.of_eq rfl (serveM_ok hturn hq rfl (congrArg (fun p : State × SvcRes => (p.1, some p.2)) hrun) rfl)
  · have hrun : (s.slotRunning n).doStreamAbort i = _ := if_neg (by rw [show (s.slotRunning n).stream i = s.stream i from rfl, hl]; decide)
    exact Does.of_eq rfl (serveM_ok hturn hq rfl (congrArg (fun p : State × SvcRes => (p.1, some p.2)) hrun) rfl)
  · have hread : (s.slotRunning n).reportRead ((s.slot n).arg 0 4) ((s.slot n).arg 4 4) = .status 0xC :=
      reportRead_none (s := s.slotRunning n) hr
    refine Does.of_eq rfl ?_
    rw [serve_turn hturn, hread]
    rfl
  · have hread : (s.slotRunning n).reportRead ((s.slot n).arg 0 4) ((s.slot n).arg 4 4) = .data l c d := hr
    refine Does.of_eq rfl ?_
    rw [serve_turn hturn, hread]
  · have hrun := doReportRelease_ready (s := s.slotRunning n) hr hb
    exact Does.of_eq rfl (serveM_ok hturn hq rfl (congrArg (fun p : State × SvcRes => (p.1, some p.2)) hrun) rfl)
  · have hrun := doReportRelease_none (s := s.slotRunning n) hr
    exact Does.of_eq rfl (serveM_denied hturn hq (by decide) rfl (congrArg (fun p : State × SvcRes => (p.1, some p.2)) hrun)
      (by decide))
  · exact Does.of_eq rfl (serveM_denied hturn hq (by decide) rfl (doFolioMaint_noObj (s := s.slotRunning n) hm hl) (by decide))
  · rw [← translate_slotRunning] at ht
    have hrun := doFolioMaint_folio (s := s.slotRunning n) (src := .svc n) hm hl ht
    rw [show (s.slotRunning n).tqm = s.tqm by simp] at hrun
    exact Does.of_eq rfl (serveM_folioMaint hturn hq hrun)

end Sys2Proof.Machine
end

section
/-! PROOF. The twin pair: leases, hellos and pulses, the witness and the twin services: O46, O47, O48 and O49. -/

namespace Sys2Proof.Machine

/-! ### Leases (R331, R332, R339, R340) -/

/-- Settles O46: each frame's and timer's branch is the one its role and lease take. -/
theorem leases : Obligations.Leases := by
  unfold Obligations.Leases
  refine ⟨fun s hr hl => Does.of_eq rfl (if_pos ⟨hr, hl⟩), fun s g r m hl hm => ⟨fun hr => ?_, fun hr => ?_⟩, fun s r a hr hf => ?_,
    fun s g r hg => Does.of_eq rfl (if_pos (.inr hg)), fun s g m hr => Does.of_eq rfl (if_pos ⟨hr, by omega⟩),
    fun s hr => ⟨fun h => Does.of_eq rfl (if_pos ⟨hr, by simp [h]⟩), fun h => Does.of_eq rfl (if_neg (by simp [h]))⟩,
    fun s g hr hg => ?_, fun s hr => Does.of_eq rfl (if_neg (by simp [hr])), fun s g r hr hg => Does.of_eq rfl (if_pos ⟨hr, hg⟩)⟩
  · exact Does.of_eq rfl ((if_pos ⟨.inl hr, hl, hm⟩).trans (if_pos hr))
  · have hnot : s.twn.role ≠ .inStep := by rcases hr with hr | hr <;> simp [hr]
    exact Does.of_eq rfl ((if_pos ⟨.inr hr, hl, hm⟩).trans (if_neg hnot))
  · refine Does.of_eq rfl ?_
    rw [if_neg (by simp [hr]), hf]
  · have hheld : s.twn.grantHeld ≠ 0 := by omega
    have hgen : s.twn.grantHeld - 1 = g := by omega
    refine Does.of_eq rfl ((if_pos ⟨hr, hheld⟩).trans ?_)
    rw [← hgen]

/-! ### Hellos and pulses (R334, R336, R341, R343) -/

/-- The code of a pulse's width in ns, by the windows of R334. -/
theorem hbCode_eq (ns : Nat) :
    (500 ≤ ns → ns ≤ 1500 → hbCode ns = 1) ∧ (2500 ≤ ns → ns ≤ 3500 → hbCode ns = 2) ∧
    (6500 ≤ ns → ns ≤ 7500 → hbCode ns = 4) ∧
    ((ns < 500 ∨ (1500 < ns ∧ ns < 2500) ∨ (3500 < ns ∧ ns < 4500) ∨ (5500 < ns ∧ ns < 6500) ∨ 7500 < ns) → hbCode ns = 0) := by
  unfold hbCode
  refine ⟨fun h1 h2 => if_pos ⟨h1, h2⟩, fun h1 h2 => ?_, fun h1 h2 => ?_, fun h => ?_⟩
  · rw [if_neg (by omega), if_pos ⟨h1, h2⟩]
  · rw [if_neg (by omega), if_neg (by omega), if_neg (by omega), if_pos ⟨h1, h2⟩]
  · rw [if_neg (by omega), if_neg (by omega), if_neg (by omega), if_neg (by omega)]

section
variable {s : State} {g role d : Nat} {wh so vo : Bool}

/-- The holder drops its partner's HELLO as a holder's, else refuses a partner it still has, else accepts one it has lost. -/
theorem does_hello_active (hr : s.twn.role = .active) (hrole : role ≠ 2) :
    Does (.hello g wh so vo role d) s (if s.twn.partner ≠ .lost ∨ s.twn.handover.isSome then
      (s.helloKept g wh so vo role d).twinOut (.join s.twn.gen false 3) else (s.helloKept g wh so vo role d).acceptJoin g so) := by
  refine Does.of_eq rfl ?_
  unfold State.helloKept helloWords
  dsimp only
  rw [hr]
  exact if_neg hrole

/-- A starting unit that hears another starting one claims or gains when it ranks first with its state whole. -/
theorem does_hello_starting (hr : s.twn.role = .starting) :
    Does (.hello g wh so vo 1 d) s (if s.ranksFirst g wh so vo = false ∨ s.twn.stateOk = false then s.helloKept g wh so vo 1 d
      else if s.witness then { s.helloKept g wh so vo 1 d with
        twn := { (s.helloKept g wh so vo 1 d).twn with role := .claiming, claimWhy := 2, viewUntil := 0 } }
      else (s.helloKept g wh so vo 1 d).gain s.twn.gen 2) := by
  refine Does.of_eq rfl ?_
  unfold State.helloKept helloWords
  dsimp only
  rw [hr]
  refine (if_neg (by decide)).trans ((if_neg (by decide)).trans ?_)
  by_cases h : s.ranksFirst g wh so vo = false ∨ s.twn.stateOk = false
  · have h' : (!s.ranksFirst g wh so vo) = true ∨ (!s.twn.stateOk) = true := by simpa using h
    rw [if_pos h]
    exact if_pos h'
  · have h' : ¬ ((!s.ranksFirst g wh so vo) = true ∨ (!s.twn.stateOk) = true) := by simpa using h
    rw [if_neg h]
    exact if_neg h'

end

/-- Settles O47: pulses by their width's code, a JOIN by what it says, a HELLO by role and rank. -/
theorem hellosAndPulses : Obligations.HellosAndPulses := by
  unfold Obligations.HellosAndPulses
  refine ⟨fun s g r hr hl => ?_, fun s g r hr => ?_, fun s g hr => ?_, fun s hp hr => ?_, fun s hr => Does.of_eq rfl (if_pos (.inl hr)),
    fun s ns h => ?_, fun s ns h1 h2 hl => ?_, fun s ns h1 h2 hl hr => ?_, fun s ns h1 h2 hl hr hp hg => ?_,
    fun s hr => Does.of_eq rfl (if_neg (by simp [hr])), fun s hr hl hg hw ha => ?_, fun s hr hl hg hw => ?_,
    fun s g role d wh so vo hr hrole hp hh => ?_, fun s g role d wh so vo hr hrole hp => ?_, fun s g d wh so vo hr => ?_,
    fun s g d wh so vo hr hrank hok => ⟨fun hw => ?_, fun hw => ?_⟩, fun s g d wh so vo hr hrank => ?_,
    fun s g d wh so vo hr hf => ?_, fun s g d wh so vo hr => ?_⟩
  · exact Does.of_eq rfl ((if_pos rfl).trans (if_neg (by simp [hr, hl])))
  · exact Does.of_eq rfl ((if_pos rfl).trans (if_pos (.inl (by simp [hr]))))
  · exact Does.of_eq rfl ((if_neg (by decide)).trans (if_pos ⟨hr, rfl⟩))
  · exact Does.of_eq rfl (if_neg (by simp [hp, hr]))
  · exact Does.of_eq rfl (if_pos ((hbCode_eq ns).2.2.2 h))
  · have hc : hbCode ns = 1 := (hbCode_eq ns).1 h1 h2
    refine Does.of_eq rfl ?_
    dsimp only
    rw [hc, if_neg (by decide), if_pos hl, if_neg (by simp [hl])]
  · have hc : hbCode ns = 4 := (hbCode_eq ns).2.2.1 h1 h2
    have hdown : ¬ s.twn.linkUp = true := by simp [hl]
    refine Does.of_eq rfl ?_
    dsimp only
    rw [hc, if_neg (by decide), if_neg hdown, if_neg (by simp [hr])]
  · have hc : hbCode ns = 2 := (hbCode_eq ns).2.1 h1 h2
    have hdown : ¬ s.twn.linkUp = true := by simp [hl]
    have hn : min 2 (s.twn.pulses + 1) = 2 := by omega
    refine Does.of_eq rfl ?_
    dsimp only
    rw [hc, if_neg (by decide), if_neg hdown, hn, if_pos (by simp [hr, hl, hg])]
  · exact Does.of_eq rfl ((if_pos ⟨hr, by simp [hl], by simp [hg]⟩).trans (if_pos ⟨hw, ha⟩))
  · refine Does.of_eq rfl ((if_pos ⟨hr, by simp [hl], by simp [hg]⟩).trans (if_neg ?_))
    rintro ⟨hw', ha'⟩
    rcases hw with hw | hw
    · exact Bool.false_ne_true (hw.symm.trans hw')
    · exact Bool.false_ne_true (hw.symm.trans ha')
  · have h := does_hello_active (g := g) (d := d) (wh := wh) (so := so) (vo := vo) hr hrole
    rwa [if_neg (by simp [hp, hh])] at h
  · have h := does_hello_active (g := g) (d := d) (wh := wh) (so := so) (vo := vo) hr hrole
    rwa [if_pos (.inl hp)] at h
  · refine Does.of_eq rfl ?_
    unfold State.helloKept helloWords
    dsimp only
    rw [hr]
    exact if_pos rfl
  · have h := does_hello_starting (g := g) (d := d) (wh := wh) (so := so) (vo := vo) hr
    rwa [if_neg (by simp [hrank, hok]), if_neg (by simp [hw])] at h
  · have h := does_hello_starting (g := g) (d := d) (wh := wh) (so := so) (vo := vo) hr
    rwa [if_neg (by simp [hrank, hok]), if_pos hw] at h
  · have h := does_hello_starting (g := g) (d := d) (wh := wh) (so := so) (vo := vo) hr
    rwa [if_pos (.inl hrank)] at h
  · refine Does.of_eq rfl ?_
    unfold State.helloKept helloWords
    dsimp only
    rw [hr]
    exact (if_pos rfl).trans (if_pos hf)
  · refine Does.of_eq rfl ?_
    unfold State.helloKept helloWords
    dsimp only
    rw [hr]
    exact (if_neg (by decide)).trans (if_neg (by decide))

/-! ### The witness (R335, R345) -/

section
variable {s u : State} {msg : List Byte} {w : WReq} {a g : Nat}

/-- A GRANT that answers no request outstanding only counts. -/
theorem does_witnessGrant_none (h : s.witnessTake 0x81 msg = (u, none)) : Does (.witnessGrant msg) s u := by
  refine Does.of_eq rfl ?_
  simp only [h]

theorem does_witnessDenyHeld_none (h : s.witnessTake 0x82 msg = (u, none)) : Does (.witnessDenyHeld msg) s u := by
  refine Does.of_eq rfl ?_
  simp only [h]

theorem does_witnessDenyStale_none (h : s.witnessTake 0x83 msg = (u, none)) : Does (.witnessDenyStale msg) s u := by
  refine Does.of_eq rfl ?_
  simp only [h]

/-- A renewal granted lengthens the right to act (R331). -/
theorem does_witnessGrant_renewal (h : s.witnessTake 0x81 msg = (u, some (w, a, g))) (hw : w.type = 2) :
    Does (.witnessGrant msg) s { u with twn := { u.twn with renewUntil := max u.twn.renewUntil (a + 10000) } } := by
  refine Does.of_eq rfl ?_
  simp only [h]
  exact (if_neg (by omega)).trans (if_pos (.inl hw))

/-- A CLAIM granted to a claimer on its own account: it gains once its view of the old lease has ended (R339). -/
theorem does_witnessGrant_claim (h : s.witnessTake 0x81 msg = (u, some (w, a, g))) (hw : w.type = 1)
    (hrole : u.twn.role = .claiming) (ht : u.twn.takeover = none) (hy : u.twn.claimWhy = 0) :
    Does (.witnessGrant msg) s (if u.timeUs ≥ u.twn.viewUntil then
      ({ u with twn := { u.twn with renewUntil := max u.twn.renewUntil (a + 10000) } }).gain g 0
      else { u with twn := { u.twn with renewUntil := max u.twn.renewUntil (a + 10000), grantHeld := g + 1 } }) := by
  refine Does.of_eq rfl ?_
  simp only [h]
  rw [if_neg (by omega), if_neg (by simp [hw, hrole]), ht]
  exact (if_neg (by simp [hy])).trans (if_neg (by simp [hy]))

/-- A query denied counts and nothing more. -/
theorem does_witnessDenyHeld_query (h : s.witnessTake 0x82 msg = (u, some (w, a, g))) (hw : w.type = 3) :
    Does (.witnessDenyHeld msg) s (u.denied 0x82 g) := by
  refine Does.of_eq rfl ?_
  simp only [h]
  exact (if_neg (by omega)).trans (if_neg (by omega))

theorem does_witnessDenyStale_query (h : s.witnessTake 0x83 msg = (u, some (w, a, g))) (hw : w.type = 3) :
    Does (.witnessDenyStale msg) s (u.denied 0x83 g) := by
  refine Does.of_eq rfl ?_
  simp only [h]
  exact (if_neg (by omega)).trans (if_neg (by omega))

/-- A holder whose renewal is denied demotes (R335). -/
theorem does_witnessDenyHeld_renewal (h : s.witnessTake 0x82 msg = (u, some (w, a, g))) (hw : w.type = 2)
    (hr : (u.denied 0x82 g).twn.role = .active) : Does (.witnessDenyHeld msg) s ((u.denied 0x82 g).demote .detached) := by
  refine Does.of_eq rfl ?_
  simp only [h]
  exact (if_pos hw).trans (if_pos hr)

theorem does_witnessDenyStale_renewal (h : s.witnessTake 0x83 msg = (u, some (w, a, g))) (hw : w.type = 2)
    (hr : (u.denied 0x83 g).twn.role = .active) : Does (.witnessDenyStale msg) s ((u.denied 0x83 g).demote .detached) := by
  refine Does.of_eq rfl ?_
  simp only [h]
  exact (if_pos hw).trans (if_pos hr)

end

/-- Settles O48: the timers by role, the answers by the request they answer. -/
theorem witnessTraffic : Obligations.WitnessTraffic := by
  unfold Obligations.WitnessTraffic
  refine ⟨fun s hr hw hg => Does.of_eq rfl (if_pos ⟨hr, by simp [hw], hg⟩), fun s hr => Does.of_eq rfl (if_neg (by simp [hr])),
    fun s hr hw => Does.of_eq rfl (if_pos ⟨hr, hw⟩), fun s hw => Does.of_eq rfl (if_neg (by simp [hw])),
    fun s hr hw hl hq => Does.of_eq rfl (if_pos ⟨hr, hw, by simp [hl], by simp [hq]⟩),
    fun s hl => Does.of_eq rfl (if_neg (by simp [hl])), fun s w hw => Does.of_eq rfl (by rw [hw]),
    fun s u msg h => does_witnessGrant_none h, fun s u msg h => does_witnessDenyHeld_none h,
    fun s u msg h => does_witnessDenyStale_none h, fun s u msg w a g h hw => does_witnessGrant_renewal h hw,
    fun s u msg w a g h hw hrole ht hy => ⟨fun hv => ?_, fun hv => ?_⟩,
    fun s u msg w a g h hw => does_witnessDenyHeld_query h hw, fun s u msg w a g h hw => does_witnessDenyStale_query h hw,
    fun s u msg w a g hw h2 h3 => ⟨fun h => does_witnessDenyHeld_renewal h hw h2, fun h => does_witnessDenyStale_renewal h hw h3⟩⟩
  · have hgrant := does_witnessGrant_claim h hw hrole ht hy
    rwa [if_pos hv] at hgrant
  · have hgrant := does_witnessGrant_claim h hw hrole ht hy
    rwa [if_neg (by omega)] at hgrant

/-! ### Services (R337, R338, R340) -/

/-- A service of a slot whose turn it is, answered at once. -/
theorem serve_done {s u : State} {n c : Nat} {run : MbSlot → State → State × Option SvcRes} {r : SvcRes} (h : s.turn n c)
    (hrun : run (s.slot n) (s.slotRunning n) = (u, some r)) : s.serve n c run = u.svcOut n r := by
  rw [serve_turn h, hrun]

/-- A service of a slot whose turn it is, which goes on running. -/
theorem serve_goesOn {s u : State} {n c : Nat} {run : MbSlot → State → State × Option SvcRes} (h : s.turn n c)
    (hrun : run (s.slot n) (s.slotRunning n) = (u, none)) : s.serve n c run = u := by
  rw [serve_turn h, hrun]

theorem slotRunning_twnBusy (s : State) (n : Nat) : (s.slotRunning n).twnBusy = s.twnBusy := rfl

/-- Settles O49: the branch of each service that the unit's role takes. -/
theorem twinServices : Obligations.TwinServices := by
  unfold Obligations.TwinServices
  refine ⟨fun s n h hr hb => Does.of_eq rfl (serve_done h ((if_pos (.inr hr)).trans (if_neg (by rw [slotRunning_twnBusy, hb]; decide)))),
    fun s n h hr => Does.of_eq rfl (serve_done h ((if_neg (by simp [hr])).trans (if_pos hr))),
    fun s n h hr => Does.of_eq rfl (serve_done h ((if_neg (by simp [hr])).trans (if_neg (by simp [hr])))),
    fun s n h hr hp hb => Does.of_eq rfl (serve_goesOn h ((if_neg (by simp [hr, hp])).trans (if_neg (by rw [slotRunning_twnBusy, hb]; simp [hp])))),
    fun s n h hr => Does.of_eq rfl (serve_done h (if_pos (.inl hr))),
    fun s n h hr hb hw => Does.of_eq rfl (serve_done h ((if_neg (by simp [hr])).trans ((if_neg (by rw [slotRunning_twnBusy, hb]; decide)).trans ?_))),
    fun s n h hr hb hw => Does.of_eq rfl (serve_goesOn h ((if_neg (by simp [hr])).trans ((if_neg (by rw [slotRunning_twnBusy, hb]; decide)).trans ?_))),
    fun s n h hr => Does.of_eq rfl (serve_done h (if_pos (.inr hr))),
    fun s n h hr hg => Does.of_eq rfl (serve_done h ((if_neg hr).trans (if_neg (by simp [hg])))),
    fun s n h hr => Does.of_eq rfl (serve_done h (if_pos hr))⟩
  · have hin : ((s.slotRunning n).twn.role == Role.inStep) = true := by simp [hr]
    have hw' : (s.slotRunning n).witness = false := hw
    refine (if_pos (by rw [hw']; decide)).trans ?_
    rw [hin]
    rfl
  · have hin : ((s.slotRunning n).twn.role == Role.inStep) = false := by simp [hr]
    have hw' : (s.slotRunning n).witness = true := hw
    have hold : (s.slotRunning n).twn.role = .detached := hr
    refine (if_neg (by rw [hw']; decide)).trans ?_
    rw [hin, hold]
    rfl

end Sys2Proof.Machine
end

section
/-! PROOF. Frames of the mirror stream and the Return frames: O44 and O45. -/

namespace Sys2Proof.Machine

/-! ### Sequenced frames (R218, R321 to R324) -/

/-- Each command of a sequenced frame hands that frame to `rxFrame`. -/
theorem exec_mirrorOf {c : Instr} {f : MFrame} (h : mirrorOf c = some f) (s : State) : exec c s = finish (s.rxFrame f) := by
  unfold mirrorOf at h
  split at h
  all_goals cases h
  all_goals rfl

theorem applyFrame_rsEnd {s : State} (m : Nat) (h : s.cru.awaitAccept = false) : s.applyFrame m .rsEnd =
    .applied (({ s with twn := { s.twn with role := .inStep, diverge := [] } }).raise 0x30A) := by
  unfold State.applyFrame
  exact congrArg (fun u : State => RxDone.applied (u.raise 0x30A)) (if_neg (by simp [h]))

/-- Settles O44: a frame by the role and the link, and what three of them do when they are applied. -/
theorem mirrorFrames : Obligations.MirrorFrames := by
  unfold Obligations.MirrorFrames
  refine ⟨fun c f s h hr hl => Does.of_eq (exec_mirrorOf h s) ?_, fun c f s h hr hl => Does.of_eq (exec_mirrorOf h s) ?_,
    fun c f s h hr hl => Does.of_eq (exec_mirrorOf h s) ?_, fun s m i n => rfl, fun s m r => rfl,
    fun s m h => applyFrame_rsEnd m h⟩
  · have hna : s.twn.role ≠ .active := by rcases hr with hr | hr <;> simp [hr]
    exact (if_neg hna).trans (if_pos ⟨hr, hl⟩)
  · exact (if_pos hr).trans (if_pos hl)
  · exact (if_neg hr).trans (if_neg (by simp [hl]))

/-! ### Return frames (R322, R326 to R330) -/

section
variable {s : State} (hr : s.twn.role = .active) (hp : s.twn.partner ≠ .lost)
include hr hp

/-- A holder with a partner takes a Return frame. -/
theorem returnFrame_taken (body : State → State) : s.returnFrame body = body s :=
  (if_pos hr).trans (if_neg hp)

theorem does_applied {u : State} {m : Nat}
    (hsent : (s.twn.sent.filter (fun f => decide ((m + 2 ^ 48 - f.mseq % 2 ^ 48) % 2 ^ 48 < 2 ^ 47))) ≠ [])
    (hu : u = { s with twn := { s.twn with
        sent := s.twn.sent.filter (fun f => !decide ((m + 2 ^ 48 - f.mseq % 2 ^ 48) % 2 ^ 48 < 2 ^ 47))
        appliedAt := s.timeUs } }) :
    Does (.applied m) s ((((s.twn.sent.filter (fun f => decide ((m + 2 ^ 48 - f.mseq % 2 ^ 48) % 2 ^ 48 < 2 ^ 47))).flatMap
      (·.lines)).foldl State.unpend u).releaseAll) := by
  subst hu
  refine Does.of_eq rfl ((returnFrame_taken hr hp _).trans (if_neg ?_))
  simpa using hsent

section
variable {u : State} {m old : Nat} {ok : Bool} {a : AtomWait} (ha : s.twn.atoms.find? (fun a => a.mseq == m) = some a)
  (hu : u = { s with twn := { s.twn with atoms := s.twn.atoms.filter (fun b => b.mseq != m) } })
include ha hu

/-- The partner's result of an atomic is compared with this unit's (R329, R330). -/
theorem does_result : Does (.result m ok old) s (if leNat a.old = old ∧ a.casOk = ok then
      (u.setStream a.stream { u.stream a.stream with
        acks := (u.stream a.stream).acks.map (fun (w : AckWait) =>
          if w.mseq == some m then { w with needResult := false } else w) }).releaseAcks a.stream
    else (((u.bumpFld fTWN_CNT_MISMATCH_RESULT).raise 0x304).note 0x433
      ([a.stream, (u.stream a.stream).epoch] ++ words2 (leNat a.old % 2 ^ 64) ++ words2 (old % 2 ^ 64))).fenceOut 2) := by
  subst hu
  refine Does.of_eq rfl ((returnFrame_taken hr hp _).trans ?_)
  simp only [ha]

end

section
variable {i m : Nat} {c : CloseSt} (hst : (s.stream i).st = .closing) (hc : (s.stream i).close = some c) (hm : c.mseq = some m)
include hst hc hm

/-- A DIGEST for the close in progress: skipped, equal or not (R328, R330). -/
theorem does_digest (skipped : Bool) (crc : BitVec 64) : Does (.digest i (s.stream i).epoch skipped crc m) s
    (if skipped then (s.setStream i { s.stream i with close := some { c with digestOk := true } }).bump rTWN_CNT_DIGEST_SKIP
     else if crc = digestOut (s.stream i).digest then
      (s.setStream i { s.stream i with close := some { c with digestOk := true } }).bump rTWN_CNT_DIGEST
     else ((s.bump rTWN_CNT_DIGEST).bumpFld fTWN_CNT_MISMATCH_DIGEST).digestFail i 0 crc) := by
  refine Does.of_eq rfl ((returnFrame_taken hr hp _).trans ?_)
  simp only [hst, hc]
  exact if_neg (by simp [hm])

theorem does_digestTimeout (hl : s.twn.linkUp = true) (hd : c.digestOk = false) : Does (.digestTimeout i) s (s.digestFail i 1 0) := by
  refine Does.of_eq rfl ?_
  simp only [hst, hc]
  exact if_pos ⟨hr, hp, hl, by simp [hm], by simp [hd]⟩

end

theorem does_twinStatus {free stage m : Nat} (hs : s.twn.status = none) (hst : stage ≤ 7) :
    Does (.twinStatus free stage m) s ({ s with twn := { s.twn with
      status := some (free, m)
      allocs := s.twn.allocs.filter (fun a => decide (m < a.1)) } }).runAllocWaits := by
  refine Does.of_eq rfl ((returnFrame_taken hr hp _).trans ?_)
  simp only [hs]
  exact if_neg (by simpa using hst)

end

/-- Settles O45: a Return frame at the holder, by its content; timers and the twin link's loss. -/
theorem returnFrames : Obligations.ReturnFrames := by
  unfold Obligations.ReturnFrames
  refine ⟨fun s u m hr hp hsent hu => does_applied hr hp hsent hu,
    fun s u m old ok a hr hp ha hu => ⟨fun ho hk => ?_, fun h => ?_⟩,
    fun s i crc m c hr hp hst hc hm => ⟨does_digest hr hp hst hc hm true crc, fun he => ?_, fun he => ?_⟩,
    fun s i m c hr hp hl hst hc hm hd => does_digestTimeout hr hp hst hc hm hl hd,
    fun s free stage m hr hp hs hst => does_twinStatus hr hp hs hst,
    fun s hr hl => Does.of_eq rfl (if_pos ⟨.inl hr, hl⟩), fun s m hr hm => ⟨fun hp => ?_, fun hp => ⟨?_, ?_⟩⟩,
    fun s r hr => Does.of_eq rfl (if_pos hr), fun s hr hp hs => Does.of_eq rfl (if_pos ⟨hr, hp, by simpa using hs⟩),
    fun s hl => Does.of_eq rfl (if_pos hl), fun s hl => Does.of_eq rfl (if_neg (by simp [hl])),
    fun s hr hp hc => Does.of_eq rfl (if_pos ⟨hr, hp, by simp [hc]⟩),
    fun s m hr hp => Does.of_eq rfl ((if_pos hr).trans (if_pos hp))⟩
  · have h := does_result (old := old) (ok := ok) hr hp ha hu
    rwa [if_pos ⟨ho, hk⟩] at h
  · have hres := does_result (old := old) (ok := ok) hr hp ha hu
    rwa [if_neg (by tauto)] at hres
  · have h := does_digest hr hp hst hc hm false crc
    rwa [if_neg (by decide), if_pos he] at h
  · have h := does_digest hr hp hst hc hm false crc
    rwa [if_neg (by decide), if_neg he] at h
  · exact Does.of_eq rfl ((returnFrame_taken hr (by simp [hp]) _).trans ((if_neg (by omega)).trans (if_neg (by simp [hp]))))
  · exact Does.of_eq rfl ((returnFrame_taken hr (by simp [hp]) _).trans ((if_neg (by omega)).trans (if_pos ⟨rfl, hp⟩)))
  · exact Does.of_eq rfl ((returnFrame_taken hr (by simp [hp]) _).trans ((if_neg (by omega)).trans (if_neg (by simp))))

end Sys2Proof.Machine
end

section
/-! PROOF. The key engine, unlocks and provisioning: O56 and O57. -/

namespace Sys2Proof.Machine

/-! ### The key engine (R455 to R459) -/

section
variable {s : State} {q r : KReq}

/-- A request that finds the queue full waits (R456). -/
theorem kceSubmit_full (h : 64 ≤ s.sec.kQueue.length) :
    s.kceSubmit q = { s with sec := { s.sec with kWait := s.sec.kWait ++ [q] } } :=
  if_pos h

/-- An idle engine with one request, urgent or not, and none suspended before it starts that request. -/
theorem kceStart_single (hr : s.sec.kRun = none) (hq : s.sec.kQueue = [q]) (hw : s.sec.kWait = [])
    (hs : q.urgent = true ∨ s.sec.kSusp = none) :
    s.kceStart = { s with sec := { s.sec with kRun := some { q with key := some (s.key q.slot) }, kQueue := [] } } := by
  have hrest : [q].erase q = [] := by simp
  unfold State.kceStart
  rw [if_neg (by simp [hr])]
  cases hu : q.urgent with
  | true => simp [hq, hu, hw]
  | false =>
    have hsusp : s.sec.kSusp = none := by simpa [hu] using hs
    simp [hq, hu, hw, hsusp]

theorem kceSubmit_idle (hq : s.sec.kQueue = []) (hr : s.sec.kRun = none) (hs : s.sec.kSusp = none) (hw : s.sec.kWait = []) :
    s.kceSubmit q = { s with sec := { s.sec with kRun := some { q with key := some (s.key q.slot) } } } := by
  have hroom : ¬ s.sec.kQueue.length ≥ 64 := by simp [hq]
  have hqueue : s.sec.kQueue ++ [q] = [q] := by simp [hq]
  unfold State.kceSubmit
  rw [if_neg hroom, hqueue]
  dsimp only
  rw [hr]
  dsimp only
  refine (kceStart_single (s := { s with sec := { s.sec with kQueue := [q], kRun := none } }) rfl rfl hw (.inr hs)).trans ?_
  rw [← hq]
  rfl

/-- An urgent request suspends a normal one (R456). -/
theorem kceSubmit_suspends (hq : s.sec.kQueue = []) (hr : s.sec.kRun = some r) (hw : s.sec.kWait = []) (hu : q.urgent = true)
    (hn : r.urgent = false) :
    (s.kceSubmit q).sec.kSusp = some r ∧ (s.kceSubmit q).sec.kRun = some { q with key := some (s.key q.slot) } := by
  have hroom : ¬ s.sec.kQueue.length ≥ 64 := by simp [hq]
  have hqueue : s.sec.kQueue ++ [q] = [q] := by simp [hq]
  unfold State.kceSubmit
  rw [if_neg hroom, hqueue]
  dsimp only
  rw [hr]
  dsimp only
  rw [if_pos (by simp [hu, hn]), kceStart_single (q := q) (by simp) (by simp) (by simp [hw]) (.inl hu)]
  simp [State.key]

end

section
variable {k : Key} {use : Nat} {msg mac : List Byte}

theorem kceResult_noKey (h : k.bytes = []) : kceResult k use msg mac = (2, []) :=
  if_pos (by simp [h])

/-- A verification that the key allows answers 0 for an equal CMAC and 1 for another (R459). -/
theorem kceResult_verify (hb : k.bytes ≠ []) (hv : k.verify = true) :
    kceResult k 1 msg mac = if cmac k.bytes (natsOf msg) = natsOf mac then (0, []) else (1, []) :=
  (if_neg (by simpa using hb)).trans ((if_neg (by simp [hv])).trans ((if_neg (by decide)).trans (if_pos rfl)))

theorem kceResult_noMacOut (hb : k.bytes ≠ []) (hm : k.macOut = false) : kceResult k 2 msg mac = (3, []) :=
  (if_neg (by simpa using hb)).trans (if_pos (by simp [hm]))

end

/-- Settles O57: requests by what they name, the queue by what runs, results by the key's rights. -/
theorem keyEngine : Obligations.KeyEngine := by
  unfold Obligations.KeyEngine
  refine ⟨fun s w slot use msg mac h => Does.of_eq rfl (if_pos ?_), fun s slot use msg mac hc ho hs hu hl => ?_,
    fun s slot use msg mac hc ho hs hu hl => ?_, fun s q h => kceSubmit_full h, fun s q hq hr hs hw => kceSubmit_idle hq hr hs hw,
    fun s q r hq hr hw hu hn => kceSubmit_suspends hq hr hw hu hn, fun s h => ?_, fun s u q r mac hr hw hres hu => ?_,
    fun k use msg mac h => kceResult_noKey h, fun k msg mac hb hv => ?_, fun k msg mac hb hm => ?_⟩
  · rcases h with h | h | h | h
    · exact .inl (by simp [h])
    · exact .inr (.inl h)
    · exact .inr (.inr (.inl h))
    · exact .inr (.inr (.inr (.inl h)))
  · exact Does.of_eq rfl ((if_neg (by simp [hc, hs, hu, hl])).trans ((if_neg (by simp)).trans (if_pos (by simp [ho]))))
  · exact Does.of_eq rfl ((if_neg (by simp [hc, hs, hu, hl])).trans ((if_neg (by simp)).trans (if_neg (by simp [ho]))))
  · refine Does.of_eq rfl ?_
    simp only [h]
  · refine Does.of_eq rfl ?_
    simp only [hr, hres]
    rw [if_neg hw, hu]
  · rw [kceResult_verify hb hv]
    split <;> simp [*]
  · rw [kceResult_noMacOut hb hm]

/-! ### Unlocks and provisioning (R461, R466 to R468) -/

section
variable {s : State}

theorem regsOpen_coreOff {p : Nat} (h : s.coreRuns = false) : s.regsOpen p = false := by
  simp [State.regsOpen, h]

theorem unlockChallenge_issued {u : State} {p k : Nat} (hu : u = s.setFld fSEC_UNLOCK_PURPOSE (k % 4))
    (hr : u.chalRefused (k % 4) = false) : s.unlockChallenge p k = { u with sec := { u.sec with
      issued := u.sec.issued + 1
      chal := some (u.challenge (u.sec.issued + 1) (k % 4), k % 4, p, u.timeUs)
      chalRegs := u.challenge (u.sec.issued + 1) (k % 4) } } := by
  subst hu
  exact if_neg (by simp [hr])

theorem unlockSubmit_none {p : Nat} (h : s.sec.chal = none) : s.unlockSubmit p = s.unlockFail p := by
  unfold State.unlockSubmit
  rw [h]

section
variable {p k q a : Nat} {b : List Nat} (h : s.sec.chal = some (b, k, q, a))
include h

/-- A challenge is valid for 10 s (R467). -/
theorem chalValid_eq : s.chalValid = decide (s.timeUs < a + 10000000) := by
  unfold State.chalValid
  generalize 10000000 = span
  rw [h, Option.elim_some]

theorem unlockSubmit_late (ht : a + 10000000 ≤ s.timeUs) :
    s.unlockSubmit p = State.unlockFail { s with sec := { s.sec with chal := none } } p := by
  unfold State.unlockSubmit
  rw [h]
  exact if_pos (by simp [chalValid_eq h, ht])

theorem unlockSubmit_timely (ht : s.timeUs < a + 10000000) (hc : s.cipherOn = true) :
    s.unlockSubmit p = ({ s with sec := { s.sec with chal := none, submitted := some (k, p) } } : State).kceSubmit
      { who := 2, slot := 4, use := 1, urgent := true, msg := b.map (BitVec.ofNat 8 ·), mac := s.respBytes } := by
  unfold State.unlockSubmit
  rw [h]
  exact (if_neg (by simp [chalValid_eq h, ht])).trans (if_neg (by simp [hc]))

end

/-- A failed attempt counts, and the fourth locks out (R468). -/
theorem unlockFail_sec (p : Nat) : (s.unlockFail p).sec.failures = s.sec.failures + 1 ∧
    ((s.unlockFail p).sec.lockout = true ↔ s.sec.lockout = true ∨ s.sec.failures ≥ 3) := by
  unfold State.unlockFail
  simp

section
variable (hb : s.sec.burning = none)
include hb

theorem provCommit_owned (hl : s.lifecycle ≠ 0) : s.provCommit = s.provEnd 1 :=
  (if_neg (by simp [hb])).trans (if_pos hl)

theorem provCommit_unseeded (hl : s.lifecycle = 0) (h : s.sec.seed = none ∨ s.rgc.verifiedB = false) : s.provCommit = s.provEnd 2 :=
  (if_neg (by simp [hb])).trans ((if_neg (by simp [hl])).trans (if_pos (by simpa using h)))

theorem provCommit_burns {u : State} {v row : Nat} (hl : s.lifecycle = 0) (hs : s.sec.seed ≠ none) (hv : s.rgc.verifiedB = true)
    (hf : s.fwCheck (1 - s.efl.ptrBank) = (u, 0, v)) (hr : u.sec.fuse.freeRow = some row) :
    s.provCommit = { u with sec := { u.sec with burning := some row, provResult := 0 } } := by
  unfold State.provCommit
  rw [if_neg (by simp [hb]), if_neg (by simp [hl]), if_neg (by simp [hs, hv]), hf]
  dsimp only
  rw [if_neg (by decide), hr]

theorem does_fuseBurnDone_idle : Does (.fuseBurnDone true) s s := by
  refine Does.of_eq rfl ?_
  simp only [hb]

end

section
variable {row : Nat} (hb : s.sec.burning = some row)
include hb

theorem does_fuseBurnDone_bad {u : State}
    (hu : u = { s with sec := { s.sec with burning := none, fuse := s.sec.fuse.burnRow row (s.sec.seed.getD []) false } }) :
    Does (.fuseBurnDone false) s ((u.provEnd 4).note 0x494 [row, 4]) := by
  subst hu
  refine Does.of_eq rfl ?_
  simp only [hb]
  exact if_neg (by decide)

theorem does_fuseBurnDone_good {u v : State}
    (hu : u = { s with sec := { s.sec with
      burning := none
      fuse := { s.sec.fuse.burnRow row (s.sec.seed.getD []) true with owned := some row } } })
    (hv : v = ((u.cfgErase 0).note 0x490 (words2 (s.sec.fuse.burnRow row (s.sec.seed.getD []) true).uid.toNat ++ [row])).powerDown
      .off 9) :
    Does (.fuseBurnDone true) s { v with sup := { v.sup with onLatched := true } } := by
  subst hu hv
  refine Does.of_eq rfl ?_
  simp only [hb, if_true]

end

end

/-- Settles O56: each request at open registers by the challenge, the lifecycle and the fuses. -/
theorem unlockAndProvisioning : Obligations.UnlockAndProvisioning := by
  unfold Obligations.UnlockAndProvisioning
  refine ⟨fun s p k ho _ hr => Does.of_eq rfl ((if_pos ho).trans (if_pos hr)),
    fun s u p k ho hu hr => Does.of_eq rfl ((if_pos ho).trans (unlockChallenge_issued hu hr)), fun s n k => rfl,
    fun s p ho hc => Does.of_eq rfl ((if_pos ho).trans (unlockSubmit_none hc)),
    fun s p b k q a ho hc ht => Does.of_eq rfl ((if_pos ho).trans (unlockSubmit_late hc ht)),
    fun s u p b k q a ho hc ht hon hu => Does.of_eq rfl ((if_pos ho).trans (hu ▸ unlockSubmit_timely hc ht hon)),
    fun s p => unlockFail_sec p, fun s p ho => Does.of_eq rfl (if_pos ho), fun s p k hoff => ?_, fun s => rfl,
    fun s ho hb hl => Does.of_eq rfl ((if_pos ho).trans (provCommit_owned hb hl)),
    fun s ho hb hl h => Does.of_eq rfl ((if_pos ho).trans (provCommit_unseeded hb hl h)),
    fun s u v row ho hb hl hs hv hf hr => Does.of_eq rfl ((if_pos ho).trans (provCommit_burns hb hl hs hv hf hr)),
    fun s hb => does_fuseBurnDone_idle hb, fun s u row hb hu => does_fuseBurnDone_bad hb hu,
    fun s u v row hb hu hv => does_fuseBurnDone_good hb hu hv⟩
  have hshut : ∀ path, ¬ s.regsOpen path = true := fun path => by simp [regsOpen_coreOff hoff]
  exact ⟨Does.of_eq rfl (if_neg (hshut p)), Does.of_eq rfl (if_neg (hshut p)), Does.of_eq rfl (if_neg (hshut p)),
    Does.of_eq rfl (if_neg (hshut 0))⟩

end Sys2Proof.Machine
end

section
/-! PROOF. The flash calls and the daybook: O54 and O55. -/

namespace Sys2Proof.Machine

/-! ### Flash banks at rest (R433 to R438) -/

section
variable {s : State}

section
variable (h0 : s.efl.op0 = .none) (h1 : s.efl.op1 = .none)
include h0 h1

/-- With neither bank at work, no bank is. -/
theorem fop_rest (b : Nat) : s.fop b = .none := by
  unfold State.fop
  rw [h0, h1, ite_self]

theorem programming_rest (b : Nat) : s.programming b = false := by
  unfold State.programming
  rw [fop_rest h0 h1]

theorem eraseHeld_rest (b : Nat) : s.eraseHeld b = false := by
  unfold State.eraseHeld
  rw [fop_rest h0 h1]
  rfl

theorem suspend_rest (b : Nat) : s.suspend b = s := by
  unfold State.suspend
  rw [fop_rest h0 h1]

end

/-- An erased code word reads as all ones, with nothing counted. -/
theorem romRead_erased {w : Nat} (h : Tab.get (fun _ => .erased) s.efl.words w = .erased) : s.romRead w = (s, .erased) := by
  have hread : s.readFword w = (s, .erased) := by
    unfold State.readFword State.fword
    rw [h]
  unfold State.romRead
  rw [hread]

theorem flashRead_erased {w : Nat} (h0 : s.efl.op0 = .none) (h1 : s.efl.op1 = .none) (hsus : s.efl.suspect = [])
    (h : Tab.get (fun _ => .erased) s.efl.words w = .erased) : s.flashRead w 1 = s.emit (.flash 0 [BitVec.allOnes 128]) := by
  have hreads : s.romReads 1 w = (s, [BitVec.allOnes 128], false, false) := by
    unfold State.romReads
    rw [romRead_erased h]
    rfl
  unfold State.flashRead
  dsimp only
  rw [if_neg (by simp [programming_rest h0 h1, eraseHeld_rest h0 h1]), suspend_rest h0 h1, suspend_rest h0 h1, hreads]
  simp [hsus]
  rfl

theorem flashProgram_erased {w : Nat} {d : BitVec 128} (h0 : s.efl.op0 = .none) (h1 : s.efl.op1 = .none) (hsus : s.efl.suspect = [])
    (h : Tab.get (fun _ => .erased) s.efl.words w = .erased) :
    s.flashProgram w d = (s.setFop (wordBank w) (.program w d)).feed := by
  unfold State.flashProgram
  dsimp only
  rw [if_neg (by simp [programming_rest h0 h1, eraseHeld_rest h0 h1]), if_neg (by simp [hsus]), suspend_rest h0 h1,
    romRead_erased h]

theorem flashErase_free {sec : Nat} (he : s.erasing = false) (hp : s.programming (wordBank (sec * 256)) = false) :
    s.flashErase sec = s.startErase sec :=
  if_neg (by simp [he, hp])

theorem does_flashProgramDone {b w : Nat} {d : BitVec 128} (h : s.fop b = .program w d) (good : Bool) :
    Does (.flashProgramDone b good) s (if good then (((s.setFop b .none).progWord w d).romAnswer 0 []).flashRelease
      else (((((s.setFop b .none).setFword w .torn).raise 0x053).note 0x483 [w / 256, 0]).romAnswer 5 []).flashRelease) := by
  refine Does.of_eq rfl ?_
  simp only [h]
  cases good <;> rfl

theorem does_flashEraseDone_good {u : State} {b sec : Nat} (h : s.fop b = .erase sec)
    (hu : u = (((s.setFop b .none).clearSector sec).bump rEFL_CNT_ERASE).journal sec 2) : Does (.flashEraseDone b true) s
      ((({ u with efl := { u.efl with suspect := u.efl.suspect.filter (· != sec) } }).romAnswer 0 []).flashRelease.daybookErase) := by
  refine Does.of_eq rfl ?_
  simp only [h, if_true, ← hu]

theorem does_flashEraseDone_bad {b sec : Nat} (h : s.fop b = .erase sec) : Does (.flashEraseDone b false) s
      (((((((List.range 256).foldl (fun s i => s.setFword (sec * 256 + i) .torn) (s.setFop b .none)).raise 0x053).note 0x483
        [sec, 1])).romAnswer 5 []).flashRelease.daybookErase) := by
  refine Does.of_eq rfl ?_
  simp only [h, if_neg Bool.false_ne_true]

theorem does_flashDone_idle {b : Nat} (h : s.fop b = .none) (good : Bool) :
    Does (.flashEraseDone b good) s s ∧ Does (.flashProgramDone b good) s s := by
  constructor
  all_goals
    refine Does.of_eq rfl ?_
    simp only [h]

theorem does_flashEraseResume {u : State} {sec : Nat} (hs : s.efl.susp = some sec) (hf : s.fop (wordBank (sec * 256)) = .none)
    (hu : u = s.setFop (wordBank (sec * 256)) (.erase sec)) :
    Does .flashEraseResume s ({ u with efl := { u.efl with susp := none, holdTill := s.timeUs + 500 } }).feed := by
  subst hu
  refine Does.of_eq rfl ?_
  simp only [hs, hf]

theorem does_flashEraseResume_none (hs : s.efl.susp = none) : Does .flashEraseResume s s := by
  refine Does.of_eq rfl ?_
  simp only [hs]

end

/-- Settles O54: the calls' refusals, what a bank at rest does, and the ends of what runs. -/
theorem flashCalls : Obligations.FlashCalls := by
  unfold Obligations.FlashCalls
  refine ⟨fun s a n h => Does.of_eq rfl (if_pos h), fun s a ha hl h0 h1 _ hsus hw => ?_, fun s a d h => Does.of_eq rfl (if_pos h),
    fun s a d ha hl ho => ?_, fun s a d ha hl ho h0 h1 hsus hw => ?_, fun s a h => Does.of_eq rfl (if_pos h),
    fun s a ha hl ho he hp => ?_, fun s b w d h => ⟨does_flashProgramDone h true, does_flashProgramDone h false⟩,
    fun s u b sec h hu => does_flashEraseDone_good h hu,
    fun s b sec h => does_flashEraseDone_bad h, fun s b g h => does_flashDone_idle h g,
    fun s u sec hs hf hu => does_flashEraseResume hs hf hu, fun s hs => does_flashEraseResume_none hs⟩
  · exact Does.of_eq rfl ((if_neg (by omega)).trans (flashRead_erased h0 h1 hsus hw))
  · exact Does.of_eq rfl ((if_neg (by omega)).trans (if_pos ho))
  · exact Does.of_eq rfl ((if_neg (by omega)).trans ((if_neg (by simp [ho])).trans (flashProgram_erased h0 h1 hsus hw)))
  · exact Does.of_eq rfl ((if_neg (by omega)).trans ((if_neg (by simp [ho])).trans (flashErase_free he hp)))

/-! ### The daybook (R443 to R450) -/

theorem length_leBytes (n v : Nat) : (leBytes n v).length = n := by
  induction n generalizing v with
  | zero => rfl
  | succ n ih => exact congrArg (· + 1) (ih _)

/-- The 52 bytes of a record that its CRC covers. -/
def recordBody (seq : Nat) (r : DRec) : List Byte :=
  leBytes 6 seq ++ leBytes 2 r.code ++ leBytes 4 r.hours ++ leBytes 4 r.uptime ++ leBytes 4 r.cycles
    ++ ((List.range 8).flatMap (fun i => leBytes 4 (r.words.getD i 0)))

theorem recordBytes_eq (seq : Nat) (r : DRec) : recordBytes seq r =
    recordBody seq r ++ leBytes 4 (crc32 (recordBody seq r)).toNat ++ leBytes 6 seq ++ leBytes 2 0xDB5A := rfl

theorem length_recordBody (seq : Nat) (r : DRec) : (recordBody seq r).length = 52 := by
  simp [recordBody, length_leBytes, List.range_succ]

/-- A record's bytes: 64 of them, its SEQ at both ends and its mark last (R444). -/
theorem recordBytes_layout (seq : Nat) (r : DRec) : (recordBytes seq r).length = 64 ∧
    (recordBytes seq r).drop 62 = [0x5A#8, 0xDB#8] ∧ (recordBytes seq r).take 6 = leBytes 6 seq ∧
    ((recordBytes seq r).drop 56).take 6 = leBytes 6 seq := by
  rw [recordBytes_eq]
  have hbody := length_recordBody seq r
  refine ⟨by simp [hbody, length_leBytes], ?_, ?_, ?_⟩
  · rw [List.drop_left' (by simp [hbody, length_leBytes])]
    rfl
  · unfold recordBody
    simp only [List.append_assoc]
    exact List.take_left' (length_leBytes 6 seq)
  · rw [List.append_assoc, List.drop_left' (by simp [hbody, length_leBytes]), List.take_left' (length_leBytes 6 seq)]

section
variable {s : State}

theorem note_room {code : Nat} {l : List Nat} (h : s.dbk.queue.length < 64) :
    s.note code l = { s with dbk := { s.dbk with queue := s.dbk.queue ++ [{
        code := code
        hours := s.dbk.hours
        uptime := (s.timeUs - s.dbk.startAt) / 1000
        cycles := s.dbk.cycles
        words := (l.map (· % 2 ^ 32)).take 8 }] } } :=
  if_pos h

/-- A record that finds the queue full is dropped and counted (R443). -/
theorem note_full {code : Nat} {l : List Nat} (h : 64 ≤ s.dbk.queue.length) :
    (s.note code l).dbk.queue = s.dbk.queue ∧ (s.note code l).dbk.dropped = s.dbk.dropped + 1 ∧
      (s.note code l).dbk.firstDropped = (if s.dbk.dropped = 0 then code else s.dbk.firstDropped) := by
  unfold State.note
  rw [if_neg (by omega)]
  simp

theorem does_daybookProgram {u : State} {r : DRec} {l : List DRec} (hq : s.dbk.queue = r :: l) (hready : s.efl.ready = true)
    (h0 : s.efl.op0 = .none) (h1 : s.efl.op1 = .none) (hsus : s.efl.suspect = []) (hn : s.dbk.eraseNext = none)
    (hd : s.dbk.dropped = 0) (he : s.slotErasing s.dbk.head = false)
    (hu : u = s.progWords (slotWord s.dbk.head)
        ((List.range 4).map (fun i => wordOf (((recordBytes s.dbk.seq r).drop (16 * i)).take 16)))) :
    Does .daybookProgram s ((({ u with dbk := { u.dbk with
        queue := l
        dropped := 0
        firstDropped := 0
        head := (s.dbk.head + 1) % 32768
        seq := (u.dbk.seq + 1) % 2 ^ 48
        eraseNext := if (s.dbk.head + 1) % 32768 % 64 = 0 then some (slotSector ((s.dbk.head + 1) % 32768)) else none } }.bump
          rDBK_CNT_WRITTEN).raise 0x058).daybookErase) := by
  subst hu
  refine Does.of_eq rfl ?_
  simp only [hq]
  rw [if_neg (by simp [hready, programming_rest h0 h1, eraseHeld_rest h0 h1, hn, he]), if_neg (by simp [hsus]), if_pos hd,
    List.append_nil]

end

/-- Settles O55: the queue's room, the record programmed, the registers that read the daybook, a record's bytes. -/
theorem daybook : Obligations.Daybook := by
  unfold Obligations.Daybook
  refine ⟨fun s code l h => Does.of_eq rfl (note_room h), fun s code l h => ⟨_, Does.of_eq rfl rfl, note_full h⟩,
    fun s u r l hq hready h0 h1 _ hsus hn hd he hu => does_daybookProgram hq hready h0 h1 hsus hn hd he hu,
    fun s h => ?_, fun s => rfl, fun s u v h => ⟨fun hf => ?_, fun hf => ?_⟩, fun s => rfl, fun seq r => recordBytes_layout seq r⟩
  · refine Does.of_eq rfl ?_
    simp only [h]
  · refine Does.of_eq rfl ?_
    simp only [h, if_pos hf]
  · refine Does.of_eq rfl ?_
    simp only [h, hf, if_neg Bool.false_ne_true]

end Sys2Proof.Machine
end

section
/-! PROOF. The sideband bus, lane and bus tests, JTAG: O58 and O59. -/

namespace Sys2Proof.Machine

/-! ### Sparse tables -/

section
variable {α : Type} [DecidableEq α] {d : Nat → α} {k : Nat}

/-- A value that is not what an unlisted key reads as is read back whatever the table is. -/
theorem Tab.get_set_listed {v : α} (t : Tab α) (hv : v ≠ d k) : Tab.get d (Tab.set d t k v) k = v := by
  rw [Tab.set, if_neg hv, Tab.get_put_same]

variable {f : α → α}

theorem Tab.get_foldl_update_other {l : Tab α} (hl : ∀ e ∈ l, e.1 ≠ k) (t : Tab α) :
    Tab.get d (l.foldl (fun t e => Tab.set d t e.1 (f (Tab.get d t e.1))) t) k = Tab.get d t k := by
  induction l generalizing t with
  | nil => rfl
  | cons e l ih =>
    rw [List.foldl_cons, ih (fun x hx => hl x (List.mem_cons_of_mem _ hx)),
      Tab.get_set_other d t (hl e List.mem_cons_self).symm]

theorem Tab.get_foldl_update {l t : Tab α} (hl : Tab.wf d l = true) (ht : Tab.wf d t = true) (hf : f (d k) = d k)
    (hk : Tab.get d t k = Tab.get d l k) :
    Tab.get d (l.foldl (fun t e => Tab.set d t e.1 (f (Tab.get d t e.1))) t) k = f (Tab.get d l k) := by
  induction l generalizing t with
  | nil => exact hk.trans hf.symm
  | cons e l ih =>
    obtain ⟨j, v⟩ := e
    obtain ⟨ha, _, hwl⟩ := Tab.wf_cons.mp hl
    rw [List.foldl_cons]
    by_cases hj : j = k
    · subst hj
      rw [Tab.get_foldl_update_other (Tab.ne_of_above hwl ha), Tab.get_set_same ht, hk]
    · have hrest : Tab.get d ((j, v) :: l) k = Tab.get d l k := if_neg hj
      rw [ih hwl (Tab.wf_set ht) (by rw [Tab.get_set_other d t (Ne.symm hj), hk, hrest]), hrest]

/-- An update that keeps the default reads as the update of what was read. -/
theorem Tab.get_update {t : Tab α} (ht : Tab.wf d t = true) (hf : f (d k) = d k) :
    Tab.get d (Tab.update d f t) k = f (Tab.get d t k) :=
  Tab.get_foldl_update ht ht hf rfl

end

/-! ### The sideband bus (R475 to R481) -/

section
variable {s : State} {c : Nat}

theorem setSbCh_sbCh {x : SbCh} (h : x ≠ {}) : (s.setSbCh c x).sbCh c = x :=
  Tab.get_set_listed (d := fun _ => ({} : SbCh)) _ h

/-- A channel that is not IDLE starts nothing (R478). -/
theorem sbPump_notIdle (h : (s.sbCh c).st ≠ 2) (n : Nat) : s.sbPump c n = s := by
  cases n with
  | zero => rfl
  | succ n => exact if_pos h

theorem does_sbTransaction_busy (hc : c < 4) (hon : s.coreRuns = true) (h : (s.sbCh c).st = 3) (x : SbTx) :
    Does (.sbTransaction c x.addr x.bytes x.lost x.ack x.pecOk x.hang) s (s.setSbCh c { s.sbCh c with
      queue := (s.sbCh c).queue ++ [{ x with addr := x.addr % 128 }] }) := by
  have hst : ∀ q, ((s.setSbCh c { s.sbCh c with queue := q }).sbCh c).st = 3 := by
    intro q
    rw [setSbCh_sbCh (fun e => by simpa [h] using congrArg SbCh.st e)]
    exact h
  refine Does.of_eq rfl ((if_neg (by simp [hc, hon])).trans ((if_neg (by omega)).trans ((if_neg (by omega)).trans ?_)))
  exact sbPump_notIdle (by rw [hst]; decide) _

/-- A transaction that wins the bus, hangs nowhere and is checked well ends by its acknowledgement (R479). -/
theorem sbRun_ends {u : State} {x : SbTx} (hl : x.lost = 0) (hh : x.hang = false) (hp : x.pecOk = true)
    (hu : u = ((s.bumpFldN (fSBB_CH_CNT_ARB_LOST.plus (sbOff c)) 0).raiseN (sbSrc c 2) 0).emit (.sb c x.addr x.bytes)) :
    s.sbRun c x = if x.ack then u.sbEnd c .ok 2 else u.sbEnd c .nack 2 := by
  subst hu
  unfold State.sbRun
  dsimp only
  rw [hl, Nat.zero_min, if_neg (by omega), if_neg (by simp [hh])]
  cases x.ack with
  | false => exact if_pos rfl
  | true => exact (if_neg (by simp)).trans (if_neg (by simp [hp]))

/-- A free bus and nothing waiting: the check ends in IDLE (R478). -/
theorem sbCheck_idle (hq : (s.sbCh c).queue = []) (r : List Bool) :
    s.sbCheck c true true r = s.setSbCh c { s.sbCh c with st := 2, scl := true, sda := true } := by
  unfold State.sbCheck
  dsimp only
  rw [if_neg (by decide), if_pos rfl, hq]
  rfl

theorem sbCheck_low (r : List Bool) : s.sbCheck c false false r = s.sbStuck c false false 0 := by
  unfold State.sbCheck
  exact if_pos rfl

end

/-- Settles O58: a transaction by its channel's state, the check by the levels, the target port while it is on. -/
theorem sidebandBus : Obligations.SidebandBus := by
  unfold Obligations.SidebandBus
  refine ⟨fun s c a l b ack pec hang hc hon h => ?_, fun s c a l b ack pec hang hc hon h => ?_,
    fun s c a l b ack pec hang hc hon h =>
      does_sbTransaction_busy hc hon h { addr := a, bytes := b, lost := l, ack := ack, pecOk := pec, hang := hang },
    fun s u c x hl hh hp hu => ⟨fun ha => ?_, fun ha => ?_⟩, fun s c r hc hon => ⟨fun h hq => ?_, fun h hq => ?_, fun h => ?_,
      fun h => ⟨Does.of_eq rfl (if_neg (by simp [h])), Does.of_eq rfl (if_neg (by simp [h]))⟩⟩,
    fun s c hc hon h hs ha => ?_, fun s c l h => Does.of_eq rfl (if_neg (by simp [h])),
    fun s c hc h => Does.of_eq rfl (if_pos ⟨hc, h⟩), fun s c h => Does.of_eq rfl (if_neg (by simp [h])),
    fun s p b hon => ⟨Does.of_eq rfl (if_neg (by simp [hon])), Does.of_eq rfl (if_neg (by simp [hon]))⟩,
    fun s l n hoff => ⟨?_, Does.of_eq rfl (if_neg (by simp [hoff])), Does.of_eq rfl (if_neg (by simp [hoff]))⟩,
    fun s u hon hu => ?_, fun s hon => Does.of_eq rfl (if_pos hon)⟩
  · exact Does.of_eq rfl ((if_neg (by simp [hc, hon])).trans (if_pos h))
  · exact Does.of_eq rfl ((if_neg (by simp [hc, hon])).trans ((if_neg (by omega)).trans (if_pos h)))
  · rw [sbRun_ends hl hh hp hu, if_neg (by simp [ha])]
  · rw [sbRun_ends hl hh hp hu, if_pos ha]
  · exact Does.of_eq rfl ((if_pos ⟨hc, hon, h⟩).trans (sbCheck_idle hq r))
  · exact Does.of_eq rfl ((if_pos ⟨hc, hon, h⟩).trans (sbCheck_idle hq r))
  · exact Does.of_eq rfl ((if_pos ⟨hc, hon, h⟩).trans (sbCheck_low r))
  · have hheld : c < 4 ∧ s.coreRuns = true ∧
        (s.flag (fSBB_CH_CFG_SOLE.plus (sbOff c)) && s.flag (fSBB_CH_CFG_ATTN_EN.plus (sbOff c))) = true ∧ (s.sbCh c).st = 2 :=
      ⟨hc, hon, by simp [hs, ha], h⟩
    exact ⟨Does.of_eq rfl ((if_pos hheld).trans (if_pos (by decide))),
      fun a => Does.of_eq rfl ((if_pos hheld).trans (if_pos (by simp)))⟩
  · refine Does.of_eq rfl ?_
    cases l with
    | nil => rfl
    | cons p l => exact if_pos (by simp [hoff])
  · subst hu
    exact Does.of_eq rfl (if_pos hon)

/-! ### Lanes, the DRAM bus test and JTAG (R464, R465, R469, R484 to R489) -/

section
variable {s u : State} {p v : Nat}

/-- A command from the host runs while the registers answer. -/
theorem dftCmd_host (h : s.regsOpen 0 = true) (f : State → State) : s.dftCmd 0 f = f s := if_pos h

/-- One from JTAG below Open is refused (R465). -/
theorem dftCmd_jtagDenied (h : s.dbgOn = true) (hl : s.sec.level ≠ 2) (f : State → State) : s.dftCmd 2 f = s.secDenied := by
  have hshut : s.dftOpen 2 = false := by simp [State.dftOpen, hl]
  exact (if_neg (by simp [hshut])).trans (if_pos ⟨Nat.le_refl 2, h⟩)

theorem laneSet_free (hf : s.laneFree p s.lsel = true) (hc : (s.lane s.lsel).chk = 0) :
    s.laneSet p v = s.setLane s.lsel { s.lane s.lsel with
      gen := bitsOf v 2 0
      chk := bitsOf v 5 3
      loop := bitsOf v 7 6
      refused := false
      lock := (s.lane s.lsel).lock && bitsOf v 5 3 == 0 } := by
  unfold State.laneSet
  dsimp only
  rw [if_neg (by simp [hf]), hc]

theorem laneWrite_same (h : ((s.laneSet p v).lane s.lsel).gen = (s.lane s.lsel).gen) : s.laneWrite p v = s.laneSet p v :=
  if_pos h

/-- A lane that sends USER bits sends the 80 of them as PAM4. -/
theorem laneSend_user {n : Nat} (hg : (u.lane n).gen = 7) (hs : u.laneSends n = true) (hn : n < 128) :
    u.laneSend n false = (u.emit (.lane n (pam4 u.userBits))).tickFree := by
  have htaps : prbsTaps (u.lane n).gen = [] := by rw [hg]; rfl
  unfold State.laneSend
  dsimp only
  rw [if_pos hs, htaps]
  simp only [List.isEmpty_nil, if_true, laneSymbols, if_pos hn]
  generalize u.userBits = bits
  cases bits with
  | nil => rfl
  | cons b t => simp

theorem laneWrite_user (hu : s.laneSet p v = u) (hne : (u.lane s.lsel).gen ≠ (s.lane s.lsel).gen) (hg : (u.lane s.lsel).gen = 7)
    (hs : u.laneSends s.lsel = true) (hn : s.lsel < 128) :
    s.laneWrite p v = (u.emit (.lane s.lsel (pam4 u.userBits))).tickFree := by
  subst hu
  exact (if_neg hne).trans (laneSend_user hg hs hn)

/-- DFT_CLR clears the counts of every lane and nothing else of it. -/
theorem dftClr_lane (hw : Tab.wf (fun _ => ({} : DftLane)) s.dft.lanes = true) (n : Nat) :
    s.dftClr.lane n = { s.lane n with errs := 0, bits := 0, losses := 0 } :=
  Tab.get_update (f := fun (l : DftLane) => { l with errs := 0, bits := 0, losses := 0 }) hw rfl

theorem dramTest_starts {ch mode : Nat} (hp : u.pwr.st = .quiesced) (hr : u.dft.run = none) (hm : mode = 1 ∨ mode = 2)
    (hc : (u.ch ch).st = 3) : u.dramTest ch mode = { (u.setCh ch { u.ch ch with st := 2 }).dram ch "bus test" mode with
      dft := { ((u.setCh ch { u.ch ch with st := 2 }).dram ch "bus test" mode).dft with run := some (ch, mode), done := false } } :=
  if_neg (by simp [hp, hr, hc]; omega)

theorem does_dramBusTest {ch : Nat} (hon : s.coreRuns = true) (hu : u = (s.setFld fDFT_DRAM_CTRL_CH ch).setFld fDFT_DRAM_CTRL_MODE 1)
    (hlt : ch < 16) (hp : u.pwr.st = .quiesced) (hr : u.dft.run = none) (hc : (u.ch ch).st = 3) :
    Does (.dramBusTest 1 ch 1) s { (u.setCh ch { u.ch ch with st := 2 }).dram ch "bus test" 1 with
      dft := { ((u.setCh ch { u.ch ch with st := 2 }).dram ch "bus test" 1).dft with run := some (ch, 1), done := false } } := by
  subst hu
  refine Does.of_eq rfl ((if_pos (by simpa [State.dftOpen] using hon)).trans ?_)
  dsimp only
  rw [Nat.mod_eq_of_lt hlt]
  exact dramTest_starts hp hr (.inl rfl) hc

theorem does_dramBusTestDone_address {m f ch : Nat} {e : List Nat} (hr : s.dft.run = some (ch, 2)) (hc : (s.ch ch).st ≠ 2) :
    Does (.dramBusTestDone m f e) s { s with dft := { s.dft with
        run := none
        done := true
        missed := min 65535 m
        false_ := min 65535 f } } := by
  refine Does.of_eq rfl ?_
  simp only [hr]
  exact if_neg (fun h => hc h.1)

/-- JTAG without the debug access acting: a write does nothing, a read answers 0 (R469). -/
theorem does_dbgAccess_off {a : Nat} (h : State.dbgOn { s with dft := { s.dft with jtag := .dbgAccess } } = false) :
    Does (.dbgAccess true a v) s { s with dft := { s.dft with jtag := .dbgAccess } } ∧
    Does (.dbgAccess false a v) s (State.emit { s with dft := { s.dft with jtag := .dbgAccess } } (.readData "JTAG" 0)) := by
  refine ⟨Does.of_eq rfl ((if_pos rfl).trans (if_pos (by simp [h]))), Does.of_eq rfl ((if_neg (by decide)).trans ?_)⟩
  have hread : ({ s with dft := { s.dft with jtag := .dbgAccess } } : State).pathRead 2 (a % 2 ^ 26)
      = ({ s with dft := { s.dft with jtag := .dbgAccess } }, 0) := by
    unfold State.pathRead State.dbgRead
    dsimp only
    rw [if_neg (by decide), if_neg (by decide), if_pos (by rw [h]; decide)]
  unfold State.pathGet
  rw [hread]
  rfl

theorem does_dbgAccess_open {a : Nat} (hu : u = { s with dft := { s.dft with jtag := .dbgAccess } }) (h : u.dbgOn = true)
    (hl : u.sec.level = 2) : Does (.dbgAccess true a v) s (u.writeReg 2 (a % 2 ^ 26) (v % 2 ^ 32)) := by
  subst hu
  refine Does.of_eq rfl ((if_pos rfl).trans ((if_neg (by simp [h])).trans (if_neg ?_)))
  have hmay : ∀ x, State.dbgMay { s with dft := { s.dft with jtag := .dbgAccess } } true x = true := by
    intro x
    simp [State.dbgMay, show s.sec.level = 2 from hl]
  simp [hmay]

end

/-- Settles O59: the path that asks, the lane selected, the channel's state, the debug level. -/
theorem laneAndBusTests : Obligations.LaneAndBusTests := by
  unfold Obligations.LaneAndBusTests
  refine ⟨fun s v h => ⟨Does.of_eq rfl (dftCmd_host h _), Does.of_eq rfl (dftCmd_host h _), Does.of_eq rfl (dftCmd_host h _)⟩,
    fun s v h hl => ⟨Does.of_eq rfl (dftCmd_jtagDenied h hl _), Does.of_eq rfl (dftCmd_jtagDenied h hl _),
      Does.of_eq rfl (dftCmd_jtagDenied h hl _), Does.of_eq rfl (dftCmd_jtagDenied h hl _)⟩,
    fun s p v hf hc => laneSet_free hf hc, fun s u c hon hu hlt hp hr hc => does_dramBusTest hon hu hlt hp hr hc,
    fun s m f e hr => Does.of_eq rfl (by simp only [hr]), fun s m f c e hr hc => does_dramBusTestDone_address hr hc,
    fun s => rfl, fun s => rfl, fun s a v h => does_dbgAccess_off h, fun s u a v hu h hl => does_dbgAccess_open hu h hl,
    fun s n inv hn hc hl ho => Does.of_eq rfl (if_pos ⟨hn, hc, by simp [hl], ho⟩),
    fun s n inv hc => Does.of_eq rfl (if_neg (by simp [hc])), fun s n b e hn hl => Does.of_eq rfl (if_pos ⟨hn, hl⟩),
    fun s n hw => ?_, fun s p v h => laneWrite_same h, fun s u p v hu hne hg hs hn => laneWrite_user hu hne hg hs hn⟩
  rw [dftClr_lane hw]
  exact ⟨rfl, rfl, rfl, rfl, rfl⟩

end Sys2Proof.Machine
end

section
/-! PROOF. Register accesses, and buffers and interrupts: O52 and O50. -/

namespace Sys2Proof.Machine

/-! ### Who reaches a register (R464, R465, R493, R494, R499) -/

section
variable {s : State}

theorem dbgWrite_open (hon : s.regsOpen 1 = true) (hl : s.sec.level = 2) (a v : Nat) : s.dbgWrite a v = s.writeReg 2 a v := by
  have hmay : s.dbgMay true (canon a) = true := by simp [State.dbgMay, hl]
  exact (if_neg (by simp [State.dbgOn, hon])).trans (if_neg (by simp [hmay]))

theorem dbgWrite_locked {a : Nat} (hon : s.regsOpen 1 = true) (hl : s.sec.level = 0) (ha : secReg (canon a) = false) (v : Nat) :
    s.dbgWrite a v = s.secDenied := by
  have hmay : s.dbgMay true (canon a) = false := by simp [State.dbgMay, hl, ha]
  exact (if_neg (by simp [State.dbgOn, hon])).trans (if_pos (by simp [hmay]))

theorem pathWrite_host (h : s.regsOpen 0 = true) (a v : Nat) : s.pathWrite 0 a v = s.writeReg 0 a v :=
  (if_pos rfl).trans (if_pos h)

theorem pathWrite_registrar (h : s.coreRuns = true) (a v : Nat) : s.pathWrite 1 a v = s.writeReg 1 a v :=
  (if_neg (by decide)).trans ((if_pos rfl).trans (if_pos h))

theorem pathWrite_jtag (a v : Nat) : s.pathWrite 2 a v = s.dbgWrite a v :=
  (if_neg (by decide)).trans (if_neg (by decide))

theorem pathGet_host (h : s.regsOpen 0 = true) (a : Nat) :
    s.pathGet 0 a = (s.readReg 0 a).1.emit (.readData "host" (s.readReg 0 a).2) := by
  have hread : s.pathRead 0 a = s.readReg 0 a := (if_pos rfl).trans (if_pos h)
  unfold State.pathGet
  rw [hread]
  rfl

/-- With the core off no path writes (R494). -/
theorem pathWrite_coreOff (h : s.coreRuns = false) (p a v : Nat) : s.pathWrite p a v = s := by
  have hshut : ∀ q, s.regsOpen q = false := fun q => regsOpen_coreOff h
  unfold State.pathWrite State.dbgWrite State.dbgOn
  simp [hshut, h]

/-- Windows 0x3D to 0x3F are unmapped (R493). -/
theorem unmapped_window (w o : Nat) : unmapped ((0x3D + w % 3) * 0x100000 + o % 0x100000) = true := by
  unfold unmapped winOf
  exact decide_eq_true (by omega)

theorem writeReg_unmapped {a : Nat} (h : unmapped a = true) (p v : Nat) : s.writeReg p a v = s.bumpFld fTOP_CNT_ACCESS_UNMAPPED :=
  if_pos h

theorem readReg_unmapped {a : Nat} (h : unmapped a = true) (p : Nat) : s.readReg p a = (s.bumpFld fTOP_CNT_ACCESS_UNMAPPED, 0) :=
  if_pos h

end

/-- Settles O52: each access by its path and what the path may reach. -/
theorem registerAccesses : Obligations.RegisterAccesses := by
  unfold Obligations.RegisterAccesses
  refine ⟨fun s be a v hb ho => Does.of_eq rfl ((if_pos ⟨rfl, hb⟩).trans (if_pos ho)), fun s p be a v hp ho hr hb => ?_,
    fun s be a v ho hl => ⟨?_, ?_⟩, fun s be a v ho hl ha => ?_, fun s p be a v hoff => ?_, fun s w o ho => ⟨?_, ?_⟩,
    fun s p a v w ha => Does.of_eq rfl (if_pos (by simp [ha])), fun s a v ha ho => ⟨?_, ?_⟩, fun s w hw hr => ?_,
    fun s w hw => Does.of_eq rfl (if_neg (by omega))⟩
  · refine Does.of_eq rfl ((if_neg (fun h => h.2 (hb h.1))).trans ?_)
    rcases (by omega : p = 0 ∨ p = 1) with rfl | rfl
    · exact pathWrite_host ho _ _
    · exact pathWrite_registrar hr _ _
  · exact Does.of_eq rfl ((if_neg (by simp)).trans ((pathWrite_jtag _ _).trans (dbgWrite_open ho hl _ _)))
  · exact Does.of_eq rfl ((if_pos rfl).trans
      (dbgWrite_open (s := { s with dft := { s.dft with jtag := .dbgAccess } }) ho hl _ _))
  · exact Does.of_eq rfl ((if_neg (by simp)).trans ((pathWrite_jtag _ _).trans (dbgWrite_locked ho hl ha _)))
  · refine Does.of_eq rfl ?_
    rw [pathWrite_coreOff hoff, regsOpen_coreOff hoff, if_neg (by decide : ¬ false = true), ite_self]
  · exact Does.of_eq rfl ((if_pos rfl).trans ((pathWrite_host ho _ _).trans (writeReg_unmapped (unmapped_window w o) _ _)))
  · refine Does.of_eq rfl ((if_neg (by decide)).trans ((pathGet_host ho _).trans ?_))
    rw [readReg_unmapped (unmapped_window w o)]
  · exact Does.of_eq rfl ((if_neg (by simp [ha])).trans ((if_pos rfl).trans (pathWrite_host ho _ _)))
  · exact Does.of_eq rfl ((if_neg (by simp [ha])).trans ((if_neg (by decide)).trans (pathGet_host ho _)))
  · exact Does.of_eq rfl ((if_pos hw).trans (pathWrite_registrar hr _ _))

/-! ### Buffers (R350, R353, R354) -/

section
variable {s u : State} {o p n : Nat} {up ll : Bool} {t : Option Nat}

theorem does_bufferAlloc_free {l : List Nat} (ha : bufferAsk o p n = true) (hf : ownerFree o = true)
    (h : s.bpmAlloc o p n up ll none = (u, some l)) : Does (.bufferAlloc o p n up ll t) s u := by
  refine Does.of_eq rfl ((if_neg (by simp [ha])).trans ?_)
  simp only [hf, if_true, h, State.bufferCharge]

theorem does_bufferAlloc_charged {l : List Nat} (ha : bufferAsk o p n = true) (hf : ownerFree o = false)
    (h : s.bpmAlloc o p n up ll t = (u, some l)) : Does (.bufferAlloc o p n up ll t) s (u.bufferCharge o l t) := by
  refine Does.of_eq rfl ((if_neg (by simp [ha])).trans ?_)
  simp only [hf, if_neg Bool.false_ne_true, h]

theorem does_bufferAlloc_waits (ha : bufferAsk o p n = true) (hf : ownerFree o = false)
    (h : s.bpmAlloc o p n up ll t = (u, none)) (ho : o < 0x20 ∨ 0x40 ≤ o) :
    Does (.bufferAlloc o p n up ll t) s (({ u with bpm := { u.bpm with
        waits := u.bpm.waits ++ [(o, p, n, up, (t.map (· + 1)).getD 0)] } }).bump rBPM_CNT_WAIT) := by
  refine Does.of_eq rfl ((if_neg (by simp [ha])).trans ?_)
  simp only [hf, if_neg Bool.false_ne_true, h]
  exact if_neg (by omega)

/-- A grant within the owner's minimum takes the pool asked for (R350). -/
theorem bpmAlloc_minimum (h : s.grantRule o p n false = 1) :
    s.bpmAlloc o p n false false none = ((s.grantBufs o p n false none).1, some (s.grantBufs o p n false none).2) := by
  unfold State.bpmAlloc
  simp only [h]
  rfl

theorem bpmReturn_own {ptr k : Nat} (h : s.ptrFind ptr = .ok (p, k)) (ht : (Tab.get (fun _ => ({} : Buf)) s.bpm.bufs k).tenant = 0) :
    s.bpmReturn ptr o = { s with bpm := { s.bpm with bufs := Tab.set (fun _ => {}) s.bpm.bufs k {} } } := by
  unfold State.bpmReturn
  simp only [h]
  exact if_pos ht

/-- The first bad return of a second is latched and noted (R354). -/
theorem bpmReturn_bad {ptr c : Nat} (h : s.ptrFind ptr = .error c) (hsec : s.bpm.badSec ≠ s.timeUs / 1000000 + 1) :
    (s.bpmReturn ptr o).bpm.bufs = s.bpm.bufs ∧ (s.bpmReturn ptr o).bpm.badPtr = ptr % 2 ^ 27 ∧
      (s.bpmReturn ptr o).bpm.badCause = c ∧ (s.bpmReturn ptr o).bpm.badOwner = o ∧
      (s.bpmReturn ptr o).bpm.badSec = s.timeUs / 1000000 + 1 := by
  unfold State.bpmReturn
  simp only [h]
  rw [if_neg hsec]
  simp

theorem does_bufferWaitRetry_none {k : Nat} (h : s.bpm.waits.length ≤ k) : Does (.bufferWaitRetry k) s s := by
  refine Does.of_eq rfl ?_
  simp only [List.getElem?_eq_none h]

theorem does_bufferWaitRetry_granted {k : Nat} {l : List Nat} (h : s.bpm.waits[k]? = some (o, p, n, up, 0))
    (ha : s.bpmAlloc o p n up false none = (u, some l)) :
    Does (.bufferWaitRetry k) s { u with bpm := { u.bpm with waits := u.bpm.waits.eraseIdx k } } := by
  refine Does.of_eq rfl ?_
  simp only [h, if_true, ha, State.bufferCharge, ite_self]

end

/-! ### Interrupts (R359 to R369) -/

section
variable {s : State} {t n : Nat}

/-- A claim with nothing to deliver answers 0, or 0xFFF and a count where the target was signalled (R361). -/
theorem claimRead_none (ht : t < 5) (hd : s.deliverable t = none) : s.claimRead t =
    (if (s.tgt t).signalled then ((s.setTgt t { s.tgt t with signalled := false }).bump rINT_CNT_SPURIOUS, 0xFFF)
     else (s.setTgt t { s.tgt t with signalled := false }, 0)) := by
  unfold State.claimRead State.claim
  rw [if_neg (by omega)]
  simp only [hd]
  cases (s.tgt t).signalled <;> rfl

theorem claimRead_edge (ht : t < 5) (hd : s.deliverable t = some n) (hl : levelClass n = false) : s.claimRead t =
    (((s.setTgt t { s.tgt t with signalled := false }).setSrc n { s.src n with
        cnt := 0
        sw := false
        active := some t
        offered := none }).bump rINT_CNT_OFFER, n + (s.src n).cnt * 2 ^ 12 + s.srcPrio n * 2 ^ 24) := by
  unfold State.claimRead State.claim
  rw [if_neg (by omega)]
  simp only [hd, hl, if_neg Bool.false_ne_true]
  rfl

theorem vecWrite_held {k : Nat} (hm : s.int.msixEn = true) (hp : (s.tgt k).pba = true) :
    s.vecWrite k false = (s.setTgt k { s.tgt k with vecMask := false, pba := false, signalled := true }).emit (.msix (k - 1)) :=
  if_pos ⟨rfl, hp, hm⟩

theorem does_intClaim {u : State} {w : Nat} (h : s.claimRead t = (u, w)) : Does (.intClaim t) s (u.emit (.readData "INT_CLAIM" w)) := by
  refine Does.of_eq rfl ?_
  rw [h]

end

/-- Settles O50: a grant by what the pool answers, a claim by what the target is offered, a source by its class. -/
theorem buffersAndInterrupts : Obligations.BuffersAndInterrupts := by
  unfold Obligations.BuffersAndInterrupts
  refine ⟨fun s o p n up ll t ha => Does.of_eq rfl (if_pos (by simp [ha])),
    fun s u o p n up ll t l ha hf h => does_bufferAlloc_free ha hf h,
    fun s u o p n up ll t l ha hf h => does_bufferAlloc_charged ha hf h,
    fun s u o p n up ll t ha hf h ho => does_bufferAlloc_waits ha hf h ho, fun s o p n h => bpmAlloc_minimum h,
    fun s ptr o p k h ht => Does.of_eq rfl (bpmReturn_own h ht),
    fun s ptr o c h hsec => ⟨_, Does.of_eq rfl rfl, bpmReturn_bad h hsec⟩, fun s k h => does_bufferWaitRetry_none h,
    fun s u k o p n up l h ha => does_bufferWaitRetry_granted h ha, fun s t ht hd hsig => does_intClaim ?_,
    fun s t ht hd hsig => does_intClaim ?_, fun s t n ht hd hl => does_intClaim (claimRead_edge ht hd hl),
    fun s t ht => does_intClaim (if_pos ht), fun s t n ht ha => Does.of_eq rfl ((if_pos ht).trans (if_pos ha)),
    fun s t n ht ha hm => Does.of_eq rfl ((if_pos ht).trans ((if_neg ha).trans (if_neg (by simp [hm])))),
    fun s n hs => ⟨fun hl => ?_, fun hl => ?_⟩, fun s n hs => Does.of_eq rfl (if_pos (by simp [hs])),
    fun s n v h0 hn => ⟨?_, ?_⟩, fun s v b => Does.of_eq rfl (if_pos (.inl rfl)), fun s en a b => rfl,
    fun s k hk hm hp => vecWrite_held hm hp⟩
  · rw [claimRead_none ht hd, if_neg (by simp [hsig])]
  · rw [claimRead_none ht hd, if_pos hsig]
  · exact Does.of_eq rfl ((if_neg (by simp [hs])).trans (if_pos hl))
  · exact Does.of_eq rfl ((if_neg (by simp [hs])).trans (if_neg (by simp [hl])))
  · exact Does.of_eq rfl ((if_neg (by omega)).trans (if_neg (by decide)))
  · exact Does.of_eq rfl ((if_neg (by omega)).trans (if_pos rfl))

end Sys2Proof.Machine
end

section
/-! PROOF. Images and firmware: O51. -/

namespace Sys2Proof.Machine

section
variable {s u : State} {x : MbSlot} {c n : Nat}

theorem doImageWrite_format (h : x.arg 0 1 > 1) : s.doImageWrite x = (s, some svcFORMAT) :=
  if_pos (.inl h)

section
variable (hc : x.arg 0 1 = c) (h1 : c ≤ 1) (h0 : x.arg 8 2 ≠ 0) (hn : x.arg 8 2 ≤ 192) (hz : x.zero 1 3 = true)
  (hz' : x.zero 10 6 = true)
include hc h1 h0 hn hz hz'

/-- A chunk for a copy while the other is not good is refused (R425). -/
theorem doImageWrite_busy (hg : s.rgc.good.contains (1 - c) = false) : s.doImageWrite x = (s, some svcBUSY) := by
  subst hc
  unfold State.doImageWrite
  dsimp only
  rw [if_neg (by simp only [hz, hz']; simp; omega), if_pos (.inl (by rw [hg]; decide))]

/-- The first chunk erases the copy and is put at its offset (R425). -/
theorem doImageWrite_first (hg : s.rgc.good.contains (1 - c) = true) (hfit : x.arg 4 4 + x.arg 8 2 ≤ 0x800000)
    (hf : x.first = true) : s.doImageWrite x = ((s.cfgErase c).imagePut c (x.arg 4 4) (x.bytes 32 (x.arg 8 2))
      { which := c, next := 0, head := List.replicate 64 0xFF }, some svcOK) := by
  subst hc
  unfold State.doImageWrite
  dsimp only
  rw [if_neg (by simp only [hz, hz']; simp; omega), if_neg (by rw [hg]; simpa using hfit), if_pos hf]

end

/-- A copy with a cause is rejected (R426). -/
theorem doImageVerify_bad {k : Checked} (hc : x.arg 0 1 = c) (h1 : c ≤ 1)
    (hk : s.checkCopy c ((s.load c).elim (s.cfgBytes c 0 64) (·.head)) s.checkLife false = (u, k)) (hb : k.cause ≠ 0) :
    s.doImageVerify x = (u.rejectCopy c k.cause, some { code := 1, reason := k.cause }) := by
  subst hc
  unfold State.doImageVerify
  dsimp only
  rw [if_neg (by omega), hk]
  exact if_pos hb

/-- A good copy: its header is programmed if it was being loaded, its seal latch cleared, and it is good from now on (R415,
R426). -/
def State.copyGood (u : State) (c : Nat) (h : List Byte) : State :=
  let v := (if (u.load c).isSome then (u.cfgPut c 0 h).setLoad c none else u).setSealLatch c false
  { v with rgc := { v.rgc with
    good := if v.rgc.good.contains c then v.rgc.good else v.rgc.good ++ [c]
    verifiedB := v.rgc.verifiedB || c == 1 } }

theorem doImageVerify_good {k : Checked} {h : List Byte} (hc : x.arg 0 1 = c) (h1 : c ≤ 1)
    (hh : h = (s.load c).elim (s.cfgBytes c 0 64) (·.head)) (hk : s.checkCopy c h s.checkLife false = (u, k)) (hg : k.cause = 0) :
    s.doImageVerify x = (u.copyGood c h, some { words := [numAt h 12 4] }) := by
  subst hc hh
  unfold State.doImageVerify
  dsimp only
  rw [if_neg (by omega), hk]
  exact if_neg (by simp [hg])

theorem setSealLatch_copies (u : State) (c : Nat) (b : Bool) :
    (u.setSealLatch c b).rgc.cfg = u.rgc.cfg ∧ (u.setSealLatch c b).rgc.loading = u.rgc.loading := by
  unfold State.setSealLatch
  split
  · exact ⟨rfl, rfl⟩
  · exact ⟨rfl, rfl⟩

theorem contains_listed (l : List Nat) (c : Nat) : (if l.contains c then l else l ++ [c]).contains c = true := by
  split
  · assumption
  · simp

theorem copyGood_facts (u : State) (c : Nat) (h : List Byte) :
    (u.copyGood c h).rgc.good.contains c = true ∧ (c = 0 → (u.copyGood c h).rgc.sealA = false) ∧
    (c = 1 → (u.copyGood c h).rgc.sealB = false ∧ (u.copyGood c h).rgc.verifiedB = true) ∧
    ((u.load c).isSome = true → (u.copyGood c h).rgc.cfg = (u.cfgPut c 0 h).rgc.cfg ∧
      (u.copyGood c h).rgc.loading = Tab.set (fun _ => none) u.rgc.loading c none) := by
  unfold State.copyGood
  refine ⟨contains_listed _ c, fun hc => ?_, fun hc => ?_, fun hl => ?_⟩
  · subst hc
    rfl
  · subst hc
    exact ⟨rfl, Bool.or_true _⟩
  · rw [if_pos hl]
    exact setSealLatch_copies _ c false

section
variable {k : Checked} (hc : x.arg 0 1 = c) (h1 : c ≤ 1) (hp : s.pwr.st = .quiesced)
  (hk : s.checkCopy c (s.cfgBytes c 0 64) s.lifecycle false = (u, k))
include hc h1 hp hk

theorem doImageReload_bad (hb : k.cause ≠ 0) :
    s.doImageReload x = (u.note 0x475 [1], some { code := 1, reason := k.cause }) := by
  subst hc
  unfold State.doImageReload
  dsimp only
  rw [if_neg (by omega), if_neg (by simp [hp]), hk]
  exact if_pos hb

/-- A reload rewrites every image field where nothing start-only differs (R428). -/
theorem doImageReload_good {v : State} (hg : k.cause = 0) (hv : u.applyImage c k true = v) (hs : v.startOnly = u.startOnly)
    (hr : sectValue k.sects 1 = some u.sup.supply) : s.doImageReload x =
      ((({ v with sec := { v.sec with level := v.baseLevel } } : State).modeWrite
        (({ v with sec := { v.sec with level := v.baseLevel } } : State).fld ⟨rFCH_CTRL, 1, 0⟩ == 1)).note 0x475 [0], some svcOK) := by
  subst hc
  unfold State.doImageReload
  dsimp only
  rw [if_neg (by omega), if_neg (by simp [hp]), hk]
  dsimp only
  rw [if_neg (by simp [hg]), hv, if_neg (by simp [hs, hr])]

theorem doImageReload_startOnly (hg : k.cause = 0)
    (hd : (u.applyImage c k true).startOnly ≠ u.startOnly ∨ sectValue k.sects 1 ≠ some u.sup.supply) :
    s.doImageReload x = (u.note 0x475 [2], some { code := 1, reason := 10 }) := by
  subst hc
  unfold State.doImageReload
  dsimp only
  rw [if_neg (by omega), if_neg (by simp [hp]), hk]
  dsimp only
  rw [if_neg (by simp [hg]), if_pos hd]

end

section
variable (hz : x.zero 0 4 = true) (hz' : x.zero 10 6 = true) (h0 : 0 < x.arg 8 2) (hn : x.arg 8 2 ≤ 192)
include hz hz' h0 hn

theorem doFwWrite_first (hfit : x.arg 4 4 + x.arg 8 2 ≤ 0x400000) (hf : x.first = true) : s.doFwWrite x =
    ((s.fwErase (1 - s.efl.ptrBank)).fwPut (1 - s.efl.ptrBank) (x.arg 4 4) 0 (x.bytes 32 (x.arg 8 2)), some svcOK) := by
  unfold State.doFwWrite
  dsimp only
  rw [if_neg (by simp only [hz, hz']; simp; omega), if_neg (by omega), if_pos hf]

theorem doFwWrite_outside (hfit : x.arg 4 4 + x.arg 8 2 > 0x400000) : s.doFwWrite x = (s, some svcBUSY) := by
  unfold State.doFwWrite
  dsimp only
  rw [if_neg (by simp only [hz, hz']; simp; omega), if_pos hfit]

end

theorem doFwActivate_bad {v : Nat} (hf : s.fwCheck (1 - s.efl.ptrBank) = (u, c, v)) (hc : c ≠ 0) :
    s.doFwActivate n = (u, some { code := 1, reason := c }) := by
  unfold State.doFwActivate
  dsimp only
  rw [hf]
  exact if_pos hc

/-- Good firmware: the pointer turns to its bank, the slot is done, and the old bank is kept to fall back to (R429). -/
def State.fwTurned (s u : State) (n v : Nat) : State :=
  let w := (u.pointTo (1 - s.efl.ptrBank) v).slotDone n (0, 0, leBytes 4 v)
  { w with rgc := { w.rgc with fallback := some (s.efl.ptrBank, s.rgc.fwVer) } }

theorem doFwActivate_good {v : Nat} (hf : s.fwCheck (1 - s.efl.ptrBank) = (u, 0, v)) :
    s.doFwActivate n = ((s.fwTurned u n v).registrarRestart.note 0x478 [s.rgc.fwVer, v, 0], none) := by
  unfold State.doFwActivate
  dsimp only
  rw [hf]
  exact if_neg (by simp)

theorem does_fwConfirmTimer (hr : s.rgc.ready = true) (hc : s.rgc.confirmed = false) :
    (∀ b v, s.rgc.fallback = some (b, v) → Does .fwConfirmTimer s
      (({ s with rgc := { s.rgc with confirmed := true, fallback := none } }).note 0x478 [v, s.rgc.fwVer, 1])) ∧
    (s.rgc.fallback = none → Does .fwConfirmTimer s { s with rgc := { s.rgc with confirmed := true, fallback := none } }) := by
  refine ⟨fun b v hf => Does.of_eq rfl ((if_neg (by simp [hr, hc])).trans ?_),
    fun hf => Does.of_eq rfl ((if_neg (by simp [hr, hc])).trans ?_)⟩
  · simp only [hf]
  · simp only [hf]

end

/-- Settles O51: the checks of each service in their order, and what a good image or firmware leaves. -/
theorem imageServices : Obligations.ImageServices := by
  unfold Obligations.ImageServices
  refine ⟨fun s n h ha => Does.of_eq rfl (serve_done h (doImageWrite_format ha)),
    fun s n c h hc h1 h0 hn hz hz' => ⟨fun hg => Does.of_eq rfl (serve_done h (doImageWrite_busy hc h1 h0 hn hz hz' hg)),
      fun hg hfit hf => Does.of_eq rfl (serve_done h (doImageWrite_first hc h1 h0 hn hz hz' hg hfit hf))⟩,
    fun s u n c k h hc h1 hk hb => Does.of_eq rfl (serve_done h (doImageVerify_bad hc h1 hk hb)),
    fun s u n c hd k h hc h1 hh hk hg => ⟨u.copyGood c hd, Does.of_eq rfl (serve_done h (doImageVerify_good hc h1 hh hk hg)),
      copyGood_facts u c hd⟩,
    fun s n h hc hp => Does.of_eq rfl (serve_done h ((if_neg (by omega)).trans (if_pos hp))),
    fun s u n c k h hc h1 hp hk hb => Does.of_eq rfl (serve_done h (doImageReload_bad (s := s.slotRunning n) hc h1 hp hk hb)),
    fun s u v n c k h hc h1 hp hk hg hv hs hr => Does.of_eq rfl (serve_done h (doImageReload_good (s := s.slotRunning n) hc h1 hp hk hg hv hs hr)),
    fun s u n c k h hc h1 hp hk hg hd => Does.of_eq rfl (serve_done h (doImageReload_startOnly (s := s.slotRunning n) hc h1 hp hk hg hd)),
    fun s n h hz hz' h0 hn => ⟨fun hfit hf => Does.of_eq rfl (serve_done h (doFwWrite_first hz hz' h0 hn hfit hf)),
      fun hfit => Does.of_eq rfl (serve_done h (doFwWrite_outside hz hz' h0 hn hfit))⟩,
    fun s u n c v h hf hc => Does.of_eq rfl (serve_done h (doFwActivate_bad hf hc)),
    fun s u n v h hf => ⟨(s.slotRunning n).fwTurned u n v, Does.of_eq rfl (serve_goesOn h (doFwActivate_good hf)), rfl⟩,
    fun s hr hc => does_fwConfirmTimer hr hc, fun s h => Does.of_eq rfl (if_pos (by simpa using h)), fun s => rfl⟩

end Sys2Proof.Machine
end

section
/-! PROOF. The reading room: fills, evictions and its modes: O30 and O31. -/

namespace Sys2Proof.Machine

/-! ### What DRAM lines, the settings journal and stack requests leave as it is -/

/-- Epochs, the reading room, the vault, the twin, the DRAM channels and the power state: reads and writes of DRAM lines, the flash
journal and requests on stack links write none of them. -/
def State.aside (s : State) := (s.epo, s.fch, s.rsv, s.twn, s.dmc, s.pwr)

theorem aside_fch {s t : State} (h : t.aside = s.aside) : t.fch = s.fch := congrArg (fun p => p.2.1) h
theorem aside_epo {s t : State} (h : t.aside = s.aside) : t.epo = s.epo := congrArg (fun p => p.1) h
theorem aside_twn {s t : State} (h : t.aside = s.aside) : t.twn = s.twn := congrArg (fun p => p.2.2.2.1) h

theorem foldl_aside {α : Type} {f : State → α → State} (hf : ∀ s a, (f s a).aside = s.aside) (l : List α) (s : State) :
    (l.foldl f s).aside = s.aside := by
  induction l generalizing s with
  | nil => rfl
  | cons a l ih => exact (ih _).trans (hf s a)

theorem ite_aside {p : Prop} [Decidable p] {s t u : State} (ht : t.aside = s.aside) (hu : u.aside = s.aside) :
    (if p then t else u).aside = s.aside := by
  split
  · exact ht
  · exact hu

section
variable (s : State)

@[simp] theorem bump_aside (a : Nat) : (s.bump a).aside = s.aside := by simp [State.aside]
@[simp] theorem raise_aside (n : Nat) : (s.raise n).aside = s.aside := by simp [State.aside]
@[simp] theorem note_aside (c : Nat) (ws : List Nat) : (s.note c ws).aside = s.aside := by simp [State.aside]
@[simp] theorem emit_aside (e : Emit) : (s.emit e).aside = s.aside := rfl
@[simp] theorem setLink_aside (n : Nat) (l : StkLink) : (s.setLink n l).aside = s.aside := rfl
theorem lpr_aside (x : LprSt) : ({ s with lpr := x } : State).aside = s.aside := rfl
theorem efl_aside (x : EflSt) : ({ s with efl := x } : State).aside = s.aside := rfl

/-! The flash and its settings -/

@[simp] theorem suspend_aside (b : Nat) : (s.suspend b).aside = s.aside := by
  unfold State.suspend State.setFop
  split
  · exact (bump_aside _ _).trans (ite_aside rfl rfl)
  · rfl

@[simp] theorem progWord_aside (w : Nat) (d : BitVec 128) : (s.progWord w d).aside = s.aside := by
  unfold State.progWord
  exact (bump_aside _ _).trans (suspend_aside s _)

@[simp] theorem progWords_aside (w : Nat) (l : List (BitVec 128)) : (s.progWords w l).aside = s.aside := by
  induction l generalizing s w with
  | nil => rfl
  | cons d l ih => exact (ih _ _).trans (progWord_aside s w d)

theorem jPut_aside (sec op : Nat) : (s.jPut sec op).aside = s.aside := by
  unfold State.jPut
  extract_lets e s1 _
  exact (efl_aside s1 _).trans (progWord_aside s _ _)

@[simp] theorem clearSector_aside (sec : Nat) : (s.clearSector sec).aside = s.aside := rfl

@[simp] theorem journal_aside (sec op : Nat) : (s.journal sec op).aside = s.aside := by
  unfold State.journal
  extract_lets full opened _ s1 s2 s3
  have h2 : s2.aside = s.aside := foldl_aside (fun s _ => jPut_aside s _ _) _ s1
  have h3 : s3.aside = s2.aside := by simp [s3, jPut_aside]
  exact ite_aside (jPut_aside s sec op) ((jPut_aside s3 _ _).trans (h3.trans h2))

@[simp] theorem putSetting_aside (key version : Nat) (vals : List Nat) : (s.putSetting key version vals).aside = s.aside := by
  unfold State.putSetting
  extract_lets ws s1 _
  exact (efl_aside s1 _).trans (progWords_aside s _ ws)

@[simp] theorem setting_aside (key : Nat) (vals : List Nat) : (s.setting key vals).aside = s.aside := by
  unfold State.setting
  extract_lets old need g s1 _ s0 other sec0 s2 _ s3 s4 s5 g' s6 _
  have h0 : s0.aside = s.aside := ite_aside ((efl_aside s1 _).trans (progWord_aside s _ _)) rfl
  have h2 : s2.aside = s0.aside := foldl_aside (fun s _ => by simp) _ _
  have h3 : s3.aside = s2.aside := efl_aside s2 _
  have h4 : s4.aside = s3.aside := foldl_aside (fun s _ => by simp) _ _
  have h5 : s5.aside = s4.aside := putSetting_aside s4 _ _ _
  have h6 : s6.aside = s5.aside := progWord_aside s5 _ _
  exact ite_aside ((putSetting_aside s0 _ _ _).trans h0) ((efl_aside s6 _).trans (h6.trans (h5.trans (h4.trans (h3.trans (h2.trans h0))))))

/-! DRAM lines -/

@[simp] theorem retryPut_aside (c : Nat) (what : String) (v : Nat) : (s.retryPut c what v).aside = s.aside := by
  unfold State.retryPut
  exact lpr_aside s _

@[simp] theorem dmcRead_aside (a : Nat) : (s.dmcRead a).aside = s.aside := by
  unfold State.dmcRead
  extract_lets a' c s1 k
  have h1 : s1.aside = s.aside := retryPut_aside s c _ _
  clear_value s1
  refine ite_aside rfl (ite_aside h1 (ite_aside ((raise_aside _ _).trans ((bump_aside _ _).trans ?_)) h1))
  exact (lpr_aside s1 _).trans h1

@[simp] theorem declareDead_aside (c r dev : Nat) : (s.declareDead c r dev).aside = s.aside := by
  have hstore : ∀ e, (s.storeErasure c r e).aside = s.aside := fun e => setting_aside (s.setErasure c r e) _ _
  unfold State.declareDead
  refine ite_aside (ite_aside rfl (ite_aside rfl ?_)) ?_
  · exact (note_aside _ _ _).trans (hstore _)
  · exact (note_aside _ _ _).trans (hstore _)

@[simp] theorem countCorr_aside (a dev : Nat) : (s.countCorr a dev).aside = s.aside := by
  unfold State.countCorr
  exact ite_aside rfl (ite_aside (declareDead_aside _ _ _ _) rfl)

@[simp] theorem countFixed_aside (a : Nat) (fx : List (Nat × Nat)) : (s.countFixed a fx).aside = s.aside :=
  foldl_aside (fun s _ => by simp) _ _

@[simp] theorem copyLine_aside (a : Nat) : (s.copyLine a).1.aside = s.aside := by
  unfold State.copyLine
  dsimp only
  split
  · simp
  · simp

/-- Copying a way gives its 32 lines. -/
theorem copyWay_spec (k : Nat) : (s.copyWay k).1.aside = s.aside ∧ (s.copyWay k).2.length = 32 := by
  have hfold : ∀ (l : List Nat) (p : State × List (Line × Tag)), p.1.aside = s.aside →
      (l.foldl (fun p i => ((p.1.copyLine (p.1.wayLine k i)).1, p.2 ++ [(p.1.copyLine (p.1.wayLine k i)).2])) p).1.aside = s.aside ∧
      (l.foldl (fun p i => ((p.1.copyLine (p.1.wayLine k i)).1, p.2 ++ [(p.1.copyLine (p.1.wayLine k i)).2])) p).2.length
        = p.2.length + l.length := by
    intro l
    induction l with
    | nil => exact fun p hp => ⟨hp, rfl⟩
    | cons i l ih =>
      intro p hp
      obtain ⟨hs, hl⟩ := ih ((p.1.copyLine (p.1.wayLine k i)).1, p.2 ++ [(p.1.copyLine (p.1.wayLine k i)).2])
        ((copyLine_aside p.1 _).trans hp)
      refine ⟨hs, hl.trans ?_⟩
      simp
      omega
  exact hfold (upTo 32) (s, []) rfl

theorem dmcIssue_aside (p : Nat → Bool) : (s.dmcIssue p).aside = s.aside := by
  unfold State.dmcIssue
  extract_lets left _ s1
  exact foldl_aside (fun s _ => retryPut_aside s _ _ _) _ s1

@[simp] theorem accept_aside (a : Nat) (l : DLine) : (s.accept a l).aside = s.aside := by
  unfold State.accept
  exact ite_aside (s := s) rfl (dmcIssue_aside s _)

@[simp] theorem putLine_aside (a : Nat) (d : Line) (t : Tag) : (s.putLine a d t).aside = s.aside := by
  unfold State.putLine
  extract_lets inj cw e1 e2 errs l off s1 c
  have h1 : s1.aside = s.aside := ite_aside (raise_aside _ _) rfl
  clear_value s1
  refine ite_aside rfl (ite_aside h1 (ite_aside ((accept_aside _ _ _).trans h1) ?_))
  split
  · exact (accept_aside _ _ _).trans h1
  · exact ite_aside ((accept_aside _ _ _).trans h1) ((accept_aside _ _ _).trans ((accept_aside _ _ _).trans h1))

@[simp] theorem dirPut_aside (set a : Nat) : (s.dirPut set a).aside = s.aside :=
  ite_aside (putLine_aside _ _ _ _) (accept_aside _ _ _)

theorem dirPuts_aside (set a b : Nat) : ((s.dirPut set a).dirPut set b).aside = s.aside :=
  (dirPut_aside _ _ _).trans (dirPut_aside _ _ _)

/-! Stack links -/

theorem stkCell_aside (n seq : Nat) (r : StkReq) (k : Nat) : (s.stkCell n seq r k).aside = s.aside := rfl

@[simp] theorem stkCells_aside (n : Nat) (r : StkReq) : (s.stkCells n r).aside = s.aside :=
  foldl_aside (fun s _ => stkCell_aside s _ _ _ _) _ _

@[simp] theorem stkTry_aside (n : Nat) (r : StkReq) : (s.stkTry n r).1.aside = s.aside := by
  unfold State.stkTry
  dsimp only
  split
  · rfl
  · split
    · rfl
    · split
      · rfl
      · split
        · rfl
        · exact stkCells_aside _ _ _

@[simp] theorem stkPump_aside (n : Nat) : (s.stkPump n).aside = s.aside := by
  unfold State.stkPump
  refine foldl_aside (fun s r => ?_) _ _
  exact ite_aside rfl (ite_aside (stkTry_aside s n r) (stkTry_aside s n r))

@[simp] theorem stkSend_aside (n : Nat) (r : StkReq) : (s.stkSend n r).aside = s.aside := stkPump_aside _ n

end

/-! ### Fills and evictions (R99, R124 to R136) -/

section
variable {s : State} {f k : Nat} {x : Fill}

theorem install_none (h : s.fillOf f = none) : s.install f = s := by
  unfold State.install
  rw [h]

/-- A fill with its way: without its 32 lines it goes on waiting, with them it is installed once the way is free. -/
theorem install_bound (h : s.fillOf f = some x) (hw : x.way = some k) (hz : x.zero = false) :
    (x.desk = none → s.install f = s) ∧
    (∀ l, x.desk = some l → s.wayFree k = true → s.install f = ((s.installLines x k l).dropFill f).runReqs x.reqs) := by
  have hbound : (if x.way.isNone = true ∧ (!x.bypass) = true then s.bindWay x false else s) = s := if_neg (by simp [hw])
  unfold State.install
  rw [h]
  dsimp only
  rw [hbound, h]
  cases x with
  | mk folio way bypass spec age pin tenant charged desk zero through evbWait tookDirty since cir reqs =>
    subst hw hz
    refine ⟨fun hd => ?_, fun l hd hfree => ?_⟩
    · subst hd
      rfl
    · subst hd
      simp [hfree]

theorem reshelveSelect_full (hw : s.findWay f = some k) (hfull : s.fch.evb.length = 4096) : Does (.reshelveSelect f) s s := by
  have hevb : s.evbFull = true := by simp [State.evbFull, hfull]
  refine Does.of_eq rfl ?_
  split
  · rfl
  · split
    · exact if_neg (by simp [hevb])
    · rw [hw]
      dsimp only
      split
      · exact if_neg (by omega)
      · rfl

theorem does_reshelveSelect (hs : s.sledFirst (s.sledLink f) = true) (h0 : shelfOf f ≠ 0) (hw : s.findWay f = some k)
    (hk : k < deskKey) (hl : s.lostShelf f = false) (hst : (s.way k).st = 2) (hroom : s.fch.evb.length < 4096) :
    Does (.reshelveSelect f) s (s.evbTake k 3) := by
  refine Does.of_eq rfl ((if_neg (by simp [hs])).trans ((if_neg h0).trans ?_))
  rw [hw]
  exact (if_pos ⟨hk, by simp [hl]⟩).trans (if_pos ⟨hst, hroom⟩)

/-- The copy of a set's entries in DRAM is written; of the reading room only the ages kept for it are. -/
theorem dirWrite_frame (set : Nat) : (s.dirWrite set).epo = s.epo ∧ ∃ a, (s.dirWrite set).fch = { s.fch with ages := a } := by
  unfold State.dirWrite
  split
  · exact ⟨(aside_epo (dirPuts_aside _ _ _ _)).trans rfl, _, (aside_fch (dirPuts_aside _ _ _ _)).trans rfl⟩
  · exact ⟨rfl, s.fch.ages, rfl⟩

theorem dirWrite_evb (set : Nat) : (s.dirWrite set).fch.evb = s.fch.evb := by
  obtain ⟨_, a, h⟩ := dirWrite_frame (s := s) set
  rw [h]

theorem setWay_evb (k : Nat) (w : Way) : (s.setWay k w).fch.evb = s.fch.evb := by
  unfold State.setWay
  extract_lets old
  split
  · exact dirWrite_evb _
  · rfl

/-- A way taken for eviction puts one copy of its 32 lines in the eviction buffers (R130). -/
theorem evbTake_evb (s : State) (k st : Nat) : ∃ ls, ls.length = 32 ∧ (s.evbTake k st).fch.evb = s.fch.evb ++ [{
    folio := (s.way k).folio
    way := k
    lines := ls
    behind := (s.twn.sent.filter (fun x => x.lines.any (fun l => l / 32 == (s.way k).folio))).map (·.mseq) }] := by
  obtain ⟨hcopy, hlen⟩ := copyWay_spec s k
  refine ⟨(s.copyWay k).2, hlen, ?_⟩
  unfold State.evbTake
  dsimp only
  rw [setWay_evb]
  unfold State.evbPut
  dsimp only
  rw [aside_fch hcopy, aside_twn hcopy]

theorem evbSend_none (h : s.fch.evb = []) (tile : Nat) : s.evbSend tile = s := by
  unfold State.evbSend
  rw [h]
  dsimp only [List.filter_nil, List.isEmpty_nil]
  split
  · rfl
  · exact if_pos (.inl rfl)

/-- The copies of a tile in the order of their folios, when there is one. -/
theorem sorted_single (e : Evb) :
    (upTo 16).filterMap (fun i => [e].find? (fun x => x.folio == e.folio / 16 * 16 + i)) = [e] := by
  have hfind : (fun i => [e].find? (fun x => x.folio == e.folio / 16 * 16 + i)) =
      fun i => if i = e.folio % 16 then some e else none := by
    funext i
    by_cases hi : i = e.folio % 16
    · rw [if_pos hi, List.find?_cons_of_pos]
      simp
      omega
    · rw [if_neg hi, List.find?_cons_of_neg, List.find?_nil]
      simp
      omega
  have hlt : e.folio % 16 < 16 := Nat.mod_lt _ (by decide)
  rw [hfind]
  generalize e.folio % 16 = r at hlt
  interval_cases r <;> rfl

/-- The one copy of a tile is sent when its sled takes requests (R131). -/
theorem evbSend_one {n sh : Nat} {e : Evb} (h : s.fch.evb = [e]) (hs : e.sent = false) (hsolo : s.solo = true)
    (hsled : s.sledOf e.folio = some (n, sh)) (hr : s.stkReady n = true) :
    (s.evbSend (e.folio / 16)).fch.evb = [{ e with sent := true }] := by
  have hready : s.fch.evb.filter (fun x => x.folio / 16 == e.folio / 16 && !x.sent
      && ((s.solo || s.rsv.ph != .off) || x.behind.all s.covered)) = [e] := by
    simp [h, hs, hsolo]
  have hsorted := sorted_single e
  unfold State.evbSend
  dsimp only
  rw [hready, hsorted]
  simp only [List.head?_cons, Option.map_some, Option.getD_some, hsled]
  rw [if_neg (by simp [hr])]
  refine (congrArg FchSt.evb (aside_fch (ite_aside ((stkSend_aside _ _ _).trans (stkSend_aside _ _ _)) (stkSend_aside _ _ _)))).trans ?_
  simp [h]

theorem does_hazardWaitRelease {q : FReq} {l : List FReq} (h : s.fch.waits = q :: l) (hroom : s.hazUsed < 8192) :
    Does .hazardWaitRelease s (({ s with fch := { s.fch with waits := l } }).runReq q) := by
  refine Does.of_eq rfl ?_
  simp only [h]
  exact if_pos hroom

theorem does_hazardWaitRelease_full (h : 8192 ≤ s.hazUsed) : Does .hazardWaitRelease s s := by
  refine Does.of_eq rfl ?_
  split
  · exact if_neg (by omega)
  · rfl

end

/-- Settles O30: a fill by what it has, an eviction by its way and the buffers' room. -/
theorem fillsAndEvictions : Obligations.FillsAndEvictions := by
  unfold Obligations.FillsAndEvictions
  refine ⟨fun s f h => Does.of_eq rfl (install_none h),
    fun s f k x l h hw hz hd hfree => Does.of_eq rfl ((install_bound h hw hz).2 l hd hfree),
    fun s f k x h hw hz hd => Does.of_eq rfl ((install_bound h hw hz).1 hd),
    fun s f k hs h0 hw hk hl hst hroom => does_reshelveSelect hs h0 hw hk hl hst hroom,
    fun s f k hw hfull => reshelveSelect_full hw hfull, fun s f h => Does.of_eq rfl (if_pos (by simp [h])),
    fun s k st => evbTake_evb s k st, fun s tile n sh e h ht hs hsolo hsled hr _ => ?_,
    fun s tile h => Does.of_eq rfl (evbSend_none h tile), fun s q l h hroom => does_hazardWaitRelease h hroom,
    fun s h => does_hazardWaitRelease_full h⟩
  subst ht
  exact ⟨_, Does.of_eq rfl rfl, evbSend_one h hs hsolo hsled hr⟩

/-! ### Modes (R123, R141 to R143) -/

section
variable {s : State}

theorem modeWrite_idle {on : Bool} (h : s.fch.mode = b2n on) :
    s.modeWrite on = { s with fch := { s.fch with refused := false } } := by
  cases on with
  | false =>
    have hm : s.fch.mode = 0 := h
    exact (if_neg (by simp [hm])).trans ((if_neg (by simp)).trans (if_neg (by simp [hm])))
  | true =>
    have hm : s.fch.mode = 1 := h
    exact (if_neg (by simp [hm])).trans ((if_neg (by simp [hm])).trans (if_neg (by simp)))

/-- During a change the last word is kept for its end (R143). -/
theorem modeWrite_changing (on : Bool) (h : 2 ≤ s.fch.mode) :
    s.modeWrite on = { s with fch := { s.fch with refused := false, latched := some on } } :=
  if_pos h

theorem modeWrite_disables (h : s.fch.mode = 1) :
    s.modeWrite false = ({ s with fch := { s.fch with refused := false } } : State).disableStart :=
  (if_neg (by simp [h])).trans ((if_neg (by simp)).trans (if_pos ⟨rfl, h⟩))

theorem modeWrite_enables (h : s.fch.mode = 0) :
    s.modeWrite true = ({ s with fch := { s.fch with refused := false } } : State).enableStart :=
  (if_neg (by simp [h])).trans (if_pos ⟨rfl, h⟩)

/-- The end of an enable in a running unit, with no word kept (R143). -/
theorem fchModeTransitionDone_enabled (h : s.fch.mode = 3) (hp : s.pwr.st ≠ .starting) (hl : s.walkObjs.fch.latched = none) :
    ∃ t, Does .fchModeTransitionDone s t ∧ t.fch.mode = 1 ∧ t.dbk = ((({ s.walkObjs with fch := { s.walkObjs.fch with
      mode := 1, latched := none } }).note 0x3D1 [0, 1, s.walkObjs.fch.cleaned,
        (s.walkObjs.timeUs - s.walkObjs.fch.since) / 1000]).dbk) := by
  refine ⟨_, Does.of_eq rfl ((if_neg (by omega)).trans (if_pos ⟨h, hp⟩)), ?_⟩
  generalize s.walkObjs = u at hl ⊢
  unfold State.modeEnd
  rw [hl]
  exact ⟨by simp, by simp⟩

/-- A way as a sweep leaves it (R123). -/
def Way.aged (w : Way) : Way := if w.st ≠ 0 then { w with age := w.age - 1 } else w

/-- The sweep's visit of one way. -/
def State.ageWay (s : State) (k : Nat) : State :=
  if (s.way k).st ≠ 0 ∧ (s.way k).age > 0 then s.setWay k { s.way k with age := (s.way k).age - 1 } else s

/-- Only a way's age changes, so its set is not written to DRAM. -/
theorem ageWay_frame (k : Nat) : ∃ d, s.ageWay k = { s with fch := { s.fch with dir := d } } := by
  unfold State.ageWay
  split
  · exact ⟨_, if_neg (fun h => h.2 rfl)⟩
  · exact ⟨s.fch.dir, rfl⟩

theorem ageWay_dir (k : Nat) : (s.ageWay k).fch.dir = if (s.way k).st ≠ 0 ∧ (s.way k).age > 0 then
    Tab.set (fun _ => {}) s.fch.dir k { s.way k with age := (s.way k).age - 1 } else s.fch.dir := by
  unfold State.ageWay
  rw [apply_ite (fun u : State => u.fch.dir)]
  congr 1
  unfold State.setWay
  dsimp only
  rw [if_neg (fun h => h.2 rfl)]
  rfl

theorem ageWay_way_same {k : Nat} (hw : Tab.wf (fun _ => ({} : Way)) s.fch.dir = true) : (s.ageWay k).way k = (s.way k).aged := by
  unfold State.way at *
  rw [ageWay_dir]
  unfold Way.aged
  by_cases hst : (s.way k).st ≠ 0
  · by_cases hage : (s.way k).age > 0
    · rw [if_pos ⟨hst, hage⟩, Tab.get_set_same hw]
      exact (if_pos hst).symm
    · have hzero : (s.way k).age - 1 = (s.way k).age := by omega
      rw [if_neg (fun h => hage h.2)]
      exact ((if_pos hst).trans (by unfold State.way at hzero; rw [hzero])).symm
  · rw [if_neg (fun h => hst h.1)]
    exact (if_neg hst).symm

theorem ageWay_way_other {k j : Nat} (h : j ≠ k) : (s.ageWay k).way j = s.way j := by
  have hdir := ageWay_dir (s := s) k
  unfold State.way at *
  rw [hdir]
  split
  · exact Tab.get_set_other _ _ h
  · rfl

theorem ageWay_wf (k : Nat) (hw : Tab.wf (fun _ => ({} : Way)) s.fch.dir = true) :
    Tab.wf (fun _ => ({} : Way)) (s.ageWay k).fch.dir = true := by
  rw [ageWay_dir]
  split
  · exact Tab.wf_set hw
  · exact hw

/-- A sweep's visits of some ways of a set. -/
theorem ageWays_spec (b : Nat) {l : List Nat} (hl : l.Nodup) (hw : Tab.wf (fun _ => ({} : Way)) s.fch.dir = true) :
    (∃ d, l.foldl (fun s i => s.ageWay (b + i)) s = { s with fch := { s.fch with dir := d } }) ∧
    ∀ i, (l.foldl (fun s i => s.ageWay (b + i)) s).way (b + i) = if i ∈ l then (s.way (b + i)).aged else s.way (b + i) := by
  induction l generalizing s with
  | nil => exact ⟨⟨s.fch.dir, rfl⟩, fun i => (if_neg List.not_mem_nil).symm⟩
  | cons j l ih =>
    obtain ⟨hj, hl⟩ := List.nodup_cons.mp hl
    obtain ⟨⟨d, hd⟩, hways⟩ := ih hl (ageWay_wf (b + j) hw)
    obtain ⟨d', hd'⟩ := ageWay_frame (s := s) (b + j)
    refine ⟨⟨d, ?_⟩, fun i => ?_⟩
    · rw [List.foldl_cons, hd, hd']
    · rw [List.foldl_cons, hways i]
      by_cases hij : i = j
      · subst hij
        rw [if_neg hj, if_pos List.mem_cons_self, ageWay_way_same hw]
      · have hne : b + i ≠ b + j := by omega
        rw [ageWay_way_other hne]
        simp [hij]

/-- The set at the sweep's position with the ages of its ways counted down. -/
def State.sweptWays (s : State) : State :=
  (upTo 16).foldl (fun s' i => s'.ageWay (s.fch.sweepAt * 16 + i)) (s.dirRead s.fch.sweepAt)

/-- The set as it is then written to DRAM, unless it is dead. -/
def State.sweptSet (s : State) : State :=
  if s.sweptWays.fch.dead.contains s.fch.sweepAt then s.sweptWays else s.sweptWays.dirWrite s.fch.sweepAt

/-- The sweep's position goes on. -/
def State.sweepOn (s : State) (set : Nat) : State := { s with fch := { s.fch with sweepAt := (set + 1) % s.fch.sets } }

theorem does_sweepVisit (hen : s.flag fFCH_CTRL_SWEEP_EN = true) (hm : s.fch.mode = 1 ∨ s.fch.mode = 2) (h0 : 0 < s.fch.sets) :
    Does .sweepVisit s (s.sweptSet.sweepOn s.fch.sweepAt) := by
  refine Does.of_eq rfl ?_
  rw [if_pos ⟨hen, hm, h0⟩]
  extract_lets set s0 s1 s2 _
  have h1 : s1 = s.sweptWays := rfl
  have h2 : s2 = s.sweptSet := by
    unfold State.sweptSet
    rw [← h1]
  rw [← h2]
  rfl

/-- A set in the tag cache is read from there. -/
theorem dirRead_cached {set : Nat} (hc : s.fch.tagc.contains set = true) :
    s.dirRead set = { s with fch := { s.fch with tagc := set :: s.fch.tagc.filter (· != set) } } :=
  (if_pos hc).trans (if_pos hc)

/-- The sweep visits a set in the tag cache (R123). -/
theorem sweptWays_cached (hc : s.fch.tagc.contains s.fch.sweepAt = true) (hw : Tab.wf (fun _ => ({} : Way)) s.fch.dir = true) :
    s.sweptWays.epo = s.epo ∧ s.sweptWays.fch.sets = s.fch.sets ∧
    ∀ i < 16, s.sweptWays.way (s.fch.sweepAt * 16 + i) = (s.way (s.fch.sweepAt * 16 + i)).aged := by
  unfold State.sweptWays
  rw [dirRead_cached hc]
  obtain ⟨⟨d, hd⟩, hways⟩ := ageWays_spec
    (s := { s with fch := { s.fch with tagc := s.fch.sweepAt :: s.fch.tagc.filter (· != s.fch.sweepAt) } }) (s.fch.sweepAt * 16)
    (l := upTo 16) List.nodup_range hw
  refine ⟨by rw [hd], by rw [hd], fun i hi => ?_⟩
  rw [hways i, if_pos (show i ∈ upTo 16 from List.mem_range.mpr hi)]
  rfl

theorem sweptSet_cached (hc : s.fch.tagc.contains s.fch.sweepAt = true) (hw : Tab.wf (fun _ => ({} : Way)) s.fch.dir = true) :
    s.sweptSet.epo = s.epo ∧ s.sweptSet.fch.sets = s.fch.sets ∧
    ∀ i < 16, s.sweptSet.way (s.fch.sweepAt * 16 + i) = (s.way (s.fch.sweepAt * 16 + i)).aged := by
  obtain ⟨hepo, hsets, hways⟩ := sweptWays_cached hc hw
  unfold State.sweptSet
  generalize s.sweptWays = u at hepo hsets hways
  obtain ⟨hepo', a, hfch⟩ := dirWrite_frame (s := u) s.fch.sweepAt
  split
  · exact ⟨hepo, hsets, hways⟩
  · refine ⟨hepo'.trans hepo, (congrArg FchSt.sets hfch).trans hsets, fun i hi => Eq.trans ?_ (hways i hi)⟩
    unfold State.way
    rw [hfch]

end

/-- Settles O31: the sweep by its set, the mode by what it is and what asks for a change. -/
theorem readingRoomModes : Obligations.ReadingRoomModes := by
  unfold Obligations.ReadingRoomModes
  refine ⟨fun s hen hm h0 hc hw => ?_,
    fun s hen => Does.of_eq rfl (if_neg (by simp [hen])), fun s hm ho => ?_, fun s hm ho => ?_,
    fun s hm => Does.of_eq rfl (modeWrite_idle hm), fun s hm => Does.of_eq rfl (modeWrite_enables hm),
    fun s => ⟨rfl, rfl, rfl, rfl, rfl⟩, fun s hm => Does.of_eq rfl (modeWrite_idle hm),
    fun s hm => ⟨Does.of_eq rfl (modeWrite_changing true hm), Does.of_eq rfl (modeWrite_changing false hm)⟩,
    fun s hm hp hl => fchModeTransitionDone_enabled hm hp hl,
    fun s hm => Does.of_eq rfl ((if_neg (by omega)).trans (if_neg (by omega)))⟩
  · obtain ⟨hepo, hsets, hways⟩ := sweptSet_cached hc hw
    refine ⟨_, does_sweepVisit hen hm h0, ?_⟩
    generalize s.sweptSet = u at hepo hsets hways
    exact ⟨congrArg ((s.fch.sweepAt + 1) % ·) hsets, hepo,
      fun i hi hst => (hways i hi).trans (if_pos hst)⟩
  · exact Does.of_eq rfl ((modeWrite_disables hm).trans (if_pos ho))
  · exact Does.of_eq rfl ((modeWrite_disables hm).trans (if_neg (by simp [ho])))

end Sys2Proof.Machine
end

section
/-! PROOF. DRAM channels and their reliability: O34 and O35. -/

namespace Sys2Proof.Machine

section
variable {s : State} {c : Nat}

/-- A write of one channel leaves the others. -/
theorem setCh_ch_other {d : Nat} (x : DmcCh) (h : d ≠ c) : (s.setCh c x).ch d = s.ch d :=
  Tab.get_set_other _ _ h

theorem judgeTemp_ch_other {d : Nat} (h : d ≠ c) : (s.judgeTemp c).ch d = s.ch d :=
  setCh_ch_other _ h

/-- An alert of the command that is being replayed, or of one that is not (R184). -/
theorem does_parityAlert (h : (s.ch c).st = 2) {u : State} {replay : Bool} {n : Nat}
    (hu : u = if (s.ch c).replaying && !replay then s.replayDone c else s)
    (hn : n = if replay then (u.ch c).alerts + 1 else 1) :
    Does (.parityAlert c replay) s (if n ≥ 3 then
      ((u.setCh c { u.ch c with alert := true, alerts := n, replaying := false }).bumpFld
        (fDMC_CNT_CAPAR_ALERTS.plus (dmcOff c))).failChannel c 1
      else (u.setCh c { u.ch c with alert := true, alerts := n, replaying := false }).bumpFld
        (fDMC_CNT_CAPAR_ALERTS.plus (dmcOff c))) := by
  subst hu hn
  exact Does.of_eq rfl (if_neg (by simp [h]))

/-- A retraining pause by the margin it finds (R186). -/
theorem does_retrainPause {u : State} {rank lane margin : Nat} (h : (s.ch c).st = 2) (hr : (s.ch c).retrainNow = true)
    (hu : u = (s.dramRanks c "MRR oscillator").emit (.dmc c "re-centre" 0)) :
    (s.fld (fDMC_RETRAIN_MARGIN_MIN.plus (dmcOff c)) ≤ margin →
      Does (.retrainPause c rank lane margin) s (u.setCh c { u.ch c with retrainNow := false, lowMargins := 0 })) ∧
    ((s.ch c).lowMargins = 2 → margin < s.fld (fDMC_RETRAIN_MARGIN_MIN.plus (dmcOff c)) →
      Does (.retrainPause c rank lane margin) s (((u.setCh c { u.ch c with retrainNow := false, lowMargins := 3 }).raise
        (0x080 + 8 * c + 2)).note 0x3B2 [c, rank, lane, margin])) := by
  subst hu
  refine ⟨fun hm => Does.of_eq rfl ((if_neg (by simp [h, hr])).trans ?_), fun h2 hm => Does.of_eq rfl ((if_neg (by simp [h, hr])).trans ?_)⟩
  · have hlow : ¬ (margin < s.fld (fDMC_RETRAIN_MARGIN_MIN.plus (dmcOff c))) := Nat.not_lt.mpr hm
    simp only [hlow, decide_false, if_neg Bool.false_ne_true]
    exact if_neg (by decide)
  · simp only [hm, decide_true, if_true, h2, true_and]

theorem does_fchgComplete {u : State} (h : (s.ch c).st = 4) (ha : (s.ch c).alert = false)
    (hu : u = ((s.dram c "delays" (b2n (!(s.ch c).tset))).dramRanks c "SRX").dramRanks c "REFab") :
    Does (.fchgComplete c true) s ((u.setCh c { u.ch c with st := 2, tset := !(s.ch c).tset }).raise (0x080 + 8 * c + 7)) ∧
    Does (.fchgComplete c false) s (s.failChannel c 3) := by
  subst hu
  exact ⟨Does.of_eq rfl ((if_neg (by simp [h, ha])).trans (if_pos rfl)),
    Does.of_eq rfl ((if_neg (by simp [h, ha])).trans (if_neg (by decide)))⟩

end

/-- Settles O34: each event by its channel's state. -/
theorem channelEvents : Obligations.ChannelEvents := by
  unfold Obligations.ChannelEvents
  refine ⟨fun s c h => Does.of_eq rfl (if_pos h), fun s c h ha => Does.of_eq rfl (if_neg (by simp [State.issues, ha])),
    fun s c temps h => ⟨_, Does.of_eq rfl (if_neg (by simp [h])), fun d hd => (judgeTemp_ch_other hd).trans (setCh_ch_other _ hd), rfl⟩,
    fun s c temps h0 h5 => ⟨_, Does.of_eq rfl (if_neg (by simp [h0, h5])),
      fun d hd => (judgeTemp_ch_other hd).trans (setCh_ch_other _ hd), rfl⟩,
    fun s c h hr => ?_, fun s u c h hr hu => ?_, fun s c h ha => ?_, fun s c h => Does.of_eq rfl (if_pos h),
    fun s c h => Does.of_eq rfl (if_neg (by simp [h])),
    fun s u c rank lane margin h hr hm hu => (does_retrainPause h hr hu).1 hm,
    fun s u c rank lane margin h hr h2 hm hu => (does_retrainPause h hr hu).2 h2 hm, fun s c h => Does.of_eq rfl (if_pos h),
    fun s c h => Does.of_eq rfl (if_pos (by simp [h])), fun s c h hst => ?_, fun s u c h ha hu => does_fchgComplete h ha hu,
    fun s c good h => Does.of_eq rfl (if_pos (.inr h))⟩
  · have hp := does_parityAlert h (u := s) (replay := false) (n := 1) (by simp [hr]) rfl
    rwa [if_neg (by decide)] at hp
  · have hp := does_parityAlert h (u := u) (replay := false) (n := 1) (by simp [hr, hu]) rfl
    rwa [if_neg (by decide)] at hp
  · have hp := does_parityAlert h (u := s) (replay := true) (by simp) rfl
    rwa [if_pos rfl, if_pos (by omega)] at hp
  · exact Does.of_eq rfl ((if_neg (by simp [h])).trans (if_pos hst))

/-! ### Scrub, remaps, self-test and the raw window (R196 to R207, R464) -/

section
variable {s : State}

theorem rawOpen_shut {p : Nat} (h : s.sec.level ≠ 2) (h1 : p ≠ 1) (h3 : p ≠ 3) : s.rawOpen p = false := by
  simp [State.rawOpen, h, h1, h3]

theorem doDeviceDead_names {c r dev : Nat} (hc : s.dmc.pop.contains c = true) (hr : r < 2 ^ (s.ch c).rankBits) (hd : dev < 20) :
    s.doDeviceDead c r dev = (s.declareDead c r dev, true) :=
  if_pos ⟨hc, hr, hd⟩

theorem doLineRemap_new {u : State} {c l e sp : Nat} {d : Line} {g : Tag} (hc : s.dmc.pop.contains c = true) (hf : s.remapFull c = false)
    (hl : s.remapOf c l = none) (he : (upTo 64).find? (fun e => !(s.remapEnt c e).valid) = some e)
    (hsp : (upTo 128).find? (s.spareFits c l) = some sp) (hu : s.copyLine (s.lineOf c l) = (u, d, g)) :
    s.doLineRemap c l = (((((u.accept (u.spareAddr c sp) { written := true, data := d, tag := g }).setRemap c e
        { l := l, spare := sp, valid := true, persisted := false }).bump rLPR_CNT_REMAP).raise 0x106).note 0x3C2
          ([c] ++ words2 l ++ [sp]), true) := by
  refine (if_pos hc).trans ?_
  refine (if_neg (by simp [hf])).trans ((if_neg (by simp [hl])).trans ?_)
  dsimp only
  rw [he, hsp, hu]
  rfl

theorem doLineRemap_full {c l : Nat} (hc : s.dmc.pop.contains c = true) (hf : s.remapFull c = true) :
    s.doLineRemap c l = (s, false) :=
  (if_pos hc).trans (if_pos hf)

theorem doLineRemap_noChannel {c l : Nat} (hc : s.dmc.pop.contains c = false) : s.doLineRemap c l = (s, false) :=
  if_neg (by rw [hc]; decide)

theorem bistEnd_good (pair vector : Nat) :
    s.bistEnd true pair vector = { s with lpr := { s.lpr with bistRun := false, bistDone := true } } := by
  unfold State.bistEnd
  exact if_pos rfl

theorem bistEnd_bad (pair vector : Nat) : s.bistEnd false pair vector =
    (({ s with lpr := { s.lpr with bistRun := false, bistDone := true, bistFail := true, ready := false } }).note 0x3C4
      [pair, vector]).fatal 4 := by
  unfold State.bistEnd
  exact if_neg (by decide)

theorem doDeviceDead_noDevice {c r dev : Nat} (hd : 20 ≤ dev) : s.doDeviceDead c r dev = (s, false) :=
  if_neg (by omega)

theorem does_deviceDead {u : State} {n : Nat} {ok : Bool} (h : s.turn n 0x32)
    (hrun : (s.slotRunning n).doDeviceDead ((s.slot n).arg 0 1) ((s.slot n).arg 1 1) ((s.slot n).arg 2 1) = (u, ok)) :
    Does (.deviceDead n) s (u.svcOut n (if ok then svcOK else svcDENIED)) :=
  Does.of_eq rfl (serve_done h (by rw [hrun]))

theorem does_lineRemap {u : State} {n c l : Nat} {ok : Bool} (h : s.turn n 0x33) (hz : (s.slot n).zero 1 3 = true)
    (hc : (s.slot n).arg 0 1 = c) (hl : (s.slot n).arg 4 5 = l) (hlt : l < 2 ^ 33)
    (hrun : (s.slotRunning n).doLineRemap c l = (u, ok)) :
    Does (.lineRemap n) s (u.svcOut n (if ok then svcOK else svcDENIED)) := by
  subst hc hl
  refine Does.of_eq rfl (serve_done h ((if_neg (by simp [hz]; omega)).trans ?_))
  rw [hrun]

end

/-- Settles O35: the scrub's end, entries that persist, self-test, the raw window by level, the two services by what they name. -/
theorem reliabilityCommands : Obligations.ReliabilityCommands := by
  unfold Obligations.ReliabilityCommands
  refine ⟨fun s c hen hst hph hch hend => ?_, fun s c h => Does.of_eq rfl (if_pos (by simp [h])),
    fun s c e hv hp => Does.of_eq rfl (if_pos ⟨hv, by simp [hp]⟩), fun s h => Does.of_eq rfl (if_pos h),
    fun s h => Does.of_eq rfl (if_neg (by simp only [h]; decide)), fun s h => Does.of_eq rfl (if_pos h),
    fun s pair vector h => ⟨Does.of_eq rfl ((if_pos h).trans (bistEnd_good pair vector)),
      Does.of_eq rfl ((if_pos h).trans (bistEnd_bad pair vector))⟩,
    fun s h => ⟨Does.of_eq rfl (if_pos ?_), Does.of_eq rfl (if_pos ?_), Does.of_eq rfl (if_pos ?_)⟩,
    fun s p ho hr => ⟨Does.of_eq rfl ?_, Does.of_eq rfl ?_⟩, fun s p ho => Does.of_eq rfl (if_neg (by simp [ho])),
    fun s n h hc hr hd => does_deviceDead (ok := true) h (doDeviceDead_names (s := s.slotRunning n) hc hr hd),
    fun s n h hd => does_deviceDead (ok := false) h (doDeviceDead_noDevice hd),
    fun s v n c l e sp d g h hz hc hl hlt hp hf hr he hsp hv =>
      does_lineRemap (ok := true) h hz hc hl hlt (doLineRemap_new (s := s.slotRunning n) hp hf hr he hsp hv),
    fun s n c l h hz hc hl hlt hp hf => does_lineRemap (ok := false) h hz hc hl hlt (doLineRemap_full (s := s.slotRunning n) hp hf),
    fun s n h hz hlt hp => does_lineRemap (ok := false) h hz rfl rfl hlt (doLineRemap_noChannel (s := s.slotRunning n) hp),
    fun s n h hl => Does.of_eq rfl (serve_done h (if_pos (.inr hl)))⟩
  · exact Does.of_eq rfl ((if_neg (by simp [hen, hst, hph, hch])).trans (if_pos hend))
  · rw [rawOpen_shut h (by decide) (by decide)]
    rfl
  · rw [rawOpen_shut h (by decide) (by decide)]
    rfl
  · rw [rawOpen_shut h (by decide) (by decide)]
    rfl
  · exact (if_neg (by simp [ho])).trans (if_neg (by simp [hr]))
  · exact (if_neg (by simp [ho])).trans (if_neg (by simp [hr]))

end Sys2Proof.Machine
end

section
/-! PROOF. Stack links: their training, cells, loss and adoption (O32), and the responses to their requests (O33). -/

namespace Sys2Proof.Machine

section
variable {s : State} {n : Nat}

/-- A cell that is not good is discarded, and the next header carries NAK (R147). -/
theorem does_cellReceive_bad {hdr : BitVec 64} {body : List Byte} (hn : n < 16) (hc : (s.link n).carries = true)
    (hb : body.length ≠ 1024) :
    Does (.cellReceive n hdr body) s ((s.setLink n { s.link n with nak := true }).stkIdle n) :=
  Does.of_eq rfl ((if_neg (by simp [hc, hn])).trans (if_pos (by simp [hb])))

/-- An intact data cell in its turn moves both sequence numbers and belongs to a message (R146 to R148). -/
theorem does_cellReceive_data {hdr : BitVec 64} {body : List Byte} (hn : n < 16) (hc : (s.link n).carries = true)
    (hb : body.length = 1024)
    (hsum : (crc32 (leBytes 4 (hdr.toNat % 2 ^ 32) ++ body)).toNat = hdr.toNat / 2 ^ 32)
    (hkind : bitsOf hdr.toNat 13 12 = 1) (hseq : bitsOf hdr.toNat 11 0 = ((s.link n).rxSeq + 1) % 4096)
    (hnak : hdr.getLsbD 28 = false) :
    Does (.cellReceive n hdr body) s
      ((((s.setLink n { s.link n with rxSeq := ((s.link n).rxSeq + 1) % 4096, rxAck := bitsOf hdr.toNat 27 16 }).stkIdle n).stkBody n
        (hdr.getLsbD 14) body).stkPump n) := by
  refine Does.of_eq rfl ((if_neg (by simp [hc, hn])).trans ((if_neg ?_).trans ?_))
  · rw [hsum]
    simp [hb, hkind, hseq]
  · rw [if_pos hkind, if_pos hkind, if_neg (by rw [hnak]; decide), hseq]

/-- A sled whose lost shelves are none and that diverges nowhere is only adopted (R163). -/
theorem doSledAdopt_of_no_lost (hn : n < 16) (h4 : (s.link n).st = 4)
    (hlost : ∀ e ∈ s.tqm.shelves, ¬ (e.2.st = 3 ∧ e.2.sled = n)) (hd : s.twn.diverge = []) :
    s.doSledAdopt n = (s.stkAdopt n, some svcOK) := by
  have hnone : s.tqm.shelves.filter (fun e => e.2.st == 3 && e.2.sled == n) = [] := by
    simpa [List.filter_eq_nil_iff] using hlost
  refine (if_neg (by simp [h4, hn])).trans ?_
  have hkeep : ({ s with twn := { s.twn with diverge := (s.twn.diverge ++ []).eraseDups } } : State) = s := by
    rw [hd]
    exact congrArg (fun d => ({ s with twn := { s.twn with diverge := d } } : State)) hd.symm
  rw [hnone]
  exact congrArg (fun u : State => (u.stkAdopt n, some svcOK)) hkeep

end

/-- Settles O32: each event by its link's state. -/
theorem stackLinkEvents : Obligations.StackLinkEvents := by
  unfold Obligations.StackLinkEvents
  refine ⟨fun s n hl ht => ⟨fun h => ?_, fun h => ?_⟩, fun s n hl hr ht h => ?_,
    fun s n hdr body hn hc hb => does_cellReceive_bad hn hc hb,
    fun s u n hdr body hn hc hb hsum hkind hseq hnak hu => ?_, fun s n hn hc ha => Does.of_eq rfl (if_pos ⟨hn, hc, ha⟩),
    fun s n c hn hc => Does.of_eq rfl (if_pos ⟨hn, hc⟩), fun s n hn hc => Does.of_eq rfl (if_pos ⟨hn, hc⟩),
    fun s n hc => Does.of_eq rfl (if_neg (by simp [hc])), fun s n hl h => Does.of_eq rfl ?_, fun s n hl h => Does.of_eq rfl ?_,
    fun s m n ht ha h => Does.of_eq rfl (serve_done ht (if_pos ?_)),
    fun s m n ht ha hn h4 hlost hd => Does.of_eq rfl (serve_done ht ?_)⟩
  · have h3 : (s.link n).st ≠ 3 := by omega
    refine Does.of_eq rfl ((if_pos ⟨hl, by simp [ht], by omega⟩).trans ?_)
    rw [if_neg h3]
  · refine Does.of_eq rfl ((if_pos ⟨hl, by simp [ht], by omega⟩).trans ?_)
    rw [if_pos h]
  · exact Does.of_eq rfl (if_pos ⟨hl, hr, by simp [ht], h⟩)
  · subst hu
    exact does_cellReceive_data hn hc hb hsum hkind hseq hnak
  · exact (if_neg (by simp [hl])).trans (if_pos h)
  · have h34 : ¬ ((s.link n).st = 3 ∨ (s.link n).st = 4) := by omega
    refine (if_neg (by simp [hl])).trans ((if_neg (by omega)).trans ?_)
    rw [if_neg h34]
  · subst ha
    exact h
  · subst ha
    exact doSledAdopt_of_no_lost (s := s.slotRunning m) hn h4 hlost hd

/-! ### Responses (R149 to R157) -/

section
variable {s : State} {n tag op : Nat} {r : StkReq}

/-- The folios of a request for one folio. -/
theorem filter_bitOf_two_pow {k : Nat} (hk : k < 16) : (upTo 16).filter (bitOf (2 ^ k)) = [k] := by
  decide +revert

theorem readAnswer_folio {tr bad k : Nat} {recs : List (List (Line × Tag))} {u : State} (hu : u = s.stkHeard n r) (hk : k < 16)
    (hm : r.mask = 2 ^ k) :
    s.readAnswer n r 0 tr bad recs =
      (((((u.setLink n { u.link n with rtts := ((u.timeUs - r.since) :: (u.link n).rtts).take 64 }).stkDrop n r.tag).bump
        (rSTK_LINK_CNT_READ + 0x20 * n)).folioRead n r tr bad recs k).stkPump n) := by
  subst hu
  unfold State.readAnswer
  extract_lets s0 l s1 s2
  have h2 : s2 = s1.folioRead n r tr bad recs k := (if_pos (by decide)).trans (by rw [hm, filter_bitOf_two_pow hk]; rfl)
  rw [if_neg (by decide), if_neg (by decide), h2]

theorem readAnswer_busy {tr bad : Nat} {recs : List (List (Line × Tag))} :
    s.readAnswer n r 4 tr bad recs = (s.stkHeard n r).stkRetry n r := by
  unfold State.readAnswer
  extract_lets s0 l s1 s2
  rw [if_pos (by decide)]

theorem readAnswer_range {tr bad : Nat} {recs : List (List (Line × Tag))} :
    s.readAnswer n r 2 tr bad recs = (s.stkHeard n r).stkRange n := by
  unfold State.readAnswer
  extract_lets s0 l s1 s2
  rw [if_neg (by decide), if_pos (by decide)]

theorem writeAnswer_ok {u : State} (hu : u = s.stkHeard n r) (hoff : u.rsv.ph = .off) (ht : r.ltile < vaultTile) :
    s.writeAnswer n r 0 = ((((u.stkDrop n r.tag).bump (rSTK_LINK_CNT_WRITE + 0x20 * n)).tileWritten r).stkPump n).vaultGo := by
  subst hu
  have hoff' : (((s.stkHeard n r).stkDrop n r.tag).bump (rSTK_LINK_CNT_WRITE + 0x20 * n)).rsv.ph = .off := by
    simpa [State.stkDrop] using hoff
  refine congrArg State.vaultGo ((if_neg (show ¬ (0 = 4) by decide)).trans ((if_neg (show ¬ (0 = 2) by decide)).trans
    ((if_neg (show ¬ (0 ≠ 0) by decide)).trans ?_)))
  have hbelow : ¬ r.ltile ≥ vaultTile := Nat.not_le.mpr ht
  simp only [hbelow, hoff', if_true, if_false]

theorem statusAnswer_early {u : State} {b : List Byte} (hu : u = s.stkHeard n r) (h8 : u.beforeStep8 = true) (hoff : u.rsv.ph = .off) :
    s.statusAnswer n r 0 b = ((u.stkDrop n r.tag).setLink n { (u.stkDrop n r.tag).link n with
      uid := leNat (b.take 8)
      shelves := leNat ((b.drop 8).take 4)
      maxOut := leNat ((b.drop 12).take 2)
      sealRate := leNat ((b.drop 14).take 2)
      sledSt := leNat ((b.drop 16).take 1)
      mediaErr := leNat ((b.drop 24).take 8) }).stkPump n := by
  subst hu
  unfold State.statusAnswer
  extract_lets s0 at_ s1 l s2 s3 s4
  have h2 : s2.beforeStep8 = true := h8
  have h3 : s3 = s2 := if_neg (by simp [h2])
  have hph : s2.rsv.ph = .off := hoff
  have h4 : s4 = s2 := (if_neg (by simp [h3, hph])).trans h3
  rw [if_neg (by decide), if_neg (by decide), if_neg (by decide), h4]
  rfl

/-- A trim of some lines of a shelf leaves no shelf free (R49). -/
theorem trimAnswer_lines {u : State} (hu : u = s.stkHeard n r) (ha : r.arg ≠ 16384) :
    s.trimAnswer n r 0 = (u.stkDrop n r.tag).stkPump n := by
  subst hu
  unfold State.trimAnswer
  extract_lets s0 s1 l t s2
  have h2 : s2 = s1 := if_pos ha
  rw [if_neg (by decide), if_neg (by decide), if_neg (by decide), h2]

theorem sealAnswer_ok {u : State} (hu : u = s.stkHeard n r) :
    s.sealAnswer n r 0 = ((({ u.stkDrop n r.tag with rsv := { u.rsv with sealed := u.rsv.sealed ||| 2 ^ n } }).setLink n
      { (u.stkDrop n r.tag).link n with st := 5 })).vaultGo := by
  subst hu
  unfold State.sealAnswer
  extract_lets s0 s1 _ s2 _
  rw [if_neg (by decide), if_neg (by decide), if_neg (by decide)]
  rfl

theorem beginAnswer_ready {u : State} (hu : u = s.stkHeard n r) (h : u.rsv.ph = .entry) :
    s.beginAnswer n r 0 = ({ u.stkDrop n r.tag with rsv := { u.rsv with
      ready := u.rsv.ready ||| 2 ^ n
      failed := u.rsv.failed &&& (65535 - 2 ^ n) } }).vaultGo := by
  subst hu
  exact congrArg State.vaultGo ((if_neg (show ¬ (0 = 2) by decide)).trans
    ((if_neg (show ¬ (((s.stkHeard n r).stkDrop n r.tag).rsv.ph ≠ .entry) from not_not_intro h)).trans (if_pos rfl)))

theorem beginAnswer_busy {u : State} (hu : u = s.stkHeard n r) (h : u.rsv.ph = .entry) :
    s.beginAnswer n r 4 =
      ((u.stkDrop n r.tag).setLink n { (u.stkDrop n r.tag).link n with vbAgain := true }).vaultGo := by
  subst hu
  exact congrArg State.vaultGo ((if_neg (show ¬ (4 = 2) by decide)).trans
    ((if_neg (show ¬ (((s.stkHeard n r).stkDrop n r.tag).rsv.ph ≠ .entry) from not_not_intro h)).trans
      ((if_neg (show ¬ (4 = 0) by decide)).trans (if_pos rfl))))

/-- What an outstanding request's answer leads to, from the answer's rule (R149). -/
theorem elim_of_found {u : State} {answer : StkReq → State} (h : s.stkFind n tag op = some r) (ha : answer r = u) :
    finish ((s.stkFind n tag op).elim s answer) = finish u := by
  rw [h]
  exact congrArg finish ha

end

/-- Settles O33: each response by its request, its status and the vault's phase. -/
theorem stackResponses : Obligations.StackResponses := by
  unfold Obligations.StackResponses
  refine ⟨fun s n tag st tr bad recs h => ?_,
    fun s u n tag tr bad k recs r h hk hm hu => ?_,
    fun s u n tag tr bad recs r h hu => ⟨?_, ?_⟩,
    fun s u n tag r h hu hoff ht => ?_,
    fun s u n tag r h ha hu => ?_,
    fun s u n tag r h hu => ?_,
    fun s u n tag b r h hu h8 hoff => ?_,
    fun s u n tag r h hu hph => ?_,
    fun s u n tag r h hu hph => ?_,
    fun s n hn hv hph => Does.of_eq rfl (if_pos ⟨hn, hv, hph⟩),
    fun s n tag r h h6 => ?_, fun s n tag r h h6 => ?_⟩
  · exact Does.of_eq (congrArg (fun o : Option StkReq => finish (o.elim s _)) h) rfl
  · exact Does.of_eq (elim_of_found h (readAnswer_folio hu hk hm)) rfl
  · subst hu
    exact Does.of_eq (elim_of_found h readAnswer_busy) rfl
  · subst hu
    exact Does.of_eq (elim_of_found h readAnswer_range) rfl
  · exact Does.of_eq (elim_of_found h (writeAnswer_ok hu hoff ht)) rfl
  · exact Does.of_eq (elim_of_found h (trimAnswer_lines hu ha)) rfl
  · exact Does.of_eq (elim_of_found h (sealAnswer_ok hu)) rfl
  · exact Does.of_eq (elim_of_found h (statusAnswer_early hu h8 hoff)) rfl
  · exact Does.of_eq (elim_of_found h (beginAnswer_ready hu hph)) rfl
  · exact Does.of_eq (elim_of_found h (beginAnswer_busy hu hph)) rfl
  · refine Does.of_eq rfl ?_
    simp only [h]
    exact if_neg h6
  · refine Does.of_eq rfl ?_
    simp only [h]
    exact if_pos h6

end Sys2Proof.Machine
end

section
/-! PROOF. Tvedfy links and the twin link: training (O36), flits, recovery and loss (O37). -/

namespace Sys2Proof.Machine

section
variable {s : State} {lk : Nat}

theorem ne_twinLk_of_lt (h : lk < 32) : lk ≠ twinLk := by
  unfold twinLk
  omega

@[simp] theorem link_raise (s : State) (n k : Nat) : (s.raise n).tvl_ k = s.tvl_ k := link_congr k (by simp)
@[simp] theorem link_note (s : State) (c : Nat) (ws : List Nat) (k : Nat) : (s.note c ws).tvl_ k = s.tvl_ k := link_congr k (by simp)
@[simp] theorem link_bump (s : State) (a k : Nat) : (s.bump a).tvl_ k = s.tvl_ k := link_congr k (by simp)
@[simp] theorem link_bumpBy (s : State) (a n k : Nat) : (s.bumpBy a n).tvl_ k = s.tvl_ k := link_congr k (by simp)
@[simp] theorem link_bumpFld (s : State) (f : Fld) (k : Nat) : (s.bumpFld f).tvl_ k = s.tvl_ k := link_congr k (by simp)
@[simp] theorem link_setFld (s : State) (f : Fld) (v k : Nat) : (s.setFld f v).tvl_ k = s.tvl_ k := link_congr k (by simp)

/-- A link written in a state other than DOWN reads back. -/
theorem link_setTvl_of_st {l : TvLink} (h : l.st ≠ 0) : (s.setTvl lk l).tvl_ lk = l :=
  link_setTvl_same fun e => h (congrArg TvLink.st e)

/-! ### Training (R209 to R228) -/

theorem does_equalisationDone {pol : Nat} (hlk : lk < 32) (h : (s.tvl_ lk).st = 1) :
    Does (.equalisationDone lk pol) s (((s.laneTrained (2 * lk) (if (s.tvl_ lk).split then 2 else 4)).setTvl lk
      { s.tvl_ lk with st := 2, pol := pol % 16 }).fecStart lk) := by
  refine Does.of_eq rfl ((if_pos h).trans ?_)
  rw [if_neg (ne_twinLk_of_lt hlk)]
  split <;> rfl

/-- A CONFIG flit that fits is recorded and answered; with the partner's acknowledgement the link is ACTIVE (R213, R228). -/
theorem does_configFlit {b : List Byte} (hlk : lk < 32) (h : (s.tvl_ lk).st = 3) (hok : tvConfigOk (s.tvl_ lk) lk b = true) {u : State}
    (hu : u = if (s.tvl_ lk).uid ≠ 0 ∧ (s.tvl_ lk).uid ≠ blkNat b 4 8 then
      (s.raise (tvSrc lk 7)).note 0x3F2 ([lk / 2, lk % 2] ++ words2 (blkNat b 4 8) ++ words2 (s.tvl_ lk).uid) else s) {v : State}
    (hv : v = (u.setTvl lk { u.tvl_ lk with
      uid := blkNat b 4 8
      peerRs := blkNat b 14 2
      peerEv := blkNat b 18 2 }).tvConfigOut lk true) :
    Does (.configFlit lk b) s (if bitOf (blkNat b 1 1) 3 then v.tvActive lk else v) := by
  refine Does.of_eq rfl ?_
  extract_lets _ uid s1 s2 s3
  rw [if_neg (by simp [h]), if_neg (ne_twinLk_of_lt hlk), if_neg (by simp [hok]), hv, hu]

end

/-- Settles O36: each event by its link's state. -/
theorem tvedfyTraining : Obligations.TvedfyTraining := by
  unfold Obligations.TvedfyTraining
  refine ⟨fun s lk hlk hp hr ht h he => Does.of_eq rfl ((if_neg (ne_twinLk_of_lt hlk)).trans (if_pos ⟨hlk, hp, hr, ht, h, he⟩)),
    fun s hw hr h => Does.of_eq rfl ((if_pos rfl).trans (if_pos ⟨hw, hr, h⟩)), fun s lk h => Does.of_eq rfl ?_,
    fun s lk pol hlk h => does_equalisationDone hlk h, fun s lk h => Does.of_eq rfl (if_pos h),
    fun s lk rev h => Does.of_eq rfl (if_pos h), fun s lk h => Does.of_eq rfl (if_pos h), fun s lk h => Does.of_eq rfl (if_pos h),
    fun s lk b hlk h hok => Does.of_eq rfl ((if_neg (by simp [h])).trans ((if_neg (ne_twinLk_of_lt hlk)).trans (if_pos (by simp [hok])))),
    fun s lk b hlk h hok hid hack => ?_, fun s lk b hlk h hok h0 hid hack => ?_⟩
  · split
    · exact if_neg (by simp [h])
    · exact if_neg (by simp [h])
  · have hd := does_configFlit hlk h hok (if_neg (by tauto)).symm rfl
    rwa [if_pos hack] at hd
  · have hd := does_configFlit hlk h hok (if_pos ⟨h0, hid⟩).symm rfl
    rw [if_neg (by simp [hack])] at hd
    simpa only [link_note, link_raise] using hd

/-! ### Flits (R214 to R231) -/

section
variable {s : State} {lk : Nat} {hdr : BitVec 64} {slots : List (BitVec 128)}

theorem does_flitReceive_bad {crc : BitVec 64} {bad : Bool} {n : Nat} (hlk : lk < 32) (h : (s.tvl_ lk).st = 4)
    (hb : bad = true ∨ digestOut (crc64 digestInit (flitBytes hdr slots)) ≠ crc) {u : State}
    (hu : u = if bad then ((s.bumpBy (rTVL_CNT_FEC_CORR + tvOff lk) n).bump (rTVL_CNT_FEC_UNCORR + tvOff lk)).raise (tvSrc lk 6)
      else s.bumpBy (rTVL_CNT_FEC_CORR + tvOff lk) n) :
    Does (.flitReceive lk hdr slots crc bad n) s ((u.bump (rTVL_CNT_CRC + tvOff lk)).tvNak lk) := by
  subst hu
  exact Does.of_eq rfl ((if_neg (ne_twinLk_of_lt hlk)).trans ((if_neg (by omega)).trans ((if_neg (by simp [h])).trans (if_pos hb))))

/-- An intact flit of a Tvedfy link frees replay entries and gives credits; then it is idle, in sequence or out of it. -/
theorem does_flitReceive_good {n : Nat} (hlk : lk < 32) (h : (s.tvl_ lk).st = 4) (hk : bitsOf hdr.toNat 1 0 ≠ 3) (hnak : hdr.getLsbD 26 = false)
    {u v w : State} (hu : u = (s.bumpBy (rTVL_CNT_FEC_CORR + tvOff lk) n).tvAck lk (bitsOf hdr.toNat 25 14))
    (hv : v = u.setTvl lk (tvCredit (u.tvl_ lk) (bitsOf hdr.toNat 29 28) (bitsOf hdr.toNat 41 30)))
    (hw : w = if bitsOf hdr.toNat 1 0 = 0 then v
      else if bitsOf hdr.toNat 13 2 = ((v.tvl_ lk).ackTx + 1) % 4096 then v.tvAccept lk hdr slots else v.tvNak lk)
    (hact : (w.tvl_ lk).st = 4) :
    Does (.flitReceive lk hdr slots (digestOut (crc64 digestInit (flitBytes hdr slots))) false n) s (w.tvPump lk) := by
  refine Does.of_eq rfl ((if_neg (ne_twinLk_of_lt hlk)).trans ((if_neg (by omega)).trans ((if_neg (by simp [h])).trans
    ((if_neg (by simp)).trans ((if_neg hk).trans ?_)))))
  rw [if_neg (show ¬ false = true from Bool.false_ne_true), ← hu]
  extract_lets s2 s3 s4 s5
  have h3 : s3 = v := hv.symm
  have h4 : s4 = w := by rw [hw, ← h3]
  have h5 : s5 = w := (if_neg (by rw [hnak]; simp)).trans h4
  rw [h5, if_pos hact]

theorem st_tvAck (h : (s.tvl_ lk).st ≠ 0) (a : Nat) : ((s.tvAck lk a).tvl_ lk).st = (s.tvl_ lk).st := by
  unfold State.tvAck
  extract_lets l
  split
  · rw [link_setTvl_of_st (l := l.acked a) h]
    rfl
  · rfl

theorem st_tvCredit (l : TvLink) (c n : Nat) : (tvCredit l c n).st = l.st := by
  unfold tvCredit
  split
  · rfl
  · split <;> rfl

/-- With nothing outstanding no ACKSEQ advances (R219). -/
theorem tvAck_of_caught_up (h : (s.tvl_ lk).ackRx = (s.tvl_ lk).fseq) (a : Nat) : s.tvAck lk a = s := by
  refine if_neg ?_
  simp only [seqBetween, h, decide_eq_true_eq]
  omega

theorem does_recoveryRegained {a : Nat} (hlk : lk ≠ twinLk) (h : (s.tvl_ lk).st = 5) (hack : (s.tvl_ lk).ackRx = (s.tvl_ lk).fseq) :
    Does (.recoveryRegained lk a) s ((s.setTvl lk { s.tvl_ lk with st := 4, replays := 0 }).tvPump lk) := by
  refine Does.of_eq rfl ((if_neg (by simp [h])).trans ((if_neg hlk).trans ?_))
  rw [tvAck_of_caught_up hack, if_neg]
  rw [link_setTvl_of_st (by simp)]
  exact not_not_intro hack

/-- A Tvedfy link that is lost (R229, R230). -/
theorem link_tvLose (hlk : lk < 32) (cause : Nat) :
    (s.tvLose lk cause).tvl_ lk = { s.tvl_ lk with
      st := 6
      life := (s.tvl_ lk).life + 1
      part := []
      txq := []
      kept := []
      credRs := 0
      credEv := 0
      credMi := 0
      ackRx := (s.tvl_ lk).fseq
      replays := 0 } := by
  unfold State.tvLose
  extract_lets l s1
  rw [if_neg (ne_twinLk_of_lt hlk), link_bumpFld, link_raise]
  exact link_setTvl_of_st (by simp)

end

/-- Settles O37: each event by its link's state. -/
theorem tvedfyLinkEvents : Obligations.TvedfyLinkEvents := by
  unfold Obligations.TvedfyLinkEvents
  refine ⟨fun s lk hdr slots crc hlk h hc => does_flitReceive_bad hlk h (.inr hc) rfl,
    fun s lk hdr slots crc n hlk h => does_flitReceive_bad hlk h (.inl rfl) rfl,
    fun s u lk hdr slots n hlk h hk hnak hu => ?_,
    fun s u v lk hdr slots n hlk h hk hnak hu hv hseq hact => ?_,
    fun s hdr slots n h => ⟨fun hk => Does.of_eq rfl ((if_pos rfl).trans ((if_neg (by simp [h])).trans ((if_neg (by simp)).trans (if_neg hk)))),
      fun crc => Does.of_eq rfl ((if_pos rfl).trans ((if_neg (by simp [h])).trans (if_pos (.inl rfl))))⟩,
    fun s lk h ha => Does.of_eq rfl (if_pos ⟨h, ha⟩), fun s lk ha => Does.of_eq rfl (if_neg (by simp [ha])),
    fun s lk h => Does.of_eq rfl (if_pos h), fun s lk a hlk h _ hack _ => does_recoveryRegained hlk h hack,
    fun s lk h => ⟨Does.of_eq rfl (if_pos h), Does.of_eq rfl (if_pos (.inr h))⟩, fun s lk h => Does.of_eq rfl (if_pos h),
    fun s p hp => Does.of_eq rfl (if_neg (by omega)), fun s p h hp hh ha => ?_, fun s lk cause hlk _ => ?_⟩
  · refine does_flitReceive_good hlk h (by omega) hnak hu rfl (if_pos hk).symm ?_
    rw [link_setTvl_of_st] <;> rw [st_tvCredit, hu, st_tvAck (by simp [h]), link_bumpBy, h]
    decide
  · exact does_flitReceive_good hlk h (by omega) hnak hu hv ((if_neg (by omega)).trans (if_pos hseq)).symm hact
  · have hhalf : h % 2 = h := by omega
    refine Does.of_eq rfl ((if_neg (by omega)).trans ?_)
    rw [hhalf, if_neg]
    simp [ha]
  · rw [link_tvLose hlk]
    exact ⟨rfl, rfl, rfl, rfl, rfl, rfl⟩

end Sys2Proof.Machine
end

section
/-! PROOF. Ethernet ports: their frames (O38). -/

namespace Sys2Proof.Machine

/-- Port 0 is listed twice: behind the entry that reads stands one that holds a packet. -/
def portListedTwice : State :=
  { State.reset with eth := { State.reset.eth with ports := [(0, { paused := [0] }), (0, { held := [(1, .eth 0 "ARP" 0)] })] } }

/-- Refutes O38: the end of a pause on a port that holds no packet sends one where the table of ports lists the port twice;
the port's entry is then at its reset value, the table drops it, and the one behind it reads. Nothing in the statement
keeps such a table out. -/
theorem not_ethernetFrames : ¬ Obligations.EthernetFrames := by
  unfold Obligations.EthernetFrames
  rintro ⟨_, _, _, _, _, hresume, _⟩
  have hquiet := congrArg (fun s : State => s.out.length) (hresume portListedTwice _ 0 [0] rfl rfl)
  have hsent : (portListedTwice.ethResume 0 [0]).out.length = 1 := by decide +kernel
  rw [hsent] at hquiet
  exact absurd hquiet (by decide +kernel)

end Sys2Proof.Machine
end

section
/-! PROOF. RoCE connections (O39). -/

namespace Sys2Proof.Machine

section
variable {s u : State} {e dst : Nat}

/-- A message of the connection manager whose frame is taken by no one ends there. -/
theorem does_cm_none (h : s.cmArrive e dst = (u, none)) (src comm qpn psn0 sid mtu q : Nat) (rc : Bool) :
    Does (.cmReq e dst src comm qpn psn0 sid mtu rc) s u ∧ Does (.cmRtu e dst q) s u ∧ Does (.cmDreq e dst q) s u ∧
    Does (.cmRej e dst q) s u ∧ Does (.cmMra e dst q) s u ∧ Does (.cnpReceived e dst q) s u := by
  refine ⟨Does.of_eq rfl ?_, Does.of_eq rfl ?_, Does.of_eq rfl ?_, Does.of_eq rfl ?_, Does.of_eq rfl (congrArg Prod.fst h),
    Does.of_eq rfl ?_⟩ <;> simp only [h]

/-- A CM_REQ of a known host for the service that the unit offers is given a connection, or told that none is free (R269). -/
theorem does_cmReq {src comm qpn psn0 sid mtu h : Nat} {m : Mark} (ha : s.cmArrive e dst = (u, some m)) (hh : u.hostOf src = some h)
    (hsid : sid = u.fld fNRE_SID_LO_V + u.fld fNRE_SID_HI_V * 2 ^ 32) :
    (u.pickQp h = none → Does (.cmReq e dst src comm qpn psn0 sid mtu true) s (u.cmReject e m comm 1)) ∧
    ∀ q v, u.pickQp h = some q →
      v = ((u.setQp q {
        st := 1
        epsn := psn0 % 2 ^ 24
        dest := qpn
        host := h
        pmtu := min mtu (min 2 (u.fld fNRE_MTU_MAX))
        mode := u.flag fEPO_CTRL_ROCE_MODE }).card q).1 →
      Does (.cmReq e dst src comm qpn psn0 sid mtu true) s (v.ethSend e m (.cmRep comm (0x100000 + q)
        ((u.count rNRE_CNT_RX_PKT).toNat % 2 ^ 24) (min mtu (min 2 (u.fld fNRE_MTU_MAX))) 16 0
          (leBytes 2 (((v.stream (qpStream q)).epoch + 1) % 4096) ++ leBytes 1 (b2n (u.flag fEPO_CTRL_ROCE_MODE)) ++ leBytes 5 0))) := by
  refine ⟨fun hq => Does.of_eq rfl ?_, fun q v hq hv => Does.of_eq rfl ?_⟩
  · simp only [ha, hh]
    refine (if_neg (by simp [hsid])).trans ?_
    simp only [hq]
  · subst hv
    simp only [ha, hh]
    refine (if_neg (by simp [hsid])).trans ?_
    simp only [hq]

theorem does_cmRtu_cmRej {q : Nat} {m : Mark} (ha : s.cmArrive e dst = (u, some m)) :
    Does (.cmRtu e dst q) s (if u.connecting q then u.enterRts q else u) ∧
    Does (.cmRej e dst q) s (if u.connecting q then u.freeQp q else u) := by
  refine ⟨Does.of_eq rfl ?_, Does.of_eq rfl ?_⟩ <;> simp only [ha]

theorem does_cmDreq {q : Nat} {m : Mark} (ha : s.cmArrive e dst = (u, some m)) :
    Does (.cmDreq e dst q) s (
      if (u.qp q).circ ∧ (u.qp q).st = 2 then (u.cirError (q - 1048576)).ethSend e m (.cm "DREP" (0x100000 + q) 0 0)
      else if (u.qp q).st = 0 then u.bump rNRE_CNT_UNKNOWN_QP
      else (u.endQp q).ethSend e m (.cm "DREP" (0x100000 + q) 0 0)) := by
  refine Does.of_eq rfl ?_
  simp only [ha]

/-- A fetched context with no packet behind it is entered in the card index (R284). -/
theorem does_contextFetchDone {q : Nat} (hf : s.nre.fetching.contains q = true) (hc : s.card q = (u, true)) (hw : (u.qp q).waiting = []) :
    Does (.contextFetchDone q) s { u with nre := { u.nre with fetching := u.nre.fetching.filter (· != q) } } := by
  refine Does.of_eq rfl ((if_neg (by simp only [hf]; decide)).trans ?_)
  simp only [hc, hw]
  rfl

theorem does_cnpReceived_circulation {i c : Nat} {m : Mark} {v : State} (ha : s.cmArrive e dst = (u, some m)) (hi : i < 256)
    (hv : v = u.bumpFld fNRE_CNT_CNP_RX) (hconn : (v.cs i).conn = true) (hcur : (v.cs i).cur = some c) :
    Does (.cnpReceived e dst (0x200000 + i)) s
      (v.setCs i { v.cs i with cur := some (max 10 (c * (256 - v.fld fCIR_CNP_CUT) / 256)) }).tickFree := by
  refine Does.of_eq rfl ?_
  have hk : 0x200000 + i - 0x200000 = i := by omega
  simp only [ha, hk, ← hv, hcur]
  exact if_neg (by simp [hconn, hi])

/-- A consumer's CM_REQ that fits an ARMED stream connects and starts it (R301). -/
theorem does_cirConsumerReq {src comm qpn sid mtu i n va rkey p psn : Nat} {m : Mark} {v : State} (ha : s.cmArrive e dst = (u, some m))
    (h2 : 2 ≤ n) (hn : n ≤ 65536) (hi : i < 256) (hsid : sid = u.fld fCIR_SID_LO_V + u.fld fCIR_SID_HI_V * 2 ^ 32)
    (hst : (u.cs i).st = 1) (hh : u.hostOf src = some (u.cs i).host) (hp : p = min mtu (min 2 (u.fld fNRE_MTU_MAX)))
    (hpsn : psn = (u.count rNRE_CNT_RX_PKT).toNat % 2 ^ 24)
    (hv : v = (((u.setQp (cirQ i) { st := 2, circ := true, epsn := psn, dest := qpn, host := (u.cs i).host, pmtu := p }).card
      (cirQ i)).1).ethSend e m (.cmRep comm (0x100000 + cirQ i) psn p 0 16 [])) :
    Does (.cirConsumerReq e dst src comm qpn sid mtu i n va rkey true) s ((v.setCs i { (u.cs i).rearm with
      conn := true
      port := e
      slots := n
      va := va
      rkey := rkey
      psn := psn }).cirStart i true) := by
  subst hv hp hpsn
  refine Does.of_eq rfl ?_
  simp only [ha]
  exact if_neg (by simp only [hsid, hst, hh]; simp; omega)

end

/-- Settles O39: each message by what its frame's arrival and its connection's state give. -/
theorem connections : Obligations.Connections := by
  unfold Obligations.Connections
  refine ⟨fun s u e dst h => does_cm_none h, fun s u e dst src comm qpn psn0 sid mtu m rc ha hh => ?_,
    fun s u e dst src comm qpn psn0 sid mtu h m ha hh hsid hq => (does_cmReq ha hh hsid).1 hq,
    fun s u v e dst src comm qpn psn0 sid mtu h q m ha hh hsid hq hv => (does_cmReq ha hh hsid).2 q v hq hv,
    fun s u e dst q m ha hc => ?_, fun s u e dst q m ha hc => ?_, fun s q hc => Does.of_eq rfl (if_pos hc),
    fun s u e dst q m ha hc => ⟨fun h0 => ?_, fun h0 => ?_⟩, fun s u e dst q m ha hc h2 => ?_,
    fun s u e dst q m ha => Does.of_eq rfl (congrArg Prod.fst ha), fun s u q hf hc hw => does_contextFetchDone hf hc hw,
    fun s q hw => Does.of_eq rfl (if_neg (by simp [hw])), fun s q h hc => Does.of_eq rfl (if_pos ⟨h, by simp [hc]⟩),
    fun s u e dst qpn m ha hq => ?_, fun s u v e dst i c m ha hi hv hconn hcur => does_cnpReceived_circulation ha hi hv hconn hcur,
    fun s u e dst src comm qpn sid mtu i n va rkey m rc ha hn => ?_,
    fun s u v e dst src comm qpn sid mtu i n va rkey p psn m ha h2 hn hi hsid hst hh hp hpsn hv =>
      does_cirConsumerReq ha h2 hn hi hsid hst hh hp hpsn hv⟩
  · refine Does.of_eq rfl ?_
    simp only [ha, hh]
  · have hd := does_cmRtu_cmRej (q := q) ha
    rwa [if_pos hc, if_pos hc] at hd
  · have hd := does_cmRtu_cmRej (q := q) ha
    rwa [if_neg (by simp [hc]), if_neg (by simp [hc])] at hd
  · have hd := does_cmDreq (q := q) ha
    rwa [if_neg (by simp [hc]), if_pos h0] at hd
  · have hd := does_cmDreq (q := q) ha
    rwa [if_neg (by simp [hc]), if_neg h0] at hd
  · have hd := does_cmDreq (q := q) ha
    rwa [if_pos ⟨hc, h2⟩] at hd
  · refine Does.of_eq rfl ?_
    simp only [ha]
    exact if_pos (.inl hq)
  · refine Does.of_eq rfl ?_
    simp only [ha]
    exact if_pos (by omega)

end Sys2Proof.Machine
end

section
/-! PROOF. The circulation engine (O43). -/

namespace Sys2Proof.Machine

section
variable {s : State} {i : Nat}

/-- A stream that may send looks for its next tile (R303, R305). -/
theorem does_cirTileSend (h : (s.cs i).st = 2) (hl : (s.cs i).limit = none) (hr : (s.cs i).rnr = none) (ho : s.cirOn i = true)
    (hroom : (s.cs i).sendN - (s.cs i).freed < (s.cs i).slots) :
    (∀ (t : CirTile) (m : Nat) (u : State), (s.cs i).tiles.find? (fun t => t.n == (s.cs i).sendN && t.whole) = some t →
      m = 65536 / mtuBytes (s.qp (cirQ i)).pmtu →
      u = (s.spend (s.cs i).tenant 6 1).setCs i { s.cs i with
        sendN := (s.cs i).sendN + 1
        late := (s.cs i).tileLate
        tileLate := false
        lateLong := false
        entry := t.entry } →
      Does (.cirTileSend i) s ((u.cirPut i m (.tile (s.cs i).sendN)
        (fun p => .rdmaWrite (cirQ i) p m ((s.cs i).va + 4096 + (s.cs i).sendN % (s.cs i).slots * 65536) (s.cs i).rkey none
          t.bytes)).cirRun i)) ∧
    ((s.cs i).tiles.find? (fun t => t.n == (s.cs i).sendN && t.whole) = none → (s.cs i).tileLate = false →
      Does (.cirTileSend i) s ((s.setCs i { s.cs i with
        late := true
        tileLate := true
        lateBatch := true
        lateLong := false }).bump rCIR_CNT_LATE)) := by
  have hmay : ¬ ((s.cs i).st ≠ 2 ∨
      (match (s.cs i).limit with | some (m, _, _) => decide (m ≤ (s.cs i).sendN) | none => false) = true ∨
      (s.cs i).rnr.isSome = true ∨ (!s.cirOn i) = true) := by simp [h, hl, hr, ho]
  refine ⟨fun t m u ht hm hu => Does.of_eq rfl ((if_neg hmay).trans ((if_neg (by omega)).trans ?_)),
    fun ht hlate => Does.of_eq rfl ((if_neg hmay).trans ((if_neg (by omega)).trans ?_))⟩
  · subst hm hu
    simp only [ht]
  · simp only [ht]
    exact if_neg (by simp [hlate])

theorem does_freedPoll (h : (s.cs i).st = 2) (ho : s.cirOn i = true) (hfull : (s.cs i).slots ≤ (s.cs i).sendN - (s.cs i).freed)
    (hout : (s.cs i).out.any (fun m => m.what == .freed) = false) (hp : (s.cs i).pollAt = none) :
    Does (.freedPoll i) s ((s.setCs i { s.cs i with pollAt := some s.timeUs }).cirPut i 1 .freed
      (fun p => .rdmaRead (cirQ i) p (s.cs i).va (s.cs i).rkey 8)) := by
  refine Does.of_eq rfl (if_neg ?_)
  rw [hout]
  simp [h, ho, hp, hfull]

theorem does_freedPoll_early {t : Nat} (hp : (s.cs i).pollAt = some t) (ht : s.timeUs < t + max 1 (s.fld fCIR_POLL_US)) :
    Does (.freedPoll i) s s := by
  refine Does.of_eq rfl (if_pos (.inr (.inr (.inr (.inr ?_)))))
  simp only [hp]
  simpa using ht

/-- A NAK acknowledges what comes before its PSN; then its syndrome says what follows (R311). -/
theorem does_cirNak {psn syn : Nat} {u : State} (hc : (s.cs i).conn = true)
    (hu : u = (s.bump rNRE_CNT_RX_PKT).cirAck i (s.cs i).out.length ((psn + 2 ^ 24 - 1) % 2 ^ 24)) :
    Does (.cirNak i psn syn) s (
      if syn / 32 = 1 then u.setCs i { u.cs i with rnr := some psn }
      else if syn = 0x60 then
        (if (u.cs i).tries = 0 then u.cirError i else (u.setCs i { u.cs i with tries := (u.cs i).tries - 1 }).cirResend i psn)
      else u.cirError i) := by
  subst hu
  exact Does.of_eq rfl (if_neg (by simp [hc]))

theorem does_cirAckTimeout {m : CirMsg} {l : List CirMsg} (ho : (s.cs i).out = m :: l) :
    Does (.cirAckTimeout i) s (if (s.cs i).tries = 0 then s.cirError i
      else (s.setCs i { s.cs i with tries := (s.cs i).tries - 1 }).cirResend i m.psn) := by
  refine Does.of_eq rfl ?_
  simp only [ho]

end

/-- Settles O43: each row by its stream's state. -/
theorem circulationEngine : Obligations.CirculationEngine := by
  unfold Obligations.CirculationEngine
  refine ⟨fun s i t ht => ?_,
    fun s u i m t h hl hr ho hroom ht hm hu => (does_cirTileSend h hl hr ho hroom).1 t m u ht hm hu,
    fun s i h hl hr ho hroom ht hlate => (does_cirTileSend h hl hr ho hroom).2 ht hlate,
    fun s i hfull => Does.of_eq rfl (ite_eq_left_iff.mpr fun _ => if_pos hfull), fun s i psn hc => Does.of_eq rfl (if_pos hc),
    fun s i h ho hfull hout hp => does_freedPoll h ho hfull hout hp, fun s i t hp ht => does_freedPoll_early hp ht,
    fun s u v i value m hm hu hv => ?_, fun s i hc ho hout => Does.of_eq rfl (if_neg (by simp [hc, ho, hout])),
    fun s i hl hll => Does.of_eq rfl (if_neg (by simp [hl, hll])), fun s i h hc => Does.of_eq rfl (if_pos ⟨h, hc⟩),
    fun s i hc => Does.of_eq rfl (if_pos hc), fun s i c hc => ?_,
    fun s u i psn syn hc hu => ⟨fun h => ?_, fun h ht => ?_, fun h ht => ?_, fun h h' => ?_⟩, fun s i psn hr => ?_,
    fun s i m l ho ht => ?_, fun s i m l ho ht => ?_, fun s i ho => ?_⟩
  · refine Does.of_eq rfl ?_
    simp only [ht]
  · subst hu hv
    refine Does.of_eq rfl ?_
    simp only [hm]
  · refine Does.of_eq rfl ?_
    simp only [hc]
  · have hd := does_cirNak (syn := syn) hc hu
    rwa [if_pos h] at hd
  · have hd := does_cirNak (syn := syn) hc hu
    rwa [if_neg (by omega), if_pos h, if_neg ht] at hd
  · have hd := does_cirNak (syn := syn) hc hu
    rwa [if_neg (by omega), if_pos h, if_pos ht] at hd
  · have hd := does_cirNak (syn := syn) hc hu
    rwa [if_neg h, if_neg h'] at hd
  · refine Does.of_eq rfl ?_
    simp only [hr]
  · have hd := does_cirAckTimeout ho
    rwa [if_neg ht] at hd
  · have hd := does_cirAckTimeout ho
    rwa [if_pos ht] at hd
  · refine Does.of_eq rfl ?_
    simp only [ho]

end Sys2Proof.Machine
end
